-- ==== Sys2Proof/Word.lean ====
section
/-! DEFINITION. Word.lean: the byte and word types of the block, big-endian conversion of byte strings (R10), and the types of the operands that commands carry. -/

namespace Sys2Proof

/-- One byte of a frame, a message, a record or a buffer. -/
abbrev Byte := BitVec 8

/-- A fabric port, 0 to 31 (R1). -/
abbrev Port := Fin 32

/-- An external fabric port, 0 to 26 (R1). -/
abbrev ExtPort := Fin 27

/-- A traffic class of an egress port, 0 to 7 (R64). -/
abbrev Cls := Fin 8

/-- A quadrant, 0 to 3 (R2). -/
abbrev Quad := Fin 4

/-- A CAN channel: 0-15 are C0-C15, 16-31 are VC0-VC15 (R327). -/
abbrev CanCh := Fin 32

/-- A physical CAN channel C0-C15. -/
abbrev PhysCh := Fin 16

/-- A LIN channel L0-L7. -/
abbrev LinCh := Fin 8

/-- A Selvage link: 0 is S0, 1 is S1. -/
abbrev SelLink := Fin 2

/-- A power domain in the bit order of R368. -/
abbrev Domain := Fin 16

/-- The unsigned value of a byte string, most significant byte first (R10). -/
def beNat (bs : List Byte) : Nat := bs.foldl (fun a b => a * 256 + b.toNat) 0

/-- The low `n` bytes of `v`, most significant byte first (R10). -/
def natBytes : Nat → Nat → List Byte
  | 0, _ => []
  | n + 1, v => BitVec.ofNat 8 (v / 256 ^ n) :: natBytes n v

/-- Byte string from small numbers, for written-out constants. -/
def bytesOf (ns : List Nat) : List Byte := ns.map (BitVec.ofNat 8)

/-- Bits `hi` down to `lo` of a record, as the field maps of the manual number them. -/
def bits {w : Nat} (r : BitVec w) (hi lo : Nat) : Nat := (r.toNat >>> lo) % 2 ^ (hi + 1 - lo)

/-- The three transports of Yelom (R309), numbered as SET_CMD_KEY numbers them (R327). -/
inductive Transport where
  | placket | vlan | mspi
  deriving DecidableEq, Repr

/-- Where a Yelom message came from, which is where its reply goes (R312): a Placket ring pair, a management-VLAN source, or MSPI. -/
inductive Via where
  | ring (pair : Fin 4)
  | vlan (port : Port) (sa da : BitVec 48) (vid : BitVec 12)
  | mspi
  deriving DecidableEq, Repr

/-- A Yelom message of a known class and opcode, as received (R309, R310): header byte 0, TAG, PARAM_LEN, SEQUENCE, STATUS, the reserved half-word, and every byte after the 16-byte header (parameters, then any trailer). CLASS and OPCODE are the command's. -/
structure Msg where
  via : Via
  b0 : Byte
  tag : BitVec 16
  plen : BitVec 16
  seq : BitVec 32
  stat : BitVec 16
  res : BitVec 16
  body : List Byte
  deriving DecidableEq, Repr

/-- How the bytes that a frame step brings leave the frame: it goes on; it ends with a good or a wrong FCS; a PCS error or control character fell inside it; its link or signal was lost (R40, R234). Of 802.3br: it ends good, put together from a first and so many further fragments; a fragment failed reassembly; a frame's preamble was invalid (R234, R242). -/
inductive FrameEnd where
  | more | good | badFcs | pcsError | lost | merged (frags : Nat) | fragError | preamble
  deriving DecidableEq, Repr

/-- The outcome of an ECC-protected read: no error, a corrected single-bit error, an uncorrectable error (R40, R137, R420). -/
inductive Ecc where
  | clean | corrected | uncorrectable
  deriving DecidableEq, Repr

/-- Frame formats of a CAN pseudo-header (R134). -/
inductive CanFormat where
  | classicBase | classicExt | fdBase | fdExt | xl
  deriving DecidableEq, Repr

/-- A CAN message: the fields that the pseudo-header of R134 carries for it, and its data bytes. -/
structure CanMsg where
  format : CanFormat
  rtr : Bool
  brs : Bool
  esi : Bool
  ident : Nat
  dlc : Nat
  sdt : Byte := 0
  vcid : Byte := 0
  sec : Bool := false
  af : BitVec 32 := 0
  data : List Byte
  deriving DecidableEq, Repr

/-- CAN error types (R251). -/
inductive CanErr where
  | bit0 | bit1 | stuff | form | crc | ack
  deriving DecidableEq, Repr

/-- What became of a transmission attempt (R249). -/
inductive TxResult where
  | success | lostArbitration | errorFrame
  deriving DecidableEq, Repr

/-- The consumers of event keys (R123), each with the table position of the key that fires. -/
inductive KeyRef where
  | gate (port : ExtPort) (entry : Nat)
  | mark (out : Fin 8) (key : Nat)
  | slot (ch : CanCh) (slot : Nat)
  | disc (link : SelLink) (entry : Nat)
  deriving DecidableEq, Repr

/-- The masters of a key request (R269). -/
inductive Master where
  | keeper | bodkin | placket
  deriving DecidableEq, Repr

/-- The worlds of a key request (R269). -/
inductive World where
  | trusted | openW
  deriving DecidableEq, Repr

/-- The uses of a key slot (R268). -/
inductive KeyUse where
  | derive | cipher | hmac | wrap
  deriving DecidableEq, Repr

/-- A cryptographic request that the Keeper sends through fabric port 27 (R302). Key 0-63 names a slot, 255 the identity attestation key (HMAC only). -/
inductive CryptoReq where
  | hmac (key : Nat) (outLen : Nat) (msg : List Byte)
  | cmac (slot : Nat) (tagLen : Nat) (msg : List Byte)
  | gcmSeal (slot : Nat) (tagLen : Nat) (aad text : List Byte)
  | gcmOpen (slot : Nat) (tagLen : Nat) (iv aad text tag : List Byte)
  deriving DecidableEq, Repr

/-- The status of a PCI Express completion (R340). -/
inductive CplStatus where
  | ok | ur | ca
  deriving DecidableEq, Repr

/-- A debugger action on the main core (R431). -/
inductive DebugAct where
  | halt | step | resume
  | readReg (r : Nat) | writeReg (r : Nat) (v : BitVec 32)
  | readTcm (a : Nat) | writeTcm (a : Nat) (v : BitVec 32)
  | breakpoint (a : Nat)
  deriving DecidableEq, Repr

/-- The PCI Express link changes that matter to outbound writes (R347). -/
inductive PcieLink where
  | l0 | notL0 | down
  deriving DecidableEq, Repr

/-- A configuration-space write (R340, R346). -/
inductive PcieCfg where
  | busMaster (on : Bool)
  | maxPayload (bytes : Nat)
  | maxReadRequest (bytes : Nat)
  | cplTimeout (ns : Nat)
  deriving DecidableEq, Repr

/-- The two MSI-X-visible BARs of a host access (R338). -/
inductive Bar where
  | bar0 | bar2
  deriving DecidableEq, Repr

/-- A DOZE wake source (R392). -/
inductive DozeWake where
  | frame (port : ExtPort) | canSof (ch : PhysCh) | linBreak (ch : LinCh) | doorbell | mspiSelect
  | wakePin (pin : Fin 2)
  deriving DecidableEq, Repr

/-- The body of a received twin frame of each type (R445): the header's SEQ and GEN travel in the command. -/
structure TwinHdr where
  seq : BitVec 32
  gen : BitVec 32
  deriving DecidableEq, Repr

/-- HELLO body (R445). -/
structure Hello where
  serial : BitVec 64
  fwVersion : BitVec 32
  snapFormat : BitVec 16
  state : Nat
  digest : List Byte
  deriving DecidableEq, Repr

/-- One image record (R483): class, opcode, the wake-first mark and the body. -/
structure ImageRec where
  cls : Nat
  opcode : Nat
  wakeFirst : Bool
  body : List Byte
  deriving DecidableEq, Repr

/-- The status codes of Yelom, in the order of their codes 0x0000 to 0x000B (R314). -/
inductive Status where
  | ok | busy | lenRange | badOpcode | denied | staleEpoch | keyStale | pnExhausted | notInState | timeout | internal | aborted
  deriving DecidableEq, Repr

/-- The code of a status (R314). -/
def Status.code (x : Status) : Nat := x.ctorIdx

end Sys2Proof
end

