-- ==== Sys2Proof/Syntax.lean ====
section
/-! DEFINITION. Syntax.lean: the commands of the block, one constructor per row of spec/opcode_table.json, in the table's order. A Yelom row carries the message as received (R309, R310); a row defined by the passing of time carries `at_`, the count of elapsed BCN cycles (2 ns each) at which it occurs (log entry 2). -/

namespace Sys2Proof

/-- The commands. Each constructor is one row of the opcode table; its docstring names the rule the table gives for it. -/
inductive Instr where
  /-- DEVICE_INFO (R4) -/
  | deviceInfo (m : Msg)
  /-- SEQ_FLOOR (R317) -/
  | seqFloor (m : Msg)
  /-- SET_CMD_KEY (R316) -/
  | setCmdKey (m : Msg)
  /-- SET_LIMITS (R323) -/
  | setLimits (m : Msg)
  /-- EVENT_SUBSCRIBE (R326) -/
  | eventSubscribe (m : Msg)
  /-- CONFIG_SAVE (R485) -/
  | configSave (m : Msg)
  /-- RESET (R331) -/
  | reset (m : Msg)
  /-- ECHO (R327) -/
  | echo (m : Msg)
  /-- PORT_SET (R228) -/
  | portSet (m : Msg)
  /-- PORT_GET (R228) -/
  | portGet (m : Msg)
  /-- PORT_STATUS (R330) -/
  | portStatus (m : Msg)
  /-- LLDP_SET (R238) -/
  | lldpSet (m : Msg)
  /-- PARTNER_ZONES (R240) -/
  | partnerZones (m : Msg)
  /-- FASTLINK_CLEAR (R232) -/
  | fastlinkClear (m : Msg)
  /-- QUEUE_SET (R65) -/
  | queueSet (m : Msg)
  /-- BUFFER_SET (R47) -/
  | bufferSet (m : Msg)
  /-- QUEUE_STATUS (R327) -/
  | queueStatus (m : Msg)
  /-- BOLT_STATUS (R327) -/
  | boltStatus (m : Msg)
  /-- GCL_WRITE (R73) -/
  | gclWrite (m : Msg)
  /-- GCL_PARAMS (R73) -/
  | gclParams (m : Msg)
  /-- GCL_COMMIT (R77) -/
  | gclCommit (m : Msg)
  /-- GCL_CANCEL (R80) -/
  | gclCancel (m : Msg)
  /-- GCL_READ (R327) -/
  | gclRead (m : Msg)
  /-- GCL_STATUS (R330) -/
  | gclStatus (m : Msg)
  /-- SGATE_WRITE (R91) -/
  | sgateWrite (m : Msg)
  /-- SGATE_COMMIT (R91) -/
  | sgateCommit (m : Msg)
  /-- SGATE_CANCEL (R80) -/
  | sgateCancel (m : Msg)
  /-- SGATE_UNLOCK (R91) -/
  | sgateUnlock (m : Msg)
  /-- TIME_GET (R107) -/
  | timeGet (m : Msg)
  /-- SET_TIME (R109) -/
  | setTime (m : Msg)
  /-- GM_SET_TIME (R109) -/
  | gmSetTime (m : Msg)
  /-- ACCEPT_STEP (R109) -/
  | acceptStep (m : Msg)
  /-- SERVO_SET (R108) -/
  | servoSet (m : Msg)
  /-- GPTP_SET (R105) -/
  | gptpSet (m : Msg)
  /-- RATE_SET (R100) -/
  | rateSet (m : Msg)
  /-- DOMAIN_CONVERT (R106) -/
  | domainConvert (m : Msg)
  /-- PORT_TRIM (R103) -/
  | portTrim (m : Msg)
  /-- STB_CONFIG (R111) -/
  | stbConfig (m : Msg)
  /-- STB_READ (R114) -/
  | stbRead (m : Msg)
  /-- STB_SAMPLE (R117) -/
  | stbSample (m : Msg)
  /-- STB_DIR (R116) -/
  | stbDir (m : Msg)
  /-- MARK_SET (R127) -/
  | markSet (m : Msg)
  /-- NODE_LOAD (R142) -/
  | nodeLoad (m : Msg)
  /-- ROOT_SET (R138) -/
  | rootSet (m : Msg)
  /-- ZONE_MAP_SET (R161) -/
  | zoneMapSet (m : Msg)
  /-- MATRIX_SET (R163) -/
  | matrixSet (m : Msg)
  /-- GROUP_SET (R158) -/
  | groupSet (m : Msg)
  /-- EPOCH_SWAP (R328) -/
  | epochSwap (m : Msg)
  /-- EPOCH_DISCARD (R328) -/
  | epochDiscard (m : Msg)
  /-- EPOCH_STATUS (R327) -/
  | epochStatus (m : Msg)
  /-- PAT_OPTIONS (R159) -/
  | patOptions (m : Msg)
  /-- SF_SET (R88) -/
  | sfSet (m : Msg)
  /-- SF_UNBLOCK (R90) -/
  | sfUnblock (m : Msg)
  /-- POLICER_SET (R92) -/
  | policerSet (m : Msg)
  /-- POLICER_UNLATCH (R93) -/
  | policerUnlatch (m : Msg)
  /-- FRER_GEN_SET (R95) -/
  | frerGenSet (m : Msg)
  /-- FRER_REC_SET (R96) -/
  | frerRecSet (m : Msg)
  /-- CAN_SET (R245) -/
  | canSet (m : Msg)
  /-- LIN_SET (R257) -/
  | linSet (m : Msg)
  /-- ROUTE_WRITE (R170) -/
  | routeWrite (m : Msg)
  /-- CONTAINER_SET (R178) -/
  | containerSet (m : Msg)
  /-- LIN_FRAMES (R183) -/
  | linFrames (m : Msg)
  /-- LIN_SCHEDULE (R184) -/
  | linSchedule (m : Msg)
  /-- LIN_SELECT (R184) -/
  | linSelect (m : Msg)
  /-- SLOT_TABLE (R176) -/
  | slotTable (m : Msg)
  /-- BUS_RECOVER (R250) -/
  | busRecover (m : Msg)
  /-- RATE_CAND (R252) -/
  | rateCand (m : Msg)
  /-- ISO_INSTANCE (R186) -/
  | isoInstance (m : Msg)
  /-- CHANNEL_STATUS (R330) -/
  | channelStatus (m : Msg)
  /-- LINK_SET (R214) -/
  | linkSet (m : Msg)
  /-- LINK_STATUS (R330) -/
  | linkStatus (m : Msg)
  /-- LINK_REDETECT (R215) -/
  | linkRedetect (m : Msg)
  /-- UNHITCH (R223) -/
  | unhitch (m : Msg)
  /-- DISC_CONFIG (R205) -/
  | discConfig (m : Msg)
  /-- DISC_WRITE (R206) -/
  | discWrite (m : Msg)
  /-- DISC_TABLE (R206) -/
  | discTable (m : Msg)
  /-- DCCB_SEND (R209) -/
  | dccbSend (m : Msg)
  /-- DCCB_RECV (R209) -/
  | dccbRecv (m : Msg)
  /-- ZONE_TABLE (R222) -/
  | zoneTable (m : Msg)
  /-- TT_READ (R211) -/
  | ttRead (m : Msg)
  /-- IMPORT (R270) -/
  | importKey (m : Msg)
  /-- GENERATE (R271) -/
  | generate (m : Msg)
  /-- DERIVE (R271) -/
  | derive (m : Msg)
  /-- DESTROY (R274) -/
  | destroy (m : Msg)
  /-- READ_ATTR (R268) -/
  | readAttr (m : Msg)
  /-- LC_CHALLENGE (R279) -/
  | lcChallenge (m : Msg)
  /-- LC_TRANSITION (R280) -/
  | lcTransition (m : Msg)
  /-- ATTEST (R281) -/
  | attest (m : Msg)
  /-- LC_STATUS (R277) -/
  | lcStatus (m : Msg)
  /-- CTX_WRITE (R291) -/
  | ctxWrite (m : Msg)
  /-- CTX_READ (R290) -/
  | ctxRead (m : Msg)
  /-- SA_WRITE (R295) -/
  | saWrite (m : Msg)
  /-- SA_READ (R295) -/
  | saRead (m : Msg)
  /-- STAGE (R329) -/
  | stage (m : Msg)
  /-- STAGE_CLEAR (R329) -/
  | stageClear (m : Msg)
  /-- STAGE_READ (R329) -/
  | stageRead (m : Msg)
  /-- HMAC (R302) -/
  | hmac (m : Msg)
  /-- CMAC (R302) -/
  | cmac (m : Msg)
  /-- GCM_SEAL (R305) -/
  | gcmSeal (m : Msg)
  /-- GCM_OPEN (R302) -/
  | gcmOpen (m : Msg)
  /-- MODE_SET (R303) -/
  | modeSet (m : Msg)
  /-- KAT_RUN (R303) -/
  | katRun (m : Msg)
  /-- POWER_REQ (R390) -/
  | powerReq (m : Msg)
  /-- POWER_STATUS (R330) -/
  | powerStatus (m : Msg)
  /-- NM_SET (R393) -/
  | nmSet (m : Msg)
  /-- NM_REQUEST (R395) -/
  | nmRequest (m : Msg)
  /-- WAKE_SET (R254) -/
  | wakeSet (m : Msg)
  /-- WAKE_CAUSE (R256) -/
  | wakeCause (m : Msg)
  /-- LAMP_STATUS (R421) -/
  | lampStatus (m : Msg)
  /-- SAFE_RELEASE (R419) -/
  | safeRelease (m : Msg)
  /-- SAFE_OPEN_SET (R416) -/
  | safeOpenSet (m : Msg)
  /-- FAULT_INJECT (R422) -/
  | faultInject (m : Msg)
  /-- DEBUG_CHALLENGE (R462) -/
  | debugChallenge (m : Msg)
  /-- DEBUG_UNLOCK (R463) -/
  | debugUnlock (m : Msg)
  /-- TWIN_SET (R435) -/
  | twinSet (m : Msg)
  /-- TWIN_STATUS (R330) -/
  | twinStatus (m : Msg)
  /-- RELINQUISH (R451) -/
  | relinquish (m : Msg)
  /-- FW_WRITE (R478) -/
  | fwWrite (m : Msg)
  /-- FW_VERIFY (R479) -/
  | fwVerify (m : Msg)
  /-- FW_SWITCH (R333) -/
  | fwSwitch (m : Msg)
  /-- FW_STATUS (R330) -/
  | fwStatus (m : Msg)
  /-- COUNTER_CATALOG (R330) -/
  | counterCatalog (m : Msg)
  /-- COUNTER_READ (R327) -/
  | counterRead (m : Msg)
  /-- STATUS_READ (R330) -/
  | statusRead (m : Msg)
  /-- DESC_READ (R327) -/
  | descRead (m : Msg)
  /-- MC_LINK_READ (R327) -/
  | mcLinkRead (m : Msg)
  /-- KEY_TRACE (R327) -/
  | keyTrace (m : Msg)
  /-- EVENT_LOG_READ (R326) -/
  | eventLogRead (m : Msg)
  /-- EVENT_CATALOG (R330) -/
  | eventCatalog (m : Msg)
  /-- MSPI_WRITE (R320) -/
  | mspiWrite (bytes : List Byte)
  /-- MSPI_STATUS (R320) -/
  | mspiStatus
  /-- MSPI_READ (R320) -/
  | mspiRead
  /-- EXTEST (R465) -/
  | extest
  /-- IDCODE (R464) -/
  | idcode
  /-- SAMPLE_PRELOAD (R464) -/
  | samplePreload
  /-- CLAMP (R465) -/
  | clamp
  /-- HIGHZ (R465) -/
  | highz
  /-- DBG_STATUS (R466) -/
  | dbgStatus
  /-- DBG_LOCK (R461) -/
  | dbgLock
  /-- DBG_ACCESS (R431) -/
  | dbgAccess
  /-- FACTORY (R464) -/
  | factory (code : Fin 16)
  /-- BYPASS (R464) -/
  | bypass (code : Byte)
  /-- DEBUG_ACTION (R431) -/
  | debugAction (act : DebugAct)
  /-- TEST_LOGIC_RESET (R475) -/
  | testLogicReset
  /-- PLK_POLL_PERIOD_WRITE (R366) -/
  | plkPollPeriodWrite (v : BitVec 32)
  /-- PLK_INT_CAUSE_CLEAR (R367) -/
  | plkIntCauseClear (v : BitVec 32)
  /-- PLK_INT_ENABLE_WRITE (R367) -/
  | plkIntEnableWrite (v : BitVec 32)
  /-- PWR_DOMAIN_STOPPED_CLEAR (R368) -/
  | pwrDomainStoppedClear (v : BitVec 32)
  /-- PLK_MB_CMD_PROD (R350) -/
  | plkMbCmdProd (pair : Fin 4) (v : BitVec 32)
  /-- PLK_MB_CPL_CONS (R350) -/
  | plkMbCplCons (pair : Fin 4) (v : BitVec 32)
  /-- PLK_ERRLOG_READ (R370) -/
  | plkErrlogRead (v : BitVec 32)
  /-- PLK_ERRLOG_OVERFLOW (R348) -/
  | plkErrlogOverflow
  /-- WINDOW_STAGE_WRITE (R372) -/
  | windowStageWrite (win : Fin 16) (word : Fin 3) (v : BitVec 32)
  /-- WINDOW_COMMIT (R372) -/
  | windowCommit (win : Fin 16) (v : BitVec 32)
  /-- WINDOW_DISABLE (R372) -/
  | windowDisable (win : Fin 16) (v : BitVec 32)
  /-- RING_RUN (R373) -/
  | ringRun (ring : Fin 16) (v : BitVec 32)
  /-- RING_STOP (R354) -/
  | ringStop (ring : Fin 16) (v : BitVec 32)
  /-- RING_SIZE_SET (R373) -/
  | ringSizeSet (ring : Fin 16) (v : BitVec 32)
  /-- PLK_RING_PROD (R373) -/
  | plkRingProd (ring : Fin 16) (v : BitVec 32)
  /-- HOST_REGISTER_WRITE (R346) -/
  | hostRegisterWrite (bar : Bar) (offset : Nat) (bytes : List (Byte × Bool))
  /-- FRAME_RECEIVE (R102) -/
  | frameReceive (port : Port) (bytes : List Byte) (fin : FrameEnd)
  /-- LOOKUP_COMPLETE (R141) -/
  | lookupComplete (port : Port) (late : Bool) (ecc : Ecc)
  /-- ADMISSION (R49) -/
  | admission (port : Port)
  /-- SHUTTLE_SLOT (R34) -/
  | shuttleSlot
  /-- TREADLE_ROTATION (R53) -/
  | treadleRotation
  /-- COMPETING_TIMEOUT (R52) -/
  | competingTimeout (port : Port) (cls : Cls) (ingress : Port)
  /-- EGRESS_SELECT (R67) -/
  | egressSelect (port : Port)
  /-- CELL_READ (R42) -/
  | cellRead (port : Port) (ecc : Ecc)
  /-- FRAME_TRANSMIT_END (R69) -/
  | frameTransmitEnd (port : Port)
  /-- PREEMPTION (R72) -/
  | preemption (port : ExtPort)
  /-- PREEMPT_VERIFY (R71) -/
  | preemptVerify (port : ExtPort) (addFrag : Fin 4)
  /-- FRAME_AGED (R56) -/
  | frameAged (at_ : Nat) (port : Port) (cls : Cls)
  /-- QUADRANT_DRAINED (R58) -/
  | quadrantDrained (quad : Quad)
  /-- BANK_CLEAR_DONE (R59) -/
  | bankClearDone (quad : Quad)
  /-- GATE_ENTRY_START (R74) -/
  | gateEntryStart (at_ : Nat) (port : ExtPort)
  /-- GATE_CYCLE_START (R74) -/
  | gateCycleStart (at_ : Nat) (port : ExtPort)
  /-- GCL_CT_REACHED (R79) -/
  | gclCtReached (at_ : Nat) (port : ExtPort)
  /-- STITCH_OVERRIDE_END (R76) -/
  | stitchOverrideEnd (at_ : Nat) (port : ExtPort)
  /-- SGATE_ENTRY_START (R91) -/
  | sgateEntryStart (at_ : Nat) (gate : Fin 256)
  /-- FRER_RESET_TIMEOUT (R96) -/
  | frerResetTimeout (at_ : Nat) (fn : Fin 2048)
  /-- FRER_LATENT_TEST (R97) -/
  | frerLatentTest (at_ : Nat) (fn : Fin 2048)
  /-- FRER_LATENT_RESET (R97) -/
  | frerLatentReset (at_ : Nat) (fn : Fin 2048)
  /-- GPTP_SYNC_RECEIVED (R108) -/
  | gptpSyncReceived (inst : Fin 2) (gm : BitVec 64) (offset : Int) (rateRatio : Int)
  /-- SYNC_RECEIPT_TIMEOUT (R107) -/
  | syncReceiptTimeout (at_ : Nat) (inst : Fin 2)
  /-- STITCH_EDGE (R112) -/
  | stitchEdge (at_ : Nat) (base : Fin 4) (a b : Bool) (heldNs : Nat)
  /-- STANDSTILL_TIMEOUT (R115) -/
  | standstillTimeout (at_ : Nat) (base : Fin 4)
  /-- KEY_FIRE (R118) -/
  | keyFire (at_ : Nat) (key : KeyRef)
  /-- MARK_PULSE_END (R127) -/
  | markPulseEnd (at_ : Nat) (out : Fin 8)
  /-- EPOCH_FREE (R147) -/
  | epochFree
  /-- ZONE_SWAP_RETRY (R162) -/
  | zoneSwapRetry (at_ : Nat)
  /-- FRAG_RESOLVED_EXPIRY (R153) -/
  | fragResolvedExpiry (at_ : Nat) (entry : Nat)
  /-- FRAG_EARLY_EXPIRY (R154) -/
  | fragEarlyExpiry (at_ : Nat) (entry : Nat)
  /-- GATEWAY_DELIVER (R171) -/
  | gatewayDeliver
  /-- CONTAINER_FLUSH (R178) -/
  | containerFlush (at_ : Nat) (container : Fin 256)
  /-- CAN_TX_TIMEOUT (R175) -/
  | canTxTimeout (at_ : Nat) (ch : CanCh)
  /-- CAN_FRAME_RX (R248) -/
  | canFrameRx (ch : PhysCh) (ago : Nat) (msg : CanMsg)
  /-- CAN_BUS_IDLE (R249) -/
  | canBusIdle (ch : PhysCh)
  /-- CAN_TX_COMPLETE (R249) -/
  | canTxComplete (ch : PhysCh) (result : TxResult)
  /-- CAN_ERROR_DETECTED (R251) -/
  | canErrorDetected (ch : PhysCh) (err : CanErr) (dataPhase transmitter : Bool)
  /-- BUS_OFF_RECOVERY_DONE (R250) -/
  | busOffRecoveryDone (ch : PhysCh)
  /-- BUS_INTEGRATION_DONE (R245) -/
  | busIntegrationDone (ch : PhysCh)
  /-- TRANSCEIVER_WAKE_WAIT (R247) -/
  | transceiverWakeWait (at_ : Nat) (ch : PhysCh)
  /-- RATE_DWELL_EXPIRY (R253) -/
  | rateDwellExpiry (at_ : Nat) (ch : PhysCh)
  /-- LIN_SCHEDULE_SLOT (R258) -/
  | linScheduleSlot (at_ : Nat) (ch : LinCh)
  /-- LIN_HEADER_RX (R259) -/
  | linHeaderRx (ch : LinCh) (bitrate : Nat) (pid : Byte) (readbackFail : Bool)
  /-- LIN_RESPONSE_RX (R183) -/
  | linResponseRx (ch : LinCh) (data : List Byte) (checksum : Byte) (badStop : Bool)
  /-- LIN_RESPONSE_TIMEOUT (R258) -/
  | linResponseTimeout (at_ : Nat) (ch : LinCh) (got : Nat)
  /-- ADDRESS_CLAIM_RX (R188) -/
  | addressClaimRx (ch : CanCh) (msg : CanMsg)
  /-- ISO_NETWORK_MESSAGE (R186) -/
  | isoNetworkMessage (ch : CanCh) (msg : CanMsg)
  /-- SEL_SUPERFRAME_TX (R195) -/
  | selSuperframeTx (link : SelLink)
  /-- SEL_SIGHTING (R196) -/
  | selSighting (link : SelLink) (pos : Nat) (hdr : List Byte)
  /-- SEL_CANDIDATE_CHECK (R197) -/
  | selCandidateCheck (link : SelLink) (pos : Nat) (hdr : List Byte)
  /-- SEL_HEADER_RX (R198) -/
  | selHeaderRx (link : SelLink) (hdr : List Byte)
  /-- SEL_BLOCK_LOCK_LOSS (R198) -/
  | selBlockLockLoss (link : SelLink)
  /-- SEL_THREAD_BLOCK_RX (R200) -/
  | selThreadBlockRx (link : SelLink) (thread : Fin 9) (block : List Byte)
  /-- SEL_THREAD_IDLE (R203) -/
  | selThreadIdle (link : SelLink) (thread : Fin 9)
  /-- SEL_DISC_BLOCK_RX (R205) -/
  | selDiscBlockRx (link : SelLink) (block : List Byte)
  /-- SDCC_BURST (R210) -/
  | sdccBurst (link : SelLink) (dccB : Bool) (dataIn : Byte) (validIn : Bool)
  /-- SEL_LOS_SET (R213) -/
  | selLosSet (at_ : Nat) (link : SelLink)
  /-- SEL_LOS_CLEAR (R213) -/
  | selLosClear (at_ : Nat) (link : SelLink)
  /-- SEL_PLUG_IN (R215) -/
  | selPlugIn (at_ : Nat) (link : SelLink)
  /-- SEL_RATE_DWELL_END (R215) -/
  | selRateDwellEnd (at_ : Nat) (link : SelLink)
  /-- SEL_QUALIFY_END (R216) -/
  | selQualifyEnd (at_ : Nat) (link : SelLink) (badSync : Nat)
  /-- SEL_QUAL_RDI_END (R212) -/
  | selQualRdiEnd (at_ : Nat) (link : SelLink)
  /-- SEL_IDENT_RX (R219) -/
  | selIdentRx (link : SelLink) (body : List Byte)
  /-- SEL_IDENT_ACK_RX (R219) -/
  | selIdentAckRx (link : SelLink)
  /-- SEL_IDENT_RESEND (R219) -/
  | selIdentResend (at_ : Nat) (link : SelLink)
  /-- SEL_IDENT_TIMEOUT (R219) -/
  | selIdentTimeout (at_ : Nat) (link : SelLink)
  /-- SEL_MAP_SET_RX (R220) -/
  | selMapSetRx (link : SelLink) (body : List Byte)
  /-- SEL_MAP_ACK_RX (R220) -/
  | selMapAckRx (link : SelLink) (body : List Byte)
  /-- SEL_MAP_SET_RESEND (R220) -/
  | selMapSetResend (at_ : Nat) (link : SelLink)
  /-- SEL_SFN_SWITCH (R220) -/
  | selSfnSwitch (link : SelLink)
  /-- SEL_MAP_REVERT (R220) -/
  | selMapRevert (link : SelLink)
  /-- SEL_MAP_TIMEOUT (R220) -/
  | selMapTimeout (at_ : Nat) (link : SelLink)
  /-- SEL_UNHITCH_RX (R223) -/
  | selUnhitchRx (link : SelLink)
  /-- SEL_UNPLUG_TIMEOUT (R223) -/
  | selUnplugTimeout (at_ : Nat) (link : SelLink)
  /-- LINK_UP (R237) -/
  | linkUp (port : ExtPort) (mode : Fin 8) (role : Fin 4) (fast : Bool)
  /-- LINK_DOWN (R237) -/
  | linkDown (port : ExtPort)
  /-- TRAINING_FAIL (R230) -/
  | trainingFail (port : ExtPort)
  /-- PHY_POWER_GOOD (R233) -/
  | phyPowerGood (port : ExtPort)
  /-- FASTLINK_FALLBACK (R233) -/
  | fastlinkFallback (at_ : Nat) (port : ExtPort)
  /-- LLDP_RX (R238) -/
  | lldpRx (port : ExtPort) (pdu : List Byte)
  /-- LLDP_TX (R238) -/
  | lldpTx (at_ : Nat) (port : ExtPort)
  /-- LLDP_TTL_EXPIRY (R239) -/
  | lldpTtlExpiry (at_ : Nat) (port : ExtPort)
  /-- LLDP_WAIT_EXPIRY (R239) -/
  | lldpWaitExpiry (at_ : Nat) (port : ExtPort)
  /-- ABSENT_HOLD_EXPIRY (R239) -/
  | absentHoldExpiry (at_ : Nat) (port : ExtPort)
  /-- KEY_FETCH (R266) -/
  | keyFetch (slot : Fin 64) (gen : BitVec 32) (master : Master) (world : World) (use : KeyUse)
  /-- RNG_HEALTH_FAIL (R267) -/
  | rngHealthFail
  /-- LC_NONCE_EXPIRY (R279) -/
  | lcNonceExpiry (at_ : Nat)
  /-- DEBUG_NONCE_EXPIRY (R462) -/
  | debugNonceExpiry (at_ : Nat)
  /-- BODKIN_PIPELINE_ENTER (R286) -/
  | bodkinPipelineEnter
  /-- BODKIN_PIPELINE_EXIT (R287) -/
  | bodkinPipelineExit (pipe : Fin 4)
  /-- KEEPER_CRYPTO_REQUEST (R302) -/
  | keeperCryptoRequest (req : CryptoReq)
  /-- CMD_LOCKOUT_END (R318) -/
  | cmdLockoutEnd (at_ : Nat) (tr : Transport)
  /-- MUTATOR_TIMEOUT (R324) -/
  | mutatorTimeout (at_ : Nat)
  /-- REPLY_WRITE (R351) -/
  | replyWrite (pair : Fin 4)
  /-- PLACKET_POLL (R356) -/
  | placketPoll (at_ : Nat)
  /-- DMA_TX_DESCRIPTOR (R354) -/
  | dmaTxDescriptor (ring : Fin 8)
  /-- DMA_RX_DESCRIPTOR (R354) -/
  | dmaRxDescriptor (ring : Fin 8)
  /-- PCIE_COMPLETION (R340) -/
  | pcieCompletion (tag : Nat) (status : CplStatus) (data : List Byte)
  /-- CPL_TIMEOUT (R340) -/
  | cplTimeout (at_ : Nat) (tag : Nat)
  /-- FC_STALL (R347) -/
  | fcStall (at_ : Nat) (ring : Fin 16)
  /-- PLL_LOCK (R377) -/
  | pllLock (dom : Domain)
  /-- CLOCK_FAULT (R378) -/
  | clockFault (clock : Fin 8)
  /-- REF32_TIMEOUT (R378) -/
  | ref32Timeout (at_ : Nat)
  /-- INITIATOR_TIMEOUT (R384) -/
  | initiatorTimeout (at_ : Nat) (placket : Bool) (dom : Domain)
  /-- RESYNC_COMPLETE (R386) -/
  | resyncComplete (dom : Domain) (discarded lostPulses : Nat)
  /-- DOMAIN_SWITCHED (R391) -/
  | domainSwitched (dom : Domain)
  /-- DOZE_WAKE (R392) -/
  | dozeWake (source : DozeWake)
  /-- NM_SLEEP_WAIT_EXPIRY (R398) -/
  | nmSleepWaitExpiry (at_ : Nat) (net : Fin 16)
  /-- NM_FALSE_WAKE_EXPIRY (R398) -/
  | nmFalseWakeExpiry (at_ : Nat) (net : Fin 16)
  /-- NM_KA_POLL (R395) -/
  | nmKaPoll (at_ : Nat)
  /-- NM_KEEPALIVE_TX (R395) -/
  | nmKeepaliveTx (at_ : Nat) (net : Fin 16)
  /-- NM_KEEP_ALIVE_RX (R396) -/
  | nmKeepAliveRx (ch : CanCh) (msg : CanMsg)
  /-- NM_READY_TO_SLEEP_RX (R396) -/
  | nmReadyToSleepRx (ch : CanCh) (msg : CanMsg)
  /-- NM_CONSENT_RX (R399) -/
  | nmConsentRx (ch : CanCh) (msg : CanMsg)
  /-- NM_REFUSE_RX (R399) -/
  | nmRefuseRx (ch : CanCh) (msg : CanMsg)
  /-- TC10_SLEEP_ACK (R399) -/
  | tc10SleepAck (port : ExtPort)
  /-- NM_CONSENT_TIMEOUT (R399) -/
  | nmConsentTimeout (at_ : Nat) (net : Fin 16)
  /-- TC10_WAKE_RX (R407) -/
  | tc10WakeRx (port : ExtPort)
  /-- WAKE_PIN (R404) -/
  | wakePin (pin : Fin 2)
  /-- SELECTIVE_WAKE_FRAME (R255) -/
  | selectiveWakeFrame (ch : PhysCh) (msg : CanMsg) (error : Bool)
  /-- WUP_PATTERN (R255) -/
  | wupPattern (ch : PhysCh)
  /-- STANDBY_RXD_WAKE (R255) -/
  | standbyRxdWake (ch : PhysCh)
  /-- LIN_DEEP_WAKE (R260) -/
  | linDeepWake (ch : LinCh)
  /-- TC10_DEEP_WAKE (R404) -/
  | tc10DeepWake (port : ExtPort)
  /-- WAKE_OSC_STOP (R254) -/
  | wakeOscStop (at_ : Nat)
  /-- DEEP_WAKE_SEQUENCE (R405) -/
  | deepWakeSequence (at_ : Nat)
  /-- LOCKSTEP_MISMATCH (R423) -/
  | lockstepMismatch
  /-- COMPARATOR_FAULT (R425) -/
  | comparatorFault
  /-- DELAY_PARITY_ERROR (R426) -/
  | delayParityError
  /-- INPUT_DISAGREEMENT (R424) -/
  | inputDisagreement
  /-- TCM_ECC_ERROR (R420) -/
  | tcmEccError (double : Bool)
  /-- MEMORY_SCRUB (R420) -/
  | memoryScrub (at_ : Nat) (tcm tables : Ecc)
  /-- TABLE_ECC_ERROR (R420) -/
  | tableEccError
  /-- WATCHDOG_SERVICE (R429) -/
  | watchdogService (management : Bool)
  /-- WATCHDOG_EXPIRY (R429) -/
  | watchdogExpiry (at_ : Nat)
  /-- RAIL_FAULT (R420) -/
  | railFault (dom : Domain)
  /-- TEMPERATURE_THRESHOLD (R420) -/
  | temperatureThreshold (sensor : Fin 4) (celsius : Int)
  /-- GATE_OUTPUT_MISMATCH (R420) -/
  | gateOutputMismatch (port : ExtPort)
  /-- TIME_COPY_MISMATCH (R420) -/
  | timeCopyMismatch
  /-- GATE_TOKEN_TIMEOUT (R430) -/
  | gateTokenTimeout
  /-- LAMP_HEARTBEAT_MISSING (R430) -/
  | lampHeartbeatMissing (at_ : Nat)
  /-- FAULT_N_READBACK_FAIL (R420) -/
  | faultNReadbackFail
  /-- KEEPER_SELF_TEST_DONE (R428) -/
  | keeperSelfTestDone (pass : Bool)
  /-- TWIN_HELLO_TX (R445) -/
  | twinHelloTx (at_ : Nat)
  /-- TWIN_HELLO_RX (R441) -/
  | twinHelloRx (hdr : TwinHdr) (body : Hello)
  /-- TWIN_WAIT_TIMEOUT (R441) -/
  | twinWaitTimeout (at_ : Nat)
  /-- TWIN_HB_TOGGLE (R439) -/
  | twinHbToggle (at_ : Nat)
  /-- TWIN_HB_LOSS (R439) -/
  | twinHbLoss (at_ : Nat)
  /-- TWIN_SILENCE_TIMEOUT (R453) -/
  | twinSilenceTimeout (at_ : Nat)
  /-- TWIN_SUPERVISOR_READY (R454) -/
  | twinSupervisorReady (at_ : Nat)
  /-- TWIN_FULL_PART_RX (R450) -/
  | twinFullPartRx (hdr : TwinHdr) (part parts : Nat) (recs : List ImageRec)
  /-- TWIN_DELTA_RX (R450) -/
  | twinDeltaRx (hdr : TwinHdr) (part parts : Nat) (recs : List ImageRec)
  /-- TWIN_ACK_RX (R449) -/
  | twinAckRx (hdr : TwinHdr)
  /-- TWIN_ACK_TIMEOUT (R449) -/
  | twinAckTimeout (at_ : Nat)
  /-- TWIN_DELTA_TX (R449) -/
  | twinDeltaTx (at_ : Nat)
  /-- TWIN_FULL_SNAPSHOT_TX (R449) -/
  | twinFullSnapshotTx (at_ : Nat)
  /-- TWIN_RELAY_UP_RX (R445) -/
  | twinRelayUpRx (hdr : TwinHdr) (kind inst : Nat) (msg : List Byte)
  /-- TWIN_RELAY_DOWN_RX (R445) -/
  | twinRelayDownRx (hdr : TwinHdr) (kind inst : Nat) (msg : List Byte)
  /-- TWIN_RELINQUISH_RX (R453) -/
  | twinRelinquishRx (hdr : TwinHdr)
  /-- TWIN_TAKEBACK_REQ_RX (R455) -/
  | twinTakebackReqRx (hdr : TwinHdr)
  /-- TWIN_TAKEBACK_GRANT_RX (R455) -/
  | twinTakebackGrantRx (hdr : TwinHdr)
  /-- TWIN_LEAVE_RX (R435) -/
  | twinLeaveRx (hdr : TwinHdr)
  /-- TWIN_LIGHTS_OUT_RX (R410) -/
  | twinLightsOutRx (hdr : TwinHdr) (target : Nat)
  /-- TWIN_STATUS_RX (R443) -/
  | twinStatusRx (hdr : TwinHdr) (body : List Byte)
  /-- TWIN_HOLD_OFF_EXPIRY (R455) -/
  | twinHoldOffExpiry (at_ : Nat)
  /-- TWIN_GRANT_TIMEOUT (R455) -/
  | twinGrantTimeout (at_ : Nat)
  /-- TWIN_DEFERRED_APPLY (R450) -/
  | twinDeferredApply (at_ : Nat)
  /-- TWIN_EPOCH_SWAP_RETRY (R450) -/
  | twinEpochSwapRetry (at_ : Nat)
  /-- POWER_ON_RESET (R475) -/
  | powerOnReset (mspiStrap : Bool)
  /-- RST_N_RESET (R475) -/
  | rstNReset (heldNs : Nat) (mspiStrap : Bool)
  /-- MODULE_RESET (R331) -/
  | moduleReset (at_ : Nat)
  /-- KEEPER_RESET (R428) -/
  | keeperReset (at_ : Nat)
  /-- PCIE_FUNDAMENTAL_RESET (R360) -/
  | pcieFundamentalReset
  /-- FUNCTION_LEVEL_RESET (R360) -/
  | functionLevelReset
  /-- CONFIG_LOAD_COMPLETE (R481) -/
  | configLoadComplete (at_ : Nat)
  /-- FW_SWITCH_RESUME (R333) -/
  | fwSwitchResume (at_ : Nat)
  /-- VIN_BROWNOUT (R495) -/
  | vinBrownout
  /-- VIN_CRANK (R494) -/
  | vinCrank (at_ : Nat)
  /-- VIN_CRANK_TIMEOUT (R494) -/
  | vinCrankTimeout (at_ : Nat)
  /-- VIN_OVERVOLT (R508) -/
  | vinOvervolt
  /-- SEL_BLOCK_LOCK_ACQUIRED (R198) -/
  | selBlockLockAcquired (link : SelLink)
  /-- PCIE_LINK_STATE_CHANGE (R347) -/
  | pcieLinkStateChange (state : PcieLink)
  /-- PCIE_CONFIG_WRITE (R340) -/
  | pcieConfigWrite (cfg : PcieCfg)
  /-- GRANDMASTER_SELECTION (R107) -/
  | grandmasterSelection (isSelf : Bool) (gm : BitVec 64)
  /-- MKA_PDU_RX (R292) -/
  | mkaPduRx (port : ExtPort) (sak : Option Msg) (saWrites : List Msg)
  /-- LIN_WAKE_RX (R407) -/
  | linWakeRx (ch : LinCh)
  /-- WAKE_PIN_RELEASE (R395) -/
  | wakePinRelease (pin : Fin 2)
  /-- VIN_ABOVE_START_THRESHOLD (R496) -/
  | vinAboveStartThreshold (at_ : Nat)
  /-- LAMP_SELF_CHECK_FAULT (R430) -/
  | lampSelfCheckFault
  deriving DecidableEq, Repr

end Sys2Proof
end

