-- ==== Sys2Proof/Machine/Crypto.lean ====
section
/-! DEFINITION. Machine/Crypto.lean: the standard functions that the manual names and does not print: SHA-256 (FIPS 180-4), HMAC (FIPS 198-1), AES (FIPS 197), CMAC (SP 800-38B), GCM (SP 800-38D) and the counter-mode KDF (SP 800-108). PRESUMED: taken from those standards (log entry 3). All words are natural numbers, so that they can be evaluated. -/

namespace Sys2Proof.Machine

/-- Reduction to 32 bits. -/
def w32 (x : Nat) : Nat := x % 4294967296

/-- Rotation of a 32-bit word to the right. -/
def rotr32 (x n : Nat) : Nat := (x >>> n) ||| w32 (x <<< (32 - n))

/-- The words of a row of constants, which is one number: `n` words of 32 bits, the first at the top. -/
def rowWords (n row : Nat) : List Nat := (List.range n).map (fun k => w32 (row >>> (32 * (n - 1 - k))))

/-- The round constants of SHA-256 (the first 32 bits of the fractional parts of the cube roots of the first 64 primes), eight rows of eight. -/
def shaK : List Nat :=
  rowWords 8 0x428a2f9871374491b5c0fbcfe9b5dba53956c25b59f111f1923f82a4ab1c5ed5
  ++ rowWords 8 0xd807aa9812835b01243185be550c7dc372be5d7480deb1fe9bdc06a7c19bf174
  ++ rowWords 8 0xe49b69c1efbe47860fc19dc6240ca1cc2de92c6f4a7484aa5cb0a9dc76f988da
  ++ rowWords 8 0x983e5152a831c66db00327c8bf597fc7c6e00bf3d5a7914706ca635114292967
  ++ rowWords 8 0x27b70a852e1b21384d2c6dfc53380d13650a7354766a0abb81c2c92e92722c85
  ++ rowWords 8 0xa2bfe8a1a81a664bc24b8b70c76c51a3d192e819d6990624f40e3585106aa070
  ++ rowWords 8 0x19a4c1161e376c082748774c34b0bcb5391c0cb34ed8aa4a5b9cca4f682e6ff3
  ++ rowWords 8 0x748f82ee78a5636f84c878148cc7020890befffaa4506cebbef9a3f7c67178f2

/-- The working variables of SHA-256. -/
structure Sha where
  a : Nat
  b : Nat
  c : Nat
  d : Nat
  e : Nat
  f : Nat
  g : Nat
  h : Nat
  deriving DecidableEq, Repr

/-- The initial hash value of SHA-256. -/
def shaInit : Sha :=
  ⟨0x6a09e667, 0xbb67ae85, 0x3c6ef372, 0xa54ff53a, 0x510e527f, 0x9b05688c, 0x1f83d9ab, 0x5be0cd19⟩

/-- One round of SHA-256 with its constant and schedule word. -/
def shaRound (v : Sha) (k w : Nat) : Sha :=
  let s1 := rotr32 v.e 6 ^^^ rotr32 v.e 11 ^^^ rotr32 v.e 25
  let ch := (v.e &&& v.f) ^^^ ((4294967295 - v.e) &&& v.g)
  let t1 := v.h + s1 + ch + k + w
  let s0 := rotr32 v.a 2 ^^^ rotr32 v.a 13 ^^^ rotr32 v.a 22
  let mj := (v.a &&& v.b) ^^^ (v.a &&& v.c) ^^^ (v.b &&& v.c)
  ⟨w32 (t1 + s0 + mj), v.a, v.b, v.c, w32 (v.d + t1), v.e, v.f, v.g⟩

/-- The rounds, over a window of the last sixteen schedule words, oldest first. -/
def shaRounds : List Nat → List Nat → Sha → Sha
  | [], _, v => v
  | k :: ks, win, v =>
    let w := win.headD 0
    let w1 := win.getD 1 0
    let w9 := win.getD 9 0
    let w14 := win.getD 14 0
    let s0 := rotr32 w1 7 ^^^ rotr32 w1 18 ^^^ (w1 >>> 3)
    let s1 := rotr32 w14 17 ^^^ rotr32 w14 19 ^^^ (w14 >>> 10)
    shaRounds ks (win.drop 1 ++ [w32 (w + s0 + w9 + s1)]) (shaRound v k w)

/-- The big-endian words of `n` bytes each of a byte string. -/
def chunkWords : Nat → Nat → List Byte → List Nat
  | 0, _, _ => []
  | k + 1, n, bs => beNat (bs.take n) :: chunkWords k n (bs.drop n)

/-- One 64-byte block. -/
def shaBlock (v : Sha) (blk : List Byte) : Sha :=
  let r := shaRounds shaK (chunkWords 16 4 blk) v
  ⟨w32 (v.a + r.a), w32 (v.b + r.b), w32 (v.c + r.c), w32 (v.d + r.d),
   w32 (v.e + r.e), w32 (v.f + r.f), w32 (v.g + r.g), w32 (v.h + r.h)⟩

/-- All blocks of a padded message. -/
def shaBlocks : Nat → Sha → List Byte → Sha
  | 0, v, _ => v
  | n + 1, v, bs => shaBlocks n (shaBlock v (bs.take 64)) (bs.drop 64)

/-- SHA-256 (FIPS 180-4). -/
def sha256 (m : List Byte) : List Byte :=
  let padded := m ++ [0x80] ++ List.replicate ((119 - m.length % 64) % 64) 0 ++ natBytes 8 (8 * m.length)
  let v := shaBlocks (padded.length / 64) shaInit padded
  natBytes 4 v.a ++ natBytes 4 v.b ++ natBytes 4 v.c ++ natBytes 4 v.d
    ++ natBytes 4 v.e ++ natBytes 4 v.f ++ natBytes 4 v.g ++ natBytes 4 v.h

/-- HMAC-SHA-256 (FIPS 198-1). -/
def hmacSha256 (key msg : List Byte) : List Byte :=
  let k0 := if key.length > 64 then sha256 key else key
  let k := k0 ++ List.replicate (64 - k0.length) 0
  sha256 (k.map (· ^^^ 0x5c) ++ sha256 (k.map (· ^^^ 0x36) ++ msg))

/-- Multiplication by x in the field of AES. -/
def xtime (b : Byte) : Byte := if b.getLsbD 7 then (b <<< 1) ^^^ 0x1b else b <<< 1

/-- Multiplication in the field of AES. -/
def gmulAux : Nat → Byte → Byte → Byte
  | 0, _, _ => 0
  | n + 1, a, b => (if b.getLsbD 0 then a else 0) ^^^ gmulAux n (xtime a) (b >>> 1)

/-- Multiplication in the field of AES. -/
def gmul (a b : Byte) : Byte := gmulAux 8 a b

/-- The inverse in the field of AES (0 for 0), as the 254th power. -/
def ginv (a : Byte) : Byte :=
  let a2 := gmul a a
  let a4 := gmul a2 a2
  let a8 := gmul a4 a4
  let a16 := gmul a8 a8
  let a32 := gmul a16 a16
  let a64 := gmul a32 a32
  let a128 := gmul a64 a64
  gmul a2 (gmul a4 (gmul a8 (gmul a16 (gmul a32 (gmul a64 a128)))))

/-- The S-box of AES. -/
def sbox (a : Byte) : Byte :=
  let b := ginv a
  b ^^^ b.rotateLeft 1 ^^^ b.rotateLeft 2 ^^^ b.rotateLeft 3 ^^^ b.rotateLeft 4 ^^^ 0x63

/-- Byte-wise exclusive or; the shorter string ends the result. -/
def xorBytes (a b : List Byte) : List Byte := List.zipWith (· ^^^ ·) a b

/-- The key schedule: words of four bytes, newest first; `i` counts the words made. -/
def keyWords (nk : Nat) : Nat → Nat → Byte → List (List Byte) → List (List Byte)
  | 0, _, _, ws => ws
  | n + 1, i, rcon, ws =>
    let prev := ws.headD []
    let old := ws.getD (nk - 1) []
    if i % nk = 0 then
      let r := (prev.drop 1 ++ prev.take 1).map sbox
      let t := xorBytes r [rcon, 0, 0, 0]
      keyWords nk n (i + 1) (xtime rcon) (xorBytes old t :: ws)
    else if nk = 8 ∧ i % 8 = 4 then
      keyWords nk n (i + 1) rcon (xorBytes old (prev.map sbox) :: ws)
    else
      keyWords nk n (i + 1) rcon (xorBytes old prev :: ws)

/-- The words of four bytes of a key. -/
def splitWords : Nat → List Byte → List (List Byte)
  | 0, _ => []
  | n + 1, bs => bs.take 4 :: splitWords n (bs.drop 4)

/-- The round keys of AES, sixteen bytes each, for a key of 16 or 32 bytes. -/
def roundKeys (key : List Byte) : List (List Byte) :=
  let nk := key.length / 4
  let ws := (keyWords nk (4 * (nk + 7) - nk) nk 1 (splitWords nk key).reverse).reverse
  let rec go : Nat → List (List Byte) → List (List Byte)
    | 0, _ => []
    | n + 1, l => (l.take 4).flatten :: go n (l.drop 4)
  go (nk + 7) ws

/-- The byte permutation of one AES round (rows rotate by their number). -/
def shiftRows (st : List Byte) : List Byte :=
  [0, 5, 10, 15, 4, 9, 14, 3, 8, 13, 2, 7, 12, 1, 6, 11].map (fun i => st.getD i 0)

/-- One column mixed. -/
def mixColumn : List Byte → List Byte
  | [a, b, c, d] =>
    [gmul 2 a ^^^ gmul 3 b ^^^ c ^^^ d, a ^^^ gmul 2 b ^^^ gmul 3 c ^^^ d,
     a ^^^ b ^^^ gmul 2 c ^^^ gmul 3 d, gmul 3 a ^^^ b ^^^ c ^^^ gmul 2 d]
  | l => l

/-- All four columns mixed. -/
def mixColumns (st : List Byte) : List Byte :=
  mixColumn (st.take 4) ++ mixColumn ((st.drop 4).take 4) ++ mixColumn ((st.drop 8).take 4) ++ mixColumn ((st.drop 12).take 4)

/-- The rounds after the first key addition. -/
def aesRounds : List (List Byte) → List Byte → List Byte
  | [], st => st
  | [k], st => xorBytes (shiftRows (st.map sbox)) k
  | k :: ks, st => aesRounds ks (xorBytes (mixColumns (shiftRows (st.map sbox))) k)

/-- AES of one block with a key of 16 or 32 bytes (FIPS 197). -/
def aesBlock (key blk : List Byte) : List Byte :=
  match roundKeys key with
  | [] => blk
  | k0 :: ks => aesRounds ks (xorBytes blk k0)

/-- Doubling in the block field of CMAC. -/
def cmacDouble (b : List Byte) : List Byte :=
  let n := beNat b
  let d := (2 * n) % 2 ^ 128
  natBytes 16 (if n ≥ 2 ^ 127 then d ^^^ 0x87 else d)

/-- CBC over whole blocks. -/
def cbcChain (key : List Byte) : Nat → List Byte → List Byte → List Byte
  | 0, c, _ => c
  | n + 1, c, m => cbcChain key n (aesBlock key (xorBytes c (m.take 16))) (m.drop 16)

/-- AES-CMAC (SP 800-38B), the whole 16-byte tag. -/
def cmacAes (key msg : List Byte) : List Byte :=
  let k1 := cmacDouble (aesBlock key (List.replicate 16 0))
  let k2 := cmacDouble k1
  let n := (msg.length + 15) / 16
  let lead := (n - 1) * 16
  let last := msg.drop lead
  let lastBlk := if last.length = 16 then xorBytes last k1
    else xorBytes (last ++ [0x80] ++ List.replicate (15 - last.length) 0) k2
  aesBlock key (xorBytes (cbcChain key (n - 1) (List.replicate 16 0) (msg.take lead)) lastBlk)

/-- Multiplication in the field of GHASH: bit 127 of a number is the block's first bit. -/
def ghashMul : Nat → Nat → Nat → Nat → Nat
  | 0, _, _, z => z
  | n + 1, x, v, z =>
    let z' := if (x >>> n) % 2 = 1 then z ^^^ v else z
    let v' := if v % 2 = 1 then (v >>> 1) ^^^ (0xe1 <<< 120) else v >>> 1
    ghashMul n x v' z'

/-- GHASH over whole blocks. -/
def ghash (h : Nat) : Nat → Nat → List Byte → Nat
  | 0, y, _ => y
  | n + 1, y, m => ghash h n (ghashMul 128 (y ^^^ beNat (m.take 16)) h 0) (m.drop 16)

/-- A byte string padded with zeros to whole blocks. -/
def padBlock (m : List Byte) : List Byte := m ++ List.replicate ((16 - m.length % 16) % 16) 0

/-- The counter-mode key stream of GCM applied to a text. -/
def gctr (key iv : List Byte) : Nat → Nat → List Byte → List Byte
  | 0, _, _ => []
  | n + 1, c, m =>
    xorBytes (m.take 16) (aesBlock key (iv ++ natBytes 4 c)) ++ gctr key iv n (c + 1) (m.drop 16)

/-- The GCM tag of a ciphertext (SP 800-38D) with a 12-byte IV. -/
def gcmTag (key iv aad ct : List Byte) : List Byte :=
  let h := beNat (aesBlock key (List.replicate 16 0))
  let m := padBlock aad ++ padBlock ct ++ natBytes 8 (8 * aad.length) ++ natBytes 8 (8 * ct.length)
  let y := ghash h (m.length / 16) 0 m
  xorBytes (natBytes 16 y) (aesBlock key (iv ++ natBytes 4 1))

/-- GCM encryption or decryption of the text alone. -/
def gcmText (key iv text : List Byte) : List Byte :=
  gctr key iv ((text.length + 15) / 16) 2 text

/-- CRC over the bits of a byte string, most significant bit first, with the polynomial of the given width. -/
def crcByteMsb (width poly : Nat) : Nat → Nat → Nat
  | 0, c => c
  | n + 1, c =>
    let top := (c >>> (width - 1)) % 2
    let c' := (c <<< 1) % 2 ^ width
    crcByteMsb width poly n (if top = 1 then c' ^^^ poly else c')

/-- CRC, most significant bit first. -/
def crcMsb (width poly init : Nat) (m : List Byte) : Nat :=
  m.foldl (fun c b => crcByteMsb width poly 8 (c ^^^ (b.toNat <<< (width - 8)))) init

/-- One byte of a reflected CRC. -/
def crcByteLsb (poly : Nat) : Nat → Nat → Nat
  | 0, c => c
  | n + 1, c => crcByteLsb poly n (if c % 2 = 1 then (c >>> 1) ^^^ poly else c >>> 1)

/-- The frame check sequence of IEEE 802.3, as its four bytes go on the wire. -/
def fcs32 (m : List Byte) : List Byte :=
  let c := m.foldl (fun c b => crcByteLsb 0xEDB88320 8 (c ^^^ b.toNat)) 0xFFFFFFFF
  (natBytes 4 (c ^^^ 0xFFFFFFFF)).reverse

end Sys2Proof.Machine
end

