-- ==== Sys2Proof/Config.lean ====
section
/-! DEFINITION. Config.lean: what an implementation fixes and the manual does not print (constants), and the free values: constants with no body, of which nothing can be proved. -/

namespace Sys2Proof.Config

/-- The silicon revision code of revision B1 (R3). -/
def revision : Byte := 0xB1

/-- The part code that DEVICE_INFO reports (R327). -/
def partCode : Nat := 0x7140

/-- The module's serial number (R327, R438): each module has its own; the manual prints none. -/
opaque serial : BitVec 64

/-- Bits 11-1 of the IDCODE register: the maker's JEDEC manufacturer identity (R464), which the manual does not print. -/
opaque jedec : BitVec 11

/-- The number that COUNTER_CATALOG gives the counter with this place in `Ctr` (R330; log entry 4). -/
opaque counterCode : Nat → BitVec 16

/-- The scope code that COUNTER_CATALOG gives a counter (R330; log entry 4). -/
opaque counterScope : Nat → BitVec 7

/-- The code of an event as EVENT_CATALOG lists it (R326; log entry 4). -/
opaque eventCode : Nat → BitVec 16

/-- The block prefix code of an event as EVENT_CATALOG lists it (R326; log entry 4). -/
opaque eventBlock : Nat → BitVec 16

/-- The name bytes under which EVENT_CATALOG lists an event (R327; log entry 4). -/
opaque eventName : Nat → List Byte

/-- The code, the scope code and, where the manual gives no name, the name bytes of the status item with this place in the model's list (R330; log entry 4). -/
opaque statusCode : Nat → BitVec 16

/-- The scope code that COUNTER_CATALOG gives a status item (R330; log entry 4). -/
opaque statusScope : Nat → BitVec 7

/-- The name bytes under which COUNTER_CATALOG lists a status item that the manual does not name (R330; log entry 4). -/
opaque statusName : Nat → List Byte

/-- The format of a status item that the manual does not name, where this code and instance name one (R330; log entry 4). -/
opaque statusItem : BitVec 16 → BitVec 16 → Option (BitVec 8)

/-- What a read of a status item finds, one value per draw of the state's free-value counter: its bytes, at least one (R330; log entry 4). -/
opaque statusValue : BitVec 16 → BitVec 16 → Nat → Byte × List Byte

/-- Bytes of the random source (R267): the draw with this number (log entry 5). -/
opaque randomByte : Nat → Byte

/-- A value that the manual leaves open, one per draw of the state's free-value counter (log entry 6). -/
opaque freeNat : Nat → Nat

/-- The value of a TLV type in the LLDPDUs of a port: its chassis ID, port ID, port description, system name or management address, which are the module's and the integrator's and which the manual does not print (log entry 25). -/
opaque lldpValue : Nat → Nat → List Byte

/-- The MAC address that the module uses as source on a port (log entry 25). -/
opaque portMac : Nat → BitVec 48

/-- The equaliser, canceller and timing state, or the transmit coefficients, that a full link-up leaves in a port's stored set (R232): the implementation's (log entry 6). -/
opaque linkCoeffs : Nat → Nat → Nat

/-- The fields of the IDENT body that name the module on a Selvage link (R218; log entry 15): NAME, implement class, maker code and serial number. -/
opaque identName : Nat → BitVec 64

/-- Implement class of the module's IDENT. -/
opaque identClass : Nat → Byte

/-- Maker code of the module's IDENT. -/
opaque identMaker : Nat → BitVec 16

/-- The 96-byte event log entry of an event, by its place in `Ev`, its number and its message parameters: the manual gives the size alone (R326; log entry 4). -/
opaque logEntry : Nat → Nat → List Byte → List Byte

/-- The destination address of twin frames (R444), which the manual does not print (log entry 31). -/
opaque twinMac : BitVec 48

/-- The bytes of the firmware that a bank was delivered with (R478; log entry 27). -/
opaque factoryByte : Nat → Nat → Byte

/-- The 32-byte entries that COUNTER_CATALOG gives after those of the counters: those of the status items, whose codes and names the manual does not print (R330; log entry 4). -/
opaque catalogEntry : Nat → List Byte

/-- What EVENT_LOG_READ gives for an index at which the log holds no entry (R327; log entry 42). -/
opaque emptyLog : Nat → List Byte

end Sys2Proof.Config
end

