-- ==== Sys2Proof/Machine/Maps.lean ====
section
/-! DEFINITION. Machine/Maps.lean: the tables of the block as plain data: a list of (index, entry) pairs in one canonical form, indices strictly rising and no entry equal to what an unlisted index reads as. -/

namespace Sys2Proof.Machine

/-- A table held sparsely: an index that is not listed reads as the table's reset entry, which every access names. -/
abbrev SMap (α : Type) := List (Nat × α)

/-- The entry of a table at an index; an unlisted index reads as `d`. -/
def mapGet {α : Type} (d : α) : SMap α → Nat → α
  | [], _ => d
  | (j, v) :: t, k => if j = k then v else mapGet d t k

/-- A table without its entry at an index; whatever list holds it, the index then reads as the default. -/
def mapErase {α : Type} : SMap α → Nat → SMap α
  | [], _ => []
  | (j, v) :: t, k => if k = j then mapErase t k else (j, v) :: mapErase t k

/-- A table with an entry listed at an index. -/
def mapPut {α : Type} : SMap α → Nat → α → SMap α
  | [], k, x => [(k, x)]
  | (j, v) :: t, k, x => if k = j then (k, x) :: t else if k < j then (k, x) :: (j, v) :: t else (j, v) :: mapPut t k x

/-- A table after a write: writing what an unlisted index reads as removes the entry. -/
def mapSet {α : Type} [DecidableEq α] (d : α) (m : SMap α) (k : Nat) (x : α) : SMap α :=
  if x = d then mapErase m k else mapPut m k x

/-- The listed entry of a table, when there is one. -/
def mapFind {α : Type} : SMap α → Nat → Option α
  | [], _ => none
  | (j, v) :: t, k => if j = k then some v else mapFind t k

/-- The indices of a list of pairs rise strictly from above a bound. -/
def risingFrom {α : Type} : Nat → SMap α → Bool
  | _, [] => true
  | b, (j, _) :: t => b ≤ j && risingFrom (j + 1) t

/-- The canonical form: indices strictly rising and no entry equal to the default. -/
def mapWf {α : Type} [DecidableEq α] (d : α) (m : SMap α) : Bool :=
  risingFrom 0 m && m.all (fun p => decide (p.2 ≠ d))

/-- A byte memory of the block (the ring and descriptor memory of R338): an address that is not listed reads as 0 (log entry 49). -/
abbrev Memory := List Host.Cell

/-- The canonical form of a byte memory. -/
def Memory.wf (m : Memory) : Bool := mapWf 0 m

/-- Write a run of bytes into a byte memory. -/
def memWrite (m : Memory) (a : Nat) : List Byte → Memory
  | [] => m
  | b :: bs => memWrite (mapSet 0 m a b) (a + 1) bs

/-- Read a run of bytes of a byte memory. -/
def memRead (m : Memory) (a : Nat) : Nat → List Byte
  | 0 => []
  | n + 1 => mapGet 0 m a :: memRead m (a + 1) n

/-- Replace the elements of a list that satisfy a test. -/
def replaceIf {α : Type} (p : α → Bool) (f : α → α) (l : List α) : List α :=
  l.map (fun x => if p x then f x else x)

/-- Apply a state change for each number below `n`, in rising order. -/
def forUpTo {σ : Type} (n : Nat) (f : Nat → σ → σ) (s : σ) : σ :=
  (List.range n).foldl (fun t i => f i t) s

/-- Apply a state change for each element of a list, in order. -/
def forEach {σ α : Type} (l : List α) (f : α → σ → σ) (s : σ) : σ :=
  l.foldl (fun t a => f a t) s

/-- An element put in front of the first one that is not below it. -/
def insertBy {α : Type} (le : α → α → Bool) (x : α) : List α → List α
  | [] => [x]
  | y :: ys => if le x y then x :: y :: ys else y :: insertBy le x ys

/-- A list in rising order; elements of one rank keep their order. -/
def sortBy {α : Type} (le : α → α → Bool) (l : List α) : List α := l.foldr (insertBy le) []

end Sys2Proof.Machine
end

