-- ==== Sys2Proof/Machine/BeaconState.lean ====
section
/-! DEFINITION. Machine/BeaconState.lean: the state of the Beacon clock, gPTP and the servo (R99-R110), of the stitch bases (R111-R117), of the event keys (R118-R126) and of the mark outputs (R127). -/

namespace Sys2Proof.Machine

/-- The servo states in the order of R107. -/
inductive BcnState where
  | free | acquire | locked | holdover | grandmaster
  deriving DecidableEq, Repr

/-- A gPTP domain instance (R105, R106). Offset in 2^-16 ns, rate ratio as its difference from 1 in 2^-40. -/
structure Gptp where
  domain : Nat := 0
  external : Bool := false
  prio1 : Nat := 0
  prio2 : Nat := 0
  logSync : Byte := 0
  logPdelay : Byte := 0
  portMask : BitVec 32 := 0
  roles : List Byte := []
  gm : Option (BitVec 64) := none
  offset : Int := 0
  ratio : Int := 0
  lastSync : Nat := 0
  changed : Bool := false
  deriving DecidableEq, Repr

/-- The record that the Beacon makes on entry to DEEP (R110): time, RATE, AO count and grandmaster. -/
structure DeepRecord where
  total : Nat
  rate : Int
  aoCount : Nat
  gm : Option (BitVec 64)
  deriving DecidableEq, Repr

/-- The Beacon. `total` is Beacon time in units of 2^-39 ns: one BCN cycle adds 2^40 + RATE of them (R100). The pending step is in 2^-16 ns; `refusedAt` is the cycle of the last refusal (R128). -/
structure Beacon where
  total : Nat := 0
  rate : Int := 0
  mode : BcnState := .free
  stepPending : Bool := false
  pendOffset : Int := 0
  provisional : Bool := false
  threshold : Nat := 1000
  slewPpm : Nat := 200
  autoAcquire : Bool := true
  wakeLimit : Nat := 10000000
  refusedAt : Option Nat := none
  good : Nat := 0
  far : Nat := 0
  history : List Int := []
  primary : Nat := 0
  inst0 : Gptp := {}
  inst1 : Gptp := {}
  trims : SMap (Int × Int) := []
  deep : Option DeepRecord := none
  deriving DecidableEq, Repr

/-- A stitch base (R111-R117). Positions are unwrapped, in 2^-16 stitch; stamps are Beacon times in 2^-16 ns, newest first, below zero after a step to a time before them (R126). `seen` is the position up to which forward travel has been noted for R124. -/
structure StitchBase where
  record : BitVec 128 := 0
  pos : Int := 0
  fwd : Bool := true
  moving : Bool := false
  hwm : Int := 0
  seen : Int := 0
  stamps : List Int := []
  lastAt : Int := 0
  pinA : Bool := false
  pinB : Bool := false
  cmdFwd : Bool := true
  speed : Int := 0
  sampleAt : Int := 0
  samplePos : Int := 0
  sampled : Bool := false
  heard : Nat := 0
  edgeCyc : Option Nat := none
  deriving DecidableEq, Repr

/-- What an event key has done (R122, R124): the last crossing, grid point or time that has fired or counts as fired; whether it is done for good; the high-water mark up to which its firings are re-passes. -/
structure KeyState where
  last : Option Int := none
  top : Option Int := none
  done : Bool := false
  deriving DecidableEq, Repr

/-- A mark output (R127). -/
structure Mark where
  record : BitVec 64 := 0
  keys : List (BitVec 128) := []
  pulseEnd : Option Int := none
  deriving DecidableEq, Repr

/-- Stitch bases, event keys and mark outputs. Keys are numbered gate entries port x 1024 + entry, then 27648 + output x 16 + key, 27776 + channel x 64 + slot, 29824 + link x 16 + entry; consumers are numbered ports, outputs from 27, channels from 35, links from 67 (R123). -/
structure Stitch where
  bases : SMap StitchBase := []
  keys : SMap KeyState := []
  lastFire : SMap (Option Int) := []
  overspeed : SMap Bool := []
  marks : SMap Mark := []
  deriving DecidableEq, Repr

end Sys2Proof.Machine
end

