-- ==== Sys2Proof/Machine/Names.lean ====
section
/-! DEFINITION. Machine/Names.lean: the counters of the manual's counter tables (R61, R98, R129, R159, R190, R226, R242, R262, R284, R308, R336, R362, R388, R412, R433, R459, R474, R491, R508) and the events that the module raises (R20, R326). The numbers that COUNTER_CATALOG and EVENT_CATALOG give them are not printed in the manual: they are free values of Config (log entry 4). -/

namespace Sys2Proof.Machine

/-- The event and statistics counters, by the name the manual gives them. -/
inductive Ctr where
  /-- BOLT_OVERSIZE, 32 instance(s), scope: port -/
  | boltOversize
  /-- BOLT_CUT_STOMP, 32 instance(s), scope: port -/
  | boltCutStomp
  /-- BOLT_ADMIT_DROP, 256 instance(s), scope: queue -/
  | boltAdmitDrop
  /-- BOLT_HEAD_DROP, 256 instance(s), scope: queue -/
  | boltHeadDrop
  /-- BOLT_MC_LINK_DROP, 256 instance(s), scope: queue -/
  | boltMcLinkDrop
  /-- BOLT_AGED, 256 instance(s), scope: queue -/
  | boltAged
  /-- BOLT_FLUSH, 256 instance(s), scope: queue -/
  | boltFlush
  /-- BOLT_GATE_OVERRUN, 256 instance(s), scope: queue -/
  | boltGateOverrun
  /-- BOLT_ECC_CORR, 16 instance(s), scope: bank -/
  | boltEccCorr
  /-- BOLT_ECC_UNCORR, 16 instance(s), scope: bank -/
  | boltEccUncorr
  /-- SHT_EXPRESS_DISPLACE, 4 instance(s), scope: quadrant -/
  | shtExpressDisplace
  /-- TRD_FAIR_TABLE_FULL, 1 instance(s), scope: module -/
  | trdFairTableFull
  /-- BOLT_GATE_ABORT, 32 instance(s), scope: port -/
  | boltGateAbort
  /-- BOLT_GATE_RESYNC, 32 instance(s), scope: port -/
  | boltGateResync
  /-- SEAM_SF_MATCH, 4096 instance(s), scope: filter -/
  | seamSfMatch
  /-- SEAM_SF_NOMATCH, 4096 instance(s), scope: filter -/
  | seamSfNomatch
  /-- SEAM_SF_OVERSIZE, 4096 instance(s), scope: filter -/
  | seamSfOversize
  /-- SEAM_SF_BLOCKED, 4096 instance(s), scope: filter -/
  | seamSfBlocked
  /-- SEAM_SG_CLOSED_DROP, 256 instance(s), scope: gate -/
  | seamSgClosedDrop
  /-- SEAM_POLICE_GREEN, 4096 instance(s), scope: policer -/
  | seamPoliceGreen
  /-- SEAM_POLICE_YELLOW, 4096 instance(s), scope: policer -/
  | seamPoliceYellow
  /-- SEAM_POLICE_RED, 4096 instance(s), scope: policer -/
  | seamPoliceRed
  /-- SEAM_POLICE_YELLOW_DROP, 4096 instance(s), scope: policer -/
  | seamPoliceYellowDrop
  /-- SEAM_FRER_PASSED, 2048 instance(s), scope: function -/
  | seamFrerPassed
  /-- SEAM_FRER_DISCARD, 2048 instance(s), scope: function -/
  | seamFrerDiscard
  /-- SEAM_FRER_OUT_OF_ORDER, 2048 instance(s), scope: function -/
  | seamFrerOutOfOrder
  /-- SEAM_FRER_ROGUE, 2048 instance(s), scope: function -/
  | seamFrerRogue
  /-- SEAM_FRER_LOST, 2048 instance(s), scope: function -/
  | seamFrerLost
  /-- SEAM_FRER_TAGLESS, 2048 instance(s), scope: function -/
  | seamFrerTagless
  /-- SEAM_FRER_RESET, 2048 instance(s), scope: function -/
  | seamFrerReset
  /-- SEAM_FRER_LATENT, 2048 instance(s), scope: function -/
  | seamFrerLatent
  /-- BCN_STEP_APPLIED, 1 instance(s), scope: module -/
  | bcnStepApplied
  /-- BCN_STEP_REFUSED, 1 instance(s), scope: module -/
  | bcnStepRefused
  /-- BCN_SYNC_TIMEOUT, 2 instance(s), scope: domain -/
  | bcnSyncTimeout
  /-- BCN_EVENT_STEPPED, 1 instance(s), scope: module -/
  | bcnEventStepped
  /-- BCN_MARK_RETRIGGER, 8 instance(s), scope: mark -/
  | bcnMarkRetrigger
  /-- BCN_KEY_PAST, 69 instance(s), scope: consumer -/
  | bcnKeyPast
  /-- STB_GLITCH, 4 instance(s), scope: base -/
  | stbGlitch
  /-- STB_QUAD_ERROR, 4 instance(s), scope: base -/
  | stbQuadError
  /-- STB_OVERSPEED, 4 instance(s), scope: base -/
  | stbOverspeed
  /-- STB_STANDSTILL, 4 instance(s), scope: base -/
  | stbStandstill
  /-- STB_REVERSAL, 4 instance(s), scope: base -/
  | stbReversal
  /-- STB_FEED_REJECT, 4 instance(s), scope: base -/
  | stbFeedReject
  /-- STB_COALESCED, 69 instance(s), scope: consumer -/
  | stbCoalesced
  /-- STB_SKIPPED, 32768 instance(s), scope: key -/
  | stbSkipped
  /-- STB_REFIRED, 32768 instance(s), scope: key -/
  | stbRefired
  /-- PAT_MALFORMED, 32 instance(s), scope: port -/
  | patMalformed
  /-- PAT_DEPTH_EXCEEDED, 32 instance(s), scope: port -/
  | patDepthExceeded
  /-- PAT_NO_TREE, 32 instance(s), scope: port -/
  | patNoTree
  /-- PAT_TREE_FAULT, 32 instance(s), scope: port -/
  | patTreeFault
  /-- PAT_LOOKUP_DROP, 32 instance(s), scope: port -/
  | patLookupDrop
  /-- PAT_PASS_LIMIT, 32 instance(s), scope: port -/
  | patPassLimit
  /-- PAT_EXPRESS_LATE, 32 instance(s), scope: port -/
  | patExpressLate
  /-- PAT_FRAG_HELD, 32 instance(s), scope: port -/
  | patFragHeld
  /-- PAT_FRAG_EARLY_DROP, 32 instance(s), scope: port -/
  | patFragEarlyDrop
  /-- PAT_FRAG_TABLE_FULL, 32 instance(s), scope: port -/
  | patFragTableFull
  /-- PAT_FRAG_EPOCH_DROP, 32 instance(s), scope: port -/
  | patFragEpochDrop
  /-- PAT_GROUP_EMPTY, 32 instance(s), scope: port -/
  | patGroupEmpty
  /-- PAT_NODE_ECC_CORR, 1 instance(s), scope: module -/
  | patNodeEccCorr
  /-- SEAM_DENY_LEAF, 32 instance(s), scope: port -/
  | seamDenyLeaf
  /-- SEAM_DENY_ZONE, 256 instance(s), scope: pair -/
  | seamDenyZone
  /-- SEAM_ZONE_KEEPER, 256 instance(s), scope: pair -/
  | seamZoneKeeper
  /-- SEAM_FRESH_EXHAUSTED, 1024 instance(s), scope: entry -/
  | seamFreshExhausted
  /-- SEAM_FRESH_REJECT, 1024 instance(s), scope: entry -/
  | seamFreshReject
  /-- SEAM_AUTH_FAIL, 1024 instance(s), scope: entry -/
  | seamAuthFail
  /-- EDGE_FORMAT_DROP, 40 instance(s), scope: channel -/
  | edgeFormatDrop
  /-- EDGE_TXQ_OVERFLOW, 32 instance(s), scope: channel -/
  | edgeTxqOverflow
  /-- EDGE_TX_TIMEOUT, 32 instance(s), scope: channel -/
  | edgeTxTimeout
  /-- EDGE_SLOT_OVERWRITE, 32 instance(s), scope: channel -/
  | edgeSlotOverwrite
  /-- EDGE_SLOT_EMPTY, 32 instance(s), scope: channel -/
  | edgeSlotEmpty
  /-- EDGE_SLOT_LATE, 32 instance(s), scope: channel -/
  | edgeSlotLate
  /-- EDGE_SLOT_FLUSH, 32 instance(s), scope: channel -/
  | edgeSlotFlush
  /-- EDGE_ENCAP_DROP, 256 instance(s), scope: container -/
  | edgeEncapDrop
  /-- EDGE_ACF_SENT, 256 instance(s), scope: container -/
  | edgeAcfSent
  /-- EDGE_ACF_LEN, 8192 instance(s), scope: route -/
  | edgeAcfLen
  /-- EDGE_ACF_BAD, 8192 instance(s), scope: route -/
  | edgeAcfBad
  /-- EDGE_ACF_SKIP, 8192 instance(s), scope: route -/
  | edgeAcfSkip
  /-- EDGE_NO_ROUTE, 8192 instance(s), scope: route -/
  | edgeNoRoute
  /-- EDGE_LOOP_DROP, 1 instance(s), scope: module -/
  | edgeLoopDrop
  /-- EDGE_LIN_NO_RESPONSE, 8 instance(s), scope: lin -/
  | edgeLinNoResponse
  /-- EDGE_LIN_CHECKSUM, 8 instance(s), scope: lin -/
  | edgeLinChecksum
  /-- EDGE_LIN_INCOMPLETE, 8 instance(s), scope: lin -/
  | edgeLinIncomplete
  /-- EDGE_LIN_SYNC, 8 instance(s), scope: lin -/
  | edgeLinSync
  /-- EDGE_LIN_PID, 8 instance(s), scope: lin -/
  | edgeLinPid
  /-- EDGE_LIN_BIT, 8 instance(s), scope: lin -/
  | edgeLinBit
  /-- EDGE_LIN_FRAMING, 8 instance(s), scope: lin -/
  | edgeLinFraming
  /-- SEL_LOS, 2 instance(s), scope: link -/
  | selLos
  /-- SEL_LOB, 2 instance(s), scope: link -/
  | selLob
  /-- SEL_LOF, 2 instance(s), scope: link -/
  | selLof
  /-- SEL_HDR_BAD, 2 instance(s), scope: link -/
  | selHdrBad
  /-- SEL_CAND_FULL, 2 instance(s), scope: link -/
  | selCandFull
  /-- SEL_MIMIC, 2 instance(s), scope: link -/
  | selMimic
  /-- SEL_MAP_MISMATCH, 2 instance(s), scope: link -/
  | selMapMismatch
  /-- SEL_QUAL_FAIL, 2 instance(s), scope: link -/
  | selQualFail
  /-- SEL_HITCH, 2 instance(s), scope: link -/
  | selHitch
  /-- SEL_UNHITCH, 2 instance(s), scope: link -/
  | selUnhitch
  /-- SEL_REC_CRC, 32 instance(s), scope: thread -/
  | selRecCrc
  /-- SEL_REC_BAD, 32 instance(s), scope: thread -/
  | selRecBad
  /-- SEL_REC_ABORT, 32 instance(s), scope: thread -/
  | selRecAbort
  /-- SEL_REC_TX_ABORT, 32 instance(s), scope: thread -/
  | selRecTxAbort
  /-- SEL_MSG_BAD, 6 instance(s), scope: dcc -/
  | selMsgBad
  /-- SEL_MSG_UNKNOWN, 6 instance(s), scope: dcc -/
  | selMsgUnknown
  /-- aFramesTransmittedOK, 27 instance(s), scope: port -/
  | aFramesTransmittedOK
  /-- aFramesReceivedOK, 27 instance(s), scope: port -/
  | aFramesReceivedOK
  /-- aOctetsTransmittedOK, 27 instance(s), scope: port -/
  | aOctetsTransmittedOK
  /-- aOctetsReceivedOK, 27 instance(s), scope: port -/
  | aOctetsReceivedOK
  /-- aFrameCheckSequenceErrors, 27 instance(s), scope: port -/
  | aFrameCheckSequenceErrors
  /-- aFrameTooLongErrors, 27 instance(s), scope: port -/
  | aFrameTooLongErrors
  /-- aMACControlFramesReceived, 27 instance(s), scope: port -/
  | aMACControlFramesReceived
  /-- aFramesLostDueToIntMACXmitError, 27 instance(s), scope: port -/
  | aFramesLostDueToIntMACXmitError
  /-- aMACMergeFrameAssErrorCount, 27 instance(s), scope: port -/
  | aMACMergeFrameAssErrorCount
  /-- aMACMergeFrameSmdErrorCount, 27 instance(s), scope: port -/
  | aMACMergeFrameSmdErrorCount
  /-- aMACMergeFrameAssOkCount, 27 instance(s), scope: port -/
  | aMACMergeFrameAssOkCount
  /-- aMACMergeFragCountRx, 27 instance(s), scope: port -/
  | aMACMergeFragCountRx
  /-- aMACMergeFragCountTx, 27 instance(s), scope: port -/
  | aMACMergeFragCountTx
  /-- aMACMergeHoldCount, 27 instance(s), scope: port -/
  | aMACMergeHoldCount
  /-- PWR_FASTLINK_FALLBACK, 27 instance(s), scope: port -/
  | pwrFastlinkFallback
  /-- KPR_LLDP_BAD, 27 instance(s), scope: port -/
  | kprLldpBad
  /-- KPR_PARTNER_ARRIVE, 27 instance(s), scope: port -/
  | kprPartnerArrive
  /-- KPR_PARTNER_DEPART, 27 instance(s), scope: port -/
  | kprPartnerDepart
  /-- EDGE_RX_OVERFLOW, 16 instance(s), scope: channel -/
  | edgeRxOverflow
  /-- EDGE_ERR_ACTIVE, 16 instance(s), scope: channel -/
  | edgeErrActive
  /-- EDGE_ERR_PASSIVE, 16 instance(s), scope: channel -/
  | edgeErrPassive
  /-- EDGE_BUS_OFF, 16 instance(s), scope: channel -/
  | edgeBusOff
  /-- EDGE_ERR_BIT0, 16 instance(s), scope: channel -/
  | edgeErrBit0
  /-- EDGE_ERR_BIT1, 16 instance(s), scope: channel -/
  | edgeErrBit1
  /-- EDGE_ERR_STUFF, 16 instance(s), scope: channel -/
  | edgeErrStuff
  /-- EDGE_ERR_FORM, 16 instance(s), scope: channel -/
  | edgeErrForm
  /-- EDGE_ERR_CRC, 16 instance(s), scope: channel -/
  | edgeErrCrc
  /-- EDGE_ERR_ACK, 16 instance(s), scope: channel -/
  | edgeErrAck
  /-- EDGE_RATE_FAIL, 16 instance(s), scope: channel -/
  | edgeRateFail
  /-- THM_ACCESS_DENIED, 68 instance(s), scope: slot -/
  | thmAccessDenied
  /-- THM_KEY_STALE, 68 instance(s), scope: slot -/
  | thmKeyStale
  /-- THM_IMPORT_FAIL, 68 instance(s), scope: slot -/
  | thmImportFail
  /-- THM_JOURNAL_VERIFY_FAIL, 68 instance(s), scope: slot -/
  | thmJournalVerifyFail
  /-- THM_JOURNAL_RECOVER, 1 instance(s), scope: module -/
  | thmJournalRecover
  /-- THM_LC_AUTH_FAIL, 1 instance(s), scope: module -/
  | thmLcAuthFail
  /-- THM_LC_REDO, 1 instance(s), scope: module -/
  | thmLcRedo
  /-- THM_REGION_VIOLATION, 1 instance(s), scope: module -/
  | thmRegionViolation
  /-- BOD_TX_PROTECTED, 2048 instance(s), scope: context -/
  | bodTxProtected
  /-- BOD_TX_ENCRYPTED, 2048 instance(s), scope: context -/
  | bodTxEncrypted
  /-- BOD_TX_NO_SA, 2048 instance(s), scope: context -/
  | bodTxNoSa
  /-- BOD_RX_OK, 2048 instance(s), scope: context -/
  | bodRxOk
  /-- BOD_RX_INVALID, 2048 instance(s), scope: context -/
  | bodRxInvalid
  /-- BOD_RX_NOT_VALID, 2048 instance(s), scope: context -/
  | bodRxNotValid
  /-- BOD_RX_BAD_TAG, 2048 instance(s), scope: context -/
  | bodRxBadTag
  /-- BOD_RX_NO_SA, 2048 instance(s), scope: context -/
  | bodRxNoSa
  /-- BOD_RX_LATE, 2048 instance(s), scope: context -/
  | bodRxLate
  /-- BOD_CAN_SIGNED, 2048 instance(s), scope: context -/
  | bodCanSigned
  /-- BOD_CAN_CHECKED, 2048 instance(s), scope: context -/
  | bodCanChecked
  /-- BOD_CAN_LEN, 2048 instance(s), scope: context -/
  | bodCanLen
  /-- BOD_CAN_FORMAT, 2048 instance(s), scope: context -/
  | bodCanFormat
  /-- BOD_LEN_JUMBO, 2048 instance(s), scope: context -/
  | bodLenJumbo
  /-- BOD_KEY_DENIED, 2048 instance(s), scope: context -/
  | bodKeyDenied
  /-- BOD_KEY_STALE, 2048 instance(s), scope: context -/
  | bodKeyStale
  /-- BOD_USAGE_EXHAUSTED, 2048 instance(s), scope: context -/
  | bodUsageExhausted
  /-- BOD_PN_EXHAUSTED, 8192 instance(s), scope: sa -/
  | bodPnExhausted
  /-- BOD_MODE_DROP, 1 instance(s), scope: module -/
  | bodModeDrop
  /-- KPR_CMD_ACCEPTED, 3 instance(s), scope: transport -/
  | kprCmdAccepted
  /-- KPR_CMD_RUNT, 3 instance(s), scope: transport -/
  | kprCmdRunt
  /-- KPR_CMD_STRAY, 3 instance(s), scope: transport -/
  | kprCmdStray
  /-- KPR_CMD_LOCKOUT_DROP, 3 instance(s), scope: transport -/
  | kprCmdLockoutDrop
  /-- KPR_CMD_RATE, 3 instance(s), scope: transport -/
  | kprCmdRate
  /-- KPR_CMD_BUSY, 3 instance(s), scope: transport -/
  | kprCmdBusy
  /-- KPR_CMD_AUTH_FAIL, 3 instance(s), scope: transport -/
  | kprCmdAuthFail
  /-- KPR_CMD_REPLAY, 3 instance(s), scope: transport -/
  | kprCmdReplay
  /-- KPR_CMD_ABORTED, 3 instance(s), scope: transport -/
  | kprCmdAborted
  /-- KPR_EVENT_DROP, 3 instance(s), scope: transport -/
  | kprEventDrop
  /-- PLK_CPL_TIMEOUT, 1 instance(s), scope: module -/
  | plkCplTimeout
  /-- PLK_CPL_ERROR, 1 instance(s), scope: module -/
  | plkCplError
  /-- PLK_INBOUND_ABORT, 1 instance(s), scope: module -/
  | plkInboundAbort
  /-- PLK_NO_WINDOW, 16 instance(s), scope: ring -/
  | plkNoWindow
  /-- PLK_PREFETCH_DISCARD, 16 instance(s), scope: ring -/
  | plkPrefetchDiscard
  /-- PLK_RX_SHORT_BUF, 16 instance(s), scope: ring -/
  | plkRxShortBuf
  /-- PLK_BAD_DESC, 16 instance(s), scope: ring -/
  | plkBadDesc
  /-- PWR_CLK_FAULT, 8 instance(s), scope: clock -/
  | pwrClkFault
  /-- PWR_INIT_TIMEOUT, 2 instance(s), scope: initiator -/
  | pwrInitTimeout
  /-- PWR_CDC_PULSE_OVF, 16 instance(s), scope: crossing -/
  | pwrCdcPulseOvf
  /-- PWR_CDC_RESYNC, 16 instance(s), scope: crossing -/
  | pwrCdcResync
  /-- PWR_NM_ROUND, 16 instance(s), scope: network -/
  | pwrNmRound
  /-- PWR_NM_ROUND_FAIL, 16 instance(s), scope: network -/
  | pwrNmRoundFail
  /-- PWR_NM_SILENT, 16 instance(s), scope: network -/
  | pwrNmSilent
  /-- PWR_NM_FALSE_WAKE, 16 instance(s), scope: network -/
  | pwrNmFalseWake
  /-- PWR_NM_BAD, 32 instance(s), scope: channel -/
  | pwrNmBad
  /-- PWR_NM_SAVE_FAIL, 1 instance(s), scope: module -/
  | pwrNmSaveFail
  /-- PWR_WAKE_LATCHED, 1 instance(s), scope: module -/
  | pwrWakeLatched
  /-- PWR_DOZE_RX_DROP, 27 instance(s), scope: port -/
  | pwrDozeRxDrop
  /-- LAMP_DETECT, 20 instance(s), scope: mechanism -/
  | lampDetect
  /-- LAMP_SAFE_ENTRY, 1 instance(s), scope: module -/
  | lampSafeEntry
  /-- LAMP_RELEASE, 1 instance(s), scope: module -/
  | lampRelease
  /-- LAMP_ECC_CORR, 2 instance(s), scope: memory -/
  | lampEccCorr
  /-- LAMP_CODE_OVF, 1 instance(s), scope: module -/
  | lampCodeOvf
  /-- KPR_RESTART, 1 instance(s), scope: module -/
  | kprRestart
  /-- TWIN_TAKEOVER, 1 instance(s), scope: module -/
  | twinTakeover
  /-- TWIN_TAKEOVER_DEGRADED, 1 instance(s), scope: module -/
  | twinTakeoverDegraded
  /-- TWIN_RELINQUISH, 1 instance(s), scope: module -/
  | twinRelinquish
  /-- TWIN_TAKEBACK, 1 instance(s), scope: module -/
  | twinTakeback
  /-- TWIN_SPLIT, 1 instance(s), scope: module -/
  | twinSplit
  /-- TWIN_HB_FAULT, 1 instance(s), scope: module -/
  | twinHbFault
  /-- TWIN_T0_FAULT, 1 instance(s), scope: module -/
  | twinT0Fault
  /-- TWIN_DELTA_LATE, 1 instance(s), scope: module -/
  | twinDeltaLate
  /-- TWIN_DIVERGE, 1 instance(s), scope: module -/
  | twinDiverge
  /-- TWIN_CT_LATE, 1 instance(s), scope: module -/
  | twinCtLate
  /-- TWIN_FRAME_BAD, 1 instance(s), scope: module -/
  | twinFrameBad
  /-- TWIN_RELAY_DROP, 1 instance(s), scope: module -/
  | twinRelayDrop
  /-- TWIN_STANDBY_BUS_DROP, 40 instance(s), scope: channel -/
  | twinStandbyBusDrop
  /-- THM_DBG_OPEN, 1 instance(s), scope: module -/
  | thmDbgOpen
  /-- THM_DBG_AUTH_FAIL, 1 instance(s), scope: module -/
  | thmDbgAuthFail
  /-- THM_DBG_REFUSED, 1 instance(s), scope: module -/
  | thmDbgRefused
  /-- KPR_BOOT_FALLBACK, 1 instance(s), scope: module -/
  | kprBootFallback
  /-- KPR_CONFIG_RECOVER, 1 instance(s), scope: module -/
  | kprConfigRecover
  /-- KPR_CONFIG_LOAD_FAIL, 1 instance(s), scope: module -/
  | kprConfigLoadFail
  /-- PWR_BROWNOUT, 1 instance(s), scope: module -/
  | pwrBrownout
  /-- PWR_CRANK, 1 instance(s), scope: module -/
  | pwrCrank
  /-- PWR_OVERVOLT, 1 instance(s), scope: module -/
  | pwrOvervolt
  deriving DecidableEq

/-- The counters in the order of their declaration. -/
def Ctr.all : List Ctr :=
  List.flatten
    [[.boltOversize, .boltCutStomp, .boltAdmitDrop, .boltHeadDrop, .boltMcLinkDrop, .boltAged, .boltFlush, .boltGateOverrun, .boltEccCorr, .boltEccUncorr, .shtExpressDisplace, .trdFairTableFull],
     [.boltGateAbort, .boltGateResync, .seamSfMatch, .seamSfNomatch, .seamSfOversize, .seamSfBlocked, .seamSgClosedDrop, .seamPoliceGreen, .seamPoliceYellow, .seamPoliceRed, .seamPoliceYellowDrop, .seamFrerPassed],
     [.seamFrerDiscard, .seamFrerOutOfOrder, .seamFrerRogue, .seamFrerLost, .seamFrerTagless, .seamFrerReset, .seamFrerLatent, .bcnStepApplied, .bcnStepRefused, .bcnSyncTimeout, .bcnEventStepped, .bcnMarkRetrigger],
     [.bcnKeyPast, .stbGlitch, .stbQuadError, .stbOverspeed, .stbStandstill, .stbReversal, .stbFeedReject, .stbCoalesced, .stbSkipped, .stbRefired, .patMalformed, .patDepthExceeded],
     [.patNoTree, .patTreeFault, .patLookupDrop, .patPassLimit, .patExpressLate, .patFragHeld, .patFragEarlyDrop, .patFragTableFull, .patFragEpochDrop, .patGroupEmpty, .patNodeEccCorr, .seamDenyLeaf],
     [.seamDenyZone, .seamZoneKeeper, .seamFreshExhausted, .seamFreshReject, .seamAuthFail, .edgeFormatDrop, .edgeTxqOverflow, .edgeTxTimeout, .edgeSlotOverwrite, .edgeSlotEmpty, .edgeSlotLate, .edgeSlotFlush],
     [.edgeEncapDrop, .edgeAcfSent, .edgeAcfLen, .edgeAcfBad, .edgeAcfSkip, .edgeNoRoute, .edgeLoopDrop, .edgeLinNoResponse, .edgeLinChecksum, .edgeLinIncomplete, .edgeLinSync, .edgeLinPid],
     [.edgeLinBit, .edgeLinFraming, .selLos, .selLob, .selLof, .selHdrBad, .selCandFull, .selMimic, .selMapMismatch, .selQualFail, .selHitch, .selUnhitch],
     [.selRecCrc, .selRecBad, .selRecAbort, .selRecTxAbort, .selMsgBad, .selMsgUnknown, .aFramesTransmittedOK, .aFramesReceivedOK, .aOctetsTransmittedOK, .aOctetsReceivedOK, .aFrameCheckSequenceErrors, .aFrameTooLongErrors],
     [.aMACControlFramesReceived, .aFramesLostDueToIntMACXmitError, .aMACMergeFrameAssErrorCount, .aMACMergeFrameSmdErrorCount, .aMACMergeFrameAssOkCount, .aMACMergeFragCountRx, .aMACMergeFragCountTx, .aMACMergeHoldCount, .pwrFastlinkFallback, .kprLldpBad, .kprPartnerArrive, .kprPartnerDepart],
     [.edgeRxOverflow, .edgeErrActive, .edgeErrPassive, .edgeBusOff, .edgeErrBit0, .edgeErrBit1, .edgeErrStuff, .edgeErrForm, .edgeErrCrc, .edgeErrAck, .edgeRateFail, .thmAccessDenied],
     [.thmKeyStale, .thmImportFail, .thmJournalVerifyFail, .thmJournalRecover, .thmLcAuthFail, .thmLcRedo, .thmRegionViolation, .bodTxProtected, .bodTxEncrypted, .bodTxNoSa, .bodRxOk, .bodRxInvalid],
     [.bodRxNotValid, .bodRxBadTag, .bodRxNoSa, .bodRxLate, .bodCanSigned, .bodCanChecked, .bodCanLen, .bodCanFormat, .bodLenJumbo, .bodKeyDenied, .bodKeyStale, .bodUsageExhausted],
     [.bodPnExhausted, .bodModeDrop, .kprCmdAccepted, .kprCmdRunt, .kprCmdStray, .kprCmdLockoutDrop, .kprCmdRate, .kprCmdBusy, .kprCmdAuthFail, .kprCmdReplay, .kprCmdAborted, .kprEventDrop],
     [.plkCplTimeout, .plkCplError, .plkInboundAbort, .plkNoWindow, .plkPrefetchDiscard, .plkRxShortBuf, .plkBadDesc, .pwrClkFault, .pwrInitTimeout, .pwrCdcPulseOvf, .pwrCdcResync, .pwrNmRound],
     [.pwrNmRoundFail, .pwrNmSilent, .pwrNmFalseWake, .pwrNmBad, .pwrNmSaveFail, .pwrWakeLatched, .pwrDozeRxDrop, .lampDetect, .lampSafeEntry, .lampRelease, .lampEccCorr, .lampCodeOvf],
     [.kprRestart, .twinTakeover, .twinTakeoverDegraded, .twinRelinquish, .twinTakeback, .twinSplit, .twinHbFault, .twinT0Fault, .twinDeltaLate, .twinDiverge, .twinCtLate, .twinFrameBad],
     [.twinRelayDrop, .twinStandbyBusDrop, .thmDbgOpen, .thmDbgAuthFail, .thmDbgRefused, .kprBootFallback, .kprConfigRecover, .kprConfigLoadFail, .pwrBrownout, .pwrCrank, .pwrOvervolt]]

/-- The manual's names and instance counts of the counters, in the order of their declaration. -/
def Ctr.table : List (String × Nat) :=
  List.flatten
    [[("BOLT_OVERSIZE", 32), ("BOLT_CUT_STOMP", 32), ("BOLT_ADMIT_DROP", 256), ("BOLT_HEAD_DROP", 256), ("BOLT_MC_LINK_DROP", 256), ("BOLT_AGED", 256), ("BOLT_FLUSH", 256), ("BOLT_GATE_OVERRUN", 256), ("BOLT_ECC_CORR", 16), ("BOLT_ECC_UNCORR", 16), ("SHT_EXPRESS_DISPLACE", 4), ("TRD_FAIR_TABLE_FULL", 1)],
     [("BOLT_GATE_ABORT", 32), ("BOLT_GATE_RESYNC", 32), ("SEAM_SF_MATCH", 4096), ("SEAM_SF_NOMATCH", 4096), ("SEAM_SF_OVERSIZE", 4096), ("SEAM_SF_BLOCKED", 4096), ("SEAM_SG_CLOSED_DROP", 256), ("SEAM_POLICE_GREEN", 4096), ("SEAM_POLICE_YELLOW", 4096), ("SEAM_POLICE_RED", 4096), ("SEAM_POLICE_YELLOW_DROP", 4096), ("SEAM_FRER_PASSED", 2048)],
     [("SEAM_FRER_DISCARD", 2048), ("SEAM_FRER_OUT_OF_ORDER", 2048), ("SEAM_FRER_ROGUE", 2048), ("SEAM_FRER_LOST", 2048), ("SEAM_FRER_TAGLESS", 2048), ("SEAM_FRER_RESET", 2048), ("SEAM_FRER_LATENT", 2048), ("BCN_STEP_APPLIED", 1), ("BCN_STEP_REFUSED", 1), ("BCN_SYNC_TIMEOUT", 2), ("BCN_EVENT_STEPPED", 1), ("BCN_MARK_RETRIGGER", 8)],
     [("BCN_KEY_PAST", 69), ("STB_GLITCH", 4), ("STB_QUAD_ERROR", 4), ("STB_OVERSPEED", 4), ("STB_STANDSTILL", 4), ("STB_REVERSAL", 4), ("STB_FEED_REJECT", 4), ("STB_COALESCED", 69), ("STB_SKIPPED", 32768), ("STB_REFIRED", 32768), ("PAT_MALFORMED", 32), ("PAT_DEPTH_EXCEEDED", 32)],
     [("PAT_NO_TREE", 32), ("PAT_TREE_FAULT", 32), ("PAT_LOOKUP_DROP", 32), ("PAT_PASS_LIMIT", 32), ("PAT_EXPRESS_LATE", 32), ("PAT_FRAG_HELD", 32), ("PAT_FRAG_EARLY_DROP", 32), ("PAT_FRAG_TABLE_FULL", 32), ("PAT_FRAG_EPOCH_DROP", 32), ("PAT_GROUP_EMPTY", 32), ("PAT_NODE_ECC_CORR", 1), ("SEAM_DENY_LEAF", 32)],
     [("SEAM_DENY_ZONE", 256), ("SEAM_ZONE_KEEPER", 256), ("SEAM_FRESH_EXHAUSTED", 1024), ("SEAM_FRESH_REJECT", 1024), ("SEAM_AUTH_FAIL", 1024), ("EDGE_FORMAT_DROP", 40), ("EDGE_TXQ_OVERFLOW", 32), ("EDGE_TX_TIMEOUT", 32), ("EDGE_SLOT_OVERWRITE", 32), ("EDGE_SLOT_EMPTY", 32), ("EDGE_SLOT_LATE", 32), ("EDGE_SLOT_FLUSH", 32)],
     [("EDGE_ENCAP_DROP", 256), ("EDGE_ACF_SENT", 256), ("EDGE_ACF_LEN", 8192), ("EDGE_ACF_BAD", 8192), ("EDGE_ACF_SKIP", 8192), ("EDGE_NO_ROUTE", 8192), ("EDGE_LOOP_DROP", 1), ("EDGE_LIN_NO_RESPONSE", 8), ("EDGE_LIN_CHECKSUM", 8), ("EDGE_LIN_INCOMPLETE", 8), ("EDGE_LIN_SYNC", 8), ("EDGE_LIN_PID", 8)],
     [("EDGE_LIN_BIT", 8), ("EDGE_LIN_FRAMING", 8), ("SEL_LOS", 2), ("SEL_LOB", 2), ("SEL_LOF", 2), ("SEL_HDR_BAD", 2), ("SEL_CAND_FULL", 2), ("SEL_MIMIC", 2), ("SEL_MAP_MISMATCH", 2), ("SEL_QUAL_FAIL", 2), ("SEL_HITCH", 2), ("SEL_UNHITCH", 2)],
     [("SEL_REC_CRC", 32), ("SEL_REC_BAD", 32), ("SEL_REC_ABORT", 32), ("SEL_REC_TX_ABORT", 32), ("SEL_MSG_BAD", 6), ("SEL_MSG_UNKNOWN", 6), ("aFramesTransmittedOK", 27), ("aFramesReceivedOK", 27), ("aOctetsTransmittedOK", 27), ("aOctetsReceivedOK", 27), ("aFrameCheckSequenceErrors", 27), ("aFrameTooLongErrors", 27)],
     [("aMACControlFramesReceived", 27), ("aFramesLostDueToIntMACXmitError", 27), ("aMACMergeFrameAssErrorCount", 27), ("aMACMergeFrameSmdErrorCount", 27), ("aMACMergeFrameAssOkCount", 27), ("aMACMergeFragCountRx", 27), ("aMACMergeFragCountTx", 27), ("aMACMergeHoldCount", 27), ("PWR_FASTLINK_FALLBACK", 27), ("KPR_LLDP_BAD", 27), ("KPR_PARTNER_ARRIVE", 27), ("KPR_PARTNER_DEPART", 27)],
     [("EDGE_RX_OVERFLOW", 16), ("EDGE_ERR_ACTIVE", 16), ("EDGE_ERR_PASSIVE", 16), ("EDGE_BUS_OFF", 16), ("EDGE_ERR_BIT0", 16), ("EDGE_ERR_BIT1", 16), ("EDGE_ERR_STUFF", 16), ("EDGE_ERR_FORM", 16), ("EDGE_ERR_CRC", 16), ("EDGE_ERR_ACK", 16), ("EDGE_RATE_FAIL", 16), ("THM_ACCESS_DENIED", 68)],
     [("THM_KEY_STALE", 68), ("THM_IMPORT_FAIL", 68), ("THM_JOURNAL_VERIFY_FAIL", 68), ("THM_JOURNAL_RECOVER", 1), ("THM_LC_AUTH_FAIL", 1), ("THM_LC_REDO", 1), ("THM_REGION_VIOLATION", 1), ("BOD_TX_PROTECTED", 2048), ("BOD_TX_ENCRYPTED", 2048), ("BOD_TX_NO_SA", 2048), ("BOD_RX_OK", 2048), ("BOD_RX_INVALID", 2048)],
     [("BOD_RX_NOT_VALID", 2048), ("BOD_RX_BAD_TAG", 2048), ("BOD_RX_NO_SA", 2048), ("BOD_RX_LATE", 2048), ("BOD_CAN_SIGNED", 2048), ("BOD_CAN_CHECKED", 2048), ("BOD_CAN_LEN", 2048), ("BOD_CAN_FORMAT", 2048), ("BOD_LEN_JUMBO", 2048), ("BOD_KEY_DENIED", 2048), ("BOD_KEY_STALE", 2048), ("BOD_USAGE_EXHAUSTED", 2048)],
     [("BOD_PN_EXHAUSTED", 8192), ("BOD_MODE_DROP", 1), ("KPR_CMD_ACCEPTED", 3), ("KPR_CMD_RUNT", 3), ("KPR_CMD_STRAY", 3), ("KPR_CMD_LOCKOUT_DROP", 3), ("KPR_CMD_RATE", 3), ("KPR_CMD_BUSY", 3), ("KPR_CMD_AUTH_FAIL", 3), ("KPR_CMD_REPLAY", 3), ("KPR_CMD_ABORTED", 3), ("KPR_EVENT_DROP", 3)],
     [("PLK_CPL_TIMEOUT", 1), ("PLK_CPL_ERROR", 1), ("PLK_INBOUND_ABORT", 1), ("PLK_NO_WINDOW", 16), ("PLK_PREFETCH_DISCARD", 16), ("PLK_RX_SHORT_BUF", 16), ("PLK_BAD_DESC", 16), ("PWR_CLK_FAULT", 8), ("PWR_INIT_TIMEOUT", 2), ("PWR_CDC_PULSE_OVF", 16), ("PWR_CDC_RESYNC", 16), ("PWR_NM_ROUND", 16)],
     [("PWR_NM_ROUND_FAIL", 16), ("PWR_NM_SILENT", 16), ("PWR_NM_FALSE_WAKE", 16), ("PWR_NM_BAD", 32), ("PWR_NM_SAVE_FAIL", 1), ("PWR_WAKE_LATCHED", 1), ("PWR_DOZE_RX_DROP", 27), ("LAMP_DETECT", 20), ("LAMP_SAFE_ENTRY", 1), ("LAMP_RELEASE", 1), ("LAMP_ECC_CORR", 2), ("LAMP_CODE_OVF", 1)],
     [("KPR_RESTART", 1), ("TWIN_TAKEOVER", 1), ("TWIN_TAKEOVER_DEGRADED", 1), ("TWIN_RELINQUISH", 1), ("TWIN_TAKEBACK", 1), ("TWIN_SPLIT", 1), ("TWIN_HB_FAULT", 1), ("TWIN_T0_FAULT", 1), ("TWIN_DELTA_LATE", 1), ("TWIN_DIVERGE", 1), ("TWIN_CT_LATE", 1), ("TWIN_FRAME_BAD", 1)],
     [("TWIN_RELAY_DROP", 1), ("TWIN_STANDBY_BUS_DROP", 40), ("THM_DBG_OPEN", 1), ("THM_DBG_AUTH_FAIL", 1), ("THM_DBG_REFUSED", 1), ("KPR_BOOT_FALLBACK", 1), ("KPR_CONFIG_RECOVER", 1), ("KPR_CONFIG_LOAD_FAIL", 1), ("PWR_BROWNOUT", 1), ("PWR_CRANK", 1), ("PWR_OVERVOLT", 1)]]

/-- The manual's name of a counter. -/
def Ctr.name (c : Ctr) : String := (Ctr.table.getD c.ctorIdx ("", 0)).1

/-- How many instances a counter has (its scope). -/
def Ctr.instances (c : Ctr) : Nat := (Ctr.table.getD c.ctorIdx ("", 0)).2

/-- The events that the module raises. -/
inductive Ev where
  | gclInfeasible | gclFeasible | frerLatent | stepRefused | gmChange | keyPast | epochFreed | epochRefused | freshExhausted | selDefect | selDiscChange | selIdent | selHitch | selUnhitch | fastlinkFallback | partnerArrive | partnerDepart | linkUp | linkDown | rateConfirmed | rateFailed | busState | rekey | keyDropped | keyLimit | clockFault | domainStopped | nmSaveFail | pcieAer | safetyReport | safeEntry | safeRelease | keeperRestart | debugOpened | debugClosed | twinSplit | twinUnlisted | twinDiverge | twinTakeover | twinRelinquish | twinTakeback | twinFault | bootFallback | recoveryBoot | configLoadFail | journalLost | rngFault | lifecycle | plkError | journalVerify
  deriving DecidableEq, Repr

/-- The Yelom class of the block that an event comes from (R326). DESIGN CHOICE (log entry 4): the manual names no class per event; the class whose commands concern the block is taken. -/
def Ev.cls : Ev → Nat
  | .gclInfeasible => 4
  | .gclFeasible => 4
  | .frerLatent => 6
  | .stepRefused => 5
  | .gmChange => 5
  | .keyPast => 5
  | .epochFreed => 6
  | .epochRefused => 6
  | .freshExhausted => 7
  | .selDefect => 8
  | .selDiscChange => 8
  | .selIdent => 8
  | .selHitch => 8
  | .selUnhitch => 8
  | .fastlinkFallback => 2
  | .partnerArrive => 2
  | .partnerDepart => 2
  | .linkUp => 2
  | .linkDown => 2
  | .rateConfirmed => 7
  | .rateFailed => 7
  | .busState => 7
  | .rekey => 10
  | .keyDropped => 10
  | .keyLimit => 10
  | .clockFault => 11
  | .domainStopped => 11
  | .nmSaveFail => 11
  | .pcieAer => 11
  | .safetyReport => 12
  | .safeEntry => 12
  | .safeRelease => 12
  | .keeperRestart => 12
  | .debugOpened => 12
  | .debugClosed => 12
  | .twinSplit => 13
  | .twinUnlisted => 13
  | .twinDiverge => 13
  | .twinTakeover => 13
  | .twinRelinquish => 13
  | .twinTakeback => 13
  | .twinFault => 13
  | .bootFallback => 1
  | .recoveryBoot => 1
  | .configLoadFail => 1
  | .journalLost => 9
  | .rngFault => 9
  | .lifecycle => 9
  | .plkError => 1
  | .journalVerify => 9

/-- The events in the order of their declaration. -/
def Ev.all : List Ev :=
  [.gclInfeasible, .gclFeasible, .frerLatent, .stepRefused, .gmChange, .keyPast, .epochFreed, .epochRefused, .freshExhausted, .selDefect, .selDiscChange, .selIdent, .selHitch, .selUnhitch, .fastlinkFallback, .partnerArrive, .partnerDepart, .linkUp, .linkDown, .rateConfirmed, .rateFailed, .busState, .rekey, .keyDropped, .keyLimit, .clockFault, .domainStopped, .nmSaveFail, .pcieAer, .safetyReport, .safeEntry, .safeRelease, .keeperRestart, .debugOpened, .debugClosed, .twinSplit, .twinUnlisted, .twinDiverge, .twinTakeover, .twinRelinquish, .twinTakeback, .twinFault, .bootFallback, .recoveryBoot, .configLoadFail, .journalLost, .rngFault, .lifecycle, .plkError, .journalVerify]

/-- Whether an event comes from a block of the data plane, of the clocks or of the Lamp room, and so reaches the Keeper as an event frame (R14, R20, R378, R384, R417); the others arise in the Keeper itself (log entry 77). -/
def Ev.viaFabric : Ev → Bool
  | .gmChange | .partnerArrive | .partnerDepart | .nmSaveFail | .keeperRestart | .debugOpened | .debugClosed
  | .twinSplit | .twinUnlisted | .twinDiverge | .twinTakeover | .twinRelinquish | .twinTakeback | .twinFault
  | .bootFallback | .recoveryBoot | .configLoadFail | .epochRefused => false
  | _ => true

end Sys2Proof.Machine
end

