-- ==== Sys2Proof/Machine/FabricState.lean ====
section
/-! DEFINITION. Machine/FabricState.lean: the state of the packet core: the Bolt (R29-R63), the egress queues, gates, stream filters, policers and FRER functions (R64-R98, R509), the Pattern (R137-R160) and the Seam (R161-R169). -/

namespace Sys2Proof.Machine

/-- What a cell is charged to: its ingress port's headroom, or the queues that admitted its frame, with the queues of the list charging it to the shared pool and the others to their reservations (R49, R50). -/
inductive Charge where
  | headroom
  | queues (pool : List Nat)
  deriving DecidableEq, Repr

/-- Where a frame stands between its first byte and its admission: headers being read; lookup requested (R143); leaf reached, length awaited (R90); verdict ready (R37); admitted (R49); refused or denied, its bytes discarded until it ends (R38). -/
inductive Stage where
  | parsing | asked | sized | ready | admitted | gone
  deriving DecidableEq, Repr

/-- A transmit protection that a copy owes to the Bodkin (R164, R168). -/
structure CipherJob where
  ctx : Nat
  dir : Bool
  outs : List Nat
  fv : Nat
  deriving DecidableEq, Repr

/-- A stream filter (R88); 0xFFFF names no gate, policer or function, PRIORITY 0xFF is any. -/
structure StreamFilter where
  prio : Nat := 255
  blockOver : Bool := false
  maxSdu : Nat := 0
  gate : Nat := 0xFFFF
  policer : Nat := 0xFFFF
  gen : Nat := 0xFFFF
  recov : Nat := 0xFFFF
  blocked : Bool := false
  deriving DecidableEq, Repr

/-- The verdict of Pattern, Seam and stream filter: destination ports, class, colour and what the copies carry. `moved` when the stream gate has changed the class (R91); `filter` holds the stream filter as it stood when the frame began to wait for its length (R17, R90). -/
structure Verdict where
  ports : List Nat := []
  cls : Nat := 0
  yellow : Bool := false
  job : Option CipherJob := none
  recirc : Option (Nat × Nat) := none
  worker : Nat := 0
  route : Nat := 0
  mark : BitVec 16 := 0
  marked : Bool := false
  stream : Nat := 0
  gen : Option Nat := none
  strip : Bool := false
  inTime : Bool := false
  leaf : Nat := 0
  moved : Bool := false
  filter : Option StreamFilter := none
  deriving DecidableEq, Repr

/-- The fields of a flow key (R136), with what the parser found on the way: IP version, the fragment's identification, the offset of the IP header and of the frame's layers (kind and offset), and the pseudo-header and data bytes of a CAN or LIN message; `follow` when the fragment table decides the frame (R153). -/
structure PKey where
  da : Nat := 0
  sa : Nat := 0
  etype : Nat := 0
  outer : Nat := 0
  inner : Nat := 0
  tags : Nat := 0
  sectag : Bool := false
  rtag : Bool := false
  rseq : Nat := 0
  app : List Byte := []
  ipVer : Nat := 0
  tos : Nat := 0
  proto : Nat := 0
  isFrag : Bool := false
  firstFrag : Bool := false
  opts : Bool := false
  ext : Bool := false
  ttl : Nat := 0
  src : Nat := 0
  dst : Nat := 0
  flow : Nat := 0
  sport : Nat := 0
  dport : Nat := 0
  tcpFlags : Nat := 0
  fragId : Nat := 0
  pseudo : List Byte := []
  lin : Bool := false
  layers : List (Nat × Nat) := []
  depthExc : Bool := false
  claim : Option Nat := none
  follow : Bool := false
  deriving DecidableEq, Repr

/-- What a frame on its second crossing brings from its first (R148, R149). -/
structure Second where
  start : Nat := 0
  kind : Nat := 0
  key : PKey := {}
  tag : Nat := 0
  verified : Bool := false
  viaBodkin : Bool := false
  leaf : Option Nat := none
  hash : Nat := 0
  fv : Option Nat := none
  fresh : Nat := 0
  deriving DecidableEq, Repr

/-- What a frame is: an Ethernet frame, or a CAN or LIN message behind its pseudo-header (R134). -/
inductive EdgeKind where
  | can | lin | ethernet
  deriving DecidableEq, Repr

/-- A frame in the cell builders or the Bolt. `ident` is the model's own handle of it; `walker` is the tree walker that its lookup has taken, none while the request still waits in its port's queue (R143); `shift` is by how many bytes the cell builder has lengthened it (R95, R96); `event` is what an event frame reports (R20); `hold` when the fragment hold buffer takes what is still to come of it (R154). -/
structure Frame where
  ident : Nat
  entry : Nat
  keyPort : Nat
  bytes : List Byte := []
  ended : Bool := false
  bad : Bool := false
  express : Bool := false
  cells : List Nat := []
  freed : Nat := 0
  charges : List Charge := []
  epoch : Option Nat := none
  second : Option Second := none
  stage : Stage := .parsing
  walker : Option Nat := none
  verdict : Verdict := {}
  queues : List (Nat × Bool) := []
  refs : Nat := 0
  multicast : Bool := false
  started : Bool := false
  badTail : Bool := false
  stamp : Nat := 0
  arrived : Nat := 0
  rule : Option Nat := none
  owed : Option (Nat × Bool × Nat) := none
  claim : Option Nat := none
  whole : Bool := false
  shift : Int := 0
  ek : EdgeKind := .ethernet
  key : PKey := {}
  event : Option (Ev × List Byte) := none
  hold : Bool := false
  deriving DecidableEq, Repr

/-- A place in an egress queue: the frame, and the multicast link entry of the copy where it has one (R43). -/
structure QEnt where
  frame : Nat
  link : Option Nat := none
  deriving DecidableEq, Repr

/-- A frame that an egress port is transmitting: how many of its cells have been delivered, whether it must end with an invalid FCS, and at which byte it was cut where it was (R40, R84). -/
structure Tx where
  frame : Nat
  cls : Nat
  link : Option Nat := none
  done : Nat := 0
  bad : Bool := false
  cut : Option Nat := none
  fragFrom : Nat := 0
  returned : List Nat := []
  readAll : Bool := false
  overrun : Bool := false
  lane : Nat := 0
  deriving DecidableEq, Repr

/-- The free list of a bank or of the multicast link pool: rows not used yet, then rows freed, oldest first. -/
structure FreeList where
  fresh : Nat := 0
  freed : List Nat := []
  deriving DecidableEq, Repr

/-- A port that competes for a contended queue (R52, R53). -/
structure Rival where
  port : Nat
  counted : Bool := false
  idle : Nat := 0
  arrived : Bool := true
  credit : Int := 0
  deriving DecidableEq, Repr

/-- A tracked contended queue (R51-R54): cells freed since the last rotation, undivided credit, remainders per quadrant in units of 1/`shareUnit` cell, competing ports and the round-robin place of each quadrant. -/
structure Tracked where
  queue : Nat
  freedCells : Nat := 0
  credit : Nat := 0
  carry : List Nat := [0, 0, 0, 0]
  rivals : List Rival := []
  turn : List Nat := [0, 0, 0, 0]
  deriving DecidableEq, Repr

/-- Buffer parameters of an egress queue (R47). -/
structure BufParam where
  reserve : Nat := 16
  k : Nat := 6
  headDrop : Bool := false
  limitMs : Nat := 100
  deriving DecidableEq, Repr

/-- A quadrant's banks (R58, R59). -/
inductive QuadState where
  | off | clearing | on | draining
  deriving DecidableEq, Repr

/-- The Bolt, the Shuttles and the Treadle. Queue indices are port x 8 + class; cell, descriptor and link-entry indices are the manual's. `unweighted` are the queues that became contended with 64 tracked (R51). -/
structure Fabric where
  frames : List Frame := []
  nextIdent : Nat := 0
  queues : SMap (List QEnt) := []
  occ : SMap Nat := []
  use : SMap Nat := []
  pool : Nat := 0
  headroom : SMap Nat := []
  buf : SMap BufParam := []
  banks : SMap FreeList := []
  grantPtr : SMap Nat := []
  acceptPtr : SMap Nat := []
  slot : Nat := 0
  tracked : List Tracked := []
  unweighted : List Nat := []
  linkWords : SMap (BitVec 32) := []
  descs : SMap (BitVec 128) := []
  mcLinks : SMap (BitVec 64) := []
  mcFree : FreeList := {}
  tx : SMap (Option Tx) := []
  preempted : SMap (Option Tx) := []
  quads : SMap QuadState := []
  deriving DecidableEq, Repr

/-- Transmission parameters of an egress queue (R65): selection 0 Strict, 1 CBS, 2 DWRR. -/
structure QueueParam where
  sel : Nat := 0
  weight : Nat := 16
  idle : Nat := 0
  preemptable : Bool := true
  maxSdu : Nat := 9216
  deriving DecidableEq, Repr

/-- A gate control list with its parameters (R73). Times are Beacon nanoseconds. -/
structure GateList where
  len : Nat := 0
  cycle : Nat := 0
  ext : Nat := 0
  base : Nat := 0
  shut : BitVec 8 := 0
  enable : Bool := false
  ents : SMap (BitVec 128) := []
  deriving DecidableEq, Repr

/-- A stitch override in force (R76): its gate states, its end and its list position. -/
structure Override where
  gates : BitVec 8
  stop : Int
  pos : Nat
  deriving DecidableEq, Repr

/-- The gates of an egress port (R73-R85). -/
structure PortGates where
  act : GateList := {}
  shadow : GateList := {}
  live : Bool := false
  ct : Int := 0
  pend : Option Int := none
  cur : Nat := 0
  cycleStart : Int := 0
  gates : BitVec 8 := 0
  ovr : Option Override := none
  hold : Bool := false
  infeasible : Bool := false
  deriving DecidableEq, Repr

/-- An entry of a stream gate's list (R91): open, internal priority (none: 255), interval in ns. -/
structure SgEntry where
  isOpen : Bool
  prio : Nat
  interval : Nat
  deriving DecidableEq, Repr

/-- A stream gate's list and parameters. -/
structure SgList where
  ents : List SgEntry := []
  cycle : Nat := 0
  ext : Nat := 0
  base : Nat := 0
  lockOption : Bool := false
  deriving DecidableEq, Repr

/-- A stream gate (R91). -/
structure StreamGate where
  act : SgList := {}
  shadow : SgList := {}
  live : Bool := false
  ct : Int := 0
  pend : Option Int := none
  cur : Nat := 0
  locked : Bool := false
  deriving DecidableEq, Repr

/-- A policer (R92, R93). Buckets count in units of 1/4,000,000 byte, in which one kbit/s is one unit per BCN cycle. -/
structure Policer where
  present : Bool := false
  cf : Bool := false
  cm : Bool := false
  dropYellow : Bool := false
  markRed : Bool := false
  cir : Nat := 0
  eir : Nat := 0
  cbs : Nat := 0
  ebs : Nat := 0
  cTok : Nat := 0
  eTok : Nat := 0
  at_ : Nat := 0
  red : Bool := false
  deriving DecidableEq, Repr

/-- A sequence recovery function (R96, R97). `history` bit i is the sequence number `last` minus i. -/
structure Recov where
  present : Bool := false
  isMatch : Bool := false
  takeNoSeq : Bool := false
  strip : Bool := false
  histLen : Nat := 2
  resetMs : Nat := 1000
  paths : Nat := 2
  diff : Nat := 0
  testMs : Nat := 2000
  latResetMs : Nat := 30000
  takeAny : Bool := true
  last : Nat := 0
  history : Nat := 0
  passedAt : Nat := 0
  passed : Nat := 0
  discarded : Nat := 0
  testAt : Nat := 0
  latResetAt : Nat := 0
  deriving DecidableEq, Repr

/-- Queues, shapers, gates and per-stream functions. `nextParam` are transmission parameters that wait for the end of a frame in transmission (R65). -/
structure Sched where
  qparam : SMap QueueParam := []
  nextParam : SMap (Option QueueParam) := []
  deficit : SMap Int := []
  dwrrPtr : SMap Nat := []
  visiting : SMap Bool := []
  credit : SMap Int := []
  overrate : SMap Bool := []
  preempt : SMap Nat := []
  gates : SMap PortGates := []
  sgates : SMap StreamGate := []
  filters : SMap StreamFilter := []
  policers : SMap Policer := []
  gens : SMap (Option Nat) := []
  recovs : SMap Recov := []
  deriving DecidableEq, Repr

/-- A spreading group (R158). -/
structure Group where
  members : List Nat := []
  seed : Nat := 0
  deriving DecidableEq, Repr

/-- An ACF container's fields (R178). -/
structure Container where
  subtype : Nat := 0
  da : BitVec 48 := 0
  sa : BitVec 48 := 0
  tci : BitVec 16 := 0
  stream : BitVec 64 := 0
  recType : Nat := 0
  maxData : Nat := 0
  flush : Nat := 0
  deriving DecidableEq, Repr

/-- A slot of a channel's slot table: event key and REPEAT (R176). -/
structure SlotDef where
  key : BitVec 128 := 0
  repeating : Bool := false
  deriving DecidableEq, Repr

/-- A LIN frame table entry (R183): role 0 ignore, 1 publish, 2 subscribe as the manual's list of roles is coded in LIN_FRAMES (log entry 16). -/
structure LinFrameDef where
  len : Nat := 0
  enhanced : Bool := false
  role : Nat := 0
  init : List Byte := []
  deriving DecidableEq, Repr

/-- A discrete release table entry (R206). -/
structure DiscDef where
  key : BitVec 128 := 0
  value : BitVec 32 := 0
  mask : BitVec 32 := 0
  deriving DecidableEq, Repr

/-- An ISO 11783 interconnect instance (R186, R188). -/
structure IsoDef where
  own : Bool := false
  tractor : BitVec 32 := 0
  implement : BitVec 32 := 0
  tName : BitVec 64 := 0
  tAddr : Nat := 0
  iName : BitVec 64 := 0
  iAddr : Nat := 0
  deriving DecidableEq, Repr

/-- The tables that belong to an epoch (R17, R328). Slot, LIN-frame, LIN-schedule and discrete tables are indexed channel x 64 + slot, channel x 64 + identifier, channel x 4 + table and link x 16 + entry. -/
structure EpochTables where
  number : Nat := 0
  nodes : List Nat := []
  roots : SMap (Option Nat) := []
  ownTree : Bool := false
  zoneMap : SMap Nat := []
  matrix : SMap (BitVec 8) := []
  groups : SMap Group := []
  routes : SMap (BitVec 128) := []
  containers : SMap Container := []
  slots : SMap SlotDef := []
  linFrames : SMap LinFrameDef := []
  linTables : SMap (List (BitVec 32)) := []
  discs : SMap DiscDef := []
  isos : SMap IsoDef := []
  deriving DecidableEq, Repr

/-- A frame in the fragment hold buffer (R154); `ident` is the handle of one that its ingress still delivers. -/
structure Held where
  ident : Option Nat := none
  keyPort : Nat
  bytes : List Byte
  epoch : Option Nat
  key : PKey
  arrived : Nat
  deriving DecidableEq, Repr

/-- A fragment table entry (R151-R154): EARLY or RESOLVED. -/
structure Frag where
  slot : Nat
  ident : List Byte
  early : Bool
  epoch : Nat
  leaf : Nat := 0
  hash : Nat := 0
  since : Nat
  held : List Held := []
  deriving DecidableEq, Repr

/-- The Pattern: node memory, epochs, options and the fragment table. -/
structure Pattern where
  nodeMem : SMap (BitVec 512) := []
  current : Option EpochTables := none
  draining : Option EpochTables := none
  pending : Option EpochTables := none
  nextNumber : Nat := 0
  expressMask : BitVec 32 := 0
  depthAction : SMap Nat := []
  fragMs : Nat := 30
  workers : Nat := 1
  workerSeed : Nat := 0
  frags : List Frag := []
  deriving DecidableEq, Repr

/-- A freshness entry (R169). The manual gives the window no reset value and no command that writes it: it stands at 1 (DESIGN CHOICE, log entry 19). -/
structure Fresh where
  tx : Nat := 0
  last : Nat := 0
  window : Nat := 1
  deriving DecidableEq, Repr

/-- The Seam: rule counters (frames, bytes), freshness entries, the Keeper's zone decisions (R162) with a zone swap that still waits. -/
structure Seam where
  rules : SMap (Nat × Nat) := []
  fresh : SMap Fresh := []
  keeperZones : SMap (Option Nat) := []
  swapWaits : Bool := false
  swapAt : Nat := 0
  deriving DecidableEq, Repr

end Sys2Proof.Machine
end

