-- ==== Sys2Proof/Machine/BodkinState.lean ====
section
/-! DEFINITION. Machine/BodkinState.lean: the state of the Bodkin cipher engine (R285-R308) and of the Thimble key store (R263-R284). -/

namespace Sys2Proof.Machine

/-- A Bodkin context (R290): record, messages and MAC input bytes since the key's start and whether their soft limit has been reported (R304), and when a drop of it last raised an event (R293). Reset: REKEY_FRAC 0b01, all else 0. -/
structure Ctx where
  record : BitVec 256 := 1 <<< 248
  msgs : Nat := 0
  used : Nat := 0
  softSent : Bool := false
  dropEventAt : Option Nat := none
  deriving DecidableEq, Repr

/-- The Bodkin's modes (R303). -/
inductive BodMode where
  | start | service | test | recovery
  deriving DecidableEq, Repr

/-- A packet that port 29 has handed to a lane, not processed yet: the frame, its bytes and the lane, which is that of its pipeline from then on (R286). -/
structure BodItem where
  frame : Frame
  bytes : List Byte
  lane : Nat := 0
  deriving DecidableEq, Repr

/-- A processed packet that has not left its pipeline: the frame, its new bytes, and for the receive direction the verification, freshness value and freshness entry that its second crossing carries (R287, R301). -/
structure BodOut where
  frame : Frame
  bytes : List Byte
  verified : Bool := false
  fv : Option Nat := none
  fresh : Nat := 0
  deriving DecidableEq, Repr

/-- A key in shared form at the input of the key schedule (R266): its slot, the masked value and the mask. -/
structure Shares where
  slot : Nat
  masked : List Byte
  mask : List Byte
  deriving DecidableEq, Repr

/-- The Bodkin. SA entries are indexed context x 4 + AN; an unlisted entry has NEXT_PN 1 and is not VALID. `items` are the packets of the four lanes, oldest first; `pipes` the processed packets per pipeline; `asked` the Keeper's requests that wait for room in pipeline 0 (R302). -/
structure Bodkin where
  mode : BodMode := .start
  ctx : SMap Ctx := []
  sas : SMap (BitVec 256) := []
  items : List BodItem := []
  pipes : SMap (List BodOut) := []
  invocation : SMap Nat := []
  fetched : Option Shares := none
  reply : Option (Status × List Byte) := none
  asked : List CryptoReq := []
  deriving DecidableEq, Repr

/-- The MRAM image of a key slot: its two records and two commit records (R264, R265), as the Thimble reads them, after the permutation at rest is undone (R266). -/
structure SlotSt where
  recA : BitVec 512 := 0
  recB : BitVec 512 := 0
  cr0 : BitVec 128
  cr1 : BitVec 128
  lost : Bool := false
  deriving DecidableEq, Repr

/-- The Thimble: roots (programmed, killed, values), scramble seed, lifecycle log of 32 entries, slots, nonces with the cycle at which they expire, the random source's fault, the cycle until which a lifecycle transition runs (R280), and the slots whose records MRAM does not hold as written, which R272 finds by its read-back (log entry 95). Reset contents are those of a module that has left Hasabor: PROVISION, roots 0 and 1 programmed (R268, R277, R278); the values of roots 0 and 1 and of the seed are not printed in the manual and stand at 0 (log entry 17). -/
structure Thimble where
  programmed : BitVec 4 := 3
  killed : BitVec 4 := 0
  roots : SMap (List Byte) := []
  seed : BitVec 256 := 0
  log : SMap (BitVec 8) := [(0, 0xC8)]
  slots : SMap SlotSt := []
  lcNonce : Option (List Byte × Nat) := none
  dbgNonce : Option (List Byte × Nat) := none
  rngFault : Bool := false
  lcUntil : Nat := 0
  worn : BitVec 64 := 0
  deriving DecidableEq, Repr

end Sys2Proof.Machine
end

