-- ==== Sys2Proof/Machine/BootState.lean ====
section
/-! DEFINITION. Machine/BootState.lean: MRAM apart from the key journal (firmware banks, control block, configuration image, event log), the active configuration as records, and the boot (R475-R491). -/

namespace Sys2Proof.Machine

/-- A firmware bank (R477, R478): the bytes written to it by offset, whether bytes not written since are those of the firmware it was delivered with (log entry 27), whether that firmware is untouched, and whether it has passed FW_VERIFY since it was last written. -/
structure Bank where
  cells : SMap (Option Byte) := []
  factory : Bool := false
  intact : Bool := false
  verified : Bool := false
  deriving DecidableEq, Repr

/-- A copy of the configuration image (R483). -/
structure Image where
  format : Nat
  gen : Nat
  recs : List ImageRec
  digest : List Byte
  deriving DecidableEq, Repr

/-- Boot and MRAM state. `last`: KPR_LAST_RESET (R327); `booted`: configuration load complete; `bank`: running bank; `preferred`: bank named by the boot record; `records`: the active configuration, oldest record first (R484); `epochRecords` those of the current epoch, `pendingRecords` those of the pending epoch; `events`: the event log's newest entries, oldest first, and how many were ever written (R326); `loadDue`: the boot that runs may complete from this cycle; `strap`: MSPI chip-select held at reset release (R488). -/
structure Boot where
  count : Nat := 0
  last : Nat := 0
  booted : Bool := false
  bank : Nat := 0
  preferred : Nat := 0
  banks : SMap Bank := [(0, { factory := true, intact := true })]
  copies : SMap (Option Image) := []
  records : List ImageRec := []
  epochRecords : List ImageRec := []
  pendingRecords : List ImageRec := []
  defaulted : Bool := false
  storedRate : Int := 0
  events : List (List Byte) := []
  eventTotal : Nat := 0
  kept : SMap Nat := []
  strap : Bool := false
  fellBack : Bool := false
  deriving DecidableEq, Repr

end Sys2Proof.Machine
end

