-- ==== Sys2Proof/Machine/EdgeState.lean ====
section
/-! DEFINITION. Machine/EdgeState.lean: the state of the edge gateway (R170-R190) and of the CAN and LIN channels (R243-R262). -/

namespace Sys2Proof.Machine

/-- A message in a transmit queue (R174, R175): its data and the cycle it was queued in. -/
structure TxMsg where
  msg : CanMsg
  since : Nat
  deriving DecidableEq, Repr

/-- A message or frame that the gateway has taken from the queues of port 28 (R170): its bytes, its leaf's route, its epoch and the port at which it entered. -/
structure EdgeItem where
  bytes : List Byte
  ek : EdgeKind
  keyPort : Nat
  route : Nat
  epoch : Option Nat
  stamp : Nat
  deriving DecidableEq, Repr

/-- A container's frame in progress (R178): its container, its records, and when its first record came. -/
structure AcfFrame where
  cont : Container := {}
  recs : List (List Byte) := []
  since : Nat := 0
  deriving DecidableEq, Repr

/-- What a firing handed to a channel's controller and still waits for the bus, with the slot it came from: at most one for each slot of a channel, in the order of the firings (R176). -/
structure Handed where
  slot : Nat
  msg : CanMsg
  since : Nat
  deriving DecidableEq, Repr

/-- Bus states of a CAN channel: off the bus, integrating, on the bus, bus-off, bus-off recovery in progress (R245, R250, R330). -/
inductive BusState where
  | off | integrating | on | busOff | recovering
  deriving DecidableEq, Repr

/-- A physical CAN channel C0-C15: record (R243), bus and error state (R250, R251), FIFO (R248), the frame it is transmitting (R249), rate detection (R252, R253) and transceiver (R247). `tail` is the record under which a frame in reception at a change of the record is still received (R245); `offAt` the cycle of the last entry to bus-off (R261). -/
structure CanChan where
  record : BitVec 128
  bus : BusState := .off
  tec : Nat := 0
  recv : Nat := 0
  lastErr : Nat := 0
  lastPhase : Bool := false
  fifo : List (CanMsg × Nat) := []
  sending : Option (TxMsg × Option Nat) := none
  waitUntil : Option Nat := none
  stbN : Bool := false
  en : Bool := false
  cands : List (BitVec 64) := []
  confirm : Nat := 3
  dwell : Nat := 100
  rounds : Nat := 4
  commitAuto : Bool := true
  rateState : Nat := 0
  cand : Nat := 0
  roundsDone : Nat := 0
  goodRun : Nat := 0
  dataSeen : Bool := false
  candAt : Nat := 0
  tail : Option (BitVec 128) := none
  offAt : Option Nat := none
  deriving DecidableEq, Repr

/-- A virtual CAN channel VC0-VC15: record (R246) and the record in transmission on its thread is the Selvage's. -/
structure VcChan where
  record : BitVec 128
  deriving DecidableEq, Repr

/-- Selective wake of a CAN channel (R254, R255): record in force by WAKE_SET, the copy taken at DEEP entry, and the decoder's error count. -/
structure WakeCfg where
  record : BitVec 192
  inDeep : Option (BitVec 192) := none
  errors : Nat := 0
  deriving DecidableEq, Repr

/-- The latest wake recorded by AO (R256): channel, cause, DLC, identifier, data and AO count. -/
structure WakeRecord where
  channel : Nat := 0
  cause : Nat := 0
  dlc : Nat := 0
  ident : Nat := 0
  data : List Byte := []
  aoCount : Nat := 0
  deriving DecidableEq, Repr

/-- A LIN channel (R257-R260): record; schedule (R184): selected and requested table, position, end of the running entry; the frame whose response is awaited; the response that a commander has published and reads back (R259); whether a go-to-sleep command waits for the frame in progress (R401). -/
structure LinChan where
  record : BitVec 64
  table : Nat := 0
  wanted : Option Nat := none
  swapped : Bool := false
  pos : Nat := 0
  running : Bool := false
  entryEnds : Nat := 0
  current : List (BitVec 32) := []
  waiting : Option (Nat × Nat) := none
  seenPid : Byte := 0
  syncStamp : Nat := 0
  echo : Option (List Byte) := none
  sleepDue : Bool := false
  deriving DecidableEq, Repr

/-- An address table entry of an ISO 11783 instance (R188): NAME and segment (true: implement). -/
structure IsoAddr where
  name : BitVec 64
  implement : Bool
  deriving DecidableEq, Repr

/-- The edge gateway. Channel-and-number tables are indexed channel x 64 + number. -/
structure Edge where
  inbox : List EdgeItem := []
  txq : SMap (List TxMsg) := []
  slotBuf : SMap (Option CanMsg) := []
  handed : SMap (List Handed) := []
  acf : SMap AcfFrame := []
  acfSeq : SMap Nat := []
  linBuf : SMap (Option (List Byte)) := []
  can : SMap CanChan := []
  vc : SMap VcChan := []
  lin : SMap LinChan := []
  wake : SMap WakeCfg := []
  wakeRec : WakeRecord := {}
  oscillator : Option Nat := none
  isoAddrs : SMap (Option IsoAddr) := []
  deriving DecidableEq, Repr

end Sys2Proof.Machine
end

