-- ==== Sys2Proof/Machine/Emission.lean ====
section
/-! DEFINITION. Machine/Emission.lean: what leaves the module at its boundary. The list of emissions in State is the model's own trace of outputs, oldest first (log entry 7). -/

namespace Sys2Proof.Machine

/-- The pins whose levels the module drives by its state: STB_N and EN of a CAN channel (R247), ACTIVE_N and TWIN_HB_OUT (R439), FAULT_N (R416). -/
inductive PinName where
  | stbN (ch : Nat) | en (ch : Nat) | activeN | twinHbOut | faultN
  deriving DecidableEq, Repr

/-- One thing that leaves the module. -/
inductive Emission where
  /-- A frame sent by an external port; `bad` when its FCS is invalid (R235). -/
  | frame (port : Nat) (bytes : List Byte) (bad : Bool)
  /-- The error block that replaces the terminate block of a frame with an invalid FCS (R235). -/
  | errorBlock (port : Nat)
  /-- Bytes read from MSPI by its controller (R320). -/
  | mspi (bytes : List Byte)
  /-- A CAN frame offered to the bus (R249). -/
  | can (ch : Nat) (msg : CanMsg)
  /-- A LIN header sent by a commander: its break and delimiter in bit times, then the sync byte and the PID (R258). -/
  | linHeader (ch breakBits delimBits : Nat) (bytes : List Byte)
  /-- A LIN response with its checksum (R183). -/
  | linResponse (ch : Nat) (bytes : List Byte)
  /-- A LIN wake pulse of this many microseconds (R260). -/
  | linWake (ch : Nat) (us : Nat)
  /-- A transmitted Selvage superframe: the bytes of its blocks 0-11, and its 1,024 blocks as the line carries them, each a sync header above a scrambled payload (R192, R193, R195). -/
  | superframe (link : Nat) (blocks : List (List Byte)) (line : List (BitVec 66))
  /-- Bits clocked out of a Selvage overhead serial port (R210). -/
  | sdcc (link : Nat) (dccB : Bool) (data : Byte) (valid : Bool)
  /-- A mark output pulse that starts, with the Beacon nanosecond at which it ends and the level of the pin (R127). -/
  | markPulse (out : Nat) (stop : Int) (high : Bool)
  /-- A mark output returned to its inactive level, and which level that is (R127). -/
  | markIdle (out : Nat) (high : Bool)
  /-- A posted write to host memory (R339). -/
  | hostWrite (addr : Nat) (bytes : List Byte)
  /-- A read request to host memory with its tag (R339). -/
  | hostRead (tag addr len : Nat)
  /-- An MSI-X message (R357). -/
  | msix (addr : Nat) (data : Nat)
  /-- A completion of a host read of BAR space. -/
  | hostCompletion (value : Nat)
  /-- A protocol message that the Keeper sends on a fabric port (LLDP, gPTP, twin): kind and body. -/
  | keeper (port : Nat) (kind : Nat) (body : List Byte)
  /-- The Keeper's reply to an ISO 11783-4 network message (R186): channel, negative, instance and its channel sets. -/
  | isoReply (ch : Nat) (negative : Bool) (instance_ tractor implement : Nat)
  /-- A TC10 sleep request or wake on a port (R399, R407). -/
  | tc10 (port : Nat) (wake : Bool)
  /-- A twin frame on T0: type code, SEQ, GEN, body (R444, R445). -/
  | twin (kind : Nat) (seq gen : BitVec 32) (body : List Byte)
  /-- A level driven on a pin; high impedance counts as high. -/
  | pin (name : PinName) (level : Bool)
  /-- A test-port data register shifted out (R464). -/
  | testData (bytes : List Byte)
  /-- PCI Express link taken down by the module (R360). -/
  | pcieDown
  deriving DecidableEq, Repr

end Sys2Proof.Machine
end

