-- ==== Sys2Proof/Machine/PlacketState.lean ====
section
/-! DEFINITION. Machine/PlacketState.lean: the state of the Placket host bridge and of the host registers (R337-R375). -/

namespace Sys2Proof.Machine

/-- A window record after reset: SIZE_LOG2 12, all else 0 (R342). -/
def windowReset : BitVec 128 := BitVec.ofNat 128 (12 <<< 112)

/-- An address window: the active record and the staging copy (R342, R372). -/
structure Window where
  active : BitVec 128 := windowReset
  staged : BitVec 128 := windowReset
  deriving DecidableEq, Repr

/-- A mailbox ring pair (R349, R350): its four 5-bit indices and the command producer index last handed to the Keeper (R356). -/
structure MbPair where
  cmdProd : Nat := 0
  cmdCons : Nat := 0
  cplProd : Nat := 0
  cplCons : Nat := 0
  handed : Nat := 0
  deriving DecidableEq, Repr

/-- A descriptor in progress (R354): its 256 bits, its window, the requests still to issue (host address, length, frame offset), the bytes read by frame offset, the receive frame held until completion with its transmission record, how many of its TLPs are sent or dropped, and whether it has failed or only its flush read is left. `serial` tells its requests from those of an earlier descriptor of the ring. -/
structure Dma where
  desc : BitVec 256
  window : Nat
  serial : Nat
  todo : List (Nat × Nat × Nat) := []
  got : List (Nat × List Byte) := []
  tx : Option Tx := none
  len : Nat := 0
  tlps : Nat := 0
  flushing : Bool := false
  index : Nat := 0
  deriving DecidableEq, Repr

/-- A DMA ring (R353, R373): RUN, SIZE_LOG2, 13-bit indices, the producer index last handed over, and the descriptor in progress. -/
structure DmaRing where
  run : Bool := false
  sizeLog : Nat := 4
  prod : Nat := 0
  cons : Nat := 0
  handed : Nat := 0
  active : Option Dma := none
  deriving DecidableEq, Repr

/-- An outbound request that holds one of the 480 entries (R339): tag, ring, descriptor, host address, length, frame offset, bytes received, and the cycle at which its completion timeout expires. -/
structure Outbound where
  tag : Nat
  ring : Nat
  serial : Nat
  addr : Nat
  len : Nat
  off : Nat
  got : List Byte := []
  flush : Bool := false
  deadline : Nat
  deriving DecidableEq, Repr

/-- An error log entry (R347). -/
structure ErrEntry where
  inbound : Bool := false
  reason : Nat := 0
  window : Nat := 0
  initiator : Nat := 0
  length : Nat := 0
  addr : Nat := 0
  time : Nat := 0
  deriving DecidableEq, Repr

/-- The copies of other domains' state that host registers show, refreshed at every poll (R363). -/
structure HostCopies where
  lc : Nat := 1
  safe : Bool := false
  role : Nat := 0
  booted : Bool := false
  bank : Bool := false
  bootCount : Nat := 0
  powered : BitVec 16 := 0x4003
  deriving DecidableEq, Repr

/-- The Placket: ring memory of BAR0 by BAR offset and descriptor memory of BAR2, poll, interrupt causes (`side`: causes of other domains since the last poll; `fresh`: newly set since the last poll), MSI-X table by word and pending bits, PCI Express state, stopped domains, error log, windows, rings and outbound requests. -/
structure Placket where
  ringMem : Memory := []
  descMem : Memory := []
  period : Nat := 4
  nextPeriod : Nat := 4
  pollAt : Nat := 0
  cause : BitVec 32 := 0
  enable : BitVec 32 := 0
  side : BitVec 32 := 0
  fresh : BitVec 32 := 0
  msix : SMap (BitVec 32) := []
  pba : BitVec 32 := 0
  link : PcieLink := .down
  bme : Bool := false
  maxPayload : Nat := 128
  maxRead : Nat := 512
  cplNs : Nat := 50000000
  stopped : BitVec 16 := 0
  copies : HostCopies := {}
  errs : SMap ErrEntry := []
  errW : Nat := 0
  errR : Nat := 0
  errOvf : Nat := 0
  windows : SMap Window := []
  pairs : SMap MbPair := []
  rings : SMap DmaRing := []
  outs : List Outbound := []
  nextTag : Nat := 0
  serial : Nat := 0
  issueTurn : Nat := 0
  deriving DecidableEq, Repr

end Sys2Proof.Machine
end

