-- ==== Sys2Proof/Machine/PortState.lean ====
section
/-! DEFINITION. Machine/PortState.lean: the state of the Ethernet ports and partner discovery (R227-R242) and of the Yelom service (R309-R336). -/

namespace Sys2Proof.Machine

/-- A partner zone table (R240): zones of the states and entries of chassis subtype, zone and chassis ID. -/
structure PartnerZones where
  absent : Nat := 0
  unident : Nat := 0
  unlisted : Nat := 0
  ents : List (Nat × Nat × List Byte) := []
  deriving DecidableEq, Repr

/-- A stored link parameter set (R232). The equaliser and canceller state is the implementation's; the draw that stands for it is kept. -/
structure StoredSet where
  mode : Nat
  role : Nat
  coeffs : Nat
  chassis : List Byte
  portId : List Byte
  deriving DecidableEq, Repr

/-- An Ethernet port 0-26: its record (R228), link, training, stored set and partner. Partner state 0 ABSENT, 1 UNIDENTIFIED, 2 KNOWN. Training 0 not run, 1 succeeded, 2 in progress, 3 failed. -/
structure PortSt where
  record : BitVec 64
  up : Bool := false
  sends : Bool := false
  mode : Nat := 0
  role : Nat := 0
  training : Nat := 0
  fast : Bool := false
  upAt : Nat := 0
  downAt : Nat := 0
  powerGood : Option Nat := none
  stored : Option StoredSet := none
  lldpInterval : Nat := 30
  lldpWait : Nat := 2000
  absentHold : Nat := 500
  lldpNext : Nat := 0
  lldpBurst : Nat := 0
  partner : Nat := 0
  heard : Bool := false
  chassisType : Nat := 0
  chassis : List Byte := []
  portType : Nat := 0
  portId : List Byte := []
  ttlEnds : Nat := 0
  zones : Option PartnerZones := none
  deriving DecidableEq, Repr

/-- One Yelom transport: command key slot, sequence and reservation, token bucket, lockout, outstanding commands, subscription, staging buffer, waiting replies and held events. Tokens count in 1/500,000,000 token, so that a rate of one command per second is one unit per BCN cycle. -/
structure Trans where
  keySlot : Option Nat := none
  keyGen : Nat := 0
  ownerUsed : Bool := false
  lastSeq : Nat := 0
  reserved : Nat := 0
  rate : Nat := 10000
  depth : Nat := 64
  tokens : Nat := 32000000000
  tokensAt : Nat := 0
  outstanding : Nat := 0
  lockedUntil : Nat := 0
  fails : List Nat := []
  eventMask : BitVec 16 := 0
  eventCount : BitVec 32 := 0
  eventTo : Option Via := none
  staged : List Byte := []
  replies : List (Via × Bool × List Byte) := []
  events : List (List Byte) := []
  deriving DecidableEq, Repr

/-- A command accepted and not executed yet, because a mutator before it still waits (R324). -/
structure Accepted where
  cls : Nat
  opcode : Nat
  msg : Msg
  deriving DecidableEq, Repr

/-- What a waiting mutator or access waits for (R209, R286, R324, R384, R451): FRAME on a link, an access into a stopped domain, the ACK of a final delta, room in pipeline 0 of the Bodkin. -/
inductive WaitFor where
  | frame (link : Nat)
  | access (domain : Nat)
  | ack
  | lane
  deriving DecidableEq, Repr

/-- A reply held for the twin's acknowledgement (R334): the delta it waits for, since when, and the reply to send but for REPLICATED. -/
structure HeldReply where
  gen : BitVec 32
  since : Nat
  cls : Nat
  opcode : Nat
  msg : Msg
  result : List Byte
  deriving DecidableEq, Repr

/-- The Yelom service: the transports; a command that waits with what it waits for and the cycle at which it ends with TIMEOUT; commands accepted after it; replies held for the twin; the reset that a RESET command has asked for, by kind and cycle; messages that arrived in a pause (R333, R392); and the cycle at which a firmware switch ends its pause. -/
structure Yelom where
  placket : Trans := {}
  vlan : Trans := {}
  mspi : Trans := {}
  waiting : Option (Accepted × WaitFor × Nat) := none
  queue : List Accepted := []
  held : List HeldReply := []
  resetTaken : Option (Nat × Nat) := none
  parked : List (Via × List Byte) := []
  pauseUntil : Option Nat := none
  turn : Nat := 0
  deriving DecidableEq, Repr

end Sys2Proof.Machine
end

