-- ==== Sys2Proof/Machine/PowerState.lean ====
section
/-! DEFINITION. Machine/PowerState.lean: the state of clocks, power and network management (R376-R412), of the supply (R494-R496), of the Keeper, the Lamp room (R413-R433) and the debug port (R460-R474). -/

namespace Sys2Proof.Machine

/-- The power states (R389). -/
inductive PwrState where
  | run | trim | doze | deep | off
  deriving DecidableEq, Repr

/-- A power transition that is running: its target, the domains still to switch off and on (R391), and whether it is a lights-out (R403). -/
structure Transition where
  target : PwrState
  offs : BitVec 16
  ons : BitVec 16
  lights : Bool := false
  deriving DecidableEq, Repr

/-- Network states (R398). -/
inductive NetMode where
  | awake | wakeCheck | consent | asleep
  deriving DecidableEq, Repr

/-- A network (R393-R400): record, state, the cycle at which its running timer began, the NM_REQUEST hold, the KA_RULE count last read, its next KEEP_ALIVE, the phase of its round, the participants and ports that have answered it, and per port the silent rounds and exclusion. -/
structure Net where
  record : BitVec 128
  mode : NetMode := .awake
  since : Nat := 0
  hold : Bool := false
  kaSeen : Nat := 0
  kaNext : Nat := 0
  phase : Nat := 0
  answered : List (Nat × Nat) := []
  portsAnswered : List Nat := []
  deriving DecidableEq, Repr

/-- A CAN channel's participants (R397) and, per participant, the consecutive rounds its silence alone has failed (R400). -/
structure NmChan where
  nodes : BitVec 64 := 0
  silent : SMap Nat := []
  deriving DecidableEq, Repr

/-- Clocks, power and networks. `unlocked` and `dead`: domains whose PLL is not locked or whose clock has failed; `closed`: domains whose crossings the sequencer holds closed (R383). `pinsHigh`: WAKE0 and WAKE1 at their active level. `asleepPorts`: ports in TC10 sleep. -/
structure Power where
  state : PwrState := .run
  before : PwrState := .run
  trimMask : BitVec 16 := 0
  powered : BitVec 16 := 0x4003
  closed : BitVec 16 := 0xBFFC
  unlocked : BitVec 16 := 0
  resync : BitVec 16 := 0
  temps : SMap Int := []
  overflow : SMap Bool := []
  keeperTimeout : Nat := 64
  placketTimeout : Nat := 64
  transition : Option Transition := none
  nets : SMap Net := []
  chans : SMap NmChan := []
  portSilent : SMap Nat := []
  portExcluded : BitVec 27 := 0
  asleepPorts : BitVec 27 := 0
  kaPollAt : Nat := 0
  pinsHigh : BitVec 2 := 0
  wakeLatched : Bool := false
  wakePending : Bool := false
  causeNow : Nat := 0
  instNow : Nat := 0
  wakeAo : Nat := 0
  savedMask : BitVec 16 := 0
  savedNets : SMap NetMode := []
  deepAt : Nat := 0
  vinLow : Bool := false
  crankAt : Option Nat := none
  deriving DecidableEq, Repr

/-- The Lamp room (R416-R421): safe-state flag, safe-open mask, FAULT_N asserted, latched codes with the time of the first, whether the Keeper has restarted since, the cycle of the last detection with reaction S, whether the detection in hand was injected, whether the gate-open token has stopped (R430), and the double-bit errors that an injection has planted: bit 0 TCM, bit 1 tables (R422). -/
structure Lamp where
  safe : Bool := false
  safeOpen : BitVec 32 := 0
  faultN : Bool := true
  codes : List (BitVec 16) := []
  firstTime : List Byte := []
  restarted : Bool := false
  lastS : Option Nat := none
  injected : Bool := false
  tokenLost : Bool := false
  planted : BitVec 2 := 0
  deriving DecidableEq, Repr

/-- The Keeper pair (R423-R431): firmware running, self-test passed since the last S+K fault, restart of the last S+K fault, halted until a module reset, the two watchdog service bits, the watchdog's running period and hold, and the debugger's view of the main core: halt, registers, TCM words and breakpoints. -/
structure Keeper where
  up : Bool := false
  testPassed : Bool := false
  restartAt : Option Nat := none
  halted : Bool := false
  mgmtBit : Bool := false
  ctrlBit : Bool := false
  wdActive : Bool := false
  wdFrom : Nat := 0
  recovery : Bool := false
  dbgHalt : Bool := false
  regs : SMap (BitVec 32) := []
  tcm : SMap (BitVec 32) := []
  breakpoints : List Nat := []
  deriving DecidableEq, Repr

/-- Debug states (R460): an open state carries its level and whether root 1 authorised it. -/
inductive DbgState where
  | closed
  | auth (level : Nat) (vendor : Bool)
  | opened
  deriving DecidableEq, Repr

/-- The debug state and the test port's current instruction (R464). -/
structure Debug where
  state : DbgState := .closed
  ir : Byte := 1
  busy : Bool := false
  deriving DecidableEq, Repr

end Sys2Proof.Machine
end

