-- ==== Sys2Proof/Machine/SelvageState.lean ====
section
/-! DEFINITION. Machine/SelvageState.lean: the state of the two Selvage links (R191-R226). -/

namespace Sys2Proof.Machine

/-- The hitch states (R214), in the order in which LINK_STATUS codes them (R330). -/
inductive Hitch where
  | detect | qualify | ident | map | up | fail
  deriving DecidableEq, Repr

/-- A candidate of the aligner (R196, R197): block position, last SFN and consecutive passes. -/
structure Cand where
  pos : Nat
  sfn : Nat
  passes : Nat := 0
  deriving DecidableEq, Repr

/-- The defects of R213 (LOF is set at enable). -/
structure Defects where
  los : Bool := false
  lob : Bool := false
  lof : Bool := false
  mimic : Bool := false
  rdiRx : Bool := false
  mapMis : Bool := false
  discStale : Bool := false
  qualFail : Bool := false
  hitchFail : Bool := false
  unhitch : Bool := false
  deriving DecidableEq, Repr

/-- One thread of a link: the record being received with its stamp, whether bytes are discarded until the next FIRST, the bytes still to send, and whether they are a record of which nothing has gone (R200-R203). -/
structure Thread where
  rx : List Byte := []
  rxStamp : Nat := 0
  skip : Bool := false
  tx : List Byte := []
  fresh : Bool := false
  deriving DecidableEq, Repr

/-- One overhead data channel (R209, R210, R217): the frame being received (none: no flag seen yet), the stuffed bytes still to send, messages received for the host, the last received byte and whether it was content, and the byte that the SDCC port brought. -/
structure Dcc where
  rx : Option (List Byte) := none
  esc : Bool := false
  tx : List Byte := []
  inbox : List (List Byte) := []
  lastByte : Byte := 0
  lastContent : Bool := false
  sdccByte : Byte := 0
  sdccValid : Bool := false
  deriving DecidableEq, Repr

/-- A link's zone table (R222): entries of implement class, tributary zone and VC zone; default and unhitched zones. -/
structure LinkZones where
  ents : List (Nat × Nat × Nat) := []
  defTrib : Nat := 0
  defVc : Nat := 0
  unTrib : Nat := 0
  unVc : Nat := 0
  deriving DecidableEq, Repr

/-- A Selvage link. Beside its record, hitch sequence, aligner, map agreement, overhead, threads, discretes and zones: whether the standing LOS has declared its unhitch and whether the superframe being sent has seen one (R223); the bytes of a MAP_ACK queued in that superframe (R225); the discrete bits that keys set in one cycle (R225); the tributary's blocks still to send and the scrambler (R192, R207). -/
structure SelLinkSt where
  record : BitVec 64
  hitch : Hitch := .detect
  plugged : Bool := false
  rate : Nat := 0
  excluded : List Nat := []
  defects : Defects := {}
  losAt : Nat := 0
  dwellEnds : Nat := 0
  qualEnds : Nat := 0
  qualErr : Nat := 0
  qualRdi : Option Nat := none
  blockLock : Bool := false
  inFrame : Bool := false
  cands : List Cand := []
  rxSfn : Nat := 0
  elapsed : Nat := 0
  badRun : Nat := 0
  hdrGood : Bool := false
  dropThreads : Bool := false
  peerRate : Nat := 3
  peerRdi : Bool := true
  rdiCause : Nat := 0
  txSfn : Nat := 0
  agreed : Nat := 0
  switchSfn : Option Nat := none
  switched : Bool := false
  sinceSwitch : Nat := 0
  ackOk : Bool := false
  accepted : Option (List Byte) := none
  ident : Option (List Byte) := none
  identAcked : Bool := false
  phaseAt : Nat := 0
  resendAt : Nat := 0
  ttWord : Nat := 0
  ttSend : Bool := false
  ttHalf : Option (Nat × Nat × Nat) := none
  ttPair : Option (Nat × Nat) := none
  linQueue : List (Nat × Bool × List Byte) := []
  dccA : Dcc := {}
  dccB : Dcc := {}
  threads : SMap Thread := []
  discOut : BitVec 32 := 0
  discMask : BitVec 32 := 0
  discEvents : BitVec 32 := 0
  discIn : BitVec 32 := 0
  discInValid : BitVec 32 := 0
  zones : Option LinkZones := none
  losTold : Bool := false
  unhitched : Bool := false
  ackTail : Nat := 0
  discFired : Option (Nat × BitVec 32 × BitVec 32) := none
  trib : List (BitVec 66) := []
  scrambler : BitVec 58 := 0
  deriving DecidableEq, Repr

end Sys2Proof.Machine
end

