-- ==== Sys2Proof/Machine/TwinState.lean ====
section
/-! DEFINITION. Machine/TwinState.lean: the state of twin-light redundancy (R434-R459). -/

namespace Sys2Proof.Machine

/-- The states of a module in whole-unit mode, in the order of R440, with `none` for modes off and path-only. -/
inductive TwinMode where
  | wait | solo | active | sync | standby | stale | incompatible | relinquished
  deriving DecidableEq, Repr

/-- Parts of a snapshot or delta being received: generation, parts expected, records so far. -/
structure Incoming where
  gen : BitVec 32
  part : Nat
  parts : Nat
  recs : List ImageRec
  full : Bool
  deriving DecidableEq, Repr

/-- A change that restarts a port, channel or link on a standby, deferred (R450): a record to apply, or, with `gone`, one whose object returns to its reset configuration. -/
structure Deferred where
  item : ImageRec
  due : Nat
  gone : Bool := false
  deriving DecidableEq, Repr

/-- Twin state. `changed`: records of the next delta; `sentSuper`: the supervisor state last streamed (R448); `sentStatus`: the STATUS body last sent; `helloAt`, `frameAt`: when the last HELLO and the last twin frame came; `suppressed`: takeback suppressed (R455); `sent`: generations sent and not acknowledged with their cycle; `swapWaits`: an epoch swap refused with STALE_EPOCH, by number and time of its next try, and `swapAfter` the epoch records behind it; `homeTimer`: when the running hold-off ends, by the value in force when it began (R435); `askedAt`: a takeback request that awaits its grant; `granting`: a final delta that awaits its ACK before a grant (true) or a relinquish by command (false); `takeAt`: a takeover due (R453); `askedInPause`: a takeback request that came in a firmware switch's pause, or behind commands not executed (R455, R458); `superAt`: the cold start of the supervisor ends (R454); `relays`: RELAY_DOWN bodies that leave at the end of the command (R445); `keyEpochs`: the active's KEY_EPOCH values as streamed (R448). -/
structure Twin where
  mode : Nat := 0
  holdOff : Nat := 10
  st : TwinMode := .wait
  since : Nat := 0
  hbOut : Bool := false
  hbNext : Nat := 0
  hbSeen : Bool := false
  helloAt : Nat := 0
  suppressed : Bool := false
  sentSuper : List ImageRec := []
  sentStatus : List Byte := []
  helloNext : Nat := 0
  frameAt : Nat := 0
  partner : Option TwinMode := none
  partnerSerial : BitVec 64 := 0
  partnerFw : BitVec 32 := 0
  partnerFormat : Nat := 0
  relinquishSeen : Bool := false
  txSeq : BitVec 32 := 0
  gen : BitVec 32 := 0
  changed : List ImageRec := []
  deltaNext : Nat := 0
  fullNext : Nat := 0
  lastFull : Nat := 0
  sent : List (BitVec 32 × Nat) := []
  incoming : Option Incoming := none
  deferred : List Deferred := []
  swapWaits : Option (Nat × Nat) := none
  swapAfter : List ImageRec := []
  homeTimer : Nat := 0
  askedAt : Option Nat := none
  granting : Option (Bool × BitVec 32) := none
  relinquishes : List Nat := []
  askedInPause : Bool := false
  takeAt : Option Nat := none
  superAt : Option Nat := none
  busAt : Nat := 0
  partnerStatus : List Byte := []
  relays : List (List Byte) := []
  keyEpochs : List Byte := []
  deriving DecidableEq, Repr

end Sys2Proof.Machine
end

