-- ==== Sys2Proof/Machine/State.lean ====
section
/-! DEFINITION. Machine/State.lean: the whole state of the block, the reasons a step can stop, and the state after reset. -/

namespace Sys2Proof.Machine

/-- The state of the module. `pending` is the queue of commands not yet taken, first in, first out. `cyc` counts elapsed BCN cycles of 2 ns and is the model's own measure of time (log entry 2); `out` is the trace of what has left the module (log entry 7); `draws` numbers the free values drawn (log entry 6); `raised` and `faults` hold the events and detections of a command until its end (log entry 28). -/
structure State where
  pending : List Instr := []
  cyc : Nat := 0
  out : List Emission := []
  draws : Nat := 0
  /-- counters by name and instance (R7, R13) -/
  counters : SMap Nat := []
  raised : List (Ev × Nat × List Byte) := []
  /-- events, with their parameters as of their time, that wait for the packet core or for the Keeper (R20, R326; log entry 77) -/
  events : List (Ev × List Byte) := []
  faults : List (Nat × Nat) := []
  /-- the Yelom service (R309-R336) -/
  yel : Yelom := {}
  /-- Ethernet ports 0-26 (R227-R242) -/
  ports : SMap PortSt := []
  /-- Bolt, Shuttles, Treadle (R29-R63) -/
  fab : Fabric := {}
  /-- queues, gates, filters, policers, FRER (R64-R98) -/
  sch : Sched := {}
  /-- Pattern (R130-R160) -/
  pat : Pattern := {}
  /-- Seam (R161-R169) -/
  seam : Seam := {}
  /-- Beacon and gPTP (R99-R110) -/
  bcn : Beacon := {}
  /-- stitch bases, keys, marks (R111-R129) -/
  stb : Stitch := {}
  /-- edge gateway, CAN and LIN (R170-R190, R243-R262) -/
  edge : Edge := {}
  /-- Selvage links (R191-R226) -/
  sel : SMap SelLinkSt := []
  /-- Bodkin (R285-R308) -/
  bod : Bodkin := {}
  /-- Thimble (R263-R284) -/
  thm : Thimble := {}
  /-- Placket and host registers (R337-R375) -/
  plk : Placket := {}
  /-- clocks, power, networks, supply (R376-R412, R494-R496) -/
  pwr : Power := {}
  /-- Lamp room (R413-R433) -/
  lamp : Lamp := {}
  /-- Keeper pair (R423-R431) -/
  kpr : Keeper := {}
  /-- debug state and test port (R460-R474) -/
  dbg : Debug := {}
  /-- twin-light redundancy (R434-R459) -/
  twin : Twin := {}
  /-- MRAM, active configuration, boot (R475-R491) -/
  boot : Boot := {}
  deriving DecidableEq, Repr

/-- Reasons for which a step ends in a fault: the block has none, since the manual gives every command an effect (log entry 29). -/
inductive Fault where
  deriving DecidableEq, Repr

/-- Reasons for which a command is refused by the model. -/
inductive Refusal where
  /-- The command has no meaning yet. Raised by the arms of `exec` of such commands alone; safe, since the machine stops. -/
  | notModelled (mnemonic : String)
  deriving DecidableEq, Repr

/-- The module right after a power-on reset (R475, R476): every field at its reset value; the first boot counted (R481). -/
def State.reset : State := { boot := { count := 1 } }

end Sys2Proof.Machine
end

