-- ==== Sys2Proof/Machine/Ops.lean ====
section
/-! DEFINITION. Machine/Ops.lean: the named operations that every command uses: the passing of time, counters, emissions, free values, events, and the reading of ports and domains. -/

namespace Sys2Proof.Machine

/-- BCN cycles in a microsecond: the clock of the model counts cycles of 2 ns (R100; log entry 2). -/
def usCyc : Nat := 500

/-- BCN cycles in a millisecond. -/
def msCyc : Nat := 500000

/-- Beacon time wraps after 2^48 seconds (R99), in units of 2^-39 ns. -/
def beaconWrap : Nat := 2 ^ 48 * 1000000000 * 2 ^ 39

/-- The Beacon after a number of BCN cycles: each adds 2 ns x (1 + RATE x 2^-40) (R100). -/
def Beacon.pass (b : Beacon) (n : Nat) : Beacon :=
  { b with total := ((Int.ofNat b.total + Int.ofNat n * (2 ^ 40 + b.rate)) % Int.ofNat beaconWrap).toNat }

/-- Beacon nanoseconds since its zero. -/
def nowNs (s : State) : Nat := s.bcn.total / 2 ^ 39

/-- Beacon time in 2^-16 ns. -/
def nowFrac (s : State) : Nat := s.bcn.total / 2 ^ 23

/-- Beacon time in 2^-16 ns that was `n` BCN cycles ago, at the RATE in force (R100, R104). -/
def fracAgo (n : Nat) (s : State) : Nat := ((Int.ofNat s.bcn.total - Int.ofNat n * (2 ^ 40 + s.bcn.rate)) % Int.ofNat beaconWrap).toNat / 2 ^ 23

/-- The Beacon time in 2^-16 ns that comes in so many BCN cycles at the present RATE. -/
def fracIn (n : Nat) (s : State) : Nat := ((Int.ofNat s.bcn.total + Int.ofNat n * (2 ^ 40 + s.bcn.rate)) % Int.ofNat beaconWrap).toNat / 2 ^ 23

/-- A count of 2^-16 ns in the 12-byte time format (R99). -/
def timeBytes (f : Nat) : List Byte :=
  natBytes 6 (f / 2 ^ 16 / 1000000000) ++ natBytes 4 (f / 2 ^ 16 % 1000000000) ++ natBytes 2 (f % 2 ^ 16)

/-- The Beacon time now in the 12-byte format. -/
def nowBytes (s : State) : List Byte := timeBytes (nowFrac s)

/-- Elapsed microseconds since the elapsed-cycle count began. -/
def nowUs (s : State) : Nat := s.cyc / usCyc

/-- The place of a counter instance in the counter table. -/
def ctrKey (c : Ctr) (i : Nat) : Nat := c.ctorIdx * 65536 + i

/-- The value of a counter instance. -/
def count (c : Ctr) (i : Nat) (s : State) : Nat := mapGet 0 s.counters (ctrKey c i)

/-- Add to a counter instance; it saturates at its 48-bit all-ones value (R13). -/
def bumpBy (n : Nat) (c : Ctr) (i : Nat) (s : State) : State :=
  { s with counters := mapSet 0 s.counters (ctrKey c i) (Nat.min (2 ^ 48 - 1) (count c i s + n)) }

/-- Count one event. -/
def bump (c : Ctr) (i : Nat) (s : State) : State := bumpBy 1 c i s

/-- Clear a counter instance, as a read of it does (R7). -/
def clearCount (c : Ctr) (i : Nat) (s : State) : State :=
  { s with counters := mapSet 0 s.counters (ctrKey c i) 0 }

/-- Something leaves the module. -/
def emit (e : Emission) (s : State) : State := { s with out := s.out ++ [e] }

/-- A free value below a bound (0 for a bound of 0) and the state after the draw (log entry 6). -/
def drawBelow (n : Nat) (s : State) : Nat × State :=
  (Config.freeNat s.draws % n, { s with draws := s.draws + 1 })

/-- Bytes from the random source (R267; log entry 5). -/
def drawBytes : Nat → State → List Byte × State
  | 0, s => ([], s)
  | n + 1, s =>
    let r := drawBytes n { s with draws := s.draws + 1 }
    (Config.randomByte s.draws :: r.1, r.2)

/-- Raise an event of a block instance with its detail (R20, R326). Events raised by a command are delivered in order at its end. -/
def raiseEv (e : Ev) (inst : Nat) (detail : List Byte) (s : State) : State := { s with raised := s.raised ++ [(e, inst, detail)] }

/-- A safety mechanism detects a fault at an instance (R420). The Lamp room reacts at the end of the command. -/
def detectFault (mech inst : Nat) (s : State) : State := { s with faults := s.faults ++ [(mech, inst)] }

/-- The configuration record of a port after reset: every field at the reset column of R228; the S ports use only six fields. -/
def portRecordReset (p : Nat) : BitVec 64 :=
  let modeField : Nat := if p < 6 then 0 else if p < 14 ∨ p = 26 then 5 else if p < 16 then 7 else if p < 24 then 3 else 0
  let sPort := p = 24 ∨ p = 25
  BitVec.ofNat 64
    ((modeField <<< 59) + (if sPort then 0 else 1 <<< 51) + (1 <<< 48) + (if sPort then 0 else 1 <<< 47)
      + (9216 <<< 33) + (1 <<< 18) + (1 <<< 17))

/-- A port after reset. -/
def portReset (p : Nat) : PortSt := { record := portRecordReset p }

/-- An external port. -/
def getPort (p : Nat) (s : State) : PortSt := mapGet (portReset p) s.ports p

/-- Replace an external port. -/
def setPort (p : Nat) (v : PortSt) (s : State) : State := { s with ports := mapSet (portReset p) s.ports p v }

/-- The rate of a linked mode in bit/s: modes of R228, and 0x10 plus the rate code of R191 for a tributary. -/
def modeRate (m : Nat) : Nat :=
  match m with
  | 0 => 10000000000
  | 1 => 5000000000
  | 2 => 2500000000
  | 3 => 1000000000
  | 4 => 100000000
  | 5 => 10000000000
  | 6 => 1000000000
  | 7 => 25000000000
  | 16 => 9843750000
  | 17 => 4921875000
  | 18 => 2460937500
  | _ => 0

/-- Whether a fabric port's link is up; the internal ports have no link and are always up. -/
def linkUpNow (p : Nat) (s : State) : Bool := p ≥ 27 || (getPort p s).up

/-- Whether an egress port may send: its link is up, or it is a tributary whose link has lost FRAME and has not left UP (R224). -/
def sendsNow (p : Nat) (s : State) : Bool := linkUpNow p s || (getPort p s).sends

/-- A port's rate in bit/s: the rate of its linked mode, 0 while its link is down (R236) and it does not send. -/
def portRate (p : Nat) (s : State) : Nat :=
  let q := getPort p s
  if p < 27 ∧ (q.up ∨ q.sends) then modeRate q.mode else 0

/-- Whether a power domain is powered (bit order of R368). -/
def poweredNow (d : Nat) (s : State) : Bool := s.pwr.powered.getLsbD d

/-- Whether a domain is stopped: powered, not closed, and its clock not running or its crossings not resynchronised (R384). -/
def domainStuck (d : Nat) (s : State) : Bool :=
  s.pwr.powered.getLsbD d && !(s.pwr.closed.getLsbD d) && (s.pwr.unlocked.getLsbD d || s.pwr.resync.getLsbD d)

/-- Whether the blocks of a power domain work with the rest: it is powered, its clock runs and its crossings are open and resynchronised (R25, R368, R383, R386). -/
def domainRuns (d : Nat) (s : State) : Bool :=
  s.pwr.powered.getLsbD d && !(s.pwr.unlocked.getLsbD d) && !(s.pwr.resync.getLsbD d) && !(s.pwr.closed.getLsbD d)

/-- Whether a domain is powered with its clock running (R377, R383). -/
def clockRuns (d : Nat) (s : State) : Bool := poweredNow d s && !(s.pwr.unlocked.getLsbD d)

/-- Whether the Keeper executes: out of reset, not halted by its debugger or by DOZE, its clock running (R24, R25, R392, R431). -/
def keeperRuns (s : State) : Bool := s.kpr.up && !s.kpr.dbgHalt && !(s.pwr.unlocked.getLsbD 1) && s.pwr.state != .doze

/-- Whether EDGE, which holds the gateway and the CAN and LIN controllers, is powered (R368). -/
def edgePowered (s : State) : Bool := poweredNow 13 s

/-- Whether the gateway and the CAN and LIN controllers work (R25). -/
def edgeOn (s : State) : Bool := domainRuns 13 s

/-- The gate control of a port. -/
def getGates (p : Nat) (s : State) : PortGates := mapGet {} s.sch.gates p

/-- Whether the Lamp room, or the loss of its gate-open token, holds a port's gates closed (R21, R416, R430): ports 27-31 are not gated. -/
def lampCloses (p : Nat) (s : State) : Bool := (s.lamp.safe || s.lamp.tokenLost) && decide (p < 27) && !(s.lamp.safeOpen.getLsbD p)

/-- The gate outputs of a port now: closed by the Lamp room; else the override in force, else the running TIME entry; internal ports have no gates (R66, R76). -/
def gateOut (p : Nat) (s : State) : BitVec 8 :=
  let g := getGates p s
  if p ≥ 27 then 0xFF
  else if lampCloses p s then 0
  else if !g.live then (if s.boot.booted then 0xFF else 0)
  else if !g.act.enable then 0xFF
  else
    match g.ovr with
    | some o => if Int.ofNat (nowNs s) < o.stop then o.gates else g.gates
    | none => g.gates

/-- The transmission parameters of a queue after reset: preemptable for classes 0-6 of ports 0-26 (R65). -/
def queueParamReset (q : Nat) : QueueParam := { preemptable := decide (q < 216) && decide (q % 8 ≠ 7) }

/-- Transmission parameters of a queue. -/
def getQP (q : Nat) (s : State) : QueueParam := mapGet (queueParamReset q) s.sch.qparam q

/-- The frames of an egress queue, head first (R64). -/
def queueOf (q : Nat) (s : State) : List QEnt := mapGet [] s.fab.queues q

/-- Replace the fabric. -/
def setFab (f : Fabric) (s : State) : State := { s with fab := f }

/-- The queue that an egress port is transmitting from. -/
def sendingClass (p : Nat) (s : State) : Option Nat := (mapGet none s.fab.tx p).map (fun t => t.cls)

/-- The credit of a CBS queue after a number of BCN cycles in which nothing else changes (R70). The slopes are summed in 10^-6 bit, of which 1 kbit/s is 2 units per cycle; the credit held is this sum to 1/256 bit, which has the same sign (log entry 9). -/
def creditAfter (q n : Nat) (credit : Int) (s : State) : Int :=
  let p := q / 8
  let c := q % 8
  let rate := portRate p s
  let idle := (getQP q s).idle
  let m := ((List.range 8).filter (fun d => d != c)).foldl (fun a d => Nat.max a (getQP (8 * p + d) s).maxSdu) 0
  let excess := mapGet false s.sch.overrate q
  let lo : Int := if excess ∨ rate = 0 then 0 else Int.ofNat (((getQP q s).maxSdu + 20) * 8000000) * (Int.ofNat (idle * 1000) - Int.ofNat rate) / Int.ofNat rate
  let hi : Int := if rate = 0 then credit else Int.ofNat ((m + 20) * 8000000 * (idle * 1000) / rate)
  let held := !(queueOf q s).isEmpty || (match mapGet none s.fab.preempted p with | some t => t.cls == c | none => false)
  if sendingClass p s = some c then
    if excess then max 0 credit else max lo (credit + Int.ofNat n * (Int.ofNat (2 * idle) - Int.ofNat (rate / 500)))
  else if !((gateOut p s).getLsbD c) then credit
  else if !held then
    if credit < 0 then min 0 (credit + Int.ofNat (n * 2 * idle)) else 0
  else min hi (credit + Int.ofNat (n * 2 * idle))

/-- The credits of every CBS queue after a number of BCN cycles (R70). -/
def creditsAfter (n : Nat) (s : State) : SMap Int :=
  s.sch.qparam.foldl (fun m e => if e.2.sel = 1 then mapSet 0 m e.1 (creditAfter e.1 n (mapGet 0 s.sch.credit e.1) s) else m) s.sch.credit

/-- The state after a number of BCN cycles in which no command and no event occurs: time passes, the Beacon counts while its domain is powered and clocked (R25, R377), and the credits of CBS queues change. -/
def pass (n : Nat) (s : State) : State :=
  { s with cyc := s.cyc + n, bcn := if clockRuns 15 s then s.bcn.pass n else s.bcn, sch := { s.sch with credit := creditsAfter n s } }

/-- The state at a cycle count, or now if that has passed: a row that time defines first brings the clock to its time (log entry 2). -/
def advanceTo (t : Nat) (s : State) : State := pass (t - s.cyc) s

/-- A Selvage link's record after reset (R214): all rates allowed, LIN_BIND none, UNPLUG_TIME 100 ms, QUAL_LIMIT 16. -/
def linkRecordReset : BitVec 64 := BitVec.ofNat 64 ((7 <<< 59) + (8 <<< 53) + (100 <<< 43) + (16 <<< 35))

/-- A Selvage link after reset. -/
def linkReset : SelLinkSt := { record := linkRecordReset }

/-- A Selvage link. -/
def getLink (l : Nat) (s : State) : SelLinkSt := mapGet linkReset s.sel l

/-- Replace a Selvage link. -/
def setLink (l : Nat) (x : SelLinkSt) (s : State) : State := { s with sel := mapSet linkReset s.sel l x }

/-- The pipeline of a frame for the Bodkin: PIPE of its context (R286, R290). -/
def pipeOf (f : Frame) (s : State) : Nat :=
  match f.verdict.job with
  | some j => bits (mapGet ({} : Ctx) s.bod.ctx j.ctx).record 253 252
  | none => 0

/-- The packets in flight in a pipeline: the one that port 29 is handing to its lane, those in the lane and those processed (R285). -/
def inFlight (p : Nat) (s : State) : Nat :=
  (mapGet [] s.bod.pipes p).length + (s.bod.items.filter (fun i => i.lane == p)).length
    + (match mapGet none s.fab.tx 29 with
      | some t => if t.lane = p then 1 else 0
      | none => 0)

/-- What a command's execution gives (R312, R314): status, result bytes, and the state with its effect. -/
structure CmdResult where
  status : Status
  reply : List Byte
  st : State
  deriving DecidableEq, Repr

/-- A command that executed as its opcode states, with its result. -/
def done (r : List Byte) (s : State) : CmdResult := { status := .ok, reply := r, st := s }

/-- A command that ended with another status: no result and, counters apart, no effect (R314). -/
def failed (e : Status) (s : State) : CmdResult := { status := e, reply := [], st := s }

/-- Whether the twin state is SOLO or ACTIVE (R440). -/
def inControl (s : State) : Bool := s.twin.st == .solo || s.twin.st == .active

/-- The partner of a module in control stands in a standby state. -/
def pairActive (s : State) : Bool := s.twin.mode == 1 && s.twin.st == .active

/-- What the module in control sends through the standby's ports: a message of a KIND for a port or channel, as RELAY_DOWN (R445). -/
def relayTo (kind inst : Nat) (msg : List Byte) (s : State) : State :=
  if pairActive s then { s with twin := { s.twin with relays := s.twin.relays ++ [natBytes 1 kind ++ natBytes 1 inst ++ natBytes 2 0 ++ msg] } } else s

/-- Whether the module holds its wired buses off: in WAIT, in a standby state or in RELINQUISHED of whole-unit mode, and until its channels leave listen-only after a takeover (R447, R454). -/
def busesHeld (s : State) : Bool := decide (s.twin.mode = 1) && (!(inControl s) || decide (s.cyc < s.twin.busAt))

/-- A network record after reset (R393): SLEEP_WAIT 200, CONSENT_TIME 50, FALSE_WAKE 100. -/
def netReset : Net := { record := BitVec.ofNat 128 ((200 <<< 43) + (50 <<< 35) + (100 <<< 27)) }

/-- A network. -/
def getNet (n : Nat) (s : State) : Net := mapGet netReset s.pwr.nets n

/-- ENABLE of a network. -/
def Net.enabled (x : Net) : Bool := x.record.getLsbD 123

/-- Whether a fabric port is a member. -/
def Net.hasPort (x : Net) (p : Nat) : Bool := decide (p < 27) && x.record.getLsbD (93 + p)

/-- Whether a CAN channel is a member. -/
def Net.hasCan (x : Net) (ch : Nat) : Bool := decide (ch < 32) && x.record.getLsbD (61 + ch)

/-- Whether a LIN channel is a member. -/
def Net.hasLin (x : Net) (ch : Nat) : Bool := decide (ch < 8) && x.record.getLsbD (53 + ch)

/-- The enabled network that a member is in (R394). -/
def netOf (has : Net → Bool) (s : State) : Option Nat := (List.range 16).find? (fun n => (getNet n s).enabled && has (getNet n s))

/-- Whether a member's network is asleep (R401). -/
def asleepMember (has : Net → Bool) (s : State) : Bool :=
  match netOf has s with
  | some n => (getNet n s).mode == .asleep
  | none => false

end Sys2Proof.Machine
end

