-- ==== Sys2Proof/Machine/Parser.lean ====
section
/-! DEFINITION. Machine/Parser.lean: the Pattern's parser (R130-R136), its flow key, the decision-tree walk (R137-R141) and the symmetric hash (R156, R157). -/

namespace Sys2Proof.Machine

/-- Big-endian number of `n` bytes of a byte string from an offset; bytes past the end read as 0. -/
def numAt (bs : List Byte) (off n : Nat) : Nat := beNat ((bs.drop off).take n ++ List.replicate (n - (bs.length - off)) 0)

/-- What a parse of the bytes received so far gives: more bytes are needed; the frame is malformed; the key is complete (with its depth mark where the exception of R131 ended it). -/
inductive Parse where
  | need
  | malformed
  | done (k : PKey) (depth : Bool)
  deriving DecidableEq, Repr

/-- The header kinds that the parser follows (R130), as the model numbers them: 0 Ethernet, 1 VLAN tag, 2 R-TAG, 3 SecTAG, 4 IPv4, 5 IPv6, 6 IPv6 extension, 7 UDP, 8 TCP, 9 IEEE 1722, 10 Yelom, 11 Selvage, 12 CAN pseudo-header, 13 LIN pseudo-header, 14 none. The next header by EtherType. -/
def kindOfEtype (e : Nat) : Nat :=
  if e = 0x8100 ∨ e = 0x88A8 then 1 else if e = 0xF1C1 then 2 else if e = 0x88E5 then 3 else if e = 0x0800 then 4
  else if e = 0x86DD then 5 else if e = 0x22F0 then 9 else if e = 0x88B5 then 10 else if e = 0x88B6 then 11 else 14

/-- The next header by IP protocol or IPv6 next-header value. -/
def kindOfProto (v6 : Bool) (p : Nat) : Nat :=
  if p = 17 then 7 else if p = 6 then 8
  else if v6 && (p == 0 || p == 43 || p == 44 || p == 51 || p == 60) then 6 else 14

/-- What the parser carries from header to header: the key so far, header kinds seen in this pass, the end of the IP payload, the extension header's own number, whether a Fragment header was seen, and the application bytes that the pass's first SecTAG would fill (R132). -/
structure PState where
  key : PKey
  seen : List Nat := []
  ipEnd : Nat := 0
  proto : Nat := 0
  fragSeen : Bool := false
  sec : List Byte := []
  deriving DecidableEq, Repr

/-- The application bytes of an ETH_L2 key that a header fills, at their offsets from byte 32 (R136). -/
def appSecTag (h : List Byte) : List Byte :=
  (h.take 2) ++ (h.drop 2).take 4 ++ (if (numAt h 0 1 / 32) % 2 = 1 then (h.drop 6).take 8 else List.replicate 8 0)

/-- One header: the bytes it needs beyond a fixed minimum, given its first bytes. -/
def headerLen (kind proto : Nat) (h : List Byte) : Nat :=
  match kind with
  | 0 => 14
  | 1 => 4
  | 2 => 6
  | 3 => if (numAt h 0 1 / 32) % 2 = 1 then 16 else 8
  | 4 => Nat.max 20 (numAt h 0 1 % 16 * 4)
  | 5 => 40
  | 6 => if proto = 44 then 8 else if proto = 51 then (numAt h 1 1 + 2) * 4 else (numAt h 1 1 + 1) * 8
  | 7 => 8
  | 8 => 20
  | 9 => 12
  | 10 => 8
  | 11 => 4
  | _ => 24

/-- The least length of a header, which the depth limit of R131 is held against before any byte of it is read. -/
def headerLeast (kind : Nat) : Nat := headerLen kind 0 []

/-- The fewest bytes from which a header's length is known. -/
def headerMin (kind : Nat) : Nat :=
  match kind with
  | 3 => 1
  | 4 => 1
  | 6 => 2
  | _ => 0

/-- The effect of a header that lies whole in the frame: none when malformed; else the parse state, and the kind of its successor (R130, R132, R159). `h` starts at the header, `off` is its offset from the frame's first byte. -/
def readHeader (kind off : Nat) (h : List Byte) (p : PState) : Option (PState × Nat) :=
  let k := p.key
  let first := !(p.seen.contains kind)
  let p' : PState := { p with seen := kind :: p.seen }
  match kind with
  | 0 =>
    let e := numAt h 12 2
    some ({ p' with key := if first then { k with da := numAt h 0 6, sa := numAt h 6 6, etype := e } else { k with etype := k.etype } }, kindOfEtype e)
  | 1 =>
    let tci := numAt h 0 2
    let e := numAt h 2 2
    let n := p.seen.count 1
    let k1 := if n = 0 then { k with outer := tci, inner := 0, tags := 1 } else if n = 1 then { k with inner := tci, tags := 2 } else { k with tags := 3 }
    some ({ p' with key := { k1 with etype := e } }, kindOfEtype e)
  | 2 =>
    let e := numAt h 4 2
    some ({ p' with key := { (if first then { k with rtag := true, rseq := numAt h 2 2 } else k) with etype := e } }, kindOfEtype e)
  | 3 =>
    let tci := numAt h 0 1
    let n := if (tci / 32) % 2 = 1 then 14 else 6
    let e := numAt h n 2
    let clear := (tci / 4) % 4 = 0
    let nxt := if clear then kindOfEtype e else 14
    let k1 := { k with sectag := true, etype := if clear then e else 0x88E5 }
    let app := if first then appSecTag h else p.sec
    some ({ p' with key := if nxt = 14 then { k1 with app := app } else k1, sec := app }, nxt)
  | 4 =>
    let ihl := numAt h 0 1 % 16
    let total := numAt h 2 2
    let fo := numAt h 6 2 % 8192
    let mf := (numAt h 6 2 / 8192) % 2 = 1
    if numAt h 0 1 / 16 ≠ 4 ∨ ihl < 5 ∨ total < ihl * 4 ∨ fo * 8 + (total - ihl * 4) > 65535 then none
    else
      let proto := numAt h 9 1
      let k1 := if first then
        { k with ipVer := 4, tos := numAt h 1 1, proto := proto, isFrag := mf || fo != 0, firstFrag := mf && fo == 0, opts := ihl > 5, ttl := numAt h 8 1,
                 src := numAt h 12 4, dst := numAt h 16 4, fragId := numAt h 4 2, claim := some (off + total), sport := 0, dport := 0, tcpFlags := 0 } else k
      some ({ p' with key := k1, ipEnd := off + total, proto := proto, fragSeen := mf || fo != 0 }, if fo ≠ 0 then 14 else kindOfProto false proto)
  | 5 =>
    let len := numAt h 4 2
    let nh := numAt h 6 1
    let nxt := kindOfProto true nh
    if len = 0 ∧ nxt ≠ 14 then none
    else
      let k1 := if first then
        { k with ipVer := 6, tos := numAt h 0 2 / 16 % 256, proto := nh, ttl := numAt h 7 1, flow := numAt h 1 3 % 2 ^ 20, src := numAt h 8 16, dst := numAt h 24 16,
                 isFrag := false, firstFrag := false, ext := false, claim := some (off + 40 + len), sport := 0, dport := 0, tcpFlags := 0 } else k
      some ({ p' with key := k1, ipEnd := off + 40 + len, proto := nh }, nxt)
  | 6 =>
    let nh := numAt h 0 1
    if off + headerLen 6 p.proto h > p.ipEnd then none
    else if p.proto = 44 then
      let fo := numAt h 2 2 / 8
      let mf := numAt h 2 2 % 2 = 1
      if fo * 8 + (p.ipEnd - (off + 8)) > 65535 then none
      else
        let k1 := { k with ext := true, proto := nh }
        let k2 := if p.fragSeen then k1 else { k1 with isFrag := mf || fo != 0, firstFrag := mf && fo == 0, fragId := numAt h 4 4 }
        some ({ p' with key := k2, proto := nh, fragSeen := true }, if fo ≠ 0 then 14 else kindOfProto true nh)
    else some ({ p' with key := { k with ext := true, proto := nh }, proto := nh }, kindOfProto true nh)
  | 7 =>
    let len := numAt h 4 2
    if len < 8 ∨ off + len > p.ipEnd then none
    else some ({ p' with key := if first then { k with sport := numAt h 0 2, dport := numAt h 2 2 } else k }, 14)
  | 8 =>
    let d := numAt h 12 1 / 16
    if d < 5 ∨ off + d * 4 > p.ipEnd then none
    else some ({ p' with key := if first then { k with sport := numAt h 0 2, dport := numAt h 2 2, tcpFlags := numAt h 13 1 } else k }, 14)
  | 9 =>
    let sv := numAt h 1 1 / 128
    some ({ p' with key := { k with app := [h.getD 0 0, BitVec.ofNat 8 (sv * 128), 0, 0] ++ (if sv = 1 then (h.drop 4).take 8 else List.replicate 8 0) } }, 14)
  | 10 => some ({ p' with key := { k with app := h.take 6 } }, 14)
  | 11 => some ({ p' with key := { k with app := h.take 2 } }, 14)
  | _ => some (p', 14)

/-- Whether a successor value is one that the parser does not follow. -/
def noKind (k : Nat) : Bool := k == 14

/-- The headers from one offset on. `base` is the offset that the limits of R131 count from, `stop` the end of the frame less its FCS where the frame has ended; until then the last four bytes may be its FCS. -/
def parseFrom (bs : List Byte) (stop : Option Nat) (base : Nat) : Nat → Nat → Nat → Nat → PState → Parse
  | 0, _, _, _, p => .done { p.key with depthExc := true } true
  | fuel + 1, layer, kind, off, p =>
    if noKind kind then .done p.key false
    else if layer ≥ 8 then .done p.key true
    else
      let h := bs.drop off
      let lim := base + 256
      let avail := match stop with
        | some e => e - off
        | none => bs.length - 4 - off
      let short : Parse := match stop with
        | some _ => .malformed
        | none => .need
      if off + headerLeast kind > lim then .done p.key true
      else if avail < headerMin kind then short
      else if off + headerLen kind p.proto h > lim then .done p.key true
      else if kind = 4 ∧ (numAt h 0 1 / 16 ≠ 4 ∨ numAt h 0 1 % 16 < 5) then .malformed
      else if avail < headerLen kind p.proto h then short
      else
        match readHeader kind off h { p with key := { p.key with layers := p.key.layers ++ [(if kind = 6 then 16 + p.proto else kind, off)] } } with
        | none => .malformed
        | some (p', nxt) => parseFrom bs stop base fuel (layer + 1) nxt (off + headerLen kind p.proto h) p'

/-- A frame's end less its FCS, where it has ended; a message from port 28 carries no FCS (log entry 18). -/
def frameStop (f : Frame) (hasFcs : Bool) : Option Nat :=
  if f.ended then some (if hasFcs then f.bytes.length - 4 else f.bytes.length) else none

/-- Parse a CAN or LIN message: its pseudo-header and up to 8 data bytes (R130, R134). -/
def parsePseudo (f : Frame) (lin : Bool) : Parse :=
  if f.bytes.length < 24 ∧ ¬ f.ended then .need
  else .done { pseudo := f.bytes.take 32, lin := lin, layers := [(if lin then 13 else 12, 0)] } false

/-- The key of a frame, as far as its bytes have come; `tci` is the ingress port's default (R132). -/
def parseFrame (f : Frame) (tci : Nat) : Parse :=
  match f.second with
  | some x =>
    if x.viaBodkin then
      if f.ek ≠ .ethernet then parsePseudo f (f.ek == .lin)
      else parseFrom f.bytes (frameStop f true) 0 9 0 0 0 { key := { outer := tci } }
    else parseFrom f.bytes (frameStop f true) x.start 9 0 (if x.kind < 16 then x.kind else 6) x.start
      { key := { x.key with layers := [] }, ipEnd := x.key.claim.getD 0, proto := x.kind - 16 }
  | none =>
    match f.ek with
    | .ethernet => parseFrom f.bytes (frameStop f true) 0 9 0 0 0 { key := { outer := tci } }
    | .can => parsePseudo f false
    | .lin => parsePseudo f true

/-- KEY_TYPE of a key (R136). -/
def keyType (k : PKey) : Nat :=
  if k.pseudo ≠ [] then (if k.lin then 4 else 3) else if k.ipVer = 4 then 1 else if k.ipVer = 6 then 2 else 0

/-- A byte string cut or padded with zeros to a length. -/
def fit (n : Nat) (bs : List Byte) : List Byte := (bs ++ List.replicate n 0).take n

/-- The bits that a key's flag byte holds. -/
def flagBits (l : List Bool) : Nat := l.foldl (fun a b => 2 * a + (if b then 1 else 0)) 0

/-- The 64 bytes of a flow key (R136). -/
def keyBytes (inPort zone : Nat) (pass2 verified : Bool) (tag : Nat) (k : PKey) : List Byte :=
  let kt := keyType k
  let common := bytesOf [inPort * 8 + kt, zone * 16 + flagBits [pass2, k.follow, k.depthExc, verified], k.layers.length * 16, 0] ++ natBytes 4 tag
  let tagByte := k.tags * 64 + flagBits [k.sectag, k.rtag] * 16
  if kt ≥ 3 then
    let d := (fit 32 k.pseudo)
    fit 64 (common ++ d.take 24 ++ d.drop 24)
  else if kt = 2 then
    fit 64 (common ++ natBytes 2 k.outer ++ natBytes 2 k.inner ++ bytesOf [tagByte, 0] ++ natBytes 2 k.rseq ++ natBytes 16 k.src ++ natBytes 16 k.dst
      ++ bytesOf [k.tos, k.proto, flagBits [k.isFrag, k.firstFrag, k.ext] * 32, k.ttl] ++ natBytes 3 k.flow ++ [0]
      ++ natBytes 2 k.sport ++ natBytes 2 k.dport ++ bytesOf [k.tcpFlags])
  else
    let head := common ++ natBytes 6 k.da ++ natBytes 6 k.sa ++ natBytes 2 k.etype ++ natBytes 2 k.outer ++ natBytes 2 k.inner ++ bytesOf [tagByte, 0] ++ natBytes 2 k.rseq ++ [0, 0]
    if kt = 1 then
      fit 64 (head ++ bytesOf [k.tos, k.proto, flagBits [k.isFrag, k.firstFrag, k.opts] * 32, k.ttl] ++ natBytes 4 k.src ++ natBytes 4 k.dst
        ++ natBytes 2 k.sport ++ natBytes 2 k.dport ++ bytesOf [k.tcpFlags])
    else fit 64 (head ++ k.app)

/-- Byte `i` of a node image. -/
def nodeByte (n : BitVec 512) (i : Nat) : Nat := (n.toNat >>> (8 * (63 - i))) % 256

/-- Big-endian number of `w` bytes of a node image from byte `i`. -/
def nodeNum (n : BitVec 512) (i w : Nat) : Nat := (n.toNat >>> (8 * (64 - i - w))) % 256 ^ w

/-- How many of the first `c` thresholds of a RANGE node are at most `v`. -/
def rangeIndex (n : BitVec 512) (v : Nat) : Nat → Nat
  | 0 => 0
  | c + 1 => rangeIndex n v c + (if nodeNum n (8 + 4 * c) 4 ≤ v then 1 else 0)

/-- The child that an EXACT node names for `v` (R140). -/
def exactChild (n : BitVec 512) (v c : Nat) : Nat :=
  match (List.range c).find? (fun j => nodeNum n (8 + 4 * j) 4 == v) with
  | some j => nodeNum n (32 + 2 * j) 2
  | none => nodeNum n 44 2

/-- Whether a node's encoding is refused by R139: its type, or a cut's kind, offset, width, shift or count. -/
def nodeRefused (n : BitVec 512) : Bool :=
  let ty := nodeByte n 0 / 64
  let cut := nodeByte n 0 / 16 % 4
  let w := nodeByte n 2 % 8
  let c := nodeByte n 3 % 8
  if ty = 1 then nodeByte n 1 / 32 ≥ 6 || nodeByte n 2 / 8 % 4 ≥ 2
  else if ty ≥ 2 then true
  else cut = 3 || nodeByte n 1 > 63 || w = 0 || w > 4 || nodeByte n 1 + w > 64 || c = 0
    || (cut = 0 && c > 4) || (cut = 2 && c > 6) || (cut ≠ 0 && nodeByte n 3 / 8 ≠ 0)

/-- The children that a cut node uses (R139). -/
def nodeChildren (n : BitVec 512) : List Nat :=
  let c := nodeByte n 3 % 8
  if nodeByte n 0 / 64 ≠ 0 then []
  else
    match nodeByte n 0 / 16 % 4 with
    | 0 => (List.range (2 ^ c)).map (fun i => nodeNum n (8 + 2 * i) 2)
    | 1 => (List.range (c + 1)).map (fun i => nodeNum n (36 + 2 * i) 2)
    | _ => (List.range c).map (fun i => nodeNum n (32 + 2 * i) 2) ++ [nodeNum n 44 2]

/-- The next node of a cut node for a key (R140). -/
def nextNode (n : BitVec 512) (key : List Byte) : Nat :=
  let field := numAt key (nodeByte n 1) (nodeByte n 2 % 8)
  let v := field &&& nodeNum n 4 4
  let c := nodeByte n 3 % 8
  match nodeByte n 0 / 16 % 4 with
  | 0 => nodeNum n (8 + 2 * ((v >>> (nodeByte n 3 / 8)) % 2 ^ c)) 2
  | 1 => nodeNum n (36 + 2 * rangeIndex n v c) 2
  | _ => exactChild n v c

/-- The walk of a tree: the leaf it ends at within 24 visits, or none for a TREE_FAULT (R141). -/
def walkTree (mem : SMap (BitVec 512)) (own : List Nat) (key : List Byte) : Nat → Nat → Option Nat
  | 0, _ => none
  | fuel + 1, i =>
    let n := mapGet 0 mem i
    if !(own.contains i) || nodeRefused n then none
    else if nodeByte n 0 / 64 = 1 then some i
    else walkTree mem own key fuel (nextNode n key)

/-- How many nodes the walk visits, its leaf among them (R144). -/
def walkVisits (mem : SMap (BitVec 512)) (key : List Byte) : Nat → Nat → Nat
  | 0, _ => 0
  | fuel + 1, i => let n := mapGet 0 mem i; if nodeByte n 0 / 64 = 1 then 1 else 1 + walkVisits mem key fuel (nextNode n key)

/-- Whether every path from a set of nodes ends within so many visits (R144). -/
def pathsWithin (mem : SMap (BitVec 512)) : Nat → List Nat → Bool
  | 0, level => level.isEmpty
  | n + 1, level => pathsWithin mem n ((level.flatMap (fun i => nodeChildren (mapGet 0 mem i))).eraseDups)

/-- V_max of R144: the visits that a walk may take when the key is complete at byte `e` and the port runs at `rate` bit/s. -/
def maxVisits (e rate : Nat) : Nat := Nat.min 24 (((64 - e) * 12000000000 - 6 * rate) / (2 * rate))

/-- The byte offset at which a frame's key is complete, where it is so within the lead cell (R144). -/
def keyOffset (f : Frame) (tci : Nat) : Option Nat :=
  (List.range 65).find? (fun n => parseFrame { f with bytes := f.bytes.take (n + 4), ended := false } tci != .need)

/-- The hash inputs of a key (R156). -/
def hashInputs (k : PKey) : List Byte :=
  let order (a b : List Byte) : List Byte := if beNat a ≤ beNat b then a ++ b else b ++ a
  match keyType k with
  | 3 => fit 1 (k.pseudo.drop 1) ++ fit 4 (k.pseudo.drop 2)
  | 4 => fit 1 (k.pseudo.drop 1) ++ fit 1 (k.pseudo.drop 2)
  | 0 => order (natBytes 6 k.sa) (natBytes 6 k.da) ++ natBytes 2 k.etype ++ natBytes 2 (k.outer % 4096)
  | t =>
    let w := if t = 1 then 4 else 16
    if k.proto = 6 ∨ k.proto = 17 then
      order (natBytes w k.src ++ natBytes 2 k.sport) (natBytes w k.dst ++ natBytes 2 k.dport) ++ natBytes 1 k.proto
    else order (natBytes w k.src) (natBytes w k.dst) ++ natBytes 1 k.proto

/-- H16 of a key under a seed (R157). -/
def hash16 (seed : Nat) (k : PKey) : Nat :=
  let h := crcMsb 32 0x04C11DB7 0xFFFFFFFF (natBytes 4 seed ++ hashInputs k) ^^^ 0xFFFFFFFF
  (h >>> 16) ^^^ (h % 65536)

/-- The candidate that a hash picks among `n` (R157). -/
def pick (h16 n : Nat) : Nat := (h16 * n) >>> 16

end Sys2Proof.Machine
end

