-- ==== Sys2Proof/Machine/Streams.lean ====
section
/-! DEFINITION. Machine/Streams.lean: per-stream filtering and policing (R88-R93), FRER recovery and generation (R94-R97, R509). -/

namespace Sys2Proof.Machine

/-- A stream filter. -/
def getFilter (i : Nat) (s : State) : StreamFilter := mapGet {} s.sch.filters i

/-- Replace a stream filter. -/
def setFilter (i : Nat) (v : StreamFilter) (s : State) : State := { s with sch := { s.sch with filters := mapSet {} s.sch.filters i v } }

/-- A policer. -/
def getPolicer (i : Nat) (s : State) : Policer := mapGet {} s.sch.policers i

/-- Replace a policer. -/
def setPolicer (i : Nat) (v : Policer) (s : State) : State := { s with sch := { s.sch with policers := mapSet {} s.sch.policers i v } }

/-- A recovery function. -/
def getRecov (i : Nat) (s : State) : Recov := mapGet {} s.sch.recovs i

/-- Replace a recovery function. -/
def setRecov (i : Nat) (v : Recov) (s : State) : State := { s with sch := { s.sch with recovs := mapSet {} s.sch.recovs i v } }

/-- A stream gate. -/
def getSGate (i : Nat) (s : State) : StreamGate := mapGet {} s.sch.sgates i

/-- Replace a stream gate. -/
def setSGate (i : Nat) (v : StreamGate) (s : State) : State := { s with sch := { s.sch with sgates := mapSet {} s.sch.sgates i v } }

/-- Bucket units per byte: one kbit/s is one unit per BCN cycle (R92). -/
def tokUnit : Nat := 4000000

/-- A policer's buckets brought to a cycle: the committed bucket fills at CIR, its overflow goes to the excess bucket when CF is set, the excess bucket fills at EIR (R92). -/
def Policer.fill (p : Policer) (now : Nat) : Policer :=
  let dt := now - p.at_
  let c := p.cTok + p.cir * dt
  let excess := c - p.cbs * tokUnit
  let e := p.eTok + p.eir * dt + (if p.cf then excess else 0)
  { p with cTok := Nat.min c (p.cbs * tokUnit), eTok := Nat.min e (p.ebs * tokUnit), at_ := now }

/-- The colours a meter gives. -/
inductive Colour where
  | green | yellow | red
  deriving DecidableEq, Repr

/-- A frame of `len` bytes at a filled policer: its colour, the policer after it (R92, R93). -/
def Policer.meter (p : Policer) (len : Nat) (entersYellow : Bool) : Colour × Policer :=
  let need := len * tokUnit
  if p.markRed && p.red then (.red, p)
  else if !(p.cm && entersYellow) && decide (need ≤ p.cTok) then (.green, { p with cTok := p.cTok - need })
  else if need ≤ p.eTok then (.yellow, { p with eTok := p.eTok - need })
  else (.red, { p with red := p.markRed })

/-- The bytes charged to a bucket for a frame whose length was not known are returned when it completes (R92). -/
def refundMeter (owed : Nat × Bool × Nat) (len : Nat) (s : State) : State :=
  let p := (getPolicer owed.1 s).fill s.cyc
  let back := (owed.2.2 - len) * tokUnit
  setPolicer owed.1
    (if owed.2.1 then { p with cTok := Nat.min (p.cTok + back) (p.cbs * tokUnit) } else { p with eTok := Nat.min (p.eTok + back) (p.ebs * tokUnit) }) s

/-- The stream gate's entry in force: none when no list is committed (R509). -/
def StreamGate.entry (g : StreamGate) : Option SgEntry := if g.live then g.act.ents[g.cur]? else none

/-- The recovery algorithms of R96 and IEEE 802.1CB (log entry 85) on a sequence number: whether the frame passes, the counters it counts, the function after it. -/
def Recov.step (r : Recov) (q : Nat) (now : Nat) : Bool × List (Ctr × Nat) × Recov :=
  if r.isMatch then
    if r.takeAny then (true, [(.seamFrerPassed, 1)], { r with takeAny := false, last := q, passedAt := now, passed := r.passed + 1 })
    else if q = r.last then (false, [(.seamFrerDiscard, 1)], { r with discarded := r.discarded + 1 })
    else (true, [(.seamFrerPassed, 1)] ++ (if q = (r.last + 1) % 65536 then [] else [(.seamFrerOutOfOrder, 1)]), { r with last := q, passedAt := now, passed := r.passed + 1 })
  else if r.takeAny then (true, [(.seamFrerPassed, 1)], { r with takeAny := false, last := q, history := 1, passedAt := now, passed := r.passed + 1 })
  else
    let m := (q + 65536 - r.last) % 65536
    let ahead := decide (m < 32768)
    let mag := if ahead then m else 65536 - m
    if mag ≥ r.histLen then (false, [(.seamFrerRogue, 1)], r)
    else if ahead && decide (m > 0) then
      (true, [(.seamFrerPassed, 1)] ++ (if m > 1 then [(.seamFrerLost, m - 1)] else []),
        { r with history := (r.history <<< m ||| 1) % 2 ^ r.histLen, last := q, passedAt := now, passed := r.passed + 1 })
    else if (r.history >>> mag) % 2 = 1 then (false, [(.seamFrerDiscard, 1)], { r with discarded := r.discarded + 1 })
    else (true, [(.seamFrerPassed, 1), (.seamFrerOutOfOrder, 1)], { r with history := r.history ||| (1 <<< mag), passedAt := now, passed := r.passed + 1 })

/-- What the stream filter makes of a frame: dropped, or passed with its class, colour, whether its R-TAG is stripped, its generation function and the meter charge to settle at its end. -/
structure Filtered where
  pass : Bool
  cls : Nat
  yellow : Bool := false
  strip : Bool := false
  gen : Option Nat := none
  owed : Option (Nat × Bool × Nat) := none
  moved : Bool := false
  deriving DecidableEq, Repr

/-- The policer step of R89: an absent policer passes the frame green and counts nothing (R509). -/
def policeStep (pol : Nat) (len : Nat) (known : Bool) (dei : Bool) (r : Filtered) (s : State) : Filtered × State :=
  let p0 := getPolicer pol s
  if pol = 0xFFFF ∨ ¬ p0.present then (r, s)
  else
    let m := (p0.fill s.cyc).meter len dei
    let s1 := setPolicer pol m.2 s
    match m.1 with
    | .green => ({ r with owed := if known then none else some (pol, true, len) }, bump .seamPoliceGreen pol s1)
    | .yellow =>
      let s2 := bump .seamPoliceYellow pol s1
      if p0.dropYellow then ({ r with pass := false }, bump .seamPoliceYellowDrop pol s2)
      else ({ r with yellow := true, owed := if known then none else some (pol, false, len) }, s2)
    | .red => ({ r with pass := false }, bump .seamPoliceRed pol s1)

/-- The FRER recovery step of R89 (R96): messages of CAN and LIN keys are frames without an R-TAG (R95). In the latent-error test a passed frame without an R-TAG counts as passed, and a discarded one is no discarded copy: the spec says of neither whether it enters the test (DESIGN CHOICE, log entry 85). -/
def recovStep (fn : Nat) (hasTag : Bool) (q : Nat) (r : Filtered) (s : State) : Filtered × State :=
  let f := getRecov fn s
  if fn = 0xFFFF ∨ ¬ f.present then (r, s)
  else if !hasTag then
    if f.takeNoSeq then (r, setRecov fn { f with passedAt := s.cyc, passed := f.passed + 1 } (bump .seamFrerPassed fn s))
    else ({ r with pass := false }, bump .seamFrerTagless fn s)
  else
    let x := f.step q s.cyc
    let s1 := forEach x.2.1 (fun c t => bumpBy c.2 c.1 fn t) (setRecov fn x.2.2 s)
    ({ r with pass := x.1, strip := x.1 && f.strip }, s1)

/-- The stream gate step of R89 (R91). -/
def sgateStep (g : Nat) (r : Filtered) (s : State) : Filtered × State :=
  let x := getSGate g s
  if g = 0xFFFF then (r, s)
  else if x.locked then ({ r with pass := false }, bump .seamSgClosedDrop g s)
  else
    match x.entry with
    | none => (r, s)
    | some e =>
      if e.isOpen then ((if e.prio < 8 then { r with cls := e.prio, moved := decide (e.prio ≠ r.cls) } else r), s)
      else ({ r with pass := false }, bump .seamSgClosedDrop g (if x.act.lockOption then setSGate g { x with locked := true } s else s))

/-- The stream filter that handles a frame (R88): its leaf's, or filter 0 where its PCP does not match. -/
def handlingFilter (i : Nat) (isMsg : Bool) (pcp : Nat) (s : State) : Nat × State :=
  let f := getFilter i s
  if i = 0 then (0, s)
  else if !isMsg && f.prio != 255 && f.prio != pcp then (0, bump .seamSfNomatch i s)
  else (i, s)

/-- The checks of R89 in their order by filter `i` as it stands in `f`, over a frame of stored length `len` (known when complete), with its key. A block that has come or gone since counts as it is now (R90). -/
def filterFrame (i : Nat) (f : StreamFilter) (k : PKey) (len : Nat) (known : Bool) (cls : Nat) (s : State) : Filtered × State :=
  let s1 := bump .seamSfMatch i s
  let r0 : Filtered := { pass := true, cls := cls, gen := if f.gen = 0xFFFF then none else some f.gen }
  if i = 0 then ({ r0 with gen := none }, s1)
  else if (getFilter i s).blocked then ({ r0 with pass := false }, bump .seamSfBlocked i s1)
  else if f.maxSdu ≠ 0 ∧ len > f.maxSdu then
    ({ r0 with pass := false }, bump .seamSfOversize i (if f.blockOver then setFilter i { getFilter i s with blocked := true } s1 else s1))
  else
    let a := sgateStep f.gate r0 s1
    if !a.1.pass then a
    else
      let isMsg := decide (keyType k ≥ 3)
      let b := recovStep f.recov (k.rtag && !isMsg) k.rseq a.1 a.2
      if !b.1.pass then b
      else
        let charge := if known then len else if f.maxSdu = 0 then 9216 else f.maxSdu
        let c := policeStep f.policer charge known (!isMsg && decide (k.tags > 0) && decide ((k.outer / 4096) % 2 = 1)) b.1 b.2
        if isMsg then ({ c.1 with gen := none, strip := false }, c.2) else c

end Sys2Proof.Machine
end

