-- ==== Sys2Proof/Machine/Bolt.lean ====
section
/-! DEFINITION. Machine/Bolt.lean: the cell store: cells, descriptors, charges, banks, queues, frames and their release (R29-R31, R38-R45, R47-R51, R56, R62). -/

namespace Sys2Proof.Machine

/-- The frame with a handle. -/
def getFrame (i : Nat) (s : State) : Option Frame := s.fab.frames.find? (fun f => f.ident == i)

/-- Change the frame with a handle. -/
def updFrame (i : Nat) (u : Frame → Frame) (s : State) : State :=
  setFab { s.fab with frames := replaceIf (fun f => f.ident == i) u s.fab.frames } s

/-- Forget the frame with a handle. -/
def eraseFrame (i : Nat) (s : State) : State :=
  setFab { s.fab with frames := s.fab.frames.filter (fun f => f.ident != i) } s

/-- Buffer parameters of a queue (R47). -/
def getBuf (q : Nat) (s : State) : BufParam := mapGet {} s.fab.buf q

/-- O(q) (R49). -/
def occOf (q : Nat) (s : State) : Nat := mapGet 0 s.fab.occ q

/-- U(q) (R49). -/
def useOf (q : Nat) (s : State) : Nat := mapGet 0 s.fab.use q

/-- Replace an egress queue. -/
def setQueue (q : Nat) (l : List QEnt) (s : State) : State := setFab { s.fab with queues := mapSet [] s.fab.queues q l } s

/-- The state of a quadrant's banks; they are off until their domain has been powered and cleared (R59). -/
def quadState (q : Nat) (s : State) : QuadState := mapGet .off s.fab.quads q

/-- The quadrants whose banks take cells. -/
def quadsOn (s : State) : List Nat := (List.range 4).filter (fun q => quadState q s == .on)

/-- Whether an ingress port is enabled (R48): the internal ports always; a tributary while its Selvage link record has ENABLE (R228, R214); the others by their record. -/
def ingressEnabled (p : Nat) (s : State) : Bool :=
  p ≥ 27 || (if p = 24 ∨ p = 25 then (getLink (p - 24) s).record.getLsbD 63 else (getPort p s).record.getLsbD 63)

/-- Headroom of an ingress port in cells (R48). -/
def headroomOf (p : Nat) (s : State) : Nat :=
  if ingressEnabled p s then (if p < 27 ∧ (getPort p s).record.getLsbD 49 then 146 else 73) else 0

/-- The sum of the reservations of the 256 queues. -/
def sumReserve (s : State) : Nat := ((List.range 256).map (fun q => (getBuf q s).reserve)).foldl (· + ·) 0

/-- The sum of the headroom of the enabled ingress ports. -/
def sumHeadroom (s : State) : Nat := ((List.range 32).map (fun p => headroomOf p s)).foldl (· + ·) 0

/-- The shared pool S for a number of powered BOLT domains (R48); negative where a configuration would be refused. -/
def poolFor (n : Nat) (s : State) : Int := 32768 * n - sumReserve s - sumHeadroom s

/-- The shared pool S now. -/
def poolSize (s : State) : Int := poolFor (quadsOn s).length s

/-- S_free: the pool less the cells in use, each counted once (R49). -/
def sFree (s : State) : Nat := (poolSize s - s.fab.pool).toNat

/-- How many cells a frame of `len` bytes makes: with a lead cell for an express frame (R30); of a frame still arriving, those that are complete. -/
def cellsFormed (express ended : Bool) (len : Nat) : Nat :=
  if express then
    if len ≤ 64 then (if ended ∨ len = 64 then 1 else 0)
    else 1 + (if ended then (len - 64 + 127) / 128 else (len - 64) / 128)
  else if ended then (len + 127) / 128 else len / 128

/-- The cells that a frame's builder has complete. -/
def Frame.formed (f : Frame) : Nat := cellsFormed f.express f.ended f.bytes.length

/-- Whether a frame meets every condition of the express bypass but the time of its verdict (R36). A frame that a stream gate has moved to class 7 does not (R91). -/
def expressFits (f : Frame) (s : State) : Bool :=
  match f.verdict.ports with
  | [p] =>
    f.verdict.cls == 7 && !f.verdict.moved && decide (f.entry < 27) && decide (p < 27) && f.second.isNone && f.verdict.job.isNone
      && quadState (p / 8) s == .on && linkUpNow p s && decide (portRate p s > 0) && decide (portRate f.entry s ≥ portRate p s)
  | _ => false

/-- Whether a frame waits for its admission as an express frame, so that its cells are those of the bypass (R30, R35-R37). -/
def expressWaits (f : Frame) (s : State) : Bool := f.stage == .ready && f.verdict.inTime && f.cells.isEmpty && expressFits f s

/-- The cells that a frame's builder has written or holds complete now: its lead cell among them while it waits for its admission as an express frame (R37, R50, R60). -/
def formedNow (f : Frame) (s : State) : Nat := Nat.max f.cells.length (cellsFormed (f.express || expressWaits f s) f.ended f.bytes.length)

/-- The byte offset at which a frame's cell begins. -/
def Frame.cellStart (f : Frame) (i : Nat) : Nat := if f.express then (if i = 0 then 0 else 64 + 128 * (i - 1)) else 128 * i

/-- Bytes held by a frame's first `n` cells. -/
def Frame.bytesIn (f : Frame) (n : Nat) : Nat := if n = 0 then 0 else Nat.min f.bytes.length (f.cellStart n)

/-- The bank of a cell, 0-15 (R29). -/
def bankOf (c : Nat) : Nat := c / 8192

/-- Free rows of a bank. -/
def bankFree (b : Nat) (s : State) : Nat :=
  let l := mapGet {} s.fab.banks b
  8192 - l.fresh + l.freed.length

/-- Take a row of a bank: a row not used yet, else the row freed first (log entry 8). -/
def takeRow (b : Nat) (s : State) : Option (Nat × State) :=
  let l := mapGet {} s.fab.banks b
  if l.fresh < 8192 then
    some (b * 8192 + l.fresh, setFab { s.fab with banks := mapSet {} s.fab.banks b { l with fresh := l.fresh + 1 } } s)
  else
    match l.freed with
    | [] => none
    | r :: t => some (b * 8192 + r, setFab { s.fab with banks := mapSet {} s.fab.banks b { l with freed := t } } s)

/-- Return a cell's row to its bank. -/
def giveRow (c : Nat) (s : State) : State :=
  let l := mapGet {} s.fab.banks (bankOf c)
  setFab { s.fab with banks := mapSet {} s.fab.banks (bankOf c) { l with freed := l.freed ++ [c % 8192] } } s

/-- The cells stored in a quadrant (BOLT_QUAD_OCC, R61). -/
def quadOcc (q : Nat) (s : State) : Nat :=
  ((List.range 4).map (fun b => 8192 - bankFree (4 * q + b) s)).foldl (· + ·) 0

/-- The link word of a frame's cell `i` (the table of R30): next cell, WRITTEN, FILL of the last cell, LEAD. -/
def linkWord (f : Frame) (i : Nat) : BitVec 32 :=
  let nxt := f.cells[i + 1]?
  let last := Nat.min f.bytes.length (f.cellStart (i + 1)) - f.cellStart i
  BitVec.ofNat 32
    ((nxt.getD 0 <<< 15) + (if nxt.isSome then 1 <<< 14 else 0) + (1 <<< 13) + (if nxt.isSome then 0 else ((last - 1) % 128) <<< 6)
      + (if f.express ∧ i = 0 then 1 <<< 5 else 0))

/-- The frame descriptor (the table of R30), with the next frame of a unicast queue where one is linked. -/
def descriptor (f : Frame) (next : Option Nat) : BitVec 128 :=
  let out := (f.queues.headD (0, false)).1 / 8
  let whole := f.ended && decide (f.cells.length = f.formed)
  BitVec.ofNat 128
    ((f.cells.headD 0 <<< 111) + (f.cells.length <<< 104) + ((if whole then f.bytes.length else 0) <<< 90)
      + (flagBits [whole, f.express, f.badTail] <<< 87) + (f.entry <<< 82) + (f.verdict.cls <<< 79)
      + ((if f.verdict.yellow then 1 else 0) <<< 77) + (f.stamp <<< 57) + (f.refs <<< 51) + ((if f.multicast then 1 else 0) <<< 50)
      + (next.getD 0 <<< 33) + ((if next.isSome then 1 else 0) <<< 32) + (f.epoch.getD 0 <<< 24)
      + ((if f.multicast then 0 else out) <<< 19) + (f.verdict.stream <<< 7))

/-- The head cell of the frame behind a place in a queue. -/
def headCell (e : QEnt) (s : State) : Option Nat := (getFrame e.frame s).bind (fun f => f.cells.head?)

/-- The queue place after a frame's in a queue. -/
def afterIn (i : Nat) : List QEnt → Option QEnt
  | [] => none
  | e :: t => if e.frame = i then t.head? else afterIn i t

/-- Write a frame's descriptor and link words, once it has cells (R30). -/
def syncFrame (i : Nat) (s : State) : State :=
  match getFrame i s with
  | none => s
  | some f =>
    match f.cells.head? with
    | none => s
    | some h =>
      let nxt := if f.multicast then none else (afterIn i (queueOf (f.queues.headD (0, false)).1 s)).bind (fun e => headCell e s)
      let s1 := setFab { s.fab with descs := mapSet 0 s.fab.descs h (descriptor f nxt) } s
      forUpTo f.cells.length (fun j t => setFab { t.fab with linkWords := mapSet 0 t.fab.linkWords (f.cells.getD j 0) (linkWord f j) } t) s1

/-- Write the multicast link entries of a queue (the table of R30). In a queue that holds unicast frames too, an entry with a unicast frame behind it has NEXT_VALID 0, and a unicast frame's NEXT_FRAME names the frame behind it whether multicast or not: the spec gives no other link between the two kinds (DESIGN CHOICE, log entry 94). -/
def syncLinks (q : Nat) (s : State) : State :=
  let rec go : List QEnt → State → State
    | [], t => t
    | e :: rest, t =>
      match e.link with
      | none => go rest t
      | some l =>
        let nxt := rest.head?.bind (fun x => x.link)
        let w := ((headCell e t).getD 0 <<< 47) + (nxt.getD 0 <<< 30) + ((if nxt.isSome then 1 else 0) <<< 29) + ((q / 8) <<< 24)
        go rest (setFab { t.fab with mcLinks := mapSet 0 t.fab.mcLinks l (BitVec.ofNat 64 w) } t)
  go (queueOf q s) s

/-- Whether a queue is tracked as contended (R51). -/
def trackedOf (q : Nat) (s : State) : Option Tracked := s.fab.tracked.find? (fun t => t.queue == q)

/-- Change a tracked queue. -/
def updTracked (q : Nat) (u : Tracked → Tracked) (s : State) : State :=
  setFab { s.fab with tracked := replaceIf (fun t => t.queue == q) u s.fab.tracked } s

/-- Whether a queue is contended no longer: its occupancy is below R(q) + alpha(q) x S_free / 2 (R51). -/
def contentionOver (q free : Nat) (s : State) : Bool :=
  let b := getBuf q s
  decide (128 * occOf q s < 128 * b.reserve + 2 ^ b.k * free)

/-- Every queue whose contention is over is tracked no longer (R51): tested wherever an occupancy falls or S_free rises. -/
def endContention (s : State) : State :=
  let free := sFree s
  setFab { s.fab with
    tracked := s.fab.tracked.filter (fun t => !(contentionOver t.queue free s))
    unweighted := s.fab.unweighted.filter (fun q => !(contentionOver q free s)) } s

/-- A counted rival of each tracked queue of a frame pays one cell of admission credit for a cell that the queue takes (R53). -/
def payCredit (f : Frame) (s : State) : State :=
  forEach f.queues (fun q t => updTracked q.1 (fun x => { x with
    rivals := replaceIf (fun v => v.port == f.entry && v.counted) (fun v => { v with credit := v.credit - 1 }) x.rivals }) t) s

/-- Charge one more cell of a frame (R49, R50): before admission, and when the pool is needed and empty, to the headroom; else to its queues. A cell of an admitted frame costs its port's admission credit either way (R53). -/
def chargeCell (f : Frame) (s : State) : State :=
  let toHeadroom (t : State) : State :=
    updFrame f.ident (fun g => { g with charges := g.charges ++ [.headroom] })
      (setFab { t.fab with headroom := mapSet 0 t.fab.headroom f.entry (mapGet 0 t.fab.headroom f.entry + 1) } t)
  if f.stage ≠ .admitted then toHeadroom s
  else
    let byRes (q : Nat × Bool) : Bool := q.2 && decide (occOf q.1 s < (getBuf q.1 s).reserve)
    let needPool := f.queues.any (fun q => !(byRes q))
    if needPool ∧ sFree s = 0 then toHeadroom (payCredit f s)
    else
      let s1 := forEach f.queues (fun q t => setFab { t.fab with
        occ := mapSet 0 t.fab.occ q.1 (occOf q.1 t + 1)
        use := if byRes q then t.fab.use else mapSet 0 t.fab.use q.1 (useOf q.1 t + 1) } t) (payCredit f s)
      updFrame f.ident (fun g => { g with charges := g.charges ++ [.queues ((f.queues.filter (fun q => !(byRes q))).map (·.1))] })
        (setFab { s1.fab with pool := s1.fab.pool + (if needPool then 1 else 0) } s1)

/-- Charge every cell that a frame's builder has completed since the last charge. -/
def chargeNew (i : Nat) (s : State) : State :=
  match getFrame i s with
  | none => s
  | some f => forUpTo (formedNow f s - (f.charges.length + f.freed)) (fun _ t => match getFrame i t with
    | some g => chargeCell g t
    | none => t) s

/-- The charges of a frame with the first one that draws on the pool for a queue moved to the queue's reservation; the answer says whether the cell has left the pool. -/
def moveCharge (q : Nat) : List Charge → Option (List Charge × Bool)
  | [] => none
  | .queues l :: t =>
    if l.contains q then some (.queues (l.filter (fun x => x != q)) :: t, (l.filter (fun x => x != q)).isEmpty)
    else (moveCharge q t).map (fun r => (.queues l :: r.1, r.2))
  | c :: t => (moveCharge q t).map (fun r => (c :: r.1, r.2))

/-- A cell that lay in a queue's reservation is freed: the shared-pool charge of the queue's oldest cell in the pool is released, and that cell takes its place (R45; log entry 83). -/
def releaseShared (q : Nat) (s : State) : State :=
  if useOf q s = 0 then s
  else
    match s.fab.frames.find? (fun f => (moveCharge q f.charges).isSome) with
    | none => s
    | some f =>
      match moveCharge q f.charges with
      | none => s
      | some r =>
        setFab { s.fab with
          frames := replaceIf (fun g => g.ident == f.ident) (fun g => { g with charges := r.1 }) s.fab.frames
          use := mapSet 0 s.fab.use q (useOf q s - 1)
          pool := s.fab.pool - (if r.2 then 1 else 0) } s

/-- Release one charge of a frame, of a cell that is none of its charges any more (R45, R50): each queue's occupancy falls, and its shared-pool charge first, then its reservation; a cell of the pool returns to S_free once. A cell freed from a tracked queue is admission credit (R53). -/
def releaseCharge (f : Frame) (c : Charge) (s : State) : State :=
  let freed (s : State) : State := forEach f.queues (fun q t => updTracked q.1 (fun x => { x with freedCells := x.freedCells + 1 }) t) s
  match c with
  | .headroom => freed (setFab { s.fab with headroom := mapSet 0 s.fab.headroom f.entry (mapGet 0 s.fab.headroom f.entry - 1) } s)
  | .queues inPool =>
    let s1 := setFab { s.fab with pool := s.fab.pool - (if inPool.isEmpty then 0 else 1) } (freed s)
    endContention (forEach f.queues (fun q t =>
      let t1 := setFab { t.fab with occ := mapSet 0 t.fab.occ q.1 (occOf q.1 t - 1) } t
      if inPool.contains q.1 then setFab { t1.fab with use := mapSet 0 t1.fab.use q.1 (useOf q.1 t1 - 1) } t1 else releaseShared q.1 t1) s1)

/-- Free the first charged cell of a frame that is not freed yet: its row, where one is allocated, and its charge. -/
def freeCell (i : Nat) (s : State) : State :=
  match getFrame i s with
  | none => s
  | some f =>
    match f.charges with
    | [] => s
    | c :: rest =>
      let s1 := match f.cells[f.freed]? with
        | some x => giveRow x s
        | none => s
      releaseCharge f c (updFrame i (fun g => { g with charges := rest, freed := g.freed + 1 }) s1)

/-- Free every cell of a frame that is not freed yet. -/
def freeAll (i : Nat) (s : State) : State :=
  match getFrame i s with
  | none => s
  | some f => forUpTo f.charges.length (fun _ t => freeCell i t) s

/-- A frame keeps only the cells that its stored length needs: those left over when a tag is stripped from a whole frame go back to their banks (R30, R45). -/
def trimCells (i : Nat) (s : State) : State :=
  match getFrame i s with
  | none => s
  | some f =>
    let n := cellsFormed f.express f.ended f.bytes.length
    if f.ended then updFrame i (fun g => { g with cells := g.cells.take n }) (forEach (f.cells.drop n) giveRow s) else s

/-- The bytes charged to a policer's bucket for a frame whose length was not known go back to the bucket they were taken from when the frame completes (R92). -/
def settleMeter (i : Nat) (s : State) : State :=
  match getFrame i s with
  | none => s
  | some f =>
    match f.owed with
    | none => s
    | some o => refundMeter o f.bytes.length (updFrame i (fun g => { g with owed := none }) s)

/-- A frame ends: no more bytes of it come (R31, R40, R92). -/
def endFrame (i : Nat) (s : State) : State := settleMeter i (updFrame i (fun g => { g with ended := true }) s)

/-- Count a frame's stored length in its rule counter, once it is known (R166). -/
def ruleBytes (i : Nat) (s : State) : State :=
  match getFrame i s with
  | none => s
  | some f =>
    match f.rule with
    | none => s
    | some r =>
      let c := mapGet (0, 0) s.seam.rules r
      let n := Nat.min f.bytes.length 9216
      updFrame i (fun g => { g with rule := none })
        { s with seam := { s.seam with rules := mapSet (0, 0) s.seam.rules r (c.1, Nat.min (2 ^ 48 - 1) (c.2 + n)) } }

/-- A frame leaves the module's store without being transmitted: its cells are freed; while its ingress still delivers it, its later bytes are discarded (R38). -/
def dropFrame (i : Nat) (s : State) : State :=
  match getFrame i s with
  | none => s
  | some f =>
    let s1 := freeAll i s
    if f.ended then eraseFrame i (ruleBytes i s1)
    else updFrame i (fun g => { g with stage := .gone, cells := [], freed := g.charges.length + g.freed, queues := [] }) s1

/-- Whether a port still transmits or has preempted a frame. -/
def stillSent (i : Nat) (s : State) : Bool :=
  s.fab.tx.any (fun x => match x.2 with | some t => t.frame == i | none => false)
    || s.fab.preempted.any (fun x => match x.2 with | some t => t.frame == i | none => false)

/-- One copy of a frame is finished: REFCOUNT falls, and the frame's cells are freed when it reaches zero (R44, R45). The record stays while a port still sends what it has read. -/
def dropCopy (i : Nat) (link : Option Nat) (s : State) : State :=
  let s1 := match link with
    | some l => setFab { s.fab with mcFree := { s.fab.mcFree with freed := s.fab.mcFree.freed ++ [l] } } s
    | none => s
  let s2 := updFrame i (fun g => { g with refs := g.refs - 1 }) s1
  match getFrame i s2 with
  | none => s2
  | some f => if f.refs = 0 then (if stillSent i s2 then freeAll i s2 else dropFrame i s2) else syncFrame i s2

/-- Take the head of a queue away and count it: ageing (R56), head drop (R49) and flush (R62). -/
def dropHead (q : Nat) (c : Ctr) (s : State) : State :=
  match queueOf q s with
  | [] => s
  | e :: t => bump c q (dropCopy e.frame e.link (syncLinks q (setQueue q t s)))

/-- Flush a queue: every frame and copy whose transmission has not started (R62). -/
def flushQueue (q : Nat) (s : State) : State :=
  forUpTo (queueOf q s).length (fun _ t => dropHead q .boltFlush t) s

/-- Flush a port's eight queues (R62). -/
def flushPort (p : Nat) (s : State) : State := forUpTo 8 (fun c t => flushQueue (8 * p + c) t) s

/-- Age in microseconds of a frame from its ADMIT_STAMP, which counts modulo 2^20 (R56). -/
def ageUs (f : Frame) (s : State) : Nat := (nowUs s % 1048576 + 1048576 - f.stamp) % 1048576

/-- Whether the head frame of a queue is aged: its age has reached L - 2 us (R56). -/
def headAged (q : Nat) (s : State) : Bool :=
  match queueOf q s with
  | [] => false
  | e :: _ =>
    match getFrame e.frame s with
    | some f => decide (ageUs f s + 2 ≥ (getBuf q s).limitMs * 1000)
    | none => false

/-- Drop aged head frames until the head is not aged (R56). -/
def ageQueue (q : Nat) (s : State) : State :=
  forUpTo (queueOf q s).length (fun _ t => if headAged q t then dropHead q .boltAged t else t) s

end Sys2Proof.Machine
end

