-- ==== Sys2Proof/Machine/StitchOps.lean ====
section
/-! DEFINITION. Machine/StitchOps.lean: stitch bases, their position and speed (R111-R117), event keys, their next crossings and predicted times (R118-R126). Positions are in 2^-16 stitch, times in 2^-16 ns unless a name says ns. -/

namespace Sys2Proof.Machine

/-- A stitch base. -/
def getBase (i : Nat) (s : State) : StitchBase := mapGet {} s.stb.bases i

/-- Replace a stitch base. -/
def setBase (i : Nat) (b : StitchBase) (s : State) : State := { s with stb := { s.stb with bases := mapSet {} s.stb.bases i b } }

/-- Modes of a base (R111): 0 OFF, 1 QUAD, 2 PULSE_DIR, 3 PULSE_CMD, 4 COMMAND. -/
def StitchBase.mode (b : StitchBase) : Nat := bits b.record 127 125

/-- Stitches per count in 2^-16. -/
def StitchBase.scale (b : StitchBase) : Nat := bits b.record 87 56

/-- Counts averaged for the speed. -/
def StitchBase.average (b : StitchBase) : Nat := bits b.record 121 116 + 1

/-- MODULUS in stitches; 0 linear. -/
def StitchBase.modulus (b : StitchBase) : Nat := bits b.record 55 16

/-- Standstill timeout in BCN cycles. -/
def StitchBase.standstill (b : StitchBase) : Nat := bits b.record 103 88 * msCyc

/-- The speed of a counted base as a ratio: stitches (2^-16) and the time they took (2^-16 ns) over the last intervals in one direction (R114). -/
def StitchBase.rateOf (b : StitchBase) : Option (Nat × Nat) :=
  match b.stamps with
  | [] => none
  | t :: older =>
    let n := Nat.min b.average older.length
    match older[n - 1]? with
    | some o => if n = 0 ∨ t ≤ o then none else some (n * b.scale, (t - o).toNat)
    | none => none

/-- The travel of a counted base since its last count at its speed, not bounded by the next count. -/
def StitchBase.travel (b : StitchBase) (t : Nat) : Nat :=
  match b.rateOf with
  | none => 0
  | some r => r.1 * (Int.ofNat t - b.lastAt).toNat / r.2

/-- The unwrapped position of a moving base in COMMAND mode, extrapolated from its latest sample (R117). -/
def StitchBase.fedAt (b : StitchBase) (t : Nat) : Int :=
  let x := b.samplePos + b.speed * (Int.ofNat t - b.sampleAt) / (1000000000 * 65536)
  if b.fwd then max b.pos x else min b.pos x

/-- The unwrapped position at a time: interpolation never reaches the next count's position (R114, R117). -/
def StitchBase.posAt (b : StitchBase) (t : Nat) : Int :=
  if !b.moving then b.pos
  else if b.mode = 4 then b.fedAt t
  else
    let d := Int.ofNat (Nat.min (b.travel t) (b.scale - 1))
    if b.fwd then b.pos + d else b.pos - d

/-- The position by which the events of a base in forward motion are predicted: a time T(S) passes whether or not the next count has come (R118). -/
def StitchBase.runAt (b : StitchBase) (t : Nat) : Int := if b.mode = 4 then b.fedAt t else b.pos + Int.ofNat (b.travel t)

/-- The high-water mark at a time: the furthest position reached forward, interpolated or extrapolated ones among them (R116). -/
def StitchBase.topAt (b : StitchBase) (t : Nat) : Int := if b.moving && b.fwd then max b.hwm (b.posAt t) else b.hwm

/-- The position that is reported (R113): modulo MODULUS, or modulo 2^48 stitches. -/
def StitchBase.report (b : StitchBase) (p : Int) : Nat :=
  (p % (if b.modulus = 0 then 2 ^ 64 else Int.ofNat b.modulus * 65536)).toNat

/-- KIND of an event key (R120): 0 TIME_AT, 1 TIME_EVERY, 2 STITCH_AT, 3 STITCH_EVERY. -/
def keyKind (k : BitVec 128) : Nat := bits k 127 125

/-- BASE of a stitch key. -/
def keyBase (k : BitVec 128) : Nat := bits k 124 123

/-- REFIRE of a stitch key. -/
def keyRefire (k : BitVec 128) : Bool := k.getLsbD 122

/-- WHEN of a time key, in Beacon ns. -/
def keyWhenNs (k : BitVec 128) : Nat := bits k 111 64 * 1000000000 + bits k 63 32

/-- The position or spacing of a stitch key. -/
def keyStitch (k : BitVec 128) : Nat := bits k 111 48

/-- PERIOD of a time key, phase of a STITCH_EVERY key. -/
def keyPeriod (k : BitVec 128) : Nat := bits k 31 0

/-- Whether an event key breaks a rule of R120 that concerns the key and its base alone. -/
def keyBad (k : BitVec 128) (s : State) : Bool :=
  let kind := keyKind k
  let m := (getBase (keyBase k) s).modulus * 65536
  kind ≥ 4 || bits k 121 112 ≠ 0
  || (kind ≤ 1 && (keyBase k ≠ 0 || bits k 63 32 ≥ 1000000000))
  || (kind = 0 && keyPeriod k ≠ 0)
  || (kind = 1 && (keyPeriod k < 200 || keyPeriod k > 1000000000))
  || (kind ≥ 2 && bits k 47 32 ≠ 0)
  || (kind = 2 && (keyPeriod k ≠ 0 || (m ≠ 0 && keyStitch k ≥ m)))
  || (kind = 3 && (keyStitch k = 0 || (m ≠ 0 && m % keyStitch k ≠ 0)))

/-- A gate-list entry as an event key with the same meaning (R73, R120); none for a TIME entry. -/
def entryKey (e : BitVec 128) : Option (BitVec 128) :=
  match bits e 127 126 with
  | 1 => some (BitVec.ofNat 128 ((2 <<< 125) + (bits e 123 122 <<< 123) + (bits e 79 16 <<< 48)))
  | 2 => some (BitVec.ofNat 128 ((3 <<< 125) + (bits e 123 122 <<< 123) + (bits e 79 16 <<< 48)))
  | _ => none

/-- The first crossing of a stitch key above a position (R113, R120). -/
def nextCross (k : BitVec 128) (b : StitchBase) (above : Int) : Int :=
  if keyKind k = 3 then
    let sp := Int.ofNat (keyStitch k)
    let ph := Int.ofNat (keyPeriod k)
    ph + ((above - ph) / sp + 1) * sp
  else if b.modulus ≠ 0 then
    let m := Int.ofNat b.modulus * 65536
    let w := Int.ofNat (keyStitch k)
    w + ((above - w) / m + 1) * m
  else
    let d := (Int.ofNat (keyStitch k) - b.pos) % 2 ^ 64
    b.pos + (if d ≥ 2 ^ 63 then d - 2 ^ 64 else d)

/-- What an event key has done. -/
def keySt (i : Nat) (s : State) : KeyState := mapGet {} s.stb.keys i

/-- Replace what an event key has done. -/
def setKeySt (i : Nat) (k : KeyState) (s : State) : State := { s with stb := { s.stb with keys := mapSet {} s.stb.keys i k } }

/-- The next firing of a key that is due at a time: the crossing, grid point or time that fires (R118, R122, R124, R125). -/
def keyDue (i : Nat) (k : BitVec 128) (t : Nat) (s : State) : Option Int :=
  let st := keySt i s
  let ns := Int.ofNat (t / 65536)
  match keyKind k with
  | 0 => if !st.done && decide (ns ≥ keyWhenNs k) then some (keyWhenNs k) else none
  | 1 =>
    let w := Int.ofNat (keyWhenNs k)
    let p := Int.ofNat (keyPeriod k)
    let g := match st.last with
      | some l => if l < w then w else w + ((l - w) / p + 1) * p
      | none => w
    if p > 0 ∧ ns ≥ g then some g else none
  | _ =>
    let b := getBase (keyBase k) s
    let above := st.last.getD b.hwm
    let x := nextCross k b above
    if b.moving && b.fwd && decide (x > above) && decide (b.runAt t ≥ x) then some x else none

/-- The predicted firing time of a stitch key, in Beacon ns, while its base moves forward and a speed exists (R118). -/
def predictNs (i : Nat) (k : BitVec 128) (s : State) : Option Int :=
  let b := getBase (keyBase k) s
  let above := (keySt i s).last.getD b.hwm
  let x := nextCross k b above
  if !b.moving || decide (x ≤ above) then none
  else if b.mode = 4 then
    if b.speed ≤ 0 then none
    else some ((b.sampleAt + (x - b.samplePos) * (1000000000 * 65536) / b.speed) / 65536)
  else if !b.fwd then none
  else
    match b.rateOf with
    | none => none
    | some r => some ((b.lastAt + (x - b.pos) * Int.ofNat r.2 / Int.ofNat r.1) / 65536)

/-- Number of a gate-list entry's key. -/
def gateKeyId (p e : Nat) : Nat := p * 1024 + e

/-- Number of a mark output's key. -/
def markKeyId (o k : Nat) : Nat := 27648 + o * 16 + k

/-- Number of a slot's key. -/
def slotKeyId (ch sl : Nat) : Nat := 27776 + ch * 64 + sl

/-- Number of a discrete release's key. -/
def discKeyId (l e : Nat) : Nat := 29824 + l * 16 + e

/-- The tables of the current epoch. -/
def curTables (s : State) : EpochTables := s.pat.current.getD {}

/-- Replace the gate control of a port. -/
def setGates (p : Nat) (g : PortGates) (s : State) : State := { s with sch := { s.sch with gates := mapSet {} s.sch.gates p g } }

/-- The stitch-keyed entries of a gate list as keys. -/
def listKeys (p : Nat) (l : GateList) : List (Nat × BitVec 128) :=
  l.ents.filterMap (fun e => if e.1 < l.len then (entryKey e.2).map (fun k => (gateKeyId p e.1, k)) else none)

/-- The keys of the slot tables and discrete release tables of an epoch. An event key of all 0 is that of an entry that holds no key (DESIGN CHOICE, log entry 10). -/
def epochKeys (t : EpochTables) : List (Nat × BitVec 128) :=
  t.slots.filterMap (fun e => if e.2.key = 0 then none else some (slotKeyId 0 e.1, e.2.key))
  ++ t.discs.filterMap (fun e => if e.2.key = 0 then none else some (discKeyId 0 e.1, e.2.key))

/-- The keys of the mark outputs that are in use: an output with ENABLE 0 follows no keys, and those that its record names count neither as committed nor as tracked (DESIGN CHOICE, log entry 10). -/
def markKeys (s : State) : List (Nat × BitVec 128) :=
  (List.range 8).flatMap (fun o =>
    let m := mapGet ({} : Mark) s.stb.marks o
    if m.record.getLsbD 63 then m.keys.zipIdx.map (fun e => (markKeyId o e.2, e.1)) else [])

/-- The keys of the active gate lists. -/
def gateKeys (s : State) : List (Nat × BitVec 128) :=
  (List.range 27).flatMap (fun p => let g := getGates p s; if g.live && g.act.enable then listKeys p g.act else [])

/-- Every key that is active, with its number (R121). -/
def activeKeys (s : State) : List (Nat × BitVec 128) := gateKeys s ++ markKeys s ++ epochKeys (curTables s)

/-- The stitch keys among some keys. -/
def stitchKeys (l : List (Nat × BitVec 128)) : List (Nat × BitVec 128) := l.filter (fun k => decide (keyKind k.2 ≥ 2))

/-- The keys of committed lists, outputs and epochs, a pending gate list included: those a base may not be rewritten under (R111). -/
def committedKeys (s : State) : List (Nat × BitVec 128) :=
  (List.range 27).flatMap (fun p =>
    let g := getGates p s
    (if g.live then listKeys p g.act else []) ++ (if g.pend.isSome then listKeys p g.shadow else []))
  ++ markKeys s ++ epochKeys (curTables s)

/-- The keys of the list that drives a port's gates at a Beacon time, a pending list from its CT on (R79). -/
def portKeysAt (p : Nat) (t : Int) (s : State) : List (Nat × BitVec 128) :=
  let g := getGates p s
  match g.pend with
  | some c => if t ≥ c then (if g.shadow.enable then listKeys p g.shadow else []) else if g.live && g.act.enable then listKeys p g.act else []
  | none => if g.live && g.act.enable then listKeys p g.act else []

/-- How many stitch keys the Beacon tracks at a time with some epoch's keys (R121). -/
def trackedAt (epoch : List (Nat × BitVec 128)) (s : State) (t : Int) : Nat :=
  (stitchKeys ((List.range 27).flatMap (fun p => portKeysAt p t s) ++ markKeys s ++ epoch)).length

/-- Whether more than 2,048 stitch keys would be tracked now or from a pending CT on (R121). -/
def tracksTooMany (epoch : List (Nat × BitVec 128)) (s : State) : Bool :=
  (Int.ofNat (nowNs s) :: (List.range 27).filterMap (fun p => (getGates p s).pend)).any (fun t => decide (trackedAt epoch s t > 2048))

/-- A key becomes active now (R122, R124): a time key before now is done and counted; stitch keys count as fired up to the high-water mark, and one that fires again on re-pass from the base's position on (log entry 10). -/
def activateKey (consumer : Nat) (i : Nat) (k : BitVec 128) (s : State) : State :=
  let ns := nowNs s
  match keyKind k with
  | 0 =>
    if keyWhenNs k < ns then
      raiseEv .keyPast consumer (natBytes 2 i) (bump .bcnKeyPast consumer (setKeySt i { last := none, done := true } s))
    else setKeySt i { last := none, done := false } s
  | 1 => setKeySt i { last := some (Int.ofNat ns - 1), done := false } s
  | _ =>
    let b := getBase (keyBase k) s
    let h := b.topAt (nowFrac s)
    setKeySt i { last := some (if keyRefire k then min h (b.posAt (nowFrac s)) else h), top := some h, done := false } s

end Sys2Proof.Machine
end

