-- ==== Sys2Proof/Machine/Gates.lean ====
section
/-! DEFINITION. Machine/Gates.lean: gate control lists: position within a list, commits, overrides, hold, guard bands (R73-R87), and the lists of the stream gates (R91). Times are Beacon ns. -/

namespace Sys2Proof.Machine

/-- KIND of a gate entry is TIME. -/
def isTimeEntry (e : BitVec 128) : Bool := bits e 127 126 == 0

/-- GATES of an entry. -/
def entryGates (e : BitVec 128) : BitVec 8 := BitVec.ofNat 8 (bits e 119 112)

/-- INTERVAL of an entry. -/
def entryInterval (e : BitVec 128) : Nat := bits e 111 80

/-- The entries within LIST_LENGTH with their positions; an entry never written holds 0 (R73). -/
def GateList.entries (l : GateList) : List (Nat × BitVec 128) := (List.range l.len).map (fun i => (i, mapGet 0 l.ents i))

/-- The TIME entries with position, gate states, interval and OP. -/
def GateList.timeEnts (l : GateList) : List (Nat × BitVec 8 × Nat × Nat) :=
  (l.entries.filter (fun e => isTimeEntry e.2)).map (fun e => (e.1, entryGates e.2, entryInterval e.2, bits e.2 125 124))

/-- Where an offset falls in a sequence of intervals: the index in the sequence and the offset at which its interval ends; the last interval holds to the cycle's end (R74). -/
def seqAt (cycle : Nat) : List Nat → Nat → Nat → Nat → Nat × Nat
  | [], i, _, _ => (i - 1, cycle)
  | [_], i, _, _ => (i, cycle)
  | d :: t, i, start, off => if off < start + d then (i, Nat.min (start + d) cycle) else seqAt cycle t (i + 1) (start + d) off

/-- Start of the cycle of a grid that holds a time (R74, R85). -/
def gridStart (ct : Int) (cycle : Nat) (t : Int) : Int := ct + ((t - ct) / cycle) * cycle

/-- The start of the running cycle with the extension of R79 taken into account: no cycle starts within CYCLE_EXT before a pending CT. -/
def cycleOf (ct : Int) (cycle ext : Nat) (pend : Option Int) (t : Int) : Int :=
  let b := gridStart ct cycle t
  match pend with
  | some c =>
    let last := gridStart ct cycle c
    if t ≥ last ∧ c - last > 0 ∧ c - last < ext then last - cycle else b
  | none => b

/-- The place in a cycle of a time: at most the cycle's last nanosecond, so that an extended cycle holds its last state. -/
def offsetIn (start : Int) (cycle : Nat) (t : Int) : Nat := Nat.min (t - start).toNat (cycle - 1)

/-- The list that drives the gates at a time: the active list, or from a pending CT on the shadow list. -/
def PortGates.listAt (g : PortGates) (t : Int) : GateList × Int × Option Int × Bool :=
  match g.pend with
  | some c => if t ≥ c then (g.shadow, c, none, true) else (g.act, g.ct, some c, g.live)
  | none => (g.act, g.ct, none, g.live)

/-- The TIME sequence at a time: running entry's position, its gate states, the time of the next boundary. Without an enabled list all gates are open. -/
def PortGates.seqState (g : PortGates) (t : Int) : Nat × BitVec 8 × Int × Int :=
  let x := g.listAt t
  let l := x.1
  if !(x.2.2.2 && l.enable) ∨ l.cycle = 0 then (0, 0xFF, x.2.2.1.getD (t + 1000000000), t)
  else
    let start := cycleOf x.2.1 l.cycle l.ext x.2.2.1 t
    let ents := l.timeEnts
    let r := seqAt l.cycle (ents.map (fun e => e.2.2.1)) 0 0 (offsetIn start l.cycle t)
    let e := ents.getD r.1 (0, 0xFF, 0, 0)
    let stop := start + r.2
    let next := match x.2.2.1 with
      | some c => if stop ≤ t then c else min stop c
      | none => stop
    (e.1, e.2.1, next, start)

/-- The overrides of a port that the Beacon has published: firing time, end and gate states of stitch-keyed entries predicted within 1 ms (R76, R119). -/
def published (p : Nat) (s : State) : List (Int × Int × BitVec 8) :=
  let g := getGates p s
  if !(g.live && g.act.enable) then []
  else g.act.entries.filterMap (fun e =>
    (entryKey e.2).bind (fun k => (predictNs (gateKeyId p e.1) k s).bind (fun t =>
      let stop := t + entryInterval e.2
      match g.pend with
      | some c => if t ≤ Int.ofNat (nowNs s) + 1000000 ∧ t < c then some (t, min stop c, entryGates e.2) else none
      | none => if t ≤ Int.ofNat (nowNs s) + 1000000 then some (t, stop, entryGates e.2) else none)))

/-- The published override that has fired last by a time, of two that fire together the one of the lower list position: it has replaced those before it, so none of them returns at its end (R76). -/
def overrideAt (pubs : List (Int × Int × BitVec 8)) (t : Int) : Option (Int × Int × BitVec 8) :=
  pubs.foldl (fun best o =>
    if !(decide (o.1 ≤ t)) then best
    else match best with
      | none => some o
      | some b => if o.1 > b.1 then some o else best) none

/-- Whether a class's gate stays open over a time range, walking from boundary to boundary (R82). -/
def staysOpen (g : PortGates) (pubs : List (Int × Int × BitVec 8)) (c : Nat) (stop : Int) : Nat → Int → Bool
  | 0, _ => true
  | fuel + 1, t =>
    if t ≥ stop then true
    else
      let q := g.seqState t
      let running : Option (Int × BitVec 8) := g.ovr.map (fun o => (match g.pend with | some c => min o.stop c | none => o.stop, o.gates))
      let gates : BitVec 8 := match overrideAt pubs t with
        | some o => if t < o.2.1 then o.2.2 else q.2.1
        | none => match running with
          | some o => if t < o.1 then o.2 else q.2.1
          | none => q.2.1
      let edges := pubs.flatMap (fun o => [o.1, o.2.1]) ++ (match running with | some o => [o.1] | none => [])
      let next := (edges.filter (fun e => decide (e > t))).foldl min q.2.2.1
      gates.getLsbD c && staysOpen g pubs c stop fuel next

/-- Guard time in ns of a number of bytes at a rate in bit/s, rounded up: (bytes + 20) x 8 / rate (R82). -/
def guardNs (bytes rate : Nat) : Nat := if rate = 0 then 0 else ((bytes + 20) * 8000000000 + rate - 1) / rate

/-- Whether a frame of class `c` and `len` bytes may start or resume under the guard band (R82). -/
def guardPasses (p c len : Nat) (preempting : Option Nat) (s : State) : Bool :=
  if p ≥ 27 then true
  else
    let g := getGates p s
    if !(g.live && g.act.enable) && g.pend.isNone then true
    else
      let b := match preempting with
        | some a => Nat.min len (64 * (1 + a) + 63)
        | none => len
      let t := guardNs b (portRate p s)
      let now := Int.ofNat (nowNs s)
      staysOpen g (published p s) c (now + t) (t / 4 + 200) now

/-- The additional fragment size of a port with preemption active (R71). -/
def preemptA (p : Nat) (s : State) : Option Nat :=
  match mapGet 0 s.sch.preempt p with
  | 0 => none
  | a + 1 => some a

/-- Joined stretches of a class over one cycle: longest open, longest closed, whether ever open, by walking the TIME entries of two cycles (R77). -/
def stretches (c cycle : Nat) (ents : List (Nat × BitVec 8 × Nat × Nat)) : Nat × Nat × Bool :=
  let rec spans : List (Nat × BitVec 8 × Nat × Nat) → Nat → List (Bool × Nat)
    | [], _ => []
    | [e], start => [(e.2.1.getLsbD c, cycle - start)]
    | e :: t, start =>
      if start + e.2.2.1 ≥ cycle then [(e.2.1.getLsbD c, cycle - start)] else (e.2.1.getLsbD c, e.2.2.1) :: spans t (start + e.2.2.1)
  let one := spans ents 0
  let rec longest (want : Bool) : List (Bool × Nat) → Nat → Nat → Nat
    | [], run, best => Nat.max run best
    | x :: t, run, best => if x.1 = want then longest want t (run + x.2) best else longest want t 0 (Nat.max run best)
  let o := one.any (fun x => x.1)
  let cl := one.any (fun x => !x.1)
  (if cl then longest true (one ++ one) 0 0 else if o then 2 ^ 64 else 0,
   if o then longest false (one ++ one) 0 0 else 2 * cycle, o)

/-- G_min of a class on a port (R77). -/
def gMin (p c : Nat) (s : State) : Nat :=
  let q := getQP (8 * p + c) s
  match preemptA p s with
  | some a => if q.preemptable then guardNs (64 * (1 + a)) (portRate p s) else guardNs q.maxSdu (portRate p s)
  | none => guardNs q.maxSdu (portRate p s)

/-- Whether a list passes the class checks of R77 on a port now; without a rate the open-stretch check is not made (R236). -/
def classChecks (p : Nat) (l : GateList) (s : State) : Bool :=
  (List.range 8).all (fun c =>
    let x := stretches c l.cycle l.timeEnts
    if l.shut.getLsbD c then l.timeEnts.all (fun e => !(e.2.1.getLsbD c))
    else x.2.2 && (portRate p s == 0 || decide (x.1 ≥ gMin p c s)) && decide (x.2.1 < (getBuf (8 * p + c) s).limitMs * 1000000))

/-- Whether a gate entry breaks a rule that concerns the entry alone (R73). -/
def entryBad (e : BitVec 128) : Bool :=
  let kind := bits e 127 126
  kind = 3 || bits e 125 124 = 3 || (kind ≠ 0 && bits e 125 124 ≠ 0) || (kind = 0 && (bits e 123 122 ≠ 0 || bits e 79 16 ≠ 0))
  || bits e 121 120 ≠ 0 || bits e 15 0 ≠ 0 || entryInterval e < 8 || entryInterval e > 1000000000 || (kind = 2 && bits e 79 16 = 0)

/-- Whether a list breaks a rule of R73. -/
def listBad (l : GateList) : Bool :=
  l.len = 0 || l.len > 1024 || l.cycle < 100 || l.cycle > 1000000000 || l.ext > 1000000000
  || l.entries.any (fun e => entryBad e.2) || l.timeEnts.isEmpty || decide ((l.entries.filter (fun e => !isTimeEntry e.2)).length > 64)

/-- The TIME entries of a list that start before its cycle ends (R74): the later ones never start. -/
def startedEnts (cycle start : Nat) : List (Nat × BitVec 8 × Nat × Nat) → List (Nat × BitVec 8 × Nat × Nat)
  | [] => []
  | e :: t => if start ≥ cycle then [] else e :: startedEnts cycle (start + e.2.2.1) t

/-- HOLD after a run of entries: the last Hold or Release among those that have started decides (R81). -/
def holdAfter (l : GateList) (upTo : Nat) (h : Bool) : Bool :=
  ((startedEnts l.cycle 0 l.timeEnts).filter (fun e => decide (e.1 ≤ upTo))).foldl
    (fun b e => if e.2.2.2 = 1 then true else if e.2.2.2 = 2 then false else b) h

/-- BOLT_GATE_OVERRUN of a frame that is still in transmission when its gate closes and that may not be preempted, once for each frame (R83). -/
def countOverrun (p : Nat) (before : BitVec 8) (s : State) : State :=
  match mapGet none s.fab.tx p with
  | none => s
  | some t =>
    let q := getQP (8 * p + t.cls) s
    if !t.overrun && before.getLsbD t.cls && !((gateOut p s).getLsbD t.cls) && !(q.preemptable && (preemptA p s).isSome)
    then bump .boltGateOverrun (8 * p + t.cls) (setFab { s.fab with tx := mapSet none s.fab.tx p (some { t with overrun := true }) } s) else s

/-- The gate states and the hold of the entry that the Beacon time falls in (R74, R85). -/
def placeGates (p : Nat) (s : State) : State :=
  let g := getGates p s
  if !(g.live && g.act.enable) then s
  else
    let q := g.seqState (nowNs s)
    let wrapped := decide (q.2.2.2 ≠ g.cycleStart)
    let h := holdAfter g.act q.1 (if wrapped then holdAfter g.act g.act.len g.hold else g.hold)
    let s1 := setGates p { g with cur := q.1, gates := q.2.1, cycleStart := q.2.2.2, hold := h } s
    if h && !g.hold then bump .aMACMergeHoldCount p s1 else s1

/-- The gate states and the hold of the entry that the Beacon time has come to by a step or over a DOZE: the entries passed over do not run (R85, R392). -/
def jumpGates (p : Nat) (s : State) : State :=
  let g := getGates p s
  if !(g.live && g.act.enable) then s
  else
    let q := g.seqState (nowNs s)
    let op := bits (mapGet 0 g.act.ents q.1) 125 124
    let h := if op = 1 then true else if op = 2 then false else g.hold
    let s1 := setGates p { g with cur := q.1, gates := q.2.1, cycleStart := q.2.2.2, hold := h } s
    if h && !g.hold then bump .aMACMergeHoldCount p s1 else s1

/-- Take the gate states of the entry that the Beacon time falls in, and count a frame that its gate's closing overtakes (R74, R83, R85). -/
def refreshGates (p : Nat) (s : State) : State := countOverrun p (gateOut p s) (placeGates p s)

/-- Status change of BOLT_GCL_INFEASIBLE with its event (R77). -/
def setInfeasible (p : Nat) (b : Bool) (s : State) : State :=
  let g := getGates p s
  if g.infeasible = b then s
  else raiseEv (if b then .gclInfeasible else .gclFeasible) p [] (setGates p { g with infeasible := b } s)

/-- The checks of R77 made again because the port's rate has changed. -/
def recheckGcl (p : Nat) (s : State) : State :=
  let g := getGates p s
  if g.live then setInfeasible p (!(classChecks p g.act s)) s else s

/-- At CT the shadow list becomes active whole, an override in force ends, hold is released and the shadow is unlocked (R76, R78-R81); its stitch keys become active. `place` finds the running entry. -/
def takeListBy (place : Nat → State → State) (p : Nat) (s : State) : State :=
  let g := getGates p s
  match g.pend with
  | none => s
  | some c =>
    let before := gateOut p s
    let g' : PortGates := { g with act := g.shadow, live := true, ct := c, pend := none, ovr := none, hold := false, cycleStart := c, cur := 0, gates := 0xFF }
    let s1 := forEach (listKeys p g'.act) (fun k t => activateKey p k.1 k.2 t) (setGates p g' s)
    let s2 := setInfeasible p false s1
    countOverrun p before (place p s2)

/-- At CT the shadow list becomes active, and its entries run from its first cycle on (R78, R79). -/
def takeList (p : Nat) (s : State) : State := takeListBy placeGates p s

/-- A stream gate's place at a time (R91): the index in its list. -/
def StreamGate.place (g : StreamGate) (t : Int) : Nat :=
  let start := cycleOf g.ct g.act.cycle g.act.ext g.pend t
  (seqAt g.act.cycle (g.act.ents.map (·.interval)) 0 0 (offsetIn start g.act.cycle t)).1

/-- A stream gate brought to the Beacon time now: a pending list whose CT has come takes effect, and the entry in force is found. -/
def refreshSGate (i : Nat) (s : State) : State :=
  let g := getSGate i s
  let now := Int.ofNat (nowNs s)
  let g1 : StreamGate := match g.pend with
    | some c => if now ≥ c then { g with act := g.shadow, live := true, ct := c, pend := none } else g
    | none => g
  if g1.live then setSGate i { g1 with cur := g1.place now } s else setSGate i g1 s

/-- A port's list brought to the Beacon time now: its place is computed from CT and its grid, and a pending CT in the past takes effect at once (R85, R392, R417). -/
def replaceGates (p : Nat) (s : State) : State :=
  let g := getGates p s
  let s1 := match g.pend with
    | some c => if Int.ofNat (nowNs s) ≥ c then takeListBy jumpGates p s else s
    | none => s
  if g.live || g.pend.isSome then countOverrun p (gateOut p s1) (jumpGates p s1) else s1

/-- Every list and stream gate brought to the Beacon time now. -/
def replaceAllGates (s : State) : State :=
  let s1 := forUpTo 27 replaceGates s
  forEach (s1.sch.sgates.map (·.1)) refreshSGate s1

/-- Gate lists and stream gates after a step of Beacon time: each port's recomputation is counted in BOLT_GATE_RESYNC (R85). -/
def resyncGates (s : State) : State :=
  let s1 := forUpTo 27 (fun p t =>
    let g := getGates p t
    let t1 := replaceGates p t
    if g.live || g.pend.isSome then bump .boltGateResync p t1 else t1) s
  forEach (s1.sch.sgates.map (·.1)) refreshSGate s1

end Sys2Proof.Machine
end

