-- ==== Sys2Proof/Machine/Verdict.lean ====
section
/-! DEFINITION. Machine/Verdict.lean: epochs as lookups see them (R145-R147), spreading groups (R158), the fragment table (R151-R155), the Seam's verdict (R161-R169) and the end of a lookup (R141, R159). -/

namespace Sys2Proof.Machine

/-- The tables of a live epoch by number (R145, R147). -/
def tablesOf (n : Nat) (s : State) : Option EpochTables :=
  match s.pat.current with
  | some t => if t.number = n then some t else s.pat.draining.filter (fun d => d.number == n)
  | none => s.pat.draining.filter (fun d => d.number == n)

/-- The tables of a frame's epoch. -/
def frameTables (f : Frame) (s : State) : Option EpochTables := f.epoch.bind (fun n => tablesOf n s)

/-- The zone-map entry of a CAN channel 0-31 or, from 32 on, of a LIN channel (R161). -/
def chanZone (t : EpochTables) (ch : Nat) : Nat := mapGet 0 t.zoneMap (32 + ch)

/-- The zone of a fabric port (R161). -/
def portZone (t : EpochTables) (p : Nat) : Nat := mapGet 0 t.zoneMap p

/-- The ZONE of a frame's key: of its ingress port, or of the channel of a message (R161). -/
def frameZone (t : EpochTables) (f : Frame) : Nat :=
  match f.ek with
  | .ethernet => portZone t f.keyPort
  | .can => chanZone t (numAt f.bytes 1 1)
  | .lin => chanZone t (32 + numAt f.bytes 1 1)

/-- The destination ports that a leaf names: the bits of PORT_MASK, or the member of its group that the hash chose (R158). -/
def leafPorts (leaf : BitVec 512) (k : PKey) (hash : Option Nat) (t : EpochTables) (s : State) : List Nat :=
  if nodeByte leaf 2 / 8 % 4 = 1 then
    let g := mapGet {} t.groups (nodeByte leaf 14 % 64)
    let live := (List.range 27).filter (fun p => g.members.contains p && linkUpNow p s)
    let h := hash.getD (hash16 g.seed k)
    match live[pick h live.length]? with
    | some p => [p]
    | none => []
  else (List.range 32).filter (fun p => (nodeNum leaf 4 4 >>> p) % 2 = 1)

/-- What becomes of a copy under the zone matrix (R164). -/
inductive Judge where
  | send | deny | keeper
  deriving DecidableEq, Repr

/-- A leaf verdict combined with a matrix entry (the table of R164): 0 ZONE, 1 ALLOW, 4 BODKIN with DIR 0. -/
def judge (v : Nat) (m : BitVec 8) : Judge :=
  let act := bits m 7 6
  let base : Judge := if act = 1 then .send else if act = 2 then .keeper else .deny
  let r : Judge := if v = 1 ∧ ¬ m.getLsbD 5 then .send else base
  if r = .send ∧ v ≠ 4 ∧ m.getLsbD 4 then .deny else r

/-- KIND of a route entry (R170): 0 FORWARD, 1 ENCAP, 2 DECAP, 3 MATCH. -/
def routeKind (r : BitVec 128) : Nat := bits r 127 125

/-- A route chain from an entry, at most 16 entries (R171). -/
def routeChain (t : EpochTables) : Nat → Nat → List (Nat × BitVec 128)
  | 0, _ => []
  | fuel + 1, i =>
    let r := mapGet 0 t.routes i
    (i, r) :: (if r.getLsbD 124 ∧ routeKind r < 2 then routeChain t fuel (bits r 123 111) else [])

/-- The zone-pair indices under which the copy to a port is judged: the port's zone, or for port 28 the zones of its chain's channels and of port 28 for ENCAP; none for a DECAP entry, which R181 judges at delivery. -/
def copyPairs (t : EpochTables) (iz p route : Nat) : List Nat :=
  if p = 28 then
    (routeChain t 16 route).filterMap (fun e =>
      match routeKind e.2 with
      | 0 => some (iz * 16 + chanZone t (bits e.2 110 105))
      | 1 => some (iz * 16 + portZone t 28)
      | _ => none)
  else [iz * 16 + portZone t p]

/-- The judgement of a copy: denied if any entry denies it, else to the Keeper if any turns it there (R164), with the zone pair that decided. -/
def judgeCopy (t : EpochTables) (v iz p route : Nat) : Judge × Nat :=
  let js := (copyPairs t iz p route).map (fun x => (judge v (mapGet 0 t.matrix x), x))
  match js.find? (fun j => j.1 == .deny) with
  | some j => j
  | none =>
    match js.find? (fun j => j.1 == .keeper) with
    | some j => j
    | none => (.send, 0)

/-- Count a frame in a rule counter at the verdict, with its bytes where its length is known already; otherwise they follow then (R166). -/
def countRule (i r : Nat) (s : State) : State :=
  let c := mapGet (0, 0) s.seam.rules r
  let s1 := updFrame i (fun f => { f with rule := some r })
    { s with seam := { s.seam with rules := mapSet (0, 0) s.seam.rules r (Nat.min (2 ^ 48 - 1) (c.1 + 1), c.2) } }
  if (getFrame i s).any (fun f => f.ended) then ruleBytes i s1 else s1

/-- Deny a frame before admission: counted, its cells freed (R38). -/
def refuse (i : Nat) (c : Ctr) (inst : Nat) (s : State) : State := dropFrame i (bump c inst s)

/-- The freshness entry of a CAN authentication context (R290), where the context is one. -/
def ctxFresh (ctx : Nat) (s : State) : Option Nat :=
  let r := (mapGet ({} : Ctx) s.bod.ctx ctx).record
  if bits r 255 254 = 3 then some (bits r 168 159) else none

/-- A freshness entry. -/
def getFresh (i : Nat) (s : State) : Fresh := mapGet {} s.seam.fresh i

/-- Replace a freshness entry. -/
def setFresh (i : Nat) (v : Fresh) (s : State) : State := { s with seam := { s.seam with fresh := mapSet {} s.seam.fresh i v } }

/-- AUTH of a CAN message's pseudo-header (R134). -/
def isAuth (f : Frame) : Bool := f.ek == .can && (f.bytes.getD 11 0).getLsbD 3

/-- The receive check of R169 on a message's second crossing from the Bodkin, at the freshness entry that it carries (R301): whether it passes, with the state after its counts. -/
def freshReceive (f : Frame) (s : State) : Bool × State :=
  match f.second with
  | some x =>
    if x.viaBodkin && isAuth f then
      let i := x.fresh
      if !x.verified then (false, bump .seamAuthFail i s)
      else
        let e := getFresh i s
        let v := x.fv.getD 0
        if e.last < v ∧ v ≤ e.last + e.window then (true, setFresh i { e with last := v } s)
        else (false, bump .seamFreshReject i s)
    else (true, s)
  | none => (true, s)

/-- The transmit freshness value of a message that goes to the Bodkin with DIR 0 (R169): none when the counter is exhausted. -/
def freshTransmit (ctx : Nat) (s : State) : Option Nat × State :=
  match ctxFresh ctx s with
  | none => (some 0, s)
  | some i =>
    let e := getFresh i s
    if e.tx = 2 ^ 32 - 1 then (none, raiseEv .freshExhausted i [] (bump .seamFreshExhausted i s))
    else (some (e.tx + 1), setFresh i { e with tx := e.tx + 1 } s)

/-- The stream filter runs and the verdict becomes ready (R89, R90): a frame of a filter with a MAX_SDU waits until its length is known or too long, and is then judged by the filter that it began with (R17). -/
def runFilter (i : Nat) (s : State) : State :=
  match getFrame i s with
  | none => s
  | some f =>
    let h := match f.verdict.filter with
      | some _ => (f.verdict.stream, s)
      | none => handlingFilter f.verdict.stream (f.ek != EdgeKind.ethernet) (f.key.outer / 8192) s
    let sf := f.verdict.filter.getD (getFilter h.1 s)
    if sf.maxSdu ≠ 0 ∧ !f.ended ∧ f.bytes.length ≤ sf.maxSdu then
      updFrame i (fun g => { g with stage := .sized, verdict := { g.verdict with inTime := false, filter := some sf } }) s
    else
      let r := filterFrame h.1 sf f.key f.bytes.length f.ended f.verdict.cls h.2
      if !r.1.pass then dropFrame i r.2
      else
        chargeNew i (updFrame i (fun g => { g with
          stage := .ready, owed := r.1.owed,
          verdict := { g.verdict with
            stream := h.1, cls := r.1.cls, yellow := r.1.yellow, strip := r.1.strip, gen := r.1.gen, moved := r.1.moved, filter := none,
            inTime := g.verdict.inTime && decide (sf.maxSdu = 0) } }) r.2)

/-- A verdict that reaches no leaf: class 0, filter 0, no rule counter, no rewrite (R159). -/
def plainVerdict (i : Nat) (v : Verdict) (s : State) : State :=
  runFilter i (updFrame i (fun g => { g with verdict := v }) s)

/-- The worker that a KEEPER copy goes to (R158). -/
def workerOf (k : PKey) (hash : Option Nat) (s : State) : Nat := pick (hash.getD (hash16 s.pat.workerSeed k)) s.pat.workers

/-- Count the zone pair of a denied copy or of one turned to the Keeper (R165, R164). -/
def countJudge (j : Judge × Nat) (s : State) : State :=
  match j.1 with
  | .deny => bump .seamDenyZone j.2 s
  | .keeper => bump .seamZoneKeeper j.2 s
  | .send => s

/-- The leaf combined with the zone matrix, per copy, and the frame's further way (R164-R168, R150). -/
def applyLeaf (i leafIdx : Nat) (hash : Option Nat) (late : Bool) (s : State) : State :=
  match getFrame i s with
  | none => s
  | some f =>
    match frameTables f s with
    | none => refuse i .patNoTree f.keyPort s
    | some t =>
      let leaf := mapGet 0 s.pat.nodeMem leafIdx
      let v := nodeByte leaf 1 / 32
      let pass2 := f.second.isSome
      let s1 := if (nodeByte leaf 1 / 16) % 2 = 1 then countRule i (nodeNum leaf 10 2) s else s
      let fr := freshReceive f s1
      let base : Verdict := {
        cls := nodeByte leaf 2 / 32, stream := nodeNum leaf 8 2 % 4096, route := nodeNum leaf 12 2 % 8192,
        marked := decide ((nodeByte leaf 1 / 8) % 2 = 1), mark := BitVec.ofNat 16 (nodeNum leaf 15 2), inTime := !late, leaf := leafIdx }
      let go (w : Verdict) (x : State) : State := runFilter i (updFrame i (fun g => { g with verdict := w }) x)
      if !fr.1 then dropFrame i fr.2
      else if v = 2 then refuse i .seamDenyLeaf f.keyPort fr.2
      else if v = 3 then go { base with ports := [27], worker := workerOf f.key hash s } fr.2
      else if v = 5 then
        if pass2 ∨ nodeByte leaf 20 % 8 ≥ f.key.layers.length then refuse i .patPassLimit f.keyPort fr.2
        else go { base with ports := [30], recirc := some (nodeByte leaf 20 % 8, nodeNum leaf 22 4) } fr.2
      else if v = 4 ∧ pass2 then refuse i .patPassLimit f.keyPort fr.2
      else if v = 4 ∧ nodeByte leaf 20 / 128 = 1 then
        go { base with ports := [29], job := some { ctx := nodeNum leaf 18 2, dir := true, outs := [], fv := 0 } } fr.2
      else
        let ports := leafPorts leaf f.key hash t s
        if ports.isEmpty ∧ nodeByte leaf 2 / 8 % 4 = 1 then refuse i .patGroupEmpty f.keyPort fr.2
        else if pass2 ∧ (ports.contains 29 ∨ ports.contains 30) then refuse i .patPassLimit f.keyPort fr.2
        else
          let iz := frameZone t f
          let js := ports.map (fun p => (p, judgeCopy t v iz p base.route))
          let sent := (js.filter (fun j => j.2.1 == .send)).map (·.1)
          let toKeeper := js.any (fun j => j.2.1 == .keeper)
          if sent.isEmpty ∧ !toKeeper then
            match js.head? with
            | some j => refuse i .seamDenyZone j.2.2 fr.2
            | none => dropFrame i fr.2
          else
            let s2 := forEach js (fun j x => countJudge j.2 x) fr.2
            let kp := if toKeeper ∧ !(sent.contains 27) then [27] else []
            let w := { base with worker := workerOf f.key hash s }
            if v = 4 then
              if sent.isEmpty then go { w with ports := kp } s2
              else
                let fv := freshTransmit (nodeNum leaf 18 2) s2
                match fv.1 with
                | none => dropFrame i fv.2
                | some n => go { w with ports := 29 :: kp, job := some { ctx := nodeNum leaf 18 2, dir := false, outs := sent, fv := n } } fv.2
            else go { w with ports := sent ++ kp } s2

/-- The datagram that a fragment belongs to: ingress port, addresses, protocol and identification (R151). -/
def fragIdent (inPort : Nat) (k : PKey) : List Byte :=
  bytesOf [inPort, k.ipVer] ++ natBytes 16 k.src ++ natBytes 16 k.dst ++ (if k.ipVer = 4 then natBytes 1 k.proto else []) ++ natBytes 4 k.fragId

/-- The lowest slot of the fragment table that is free (R151; log entry 8). -/
def freeFragSlot (l : List Frag) : Option Nat := (List.range 2048).find? (fun i => l.all (fun e => e.slot != i))

/-- Replace the fragment table. -/
def setFrags (l : List Frag) (s : State) : State := { s with pat := { s.pat with frags := l } }

/-- Bytes held in the fragment hold buffer (R154). -/
def heldBytes (s : State) : Nat := (s.pat.frags.flatMap (fun e => e.held.map (fun h => h.bytes.length))).foldl (· + ·) 0

/-- Replace a fragment table entry. -/
def updFrag (slot : Nat) (u : Frag → Frag) (s : State) : State := setFrags (replaceIf (fun e => e.slot == slot) u s.pat.frags) s

/-- The lookup requests of a port that wait for a walker (R143). -/
def waitingLookups (p : Nat) (s : State) : Nat := (s.fab.frames.filter (fun g => g.entry == p && g.stage == .asked && g.walker.isNone)).length

/-- The tree walker that is bound to a port marked EXPRESS_SOURCE: walkers 0-3 in ascending order of the marked ports (R143). -/
def boundWalker (p : Nat) (s : State) : Option Nat :=
  if p < 27 ∧ s.pat.expressMask.getLsbD p then some (((List.range p).filter (fun i => s.pat.expressMask.getLsbD i)).length) else none

/-- The walkers of the general pool: 4-15, and those of 0-3 that no marked port has (R143). -/
def generalPool (s : State) : List Nat :=
  let marked := ((List.range 27).filter (fun i => s.pat.expressMask.getLsbD i)).length
  (List.range 12).map (· + 4) ++ (List.range 4).filter (fun w => decide (marked ≤ w))

/-- The walker that a waiting request takes, when one is free for it (R143). -/
def walkerFor (f : Frame) (s : State) : Option Nat :=
  let free (w : Nat) : Bool := s.fab.frames.all (fun g => !(g.stage == .asked && g.walker == some w))
  let general := (generalPool s).find? free
  match (if f.second.isNone then boundWalker f.entry s else none) with
  | some w => if free w then some w else general
  | none => general

/-- Waiting requests take the walkers that are free, second crossings ahead of first crossings (R143; log entry 88). -/
def startWalks (s : State) : State :=
  let waiting := s.fab.frames.filter (fun f => f.stage == .asked && f.walker.isNone)
  forEach (waiting.filter (fun f => f.second.isSome) ++ waiting.filter (fun f => f.second.isNone))
    (fun f t => match walkerFor f t with
      | some w => updFrame f.ident (fun g => { g with walker := some w }) t
      | none => t) s

/-- Re-enter held fragments through fabric port 30 as their second crossing, with the first fragment's decision (R154). -/
def reenterHeld (leaf hash : Nat) (hs : List Held) (s : State) : State :=
  startWalks (forEach hs (fun h t =>
    let k := { h.key with follow := true }
    let f : Frame := {
      ident := t.fab.nextIdent, entry := 30, keyPort := h.keyPort, bytes := h.bytes, ended := true, whole := true, epoch := h.epoch,
      second := some { key := k, leaf := some leaf, hash := hash }, stage := .asked, key := k, arrived := h.arrived }
    chargeNew f.ident (setFab { t.fab with frames := t.fab.frames ++ [f], nextIdent := t.fab.nextIdent + 1 } t)) s)

/-- A first fragment's outcome in the fragment table (R152, R154). -/
def firstFragment (f : Frame) (leaf : Nat) (s : State) : State :=
  let id := fragIdent f.keyPort f.key
  let ep := f.epoch.getD 0
  let node := mapGet 0 s.pat.nodeMem leaf
  let grp := (frameTables f s).map (fun t => (mapGet {} t.groups (nodeByte node 14 % 64)).seed)
  let h := hash16 (if nodeByte node 2 / 8 % 4 = 1 then grp.getD 0 else s.pat.workerSeed) f.key
  match s.pat.frags.find? (fun e => e.ident == id) with
  | none =>
    match freeFragSlot s.pat.frags with
    | none => bump .patFragTableFull f.keyPort s
    | some i => setFrags (s.pat.frags ++ [{ slot := i, ident := id, early := false, epoch := ep, leaf := leaf, hash := h, since := s.cyc }]) s
  | some e =>
    let same := decide (e.epoch = ep)
    let s1 := updFrag e.slot (fun x => { x with
      early := false, epoch := ep, leaf := leaf, hash := h, since := s.cyc, held := if same then x.held.filter (fun y => y.ident.isSome) else [] }) s
    if !e.early then s1
    else if same then reenterHeld leaf h (e.held.filter (fun y => y.ident.isNone)) s1
    else bumpBy e.held.length .patFragEpochDrop f.keyPort s1

/-- An early fragment is diverted at the finding: its cells are freed, and the hold buffer has what has come of it and takes the rest (R154). -/
def holdFragment (f : Frame) (slot n : Nat) (s : State) : State :=
  if n ≥ 4 ∨ heldBytes s + f.bytes.length > 262144 then refuse f.ident .patFragEarlyDrop f.keyPort s
  else
    let h : Held := { ident := if f.ended then none else some f.ident, keyPort := f.keyPort, bytes := f.bytes, epoch := f.epoch, key := f.key, arrived := f.arrived }
    updFrame f.ident (fun g => { g with hold := true })
      (dropFrame f.ident (bump .patFragHeld f.keyPort (updFrag slot (fun x => { x with held := x.held ++ [h] }) s)))

/-- A later fragment (R153-R155): it takes a RESOLVED entry's leaf, is held, or is dropped. -/
def laterFragment (f : Frame) (late : Bool) (s : State) : State :=
  let id := fragIdent f.keyPort f.key
  let ep := f.epoch.getD 0
  match s.pat.frags.find? (fun e => e.ident == id) with
  | some e =>
    if e.epoch ≠ ep then refuse f.ident .patFragEpochDrop f.keyPort s
    else if e.early then (if f.second.isSome then refuse f.ident .patFragEarlyDrop f.keyPort s else holdFragment f e.slot e.held.length s)
    else
      applyLeaf f.ident e.leaf (some e.hash) late
        (updFrame f.ident (fun g => { g with key := { g.key with follow := true } }) (updFrag e.slot (fun x => { x with since := s.cyc }) s))
  | none =>
    if f.second.isSome then refuse f.ident .patFragEarlyDrop f.keyPort s
    else
      match freeFragSlot s.pat.frags with
      | none => refuse f.ident .patFragTableFull f.keyPort s
      | some i => holdFragment f i 0 (setFrags (s.pat.frags ++ [{ slot := i, ident := id, early := true, epoch := ep, since := s.cyc }]) s)

/-- A held fragment that its ingress was still delivering has ended (R154): a good one is held whole, or re-enters where its first fragment has come meanwhile; one that ends badly, or that the buffer cannot hold, is dropped and counted in the counter given. -/
def endHeld (f : Frame) (good : Bool) (c : Ctr) (inst : Nat) (s : State) : State :=
  match s.pat.frags.find? (fun e => e.held.any (fun h => h.ident == some f.ident)) with
  | none => s
  | some e =>
    let mine (h : Held) : Bool := h.ident == some f.ident
    let drop (t : State) : State := updFrag e.slot (fun x => { x with held := x.held.filter (fun h => !(mine h)) }) t
    let whole (h : Held) : Held := { h with ident := none, bytes := f.bytes }
    if !good then bump c inst (drop s)
    else if heldBytes (drop s) + f.bytes.length > 262144 then bump .patFragEarlyDrop f.keyPort (drop s)
    else if e.early then updFrag e.slot (fun x => { x with held := replaceIf mine whole x.held }) s
    else reenterHeld e.leaf e.hash ((e.held.filter mine).map whole) (drop s)

/-- The default TCI of an ingress port's untagged frames: DEFAULT_PCP, DEI 0, DEFAULT_VID (R132, R228). -/
def defaultTci (p : Nat) (s : State) : Nat :=
  if p < 27 then bits (getPort p s).record 32 30 * 8192 + bits (getPort p s).record 29 18 else 0

/-- Whether R144 makes the verdict of a frame ready no later than its lead cell completes: an express-class leaf reached in few enough visits for the offset at which the key is complete and the rate of its marked port, in a zone whose trees keep the bound walker free. (MAX_SDU 0 is the stream filter's part.) -/
def verdictSure (f : Frame) (t : EpochTables) (key : List Byte) (root leaf : Nat) (s : State) : Bool :=
  let rate := portRate f.entry s
  let roots := (List.range 5).filterMap (fun kt => mapGet none t.roots (frameZone t f * 5 + kt))
  f.second.isNone && (boundWalker f.entry s).isSome && decide (rate > 0) && decide (nodeByte (mapGet 0 s.pat.nodeMem leaf) 2 / 32 = 7)
    && (keyOffset f (defaultTci f.keyPort s)).any (fun e => decide (walkVisits s.pat.nodeMem key 24 root ≤ maxVisits e rate))
    && pathsWithin s.pat.nodeMem (maxVisits 18 rate) roots

/-- The end of a lookup (R137-R141, R144, R151-R155): a held fragment takes its first fragment's leaf; else the tree is walked from the root of the key's zone and type. -/
def endLookup (f : Frame) (late : Bool) (ecc : Ecc) (s : State) : State :=
  match f.second.bind (fun x => x.leaf) with
  | some l => applyLeaf f.ident l (f.second.map (fun x => x.hash)) late s
  | none =>
    let s0 := if ecc = .corrected then bump .patNodeEccCorr 0 s else s
    match frameTables f s with
    | none => refuse f.ident .patNoTree f.keyPort s0
    | some t =>
      if f.key.isFrag && !f.key.firstFrag then laterFragment f late s0
      else
        let z := frameZone t f
        let kb := keyBytes f.keyPort z f.second.isSome ((f.second.map (fun x => x.verified)).getD false) ((f.second.map (fun x => x.tag)).getD 0) f.key
        match mapGet none t.roots (z * 5 + keyType f.key) with
        | none => refuse f.ident .patNoTree f.keyPort s0
        | some root =>
          match (if ecc = .uncorrectable then none else walkTree s.pat.nodeMem t.nodes kb 24 root) with
          | none => detectFault 0x0E 0 (refuse f.ident .patTreeFault f.keyPort s0)
          | some l => applyLeaf f.ident l none (late && !(verdictSure f t kb root l s)) (if f.key.isFrag then firstFragment f l s0 else s0)

end Sys2Proof.Machine
end

