-- ==== Sys2Proof/Machine/Ingress.lean ====
section
/-! DEFINITION. Machine/Ingress.lean: frames enter: the receive MAC (R234), stamps (R102, R103), cell builders (R30, R31, R40), the lookup request (R143), the verdict (R141) and admission (R37-R40, R43, R47-R53, R95). -/

namespace Sys2Proof.Machine

/-- The fixed ingress correction of a linked mode in 1/10 ns (R102). -/
def ingressCorrection (mode : Nat) : Nat :=
  match mode with
  | 0 => 3184
  | 1 => 6128
  | 2 => 12016
  | 3 => 13920
  | 4 => 15200
  | 5 => 384
  | 6 => 2240
  | 7 => 272
  | 16 => 448
  | 17 => 896
  | 18 => 1792
  | _ => 0

/-- The fixed egress correction of a linked mode in 1/10 ns (R102). -/
def egressCorrection (mode : Nat) : Nat :=
  match mode with
  | 0 => 2056
  | 1 => 3984
  | 2 => 7824
  | 3 => 8560
  | 4 => 10400
  | 5 => 256
  | 6 => 1440
  | 7 => 192
  | 16 => 320
  | 17 => 640
  | 18 => 1280
  | _ => 0

/-- Receive and transmit trim of a port in 1/16 ns (R103). -/
def trimOf (p : Nat) (s : State) : Int × Int := mapGet (0, 0) s.bcn.trims p

/-- The receive stamp of what crosses a port's medium now in a mode, in 2^-16 ns: the sample less the correction and the trim, which adds to it (R102, R103). -/
def rxStampAt (mode p : Nat) (s : State) : Nat :=
  let corr := Int.ofNat (ingressCorrection mode * 65536 / 10) + (trimOf p s).1 * 4096
  (Int.ofNat (nowFrac s) - corr).toNat

/-- The receive stamp of a frame that crosses a port's medium now (R102, R103). -/
def rxStamp (p : Nat) (s : State) : Nat := rxStampAt (getPort p s).mode p s

/-- The transmit stamp of a frame that leaves a port now, in 2^-16 ns (R102, R103). -/
def txStamp (p : Nat) (s : State) : Nat :=
  (Int.ofNat (nowFrac s) + Int.ofNat (egressCorrection (getPort p s).mode * 65536 / 10) + (trimOf p s).2 * 4096).toNat

/-- The frame that an entry port is receiving. -/
def receiving (p : Nat) (s : State) : Option Frame := s.fab.frames.find? (fun f => f.entry == p && !f.ended)

/-- Replace the last bytes of a frame by the FCS of the bytes before them (R95, R96, R167). -/
def restoreFcs (b : List Byte) : List Byte := let d := b.take (b.length - 4); d ++ fcs32 d

/-- The tags between a frame's addresses and what it carries, by the offsets of their EtherTypes: the first VLAN tag, the end of the last one, the first R-TAG, and where the tags stop. -/
structure Tags where
  vlan : Option Nat := none
  vlanEnd : Nat := 12
  rtag : Option Nat := none
  stop : Nat := 12
  deriving DecidableEq, Repr

/-- The tags of a frame from where `r` stops, as a pass follows them (R130, R132). -/
def tagWalk (b : List Byte) : Nat → Tags → Tags
  | 0, r => r
  | n + 1, r =>
    let o := r.stop
    let e := numAt b o 2
    let sec := numAt b (o + 2) 1
    if e = 0x8100 ∨ e = 0x88A8 then tagWalk b n { r with vlan := r.vlan.or (some o), vlanEnd := o + 4, stop := o + 4 }
    else if e = 0xF1C1 then tagWalk b n { r with rtag := r.rtag.or (some o), stop := o + 6 }
    else if e = 0x88E5 ∧ sec / 4 % 4 = 0 then tagWalk b n { r with stop := o + (if sec / 32 % 2 = 1 then 16 else 8) }
    else r

/-- The tags of a frame: as many as a pass parses behind the Ethernet header (R131). -/
def tagsOf (b : List Byte) : Tags := tagWalk b 7 {}

/-- The frame's bytes with an R-TAG: its number overwritten in place, or a tag inserted after the last VLAN tag, or after the source address (R95). -/
def putRtag (b : List Byte) (q : Nat) : List Byte :=
  let t := tagsOf b
  match t.rtag with
  | some o => b.take (o + 4) ++ natBytes 2 q ++ b.drop (o + 6)
  | none => b.take t.vlanEnd ++ bytesOf [0xF1, 0xC1, 0, 0] ++ natBytes 2 q ++ b.drop t.vlanEnd

/-- The frame's bytes without their R-TAG (R96). -/
def stripRtag (b : List Byte) : List Byte :=
  match (tagsOf b).rtag with
  | some o => b.take o ++ b.drop (o + 6)
  | none => b

/-- A whole frame whose R-TAG was stripped: padded to 64 bytes where the removal left it shorter and it was not shorter before, with its FCS recomputed (R96). -/
def padStripped (b : List Byte) : List Byte :=
  let d := b.take (b.length - 4)
  let p := if 58 ≤ b.length ∧ b.length < 64 then d ++ List.replicate (60 - d.length) 0 else d
  p ++ fcs32 p

/-- The bytes of a frame that have come from its ingress, before the cell builder lengthened or shortened it. -/
def Frame.received (f : Frame) : Nat := (Int.ofNat f.bytes.length - f.shift).toNat

/-- A frame ends badly: it is dropped when its forwarding has not started; otherwise its tail is marked bad and it is closed with the cells it has (R31, R40). Counted once, in the counter given. -/
def closeBad (i : Nat) (c : Ctr) (inst : Nat) (s : State) : State :=
  match getFrame i s with
  | none => s
  | some f =>
    if f.stage = .gone then dropFrame i (endFrame i (if f.hold then endHeld f false c inst s else s))
    else
      let s0 := endFrame i (updFrame i (fun g => { g with bad := true }) s)
      let s1 := if f.bad then s0 else bump c inst s0
      if f.stage = .admitted ∧ f.started then
        syncFrame i (ruleBytes i (chargeNew i (updFrame i (fun g => { g with badTail := true }) s1)))
      else if f.stage = .admitted then
        let links := f.queues.flatMap (fun q => (queueOf q.1 s).filterMap (fun e => if e.frame = i then e.link else none))
        let s2 := forEach f.queues (fun q t =>
          let t1 := syncLinks q.1 (setQueue q.1 ((queueOf q.1 t).filter (fun e => e.frame != i)) t)
          forEach (queueOf q.1 t1) (fun e u => syncFrame e.frame u) t1) s1
        let s3 := setFab { s2.fab with mcFree := { s2.fab.mcFree with freed := s2.fab.mcFree.freed ++ links } } s2
        dropFrame i s3
      else startWalks (dropFrame i s1)

/-- A frame's last byte has come with a good FCS (R40, R90, R92, R95, R96, R166). -/
def closeGood (i : Nat) (s : State) : State :=
  match getFrame i s with
  | none => s
  | some f =>
    let short := decide (f.ek = .ethernet) && f.claim.any (fun c => decide (c > f.received - 4))
    let s0 := endFrame i (updFrame i (fun g => { g with whole := true }) s)
    if f.stage = .gone then dropFrame i (if f.hold then endHeld f (!short) .patMalformed f.keyPort s0 else s0)
    else if short ∧ f.stage ≠ .parsing then closeBad i .patMalformed f.keyPort s0
    else
      let s1 := if f.stage = .admitted ∧ (f.verdict.strip ∨ f.verdict.gen.isSome) then
          updFrame i (fun g => { g with bytes := if g.verdict.strip then padStripped g.bytes else restoreFcs g.bytes }) s0 else s0
      let s2 := ruleBytes i s1
      if f.stage = .sized then runFilter i s2 else s2

/-- The per-zone action of DEPTH_EXCEEDED (R159): 0 DROP, 1 KEEPER, 2 PARTIAL, 3 RECIRC. -/
def depthAction (z : Nat) (s : State) : Nat := mapGet 0 s.pat.depthAction z

/-- A key is complete: the lookup is requested, or the frame is dropped when eight requests of its port wait for a walker (R143); a pass that ended at the depth limit takes its zone's action (R159). -/
def keyComplete (i : Nat) (k : PKey) (depth : Bool) (s : State) : State :=
  match getFrame i s with
  | none => s
  | some f =>
    let z := ((frameTables f s).map (fun t => frameZone t f)).getD 0
    let act := depthAction z s
    let s1 := updFrame i (fun g => { g with key := { k with depthExc := depth && act == 2 }, claim := k.claim }) s
    let ask (t : State) : State :=
      if waitingLookups f.entry t ≥ 8 then refuse i .patLookupDrop f.keyPort t
      else startWalks (updFrame i (fun g => { g with stage := .asked }) t)
    if !depth then ask s1
    else
      let s2 := bump .patDepthExceeded f.keyPort s1
      match act with
      | 0 => dropFrame i s2
      | 1 => plainVerdict i { ports := [27], worker := workerOf k none s2 } s2
      | 2 => ask s2
      | _ =>
        if f.second.isSome then refuse i .patPassLimit f.keyPort s2
        else plainVerdict i { ports := [30], recirc := some (k.layers.length - 1, 0) } s2

/-- Parse what has come of a frame (R130-R132, R159). -/
def parseMore (i : Nat) (s : State) : State :=
  match getFrame i s with
  | none => s
  | some f =>
    if f.stage ≠ .parsing then s
    else
      match parseFrame f (defaultTci f.keyPort s) with
      | .need => s
      | .malformed => refuse i .patMalformed f.keyPort s
      | .done k d =>
        if f.ended ∧ f.ek = .ethernet ∧ k.claim.any (fun c => decide (c > f.bytes.length - 4)) then refuse i .patMalformed f.keyPort s
        else keyComplete i k d s

/-- Bytes arrive at an entry port's cell builder. A first byte starts a frame under the current epoch (R145). -/
def takeBytes (p keyPort : Nat) (ek : EdgeKind) (second : Option Second) (epoch : Option Nat) (bs : List Byte) (s : State) : Nat × State :=
  match receiving p s with
  | some f => (f.ident, updFrame f.ident (fun g => { g with bytes := g.bytes ++ bs }) s)
  | none =>
    let f : Frame := { ident := s.fab.nextIdent, entry := p, keyPort := keyPort, bytes := bs, ek := ek, second := second, epoch := epoch,
                       arrived := if p < 27 then rxStamp p s else nowFrac s }
    (f.ident, setFab { s.fab with frames := s.fab.frames ++ [f], nextIdent := s.fab.nextIdent + 1 } s)

/-- After new bytes: the length limit of a waiting stream filter (R90), the R-TAG length limit (R31), cells and headers. -/
def settleBytes (i : Nat) (s : State) : State :=
  match getFrame i s with
  | none => s
  | some f =>
    if f.bytes.length > 9216 ∧ f.stage ≠ .gone then closeBad i .boltOversize f.entry (updFrame i (fun g => { g with bytes := g.bytes.take 9216 }) s)
    else
      let s1 := if f.stage = .gone then s else chargeNew i s
      let s2 := if f.stage = .sized then runFilter i s1 else s1
      if f.stage = .admitted then syncFrame i s2 else parseMore i s2

/-- A whole frame or message enters from an internal block (R31): the Keeper, the gateway, the Bodkin, the recirculation or the host bridge. -/
def enterWhole (p keyPort : Nat) (ek : EdgeKind) (second : Option Second) (epoch : Option Nat) (stamp : Nat) (bs : List Byte) (s : State) : State :=
  let f : Frame := { ident := s.fab.nextIdent, entry := p, keyPort := keyPort, bytes := bs.take 9217, ek := ek, second := second, epoch := epoch,
                     arrived := stamp, ended := true, whole := true }
  let s1 := setFab { s.fab with frames := s.fab.frames ++ [f], nextIdent := s.fab.nextIdent + 1 } s
  settleBytes f.ident (ruleBytes f.ident s1)

/-- The number of the current epoch. -/
def currentEpoch (s : State) : Option Nat := s.pat.current.map (fun t => t.number)

/-- The clause 30 counters of a frame's end at an Ethernet port; `len` bytes of it have come (R234, R242). -/
def countEnd (p len : Nat) (fin : FrameEnd) (s : State) : State :=
  match fin with
  | .good => bumpBy (len - 18) .aOctetsReceivedOK p (bump .aFramesReceivedOK p s)
  | .badFcs => bump .aFrameCheckSequenceErrors p s
  | .pcsError => bump .aFrameCheckSequenceErrors p s
  | _ => s

/-- A frame's end at an Ethernet port, `len` bytes of it received (R234, R242). A frame that the cell builder has ended already (R31) is counted by its MAC alone; the rest of one that its MAC has ended already is discarded. -/
def endAtPort (p i len : Nat) (fin : FrameEnd) (s : State) : State :=
  match getFrame i s with
  | none => if p < 27 then countEnd p len fin s else s
  | some f =>
    if p ≥ 27 then (match fin with | .good => closeGood i s | .more => s | _ => closeBad i .boltCutStomp p s)
    else if fin = .more then s
    else if f.stage = .gone ∧ f.bad then dropFrame i (endFrame i s)
    else if f.ended then countEnd p len fin s
    else
      match fin with
      | .good =>
        if len < 64 then closeBad i .boltCutStomp p (bump .aFrameCheckSequenceErrors p s)
        else if numAt f.bytes 12 2 = 0x8808 then
          dropFrame i (endFrame i (updFrame i (fun g => { g with stage := .gone }) (bump .aMACControlFramesReceived p s)))
        else closeGood i (countEnd p len fin s)
      | .badFcs => closeBad i .boltCutStomp p (countEnd p len fin (updFrame i (fun g => { g with whole := true }) s))
      | _ => closeBad i .boltCutStomp p (countEnd p len fin s)

/-- A frame is closed while its ingress still delivers it: what is left of it is swallowed up to its end (R38, R40). `got` bytes of it have come; `mac` when the MAC itself has ended and counted it. -/
def swallow (p i : Nat) (mac : Bool) (got : Nat) (s : State) : State :=
  match getFrame i s with
  | some f => if f.ended then
      let g : Frame := { ident := s.fab.nextIdent, entry := p, keyPort := p, bytes := List.replicate got 0, stage := .gone, bad := mac }
      setFab { s.fab with frames := s.fab.frames ++ [g], nextIdent := s.fab.nextIdent + 1 } s
    else s
  | none =>
    let g : Frame := { ident := s.fab.nextIdent, entry := p, keyPort := p, bytes := List.replicate got 0, stage := .gone, bad := mac }
    setFab { s.fab with frames := s.fab.frames ++ [g], nextIdent := s.fab.nextIdent + 1 } s

/-- Bytes that pass a port's MAC toward its cell builder, with what ends the frame (R31, R40, R102, R130, R143, R145, R234). -/
def receiveBytes (p : Nat) (bs : List Byte) (fin : FrameEnd) (s : State) : State :=
  let mx := if p < 27 then bits (getPort p s).record 46 33 else 9217
  let x := takeBytes p p .ethernet none (currentEpoch s) bs s
  match getFrame x.1 x.2 with
  | none => x.2
  | some f =>
    if p < 27 ∧ f.received > mx then
      let s1 := if f.bad then x.2 else closeBad x.1 .boltCutStomp p (bump .aFrameTooLongErrors p (updFrame x.1 (fun g => { g with bytes := g.bytes.take (g.bytes.length - (g.received - mx)) }) x.2))
      if fin = .more then swallow p x.1 true 0 s1 else if f.bad then endAtPort p x.1 f.received fin s1 else s1
    else
      let control := decide (p < 27) && decide (f.bytes.length ≥ 14) && decide (numAt f.bytes 12 2 = 0x8808)
      let s2 := if control then x.2 else settleBytes x.1 x.2
      let s3 := endAtPort p x.1 f.received fin s2
      if control then s3
      else if fin = .more then swallow p x.1 false f.received s3
      else
        match getFrame x.1 s3 with
        | some g => if g.ended ∧ g.stage ≠ .gone then settleBytes x.1 s3 else s3
        | none => s3

/-- Whether the tributary blocks that a port receives now are decoded as error blocks (R199). -/
def tribSpoiled (p : Nat) (s : State) : Bool := (p == 24 || p == 25) && (getLink (p - 24) s).dropThreads

/-- Error blocks reach a port: the frame that it is receiving ends with a bad FCS, and the rest of it is no frame (R199, R208). -/
def spoilFrame (p : Nat) (s : State) : State :=
  match receiving p s with
  | some f => if f.stage = .gone ∧ f.bad then s else swallow p f.ident true 0 (endAtPort p f.ident f.received .pcsError s)
  | none => s

/-- Bytes that arrive as error blocks: no frame begins in them (R199). -/
def receiveSpoiled (p : Nat) (fin : FrameEnd) (s : State) : State :=
  let s1 := spoilFrame p s
  match receiving p s1 with
  | some f => endAtPort p f.ident f.received fin s1
  | none => if fin = .more then swallow p s1.fab.nextIdent true 0 s1 else s1

/-- FRAME_RECEIVE at a port (R234, R242). A port whose link is down receives nothing; in DOZE the caller has counted and discarded the frame (R392). A frame with an invalid preamble, and a fragment that fails reassembly, are discarded before the cell builder and counted; with such a fragment the frame that it continued ends as a frame error (log entry 81). -/
def receiveAt (p : Nat) (bs : List Byte) (fin : FrameEnd) (s : State) : State :=
  if !linkUpNow p s then s
  else if tribSpoiled p s then receiveSpoiled p fin s
  else
    match fin with
    | .preamble => bump .aMACMergeFrameSmdErrorCount p s
    | .fragError =>
      let s1 := bump .aMACMergeFrameAssErrorCount p s
      match receiving p s1 with
      | some f => closeBad f.ident .boltCutStomp p s1
      | none => s1
    | .merged n => receiveBytes p bs .good (bumpBy n .aMACMergeFragCountRx p (bump .aMACMergeFrameAssOkCount p s))
    | _ => receiveBytes p bs fin s

/-- The oldest frame of a port whose admission point has not come: frames of one port are admitted in arrival order (R37). -/
def nextForAdmission (p : Nat) (s : State) : Option Frame :=
  s.fab.frames.find? (fun f => f.entry == p && (f.stage == .parsing || f.stage == .asked || f.stage == .sized || f.stage == .ready))

/-- The destination queues of a verdict. -/
def verdictQueues (v : Verdict) : List Nat := v.ports.map (fun p => 8 * p + v.cls)

/-- Whether tests 1 or 2 of R49 hold for a queue, and which: `some true` for the reservation. -/
def admitTest (q : Nat) (s : State) : Option Bool :=
  let b := getBuf q s
  if occOf q s < b.reserve then some true
  else if sFree s > 0 ∧ 64 * useOf q s < 2 ^ b.k * sFree s then some false
  else none

/-- The rival that a port is for a tracked queue. -/
def rivalOf (q p : Nat) (s : State) : Option Rival := (trackedOf q s).bind (fun t => t.rivals.find? (fun r => r.port == p))

/-- An arrival from a port for a queue found tests 1 and 2 failing, or was held: the queue becomes contended, or is counted when 64 are tracked, and the port competes (R51, R52). -/
def noteRefused (q p : Nat) (s : State) : State :=
  let s1 := if (trackedOf q s).isSome ∨ s.fab.unweighted.contains q then s
    else if s.fab.tracked.length ≥ 64 then bump .trdFairTableFull 0 (setFab { s.fab with unweighted := s.fab.unweighted ++ [q] } s)
    else setFab { s.fab with tracked := s.fab.tracked ++ [{ queue := q }] } s
  updTracked q (fun t => if t.rivals.any (fun r => r.port == p) then t else { t with rivals := t.rivals ++ [{ port := p }] }) s1

/-- An arrival from a port for a tracked queue: the port is not idle in this rotation (R52). -/
def noteArrival (q p : Nat) (s : State) : State :=
  updTracked q (fun t => { t with rivals := replaceIf (fun r => r.port == p) (fun r => { r with arrived := true, idle := 0 }) t.rivals }) s

/-- The admission credit that tests 1 and 2 also need for a competing port (R49, R53). -/
def hasCredit (q p : Nat) (s : State) : Bool :=
  match rivalOf q p s with
  | some r => !r.counted || decide (r.credit > 0)
  | none => true

/-- Head drop: up to four of the oldest unstarted frames of the queue, until test 1 or 2 holds (R49). -/
def headDropLoop (q : Nat) : Nat → State → State
  | 0, s => s
  | n + 1, s => if (admitTest q s).isSome ∨ (queueOf q s).isEmpty then s else headDropLoop q n (dropHead q .boltHeadDrop s)

/-- The admission test of R49 for one queue: whether it admits, and by which test, with the state after head drops and counts. An arrival of a competing port that finds no credit is refused at once, in head drop mode too (R53, last sentence). -/
def admitTo (q p : Nat) (s : State) : Option Bool × State :=
  let s0 := noteArrival q p (endContention s)
  if !hasCredit q p s0 then (none, bump .boltAdmitDrop q (noteRefused q p s0))
  else
    match admitTest q s0 with
    | some r => (some r, s0)
    | none =>
      let s1 := noteRefused q p s0
      if !(getBuf q s1).headDrop then (none, bump .boltAdmitDrop q s1)
      else
        let s2 := headDropLoop q 4 s1
        match admitTest q s2 with
        | some r => (some r, s2)
        | none => (none, bump .boltAdmitDrop q s2)

/-- Take a multicast link entry: one not used yet, else the one freed first (R43; log entry 8). -/
def takeLink (s : State) : Option (Nat × State) :=
  let l := s.fab.mcFree
  if l.fresh < 16384 then some (l.fresh, setFab { s.fab with mcFree := { l with fresh := l.fresh + 1 } } s)
  else
    match l.freed with
    | [] => none
    | x :: t => some (x, setFab { s.fab with mcFree := { l with freed := t } } s)

/-- Give each admitting queue of a frame its link entry, while the pool has one (R43). -/
def giveLinks : List (Nat × Bool) → State → List ((Nat × Bool) × Nat) × State
  | [], s => ([], s)
  | q :: rest, s =>
    match takeLink s with
    | none => giveLinks rest (bump .boltMcLinkDrop q.1 s)
    | some x => let r := giveLinks rest x.2; ((q, x.1) :: r.1, r.2)

/-- A frame with the bytes that the cell builder makes of its own. -/
def lengthen (g : Frame) (b : List Byte) : Frame := { g with bytes := b, shift := g.shift + (Int.ofNat b.length - Int.ofNat g.bytes.length) }

/-- The frame's number and R-TAG, when its filter names a generation function and a queue admits it (R95). A tag that its recovery function strips goes first, with the padding of R96, and the new one is put into what is left (DESIGN CHOICE, log entry 94: the spec gives no order of the two). -/
def numberFrame (i : Nat) (s : State) : State :=
  match getFrame i s with
  | none => s
  | some f =>
    let s1 := if f.verdict.strip then updFrame i (fun g => lengthen g (if g.ended then padStripped (stripRtag g.bytes) else stripRtag g.bytes)) s else s
    match f.verdict.gen with
    | none => s1
    | some fn =>
      match mapGet none s.sch.gens fn with
      | none => updFrame i (fun g => { g with verdict := { g.verdict with gen := none } }) s1
      | some n =>
        let s2 := { s1 with sch := { s1.sch with gens := mapSet none s1.sch.gens fn (some ((n + 1) % 65536)) } }
        updFrame i (fun g => let b := putRtag g.bytes n; lengthen g (if g.ended then restoreFcs b else b)) s2

/-- The copies of an admitted frame that get a place (R43): the one queue's without a link entry; of more, those for which the pool has one, and a copy that is left alone gives its entry back. -/
def linkCopies (qs : List (Nat × Bool)) (s : State) : List ((Nat × Bool) × Option Nat) × State :=
  match qs with
  | [q] => ([(q, none)], s)
  | _ =>
    let r := giveLinks qs s
    match r.1 with
    | [x] => ([(x.1, none)], setFab { r.2.fab with mcFree := { r.2.fab.mcFree with freed := r.2.fab.mcFree.freed ++ [x.2] } } r.2)
    | l => (l.map (fun x => (x.1, some x.2)), r.2)

/-- Queue the copies of an admitted frame (R43): as unicast with one, else as multicast with a link entry per copy. -/
def enqueueCopies (i : Nat) (copies : List ((Nat × Bool) × Option Nat)) (s : State) : State :=
  let put (q : Nat) (e : QEnt) (t : State) : State :=
    let last := (queueOf q t).getLast?
    let t1 := syncLinks q (setQueue q (queueOf q t ++ [e]) t)
    match last with
    | some l => syncFrame l.frame t1
    | none => t1
  forEach copies (fun c t => put c.1.1 { frame := i, link := c.2 } t)
    (updFrame i (fun g => { g with queues := copies.map (·.1), refs := copies.length, multicast := decide (copies.length ≥ 2) }) s)

/-- Whether the first cell of a frame is complete at its builder (R37). -/
def firstCellDone (f : Frame) (express : Bool) : Bool := decide (cellsFormed express f.ended f.bytes.length ≥ 1)

/-- A frame that at least one queue admits is numbered, takes its places and is charged to its queues (R22, R38, R43, R50, R95); one whose every copy finds no link entry is dropped. A frame that its R-TAG takes past 9,216 bytes is closed, and what is left of it at its ingress is discarded (R31). -/
def admitFrame (f : Frame) (express : Bool) (qs : List (Nat × Bool)) (s : State) : State :=
  let i := f.ident
  let x := linkCopies qs (numberFrame i s)
  if x.1.isEmpty then dropFrame i x.2
  else
    let s1 := trimCells i (setFab { x.2.fab with headroom := mapSet 0 x.2.fab.headroom f.entry (mapGet 0 x.2.fab.headroom f.entry - f.charges.length) } x.2)
    let s2 := enqueueCopies i x.1 (updFrame i (fun g => { g with stage := .admitted, express := express, charges := [], stamp := nowUs s1 % 1048576 }) s1)
    let s3 := syncFrame i (chargeNew i s2)
    match getFrame i s3 with
    | none => s3
    | some g =>
      if g.bytes.length ≤ 9216 then s3
      else
        let s4 := closeBad i .boltOversize f.entry (updFrame i (fun x => { x with bytes := x.bytes.take 9216 }) s3)
        if f.ended then s4 else swallow f.entry i false g.received s4

/-- ADMISSION: the next frame of an ingress port is tested at its admission point and admitted to or refused by each destination queue (R22, R36-R40, R43, R49-R53, R95). -/
def admitNext (p : Nat) (s : State) : State :=
  match nextForAdmission p s with
  | none => s
  | some f =>
    let fits := expressFits f s
    let express := fits && f.verdict.inTime && f.cells.isEmpty
    if f.stage ≠ .ready ∨ !(firstCellDone f express) then s
    else
      let s0 := if fits && !f.verdict.inTime then bump .patExpressLate f.keyPort s else s
      let r := (verdictQueues f.verdict).foldl (fun (acc : List (Nat × Bool) × State) q =>
        let a := admitTo q f.entry acc.2
        match a.1 with
        | some b => (acc.1 ++ [(q, b)], a.2)
        | none => (acc.1, a.2)) ([], s0)
      if r.1.isEmpty then dropFrame f.ident r.2 else admitFrame f express r.1 r.2

/-- The lookup of a port that ends next: the oldest that a walker has taken (R143). -/
def walkedNext (p : Nat) (s : State) : Option Frame := s.fab.frames.find? (fun f => f.entry == p && f.stage == .asked && f.walker.isSome)

/-- LOOKUP_COMPLETE: the oldest lookup of a port that a walker has taken ends, and its walker takes the next request (R141, R143). -/
def completeLookup (p : Nat) (late : Bool) (ecc : Ecc) (s : State) : State :=
  match walkedNext p s with
  | none => s
  | some f => startWalks (endLookup f late ecc s)

end Sys2Proof.Machine
end

