-- ==== Sys2Proof/Machine/LineCode.lean ====
section
/-! DEFINITION. Machine/LineCode.lean: the line coding of the Selvage links: 66-bit blocks, the tributary's clause 49 blocks and the scrambler (R192, R193, R207). A block is its 2-bit sync header above its 64-bit payload; payload bit k is sent k-th, so octet n is bits 8n+7..8n. The block types are those of IEEE 802.3 clause 49 (log entry 95). -/

namespace Sys2Proof.Machine

/-- The 64-bit payload of eight octets, octet 0 lowest (R192). -/
def payload (octets : List Byte) : BitVec 64 := BitVec.ofNat 64 (beNat (octets.take 8).reverse)

/-- A block with sync header 0b01: a header, thread or data block (R192). -/
def dataBlock (octets : List Byte) : BitVec 66 := (1#2) ++ payload octets

/-- A control block with sync header 0b10 and a block type in octet 0. -/
def controlBlock (kind : Nat) (octets : List Byte) : BitVec 66 := (2#2) ++ payload (natBytes 1 kind ++ octets)

/-- An idle block: type 0x1E, all idle characters (R207). -/
def idleBlock : BitVec 66 := controlBlock 0x1E []

/-- An error block: type 0x1E with eight 7-bit error characters of value 0x1E (R235). -/
def faultBlock : BitVec 66 := (2#2) ++ BitVec.ofNat 64 (0x1E + 256 * ((List.range 8).map (fun i => 0x1E * 2 ^ (7 * i))).foldl (· + ·) 0)

/-- The terminate block of a frame whose last `b` octets, fewer than 8, are left: the block type tells how many. -/
def endBlock (b : List Byte) : BitVec 66 := controlBlock ([0x87, 0x99, 0xAA, 0xB4, 0xCC, 0xD2, 0xE1, 0xFF].getD b.length 0) b

/-- The data blocks of a frame, then its terminate block, or an error block in its place, and the inter-frame gap: idle blocks until 12 octets have passed since the last of the frame. -/
def bodyBlocks (bad : Bool) : Nat → List Byte → List (BitVec 66)
  | 0, _ => []
  | fuel + 1, b =>
    if b.length ≥ 8 then dataBlock (b.take 8) :: bodyBlocks bad fuel (b.drop 8)
    else (if bad then faultBlock else endBlock b) :: List.replicate (if b.length ≤ 4 then 1 else 2) idleBlock

/-- The blocks of a frame on a tributary: a start block with the preamble and the SFD, then its octets (R207, R235). -/
def frameBlocks (bytes : List Byte) (bad : Bool) : List (BitVec 66) :=
  controlBlock 0x78 (List.replicate 6 0x55 ++ [0xD5]) :: bodyBlocks bad (bytes.length / 8 + 1) bytes

/-- The scrambler 1 + x^39 + x^58 over `n` payload bits from bit `k` on; bit 0 of its state is the bit sent last (R192). -/
def scrambleBits (x : BitVec 64) : Nat → Nat → BitVec 58 → BitVec 64 → BitVec 58 × BitVec 64
  | 0, _, st, acc => (st, acc)
  | n + 1, k, st, acc =>
    let y := x.getLsbD k ^^ st.getLsbD 38 ^^ st.getLsbD 57
    scrambleBits x n (k + 1) ((st <<< 1) ||| (if y then 1 else 0)) (if y then acc ||| BitVec.twoPow 64 k else acc)

/-- A run of blocks as the line carries them, and the scrambler after them: sync headers pass unchanged (R192). -/
def scrambleLine (blocks : List (BitVec 66)) (st : BitVec 58) : List (BitVec 66) × BitVec 58 :=
  blocks.foldl (fun acc b =>
    let r := scrambleBits (b.extractLsb' 0 64) 64 0 acc.2 0
    (acc.1 ++ [b.extractLsb' 64 2 ++ r.2], r.1)) ([], st)

/-- A frame leaves an external port; a tributary's also joins the block stream of its link (R207, R235). -/
def sendFrame (p : Nat) (bytes : List Byte) (bad : Bool) (s : State) : State :=
  let s1 := emit (.frame p bytes bad) s
  if p = 24 ∨ p = 25 then
    let x := getLink (p - 24) s1
    setLink (p - 24) { x with trib := x.trib ++ frameBlocks bytes bad } s1
  else s1

end Sys2Proof.Machine
end

