-- ==== Sys2Proof/Machine/Egress.lean ====
section
/-! DEFINITION. Machine/Egress.lean: the Shuttles and the Treadle (R32-R35, R51-R54), transmission selection (R67-R69), cell reads (R42, R44, R45), the end of a transmission (R69, R235, R167), preemption (R71, R72) and the Lamp room's closing of gates (R84). -/

namespace Sys2Proof.Machine

/-- The first of some candidates at or after a round-robin pointer. -/
def firstFrom (modulus ptr : Nat) (cands : List Nat) : Option Nat :=
  (List.range modulus).findSome? (fun k => let x := (ptr + k) % modulus; if cands.contains x then some x else none)

/-- A matching in progress: requester and port pairs, grant pointers and accept pointers. -/
structure Rga where
  pairs : List (Nat × Nat) := []
  grant : SMap Nat
  accept : SMap Nat
  deriving DecidableEq, Repr

/-- One request-grant-accept iteration (R34) between 8 requesters and 4 ports; `base` places the Shuttle's pointers. -/
def rgaIterate (base : Nat) (can : Nat → Nat → Bool) (first : Bool) (m : Rga) : Rga :=
  let freeReq (r : Nat) : Bool := m.pairs.all (fun x => x.1 != r)
  let freePort (p : Nat) : Bool := m.pairs.all (fun x => x.2 != p)
  let grants : List (Nat × Nat) := (List.range 4).filterMap (fun p =>
    if freePort p then
      (firstFrom 8 (mapGet 0 m.grant (base + p)) ((List.range 8).filter (fun r => freeReq r && can r p))).map (fun r => (r, p))
    else none)
  forUpTo 8 (fun r n =>
    match firstFrom 4 (mapGet 0 n.accept (base + r)) ((grants.filter (fun g => g.1 == r)).map (·.2)) with
    | none => n
    | some p =>
      { pairs := n.pairs ++ [(r, p)],
        grant := if first then mapSet 0 n.grant (base + p) ((r + 1) % 8) else n.grant,
        accept := if first then mapSet 0 n.accept (base + r) ((p + 1) % 4) else n.accept }) m

/-- The three iterations of a cell slot (R34). -/
def rgaMatch (base : Nat) (can : Nat → Nat → Bool) (s : State) : List (Nat × Nat) × State :=
  let m := rgaIterate base can false (rgaIterate base can false (rgaIterate base can true { grant := s.fab.grantPtr, accept := s.fab.acceptPtr }))
  (m.pairs, setFab { s.fab with grantPtr := m.grant, acceptPtr := m.accept } s)

/-- The oldest frame of a port's cell builder with a complete cell that is not stored yet. -/
def builderFrame (p : Nat) (s : State) : Option Frame :=
  s.fab.frames.find? (fun f => f.entry == p && f.stage != .gone && decide (f.cells.length < f.formed) && !(expressWaits f s))

/-- The queue place before a frame's in a queue. -/
def beforeIn (i : Nat) : List QEnt → Option QEnt
  | a :: b :: t => if b.frame = i then some a else beforeIn i (b :: t)
  | _ => none

/-- What names an admitted frame by its first cell is written when that cell is stored: its link entries, and the descriptor before it (R30, R43). -/
def syncPlaces (f : Frame) (s : State) : State :=
  forEach f.queues (fun q t =>
    let t1 := syncLinks q.1 t
    match beforeIn f.ident (queueOf q.1 t1) with
    | some e => syncFrame e.frame t1
    | none => t1) s

/-- A builder's cell is allocated in a bank and written (R34). -/
def storeCell (i bank : Nat) (s : State) : State :=
  match getFrame i s, takeRow bank s with
  | some f, some x =>
    let s1 := syncFrame i (updFrame i (fun g => { g with cells := g.cells ++ [x.1] }) x.2)
    if f.cells.isEmpty then syncPlaces f s1 else s1
  | _, _ => s

/-- The quadrant of a frame's first egress port. -/
def egressQuad (f : Frame) : Nat := ((f.queues.headD (0, false)).1 / 8) / 8

/-- Whether the cells of a frame are stored by express writes: in its egress quadrant, while its banks take cells. Once the quadrant takes no more, the rest of an admitted express frame goes through the rotation (R35, R38, R58; DESIGN CHOICE, log entry 94). -/
def expressStored (f : Frame) (s : State) : Bool := f.express && quadState (egressQuad f) s == .on

/-- The bank of a quadrant with the most free cells among those not taken, the lowest on a tie (R35; log entry 8). -/
def roomiest (q : Nat) (taken : List Nat) (s : State) : Option Nat :=
  let l := ((List.range 4).map (fun b => 4 * q + b)).filter (fun b => !(taken.contains b) && decide (bankFree b s > 0))
  l.foldl (fun best b => match best with
    | none => some b
    | some x => if bankFree b s > bankFree x s then some b else best) none

/-- The express cells of a slot are stored first, each in its egress quadrant (R35): the banks whose write ports they took. -/
def expressWrites (s : State) : List Nat × State :=
  (List.range 27).foldl (fun (acc : List Nat × State) p =>
    match builderFrame p acc.2 with
    | none => acc
    | some f =>
      if !(expressStored f acc.2) then acc
      else
        match roomiest (egressQuad f) acc.1 acc.2 with
        | none => acc
        | some b => (acc.1 ++ [b], storeCell f.ident b acc.2)) ([], s)

/-- The write side of an ingress quadrant in a slot: builders matched with the connected quadrant's write ports; a cell whose port an express write took is displaced and counted (R32-R35) in the instance of the quadrant written to: the spec says only that the counter is per quadrant (DESIGN CHOICE, log entry 94). -/
def writeSide (taken : List Nat) (i : Nat) (s : State) : State :=
  let j := (i + s.fab.slot) % 4
  if quadState j s ≠ .on then s
  else
    let can (r b : Nat) : Bool :=
      match builderFrame (8 * i + r) s with
      | some f => !(expressStored f s) && decide (bankFree (4 * j + b) s > 0)
      | none => false
    let m := rgaMatch (16 * i) can s
    forEach m.1 (fun x t =>
      let b := 4 * j + x.2
      if taken.contains b then bump .shtExpressDisplace j t
      else match builderFrame (8 * i + x.1) t with
        | some f => storeCell f.ident b t
        | none => t) m.2

/-- The cells that an egress port asks for: up to eight cells of its frame beyond those delivered, written and not returned yet (R42). -/
def wantedCells (p : Nat) (s : State) : List Nat :=
  match mapGet none s.fab.tx p with
  | none => []
  | some t =>
    match getFrame t.frame s with
    | none => []
    | some f => ((f.cells.drop t.done).take 8).filter (fun c => !(t.returned.contains c))

/-- Whether a port transmits a frame of the express bypass. -/
def sendsExpress (p : Nat) (s : State) : Bool :=
  match (mapGet none s.fab.tx p).bind (fun t => getFrame t.frame s) with
  | some f => f.express
  | none => false

/-- A requested cell returns into the port's return buffer. -/
def returnCell (p c : Nat) (s : State) : State :=
  match mapGet none s.fab.tx p with
  | none => s
  | some t => setFab { s.fab with tx := mapSet none s.fab.tx p (some { t with returned := t.returned ++ [c] }) } s

/-- The reads of express cells stored in their egress quadrant on its local read paths (R35): the banks whose read ports they took. -/
def expressReads (s : State) : List Nat × State :=
  (List.range 27).foldl (fun (acc : List Nat × State) p =>
    if !(sendsExpress p acc.2) then acc
    else
      match (wantedCells p acc.2).find? (fun c => decide (bankOf c / 4 = p / 8) && !(acc.1.contains (bankOf c))) with
      | none => acc
      | some c => (acc.1 ++ [bankOf c], returnCell p c acc.2)) ([], s)

/-- The read side of a bank quadrant in a slot (R32, R34). -/
def readSide (taken : List Nat) (b : Nat) (s : State) : State :=
  let e := (b + 4 - s.fab.slot) % 4
  let find (r k : Nat) : Option Nat :=
    if (sendsExpress (8 * e + r) s ∧ b = e) ∨ taken.contains (4 * b + k) then none else (wantedCells (8 * e + r) s).find? (fun c => bankOf c == 4 * b + k)
  let m := rgaMatch (64 + 16 * b) (fun r k => (find r k).isSome) s
  forEach m.1 (fun x t => match find x.1 x.2 with
    | some c => returnCell (8 * e + x.1) c t
    | none => t) m.2

/-- SHUTTLE_SLOT: one cell slot; the Treadle then turns to the next (R32-R35). -/
def shuttleTurn (s : State) : State :=
  let w := expressWrites s
  let s1 := forUpTo 4 (writeSide w.1) w.2
  let r := expressReads s1
  let s2 := forUpTo 4 (readSide r.1) r.2
  setFab { s2.fab with slot := (s2.fab.slot + 1) % 4 } s2

/-- Hand out a quadrant's part of a queue's credit by round robin among its competing ports, one cell at a time from a remembered turn (R53). -/
def handOut (ports : List Nat) : Nat → Nat → List Rival → Nat × List Rival
  | 0, turn, rs => (turn, rs)
  | n + 1, turn, rs =>
    match firstFrom 8 turn (ports.map (· % 8)) with
    | none => (turn, rs)
    | some k => handOut ports n ((k + 1) % 8) (replaceIf (fun r => decide (r.port % 8 = k) && ports.contains r.port) (fun r => { r with credit := r.credit + 1 }) rs)

/-- The least common multiple of 1 to 32: every division by a number of competing ports is exact in parts of it, so that the remainders of R53 keep one unit. -/
def shareUnit : Nat := 144403552893600

/-- One rotation of one tracked queue (R52, R53): ports idle one rotation longer, first refusals counted as competing, freed cells and credit above 64 divided by demand with remainders carried. -/
def rotateQueue (t : Tracked) : Tracked :=
  let rs := t.rivals.map (fun r => { r with counted := true, idle := if r.arrived then 0 else r.idle + 1, arrived := false })
  let surplus := (rs.map (fun r => (r.credit - 64).toNat)).foldl (· + ·) 0
  let rs1 := rs.map (fun r => { r with credit := min r.credit 64 })
  let pool := t.credit + t.freedCells + surplus
  let dOf (i : Nat) : Nat := (rs1.filter (fun r => r.port / 8 == i)).length
  let n := rs1.length
  if n = 0 then { t with rivals := rs1, credit := pool, freedCells := 0 }
  else
    (List.range 4).foldl (fun (x : Tracked) i =>
      if dOf i = 0 then x
      else
        let part := pool * dOf i * (shareUnit / n) + x.carry.getD i 0
        let h := handOut ((x.rivals.filter (fun r => r.port / 8 == i)).map (·.port)) (part / shareUnit) (x.turn.getD i 0) x.rivals
        { x with carry := x.carry.set i (part % shareUnit), turn := x.turn.set i h.1, rivals := h.2 })
      { t with rivals := rs1, credit := 0, freedCells := 0 }

/-- TREADLE_ROTATION (R51-R53). -/
def rotate (s : State) : State :=
  let s1 := endContention s
  setFab { s1.fab with tracked := s1.fab.tracked.map rotateQueue } s1

/-- COMPETING_TIMEOUT: a port that has not arrived for 16 rotations stops competing (R52). Its credit or deficit goes with it: the spec says nothing of it (DESIGN CHOICE, log entry 94). -/
def stopCompeting (q ingress : Nat) (s : State) : State :=
  updTracked q (fun t => { t with rivals := t.rivals.filter (fun r => !(decide (r.port = ingress) && decide (r.idle ≥ 16))) }) s

/-- COMPLETE: the frame has ended and its last cell is stored (R30). -/
def Frame.complete (f : Frame) : Bool := f.ended && decide (f.cells.length = f.formed)

/-- Whether the frame may start toward an egress port under R39. -/
def mayStart (f : Frame) (p : Nat) (s : State) : Bool :=
  if f.stage ≠ .admitted then false
  else if f.express then true
  else if f.entry < 27 ∧ p < 27 ∧ portRate f.entry s ≥ portRate p s then decide (f.cells.length ≥ 2) || f.complete
  else f.complete

/-- The length that the guard band takes for the head frame of a queue: the stored length of a complete frame, else MaxSDU; a bypass frame is judged with MaxSDU whatever is stored of it (R82, R86). -/
def guardLen (q : Nat) (f : Frame) (s : State) : Nat := if f.complete && !f.express then f.bytes.length else (getQP q s).maxSdu

/-- After a renegotiation a CBS queue is over-rate while its port's rate is at or below its idleSlope: its credit is then never below zero (R70). -/
def markQueue (q : Nat) (s : State) : State :=
  if !(linkUpNow (q / 8) s) then s
  else
    let excess := decide ((getQP q s).sel = 1) && decide (portRate (q / 8) s ≤ (getQP q s).idle * 1000)
    { s with sch := { s.sch with
        overrate := mapSet false s.sch.overrate q excess
        credit := if excess then mapSet 0 s.sch.credit q (max 0 (mapGet 0 s.sch.credit q)) else s.sch.credit } }

/-- The class of a port's preempted frame. -/
def preemptedClass (p : Nat) (s : State) : Option Nat := (mapGet none s.fab.preempted p).map (fun t => t.cls)

/-- Whether a frame of a queue is in transmission or preempted: its next frame boundary is to come (R65). -/
def midFrame (q : Nat) (s : State) : Bool := sendingClass (q / 8) s == some (q % 8) || preemptedClass (q / 8) s == some (q % 8)

/-- The transmission parameters that a queue was last given. -/
def lastQP (q : Nat) (s : State) : QueueParam := (mapGet none s.sch.nextParam q).getD (getQP q s)

/-- New transmission parameters take effect; a queue that leaves CBS or DWRR loses its credit and deficit with the algorithm (log entry 9); the over-rate flag ends with its idleSlope (R70). -/
def takeParam (q : Nat) (x : QueueParam) (s : State) : State :=
  let old := getQP q s
  let same := old.sel == x.sel
  { s with sch := { s.sch with
      qparam := mapSet (queueParamReset q) s.sch.qparam q x,
      nextParam := mapSet none s.sch.nextParam q none,
      credit := if same then s.sch.credit else mapSet 0 s.sch.credit q 0,
      deficit := if same then s.sch.deficit else mapSet 0 s.sch.deficit q 0,
      overrate := if x.sel = 1 ∧ old.idle = x.idle then s.sch.overrate else mapSet false s.sch.overrate q false } }

/-- At a frame boundary of a port, the parameters that waited for it take effect (R65). -/
def boundary (p : Nat) (s : State) : State :=
  forUpTo 8 (fun c t =>
    match mapGet none t.sch.nextParam (8 * p + c) with
    | some x => if midFrame (8 * p + c) t then t else takeParam (8 * p + c) x t
    | none => t) s

/-- Whether a queue is preemptable on a port with preemption active (R68). -/
def preemptableNow (q : Nat) (s : State) : Option Nat := if (getQP q s).preemptable then preemptA (q / 8) s else none

/-- The conditions of R68 that do not concern the head frame, with the guard band for so many bytes. -/
def queueOpen (q len : Nat) (s : State) : Bool :=
  let p := q / 8
  sendsNow p s && (gateOut p s).getLsbD (q % 8) && guardPasses p (q % 8) len (preemptableNow q s) s
    && (decide ((getQP q s).sel ≠ 1) || decide (mapGet 0 s.sch.credit q ≥ 0))
    && !((preemptableNow q s).isSome && (getGates p s).hold)

/-- Whether a queue is eligible (R68). A frame for a full pipeline of the Bodkin stays at the head of its queue (R286). -/
def eligible (q : Nat) (s : State) : Bool :=
  match (queueOf q s).head?.bind (fun e => getFrame e.frame s) with
  | none => false
  | some f => (decide (q / 8 ≠ 29) || decide (inFlight (pipeOf f s) s < 64)) && mayStart f (q / 8) s && queueOpen q (guardLen q f s) s

/-- The classes of a port's DWRR group, ascending (R66). -/
def dwrrClasses (p : Nat) (s : State) : List Nat := (List.range 8).filter (fun c => (getQP (8 * p + c) s).sel == 2)

/-- End a visit to a DWRR queue and move the pointer to the next class (R69). -/
def endVisit (p c : Nat) (s : State) : State :=
  let q := 8 * p + c
  let n := (dwrrClasses p s).length
  { s with sch := { s.sch with
      deficit := if (queueOf q s).isEmpty then mapSet 0 s.sch.deficit q 0 else s.sch.deficit,
      dwrrPtr := mapSet 0 s.sch.dwrrPtr p (if n = 0 then 0 else (c + 1) % n),
      visiting := mapSet false s.sch.visiting p false } }

/-- The DWRR group's turn (R69): visits until one has an eligible queue with a deficit above zero. -/
def dwrrTurn (p : Nat) (ok : Nat → Bool) : Nat → State → Option Nat × State
  | 0, s => (none, s)
  | fuel + 1, s =>
    let c := mapGet 0 s.sch.dwrrPtr p
    let q := 8 * p + c
    let n := (dwrrClasses p s).length
    if mapGet false s.sch.visiting p then
      if ok c && decide (mapGet 0 s.sch.deficit q > 0) then (some c, s) else dwrrTurn p ok fuel (endVisit p c s)
    else if !(ok c) then dwrrTurn p ok fuel { s with sch := { s.sch with dwrrPtr := mapSet 0 s.sch.dwrrPtr p ((c + 1) % n) } }
    else
      dwrrTurn p ok fuel { s with sch := { s.sch with
        deficit := mapSet 0 s.sch.deficit q (min (mapGet 0 s.sch.deficit q) 0 + Int.ofNat (64 * (getQP q s).weight)),
        visiting := mapSet false s.sch.visiting p true } }

/-- The class that a port selects among those allowed, in the order of R67, with the state after the DWRR visits. -/
def selectClass (p : Nat) (allowed : Nat → Bool) (s : State) : Option Nat × State :=
  let ok (c : Nat) : Bool := allowed c && eligible (8 * p + c) s
  match [7, 6, 5, 4, 3, 2, 1, 0].find? (fun c => decide ((getQP (8 * p + c) s).sel ≠ 2) && ok c) with
  | some c => (some c, s)
  | none => if (dwrrClasses p s).any ok then dwrrTurn p ok 4096 s else (none, s)

/-- Replace what a port is transmitting. -/
def setTx (p : Nat) (t : Option Tx) (s : State) : State := setFab { s.fab with tx := mapSet none s.fab.tx p t } s

/-- Replace a port's preempted frame. -/
def setPreempted (p : Nat) (t : Option Tx) (s : State) : State := setFab { s.fab with preempted := mapSet none s.fab.preempted p t } s

/-- Start the head frame of a queue (R67); at port 29 it is handed to the lane that its context names now (R286). -/
def startHead (q : Nat) (s : State) : State :=
  match queueOf q s with
  | [] => s
  | e :: t =>
    let s1 := syncLinks q (setQueue q t s)
    let lane := if q / 8 = 29 then ((getFrame e.frame s).map (fun f => pipeOf f s)).getD 0 else 0
    setTx (q / 8) (some { frame := e.frame, cls := q % 8, link := e.link, lane := lane }) (updFrame e.frame (fun g => { g with started := true }) s1)

/-- Whether a preempted frame of a port may resume: its own queue's gate, guard band over its remaining bytes, credit and hold (R68, R72, R82). -/
def resumable (t : Tx) (p : Nat) (s : State) : Bool :=
  match getFrame t.frame s with
  | none => false
  | some f => queueOpen (8 * p + t.cls) ((if f.complete then f.bytes.length else (getQP (8 * p + t.cls) s).maxSdu) - t.fragFrom) s

/-- EGRESS_SELECT: an idle port starts the head frame of the first eligible queue; with a frame preempted, it starts a protected frame or else resumes (R67, R68, R72). -/
def selectAt (p : Nat) (s : State) : State :=
  match mapGet none s.fab.tx p with
  | some _ => s
  | none =>
    match mapGet none s.fab.preempted p with
    | some t =>
      let c := selectClass p (fun c => !(getQP (8 * p + c) s).preemptable) s
      match c.1 with
      | some k => startHead (8 * p + k) c.2
      | none =>
        if resumable t p c.2 then
          bump .aMACMergeFragCountTx p (setPreempted p none (setTx p (some t) c.2))
        else c.2
    | none =>
      let c := selectClass p (fun _ => true) s
      match c.1 with
      | some k => startHead (8 * p + k) c.2
      | none => c.2

/-- The last cell of a copy has been read: the copy is finished, and a multicast frame's cells are freed with the last copy (R44, R45). The record stays until no port transmits it. -/
def finishRead (p : Nat) (t : Tx) (s : State) : State :=
  let s1 := match t.link with
    | some l => setFab { s.fab with mcFree := { s.fab.mcFree with freed := s.fab.mcFree.freed ++ [l] } } s
    | none => s
  let s2 := updFrame t.frame (fun g => { g with refs := g.refs - 1 }) s1
  let s3 := setTx p (some { t with readAll := true, link := none }) s2
  match getFrame t.frame s3 with
  | some f => if f.refs = 0 then freeAll t.frame s3 else syncFrame t.frame s3
  | none => s3

/-- CELL_READ: an egress read engine delivers the next cell of its frame to the MAC, in order, once a read has returned it; a beat of an express frame may come from the bypass tap (R40, R42, R44, R45, R60). -/
def readCell (p : Nat) (ecc : Ecc) (s : State) : State :=
  match mapGet none s.fab.tx p with
  | none => s
  | some t =>
    match getFrame t.frame s with
    | none => s
    | some f =>
      match f.cells[t.done]? with
      | none => s
      | some c =>
        if t.cut.isSome ∨ !(t.returned.contains c || f.express) then s
        else
          let t1 : Tx := { t with done := t.done + 1, returned := t.returned.filter (fun x => x != c) }
          let s1 := match ecc with
            | .corrected => bump .boltEccCorr (bankOf c) s
            | _ => s
          let s2 := if !f.multicast then freeCell t.frame (setTx p (some t1) s1) else setTx p (some t1) s1
          if ecc = .uncorrectable then
            let s3 := detectFault 13 (bankOf c) (setTx p (some { t1 with bad := true, cut := some (f.bytesIn t.done) }) s2)
            let s4 := closeBad t.frame .boltEccUncorr (bankOf c) s3
            if f.ended then s4 else swallow f.entry t.frame false f.received s4
          else if f.ended ∧ t1.done = f.formed then finishRead p { t1 with bad := t.bad || f.badTail } s2
          else s2

/-- Set PCP and DEI of the outer VLAN tag, where the frame has one (R132, R167), from those it holds. -/
def mapPcp (f : Nat → Nat) (b : List Byte) : List Byte :=
  match (tagsOf b).vlan with
  | some o => b.take (o + 2) ++ [BitVec.ofNat 8 (f (numAt b (o + 2) 1 / 16) * 16 + numAt b (o + 2) 1 % 16)] ++ b.drop (o + 3)
  | none => b

/-- Set PCP and DEI of the outer VLAN tag (R167). -/
def setPcp (pcpDei : Nat) (b : List Byte) : List Byte := mapPcp (fun _ => pcpDei) b

/-- Set the DEI bit of the outer VLAN tag, where the frame has one (R93). -/
def setDei (b : List Byte) : List Byte := mapPcp (fun x => x / 2 * 2 + 1) b

/-- Update an Internet checksum for a 16-bit word that changed. -/
def checksumUpdate (hc old new : Nat) : Nat :=
  let x := (65535 - hc) + (65535 - old) + new
  let y := x % 65536 + x / 65536
  65535 - (y % 65536 + y / 65536)

/-- Set the DSCP of the IP header at an offset (R167). -/
def setDscp (d v6 off : Nat) (b : List Byte) : List Byte :=
  if v6 = 1 then
    let w := numAt b off 2
    let w' := w / 4096 * 4096 + d * 64 + w % 64
    b.take off ++ natBytes 2 w' ++ b.drop (off + 2)
  else
    let old := numAt b off 2
    let new := old / 256 * 256 + d * 4 + old % 4
    let hc := checksumUpdate (numAt b (off + 10) 2) old new
    b.take off ++ natBytes 2 new ++ (b.drop (off + 2)).take 8 ++ natBytes 2 hc ++ b.drop (off + 12)

/-- How far the cell builder has moved a frame's headers behind its tags: an R-TAG inserted or stripped (R95, R96). -/
def tagShift (f : Frame) : Int :=
  let had := f.key.rtag
  (if f.verdict.strip ∧ had then -6 else 0) + (if f.verdict.gen.isSome ∧ (!had ∨ f.verdict.strip) then 6 else 0)

/-- The copy of a frame that an egress port sends: MARK rewrites, the DEI of a yellow frame, a recomputed FCS where it changed (R93, R167). -/
def egressBytes (f : Frame) (p : Nat) : List Byte :=
  if p = 30 then f.bytes
  else
    let m := f.verdict.mark
    let b1 := if f.verdict.marked ∧ m.getLsbD 11 then setPcp (bits m 15 12) f.bytes else f.bytes
    let t := tagWalk b1 16 {}
    let b2 := if f.verdict.marked ∧ m.getLsbD 10 ∧ f.key.ipVer ≠ 0 then setDscp (bits m 7 2) (if f.key.ipVer = 6 then 1 else 0) (t.stop + 2) b1 else b1
    let b3 := if f.verdict.yellow then setDei b2 else b2
    if b3 = f.bytes ∨ ¬ f.whole then b3 else restoreFcs b3

/-- The bytes of a copy that must end with an invalid FCS: what was sent, less a stored FCS, then the inverted CRC-32 of it (R235). -/
def badBytes (f : Frame) (p : Nat) (cut : Option Nat) : List Byte :=
  let b := egressBytes f p
  let stop := if f.whole then b.length - 4 else b.length
  let d := b.take (match cut with
    | some n => Nat.min n stop
    | none => stop)
  d ++ (fcs32 d).map (fun x => ~~~x)

/-- A frame that has left the queues of an internal port for the block behind it: the port, the frame as it stood, its bytes, and its lane at port 29. -/
structure Handoff where
  port : Nat
  frame : Frame
  bytes : List Byte
  lane : Nat := 0
  deriving DecidableEq, Repr

/-- Charge a frame's stored length to its DWRR queue at its end, and end the visit that cannot go on (R69). -/
def chargeDwrr (q len : Nat) (s : State) : State :=
  let p := q / 8
  if (getQP q s).sel ≠ 2 then s
  else
    let d := mapGet 0 s.sch.deficit q - Int.ofNat len
    let s1 : State := { s with sch := { s.sch with deficit := mapSet 0 s.sch.deficit q d } }
    if mapGet false s1.sch.visiting p && decide (mapGet 0 s1.sch.dwrrPtr p = q % 8) && !(eligible q s1 && decide (d > 0)) then endVisit p (q % 8) s1 else s1

/-- A port leaves a frame: a copy not read to its end is finished now; the record goes when no copy is left (R44). -/
def leaveFrame (t : Tx) (s : State) : State :=
  let s1 := if t.readAll then s else dropCopy t.frame t.link s
  match getFrame t.frame s1 with
  | some f => if f.refs = 0 ∧ f.ended ∧ !(stillSent t.frame s1) then eraseFrame t.frame (ruleBytes t.frame s1) else s1
  | none => s1

/-- A bad frame as an external port sends it: its bytes with the inverted FCS, which is also what the final fragment of a preempted one carries, and on 10GBASE-R, 25GBASE-R, T0 and the tributaries an error block in place of the terminate block (R235). -/
def emitBad (p : Nat) (bytes : List Byte) (s : State) : State :=
  let m := (getPort p s).mode
  let s1 := sendFrame p bytes true s
  if m = 5 ∨ m = 7 ∨ p = 24 ∨ p = 25 ∨ p = 26 then emit (.errorBlock p) s1 else s1

/-- A started frame ends: it leaves its port, and its DWRR queue is charged its stored length (R44, R69). -/
def endStarted (p : Nat) (t : Tx) (s : State) : State :=
  let len := match getFrame t.frame s with
    | some f => f.bytes.length
    | none => 0
  chargeDwrr (8 * p + t.cls) len (leaveFrame t s)

/-- FRAME_TRANSMIT_END: the frame whose bytes have all gone is ended: charged, counted, emitted or handed to its internal block (R44, R69, R93, R167, R235, R242). -/
def transmitEnd (p : Nat) (s : State) : State × Option Handoff :=
  match mapGet none s.fab.tx p with
  | none => (s, none)
  | some t =>
    match getFrame t.frame s with
    | none => (setTx p none s, none)
    | some f =>
      let bad := t.bad || f.badTail
      if t.cut.isNone ∧ ¬ (f.ended ∧ t.done = f.formed) then (s, none)
      else
        let s1 := boundary p (endStarted p t (setTx p none s))
        if p ≥ 27 then (s1, if bad then none else some { port := p, frame := f, bytes := egressBytes f p, lane := t.lane })
        else if bad then (emitBad p (badBytes f p t.cut) s1, none)
        else
          (sendFrame p (egressBytes f p) false
            (bumpBy (f.bytes.length - 18) .aOctetsTransmittedOK p (bump .aFramesTransmittedOK p s1)), none)

/-- The bytes of a frame after which R72 permits a cut: from the first at which the fragment with its mCRC holds 64 x (1 + a) bytes, while 64 bytes of the frame remain, among those that the MAC has been given. -/
def cutRange (a : Nat) (t : Tx) (f : Frame) : Nat × Nat := (t.fragFrom + 64 * (1 + a) - 4, Nat.min (f.bytesIn t.done) (f.bytes.length - 64))

/-- PREEMPTION: a preemptable frame in transmission gives way to a protected frame, to hold or to its closed gate, at a point that R72 permits. How many bytes the MAC has sent by then is no state of the block: a free value within the permitted points (log entry 6). -/
def preemptAt (p : Nat) (s : State) : State :=
  match mapGet none s.fab.tx p with
  | none => s
  | some t =>
    match preemptableNow (8 * p + t.cls) s, getFrame t.frame s, mapGet none s.fab.preempted p with
    | some a, some f, none =>
      let asked := (List.range 8).any (fun c => !(getQP (8 * p + c) s).preemptable && eligible (8 * p + c) s)
        || (getGates p s).hold || !((gateOut p s).getLsbD t.cls)
      let r := cutRange a t f
      if asked ∧ t.cut.isNone ∧ r.1 ≤ r.2 then
        let d := drawBelow (r.2 - r.1 + 1) s
        setPreempted p (some { t with fragFrom := r.1 + d.1 }) (setTx p none d.2)
      else s
    | _, _, _ => s

/-- PREEMPT_VERIFY: the verify exchange of 802.3br succeeds and preemption becomes active with the partner's additional fragment size (R71); on a G port at 100 Mbit/s it stays inactive. -/
def verifyPreempt (p a : Nat) (s : State) : State :=
  let r := getPort p s
  if r.up && r.record.getLsbD 49 && !(decide (16 ≤ p) && decide (p ≤ 23) && decide (r.mode = 4)) then
    { s with sch := { s.sch with preempt := mapSet 0 s.sch.preempt p (a + 1) } }
  else s

/-- A selected frame whose first beat has not reached the MAC goes back to the head of its queue (R84). -/
def unselect (p : Nat) (t : Tx) (s : State) : State :=
  let q := 8 * p + t.cls
  let s1 := setTx p none s
  syncLinks q (setQueue q ({ frame := t.frame, link := t.link } :: queueOf q s1) (updFrame t.frame (fun g => { g with started := stillSent t.frame s1 }) s1))

/-- The Lamp room closes a port's gates (R84): a frame in transmission ends at the next beat with an invalid FCS, a preempted frame is abandoned, a selected frame stays queued. -/
def closeGatesAt (p : Nat) (s : State) : State :=
  let s1 := match mapGet none s.fab.preempted p with
    | some t => boundary p (endStarted p t (bump .boltGateAbort p (setPreempted p none s)))
    | none => s
  match mapGet none s1.fab.tx p with
  | none => s1
  | some t =>
    if t.done = 0 then boundary p (unselect p t s1)
    else if t.cut.isSome then s1
    else
      let n := match getFrame t.frame s1 with
        | some f => f.bytesIn t.done
        | none => 0
      bump .boltGateAbort p (setTx p (some { t with bad := true, cut := some n }) s1)

/-- Every port that is not safe-open, when the gates close (R21, R84). -/
def closeAllGates (s : State) : State := forUpTo 27 (fun p t => if lampCloses p t then closeGatesAt p t else t) s

/-- Frames that a port was sending when its link went down are lost; they count as transmitted (R40, R62, R69, R241, R242). -/
def loseTx (p : Nat) (s : State) : State :=
  let lose (t : Option Tx) (x : State) : State := match t with
    | some t => endStarted p t (bump .aFramesLostDueToIntMACXmitError p x)
    | none => x
  let t := mapGet none s.fab.tx p
  let u := mapGet none s.fab.preempted p
  boundary p (lose u (lose t (setPreempted p none (setTx p none s))))

end Sys2Proof.Machine
end

