-- ==== Sys2Proof/Machine/EdgeOps.lean ====
section
/-! DEFINITION. Machine/EdgeOps.lean: the edge gateway: pseudo-headers (R134, R135), route chains (R170-R173), transmit queues and slots (R174-R176), IEEE 1722 encapsulation (R178-R182), the CAN controllers (R243-R253) and the LIN controllers (R183-R185, R257-R260), the address-claim proxy (R186-R188). -/

namespace Sys2Proof.Machine

/-- The CAN record after reset: AUTO_RECOVER 1 and TX_TIMEOUT 100; a virtual channel has no AUTO_RECOVER (R243, R246). -/
def canRecordReset (ch : Nat) : BitVec 128 := BitVec.ofNat 128 ((if ch < 16 then 1 <<< 121 else 0) + (100 <<< 34))

/-- A physical CAN channel after reset. -/
def canReset : CanChan := { record := canRecordReset 0 }

/-- A physical CAN channel. -/
def getCan (ch : Nat) (s : State) : CanChan := mapGet canReset s.edge.can ch

/-- Replace a physical CAN channel. -/
def setCan (ch : Nat) (c : CanChan) (s : State) : State := { s with edge := { s.edge with can := mapSet canReset s.edge.can ch c } }

/-- A virtual CAN channel after reset. -/
def vcReset : VcChan := { record := canRecordReset 16 }

/-- The record of a CAN channel 0-31. -/
def canRecord (ch : Nat) (s : State) : BitVec 128 :=
  if ch < 16 then (getCan ch s).record else (mapGet vcReset s.edge.vc ch).record

/-- PROTOCOL of a channel as a destination: 0 classic, 1 FD, 2 XL; virtual channels count as FD (R173). -/
def canProtocol (ch : Nat) (s : State) : Nat := if ch < 16 then bits (canRecord ch s) 126 125 else 1

/-- TX_TIMEOUT of a channel in BCN cycles (R175). -/
def txTimeout (ch : Nat) (s : State) : Nat := bits (canRecord ch s) 43 34 * msCyc

/-- The LIN record after reset (R257). -/
def linRecordReset : BitVec 64 := BitVec.ofNat 64 ((19200 <<< 47) + (13 <<< 42) + (1 <<< 37) + (1 <<< 36) + (1000 <<< 26))

/-- A LIN channel after reset. -/
def linReset : LinChan := { record := linRecordReset }

/-- A LIN channel. -/
def getLin (ch : Nat) (s : State) : LinChan := mapGet linReset s.edge.lin ch

/-- Replace a LIN channel. -/
def setLin (ch : Nat) (c : LinChan) (s : State) : State := { s with edge := { s.edge with lin := mapSet linReset s.edge.lin ch c } }

/-- The bytes that a DLC names: classic lengths stop at 8 (R201). -/
def dlcBytes (fd : Bool) (dlc : Nat) : Nat :=
  if dlc ≤ 8 then dlc else if !fd then 8 else [12, 16, 20, 24, 32, 48, 64].getD (dlc - 9) 64

/-- The smallest DLC whose FD length holds so many bytes. -/
def fdDlc (n : Nat) : Nat := ((List.range 16).find? (fun d => decide (dlcBytes true d ≥ n))).getD 15

/-- Whether so many bytes are an FD length. -/
def isFdLen (n : Nat) : Bool := (List.range 16).any (fun d => dlcBytes true d == n)

/-- FORMAT code of a pseudo-header (R134). -/
def formatCode : CanFormat → Nat
  | .classicBase => 0
  | .classicExt => 1
  | .fdBase => 2
  | .fdExt => 3
  | .xl => 4

/-- The frame format of a FORMAT code. -/
def formatOf (n : Nat) : CanFormat :=
  match n with
  | 0 => .classicBase
  | 1 => .classicExt
  | 2 => .fdBase
  | 3 => .fdExt
  | _ => .xl

/-- Whether a format is CAN FD. -/
def isFd (f : CanFormat) : Bool := f == .fdBase || f == .fdExt

/-- Whether a format has a 29-bit identifier. -/
def isExt (f : CanFormat) : Bool := f == .classicExt || f == .fdExt

/-- The ISO 11783 fields of a pseudo-header: PGN, SA, DA and the byte of PRIORITY and ISO (R135). -/
def isoFields (iso : Bool) (m : CanMsg) : List Byte :=
  if iso && isExt m.format && !m.rtr then
    let pf := m.ident / 65536 % 256
    let ps := m.ident / 256 % 256
    let page := m.ident / 16777216 % 4
    let pdu1 := decide (pf < 240)
    natBytes 3 (page * 65536 + pf * 256 + (if pdu1 then 0 else ps)) ++ natBytes 1 (m.ident % 256)
      ++ natBytes 1 (if pdu1 then ps else 255) ++ natBytes 1 (m.ident / 67108864 % 8 * 32 + 16)
  else List.replicate 6 0

/-- The CAN pseudo-header and data of a received message (R134). -/
def canPseudo (ch : Nat) (iso : Bool) (m : CanMsg) : List Byte :=
  let xl := m.format == .xl
  natBytes 1 (formatCode m.format * 32 + flagBits [m.rtr, m.brs, m.esi] * 4) ++ natBytes 1 ch ++ natBytes 4 m.ident
    ++ isoFields iso m ++ natBytes 2 m.data.length ++ natBytes 1 (if xl then 0 else m.dlc % 16)
    ++ [if xl then m.sdt else 0, if xl then m.vcid else 0, if xl && m.sec then 128 else 0] ++ natBytes 4 (if xl then m.af.toNat else 0)
    ++ [0, 0] ++ m.data

/-- The CAN message that a pseudo-header message carries. -/
def canOfPseudo (b : List Byte) : CanMsg :=
  let b0 := numAt b 0 1
  { format := formatOf (b0 / 32), rtr := decide (b0 / 16 % 2 = 1), brs := decide (b0 / 8 % 2 = 1), esi := decide (b0 / 4 % 2 = 1),
    ident := numAt b 2 4, dlc := numAt b 14 1 % 16, sdt := b.getD 15 0, vcid := b.getD 16 0, sec := decide (numAt b 17 1 ≥ 128),
    af := BitVec.ofNat 32 (numAt b 18 4), data := (b.drop 24).take (numAt b 12 2) }

/-- The protected identifier of a LIN frame. PRESUMED ISO 17987 (log entry 12). -/
def linPid (f : Nat) : Byte :=
  let b (i : Nat) : Nat := f / 2 ^ i % 2
  BitVec.ofNat 8 (f % 64 + ((b 0 + b 1 + b 2 + b 4) % 2) * 64 + ((b 1 + b 3 + b 4 + b 5 + 1) % 2) * 128)

/-- The LIN checksum: the inverted sum with carry over the data, and over the PID too when enhanced. PRESUMED ISO 17987 (log entry 12). -/
def linChecksum (enhanced : Bool) (pid : Byte) (data : List Byte) : Byte :=
  let sum := (data.map BitVec.toNat).foldl (fun a b => let t := a + b; if t ≥ 256 then t - 255 else t) (if enhanced then pid.toNat else 0)
  BitVec.ofNat 8 (255 - sum)

/-- The LIN pseudo-header and data of a received response (R134). -/
def linPseudo (ch f : Nat) (enhanced commander : Bool) (data : List Byte) : List Byte :=
  [0] ++ natBytes 1 ch ++ natBytes 1 f ++ [linPid f] ++ natBytes 1 data.length ++ natBytes 1 (flagBits [enhanced, commander] * 64)
    ++ List.replicate 18 0 ++ data

/-- A message enters the fabric at port 28 with its receive stamp (R104, R134). -/
def enterMessage (ek : EdgeKind) (stamp : Nat) (bs : List Byte) (s : State) : State := enterWhole 28 28 ek none (currentEpoch s) stamp bs s

/-- The arbitration field of a message as a number: the lower wins the bus (R174; ISO 11898-1, log entry 12). -/
def arbitration (m : CanMsg) : Nat :=
  let r := if m.rtr then 1 else 0
  if isExt m.format then m.ident / 2 ^ 18 * 2 ^ 21 + 2 ^ 20 + 2 ^ 19 + m.ident % 2 ^ 18 * 2 + r else m.ident * 2 ^ 21 + r * 2 ^ 20

/-- A transmit queue with one more message: the message that would win first stands first, equal ones in arrival order (R174). -/
def queueInsert (t : TxMsg) : List TxMsg → List TxMsg
  | [] => [t]
  | x :: rest => if arbitration t.msg < arbitration x.msg then t :: x :: rest else x :: queueInsert t rest

/-- The transmit queue of a channel. -/
def txq (ch : Nat) (s : State) : List TxMsg := mapGet [] s.edge.txq ch

/-- Replace the transmit queue of a channel. -/
def setTxq (ch : Nat) (q : List TxMsg) (s : State) : State := { s with edge := { s.edge with txq := mapSet [] s.edge.txq ch q } }

/-- A transmit queue that a message returns to which was taken from it first: it stands ahead of equal ones (R174, R249). -/
def queueReturn (t : TxMsg) : List TxMsg → List TxMsg
  | [] => [t]
  | x :: rest => if arbitration t.msg ≤ arbitration x.msg then t :: x :: rest else x :: queueReturn t rest

/-- A transmit queue with at most 64 messages: of 65 the one that would lose arbitration is dropped and counted. A message whose transmission has started is not among them (R174, R189). -/
def limitTxq (ch : Nat) (q : List TxMsg) (s : State) : State :=
  if q.length > 64 then bump .edgeTxqOverflow ch (setTxq ch (q.take 64) s) else setTxq ch q s

/-- A message arrives for a channel's transmit queue (R174). -/
def enqueueTx (ch : Nat) (t : TxMsg) (s : State) : State := limitTxq ch (queueInsert t (txq ch s)) s

/-- The messages that firings have handed to a channel's controller and that wait for the bus, oldest first (R176). -/
def handedOf (ch : Nat) (s : State) : List Handed := mapGet [] s.edge.handed ch

/-- Replace the messages handed to a channel's controller. -/
def setHanded (ch : Nat) (l : List Handed) (s : State) : State := { s with edge := { s.edge with handed := mapSet [] s.edge.handed ch l } }

/-- Write a message into a slot's buffer; a replaced one is counted (R176). -/
def writeSlot (ch slot : Nat) (m : CanMsg) (s : State) : State :=
  let k := ch * 64 + slot
  let s1 := if (mapGet none s.edge.slotBuf k).isSome then bump .edgeSlotOverwrite ch s else s
  { s1 with edge := { s1.edge with slotBuf := mapSet none s1.edge.slotBuf k (some m) } }

/-- Whether a channel enters bus-off in this cycle (R261). -/
def entersBusOff (ch : Nat) (s : State) : Bool := decide (ch < 16) && (getCan ch s).offAt == some s.cyc

/-- The action of a slot's key: its buffered message is handed to the controller ahead of the queue, in place of one of an earlier firing of the slot that still waits (R176; log entry 89). In the cycle in which its channel enters bus-off the message stays in its slot (R261). -/
def fireSlot (ch slot : Nat) (repeating : Bool) (s : State) : State :=
  let k := ch * 64 + slot
  match mapGet none s.edge.slotBuf k with
  | none => bump .edgeSlotEmpty ch s
  | some m =>
    if entersBusOff ch s then s
    else
    let s1 := if (handedOf ch s).any (fun h => h.slot == slot) then bump .edgeSlotLate ch s else s
    let s2 := setHanded ch ((handedOf ch s1).filter (fun h => h.slot != slot) ++ [{ slot := slot, msg := m, since := s1.cyc }]) s1
    { s2 with edge := { s2.edge with slotBuf := if repeating then s2.edge.slotBuf else mapSet none s2.edge.slotBuf k none } }

/-- The bits of an identifier that a format can carry (R172). -/
def identWidth (f : CanFormat) : Nat := if isExt f then 29 else 11

/-- The message that a FORWARD entry sends to a CAN channel with this PROTOCOL: identifier and format by R172 and R173; none when it cannot be carried. -/
def convert (proto : Nat) (r : BitVec 128) (fromLin : Bool) (m : CanMsg) : Option CanMsg :=
  let idMode := bits r 102 101
  let mask := bits r 60 32
  let value := bits r 28 0
  let fmt0 : CanFormat := if fromLin then (if r.getLsbD 100 then .classicExt else .classicBase) else m.format
  let ident := if fromLin then value else if idMode = 1 then (m.ident &&& (2 ^ 29 - 1 - mask)) ||| (value &&& mask) else m.ident
  if ident ≥ 2 ^ identWidth fmt0 then none
  else if m.format = .xl ∧ !fromLin then (if proto = 2 then some { m with ident := ident } else none)
  else if m.rtr ∧ proto ≠ 0 then none
  else
    let out := bits r 104 103
    let fd := isFd fmt0
    let ext := isExt fmt0
    if out ≥ 2 ∧ proto = 0 then none
    else
      let toFd := decide (out ≥ 2) || (decide (out = 0) && fd && decide (proto ≠ 0))
      let n := m.data.length
      if toFd then
        some { m with format := if ext then .fdExt else .fdBase, ident := ident, rtr := false,
                      brs := if out = 3 then true else if out = 2 then false else m.brs && fd,
                      esi := m.esi && fd, dlc := if fd then m.dlc else n }
      else if n > 8 then none
      else
        some { m with format := if ext then .classicExt else .classicBase, ident := ident, brs := false, esi := false,
                      dlc := if m.rtr then m.dlc else if fd ∨ fromLin then n else if proto = 0 then m.dlc else n }

/-- The LIN frame table entry of a frame in some tables. -/
def linFrame (t : EpochTables) (ch f : Nat) : LinFrameDef := mapGet {} t.linFrames (ch * 64 + f)

/-- One FORWARD entry of a chain delivers its copy to its channel (R172, R173, R176, R183). -/
def forwardCopy (t : EpochTables) (r : BitVec 128) (ek : EdgeKind) (bs : List Byte) (s : State) : State :=
  let ch := bits r 110 105
  let fromLin := ek == .lin
  let m : CanMsg := if fromLin then { format := .classicBase, rtr := false, brs := false, esi := false, ident := 0, dlc := numAt bs 4 1, data := (bs.drop 24).take (numAt bs 4 1) }
    else canOfPseudo bs
  if ch ≥ 32 then
    let f := bits r 28 0 % 64
    if m.rtr ∨ (m.format = .xl ∧ !fromLin) ∨ m.data.length ≠ (linFrame t (ch - 32) f).len then bump .edgeFormatDrop ch s
    else { s with edge := { s.edge with linBuf := mapSet none s.edge.linBuf ((ch - 32) * 64 + f) (some m.data) } }
  else
    match convert (canProtocol ch s) r fromLin m with
    | none => bump .edgeFormatDrop ch s
    | some x => if r.getLsbD 99 then writeSlot ch (bits r 98 93) x s else enqueueTx ch { msg := x, since := s.cyc } s

/-- A byte string padded with zeros to a multiple of 4 bytes (R179). -/
def pad4 (b : List Byte) : List Byte := b ++ List.replicate ((4 - b.length % 4) % 4) 0

/-- The ACF record of a message (R178, R179): none when its container cannot carry it. Layout of IEEE 1722 (log entry 12). -/
def acfRecord (c : Container) (bus : Nat) (ek : EdgeKind) (stamp : Nat) (bs : List Byte) : Option (List Byte) :=
  let ns := (stamp / 65536) % 2 ^ 64
  if ek = .lin then
    let d := (bs.drop 24).take (numAt bs 4 1)
    let pad := (4 - d.length % 4) % 4
    some (natBytes 2 (3 * 512 + (12 + d.length + pad) / 4) ++ natBytes 1 (pad * 64 + 32 + bus) ++ natBytes 1 (numAt bs 2 1 % 64) ++ natBytes 8 ns ++ pad4 d)
  else
    let m := canOfPseudo bs
    if m.format = .xl ∨ c.recType = 2 then none
    else
      let pad := (4 - m.data.length % 4) % 4
      let brief := decide (c.recType = 1)
      let len := (if brief then 8 else 16) + m.data.length + pad
      some (natBytes 2 ((if brief then 2 else 1) * 512 + len / 4)
        ++ natBytes 1 (pad * 64 + flagBits [!brief, m.rtr, isExt m.format, m.brs, isFd m.format, m.esi]) ++ natBytes 1 bus
        ++ (if brief then [] else natBytes 8 ns) ++ natBytes 4 m.ident ++ pad4 m.data)

/-- The Ethernet frame of a container with some records (R178, R179): one VLAN tag, sv = 1, version 0. Header layouts of IEEE 1722 (log entry 12). -/
def acfFrame (c : Container) (seq : Nat) (recs : List (List Byte)) : List Byte :=
  let data := recs.flatten
  let hdr := if c.subtype = 0x82 then
      bytesOf [0x82, 0x80 + data.length / 256 % 8, data.length % 256, seq] ++ natBytes 8 c.stream.toNat
    else
      bytesOf [0x05, 0x80, seq, 0] ++ natBytes 8 c.stream.toNat ++ List.replicate 8 0 ++ natBytes 2 data.length ++ [0, 0]
  let f := natBytes 6 c.da.toNat ++ natBytes 6 c.sa.toNat ++ bytesOf [0x81, 0x00] ++ natBytes 2 c.tci.toNat ++ bytesOf [0x22, 0xF0] ++ hdr ++ data
  f ++ fcs32 f

/-- The place of a container's frame in progress: containers belong to epochs. -/
def acfKey (epoch c : Nat) : Nat := epoch * 256 + c

/-- Send a container's frame in progress, which enters the fabric at port 28 on its own first crossing (R178). -/
def sendContainer (epoch c : Nat) (s : State) : State :=
  let k := acfKey epoch c
  let a := mapGet {} s.edge.acf k
  let n := mapGet 0 s.edge.acfSeq c
  if a.recs.isEmpty then s
  else
    let bs := acfFrame a.cont n a.recs
    enterWhole 28 28 .ethernet none (currentEpoch s) (nowFrac s) bs
        (bump .edgeAcfSent c { s with edge := { s.edge with acf := mapSet {} s.edge.acf k {}, acfSeq := mapSet 0 s.edge.acfSeq c ((n + 1) % 256) } })

/-- One ENCAP entry of a chain appends its record to its container (R178, R179). -/
def encapCopy (t : EpochTables) (r : BitVec 128) (ek : EdgeKind) (stamp : Nat) (bs : List Byte) (s : State) : State :=
  let ci := bits r 110 103
  let c := mapGet {} t.containers ci
  match acfRecord c (bits r 102 98) ek stamp bs with
  | none => bump .edgeEncapDrop ci s
  | some rec' =>
    if rec'.length > c.maxData then bump .edgeEncapDrop ci s
    else
      let k := acfKey t.number ci
      let a := mapGet {} s.edge.acf k
      let due := !a.recs.isEmpty && (decide (a.recs.flatten.length + rec'.length > c.maxData) || decide (s.cyc ≥ a.since + c.flush * usCyc))
      let s1 := if due then sendContainer t.number ci s else s
      let a1 := mapGet {} s1.edge.acf k
      let a2 : AcfFrame := if a1.recs.isEmpty then { cont := c, recs := [rec'], since := s1.cyc } else { a1 with recs := a1.recs ++ [rec'] }
      let s2 := { s1 with edge := { s1.edge with acf := mapSet {} s1.edge.acf k a2 } }
      if c.flush = 0 then sendContainer t.number ci s2 else s2

/-- A message runs down a chain: each entry delivers its own copy (R171, R172, R178). -/
def runChain (t : EpochTables) (route : Nat) (ek : EdgeKind) (stamp : Nat) (bs : List Byte) (s : State) : State :=
  forEach (routeChain t 16 route) (fun e x =>
    match routeKind e.2 with
    | 0 => forwardCopy t e.2 ek bs x
    | 1 => encapCopy t e.2 ek stamp bs x
    | _ => x) s

/-- One ACF record: its type, and its bytes. -/
structure AcfRec where
  kind : Nat
  bytes : List Byte
  deriving DecidableEq, Repr

/-- Cut a data area into records; none when a record length is 0 or runs past the end (R180). -/
def cutRecords : Nat → List Byte → Option (List AcfRec)
  | 0, b => if b.isEmpty then some [] else none
  | fuel + 1, b =>
    if b.isEmpty then some []
    else
      let len := numAt b 0 2 % 512 * 4
      if b.length < 2 ∨ len = 0 ∨ len > b.length then none
      else (cutRecords fuel (b.drop len)).map (fun l => { kind := numAt b 0 2 / 512, bytes := b.take len } :: l)

/-- Header bytes of a record type the gateway carries: CAN 16, CAN brief 8, LIN 12. -/
def recHeader (kind : Nat) : Option Nat :=
  match kind with
  | 1 => some 16
  | 2 => some 8
  | 3 => some 12
  | _ => none

/-- The payload length of a record, less its header and pad. -/
def recPayload (r : AcfRec) : Nat := r.bytes.length - (recHeader r.kind).getD 0 - numAt r.bytes 2 1 / 64

/-- Whether a record breaks a length rule of R180. -/
def recLenBad (r : AcfRec) : Bool :=
  match recHeader r.kind with
  | none => false
  | some h =>
    if r.bytes.length < h + numAt r.bytes 2 1 / 64 then true
    else
      let n := recPayload r
      if r.kind = 3 then n = 0 || n > 8
      else if numAt r.bytes 2 1 / 2 % 2 = 0 then n > 8 else !(isFdLen n)

/-- The pseudo-header message of a record. -/
def recMessage (r : AcfRec) : EdgeKind × List Byte :=
  let h := (recHeader r.kind).getD 0
  let d := (r.bytes.drop h).take (recPayload r)
  if r.kind = 3 then (.lin, linPseudo 0 (numAt r.bytes 3 1 % 64) false false d)
  else
    let fl := numAt r.bytes 2 1
    let fd := decide (fl / 2 % 2 = 1)
    let ext := decide (fl / 8 % 2 = 1)
    let m : CanMsg := {
      format := if fd then (if ext then .fdExt else .fdBase) else if ext then .classicExt else .classicBase,
      rtr := decide (fl / 16 % 2 = 1), brs := decide (fl / 4 % 2 = 1), esi := decide (fl % 2 = 1),
      ident := numAt r.bytes (h - 4) 4 % 2 ^ 29, dlc := if fd then fdDlc d.length else d.length, data := d }
    (.can, canPseudo 0 false m)

/-- The identifier of a record that MATCH entries compare. -/
def recIdent (r : AcfRec) : Nat := if r.kind = 3 then numAt r.bytes 3 1 % 64 else numAt r.bytes ((recHeader r.kind).getD 4 - 4) 4 % 2 ^ 29

/-- The ACF bus identifier of a record. -/
def recBus (r : AcfRec) : Nat := if r.kind = 3 then numAt r.bytes 2 1 % 32 else numAt r.bytes 3 1 % 32

/-- A record that matched goes down its FORWARD chain, each channel judged by the matrix (R181). -/
def deliverRecord (t : EpochTables) (iz target : Nat) (r : AcfRec) (s : State) : State :=
  let m := recMessage r
  forEach (routeChain t 16 target) (fun e x =>
    let pair := iz * 16 + chanZone t (bits e.2 110 105)
    let mx := mapGet (0 : BitVec 8) t.matrix pair
    if bits mx 7 6 = 1 ∧ ¬ mx.getLsbD 4 then forwardCopy t e.2 m.1 m.2 x else bump .seamDenyZone pair x) s

/-- A DECAP frame (R180, R181): checked whole, then its records delivered in order. -/
def decapFrame (t : EpochTables) (it : EdgeItem) (s : State) : State :=
  let d := mapGet 0 t.routes it.route
  let b := it.bytes
  let o := (tagsOf b).stop + 2
  let sub := numAt b o 1
  let hl := if sub = 0x82 then 12 else 24
  let dl := if sub = 0x82 then numAt b (o + 1) 2 % 2048 else numAt b (o + 20) 2
  if (sub ≠ 0x82 ∧ sub ≠ 0x05) ∨ numAt b (o + 1) 1 / 16 % 8 ≠ 0 then bump .edgeAcfBad it.route s
  else if o + hl + dl > b.length - 4 ∨ b.length - (o + hl + dl) > 4 then bump .edgeAcfLen it.route s
  else
    match cutRecords dl ((b.drop (o + hl)).take dl) with
    | none => bump .edgeAcfLen it.route s
    | some recs =>
      if recs.any recLenBad then bump .edgeAcfLen it.route s
      else if recs.any (fun r => (r.kind == 1 || r.kind == 2) && numAt r.bytes 2 1 / 16 % 2 == 1 && numAt r.bytes 2 1 / 2 % 2 == 1) then bump .edgeAcfBad it.route s
      else
        let first := bits d 110 98
        let cnt := bits d 97 92
        forEach recs (fun r x =>
          if (recHeader r.kind).isNone then bump .edgeAcfSkip it.route x
          else
            match (List.range cnt).find? (fun i =>
              let m := mapGet (0 : BitVec 128) t.routes (first + i)
              m.getLsbD 97 == (r.kind == 3) && bits m 96 92 == recBus r && (recIdent r &&& bits m 60 32) == bits m 28 0) with
            | none => bump .edgeNoRoute it.route x
            | some i => deliverRecord t (portZone t it.keyPort) (bits (mapGet (0 : BitVec 128) t.routes (first + i)) 110 98) r x) s

/-- The next message of the receive FIFOs of all channels: the one stamped first, the lower channel on a tie (R248). -/
def nextFifo (s : State) : Option (Nat × CanMsg × Nat) :=
  (List.range 16).foldl (fun best ch =>
    match (getCan ch s).fifo.head? with
    | none => best
    | some e =>
      match best with
      | some b => if e.2 < b.2.2 then some (ch, e.1, e.2) else best
      | none => some (ch, e.1, e.2)) none

/-- The receive FIFOs empty into fabric port 28 in arrival order, while fewer than eight lookups of the port wait (R143, R248; log entry 13). -/
def drainFifos : Nat → State → State
  | 0, s => s
  | n + 1, s =>
    if waitingLookups 28 s ≥ 8 then s
    else
      match nextFifo s with
      | none => s
      | some (ch, m, st) =>
        let c := getCan ch s
        drainFifos n (enterMessage .can st (canPseudo ch ((canRecord ch s).getLsbD 124) m) (setCan ch { c with fifo := c.fifo.drop 1 } s))

/-- GATEWAY_DELIVER: the gateway takes the oldest message from the queues of port 28 and runs its route (R170-R182). -/
def gatewayDeliver (s : State) : State :=
  match s.edge.inbox with
  | [] => drainFifos 512 s
  | it :: rest =>
    let s1 := { s with edge := { s.edge with inbox := rest } }
    let s2 := match it.epoch.bind (fun n => tablesOf n s1) with
      | none => s1
      | some t =>
        if it.ek ≠ .ethernet then runChain t it.route it.ek it.stamp it.bytes s1
        else if it.keyPort = 28 then bump .edgeLoopDrop 0 s1
        else decapFrame t it s1
    drainFifos 512 s2

/-- CONTAINER_FLUSH: a container's first record has waited for FLUSH (R178). -/
def flushContainer (c : Nat) (s : State) : State :=
  forEach (s.edge.acf.filter (fun e => e.1 % 256 == c)) (fun e x =>
    if !e.2.recs.isEmpty ∧ x.cyc ≥ e.2.since + e.2.cont.flush * usCyc then sendContainer (e.1 / 256) c x else x) s

/-- CAN_TX_TIMEOUT: messages of a channel that have waited TX_TIMEOUT are dropped and counted (R175, R249). -/
def canTimeout (ch : Nat) (s : State) : State :=
  let late (since : Nat) : Bool := decide (s.cyc ≥ since + txTimeout ch s)
  let q := txq ch s
  let n := (q.filter (fun t => late t.since)).length
  let s1 := bumpBy n .edgeTxTimeout ch (setTxq ch (q.filter (fun t => !(late t.since))) s)
  let h := handedOf ch s1
  if h.isEmpty then s1
  else bumpBy (h.filter (fun x => late x.since)).length .edgeTxTimeout ch (setHanded ch (h.filter (fun x => !(late x.since))) s1)

/-- Error states of a controller: 0 error-active, 1 error-passive, 2 bus-off (R250). -/
def errState (c : CanChan) : Nat := if c.tec > 255 then 2 else if c.tec ≥ 128 ∨ c.recv ≥ 128 then 1 else 0

/-- STB_N and EN of a channel's transceiver take levels; each pin that changes is driven (R247). -/
def driveTransceiver (ch : Nat) (stb en : Bool) (s : State) : State :=
  let c := getCan ch s
  let s1 := setCan ch { c with stbN := stb, en := en } s
  let s2 := if c.stbN = stb then s1 else emit (.pin (.stbN ch) stb) s1
  if c.en = en then s2 else emit (.pin (.en ch) en) s2

/-- Whether the levels of DEEP stand at the transceivers: from the commit of a lights-out on (R247, R403). -/
def deepLevels (s : State) : Bool := s.pwr.state == .deep || s.pwr.state == .off || (match s.pwr.transition with
  | some t => t.lights
  | none => false)

/-- STB_N and EN by the channel's state outside DEEP (R247); the drivers start 50 us after the change to normal. -/
def setTransceiver (ch : Nat) (s : State) : State :=
  if deepLevels s then s
  else
  let c := getCan ch s
  let on := c.record.getLsbD 127 && edgePowered s
  let normal := on && decide (bits c.record 123 122 = 0) && !(busesHeld s)
  let wait := if normal then (if c.stbN && c.en then c.waitUntil else some (s.cyc + 50 * usCyc)) else none
  driveTransceiver ch on normal (setCan ch { c with waitUntil := wait } s)

/-- A frame that the controller was sending goes back to the place it came from, unless a later firing has replaced it (R176, R245, R249). -/
def requeueSending (ch : Nat) (s : State) : State :=
  let c := getCan ch s
  match c.sending with
  | none => s
  | some (t, none) => limitTxq ch (queueReturn t (txq ch s)) (setCan ch { c with sending := none } s)
  | some (t, some slot) =>
    let s1 := setCan ch { c with sending := none } s
    if (handedOf ch s1).any (fun h => h.slot == slot) then bump .edgeSlotLate ch s1
    else setHanded ch ({ slot := slot, msg := t.msg, since := t.since } :: handedOf ch s1) s1

/-- The controller's error state has changed from `old`: counted and announced (R250); bus-off starts recovery where AUTO_RECOVER is set. -/
def noteErrState (ch old : Nat) (s : State) : State :=
  let c := getCan ch s
  let new := errState c
  if new = old then s
  else
    let s1 := raiseEv .busState ch (natBytes 1 new) s
    if new = 2 then
      let s2 := bump .edgeBusOff ch (requeueSending ch s1)
      setCan ch { getCan ch s2 with bus := if c.record.getLsbD 121 then .recovering else .busOff, offAt := some s.cyc } s2
    else if new = 1 then bump .edgeErrPassive ch s1
    else bump .edgeErrActive ch s1

/-- The type counter of an error. -/
def errCounter : CanErr → Ctr
  | .bit0 => .edgeErrBit0
  | .bit1 => .edgeErrBit1
  | .stuff => .edgeErrStuff
  | .form => .edgeErrForm
  | .crc => .edgeErrCrc
  | .ack => .edgeErrAck

/-- The code of an error type in CHANNEL_STATUS: its place in R251, from 1 (R330). -/
def errCode : CanErr → Nat
  | .bit0 => 1
  | .bit1 => 2
  | .stuff => 3
  | .form => 4
  | .crc => 5
  | .ack => 6

/-- Whether the channel detects its rate now: OPMODE rate detection, not ended in failure or hold. -/
def detecting (c : CanChan) : Bool := c.record.getLsbD 127 && decide (bits c.record 123 122 = 2) && decide (c.rateState = 1)

/-- Rate detection moves to the next candidate, or ends its rounds (R253). -/
def nextCandidate (ch : Nat) (s : State) : State :=
  let c := getCan ch s
  let n := Nat.max 1 c.cands.length
  let wrap := decide (c.cand + 1 ≥ n)
  let rounds := if wrap then c.roundsDone + 1 else c.roundsDone
  if wrap ∧ c.rounds ≠ 0 ∧ rounds ≥ c.rounds then
    raiseEv .rateFailed ch [] (bump .edgeRateFail ch (setCan ch { c with rateState := 4, roundsDone := rounds, goodRun := 0, dataSeen := false } s))
  else setCan ch { c with cand := if wrap then 0 else c.cand + 1, roundsDone := rounds, goodRun := 0, dataSeen := false, bus := .integrating, candAt := s.cyc } s

/-- Copy a candidate into a record's timing fields (R252, R253). -/
def applyCandidate (r : BitVec 128) (e : BitVec 64) : BitVec 128 :=
  let keep := r.toNat - (bits r 117 62 <<< 62)
  BitVec.ofNat 128 (keep + (bits e 63 34 <<< 88) + (bits e 33 16 <<< 70) + (bits e 15 15 <<< 69) + (bits e 14 8 <<< 62))

/-- A candidate is confirmed at its CONFIRM-th error-free frame: an event, and its timing with normal mode after the next 11 recessive bits, until which frames are received as before, or hold (R253). -/
def confirmRate (ch : Nat) (s : State) : State :=
  let c := getCan ch s
  let s1 := raiseEv .rateConfirmed ch (natBytes 1 c.cand ++ natBytes 1 (if c.dataSeen then 1 else 0)) s
  if c.commitAuto then
    setCan ch { c with rateState := 2, record := applyCandidate c.record (c.cands.getD c.cand 0) } s1
  else setCan ch { c with rateState := 3 } s1

/-- CAN_FRAME_RX: a frame received without error goes to the receive FIFO (R248); REC falls (R250); a candidate counts it (R253). A frame in reception when the record changes, one whose start of frame came before, is received under the record before, to its end (R245). -/
def canReceive (ch ago : Nat) (m : CanMsg) (s : State) : State :=
  let c := { getCan ch s with tail := none }
  let last := (getCan ch s).tail.isSome && decide (s.cyc < c.candAt + ago)
  let r := if last then (getCan ch s).tail.getD c.record else c.record
  let proto := bits r 126 125
  let can := match m.format with
    | .classicBase => true
    | .classicExt => true
    | .xl => decide (proto = 2)
    | _ => decide (proto ≥ 1)
  if !(r.getLsbD 127) ∨ (c.bus ≠ .on ∧ !last) ∨ !can ∨ !(edgeOn s) then s
  else if busesHeld s then bump .twinStandbyBusDrop ch s
  else
    let old := errState c
    let d := drawBelow 9 s
    let listening := last || decide (bits c.record 123 122 ≠ 0)
    let c1 := if listening then c else if c.recv > 127 then { c with recv := 119 + d.1 } else { c with recv := c.recv - 1 }
    let s1 := if !listening ∧ c.recv > 127 then d.2 else s
    let s2 := noteErrState ch old (setCan ch c1 s1)
    let s3 := if c1.fifo.length ≥ 32 then bump .edgeRxOverflow ch s2
      else setCan ch { getCan ch s2 with fifo := c1.fifo ++ [(m, fracAgo ago s2)] } s2
    let c3 := getCan ch s3
    let s4 := if detecting c3 then
        let c4 := { c3 with goodRun := c3.goodRun + 1, dataSeen := c3.dataSeen || m.brs }
        let s5 := setCan ch c4 s3
        if c4.goodRun ≥ c4.confirm then confirmRate ch s5 else s5
      else s3
    drainFifos 512 s4

/-- Whether a controller may drive its bus: in normal mode, on the bus, its transceiver normal and ready (R247, R249). -/
def mayTransmit (ch : Nat) (s : State) : Bool :=
  let c := getCan ch s
  c.record.getLsbD 127 && decide (bits c.record 123 122 = 0) && c.bus == .on && c.stbN && c.en && c.waitUntil.isNone && !(busesHeld s) && edgeOn s

/-- CAN_BUS_IDLE: the controller takes a handed slot message, or else the head of its queue (R249, R176). No frame is in reception then (R245). -/
def canIdle (ch : Nat) (s0 : State) : State :=
  let s := if (getCan ch s0).tail.isSome then setCan ch { getCan ch s0 with tail := none } s0 else s0
  let c := getCan ch s
  if !(mayTransmit ch s) ∨ c.sending.isSome then s
  else
    match handedOf ch s with
    | h :: rest => emit (.can ch h.msg) (setCan ch { c with sending := some ({ msg := h.msg, since := h.since }, some h.slot) } (setHanded ch rest s))
    | [] =>
      match txq ch s with
      | [] => s
      | t :: rest => emit (.can ch t.msg) (setCan ch { c with sending := some (t, none) } (setTxq ch rest s))

/-- CAN_TX_COMPLETE: a transmission succeeds and TEC falls, or the frame stays queued (R249, R250). -/
def canTxEnd (ch : Nat) (r : TxResult) (s : State) : State :=
  let c := getCan ch s
  match c.sending with
  | none => s
  | some _ =>
    match r with
    | .success => noteErrState ch (errState c) (setCan ch { c with sending := none, tec := c.tec - 1 } s)
    | _ => requeueSending ch s

/-- The error counters after an error by ISO 11898-1: a transmitter's rises by 8, but for an acknowledgment error in error-passive; a receiver's by 1, or by 8 where it read back recessive what it drove dominant, which a receiver does in its error and overload flags (R250; log entry 12). -/
def raiseErr (e : CanErr) (transmitter : Bool) (c : CanChan) : CanChan :=
  if transmitter then (if e = .ack ∧ errState c = 1 then c else { c with tec := c.tec + 8 })
  else { c with recv := Nat.min 255 (c.recv + (if e = .bit0 then 8 else 1)) }

/-- CAN_ERROR_DETECTED: counted by type, TEC or REC raised, the candidate abandoned (R250, R251, R253). Under TMS_EN an error in the data phase sends no error frame: it is counted and makes the frame invalid, and the frame being sent goes on to its end. -/
def canError (ch : Nat) (e : CanErr) (dataPhase transmitter : Bool) (s : State) : State :=
  let c := { getCan ch s with tail := none }
  let last := (getCan ch s).tail.isSome
  if !(((getCan ch s).tail.getD c.record).getLsbD 127) ∨ (c.bus ≠ .on ∧ !last) ∨ !(edgeOn s) then s
  else
    let old := errState c
    let silent := dataPhase && c.record.getLsbD 120
    let listening := last || decide (bits c.record 123 122 ≠ 0)
    let c1 := { c with lastErr := errCode e, lastPhase := dataPhase }
    let c2 := if listening || silent then c1 else raiseErr e transmitter c1
    let s1 := bump (errCounter e) ch (setCan ch c2 s)
    let s2 := if transmitter && !silent then requeueSending ch s1 else s1
    let s3 := noteErrState ch old s2
    if detecting (getCan ch s3) then nextCandidate ch s3 else s3

/-- BUS_OFF_RECOVERY_DONE: the controller rejoins error-active after 128 times 11 recessive bits (R250). -/
def canRecovered (ch : Nat) (s : State) : State :=
  let c := getCan ch s
  if c.bus ≠ .recovering then s
  else raiseEv .busState ch (natBytes 1 0) (bump .edgeErrActive ch (setCan ch { c with bus := .on, tec := 0, recv := 0 } s))

/-- BUS_INTEGRATION_DONE: after 11 recessive bits the controller takes part in the bus, in normal mode once a candidate is confirmed (R245, R253). -/
def canIntegrated (ch : Nat) (s : State) : State :=
  let c := getCan ch s
  let ends := c.rateState == 2 && decide (bits c.record 123 122 ≠ 0)
  let r : BitVec 128 := if ends then BitVec.ofNat 128 (c.record.toNat - (bits c.record 123 122 <<< 122)) else c.record
  if c.record.getLsbD 127 ∧ (c.bus = .integrating ∨ (c.bus = .on ∧ ends)) ∧ edgeOn s then setCan ch { c with record := r, bus := .on, candAt := s.cyc, tail := none } s else s

/-- RATE_DWELL_EXPIRY: a candidate's DWELL passes without a confirmation (R253). -/
def canDwell (ch : Nat) (s : State) : State :=
  let c := getCan ch s
  if detecting c ∧ s.cyc ≥ c.candAt + c.dwell * msCyc then nextCandidate ch s else s

/-- A CAN record takes effect (R245): TX_TIMEOUT and DEEP_MODE at once; any other change takes the controller off the bus, a frame it sends requeued, one it receives still received to its end, TEC and REC cleared with a return to error-active counted (R250), to rejoin after integration. -/
def applyCanRecord (ch : Nat) (r : BitVec 128) (s : State) : State :=
  let c := getCan ch s
  let other (x : BitVec 128) : Nat := x.toNat - (bits x 119 118 <<< 118) - (bits x 43 34 <<< 34)
  if c.record = r ∨ (r.getLsbD 127 ∧ other c.record = other r) then setCan ch { c with record := r } s
  else
    let s1 := requeueSending ch s
    let c1 := getCan ch s1
    let s2 := setTransceiver ch (setCan ch { c1 with
      record := r, bus := if r.getLsbD 127 then .integrating else .off, tec := 0, recv := 0, tail := if c.bus = .on ∧ c.sending.isNone then some c.record else none,
      rateState := if bits r 123 122 = 2 ∧ r.getLsbD 127 then 1 else 0, cand := 0, roundsDone := 0, goodRun := 0, dataSeen := false, candAt := s1.cyc } s1)
    if errState c = 0 then s2 else raiseEv .busState ch (natBytes 1 0) (bump .edgeErrActive ch s2)

/-- Bit time of a LIN channel in BCN cycles times its bit rate: cycles of n bit times. -/
def linBits (n10 rate : Nat) : Nat := n10 * 500000000 / (10 * rate)

/-- A frame completed on a LIN channel is queued for the LIN thread of each link in UP that binds the channel (R204). -/
def linCompleted (ch f : Nat) (enhanced : Bool) (data : List Byte) (s : State) : State :=
  forUpTo 2 (fun l t =>
    let x := getLink l t
    if x.hitch = .up ∧ bits x.record 56 53 = ch then setLink l { x with linQueue := x.linQueue ++ [(f, enhanced, data)] } t else t) s

/-- Whether a frame's checksum is enhanced: frames 60 and 61 always use the classic one (R259). -/
def linEnhanced (d : LinFrameDef) (f : Nat) : Bool := d.enhanced && decide (f ≠ 60) && decide (f ≠ 61)

/-- The response that a channel publishes: the routed buffer, or the initial data before the first write (R183). -/
def linPublished (ch f : Nat) (d : LinFrameDef) (s : State) : List Byte :=
  (match mapGet none s.edge.linBuf (ch * 64 + f) with
    | some b => if b.length = d.len then b else d.init
    | none => d.init).take d.len

/-- After a header that ends in `ahead` cycles and whose sync byte is stamped: a published frame is answered, any other response is awaited (R104, R183, R258, R259). -/
def linAnswer (ch f : Nat) (pid : Byte) (readbackFail : Bool) (ahead stamp : Nat) (s : State) : State :=
  let d := linFrame (curTables s) ch f
  let c := getLin ch s
  if d.role = 1 then
    if readbackFail then bump .edgeLinBit ch s
    else
      let data := linPublished ch f d s
      linCompleted ch f (linEnhanced d f) data (emit (.linResponse ch (data ++ [linChecksum (linEnhanced d f) pid data])) s)
  else
    let rate := Nat.max 1 (bits c.record 61 47)
    setLin ch { c with waiting := some (f, s.cyc + ahead + linBits (14 * 10 * (d.len + 1)) rate), seenPid := pid, syncStamp := stamp } s

/-- The schedule table entries that a channel runs, from the epoch in force (R184). -/
def linTable (ch n : Nat) (s : State) : List (BitVec 32) := mapGet [] (curTables s).linTables (ch * 4 + n)

/-- FRAME_ID of a schedule entry; TYPE 1 and 2 name the diagnostic frames 0x3C and 0x3D (R184, R327). -/
def linEntryFrame (e : BitVec 32) : Nat := if bits e 23 16 = 1 then 60 else if bits e 23 16 = 2 then 61 else bits e 31 24 % 64

/-- BREAK_LEN of a LIN record, in bit times. -/
def LinChan.breakBits (c : LinChan) : Nat := bits c.record 46 42

/-- The break delimiter of a LIN record, in bit times. -/
def LinChan.delimBits (c : LinChan) : Nat := bits c.record 41 40 + 1

/-- A commander's header goes out: break, delimiter, sync byte and PID (R258). -/
def emitHeader (ch f : Nat) (s : State) : State := emit (.linHeader ch (getLin ch s).breakBits (getLin ch s).delimBits [0x55, linPid f]) s

/-- A commander sends the header of a frame; what it publishes then it reads back (R258, R259). -/
def sendHeader (ch f : Nat) (s : State) : State :=
  let c := getLin ch s
  let rate := Nat.max 1 (bits c.record 61 47)
  let before := c.breakBits + c.delimBits
  let s2 := linAnswer ch f (linPid f) false (linBits (10 * (before + 20)) rate) (fracIn (linBits (10 * before + 5) rate) s) (emitHeader ch f s)
  let d := linFrame (curTables s) ch f
  let data := linPublished ch f d s
  if d.role = 1 then setLin ch { getLin ch s2 with echo := some (data ++ [linChecksum (linEnhanced d f) (linPid f) data]) } s2 else s2

/-- LIN_SCHEDULE_SLOT: the running entry ends and a commander sends the next header (R184, R258). -/
def linSlot (ch : Nat) (s : State) : State :=
  let c := getLin ch s
  if !(c.record.getLsbD 63) ∨ !(c.record.getLsbD 62) ∨ (c.running ∧ s.cyc < c.entryEnds) ∨ busesHeld s ∨ !(edgeOn s) then s
  else
    let want := c.wanted.getD c.table
    let table := if c.swapped ∧ (linTable ch want s).isEmpty then 0 else want
    let fresh := c.swapped || c.wanted.isSome || !c.running
    let ents := if fresh then linTable ch table s else c.current
    let pos := if fresh then 0 else c.pos
    match ents[pos]? with
    | none => setLin ch { c with table := table, wanted := none, swapped := false, running := false, current := [], pos := 0 } s
    | some e =>
      let f := linEntryFrame e
      let c1 := { c with table := table, wanted := none, swapped := false, running := true, current := ents,
                         pos := (pos + 1) % ents.length, entryEnds := s.cyc + bits e 15 0 * 100 * usCyc, waiting := none, echo := none }
      sendHeader ch f (setLin ch c1 s)

/-- LIN_HEADER_RX: a header on the bus is checked at the end of its PID and answered (R259). -/
def linHeader (ch bitrate : Nat) (pid : Byte) (readbackFail : Bool) (s : State) : State :=
  let c := getLin ch s
  let rate := bits c.record 61 47
  let f := pid.toNat % 64
  if !(c.record.getLsbD 63) ∨ busesHeld s ∨ !(edgeOn s) then s
  else if 100 * bitrate < 85 * rate ∨ 100 * bitrate > 115 * rate then bump .edgeLinSync ch s
  else if pid ≠ linPid f then bump .edgeLinPid ch s
  else linAnswer ch f pid readbackFail 0 (fracAgo (linBits 195 bitrate) s) s

/-- A commander reads back the response that it has published: one that differs on the bus is counted (R259). -/
def linReadBack (ch : Nat) (bytes : List Byte) (s : State) : State :=
  let c := getLin ch s
  match c.echo with
  | none => s
  | some e => let s1 := setLin ch { c with echo := none } s; if e = bytes then s1 else bump .edgeLinBit ch s1

/-- LIN_RESPONSE_RX: the response of an awaited frame completes (R183, R185, R259). -/
def linResponse (ch : Nat) (data : List Byte) (checksum : Byte) (badStop : Bool) (s : State) : State :=
  let c := getLin ch s
  match c.waiting with
  | none => linReadBack ch (data ++ [checksum]) s
  | some (f, _) =>
    let s1 := setLin ch { c with waiting := none } s
    if !(edgeOn s) then s1
    else if busesHeld s then bump .twinStandbyBusDrop (32 + ch) s1
    else if badStop then bump .edgeLinFraming ch s1
    else
      let d := linFrame (curTables s) ch f
      if d.role ≠ 0 ∧ data.length ≠ d.len then s
      else if checksum ≠ linChecksum (linEnhanced d f) c.seenPid data then (if d.role = 2 then bump .edgeLinChecksum ch s1 else s1)
      else
        let s2 := linCompleted ch f (linEnhanced d f) data s1
        if d.role = 2 then enterMessage .lin c.syncStamp (linPseudo ch f (linEnhanced d f) (c.record.getLsbD 62) data) s2 else s2

/-- LIN_RESPONSE_TIMEOUT: an awaited response has not come whole (R185, R258). -/
def linTimeout (ch got : Nat) (s : State) : State :=
  let c := getLin ch s
  match c.waiting with
  | none => s
  | some (f, stop) =>
    if s.cyc < stop then s
    else
      let d := linFrame (curTables s) ch f
      let s1 := setLin ch { c with waiting := none } s
      if got > 0 then bump .edgeLinIncomplete ch s1
      else if d.role = 2 ∧ c.record.getLsbD 62 then bump .edgeLinNoResponse ch s1
      else s1

/-- The interconnect instance that holds a channel, and whether it stands on the implement side (R186). -/
def isoOf (ch : Nat) (s : State) : Option (Nat × IsoDef × Bool) :=
  (curTables s).isos.findSome? (fun e =>
    if e.2.tractor.getLsbD ch then some (e.1, e.2, false) else if e.2.implement.getLsbD ch then some (e.1, e.2, true) else none)

/-- Whether a virtual channel's Selvage link is up on the partner's module alone (R443, R447). -/
def pairHolds (ch : Nat) (s : State) : Bool :=
  let l := (ch - 16) / 8
  decide (16 ≤ ch) && pairActive s && (getLink l s).hitch != .up && numAt s.twin.partnerStatus (2 + l) 1 == 4

/-- The channels of one side of an instance that the proxy takes in: a virtual channel while its link is UP on this module or the partner's (R188, R221, R443). -/
def isoSide (d : IsoDef) (implement : Bool) (s : State) : List Nat :=
  (List.range 32).filter (fun ch => (if implement then d.implement else d.tractor).getLsbD ch && (decide (ch < 16) || decide ((getLink ((ch - 16) / 8) s).hitch = .up) || pairHolds ch s))

/-- A CAN message of the Keeper's own joins a channel's transmit queue; that of a virtual channel whose link the partner alone holds goes to the partner (R174, R443). -/
def keeperTx (ch : Nat) (m : CanMsg) (s : State) : State :=
  if pairHolds ch s then relayTo 1 ch (canPseudo ch ((canRecord ch s).getLsbD 124) m) s else enqueueTx ch { msg := m, since := s.cyc } s

/-- Send a Keeper's CAN message on every channel of one side of an instance. -/
def isoSend (d : IsoDef) (implement : Bool) (m : CanMsg) (s : State) : State :=
  forEach (isoSide d implement s) (fun ch t => keeperTx ch m t) s

/-- An address-claimed message: PGN 0xEE00, priority 6, to all, with the NAME least significant byte first (ISO 11783-5, log entry 12). -/
def claimMsg (sa : Nat) (name : BitVec 64) : CanMsg :=
  { format := .classicExt, rtr := false, brs := false, esi := false, ident := 6 * 2 ^ 26 + 0xEE * 2 ^ 16 + 0xFF * 2 ^ 8 + sa, dlc := 8, data := (natBytes 8 name.toNat).reverse }

/-- The NAME that an address-claimed message carries. -/
def claimName (m : CanMsg) : BitVec 64 := BitVec.ofNat 64 (beNat (fit 8 m.data).reverse)

/-- PGN of an extended message (R135). -/
def msgPgn (m : CanMsg) : Nat := beNat ((isoFields true m).take 3)

/-- ADDRESS_CLAIM_RX: the proxy keeps the table, forwards the claim, settles contention by NAME and answers requests (R188). -/
def addressClaim (ch : Nat) (m : CanMsg) (s : State) : State :=
  match isoOf ch s with
  | none => s
  | some (n, d, impl) =>
    if msgPgn m = 0xEE00 then
      let sa := m.ident % 256
      let name := claimName m
      let fwd := isoSend d (!impl) m s
      if sa ≥ 254 then fwd
      else
        let k := n * 256 + sa
        match mapGet none s.edge.isoAddrs k with
        | none => { fwd with edge := { fwd.edge with isoAddrs := mapSet none fwd.edge.isoAddrs k (some { name := name, implement := impl }) } }
        | some a =>
          if a.name = name then { fwd with edge := { fwd.edge with isoAddrs := mapSet none fwd.edge.isoAddrs k (some { name := name, implement := impl }) } }
          else if name.toNat < a.name.toNat then
            (if a.implement = impl then id else isoSend d impl (claimMsg 254 a.name))
              { fwd with edge := { fwd.edge with isoAddrs := mapSet none fwd.edge.isoAddrs k (some { name := name, implement := impl }) } }
          else if a.implement = impl then fwd else isoSend d a.implement (claimMsg 254 name) fwd
    else if msgPgn m = 0xEA00 ∧ beNat ((fit 3 m.data).reverse) = 0xEE00 then
      let da := m.ident / 256 % 256
      forUpTo 254 (fun a t =>
        match mapGet none t.edge.isoAddrs (n * 256 + a) with
        | some e => if e.implement ≠ impl ∧ (da = 255 ∨ da = a) then isoSend d impl (claimMsg a e.name) t else t
        | none => t) s
    else s

/-- The implement side of every instance that uses a link's virtual channels is gone: its entries are removed (R188, R223). -/
def isoLinkLost (link : Nat) (s : State) : State :=
  forEach (curTables s).isos (fun e t =>
    if (List.range 8).any (fun v => e.2.implement.getLsbD (16 + 8 * link + v)) then
      forUpTo 254 (fun a x =>
        match mapGet none x.edge.isoAddrs (e.1 * 256 + a) with
        | some y => if y.implement then { x with edge := { x.edge with isoAddrs := mapSet none x.edge.isoAddrs (e.1 * 256 + a) none } } else x
        | none => x) t
    else t) s

/-- The Keeper claims an instance's own NAME and address on one side, where the side has a channel that the proxy takes in (R188, R221). -/
def isoClaimSide (n : Nat) (d : IsoDef) (implement : Bool) (s : State) : State :=
  let a := if implement then d.iAddr else d.tAddr
  let name := if implement then d.iName else d.tName
  if !d.own ∨ (isoSide d implement s).isEmpty then s
  else
    let s1 := if a < 254 then { s with edge := { s.edge with isoAddrs := mapSet none s.edge.isoAddrs (n * 256 + a) (some { name := name, implement := implement }) } } else s
    isoSend d implement (claimMsg a name) s1

/-- The Keeper claims an instance's own NAMEs and addresses (R188). -/
def isoClaimOwn (n : Nat) (d : IsoDef) (s : State) : State := isoClaimSide n d true (isoClaimSide n d false s)

/-- A link is UP: the proxy takes in the side of every instance that uses its virtual channels (R221). -/
def isoLinkUp (link : Nat) (s : State) : State :=
  let uses (c : BitVec 32) : Bool := (List.range 8).any (fun v => c.getLsbD (16 + 8 * link + v))
  forEach (curTables s).isos (fun e t =>
    let t1 := if uses e.2.tractor then isoClaimSide e.1 e.2 false t else t
    if uses e.2.implement then isoClaimSide e.1 e.2 true t1 else t1) s

/-- ISO_NETWORK_MESSAGE: a request to change the filter database is answered with a negative reply, a request to report it from the current epoch (R186). The message encodings are those of ISO 11783-4, which the manual does not print: whether a message asks for a change is free (log entry 14). -/
def isoNetwork (ch : Nat) (s : State) : State :=
  match isoOf ch s with
  | none => s
  | some (n, d, _) =>
    let x := drawBelow 2 s
    if x.1 = 0 then emit (.isoReply ch true n 0 0) x.2 else emit (.isoReply ch false n d.tractor.toNat d.implement.toNat) x.2

end Sys2Proof.Machine
end

