-- ==== Sys2Proof/Machine/ThimbleOps.lean ====
section
/-! DEFINITION. Machine/ThimbleOps.lean: the Thimble: derived keys, checks of a key use, the key journal and its recovery, loading and destroying keys, the lifecycle and its tokens (R263-R284). -/

namespace Sys2Proof.Machine

/-- The ASCII bytes of a label. -/
def ascii (x : String) : List Byte := x.toList.map (fun c => BitVec.ofNat 8 c.toNat)

/-- The CRC-32 of R157. -/
def crc157 (m : List Byte) : Nat := crcMsb 32 0x04C11DB7 0xFFFFFFFF m ^^^ 0xFFFFFFFF

/-- The counter-mode KDF of R264 with AES-CMAC: block `i` is the CMAC of [i] and the rest of the fixed input, which ends with the length in bits. -/
def kdfBlocks (key fixed : List Byte) : Nat → Nat → List Byte
  | 0, _ => []
  | n + 1, i => cmacAes key (natBytes 1 i ++ fixed) ++ kdfBlocks key fixed n (i + 1)

/-- The KDF with a label and a context, for an output of `len` bytes (R264). -/
def kdf (key : List Byte) (label : String) (context : List Byte) (len : Nat) : List Byte :=
  (kdfBlocks key (ascii label ++ [0] ++ context ++ natBytes 2 (8 * len)) ((len + 15) / 16) 1).take len

/-- A commit record with its CRC (R265). -/
def sealCommit (n gen : Nat) (active empty : Bool) : BitVec 128 :=
  let hi := (gen <<< 64) + (if active then 1 <<< 63 else 0) + (if empty then 1 <<< 62 else 0)
  BitVec.ofNat 128 ((hi <<< 32) + crc157 (natBytes 1 n ++ natBytes 12 hi))

/-- A slot record with its CRC (R265). -/
def sealRecord (n : Nat) (value : List Byte) (attr : BitVec 128) (gen : Nat) : BitVec 512 :=
  let hi := (beNat (value ++ List.replicate (32 - value.length) 0) <<< 224) + (attr.toNat <<< 96) + (gen <<< 64)
  BitVec.ofNat 512 ((hi <<< 32) + crc157 (natBytes 1 n ++ natBytes 60 hi))

/-- Whether a commit record's CRC passes. -/
def commitOk (n : Nat) (c : BitVec 128) : Bool := decide (bits c 31 0 = crc157 (natBytes 1 n ++ natBytes 12 (bits c 127 32)))

/-- Whether a slot record's CRC passes. -/
def recordOk (n : Nat) (r : BitVec 512) : Bool := decide (bits r 31 0 = crc157 (natBytes 1 n ++ natBytes 60 (bits r 511 32)))

/-- A key slot that was never written: both commit records at generation 0, EMPTY (R265, R268). -/
def slotReset (n : Nat) : SlotSt := { cr0 := sealCommit n 0 false true, cr1 := sealCommit n 0 false true }

/-- A key slot. -/
def getSlot (n : Nat) (s : State) : SlotSt := mapGet (slotReset n) s.thm.slots n

/-- Replace a key slot. -/
def setSlot (n : Nat) (v : SlotSt) (s : State) : State := { s with thm := { s.thm with slots := mapSet (slotReset n) s.thm.slots n v } }

/-- The committed generation of a slot. Outside an update and a recovery both commit records hold the same. -/
def slotGen (n : Nat) (s : State) : Nat := bits (getSlot n s).cr0 127 96

/-- EMPTY of a slot. -/
def slotEmpty (n : Nat) (s : State) : Bool := (getSlot n s).cr0.getLsbD 94

/-- The active record of a slot. -/
def slotRecord (n : Nat) (s : State) : BitVec 512 := let x := getSlot n s; if x.cr0.getLsbD 95 then x.recB else x.recA

/-- The attribute record of an empty slot: VALID 0, PARENT none, everything else 0 (R268). -/
def emptyAttr : BitVec 128 := 0x7F <<< 102

/-- The attribute record of a slot (R268). -/
def slotAttr (n : Nat) (s : State) : BitVec 128 := if slotEmpty n s then emptyAttr else BitVec.ofNat 128 (bits (slotRecord n s) 255 128)

/-- Bytes of a key of a TYPE (R268). -/
def typeLen (attr : BitVec 128) : Nat := if bits attr 126 125 = 0 then 16 else 32

/-- The key value of a slot. -/
def slotValue (n : Nat) (s : State) : List Byte := (natBytes 32 (bits (slotRecord n s) 511 256)).take (typeLen (slotAttr n s))

/-- Whether a root is programmed and not destroyed (R263). -/
def rootAlive (r : Nat) (s : State) : Bool := s.thm.programmed.getLsbD r && !(s.thm.killed.getLsbD r)

/-- The value of a root. -/
def rootValue (r : Nat) (s : State) : List Byte := mapGet (List.replicate 32 0) s.thm.roots r

/-- The generation of a root: 1 while it is programmed (R275). -/
def rootGen (r : Nat) (s : State) : Nat := if rootAlive r s then 1 else 0

/-- The lifecycle state from the log (R277): the TARGET of the last entry with PENDING; 0 BLANK, 1 PROVISION, 2 FIELD, 3 SERVICE, 4 RETIRED. -/
def lcState (s : State) : Nat :=
  (List.range 32).foldl (fun a i => let e := mapGet 0 s.thm.log i; if e.getLsbD 7 then bits e 5 3 else a) 0

/-- Free log entries: those among 2-30 not burned (R277). -/
def freeEntries (s : State) : Nat := ((List.range 29).filter (fun i => !((mapGet 0 s.thm.log (i + 2)).getLsbD 7))).length

/-- The generation of a parent by its number: 0-63 slots, 64-67 roots (R268, R275). -/
def parentGen (p : Nat) (s : State) : Nat := if p < 64 then slotGen p s else rootGen (p - 64) s

/-- Whether a slot is stale by its chain to a root (R276, R282). A parent is never itself derived at the generation a child recorded, so two steps reach the end (R271). -/
def chainStale (s : State) : Nat → Nat → Bool
  | 0, _ => true
  | fuel + 1, n =>
    let a := slotAttr n s
    if bits a 124 123 ≠ 2 ∨ !(a.getLsbD 127) then false
    else
      let p := bits a 108 102
      decide (parentGen p s ≠ bits a 101 70) || (decide (p < 64) && chainStale s fuel p)

/-- The attribute bit that a use needs (R268). -/
def useBit : KeyUse → Nat
  | .derive => 112
  | .cipher => 111
  | .hmac => 110
  | .wrap => 109

/-- The attribute bit that a master needs. -/
def masterBit : Master → Nat
  | .keeper => 120
  | .bodkin => 119
  | .placket => 118

/-- The attribute bit that a world needs: 0b01 Trusted, 0b10 Open. -/
def worldBit : World → Nat
  | .trusted => 116
  | .openW => 117

/-- The attribute bit that a lifecycle state needs. -/
def lcAllows (st : Nat) (a : BitVec 128) : Bool :=
  match st with
  | 1 => a.getLsbD 115
  | 2 => a.getLsbD 114
  | 3 => a.getLsbD 113
  | _ => false

/-- Whether the debug state is Authenticated-open under root 1 in FIELD, which shuts CUSTOMER slots and the owner keys to the Keeper (R468). -/
def vendorDebug (s : State) : Bool :=
  (match s.dbg.state with
  | .auth _ v => v
  | _ => false) && lcState s == 2

/-- Checks 1 to 5 of R269 on a slot, with R468. -/
def mayUse (n : Nat) (m : Master) (w : World) (u : KeyUse) (s : State) : Bool :=
  let a := slotAttr n s
  !(slotEmpty n s) && a.getLsbD 127 && lcAllows (lcState s) a && a.getLsbD (masterBit m) && a.getLsbD (worldBit w) && a.getLsbD (useBit u)
    && !(vendorDebug s && m == .keeper && decide (bits a 122 121 = 0))

/-- Check 6 of R269: whether a request with a recorded generation, where it has one, is stale (R282). -/
def isStale (n : Nat) (gen : Option Nat) (s : State) : Bool := (gen.isSome && decide (gen ≠ some (slotGen n s))) || chainStale s 2 n

/-- The checks of a key use (R269): the status it fails with, and its refusal counted at the slot. -/
def checkUse (n : Nat) (gen : Option Nat) (m : Master) (w : World) (u : KeyUse) (s : State) : Option Status × State :=
  if !(mayUse n m w u s) then (some .denied, bump .thmAccessDenied n s)
  else if isStale n gen s then (some .keyStale, bump .thmKeyStale n s)
  else (none, s)

/-- A key use that delivers a key: the checks, then a read with a fresh mask (R266, R269). -/
def fetchKey (n : Nat) (gen : Option Nat) (m : Master) (w : World) (u : KeyUse) (s : State) : Except Status Shares × State :=
  match checkUse n gen m w u s with
  | (some e, t) => (.error e, t)
  | (none, t) =>
    let d := drawBytes (slotValue n s).length t
    (.ok { slot := n, masked := xorBytes (slotValue n s) d.1, mask := d.1 }, d.2)

/-- The key that shares stand for; only the key schedule joins them (R266). -/
def Shares.key (x : Shares) : List Byte := xorBytes x.masked x.mask

/-- The owner wrap key (R264). -/
def ownerWrapKey (s : State) : List Byte := kdf (rootValue 2 s) "THMOWNWRAP" [] 32

/-- The provisioning key (R264). -/
def provisioningKey (s : State) : List Byte := kdf (rootValue 0 s) "THMPROV" [] 32

/-- The identity attestation key (R264). -/
def attestKey (s : State) : List Byte := kdf (rootValue 0 s) "THMATTEST" [] 32

/-- The lifecycle token key of a root (R264). -/
def tokenKey (r : Nat) (s : State) : List Byte := kdf (rootValue r s) "THMLC" [] 32

/-- A transport whose command key slot commits a new generation starts its sequence again (R317). -/
def Trans.rekeyed (n : Nat) (t : Trans) : Trans := if t.keySlot = some n then { t with lastSeq := 0, reserved := 0 } else t

/-- A slot's journal update (R272): the record that is not active takes the new generation, then both commit records name it; a destruction then clears the old record. None when the generation cannot rise. -/
def updateSlot (n : Nat) (new : Option (List Byte × BitVec 128)) (s : State) : Option State :=
  let x := getSlot n s
  let g := slotGen n s
  let b := x.cr0.getLsbD 95
  if g = 2 ^ 32 - 1 then none
  else
    let rec' := match new with
      | some (v, a) => sealRecord n v a (g + 1)
      | none => sealRecord n [] emptyAttr (g + 1)
    let c := sealCommit n (g + 1) (!b) new.isNone
    let old : BitVec 512 := if new.isNone then 0 else if b then x.recB else x.recA
    let y : SlotSt := { x with cr0 := c, cr1 := c, recA := if b then rec' else old, recB := if b then old else rec' }
    let s1 := setSlot n y s
    some { s1 with yel := { s1.yel with placket := s1.yel.placket.rekeyed n, vlan := s1.yel.vlan.rekeyed n, mspi := s1.yel.mspi.rekeyed n } }

/-- An update as a command makes it: DENIED at the last generation; INTERNAL, counted and reported, when its record does not read back as written, the old key standing (R272, R314). -/
def commitSlot (n : Nat) (new : Option (List Byte × BitVec 128)) (s : State) : CmdResult :=
  match updateSlot n new s with
  | none => failed .denied s
  | some t => if s.thm.worn.getLsbD n then failed .internal (raiseEv .journalVerify n [] (bump .thmJournalVerifyFail n s)) else done [] t

/-- The recovery of one slot at reset (R273). A slot whose generation is 0 was never written and names no record. -/
def recoverSlot (n : Nat) (s : State) : State :=
  let x := getSlot n s
  let ok0 := commitOk n x.cr0
  let ok1 := commitOk n x.cr1
  let pick := if ok0 && (!ok1 || decide (bits x.cr0 127 96 ≥ bits x.cr1 127 96)) then some x.cr0 else if ok1 then some x.cr1 else none
  let named (c : BitVec 128) : BitVec 512 := if c.getLsbD 95 then x.recB else x.recA
  let good (c : BitVec 128) : Bool := decide (bits c 127 96 = 0) || (recordOk n (named c) && decide (bits (named c) 127 96 = bits c 127 96))
  match pick.filter good with
  | some c =>
    let repairs := (if x.cr0 ≠ c then 1 else 0) + (if x.cr1 ≠ c then 1 else 0)
    let other := if c.getLsbD 95 then x.recA else x.recB
    let wipe := c.getLsbD 94 && decide (other ≠ 0)
    let y := { x with cr0 := c, cr1 := c, recA := if wipe ∧ c.getLsbD 95 then 0 else x.recA, recB := if wipe ∧ !(c.getLsbD 95) then 0 else x.recB }
    bumpBy (repairs + (if wipe then 1 else 0)) .thmJournalRecover 0 (setSlot n y s)
  | none =>
    let gens := (if ok0 then [bits x.cr0 127 96] else []) ++ (if ok1 then [bits x.cr1 127 96] else [])
      ++ (if recordOk n x.recA then [bits x.recA 127 96] else []) ++ (if recordOk n x.recB then [bits x.recB 127 96] else [])
    let g := gens.foldl Nat.max 0 + 1
    let c := sealCommit n g false true
    detectFault 0x12 n (raiseEv .journalLost n [] (setSlot n { recA := 0, recB := 0, cr0 := c, cr1 := c, lost := true } s))

/-- The recovery of every slot (R273). -/
def recoverSlots (s : State) : State := forUpTo 64 recoverSlot s

/-- Whether an attribute record breaks R268 for the operation that loads it: its reserved bits, and the fields that a command sets. -/
def attrBad (derived : Bool) (a : BitVec 128) : Bool :=
  let uses := bits a 112 109
  decide (bits a 37 0 ≠ 0) || decide (bits a 126 125 = 3) || decide (bits a 122 121 ≥ 2) || decide (bits a 120 118 = 0)
  || decide (bits a 117 116 = 0) || decide (bits a 115 113 = 0) || (a.getLsbD 113 && decide (bits a 122 121 = 0))
  || decide (uses = 0) || (a.getLsbD 109 && (decide (uses ≠ 1) || decide (bits a 126 125 ≠ 1)))
  || (if derived then decide (bits a 108 102 > 67) else decide (bits a 108 102 ≠ 127))

/-- The attribute record that a loading operation stores: VALID, ORIGIN and PARENT_GEN are the Thimble's, the rest is as given (R268, R271). -/
def storedAttr (origin pgen : Nat) (a : BitVec 128) : BitVec 128 :=
  BitVec.ofNat 128 ((1 <<< 127) + (bits a 126 125 <<< 125) + (origin <<< 123) + (bits a 122 102 <<< 102) + (pgen <<< 70) + (bits a 69 38 <<< 38))

/-- Opening an import blob under a wrap key (R270): the clear value, or none when the tag fails. -/
def openBlob (key : List Byte) (slot : Nat) (attr blob : List Byte) : Option (List Byte) :=
  let iv := blob.take 12
  let ct := (blob.drop 12).take (blob.length - 28)
  if gcmTag key iv (natBytes 1 slot ++ attr) ct = blob.drop (blob.length - 16) then some (gcmText key iv ct) else none

/-- The world of a command's key request: a Placket request is Open, a request of the Keeper's own transports Trusted (R269; log entry 20). -/
def viaWorld : Via → World
  | .ring _ => .openW
  | _ => .trusted

/-- The master of a command's key request (R269; log entry 20). -/
def viaMaster : Via → Master
  | .ring _ => .placket
  | _ => .keeper

/-- The wrap key that an import names (R270): a slot with USES WRAP, 0xFE the owner wrap key, 0xFD the provisioning key. -/
def wrapKey (w : Nat) (v : Via) (s : State) : Except Status (List Byte) × State :=
  if w < 64 then
    match fetchKey w none (viaMaster v) (viaWorld v) .wrap s with
    | (.ok k, t) => (.ok k.key, t)
    | (.error e, t) => (.error e, t)
  else if w = 0xFE then
    (if rootAlive 2 s && (lcState s == 1 || lcState s == 2) && !(vendorDebug s) then (.ok (ownerWrapKey s), s) else (.error .denied, s))
  else if w = 0xFD then
    (if rootAlive 0 s && lcState s == 1 then (.ok (provisioningKey s), s) else (.error .denied, s))
  else (.error .denied, s)

/-- IMPORT into a slot or a root (R263, R270): target, wrap key, attribute record and blob. -/
def importKey (target wrap : Nat) (attr blob : List Byte) (v : Via) (s : State) : CmdResult :=
  let a := BitVec.ofNat 128 (beNat attr)
  let root := decide (target = 0x42) || decide (target = 0x43)
  if target ≥ 64 ∧ !root then failed .denied s
  else if root ∧ (wrap ≠ 0xFD ∨ lcState s ≠ 1 ∨ s.thm.programmed.getLsbD (target - 64)) then failed .denied s
  else if !root ∧ attrBad false a then failed .denied s
  else if blob.length ≠ 28 + (if root then 32 else typeLen a) then failed .lenRange s
  else
    match wrapKey wrap v s with
    | (.error e, t) => failed e t
    | (.ok k, t) =>
      match openBlob k target attr blob with
      | none => failed .denied (bump .thmImportFail target t)
      | some value =>
        if root then
          done [] { t with thm := { t.thm with programmed := t.thm.programmed ||| BitVec.ofNat 4 (2 ^ (target - 64)), roots := mapSet (List.replicate 32 0) t.thm.roots (target - 64) value } }
        else commitSlot target (some (value, storedAttr 0 0 a)) t

/-- GENERATE (R267, R271). -/
def generateKey (slot : Nat) (attr : List Byte) (s : State) : CmdResult :=
  let a := BitVec.ofNat 128 (beNat attr)
  if slot ≥ 64 ∨ attrBad false a ∨ s.thm.rngFault then failed .denied s
  else
    let d := drawBytes (typeLen a) s
    commitSlot slot (some (d.1, storedAttr 1 0 a)) d.2

/-- DERIVE (R271): from a key slot with USES DERIVE that is not itself derived, or from root 2 in PROVISION and FIELD. -/
def deriveKey (slot : Nat) (attr : List Byte) (v : Via) (s : State) : CmdResult :=
  let a := BitVec.ofNat 128 (beNat attr)
  let p := bits a 108 102
  let ctx := natBytes 1 slot ++ natBytes 4 (bits a 69 38)
  if slot ≥ 64 ∨ attrBad true a then failed .denied s
  else if p ≥ 64 then
    if p = 66 ∧ rootAlive 2 s ∧ (lcState s = 1 ∨ lcState s = 2) then
      commitSlot slot (some (kdf (rootValue 2 s) "THMSLOT" ctx (typeLen a), storedAttr 2 1 a)) s
    else failed .denied s
  else if bits (slotAttr p s) 124 123 = 2 then failed .denied s
  else
    match fetchKey p none (viaMaster v) (viaWorld v) .derive s with
    | (.error e, t) => failed e t
    | (.ok k, t) => commitSlot slot (some (kdf k.key "THMSLOT" ctx (typeLen a), storedAttr 2 (slotGen p s) a)) t

/-- DESTROY (R274). -/
def destroyKey (slot : Nat) (s : State) : CmdResult := if slot ≥ 64 then failed .denied s else commitSlot slot none s

/-- LC_CHALLENGE (R267, R279): a nonce for 60 s and one transition. -/
def lcChallenge (s : State) : CmdResult :=
  if s.thm.rngFault then failed .denied s
  else
    let d := drawBytes 32 s
    done d.1 { d.2 with thm := { d.2.thm with lcNonce := some (d.1, s.cyc + 60000 * msCyc) } }

/-- LC_NONCE_EXPIRY (R279). -/
def lcNonceExpire (s : State) : State :=
  match s.thm.lcNonce with
  | some (_, t) => if s.cyc ≥ t then { s with thm := { s.thm with lcNonce := none } } else s
  | none => s

/-- A row of the transition table (R278): the roots that may authorise it, the CLASS of the slots it destroys (none: all), and the roots it kills. -/
structure LcRow where
  roots : List Nat
  cls : Option Nat
  kills : List Nat

/-- The transitions that a token can authorise (R278). -/
def lcRow (cur target : Nat) : Option LcRow :=
  if cur = 1 ∧ target = 2 then some ⟨[2], some 1, []⟩
  else if cur = 2 ∧ target = 3 then some ⟨[1], some 0, []⟩
  else if cur = 3 ∧ target = 2 then some ⟨[2], some 1, []⟩
  else if 1 ≤ cur ∧ cur ≤ 3 ∧ target = 4 then some ⟨[1, 2], none, [1, 2, 3]⟩
  else none

/-- The log entry that a transition burns (R277). -/
def lcEntry (cur target : Nat) (s : State) : Nat :=
  if target = 4 then 31 else if cur = 1 then 1
  else ((List.range 29).find? (fun i => !((mapGet 0 s.thm.log (i + 2)).getLsbD 7))).getD 29 + 2

/-- The token of a transition under a root (R279). -/
def lcToken (r : Nat) (nonce : List Byte) (cur target : Nat) (s : State) : List Byte :=
  hmacSha256 (tokenKey r s) (nonce ++ natBytes 1 cur ++ natBytes 1 target ++ [Config.revision])

/-- A slot of the destroyed set is destroyed; one at its last generation is emptied at that generation (R274, R280; log entry 91). -/
def destroySlot (n : Nat) (s : State) : State :=
  match updateSlot n none s with
  | some t => t
  | none =>
    let c := sealCommit n (2 ^ 32 - 1) false true
    setSlot n { getSlot n s with recA := sealRecord n [] emptyAttr (2 ^ 32 - 1), recB := 0, cr0 := c, cr1 := c } s

/-- The destroyed set of a transition (R278, R280). -/
def lcDestroy (row : LcRow) (s : State) : State :=
  let s1 := forUpTo 64 (fun n t =>
    let hit := !(slotEmpty n t) && (match row.cls with | some c => decide (bits (slotAttr n t) 122 121 = c) | none => true)
    if hit then destroySlot n t else t) s
  { s1 with thm := { s1.thm with killed := row.kills.foldl (fun k r => k ||| BitVec.ofNat 4 (2 ^ r)) s1.thm.killed } }

/-- Every transport starts its sequence again (R317). -/
def resetSeqs (s : State) : State :=
  let z (t : Trans) : Trans := { t with lastSeq := 0, reserved := 0 }
  { s with yel := { s.yel with placket := z s.yel.placket, vlan := z s.yel.vlan, mspi := z s.yel.mspi } }

/-- Burn a log entry (R277). -/
def burnLog (i : Nat) (e : BitVec 8) (s : State) : State := { s with thm := { s.thm with log := mapSet 0 s.thm.log i (mapGet 0 s.thm.log i ||| e) } }

/-- Close the debug state, with its event when it was open (R461). BLANK is always Open (R460). -/
def closeDebug (s : State) : State :=
  let goal := if lcState s = 0 then DbgState.opened else .closed
  if s.dbg.state = goal then s
  else
    let s1 : State := { s with dbg := { s.dbg with state := goal } }
    if s.dbg.state = .closed then s1 else raiseEv .debugClosed 0 [] s1

/-- An authorised transition (R280): debug closes (R461), PENDING is burned, the set destroyed, DONE burned. -/
def lcRun (row : LcRow) (cur target : Nat) (s : State) : State :=
  let i := lcEntry cur target s
  let s1 := burnLog i (BitVec.ofNat 8 (128 + 8 * target)) (closeDebug s)
  let s2 := burnLog i 64 (lcDestroy row s1)
  raiseEv .lifecycle 0 [BitVec.ofNat 8 cur, BitVec.ofNat 8 target] (if cur = 3 ∨ target = 3 then resetSeqs s2 else s2)

/-- LC_TRANSITION (R278-R280). How long the transition runs, within its 100 ms, is a free value (log entry 6). -/
def lcTransition (target : Nat) (token : List Byte) (s : State) : CmdResult :=
  let cur := lcState s
  match lcRow cur target with
  | none => failed .notInState s
  | some row =>
    let used : State := { s with thm := { s.thm with lcNonce := none } }
    let bad := failed .denied (bump .thmLcAuthFail 0 used)
    if cur = 2 ∧ target = 3 ∧ freeEntries s < 2 then failed .notInState s
    else
      match s.thm.lcNonce with
      | none => bad
      | some (nonce, ends) =>
        if s.cyc ≥ ends then bad
        else if row.roots.any (fun r => rootAlive r s && decide (token = lcToken r nonce cur target s)) then
          let d := drawBelow (100 * msCyc) (lcRun row cur target used)
          done [] { d.2 with thm := { d.2.thm with lcUntil := s.cyc + d.1 } }
        else bad

/-- A transition whose last entry has PENDING without DONE is completed at reset, before any key use (R280). -/
def lcRedo (s : State) : State :=
  let last := (List.range 32).foldl (fun a i => if (mapGet 0 s.thm.log i).getLsbD 7 then some i else a) none
  match last with
  | none => s
  | some i =>
    if (mapGet 0 s.thm.log i).getLsbD 6 then s
    else
      let target := lcState s
      let cur := if i = 1 then 1 else if target = 3 then 2 else 3
      match lcRow cur target with
      | some row => bump .thmLcRedo 0 (burnLog i 64 (lcDestroy row s))
      | none => burnLog i 64 s

/-- RNG_HEALTH_FAIL (R267): the flag is set and the Lamp room told. -/
def rngFail (s : State) : State :=
  detectFault 0x11 0 (raiseEv .rngFault 0 [] { s with thm := { s.thm with rngFault := true } })

end Sys2Proof.Machine
end

