-- ==== Sys2Proof/Machine/BodkinOps.lean ====
section
/-! DEFINITION. Machine/BodkinOps.lean: the Bodkin: contexts and SA entries, working keys, MACsec, CAN authentication, usage limits, pipelines and the operations that commands request (R285-R308). -/

namespace Sys2Proof.Machine

/-- A context. -/
def getCtx (c : Nat) (s : State) : Ctx := mapGet {} s.bod.ctx c

/-- Replace a context. -/
def setCtx (c : Nat) (v : Ctx) (s : State) : State := { s with bod := { s.bod with ctx := mapSet {} s.bod.ctx c v } }

/-- An SA entry after reset: NEXT_PN 1 (R295). -/
def saReset : BitVec 256 := 1 <<< 8

/-- An SA entry, by context x 4 + AN. -/
def getSa (i : Nat) (s : State) : BitVec 256 := mapGet saReset s.bod.sas i

/-- Replace an SA entry. -/
def setSa (i : Nat) (v : BitVec 256) (s : State) : State := { s with bod := { s.bod with sas := mapSet saReset s.bod.sas i v } }

/-- A field of a 256-bit record replaced. -/
def putField (r : BitVec 256) (hi lo v : Nat) : BitVec 256 := BitVec.ofNat 256 (r.toNat - (bits r hi lo <<< lo) + ((v % 2 ^ (hi + 1 - lo)) <<< lo))

/-- WORLD of a context. -/
def ctxWorld (r : BitVec 256) : World := if r.getLsbD 250 then .openW else .trusted

/-- Whether a suite is an XPN suite, and its key length (R290). -/
def suiteXpn (r : BitVec 256) : Bool := decide (bits r 234 233 ≥ 2)

/-- The last PN of a transmit SA (R304). -/
def lastPn (r : BitVec 256) : Nat := if suiteXpn r then 2 ^ 64 - 1 else 2 ^ 32 - 1

/-- Key bytes of a context's cipher. -/
def suiteLen (r : BitVec 256) : Nat := if bits r 255 254 = 3 then 16 else if bits r 234 233 % 2 = 1 then 32 else 16

/-- The key label of R292. -/
def keyLabel (slot use_ : Nat) (sci : List Byte) (dir : Bool) (an epoch : Nat) : List Byte :=
  natBytes 1 slot ++ natBytes 1 use_ ++ sci ++ natBytes 1 ((if dir then 128 else 0) + an) ++ natBytes 2 epoch ++ [0, 0, 0]

/-- The working key of a MACsec SA (R292). -/
def macsecKey (r sa : BitVec 256) (an : Nat) (slotKey : List Byte) : List Byte :=
  if r.getLsbD 251 then slotKey
  else kdf slotKey "BODKIN" (keyLabel (bits sa 254 249) 1 (natBytes 8 (bits r 189 126)) (sa.getLsbD 200) an (bits sa 216 201)) (suiteLen r)

/-- The working key of a CAN authentication context (R292). -/
def canKey (r : BitVec 256) (slotKey : List Byte) : List Byte :=
  kdf slotKey "BODKIN" (keyLabel (bits r 239 234) 2 (natBytes 2 (bits r 184 169) ++ List.replicate 6 0) (r.getLsbD 185) 0 (bits r 201 186)) 16

/-- A packet dropped because its key fetch failed: counted, with at most one event per context and millisecond (R293). -/
def keyDrop (c : Nat) (e : Status) (s : State) : State :=
  let x := getCtx c s
  let s1 := bump (if e = .keyStale then .bodKeyStale else .bodKeyDenied) c s
  match x.dropEventAt with
  | some t => if s.cyc < t + msCyc then s1 else raiseEv .keyDropped c [] (setCtx c { x with dropEventAt := some s.cyc } s1)
  | none => raiseEv .keyDropped c [] (setCtx c { x with dropEventAt := some s.cyc } s1)

/-- The soft limit of a hard limit: REKEY_FRAC of it (R290, R304). A count reaches it when it is at least that fraction. -/
def softReached (r : BitVec 256) (n hard : Nat) : Bool :=
  match bits r 249 248 with
  | 0 => decide (2 * n ≥ hard)
  | 1 => decide (4 * n ≥ 3 * hard)
  | 2 => decide (8 * n ≥ 7 * hard)
  | _ => decide (16 * n ≥ 15 * hard)

/-- The IV of a MACsec frame: SCI and PN, or SSCI and PN combined with SALT for XPN (R296). -/
def macsecIv (r sa : BitVec 256) (pn : Nat) : List Byte :=
  if suiteXpn r then xorBytes (natBytes 4 (bits sa 199 168) ++ natBytes 8 pn) (natBytes 12 (bits sa 167 72))
  else natBytes 8 (bits r 189 126) ++ natBytes 4 pn

/-- Bytes of user data left in clear by CONF_OFFSET (R290). -/
def confOffset (r : BitVec 256) : Nat := match bits r 232 231 with
  | 1 => 30
  | 2 => 50
  | _ => 0

/-- The SecTAG of a transmitted frame (R296). Layout of IEEE 802.1AE (log entry 3). -/
def secTag (r : BitVec 256) (an pn len : Nat) : List Byte :=
  let e := r.getLsbD 230
  bytesOf [0x88, 0xE5]
    ++ natBytes 1 (flagBits [r.getLsbD 228, r.getLsbD 229, r.getLsbD 227, e, e] * 4 + an)
    ++ natBytes 1 (if len < 48 then len else 0) ++ natBytes 4 pn
    ++ (if r.getLsbD 229 then natBytes 8 (bits r 189 126) else [])

/-- Protect a frame (R296): addresses, SecTAG, data, ICV and a new FCS. -/
def macsecProtect (r sa : BitVec 256) (an pn : Nat) (key b : List Byte) : List Byte :=
  let data := (b.drop 12).take (b.length - 16)
  let head := b.take 12 ++ secTag r an pn data.length
  let off := if r.getLsbD 230 then confOffset r else data.length
  let iv := macsecIv r sa pn
  let ct := gcmText key iv (data.drop off)
  let out := head ++ data.take off ++ ct ++ gcmTag key iv (head ++ data.take off) ct
  out ++ fcs32 out

/-- A processed packet goes to the output of its pipeline. -/
def toPipe (p : Nat) (o : BodOut) (s : State) : State :=
  { s with bod := { s.bod with pipes := mapSet [] s.bod.pipes p (mapGet [] s.bod.pipes p ++ [o]) } }

/-- MACsec transmit (R296, R304). -/
def macsecTx (c : Nat) (it : BodItem) (s : State) : State :=
  let r := (getCtx c s).record
  let an := bits r 226 225
  let i := 4 * c + an
  let sa := getSa i s
  let pn := bits sa 71 8
  let last := lastPn r
  let grow := if r.getLsbD 229 then 32 else 24
  if !(sa.getLsbD 255) then bump .bodTxNoSa c s
  else if it.bytes.length + grow > 9216 then bump .bodLenJumbo c s
  else if sa.getLsbD 1 then raiseEv .keyLimit c (natBytes 1 an ++ natBytes 8 pn) (bump .bodPnExhausted i s)
  else
    match fetchKey (bits sa 254 249) (some (bits sa 248 217)) .bodkin (ctxWorld r) .cipher s with
    | (.error e, t) => keyDrop c e t
    | (.ok k, t) =>
      let out := macsecProtect r sa an pn (macsecKey r sa an k.key) it.bytes
      let sa1 := if pn = last then sa ||| 2 else putField sa 71 8 (pn + 1)
      let soft := softReached r pn last && !(sa.getLsbD 0)
      let sa2 := if soft then sa1 ||| 1 else sa1
      let s1 := bump (if r.getLsbD 230 then .bodTxEncrypted else .bodTxProtected) c (setSa i sa2 t)
      let s2 := if soft then raiseEv .rekey c (natBytes 1 an ++ natBytes 8 pn) s1 else s1
      toPipe it.lane { frame := it.frame, bytes := out } s2

/-- The lowest acceptable PN of a receive SA (R297). -/
def lowestPn (r sa : BitVec 256) : Nat := Nat.max 1 (bits sa 71 8 - bits r 221 190)

/-- The full PN of a received frame: for XPN the upper half is that of the lowest acceptable PN, or one more where the low half has wrapped (R297; IEEE 802.1AE clause 10.6, log entry 3). -/
def recoverPn (r sa : BitVec 256) (low : Nat) : Nat :=
  if suiteXpn r then
    let l := lowestPn r sa
    let hi := l / 2 ^ 32
    if l % 2 ^ 32 ≥ 2 ^ 31 ∧ low < 2 ^ 31 then (hi + 1) % 2 ^ 32 * 2 ^ 32 + low else hi * 2 ^ 32 + low
  else low

/-- Whether a received frame's SecTAG fails the checks of R297. -/
def tagBad (r : BitVec 256) (b : List Byte) : Bool :=
  let tci := numAt b 14 1
  let sc := decide (tci / 32 % 2 = 1)
  let es := decide (tci / 64 % 2 = 1)
  let scb := decide (tci / 16 % 2 = 1)
  let tagLen := if sc then 16 else 8
  let sl := numAt b 15 1
  let len := b.length - 12 - tagLen - 20
  decide (b.length < 12 + tagLen + 20) || decide (numAt b 12 2 ≠ 0x88E5) || decide (tci ≥ 128) || (es && sc) || (sc && scb)
  || !((decide (sl < 48) && decide (sl = len)) || (decide (sl = 0) && decide (len ≥ 48)))
  || (sc && decide (numAt b 20 8 ≠ bits r 189 126))

/-- Validate a received frame (R297): whether its ICV is valid, whether it is encrypted, and the frame with SecTAG and ICV removed. -/
def macsecCheck (r sa : BitVec 256) (pn : Nat) (key b : List Byte) : Bool × Bool × List Byte :=
  let tci := numAt b 14 1
  let enc := decide (tci / 8 % 2 = 1)
  let tagLen := if tci / 32 % 2 = 1 then 16 else 8
  let head := b.take (12 + tagLen)
  let len := b.length - 12 - tagLen - 20
  let data := (b.drop (12 + tagLen)).take len
  let icv := (b.drop (12 + tagLen + len)).take 16
  let off := if enc then confOffset r else len
  let iv := macsecIv r sa pn
  let ct := data.drop off
  let clear := b.take 12 ++ data.take off ++ (if enc then gcmText key iv ct else [])
  (decide (gcmTag key iv (head ++ data.take off) ct = icv), enc, clear ++ fcs32 clear)

/-- MACsec receive (R297). -/
def macsecRx (c : Nat) (it : BodItem) (s : State) : State :=
  let r := (getCtx c s).record
  let b := it.bytes
  let validate := bits r 224 223
  let unmodified : BodOut := { frame := it.frame, bytes := b }
  if tagBad r b then bump .bodRxBadTag c s
  else
    let an := numAt b 14 1 % 4
    let i := 4 * c + an
    let sa := getSa i s
    if !(sa.getLsbD 255) then
      let s1 := bump .bodRxNoSa c s
      if validate = 2 then s1 else toPipe it.lane unmodified s1
    else
      let pn := recoverPn r sa (numAt b 16 4)
      if r.getLsbD 222 ∧ pn < lowestPn r sa then bump .bodRxLate c s
      else if validate = 0 then toPipe it.lane unmodified s
      else
        match fetchKey (bits sa 254 249) (some (bits sa 248 217)) .bodkin (ctxWorld r) .cipher s with
        | (.error e, t) => keyDrop c e t
        | (.ok k, t) =>
          let v := macsecCheck r sa pn (macsecKey r sa an k.key) b
          if v.1 then
            let next := Nat.min (2 ^ 64 - 1) (Nat.max (bits sa 71 8) (pn + 1))
            toPipe it.lane { frame := it.frame, bytes := v.2.2, verified := true } (bump .bodRxOk c (setSa i (putField sa 71 8 next) t))
          else if v.2.1 then bump .bodRxNotValid c t
          else
            let s1 := bump .bodRxInvalid c t
            if validate = 2 then s1 else toPipe it.lane { frame := it.frame, bytes := v.2.2 } s1

/-- The formats that belong to CAN_FMT (R300): 0 classic, 1 FD, 2 XL. -/
def fmtMatches (fmt : Nat) (f : CanFormat) : Bool :=
  match f with
  | .classicBase => fmt == 0
  | .classicExt => fmt == 0
  | .fdBase => fmt == 1
  | .fdExt => fmt == 1
  | .xl => fmt == 2

/-- A, the sum of the parts of an authenticated data field (R298). -/
def authLen (r : BitVec 256) : Nat := bits r 156 146 + bits r 145 143 + bits r 142 138

/-- The padded length of an authenticated data field (R298). -/
def authPadded (r : BitVec 256) : Nat := if bits r 158 157 = 1 then dlcBytes true (fdDlc (authLen r)) else authLen r

/-- A CAN message with another data field: LENGTH and DLC follow it and AUTH is set (R300, R301). -/
def authMessage (b data : List Byte) : List Byte :=
  let m := canOfPseudo b
  let fd := isFd m.format
  let dlc := if m.format = .xl then 0 else if fd then fdDlc data.length else Nat.min 8 data.length
  b.take 11 ++ [b.getD 11 0 ||| 8] ++ natBytes 2 data.length ++ natBytes 1 dlc ++ (b.drop 15).take 9 ++ data

/-- The CMAC of a CAN message (R299), its leftmost MAC_LEN bytes. -/
def canMac (r : BitVec 256) (key : List Byte) (fv : Nat) (data : List Byte) : List Byte :=
  (cmacAes key (natBytes 2 (bits r 184 169) ++ natBytes 4 fv ++ data)).take (bits r 142 138)

/-- A message counts toward the limits of its context (R299, R304): none when a hard limit is reached. -/
def countUse (c : Nat) (s : State) : Option State :=
  let x := getCtx c s
  let r := x.record
  let msgs := x.msgs + 1
  let used := x.used + 6 + bits r 156 146
  if msgs > bits r 137 106 ∨ used > bits r 105 66 then none
  else
    let soft := !x.softSent && (softReached r msgs (bits r 137 106) || softReached r used (bits r 105 66))
    let s1 := setCtx c { x with msgs := msgs, used := used, softSent := x.softSent || soft } s
    some (if soft then raiseEv .rekey c (natBytes 1 0 ++ natBytes 8 (if softReached r msgs (bits r 137 106) then msgs else used)) s1 else s1)

/-- A message of a context at a hard limit (R304). -/
def limitDrop (c : Nat) (s : State) : State := raiseEv .keyLimit c [] (bump .bodUsageExhausted c s)

/-- CAN authentication on transmit (R300). -/
def canTx (c : Nat) (it : BodItem) (s : State) : State :=
  let r := (getCtx c s).record
  let m := canOfPseudo it.bytes
  let n := bits r 156 146
  if numAt it.bytes 12 2 ≠ n then bump .bodCanLen c s
  else if it.frame.ek ≠ .can ∨ !(fmtMatches (bits r 158 157) m.format) then bump .bodCanFormat c s
  else
    match fetchKey (bits r 239 234) (some (bits r 233 202)) .bodkin (ctxWorld r) .cipher s with
    | (.error e, t) => keyDrop c e t
    | (.ok k, t) =>
      match countUse c t with
      | none => limitDrop c t
      | some u =>
        let fv := match it.frame.verdict.job with
          | some j => j.fv
          | none => 0
        let data := m.data ++ natBytes (bits r 145 143) fv ++ canMac r (canKey r k.key) fv m.data
        let padded := data ++ List.replicate (authPadded r - data.length) 0
        toPipe it.lane { frame := it.frame, bytes := authMessage it.bytes padded } (bump .bodCanSigned c u)

/-- The freshness value of a received message (R301). -/
def reconstructFv (tfvLen last tfv : Nat) : Nat :=
  if tfvLen = 0 then last + 1
  else
    let v := last / 2 ^ (8 * tfvLen) * 2 ^ (8 * tfvLen) + tfv
    if v ≤ last then v + 2 ^ (8 * tfvLen) else v

/-- CAN authentication on receive (R301). -/
def canRx (c : Nat) (it : BodItem) (s : State) : State :=
  let r := (getCtx c s).record
  let m := canOfPseudo it.bytes
  let n := bits r 156 146
  let tl := bits r 145 143
  if numAt it.bytes 12 2 ≠ authPadded r ∨ (m.data.drop (authLen r)).any (fun x => x != 0) ∨ it.frame.ek ≠ .can
      ∨ !(fmtMatches (bits r 158 157) m.format) then bump .bodCanLen c s
  else
    match fetchKey (bits r 239 234) (some (bits r 233 202)) .bodkin (ctxWorld r) .cipher s with
    | (.error e, t) => keyDrop c e t
    | (.ok k, t) =>
      match countUse c t with
      | none => limitDrop c t
      | some u =>
        let last := (mapGet ({} : Fresh) s.seam.fresh (bits r 168 159)).last
        let fv := reconstructFv tl last (beNat ((m.data.drop n).take tl))
        let data := m.data.take n
        let good := decide (fv < 2 ^ 32) && decide (canMac r (canKey r k.key) fv data = (m.data.drop (n + tl)).take (bits r 142 138))
        toPipe it.lane { frame := it.frame, bytes := authMessage it.bytes data, verified := good, fv := some fv, fresh := bits r 168 159 } (bump .bodCanChecked c u)

/-- BODKIN_PIPELINE_ENTER: the oldest packet of the lanes is processed by its context (R286, R303). A packet whose context is not of the type that its direction needs is dropped (log entry 21). -/
def pipelineEnter (s : State) : State :=
  match s.bod.items with
  | [] => s
  | it :: rest =>
    let s1 := { s with bod := { s.bod with items := rest } }
    match it.frame.verdict.job with
    | none => s1
    | some j =>
      let t := bits (getCtx j.ctx s1).record 255 254
      if s.bod.mode ≠ .service then bump .bodModeDrop 0 s1
      else if t = 3 then (if j.dir then canRx j.ctx it s1 else canTx j.ctx it s1)
      else if t = 1 ∧ !j.dir ∧ it.frame.ek = .ethernet then macsecTx j.ctx it s1
      else if t = 2 ∧ j.dir ∧ it.frame.ek = .ethernet then macsecRx j.ctx it s1
      else s1

/-- A packet that the Bodkin has finished goes straight to the egress queue that its descriptor names (R287): its verdict stands, and only its admission at port 29 is to come. -/
def enterDirect (o : BodOut) (outs : List Nat) (s : State) : State :=
  let v := o.frame.verdict
  let f : Frame := { ident := s.fab.nextIdent, entry := 29, keyPort := o.frame.keyPort, bytes := o.bytes, ended := true, whole := true, ek := o.frame.ek,
                     epoch := o.frame.epoch, arrived := o.frame.arrived, stage := .ready,
                     verdict := { ports := outs, cls := v.cls, yellow := v.yellow, route := v.route, stream := v.stream, leaf := v.leaf, worker := v.worker } }
  settleBytes f.ident (setFab { s.fab with frames := s.fab.frames ++ [f], nextIdent := s.fab.nextIdent + 1 } s)

/-- The oldest packet of a pipeline leaves it for the fabric at port 29; the key schedule is cleared (R149, R287, R293). -/
def leavePipe (p : Nat) (s : State) : State :=
  match mapGet [] s.bod.pipes p with
  | [] => s
  | o :: rest =>
    let s1 := { s with bod := { s.bod with pipes := mapSet [] s.bod.pipes p rest, fetched := none } }
    match o.frame.verdict.job with
    | none => s1
    | some j =>
      if !j.dir then enterDirect o j.outs s1
      else enterWhole 29 o.frame.keyPort o.frame.ek (some { viaBodkin := true, verified := o.verified, fv := o.fv, fresh := o.fresh }) o.frame.epoch o.frame.arrived o.bytes s1

/-- Whether a message on request is longer than 8,192 bytes (R302). -/
def msgTooLong (m : List Byte) : Bool := decide (m.length > 8192)

/-- HMAC on request (R302): key 0-63 a slot, 255 the identity attestation key. -/
def hmacOp (key len : Nat) (msg : List Byte) (m : Master) (w : World) (s : State) : CmdResult :=
  if msgTooLong msg ∨ (len ≠ 16 ∧ len ≠ 32) then failed .lenRange s
  else if key = 255 then (if rootAlive 0 s ∧ lcState s ≠ 0 then done ((hmacSha256 (attestKey s) msg).take len) s else failed .notInState s)
  else if key ≥ 64 then failed .denied s
  else
    match fetchKey key none m w .hmac s with
    | (.error e, t) => failed e t
    | (.ok k, t) => done ((hmacSha256 k.key msg).take len) t

/-- CMAC on request (R302). -/
def cmacOp (slot tag : Nat) (msg : List Byte) (m : Master) (w : World) (s : State) : CmdResult :=
  if msgTooLong msg ∨ tag < 4 ∨ tag > 16 then failed .lenRange s
  else if slot ≥ 64 then failed .denied s
  else
    match fetchKey slot none m w .cipher s with
    | (.error e, t) => failed e t
    | (.ok k, t) => done ((cmacAes k.key msg).take tag) t

/-- The next INVOCATION of a slot (R305). -/
def invocation (slot : Nat) (s : State) : Nat := mapGet 1 s.bod.invocation slot

/-- GCM seal on request (R302, R305): IV, ciphertext and tag. -/
def sealOp (slot tag : Nat) (aad text : List Byte) (m : Master) (w : World) (s : State) : CmdResult :=
  if msgTooLong (aad ++ text) ∨ tag < 4 ∨ tag > 16 then failed .lenRange s
  else if slot ≥ 64 then failed .denied s
  else
    let inv := invocation slot s
    match fetchKey slot none m w .cipher s with
    | (.error e, t) => failed e t
    | (.ok k, t) =>
      if inv = 2 ^ 32 - 1 ∨ s.boot.count = 2 ^ 32 - 1 then failed .pnExhausted t
      else
        let iv := natBytes 4 slot ++ natBytes 4 s.boot.count ++ natBytes 4 inv
        let ct := gcmText k.key iv text
        done (iv ++ ct ++ (gcmTag k.key iv aad ct).take tag) { t with bod := { t.bod with invocation := mapSet 1 t.bod.invocation slot (inv + 1) } }

/-- GCM open on request (R302): the plaintext, or DENIED when the tag fails. -/
def openOp (slot tag : Nat) (iv aad text t_ : List Byte) (m : Master) (w : World) (s : State) : CmdResult :=
  if msgTooLong (aad ++ text) ∨ tag < 4 ∨ tag > 16 ∨ t_.length ≠ tag ∨ iv.length ≠ 12 then failed .lenRange s
  else if slot ≥ 64 then failed .denied s
  else
    match fetchKey slot none m w .cipher s with
    | (.error e, t) => failed e t
    | (.ok k, t) => if (gcmTag k.key iv aad text).take tag = t_ then done (gcmText k.key iv text) t else failed .denied t

/-- A request of the Keeper is computed; its outcome stands for the Keeper to take (R302). -/
def computeFor (q : CryptoReq) (s : State) : State :=
  let r := match q with
    | .hmac k n m => hmacOp k n m .keeper .trusted s
    | .cmac k n m => cmacOp k n m .keeper .trusted s
    | .gcmSeal k n a x => sealOp k n a x .keeper .trusted s
    | .gcmOpen k n iv a x t => openOp k n iv a x t .keeper .trusted s
  { r.st with bod := { r.st.bod with reply := some (r.status, r.reply) } }

/-- The Keeper's requests in order, while pipeline 0 has room (R286, R302). -/
def serveAsked (s : State) : State :=
  if inFlight 0 s ≥ 64 ∨ !(domainRuns 7 s) then s else forEach s.bod.asked computeFor { s with bod := { s.bod with asked := [] } }

/-- KEEPER_CRYPTO_REQUEST: a request of the Keeper through port 27 is computed in pipeline 0; while that holds 64 packets it waits (R286, R302). -/
def keeperCrypto (q : CryptoReq) (s : State) : State :=
  if !(domainRuns 7 s) then s else serveAsked { s with bod := { s.bod with asked := s.bod.asked ++ [q] } }

/-- BODKIN_PIPELINE_EXIT: a packet leaves its pipeline, and requests that waited for room are computed (R287, R302). -/
def pipelineExit (p : Nat) (s : State) : State := serveAsked (leavePipe p s)

/-- KEY_FETCH: the Thimble checks a use and delivers the key in shared form to the key schedule (R266, R269). -/
def keyFetch (slot : Nat) (gen : Nat) (m : Master) (w : World) (u : KeyUse) (s : State) : State :=
  match fetchKey slot (some gen) m w u s with
  | (.error _, t) => { t with bod := { t.bod with fetched := none } }
  | (.ok k, t) => { t with bod := { t.bod with fetched := some k } }

/-- Whether a MACsec context record breaks R290. -/
def macsecBad (r : BitVec 256) : Bool :=
  let tx := decide (bits r 255 254 = 1)
  decide (bits r 125 0 ≠ 0) || decide (bits r 239 235 > 26) || decide (bits r 232 231 = 3)
  || (if tx then
        (r.getLsbD 228 && r.getLsbD 229) || (r.getLsbD 227 && (r.getLsbD 229 || r.getLsbD 228)) || decide (bits r 224 190 ≠ 0)
      else
        decide (bits r 230 225 ≠ 0) || decide (bits r 224 223 = 3) || (suiteXpn r && decide (bits r 221 190 > 2 ^ 30)))

/-- Whether a CAN authentication context record breaks R290, R298 or R301. -/
def canCtxBad (r : BitVec 256) (s : State) : Bool :=
  let fmt := bits r 158 157
  let tl := bits r 145 143
  decide (bits r 65 0 ≠ 0) || r.getLsbD 251 || decide (fmt = 3) || decide (tl > 4) || decide (bits r 142 138 < 4) || decide (bits r 142 138 > 16)
  || decide (bits r 137 106 = 0) || decide (bits r 105 66 = 0)
  || (fmt == 0 && decide (authLen r > 8)) || (fmt == 1 && decide (authLen r > 64)) || (fmt == 2 && (decide (authLen r > 2048) || decide (authLen r = 0)))
  || (decide (1 ≤ tl) && decide (tl ≤ 3) && decide ((mapGet ({} : Fresh) s.seam.fresh (bits r 168 159)).window > 2 ^ (8 * tl) - 1))

/-- Whether a context record breaks R290. -/
def ctxBad (r : BitVec 256) (s : State) : Bool :=
  decide (bits r 247 240 ≠ 0) ||
  (match bits r 255 254 with
   | 0 => decide (bits r 239 0 ≠ 0) || r.getLsbD 251
   | 3 => canCtxBad r s
   | _ => macsecBad r)

/-- A CAN authentication context whose counts stand at a soft limit after a write reports it once, in SERVICE (R303, R304). -/
def softCan (c : Nat) (s : State) : State :=
  let x := getCtx c s
  let r := x.record
  let m := softReached r x.msgs (bits r 137 106)
  if s.bod.mode = .service ∧ !x.softSent ∧ (m ∨ softReached r x.used (bits r 105 66)) then
    raiseEv .rekey c (natBytes 1 0 ++ natBytes 8 (if m then x.msgs else x.used)) (setCtx c { x with softSent := true } s)
  else s

/-- A transmit SA whose PN stands at its soft limit after a write reports it once, in SERVICE (R303, R304): the PN reached is the one before NEXT_PN. -/
def softSa (c an : Nat) (s : State) : State :=
  let r := (getCtx c s).record
  let sa := getSa (4 * c + an) s
  let pn := bits sa 71 8 - 1
  if s.bod.mode = .service ∧ bits r 255 254 = 1 ∧ sa.getLsbD 255 ∧ !(sa.getLsbD 0) ∧ softReached r pn (lastPn r) then
    raiseEv .rekey c (natBytes 1 an ++ natBytes 8 pn) (setSa (4 * c + an) (sa ||| 1) s)
  else s

/-- CTX_WRITE (R290, R291, R293): WORLD is that of the request; a CAN_AUTH write that changes SLOT, KEY_EPOCH or DIR, or that follows a new generation of its slot, is a rekey. -/
def ctxWrite (c : Nat) (r : BitVec 256) (v : Via) (s : State) : CmdResult :=
  let w := viaWorld v
  let old := getCtx c s
  if c ≥ 2048 ∨ ctxBad r s then failed .denied s
  else
    let r1 := putField r 250 250 (if w = .openW then 1 else 0)
    if bits r 255 254 ≠ 3 then done [] (forUpTo 4 (fun an t => softSa c an t) (setCtx c { old with record := r1 } s))
    else
      let slot := bits r 239 234
      if !(mayUse slot .bodkin w .cipher s) then failed .denied (bump .thmAccessDenied slot s)
      else
        let o := old.record
        let rekey := decide (bits o 255 254 ≠ 3) || decide (bits o 239 234 ≠ slot) || decide (bits o 201 185 ≠ bits r 201 185) || decide (bits o 233 202 ≠ slotGen slot s)
        let r2 := putField r1 233 202 (slotGen slot s)
        if rekey then
          let f := bits r 168 159
          let e := mapGet ({} : Fresh) s.seam.fresh f
          let s1 := { s with seam := { s.seam with fresh := mapSet {} s.seam.fresh f { e with tx := 0, last := 0 } } }
          done [] (setCtx c { record := r2, dropEventAt := old.dropEventAt } s1)
        else done [] (softCan c (setCtx c { old with record := r2 } s))

/-- Whether an SA entry breaks R295 for its context. -/
def saBad (r e : BitVec 256) : Bool :=
  let xpn := suiteXpn r
  decide (bits e 7 2 ≠ 0) || (r.getLsbD 251 && decide (bits e 216 200 ≠ 0)) || (!xpn && decide (bits e 199 72 ≠ 0))
  || decide (bits e 71 8 = 0) || (!xpn && decide (bits e 71 8 ≥ 2 ^ 32))

/-- Whether a slot's TYPE fits a PASS mode suite (R292). -/
def passTypeOk (r : BitVec 256) (slot : Nat) (s : State) : Bool :=
  !(r.getLsbD 251) || decide (bits (slotAttr slot s) 126 125 = (if suiteLen r = 32 then 1 else 0))

/-- SA_WRITE (R291-R293, R295): a write under an unchanged key may not lower NEXT_PN of a transmit SA, and keeps EXHAUSTED and SOFT_SENT; any other write is a rekey that clears them (R304); a PN written at its soft limit is reported. -/
def saWrite (c an : Nat) (e : BitVec 256) (s : State) : CmdResult :=
  let r := (getCtx c s).record
  let ty := bits r 255 254
  let slot := bits e 254 249
  if c ≥ 2048 ∨ an ≥ 4 ∨ (ty ≠ 1 ∧ ty ≠ 2) ∨ saBad r e ∨ !(passTypeOk r slot s) then failed .denied s
  else if !(mayUse slot .bodkin (ctxWorld r) .cipher s) then failed .denied (bump .thmAccessDenied slot s)
  else
    let i := 4 * c + an
    let o := getSa i s
    let same := decide (bits o 254 249 = slot) && decide (bits o 216 201 = bits e 216 201) && decide (bits o 199 72 = bits e 199 72) && decide (bits o 248 217 = slotGen slot s)
    if same ∧ ty = 1 ∧ bits e 71 8 < bits o 71 8 then failed .denied s
    else
      let e1 := putField e 248 217 (slotGen slot s)
      done [] (softSa c an (setSa i (putField e1 1 0 (if same then bits o 1 0 else 0)) s))

/-- MODE_SET (R303): TEST from SERVICE only, SERVICE from TEST. -/
def bodModeSet (m : Nat) (s : State) : CmdResult :=
  if m = 2 then (if s.bod.mode = .service then done [] { s with bod := { s.bod with mode := .test } } else failed .notInState s)
  else if m = 1 then
    (if s.bod.mode = .service ∨ s.bod.mode = .test then done [] { s with bod := { s.bod with mode := .service } } else failed .notInState s)
  else failed .denied s

end Sys2Proof.Machine
end

