-- ==== Sys2Proof/Machine/EpochOps.lean ====
section
/-! DEFINITION. Machine/EpochOps.lean: epoch swaps as every maker of one performs them: the table change, zone swaps of the Keeper (R145-R147, R162, R176, R184) and the freeing of a draining epoch (R147, R177). -/

namespace Sys2Proof.Machine

/-- Replace the Pattern. -/
def setPat (p : Pattern) (s : State) : State := { s with pat := p }

/-- A zone map with the Keeper's decisions in the entries under its control (R162). -/
def keeperMap (z : SMap (Option Nat)) (m : SMap Nat) : SMap Nat :=
  z.foldl (fun acc e => match e.2 with
    | some v => mapSet 0 acc e.1 v
    | none => acc) m

/-- The slots that an epoch leaves unkeyed drop their buffered messages, counted (R176). -/
def flushSlots (t : EpochTables) (s : State) : State :=
  forEach s.edge.slotBuf (fun e x =>
    if (mapGet ({} : SlotDef) t.slots e.1).key = 0 ∧ e.2.isSome then
      bump .edgeSlotFlush (e.1 / 64) { x with edge := { x.edge with slotBuf := mapSet none x.edge.slotBuf e.1 none } }
    else x) s

/-- The consumer of an event key by the key's number (R123). -/
def consumerOf (i : Nat) : Nat :=
  if i < 27648 then i / 1024 else if i < 27776 then 27 + (i - 27648) / 16 else if i < 29824 then 35 + (i - 27776) / 64 else 67 + (i - 29824) / 16

/-- LIN channels take the new epoch's tables at the end of the running entry (R184). -/
def linSwap (s : State) : State := forUpTo 8 (fun ch t => setLin ch { getLin ch t with swapped := true } t) s

/-- An epoch with tables becomes current and the one before it starts to drain (R146, R147); its keys become active, its LIN tables, slots and instances apply (R122, R176, R184, R188). -/
def installEpoch (t : EpochTables) (s : State) : State :=
  let s1 := setPat { s.pat with current := some t, draining := s.pat.current, nextNumber := (t.number + 1) % 256 } s
  let s2 := linSwap (flushSlots t s1)
  let s3 := forEach (epochKeys t) (fun k x => activateKey (consumerOf k.1) k.1 k.2 x) s2
  forEach t.isos (fun e x => isoClaimOwn e.1 e.2 x) s3

/-- The references to an epoch (R147, R177): lookups in progress, frames in the queues of ports 28-30, in the gateway or the Bodkin, and held fragments. -/
def epochRefs (n : Nat) (s : State) : Nat :=
  let inQueues (f : Frame) : Bool := f.stage == .admitted && f.queues.any (fun q => decide (28 ≤ q.1 / 8) && decide (q.1 / 8 ≤ 30))
  (s.fab.frames.filter (fun f => f.epoch == some n && ((f.stage != .admitted && f.stage != .gone) || inQueues f))).length
    + (s.edge.inbox.filter (fun i => i.epoch == some n)).length
    + (s.bod.items.filter (fun i => i.frame.epoch == some n)).length
    + ((s.bod.pipes.flatMap (fun e => e.2)).filter (fun i => i.frame.epoch == some n)).length
    + ((s.pat.frags.filter (fun e => e.epoch == n)).flatMap (fun e => e.held)).length

/-- EPOCH_FREE: a draining epoch without references is freed with its nodes and tables (R147). -/
def freeEpoch (s : State) : State :=
  match s.pat.draining with
  | none => s
  | some t => if epochRefs t.number s = 0 then raiseEv .epochFreed t.number [] (setPat { s.pat with draining := none } s) else s

/-- A zone swap: the next epoch takes over every table of the current one, with the Keeper's zones in the map (R162). -/
def zoneSwapNow (t : EpochTables) (s : State) : State :=
  let t' := { t with number := s.pat.nextNumber, zoneMap := keeperMap s.seam.keeperZones t.zoneMap, ownTree := false }
  setPat { s.pat with current := some t', draining := some t, nextNumber := (s.pat.nextNumber + 1) % 256 }
    { s with seam := { s.seam with swapWaits := false } }

/-- The Keeper applies its zone decisions by a zone swap, or waits 1 ms while an epoch drains; an epoch without references is freed first (R160, R162, R222, R240). -/
def applyZones (s : State) : State :=
  match s.pat.current with
  | none => s
  | some t =>
    if keeperMap s.seam.keeperZones t.zoneMap = t.zoneMap then { s with seam := { s.seam with swapWaits := false } }
    else
      let s1 := freeEpoch s
      if s1.pat.draining.isSome then { s1 with seam := { s1.seam with swapWaits := true, swapAt := s1.cyc + msCyc } }
      else zoneSwapNow t s1

/-- The Keeper decides the zone of a zone-map entry. -/
def decideZone (entry zone : Nat) (s : State) : State :=
  { s with seam := { s.seam with keeperZones := mapSet none s.seam.keeperZones entry (some zone) } }

/-- ZONE_SWAP_RETRY: a zone swap refused with STALE_EPOCH is tried again after 1 ms (R162). -/
def retryZones (s : State) : State := if s.seam.swapWaits ∧ s.cyc ≥ s.seam.swapAt then applyZones s else s

end Sys2Proof.Machine
end

