-- ==== Sys2Proof/Machine/EpochBuild.lean ====
section
/-! DEFINITION. Machine/EpochBuild.lean: the pending epoch that host software builds (R328): its opening, its node loads, the checks made before it becomes current (R142, R168, R171, R184, R288) and the swap (R146). -/

namespace Sys2Proof.Machine

/-- The pending epoch as the first write after a swap or a discard opens it: a copy of the current epoch's tables other than nodes and roots, or reset tables when no epoch is current (R328). -/
def openedPending (s : State) : EpochTables :=
  match s.pat.current with
  | some t => { t with nodes := [], roots := [], ownTree := false }
  | none => {}

/-- The pending epoch as a write finds it. -/
def pendingTables (s : State) : EpochTables := s.pat.pending.getD (openedPending s)

/-- Write into the pending epoch, opening it where it is not open. -/
def writePending (u : EpochTables → EpochTables) (s : State) : State := setPat { s.pat with pending := some (u (pendingTables s)) } s

/-- The nodes that live epochs own (R142, R147, R162). -/
def ownedNodes (s : State) : List Nat :=
  (match s.pat.current with | some t => t.nodes | none => []) ++ (match s.pat.draining with | some t => t.nodes | none => [])

/-- The node images of a load, 64 bytes each, into consecutive nodes of the Pattern's memory (R142). -/
def loadNodes (first n : Nat) (bs : List Byte) (s : State) : State :=
  let mem := (List.range n).foldl (fun m i => mapSet 0 m (first + i) (BitVec.ofNat 512 (numAt bs (64 * i) 64))) s.pat.nodeMem
  let idx := (List.range n).map (fun i => first + i)
  writePending (fun t => { t with nodes := t.nodes.filter (fun i => !(idx.contains i)) ++ idx, ownTree := true }) (setPat { s.pat with nodeMem := mem } s)

/-- Whether bytes `a` up to `b` of a node image are all 0. -/
def nodeZero (n : BitVec 512) (a b : Nat) : Bool := (List.range (b - a)).all (fun i => nodeByte n (a + i) == 0)

/-- A list of numbers rises strictly. -/
def risesStrictly : List Nat → Bool
  | a :: b :: t => decide (a < b) && risesStrictly (b :: t)
  | _ => true

/-- Whether a cut node's reserved fields, unused entries and values break R139. -/
def cutBad (n : BitVec 512) : Bool :=
  let c := nodeByte n 3 % 8
  let mask := nodeNum n 4 4
  nodeByte n 0 % 16 ≠ 0 || nodeByte n 2 / 8 ≠ 0
  || (match nodeByte n 0 / 16 % 4 with
      | 0 => !(nodeZero n (8 + 2 * 2 ^ c) 64)
      | 1 => !(nodeZero n (8 + 4 * c) 36) || !(nodeZero n (36 + 2 * (c + 1)) 64)
             || !(risesStrictly ((List.range c).map (fun i => nodeNum n (8 + 4 * i) 4)))
      | _ =>
        let vs := (List.range c).map (fun i => nodeNum n (8 + 4 * i) 4)
        !(nodeZero n (8 + 4 * c) 32) || !(nodeZero n (32 + 2 * c) 44) || !(nodeZero n 46 64) || vs.any (fun v => v &&& mask != v) || decide (vs.eraseDups.length ≠ vs.length))

/-- Whether a leaf's fields or reserved bits break R140. -/
def leafBad (n : BitVec 512) : Bool :=
  let verdict := nodeByte n 1 / 32
  let mode := nodeByte n 2 / 8 % 4
  let mask := nodeNum n 4 4
  nodeByte n 0 % 64 ≠ 0 || nodeByte n 1 % 8 ≠ 0 || nodeByte n 2 % 8 ≠ 0 || nodeByte n 3 ≠ 0
  || nodeByte n 8 / 16 ≠ 0 || nodeByte n 12 / 32 ≠ 0 || nodeByte n 14 / 64 ≠ 0 || nodeByte n 15 % 4 ≠ 0 || nodeByte n 16 % 4 ≠ 0 || nodeByte n 17 ≠ 0
  || nodeByte n 20 / 8 % 16 ≠ 0 || nodeByte n 21 ≠ 0 || !(nodeZero n 26 64)
  || (if mode = 1 ∨ verdict = 2 ∨ verdict = 3 ∨ verdict = 5 then decide (mask ≠ 0) else decide (mask = 0) && !(verdict = 4 && nodeByte n 20 / 128 = 1))
  || (verdict = 5 && nodeByte n 20 % 8 = 0)

/-- Whether a node breaks R139 or R140, for an epoch that owns `own`. -/
def nodeBad (own : List Nat) (n : BitVec 512) : Bool :=
  nodeRefused n || (if nodeByte n 0 / 64 = 1 then leafBad n else cutBad n || (nodeChildren n).any (fun c => !(own.contains c)))

/-- A route chain from an entry as R171 follows it: the entries in order, at most 17, so that a chain that does not end shows. -/
def chainFrom (t : EpochTables) (i : Nat) : List (Nat × BitVec 128) := routeChain t 17 i

/-- The channels that a chain's FORWARD entries name. -/
def chainChannels (c : List (Nat × BitVec 128)) : List Nat :=
  (c.filter (fun e => routeKind e.2 == 0)).map (fun e => bits e.2 110 105)

/-- Whether a route entry uses an encoding that R170 refuses or a reserved bit of its KIND. -/
def routeBad (r : BitVec 128) : Bool :=
  match routeKind r with
  | 0 => decide (bits r 110 105 ≥ 40) || decide (bits r 102 101 ≥ 2) || decide (bits r 92 61 ≠ 0) || decide (bits r 31 29 ≠ 0)
  | 1 => decide (bits r 97 0 ≠ 0)
  | 2 => r.getLsbD 124 || decide (bits r 97 92 = 0) || decide (bits r 91 0 ≠ 0)
  | 3 => r.getLsbD 124 || decide (bits r 91 61 ≠ 0) || decide (bits r 31 29 ≠ 0)
  | _ => true

/-- Whether a FORWARD or ENCAP entry of a chain names what the epoch has (R171). -/
def chainEntryOk (t : EpochTables) (encapToo : Bool) (r : BitVec 128) : Bool :=
  match routeKind r with
  | 0 => let ch := bits r 110 105
         decide (ch < 32) || decide ((linFrame t (ch - 32) (bits r 5 0)).role = 1)
  | 1 => encapToo && decide (mapGet ({} : Container) t.containers (bits r 110 103) ≠ {})
  | _ => false

/-- A valid chain of FORWARD entries, and ENCAP entries when it starts at a leaf (R171). -/
def chainOk (t : EpochTables) (encapToo : Bool) (i : Nat) : Bool :=
  let c := chainFrom t i
  decide (c.length ≤ 16) && decide ((c.map (·.1)).eraseDups.length = c.length) && decide ((chainChannels c).eraseDups.length = (chainChannels c).length)
  && c.all (fun e => chainEntryOk t encapToo e.2)

/-- A valid DECAP entry: its list holds MATCH entries within the table, each with a valid chain of FORWARD entries (R171). -/
def decapOk (t : EpochTables) (i : Nat) : Bool :=
  let r := mapGet 0 t.routes i
  let first := bits r 110 98
  let n := bits r 97 92
  routeKind r == 2 && decide (first + n ≤ 8192)
  && (List.range n).all (fun k => let m := mapGet 0 t.routes (first + k); routeKind m == 3 && chainOk t false (bits m 110 98))

/-- Whether a leaf reached under a KEY_TYPE meets R168 and R288. -/
def leafOk (t : EpochTables) (kt : Nat) (n : BitVec 512) (s : State) : Bool :=
  let verdict := nodeByte n 1 / 32
  let rx := nodeByte n 20 / 128 == 1
  let mask := nodeNum n 4 4
  let ctx := nodeNum n 18 2
  let r := (getCtx ctx s).record
  let ty := bits r 255 254
  let markOk := !(decide (nodeByte n 1 / 8 % 2 = 1)) || (decide (kt ≤ 2) && verdict != 4)
  let edgeOk := decide ((mask >>> 28) % 2 = 0)
    || (if kt = 0 then decapOk t (nodeNum n 12 2 % 8192) else decide (kt ≥ 3) && chainOk t true (nodeNum n 12 2 % 8192))
  let bodOk := verdict != 4
    || (decide (ctx < 2048)
        && (if rx then decide (mask = 0) && (ty == 2 || ty == 3)
            else (List.range 32).any (fun p => decide (mask = 2 ^ p) && ((ty == 1 && decide (bits r 239 235 = p)) || (ty == 3 && p == 28)))))
  markOk && edgeOk && bodOk

/-- Whether a node that a tree of a KEY_TYPE reaches breaks R142, R168 or R288. -/
def treeNodeBad (t : EpochTables) (kt : Nat) (s : State) (i : Nat) : Bool :=
  let img : BitVec 512 := mapGet 0 s.pat.nodeMem i
  !(t.nodes.contains i) || nodeBad t.nodes img || (nodeByte img 0 / 64 == 1 && !(leafOk t kt img s))

/-- The first node, level by level, at which the trees of a KEY_TYPE fail the checks of R142, R168 and R288, with the visits that are left: a bad one, or one that a path of too many visits reaches. -/
def treeFault (t : EpochTables) (kt : Nat) (s : State) : Nat → List Nat → Option Nat
  | 0, level => level.head?
  | fuel + 1, level =>
    (level.find? (treeNodeBad t kt s)).or
      (treeFault t kt s fuel ((level.flatMap (fun i => nodeChildren (mapGet 0 s.pat.nodeMem i))).eraseDups))

/-- The roots of a KEY_TYPE, over the zones (R138). -/
def rootsOf (t : EpochTables) (kt : Nat) : List Nat := ((List.range 16).filterMap (fun z => mapGet none t.roots (z * 5 + kt))).eraseDups

/-- Whether a schedule entry of a LIN channel is too short for its frame (R184). -/
def linEntryShort (t : EpochTables) (ch : Nat) (x : BitVec 32) (s : State) : Bool :=
  let len := (linFrame t ch (linEntryFrame x)).len
  let bitsMax10 := 14 * (34 + 10 * ((if bits x 23 16 = 0 then len else 8) + 1))
  decide (bits x 15 0 * bits (getLin ch s).record 61 47 < bitsMax10 * 1000)

/-- The LIN channel schedule table, channel x 4 + table, whose entries R184 refuses first. -/
def linTableFault (t : EpochTables) (s : State) : Option Nat :=
  (t.linTables.find? (fun e => e.2.any (fun x => linEntryShort t (e.1 / 4) x s))).map (·.1)

/-- The LIN frame table entry that R259 refuses first: frame 60 or 61 marked enhanced, or frame 62 or 63 with a role other than ignore. -/
def linFrameFault (t : EpochTables) : Option Nat :=
  (t.linFrames.find? (fun e => (decide (e.1 % 64 = 60 ∨ e.1 % 64 = 61) && e.2.enhanced) || (decide (e.1 % 64 ≥ 62) && decide (e.2.role ≠ 0)))).map (·.1)

/-- The matrix entry and the route entry that use an undefined encoding first (R168). -/
def matrixFault (t : EpochTables) : Option Nat := (t.matrix.find? (fun e => decide (bits e.2 7 6 = 3) || decide (bits e.2 3 0 ≠ 0))).map (·.1)

/-- See `matrixFault`. -/
def routeFault (t : EpochTables) : Option Nat := (t.routes.find? (fun e => routeBad e.2)).map (·.1)

/-- The stitch keys that would be active, with a set of epoch tables in place of the current ones, are at most 2,048 (R121). -/
def stitchRoom (t : EpochTables) (s : State) : Bool :=
  !(tracksTooMany (epochKeys t) s)

/-- The first node or leaf, matrix entry, route entry, LIN schedule table or LIN frame entry at which a pending epoch fails the Keeper's checks (R142, R168, R184, R259, R288), with its kind: 0 to 4. A tree taken over is not checked again (R328). -/
def epochFault (t : EpochTables) (s : State) : Option (Nat × Nat) :=
  let tree := if t.ownTree then (List.range 5).findSome? (fun kt => treeFault t kt s 24 (rootsOf t kt)) else none
  (tree.map (fun i => (0, i))).or ((matrixFault t).map (fun i => (1, i))) |>.or ((routeFault t).map (fun i => (2, i)))
    |>.or ((linTableFault t s).map (fun i => (3, i))) |>.or ((linFrameFault t).map (fun i => (4, i)))

/-- Every check that the Keeper makes over a pending epoch before it becomes current (R121, R142, R168, R184, R259, R288). -/
def epochChecks (t : EpochTables) (s : State) : Bool := (epochFault t s).isNone && stitchRoom t s

/-- The first failure is named to the integrator: the reply of the swap has no field for it, so an event of its block carries the kind and, as its instance, the node, leaf or entry (log entry 68). -/
def nameFault (t : EpochTables) (s : State) : State :=
  match epochFault t s with
  | some x => raiseEv .epochRefused x.2 (natBytes 1 x.1) s
  | none => s

/-- The pending epoch as its swap makes it current: with the current tree where it has none of its own, with its number, and with the Keeper's zones (R162, R328). -/
def swapTables (number : Nat) (t : EpochTables) (s : State) : EpochTables :=
  let own := curTables s
  let t1 := if t.ownTree then t else { t with nodes := own.nodes, roots := own.roots }
  { t1 with number := number, zoneMap := keeperMap s.seam.keeperZones t1.zoneMap }

/-- Records of the image that hold a tree: NODE_LOAD and ROOT_SET (R328, R484). -/
def isTreeRec (r : ImageRec) : Bool := r.cls == 6 && (r.opcode == 1 || r.opcode == 2)

/-- The pending epoch becomes current, and its records those of the current epoch (R146, R484). -/
def swapIn (number : Nat) (t : EpochTables) (s : State) : State :=
  let b := s.boot
  let recs := if t.ownTree then b.pendingRecords else b.epochRecords.filter isTreeRec ++ b.pendingRecords
  let s1 := installEpoch (swapTables number t s) s
  setPat { s1.pat with pending := none } { s1 with boot := { s1.boot with epochRecords := recs, pendingRecords := [] } }

/-- A swap to a number, where the maker of the swap may name it (R142, R146, R328). A draining epoch whose last reference has gone is freed first (R160). -/
def swapTo (number : Nat) (mayName : Bool) (s0 : State) : CmdResult :=
  let s := freeEpoch s0
  if !mayName ∨ s.pat.draining.isSome then failed .staleEpoch s
  else
    match s.pat.pending with
    | none => failed .denied s
    | some t =>
      if !(epochChecks (swapTables number t s) s) then failed .denied (nameFault (swapTables number t s) s)
      else done (natBytes 1 number ++ natBytes 3 0) (swapIn number t s)

/-- EPOCH_SWAP (R146, R328): it names the next number. -/
def epochSwap (number : Nat) (s : State) : CmdResult := swapTo number (decide (number = s.pat.nextNumber)) s

/-- EPOCH_DISCARD (R328). -/
def epochDiscard (s : State) : State := setPat { s.pat with pending := none } { s with boot := { s.boot with pendingRecords := [] } }

/-- The nodes reachable from a set of nodes, level by level. -/
def reachable (s : State) : Nat → List Nat → List Nat
  | 0, level => level
  | fuel + 1, level => level ++ reachable s fuel ((level.flatMap (fun i => nodeChildren (mapGet 0 s.pat.nodeMem i))).eraseDups)

end Sys2Proof.Machine
end

