-- ==== Sys2Proof/Machine/BootBase.lean ====
section
/-! DEFINITION. Machine/BootBase.lean: firmware banks (R478-R480), the records of the active configuration, the configuration digest and image copies (R483-R487). -/

namespace Sys2Proof.Machine

/-- A firmware bank: 0 is A, 1 is B (R477). -/
def getBank (b : Nat) (s : State) : Bank := mapGet {} s.boot.banks b

/-- Replace a firmware bank. -/
def setBank (b : Nat) (x : Bank) (s : State) : State := { s with boot := { s.boot with banks := mapSet {} s.boot.banks b x } }

/-- Byte `i` of a bank: as written, else of the firmware it was delivered with (log entry 27), else 0. -/
def Bank.byte (x : Bank) (b i : Nat) : Byte :=
  match mapGet none x.cells i with
  | some v => v
  | none => if x.factory then Config.factoryByte b i else 0

/-- A run of bytes of a bank. -/
def Bank.read (x : Bank) (b off n : Nat) : List Byte := (List.range n).map (fun i => x.byte b (off + i))

/-- The header of a bank (R478). -/
def Bank.header (x : Bank) (b : Nat) : List Byte := x.read b 0 64

/-- BODY_LEN of a bank's header. -/
def Bank.bodyLen (x : Bank) (b : Nat) : Nat := numAt (x.header b) 12 4

/-- Header and body of a bank. -/
def Bank.signed (x : Bank) (b : Nat) : List Byte := x.read b 0 (64 + x.bodyLen b)

/-- A bank is valid: its header meets R478 and its CRC passes; the untouched firmware of delivery is (log entry 27). -/
def bankValid (b : Nat) (s : State) : Bool :=
  let x := getBank b s
  let h := x.header b
  let n := x.bodyLen b
  x.intact
  || (numAt h 0 1 == 1 && numAt h 1 1 == 0 && decide (numAt h 4 2 ≤ numAt h 2 2) && numAt h 6 2 == 0 && decide (4 ≤ n) && decide (n ≤ 2097056) && n % 4 == 0
      && numAt h 20 32 == 0 && numAt h 52 12 == 0 && decide (numAt h 16 4 = crcMsb 32 0x04C11DB7 0xFFFFFFFF (h.take 16 ++ x.read b 64 n) ^^^ 0xFFFFFFFF))

/-- FW_MEASUREMENT of a bank: SHA-256 over header and body (R479). -/
def bankMeasure (b : Nat) (s : State) : List Byte := sha256 ((getBank b s).signed b)

/-- The firmware key (R479). -/
def firmwareKey (s : State) : List Byte := kdf (rootValue 3 s) "THMFW" [] 32

/-- Whether the tag of a bank is checked (R479). -/
def tagChecked (s : State) : Bool := !(lcState s == 0 || lcState s == 4 || (lcState s == 1 && !(s.thm.programmed.getLsbD 3)))

/-- A bank is authentic (R479). -/
def bankAuthentic (b : Nat) (s : State) : Bool :=
  let x := getBank b s
  bankValid b s && (!(tagChecked s) || decide (x.read b (64 + x.bodyLen b) 32 = hmacSha256 (firmwareKey s) (x.signed b)))

/-- FW_VERSION of a bank, 0 when it is invalid (R330). -/
def bankVersion (b : Nat) (s : State) : Nat := if bankValid b s then numAt ((getBank b s).header b) 8 4 else 0

/-- SNAP_FORMAT of the running firmware; 0 in recovery, where boot ROM runs (R478, R488). -/
def snapFormat (s : State) : Nat := if s.boot.bank ≤ 1 then numAt ((getBank s.boot.bank s).header s.boot.bank) 2 2 else 0

/-- SNAP_READ_MIN of the running firmware. -/
def snapReadMin (s : State) : Nat := if s.boot.bank ≤ 1 then numAt ((getBank s.boot.bank s).header s.boot.bank) 4 2 else 0

/-- The bank that FW_WRITE writes: the inactive one, or in recovery the one not preferred (R327, R489). -/
def inactiveBank (s : State) : Nat := if s.boot.bank ≤ 1 then 1 - s.boot.bank else 1 - s.boot.preferred

/-- FW_WRITE: bytes of the inactive bank, which is unverified from then on. -/
def writeBank (off : Nat) (bs : List Byte) (s : State) : State :=
  let b := inactiveBank s
  let x := getBank b s
  let cells := (List.range bs.length).foldl (fun m i => mapSet none m (off + i) (some (bs.getD i 0))) x.cells
  setBank b { x with cells := cells, intact := false, verified := false } s

/-- The 8-byte header of an image record (R483). -/
def imageHead (r : ImageRec) : List Byte :=
  natBytes 1 r.cls ++ natBytes 2 r.opcode ++ natBytes 1 (if r.wakeFirst then 1 else 0) ++ natBytes 2 r.body.length ++ natBytes 2 0

/-- An image record as stored: its body padded to a multiple of 4 (R483). -/
def imageBytes (r : ImageRec) : List Byte := imageHead r ++ pad4 r.body

/-- Byte strings in unsigned order. -/
def bytesLe : List Byte → List Byte → Bool
  | [], _ => true
  | _ :: _, [] => false
  | a :: x, b :: y => if a = b then bytesLe x y else decide (a.toNat < b.toNat)

/-- Order of the digest: class, opcode, body (R487). -/
def imageLe (a b : ImageRec) : Bool :=
  if a.cls ≠ b.cls then decide (a.cls < b.cls) else if a.opcode ≠ b.opcode then decide (a.opcode < b.opcode) else bytesLe a.body b.body

/-- CONFIG_DIGEST of a list of records (R487). -/
def digestOf (rs : List ImageRec) : List Byte :=
  sha256 ((sortBy imageLe (rs.filter (fun r => decide (1 ≤ r.cls)))).flatMap (fun r => imageHead r ++ r.body))

/-- Runs of entries of at most 255 from a place on, up to a length. -/
def entryRuns : Nat → Nat → Nat → List (Nat × Nat)
  | 0, _, _ => []
  | fuel + 1, first, len => if first ≥ len then [] else (first, Nat.min 255 (len - first)) :: entryRuns fuel (first + 255) len

/-- The records of a port's active gate list (R484). -/
def gateRecords (p : Nat) (s : State) : List ImageRec :=
  let g := getGates p s
  if !g.live then []
  else
    let l := g.act
    (entryRuns 5 0 l.len).map (fun r =>
      { cls := 4, opcode := 1, wakeFirst := false,
        body := natBytes 1 p ++ natBytes 1 0 ++ natBytes 2 r.1 ++ natBytes 2 r.2 ++ natBytes 2 0
          ++ (List.range r.2).flatMap (fun i => natBytes 16 (mapGet 0 l.ents (r.1 + i)).toNat) })
    ++ [{ cls := 4, opcode := 2, wakeFirst := false,
          body := natBytes 1 p ++ natBytes 1 0 ++ natBytes 2 l.len ++ natBytes 4 l.cycle ++ natBytes 4 l.ext ++ natBytes 6 (l.base / 1000000000)
            ++ natBytes 4 (l.base % 1000000000) ++ natBytes 1 l.shut.toNat ++ natBytes 1 (if l.enable then 1 else 0) }]

/-- The record of a stream gate's active list (R484). -/
def sgateRecords (i : Nat) (s : State) : List ImageRec :=
  let g := getSGate i s
  if !g.live then []
  else
    let l := g.act
    [{ cls := 4, opcode := 7, wakeFirst := false,
       body := natBytes 1 i ++ natBytes 1 l.ents.length ++ natBytes 1 (if l.lockOption then 1 else 0) ++ natBytes 1 0 ++ natBytes 4 l.cycle ++ natBytes 4 l.ext
         ++ natBytes 6 (l.base / 1000000000) ++ natBytes 4 (l.base % 1000000000) ++ natBytes 2 0
         ++ l.ents.flatMap (fun e => natBytes 1 (if e.isOpen then 1 else 0) ++ natBytes 1 e.prio ++ natBytes 2 0 ++ natBytes 4 e.interval) }]

/-- The nodes that the CAN and LIN roots of the current epoch reach (R405). -/
def wakeNodes (s : State) : List Nat :=
  let t := curTables s
  reachable s 24 (rootsOf t 3 ++ rootsOf t 4)

/-- Whether a record belongs to the wake-first set (R405, R484). -/
def wakeFirstRec (nodes : List Nat) (cls opcode : Nat) (body : List Byte) : Bool :=
  match cls with
  | 6 => opcode == 2 || opcode == 3 || opcode == 4 || (opcode == 1 && nodes.any (fun n => decide (numAt body 0 2 ≤ n) && decide (n < numAt body 0 2 + numAt body 2 2)))
  | 7 => opcode == 1 || opcode == 2 || opcode == 3 || opcode == 5 || opcode == 6 || opcode == 7 || opcode == 8
  | _ => false

/-- Opcodes whose records name ranges that may overlap: they keep the order in which they were accepted (log entry 34). -/
def rangeRec (r : ImageRec) : Bool :=
  (r.cls == 6 && r.opcode == 1) || (r.cls == 7 && (r.opcode == 3 || r.opcode == 5 || r.opcode == 8)) || (r.cls == 8 && r.opcode == 7)

/-- The order of records in an image: by class and opcode, and by body but for ranges (log entry 34). -/
def recOrder (a b : ImageRec) : Bool :=
  if a.cls ≠ b.cls then decide (a.cls < b.cls) else if a.opcode ≠ b.opcode then decide (a.opcode < b.opcode) else rangeRec a || bytesLe a.body b.body

/-- The records of the active configuration, those of the wake-first set first (R405, R484). -/
def activeRecords (s : State) : List ImageRec :=
  let ports := (List.range 27).flatMap (fun p => gateRecords p s)
  let gates := (List.range 256).flatMap (fun i => sgateRecords i s)
  let nodes := wakeNodes s
  let rs := (sortBy recOrder (s.boot.records ++ s.boot.epochRecords ++ ports ++ gates)).map (fun r => { r with wakeFirst := wakeFirstRec nodes r.cls r.opcode r.body })
  rs.filter (fun r => r.wakeFirst) ++ rs.filter (fun r => !r.wakeFirst)

/-- CONFIG_DIGEST of the active configuration (R487). -/
def configDigest (s : State) : List Byte := digestOf (activeRecords s)

/-- The stored length of some records. -/
def recordBytes (rs : List ImageRec) : Nat := (rs.map (fun r => (imageBytes r).length)).foldl (· + ·) 0

/-- Whether records fit an image: the record area, and the leading wake-first set (R483, R485). -/
def imageFits (rs : List ImageRec) : Bool := decide (recordBytes rs ≤ 1015744) && decide (recordBytes (rs.filter (fun r => r.wakeFirst)) ≤ 262144)

/-- An image copy (R483). -/
def getCopy (k : Nat) (s : State) : Option Image := mapGet none s.boot.copies k

/-- The valid copy with the higher GEN (R486). -/
def bestCopy (s : State) : Option Image :=
  match getCopy 0 s, getCopy 1 s with
  | some a, some b => if a.gen ≥ b.gen then some a else some b
  | some a, none => some a
  | none, b => b

/-- An image is written to the copy with the lower GEN, or to an invalid copy, with GEN one above the higher (R485). -/
def writeImage (rs : List ImageRec) (s : State) : State :=
  let k := match getCopy 0 s, getCopy 1 s with
    | some a, some b => if a.gen ≤ b.gen then 0 else 1
    | some _, none => 1
    | none, _ => 0
  let gen := (match bestCopy s with | some i => i.gen | none => 0) + 1
  let img : Image := { format := snapFormat s, gen := gen, recs := rs, digest := digestOf rs }
  { s with boot := { s.boot with copies := mapSet none s.boot.copies k (some img) } }

/-- CONFIG_SAVE (R485). -/
def configSave (s : State) : CmdResult :=
  let rs := activeRecords s
  if !(imageFits rs) then failed .lenRange s else done (configDigest s) (writeImage rs s)

end Sys2Proof.Machine
end

