-- ==== Sys2Proof/Machine/PlacketOps.lean ====
section
/-! DEFINITION. Machine/PlacketOps.lean: the Placket host bridge: host registers, error log, windows, mailbox and DMA ring indices, outbound requests, DMA and MSI-X (R337-R375). -/

namespace Sys2Proof.Machine

/-- Replace the Placket. -/
def setPlk (p : Placket) (s : State) : State := { s with plk := p }

/-- A cause of an MSI-X vector sets: it counts as newly set when it was clear (R357, R367). -/
def setCause (v : Nat) (s : State) : State :=
  if s.plk.cause.getLsbD v then s
  else setPlk { s.plk with cause := s.plk.cause ||| BitVec.twoPow 32 v, fresh := s.plk.fresh ||| BitVec.twoPow 32 v } s

/-- A cause in another domain, which the next poll samples (R356). -/
def sideCause (v : Nat) (s : State) : State := setPlk { s.plk with side := s.plk.side ||| BitVec.twoPow 32 v } s

/-- A failed posted write is recorded in the error log, or counted when it is full; either way the cause of vector 4 sets and the Keeper hears of it (R347, R348). -/
def logError (e : ErrEntry) (s : State) : State :=
  let e' := { e with time := nowNs s % 2 ^ 64 }
  let s1 :=
    if (s.plk.errW + 64 - s.plk.errR) % 64 = 32 then setPlk { s.plk with errOvf := Nat.min (2 ^ 32 - 1) (s.plk.errOvf + 1) } s
    else setPlk { s.plk with errs := mapSet {} s.plk.errs (s.plk.errW % 32) e', errW := (s.plk.errW + 1) % 64 } s
  raiseEv .plkError 0 [] (setCause 4 s1)

/-- A refused, ownerless or lost host write is logged (R338, R341, R346, R350): window 16 or 17, initiator 30. -/
def logInbound (reason : Nat) (bar2 : Bool) (off len : Nat) (s : State) : State :=
  logError { inbound := true, reason := reason, window := if bar2 then 17 else 16, initiator := 30, length := len, addr := off } s

/-- A host write to a register refused under R12. -/
def refusedReg (off : Nat) (s : State) : State := logInbound 8 false off 4 s

/-- Whether outbound TLPs can be sent, and otherwise the reason for which a posted write fails (R347): the link is not in L0, or Bus Master Enable is 0. -/
def sendFails (s : State) : Option Nat :=
  if s.plk.link ≠ .l0 then some 1 else if !s.plk.bme then some 2 else none

/-- Send a posted memory write, or log its failure (R344, R347). -/
def postedWrite (ring window addr : Nat) (bs : List Byte) (poisoned : Bool) (s : State) : State :=
  match sendFails s with
  | some r => logError { reason := r, window := window, initiator := ring, length := bs.length, addr := addr } s
  | none =>
    let s1 := emit (.hostWrite addr bs) s
    if poisoned then logError { reason := 4, window := window, initiator := ring, length := bs.length, addr := addr } s1 else s1

/-- Word `k` of MSI-X table entry `v` after reset: the mask bit of word 3 is 1, as PCI Express Base 4.0 has it (R374; log entry 30). -/
def msixReset (i : Nat) : BitVec 32 := if i % 4 = 3 then 1 else 0

/-- A word of the MSI-X table. -/
def msixWord (i : Nat) (s : State) : BitVec 32 := mapGet (msixReset i) s.plk.msix i

/-- Send the message of a vector, or set its pending bit while it is masked (R356, R357, R374). Vectors 9-15 never send. -/
def sendMsix (v : Nat) (s : State) : State :=
  if 9 ≤ v ∧ v ≤ 15 then s
  else if (msixWord (4 * v + 3) s).getLsbD 0 then setPlk { s.plk with pba := s.plk.pba ||| BitVec.twoPow 32 v } s
  else
    let addr := (msixWord (4 * v + 1) s).toNat * 2 ^ 32 + (msixWord (4 * v) s).toNat
    let s1 := setPlk { s.plk with pba := s.plk.pba &&& ~~~(BitVec.twoPow 32 v) } s
    match sendFails s1 with
    | some r => logError { reason := r, window := 31, initiator := 31, length := 4, addr := addr } s1
    | none => emit (.msix addr (msixWord (4 * v + 2) s1).toNat) s1

/-- A write to a word of the MSI-X table, whose Vector Control has its mask bit alone (R8, R374); an unmasked vector whose pending bit is set sends (R357, R374). -/
def writeMsix (i : Nat) (w : BitVec 32) (s : State) : State :=
  let s1 := setPlk { s.plk with msix := mapSet (msixReset i) s.plk.msix i (if i % 4 = 3 then w &&& 1 else w) } s
  if i % 4 = 3 ∧ !(w.getLsbD 0) ∧ s.plk.pba.getLsbD (i / 4) then sendMsix (i / 4) s1 else s1

/-- At a poll every vector with a newly set, enabled cause sends one message (R356, R357, R367). -/
def pollCauses (s : State) : State :=
  let s1 := forUpTo 32 (fun v t => if t.plk.side.getLsbD v then setCause v t else t) s
  let due := s1.plk.fresh &&& s1.plk.enable
  let s2 := setPlk { s1.plk with side := 0, fresh := 0 } s1
  forUpTo 32 (fun v t => if due.getLsbD v then sendMsix v t else t) s2

/-- PLK_INT_CAUSE is write-one-to-clear (R367); the cause of vector 5 stays set while the Keeper is halted for good (R428). -/
def clearCauses (v : BitVec 32) (s : State) : State :=
  let w : BitVec 32 := if s.kpr.halted then v &&& ~~~32 else v
  setPlk { s.plk with cause := s.plk.cause &&& ~~~w, fresh := s.plk.fresh &&& ~~~w } s

/-- The cause bits that have an enable: 0-8 and 16-31. -/
def causeMask : BitVec 32 := 0xFFFF01FF

/-- PLK_INT_ENABLE: an enabled cause that is set counts as newly set (R367). -/
def writeEnable (v : BitVec 32) (s : State) : State :=
  let e := v &&& causeMask
  setPlk { s.plk with enable := e, fresh := s.plk.fresh ||| (e &&& ~~~s.plk.enable &&& s.plk.cause) } s

/-- PLK_POLL_PERIOD (R366): 0 and 65-127 are refused; a new period applies at the next poll (R356). -/
def writePeriod (v : BitVec 32) (s : State) : State :=
  let p := bits v 6 0
  if p = 0 ∨ p > 64 then refusedReg 0x10 s else setPlk { s.plk with nextPeriod := p } s

/-- PWR_DOMAIN_STOPPED is write-one-to-clear for domains that run again; for others the bit stays set (R368). -/
def clearStopped (v : BitVec 32) (s : State) : State :=
  setPlk { s.plk with stopped := (List.range 16).foldl (fun m d => if v.getLsbD d && domainRuns d s then m &&& ~~~(BitVec.twoPow 16 d) else m) s.plk.stopped } s

/-- A mailbox ring pair. -/
def getPair (c : Nat) (s : State) : MbPair := mapGet {} s.plk.pairs c

/-- Replace a mailbox ring pair. -/
def setPair (c : Nat) (p : MbPair) (s : State) : State := setPlk { s.plk with pairs := mapSet {} s.plk.pairs c p } s

/-- Whether an index register may move from `old` to `new`: not backwards, and at most `size` ahead of the consumer (R350). -/
def indexOk (modulus size cons old new : Nat) : Bool :=
  let far (x : Nat) : Nat := (x + modulus - cons) % modulus
  decide (far new ≤ size) && decide (far old ≤ far new)

/-- PLK_MB_CMD_PROD, the doorbell (R350, R369). -/
def ringDoorbell (c : Nat) (v : BitVec 32) (s : State) : State :=
  let p := getPair c s
  let n := bits v 4 0
  if indexOk 32 16 p.cmdCons p.cmdProd n then setPair c { p with cmdProd := n } s else refusedReg (0x100 + 16 * c) s

/-- PLK_MB_CPL_CONS (R350, R369): not backwards and not beyond the producer. -/
def advanceCplCons (c : Nat) (v : BitVec 32) (s : State) : State :=
  let p := getPair c s
  let n := bits v 4 0
  if (n + 32 - p.cplCons) % 32 ≤ (p.cplProd + 32 - p.cplCons) % 32 then setPair c { p with cplCons := n } s else refusedReg (0x10C + 16 * c) s

/-- PLK_ERRLOG_READ: host software frees entries by advancing it (R370). -/
def advanceErrRead (v : BitVec 32) (s : State) : State :=
  let n := bits v 5 0
  if (n + 64 - s.plk.errR) % 64 ≤ (s.plk.errW + 64 - s.plk.errR) % 64 then setPlk { s.plk with errR := n } s else refusedReg 0x204 s

/-- A host read of PLK_ERRLOG_OVERFLOW returns and clears it (R348, R370). -/
def readErrOverflow (s : State) : State := emit (.hostCompletion s.plk.errOvf) (setPlk { s.plk with errOvf := 0 } s)

/-- A window. -/
def getWindow (w : Nat) (s : State) : Window := mapGet {} s.plk.windows w

/-- Replace a window. -/
def setWindow (w : Nat) (x : Window) (s : State) : State := setPlk { s.plk with windows := mapSet {} s.plk.windows w x } s

/-- SIZE_LOG2 of a window record. -/
def windowLog (r : BitVec 128) : Nat := bits r 117 112

/-- First address of a window record. -/
def windowBase (r : BitVec 128) : Nat := bits r 63 12 * 4096

/-- Whether a window record breaks its table (R342): SIZE_LOG2 out of 12-48, or BASE bits below it set. -/
def windowBad (r : BitVec 128) : Bool :=
  decide (windowLog r < 12) || decide (windowLog r > 48) || decide (windowBase r % 2 ^ windowLog r ≠ 0)

/-- Whether two window records overlap. -/
def windowsMeet (a b : BitVec 128) : Bool :=
  decide (windowBase a < windowBase b + 2 ^ windowLog b) && decide (windowBase b < windowBase a + 2 ^ windowLog a)

/-- The fields of a window record that are kept: reserved bits read 0 (R342). -/
def windowFields (r : BitVec 128) : BitVec 128 := r &&& BitVec.ofNat 128 (0xFE3F0000 * 2 ^ 96 + (2 ^ 52 - 1) * 2 ^ 12)

/-- Whether a record may become the active record of a window: in order, not overlapping an enabled window, and not over an enabled record (R342). -/
def windowFits (w : Nat) (r : BitVec 128) (s : State) : Bool :=
  !(windowBad r) && !((getWindow w s).active.getLsbD 127)
    && !(r.getLsbD 127 && (List.range 16).any (fun i => decide (i ≠ w) && (getWindow i s).active.getLsbD 127 && windowsMeet r (getWindow i s).active))

/-- A word of a 128-bit record replaced. -/
def putWord (r : BitVec 128) (k : Nat) (v : BitVec 32) : BitVec 128 :=
  (r &&& ~~~(BitVec.ofNat 128 ((2 ^ 32 - 1) * 2 ^ (32 * k)))) ||| BitVec.ofNat 128 (v.toNat * 2 ^ (32 * k))

/-- Words 0-2 of a window go to the staging copy (R372). -/
def stageWindow (w k : Nat) (v : BitVec 32) (s : State) : State :=
  let x := getWindow w s
  setWindow w { x with staged := putWord x.staged k v } s

/-- A refused commit: the active record stays, the staging copy is discarded, the write is logged (R372). -/
def refuseWindow (w : Nat) (s : State) : State :=
  let x := getWindow w s
  refusedReg (0x1000 + 16 * w + 12) (setWindow w { x with staged := x.active } s)

/-- A DMA ring. -/
def getRing (r : Nat) (s : State) : DmaRing := mapGet {} s.plk.rings r

/-- Replace a DMA ring. -/
def setRing (r : Nat) (x : DmaRing) (s : State) : State := setPlk { s.plk with rings := mapSet {} s.plk.rings r x } s

/-- STOPPED: RUN is 0 and no descriptor is in progress (R373). -/
def DmaRing.stopped (x : DmaRing) : Bool := !x.run && x.active.isNone

/-- BAR2 offset of a ring's descriptor by its index (R353). -/
def descAt (r i : Nat) (s : State) : Nat := r * 0x400000 + (i % 2 ^ (getRing r s).sizeLog) * 32

/-- A descriptor: eight little-endian words (R353). -/
def readDesc (r i : Nat) (s : State) : BitVec 256 :=
  BitVec.ofNat 256 (beNat (memRead s.plk.descMem (descAt r i s) 32).reverse)

/-- Write a descriptor back. -/
def writeDesc (r i : Nat) (d : BitVec 256) (s : State) : State :=
  setPlk { s.plk with descMem := memWrite s.plk.descMem (descAt r i s) (natBytes 32 d.toNat).reverse } s

/-- A descriptor field replaced: `w` bits from bit `lo`. -/
def descPut (d : BitVec 256) (lo w v : Nat) : BitVec 256 :=
  (d &&& ~~~(BitVec.ofNat 256 ((2 ^ w - 1) * 2 ^ lo))) ||| BitVec.ofNat 256 (v % 2 ^ w * 2 ^ lo)

/-- A descriptor completes with a STATUS, the one in progress or else the one at the ring's consumer index: DONE is set, the index moves past it, the ring's vector has a cause (R353, R356). A ring started again meanwhile keeps its indices (R373). -/
def completeDesc (r : Nat) (d : BitVec 256) (status : Nat) (s : State) : State :=
  let x := getRing r s
  let i := (x.active.map (fun a => a.index)).getD x.cons
  let s1 := writeDesc r i (descPut (descPut d 251 4 status) 255 1 1) s
  setCause (16 + r) (setRing r { x with cons := if i = x.cons then (x.cons + 1) % 8192 else x.cons, active := none } s1)

/-- A ring stopped by its control register ends every descriptor not started with ABORTED (R354). -/
def abortRest (r : Nat) (s : State) : State :=
  let x := getRing r s
  let first := if x.active.any (fun a => a.index == x.cons) then x.cons + 1 else x.cons
  let n := (x.prod + 8192 - first) % 8192
  let s1 := forUpTo n (fun k t => writeDesc r (first + k) (descPut (descPut (readDesc r (first + k) t) 251 4 5) 255 1 1) t) s
  let s2 := if n = 0 then s1 else setCause (16 + r) s1
  let y := getRing r s2
  setRing r (if y.active.any (fun a => a.index == y.cons) then { y with prod := (y.cons + 1) % 8192, handed := (y.cons + 1) % 8192 } else { y with cons := y.prod, handed := y.prod }) s2

/-- PLK_RING_CTRL (R373): SIZE_LOG2 and RUN together. -/
def writeRingCtrl (r : Nat) (v : BitVec 32) (s : State) : State :=
  let x := getRing r s
  let k := bits v 3 0
  let off := 0x2000 + 16 * r
  if k < 4 ∨ k > 12 ∨ (k ≠ x.sizeLog ∧ !x.stopped) then refusedReg off s
  else
    let run := v.getLsbD 31
    if run ∧ !x.run then setRing r { x with run := true, sizeLog := k, prod := 0, cons := 0, handed := 0 } s
    else if !run ∧ x.run then abortRest r (setRing r { x with run := false, sizeLog := k } s)
    else setRing r { x with sizeLog := k } s

/-- PLK_RING_PROD (R353, R373). -/
def writeRingProd (r : Nat) (v : BitVec 32) (s : State) : State :=
  let x := getRing r s
  let n := bits v 12 0
  if x.run ∧ indexOk 8192 (2 ^ x.sizeLog) x.cons x.prod n then setRing r { x with prod := n } s else refusedReg (0x2004 + 16 * r) s

/-- Whether the module owns a ring slot (R350): a command slot between consumer and producer, a completion slot that holds nothing for the host. -/
def slotOwned (completion : Bool) (c slot : Nat) (s : State) : Bool :=
  let p := getPair c s
  if completion then decide ((slot + 32 - p.cplCons % 16) % 16 ≥ (p.cplProd + 32 - p.cplCons) % 32)
  else decide ((slot + 32 - p.cmdCons % 16) % 16 < (p.cmdProd + 32 - p.cmdCons) % 32)

/-- Whether the module owns a ring's descriptor (R353). -/
def descOwned (r i : Nat) (s : State) : Bool :=
  let x := getRing r s
  let size := 2 ^ x.sizeLog
  decide (i < size) && decide ((i + size - x.cons % size) % size < (x.prod + 8192 - x.cons) % 8192)

/-- The bits of each descriptor word that can be written: reserved bits read 0 (R353). -/
def descWordMask (k : Nat) : Nat := if k = 2 ∨ k = 6 then 0 else if k = 7 then 0xFFFFFFE0 else 0xFFFFFFFF

/-- Whether a byte of BAR0 ring memory belongs to a slot the module owns. -/
def ringByteOwned (off : Nat) (s : State) : Bool :=
  let completion := decide (off ≥ 0x200000)
  let o := if completion then off - 0x200000 else off - 0x100000
  slotOwned completion (o / 0x10800) (o % 0x10800 / 0x1080) s

/-- Write the enabled bytes of a host write into ring or descriptor memory, but for bytes the module owns. -/
def putBytes (f : Nat → Byte → Option Byte) : Nat → List (Byte × Bool) → Memory → Memory
  | _, [], m => m
  | a, (b, en) :: rest, m =>
    let m1 := if en then (match f a b with | some v => mapSet 0 m a v | none => m) else m
    putBytes f (a + 1) rest m1

/-- Whether an offset of ring memory is a reserved byte of its slot, which ignores writes (R8, R349). -/
def ringReserved (a : Nat) : Bool := let b := a % 0x100000 % 0x10800 % 0x1080; (decide (4 ≤ b) && decide (b < 64)) || decide (4192 ≤ b)

/-- A host write to ring memory (R8, R338, R346, R350). -/
def writeRingMem (off : Nat) (bs : List (Byte × Bool)) (s : State) : State :=
  let owned (a : Nat) : Bool := ringByteOwned a s
  let hit := (List.range bs.length).any (fun k => owned (off + k))
  let s1 := setPlk { s.plk with ringMem := putBytes (fun a b => if owned a ∨ ringReserved a then none else some b) off bs s.plk.ringMem } s
  if hit then logInbound 9 false off bs.length s1 else s1

/-- A host write to descriptor memory (R346, R353). -/
def writeDescMem (off : Nat) (bs : List (Byte × Bool)) (s : State) : State :=
  let owned (a : Nat) : Bool := descOwned (a / 0x400000) (a % 0x400000 / 32) s
  let hit := (List.range bs.length).any (fun k => owned (off + k))
  let masked (a : Nat) (b : Byte) : Byte := b &&& BitVec.ofNat 8 (descWordMask (a % 32 / 4) / 256 ^ (a % 4))
  let s1 := setPlk { s.plk with descMem := putBytes (fun a b => if owned a then none else some (masked a b)) off bs s.plk.descMem } s
  if hit then logInbound 9 true off bs.length s1 else s1

/-- The value that a host read of a BAR0 register returns (R363-R374); reserved offsets read 0 (R338). -/
def hostReg (off : Nat) (s : State) : Nat :=
  let p := s.plk
  if off = 0 then Config.partCode * 65536 + Config.revision.toNat * 256 + p.copies.lc
  else if off = 4 then (if p.copies.safe then 16 else 0) + p.copies.role * 4 + (if p.copies.booted then 2 else 0) + (if p.copies.bank then 1 else 0)
  else if off = 8 then p.copies.bootCount
  else if off = 0x10 then p.nextPeriod
  else if off = 0x20 then p.cause.toNat
  else if off = 0x24 then p.enable.toNat
  else if off = 0x30 then p.copies.powered.toNat
  else if off = 0x34 then p.stopped.toNat
  else if 0x100 ≤ off ∧ off < 0x140 then
    let q := getPair ((off - 0x100) / 16) s
    match off % 16 with
    | 0 => q.cmdProd
    | 4 => q.cmdCons
    | 8 => q.cplProd
    | 12 => q.cplCons
    | _ => 0
  else if off = 0x200 then p.errW
  else if off = 0x204 then p.errR
  else if off = 0x208 then p.errOvf
  else if 0x400 ≤ off ∧ off < 0x800 then
    let e := (off - 0x400) / 32
    let x := mapGet {} p.errs e
    let held := decide ((e + 64 - p.errR % 32) % 32 < (p.errW + 64 - p.errR) % 64)
    match off % 32 with
    | 0 => (if held then 2 ^ 31 else 0) + (if x.inbound then 2 ^ 30 else 0) + x.reason * 2 ^ 26 + x.window * 2 ^ 21 + x.initiator * 2 ^ 16 + x.length * 128
    | 4 => x.addr % 2 ^ 32
    | 8 => x.addr / 2 ^ 32
    | 12 => x.time % 2 ^ 32
    | 16 => x.time / 2 ^ 32
    | _ => 0
  else if 0x1000 ≤ off ∧ off < 0x1100 ∧ off % 4 = 0 then (getWindow ((off - 0x1000) / 16) s).active.toNat / 2 ^ (32 * (off % 16 / 4)) % 2 ^ 32
  else if 0x2000 ≤ off ∧ off < 0x2100 then
    let x := getRing ((off - 0x2000) / 16) s
    match off % 16 with
    | 0 => (if x.run then 2 ^ 31 else 0) + (if x.stopped then 2 ^ 30 else 0) + x.sizeLog
    | 4 => x.prod
    | 8 => x.cons
    | _ => 0
  else if 0x80000 ≤ off ∧ off < 0x80200 ∧ off % 4 = 0 then (msixWord ((off - 0x80000) / 4) s).toNat
  else if off = 0x81000 then p.pba.toNat
  else 0

/-- The window that holds a buffer wholly and permits the direction, as its record stands now (R343). -/
def windowFor (write : Bool) (addr len : Nat) (s : State) : Option Nat :=
  (List.range 16).find? (fun w =>
    let r := (getWindow w s).active
    r.getLsbD 127 && r.getLsbD (if write then 125 else 126) && decide (windowBase r ≤ addr) && decide (addr + len ≤ windowBase r + 2 ^ windowLog r))

/-- The TLPs of a transfer (R346): cut where the host address crosses 4 KiB, where the frame offset crosses 256 bytes, and to the largest size the host allows. -/
def cutTlps (limit : Nat) : Nat → Nat → Nat → Nat → List (Nat × Nat × Nat)
  | 0, _, _, _ => []
  | fuel + 1, addr, off, len =>
    if len = 0 then []
    else
      let n := Nat.min len (Nat.min (4096 - addr % 4096) (Nat.min (256 - off % 256) (Nat.max 1 limit)))
      (addr, n, off) :: cutTlps limit fuel (addr + n) (off + n) (len - n)

/-- Change the descriptor in progress of a ring. -/
def updDma (r : Nat) (f : Dma → Dma) (s : State) : State :=
  let x := getRing r s
  setRing r { x with active := x.active.map f } s

/-- Issue one waiting request of a ring into a free entry (R339). -/
def issueOne (r : Nat) (s : State) : State :=
  match (getRing r s).active with
  | none => s
  | some d =>
    match d.todo with
    | [] => s
    | (addr, n, off) :: rest =>
      let o : Outbound := { tag := s.plk.nextTag, ring := r, serial := d.serial, addr := addr, len := n, off := off, flush := d.flushing,
                            deadline := s.cyc + s.plk.cplNs / 2 }
      let s1 := setPlk { s.plk with outs := s.plk.outs ++ [o], nextTag := (s.plk.nextTag + 1) % 1024, issueTurn := (r + 1) % 16 } s
      let s2 := updDma r (fun d => { d with todo := rest }) s1
      if (sendFails s2).isNone then emit (.hostRead o.tag addr n) s2 else s2

/-- Rings with requests waiting take free entries in round-robin order (R339). -/
def issueAll : Nat → State → State
  | 0, s => s
  | fuel + 1, s =>
    if s.plk.outs.length ≥ 480 then s
    else
      match (List.range 16).find? (fun k => match (getRing ((s.plk.issueTurn + k) % 16) s).active with | some d => !d.todo.isEmpty | none => false) with
      | none => s
      | some k => issueAll fuel (issueOne ((s.plk.issueTurn + k) % 16) s)

/-- Issue what can be issued. -/
def issueWaiting (s : State) : State := issueAll 1024 s

/-- The first descriptor that a ring holds and has not started, when it runs and none is in progress (R350, R354). -/
def nextDesc (r : Nat) (s : State) : Option (BitVec 256) :=
  let x := getRing r s
  if x.run ∧ x.active.isNone ∧ x.cons ≠ x.handed then some (readDesc r x.cons s) else none

/-- DMA_TX_DESCRIPTOR: a transmit ring takes a descriptor and reads its buffer (R343, R353, R354). -/
def takeTxDesc (r : Nat) (s : State) : State :=
  match nextDesc r s with
  | none => s
  | some d =>
    let len := bits d 250 237
    if len = 0 ∨ len > 9216 ∨ bits d 236 232 ≠ 0 ∨ bits d 231 229 ≠ 0 ∨ bits d 191 96 ≠ 0 then completeDesc r d 6 (bump .plkBadDesc r s)
    else
      match windowFor false (bits d 63 0) len s with
      | none => completeDesc r d 3 (bump .plkNoWindow r s)
      | some w =>
        let x := getRing r s
        let dma : Dma := { desc := d, window := w, serial := s.plk.serial, len := len, index := x.cons,
                           todo := cutTlps (Nat.min 256 s.plk.maxRead) 9217 (bits d 63 0) 0 len }
        issueWaiting (setRing r { x with active := some dma } (setPlk { s.plk with serial := s.plk.serial + 1 } s))

/-- Whether a receive ring holds a descriptor (R354). -/
def rxReady (c : Nat) (s : State) : Bool := (nextDesc (8 + c) s).isSome

/-- A receive ring that holds a descriptor takes the head frame of its queue (R343, R353, R354). -/
def takeRxDesc (c : Nat) (s : State) : State :=
  let r := 8 + c
  match nextDesc r s, mapGet none s.fab.tx 31 with
  | some d, none =>
    if !(eligible (8 * 31 + c) s) then s
    else
      let len := bits d 250 237
      if len < 64 ∨ len > 9216 then completeDesc r d 6 (bump .plkBadDesc r s)
      else
        match windowFor true (bits d 63 0) len s with
        | none => completeDesc r d 3 (bump .plkNoWindow r s)
        | some w =>
          let x := getRing r s
          let n := (((queueOf (8 * 31 + c) s).head?.bind (fun e => getFrame e.frame s)).map (fun f => f.bytes.length)).getD 0
          let dma : Dma := { desc := d, window := w, serial := s.plk.serial, len := n, index := x.cons }
          startHead (8 * 31 + c) (setRing r { x with active := some dma } (setPlk { s.plk with serial := s.plk.serial + 1 } s))
  | _, _ => s

/-- EGRESS_SELECT at port 31: the first class by R67 whose ring holds a descriptor (R67, R354). -/
def selectHost (s : State) : State :=
  match mapGet none s.fab.tx 31 with
  | some _ => s
  | none =>
    let x := selectClass 31 (fun c => rxReady c s) s
    match x.1 with
    | some c => takeRxDesc c x.2
    | none => x.2

/-- CELL_READ at port 31: the cells stay charged until the descriptor completes (R27, R354). -/
def readHostCell (ecc : Ecc) (s : State) : State :=
  match mapGet none s.fab.tx 31 with
  | none => s
  | some t =>
    match getFrame t.frame s with
    | none => s
    | some f =>
      match f.cells[t.done]? with
      | none => s
      | some c =>
        if t.cut.isSome ∨ !(t.returned.contains c) then s
        else
          let t1 : Tx := { t with done := t.done + 1, returned := t.returned.filter (fun x => x != c) }
          let s1 := match ecc with
            | .corrected => bump .boltEccCorr (bankOf c) s
            | _ => s
          if ecc = .uncorrectable then
            closeBad t.frame .boltEccUncorr (bankOf c) (detectFault 13 (bankOf c) (setTx 31 (some { t1 with bad := true, cut := some (f.bytesIn t1.done) }) s1))
          else setTx 31 (some t1) s1

/-- The TLPs of a receive frame's data. -/
def rxTlps (d : Dma) (len : Nat) (s : State) : List (Nat × Nat × Nat) := cutTlps (Nat.min 256 s.plk.maxPayload) 9217 (bits d.desc 63 0) 0 len

/-- A receive descriptor completes with its frame's length, port, class and stamp, and the frame's credits return (R353, R354). -/
def completeRx (r : Nat) (status : Nat) (s : State) : State :=
  match (getRing r s).active with
  | none => s
  | some d =>
    let f := (d.tx.bind (fun t => getFrame t.frame s))
    let d1 := descPut d.desc 237 14 d.len
    let d2 := match f with
      | some g => descPut (descPut (descPut d1 232 5 g.entry) 229 3 (r - 8)) 96 96 (beNat (timeBytes g.arrived))
      | none => d1
    let s1 := completeDesc r d2 status s
    match d.tx with
    | some t => leaveFrame t s1
    | none => s1

/-- FRAME_TRANSMIT_END at port 31: the frame's TLPs are sent; in a non-posted window the flush read follows (R343, R344, R354). -/
def endHostFrame (s : State) : State :=
  match mapGet none s.fab.tx 31 with
  | none => s
  | some t =>
    let r := 8 + t.cls
    match getFrame t.frame s, (getRing r s).active with
    | some f, some d =>
      if t.cut.isNone ∧ ¬ (f.ended ∧ t.done = f.formed) then s
      else
        let s0 := boundary 31 (chargeDwrr (8 * 31 + t.cls) f.bytes.length (setTx 31 none s))
        let s1 := updDma r (fun d => { d with tx := some t }) s0
        if f.bytes.length > bits d.desc 250 237 then completeRx r 4 (bump .plkRxShortBuf r s1)
        else
          let data := egressBytes f 31
          let stop := t.cut.getD data.length
          let all := rxTlps d data.length s
          let win := (getWindow d.window s).active
          let s2 := ((List.range all.length).zip all).foldl (fun x k =>
            if k.1 < d.tlps ∨ k.2.2.2 ≥ stop then x
            else if !(win.getLsbD 127) then logError { reason := 3, window := d.window, initiator := r, length := k.2.2.1, addr := k.2.1 } x
            else postedWrite r d.window k.2.1 ((data.drop k.2.2.2).take k.2.2.1) (t.bad && decide (stop ≤ k.2.2.2 + k.2.2.1)) x) s1
          match win.getLsbD 124, all.getLast? with
          | true, some l => if !(win.getLsbD 127) then completeRx r 2 s2 else issueWaiting (updDma r (fun d => { d with flushing := true, todo := [((l.1 + l.2.1 - 1) / 4 * 4, 0, 0)] }) s2)
          | _, _ => completeRx r 0 s2
    | _, _ => boundary 31 (setTx 31 none s)

/-- FC_STALL: no posted credit for 1 ms; the ring's next TLP is dropped and logged (R347). -/
def stallWrite (r : Nat) (s : State) : State :=
  match (getRing r s).active with
  | none => s
  | some d =>
    if r < 8 ∨ d.flushing then s
    else
      match (rxTlps d d.len s)[d.tlps]? with
      | none => s
      | some k => logError { reason := 5, window := d.window, initiator := r, length := k.2.1, addr := k.1 } (updDma r (fun d => { d with tlps := d.tlps + 1 }) s)

/-- The bytes read for a transmit descriptor, in frame order. -/
def Dma.bytes (d : Dma) : List Byte :=
  (List.range (d.got.length)).foldl (fun acc _ => match d.got.find? (fun g => g.1 == acc.length) with
    | some g => acc ++ g.2
    | none => acc) []

/-- A transmit read or a flush read ends with an error: the descriptor ends with READ_ERROR or WRITE_ERROR; a frame being read is closed (R340, R354). -/
def failRequest (o : Outbound) (s : State) : State :=
  match (getRing o.ring s).active with
  | none => s
  | some d =>
    if d.serial ≠ o.serial then s
    else if o.flush then completeRx o.ring 2 s
    else bump .boltCutStomp 31 (completeDesc o.ring d.desc 1 s)

/-- A descriptor whose window was disabled sends no more TLPs: a read ends with READ_ERROR, a flush read not yet sent with WRITE_ERROR (R343, R344). -/
def checkWindow (r : Nat) (s : State) : State :=
  match (getRing r s).active with
  | none => s
  | some d =>
    if d.todo.isEmpty ∨ (getWindow d.window s).active.getLsbD 127 then s
    else if d.flushing then completeRx r 2 s
    else bump .boltCutStomp 31 (completeDesc r d.desc 1 s)

/-- Descriptors that a window's ENABLE has cut off (R343). -/
def checkWindows (s : State) : State := forUpTo 16 checkWindow s

/-- A write to word 3 of a window (R342, R372): it clears ENABLE alone, which cuts off what is in progress through the window (R343), or commits the staged words with it. -/
def commitWindow (w : Nat) (v : BitVec 32) (s : State) : State :=
  let x := getWindow w s
  let cleared := x.active &&& ~~~(BitVec.twoPow 128 127)
  if x.active.getLsbD 127 ∧ bits (windowFields (BitVec.ofNat 128 (v.toNat * 2 ^ 96))) 127 96 = bits cleared 127 96 then
    checkWindows (setWindow w { active := cleared, staged := cleared } s)
  else
    let r := windowFields (putWord x.staged 3 v)
    if windowFits w r s then setWindow w { active := r, staged := r } s else refuseWindow w s

/-- A host write of one aligned word to a host register (R364). Writes to read-only registers change nothing; other offsets are reserved. -/
def writeReg (off : Nat) (v : BitVec 32) (s : State) : State :=
  if off = 0x10 then writePeriod v s
  else if off = 0x20 then clearCauses v s
  else if off = 0x24 then writeEnable v s
  else if off = 0x34 then clearStopped v s
  else if 0x100 ≤ off ∧ off < 0x140 then
    let c := (off - 0x100) / 16
    if off % 16 = 0 then ringDoorbell c v s else if off % 16 = 12 then advanceCplCons c v s else s
  else if off = 0x204 then advanceErrRead v s
  else if 0x1000 ≤ off ∧ off < 0x1100 then
    let w := (off - 0x1000) / 16
    if off % 16 = 12 then commitWindow w v s else stageWindow w (off % 16 / 4) v s
  else if 0x2000 ≤ off ∧ off < 0x2100 ∧ off % 16 = 0 then writeRingCtrl ((off - 0x2000) / 16) v s
  else if 0x2000 ≤ off ∧ off < 0x2100 ∧ off % 16 = 4 then writeRingProd ((off - 0x2000) / 16) v s
  else if 0x80000 ≤ off ∧ off < 0x80200 then writeMsix ((off - 0x80000) / 4) v s
  else if off = 0 ∨ off = 4 ∨ off = 8 ∨ off = 0x30 ∨ off = 0x200 ∨ off = 0x208 ∨ (0x400 ≤ off ∧ off < 0x800) ∨ (0x2000 ≤ off ∧ off < 0x2100 ∧ off % 16 = 8)
      ∨ off = 0x81000 ∨ off = 0x81004 then s
  else logInbound 7 false off 4 s

/-- A little-endian word of four bytes. -/
def leWord (bs : List (Byte × Bool)) : BitVec 32 := BitVec.ofNat 32 (beNat (bs.map (·.1)).reverse)

/-- HOST_REGISTER_WRITE: a host write anywhere in BAR0 or BAR2 (R338, R346). -/
def hostWrite (bar : Bar) (off : Nat) (bs : List (Byte × Bool)) (s : State) : State :=
  let n := bs.length
  if n = 0 ∨ n > 256 then logInbound 8 (bar == .bar2) off (Nat.min 256 n) s
  else
    match bar with
    | .bar0 =>
      if off < 0x100000 then
        if n = 4 ∧ off % 4 = 0 ∧ bs.all (·.2) then writeReg off (leWord bs) s else logInbound 8 false off n s
      else if (0x100000 ≤ off ∧ off + n ≤ 0x142000) ∨ (0x200000 ≤ off ∧ off + n ≤ 0x242000) then writeRingMem off bs s
      else logInbound 7 false off n s
    | .bar2 =>
      if off / 0x400000 < 16 ∧ off % 0x400000 + n ≤ 0x20000 then writeDescMem off bs s else logInbound 7 true off n s

/-- The last completion of a request has come: a flush completes its descriptor; the last read of a frame hands it to the port 31 cell builder (R344, R354). -/
def finishRequest (o : Outbound) (s : State) : State :=
  match (getRing o.ring s).active with
  | none => s
  | some d =>
    if d.serial ≠ o.serial then s
    else if o.flush then completeRx o.ring 0 s
    else
      let s1 := updDma o.ring (fun d => { d with got := d.got ++ [(o.off, o.got)] }) s
      match (getRing o.ring s1).active with
      | none => s1
      | some e =>
        if e.todo.isEmpty ∧ !(s1.plk.outs.any (fun x => x.ring == o.ring && x.serial == e.serial)) then
          completeDesc o.ring e.desc 0 (enterWhole 31 31 .ethernet none (s1.pat.current.map (fun t => t.number)) (nowFrac s1) e.bytes s1)
        else s1

/-- PCIE_COMPLETION: a completion ends or advances the request that holds its tag; others, and one that comes when the timeout has been reached, are unexpected and discarded (R340, R361). -/
def completion (tag : Nat) (st : CplStatus) (data : List Byte) (s : State) : State :=
  match (s.plk.outs.find? (fun o => o.tag == tag)).filter (fun o => decide (s.cyc < o.deadline)) with
  | none => s
  | some o =>
    let others := s.plk.outs.filter (fun x => x.tag != tag)
    if st ≠ .ok then issueWaiting (failRequest o (bump .plkCplError 0 (setPlk { s.plk with outs := others } s)))
    else
      let o1 := { o with got := (o.got ++ data).take o.len }
      if o1.got.length < o.len then setPlk { s.plk with outs := replaceIf (fun x => x.tag == tag) (fun _ => o1) s.plk.outs } s
      else issueWaiting (finishRequest o1 (setPlk { s.plk with outs := others } s))

/-- CPL_TIMEOUT: a request's completion timeout expires; counted and reported through AER (R340). -/
def cplExpire (tag : Nat) (s : State) : State :=
  match s.plk.outs.find? (fun o => o.tag == tag) with
  | none => s
  | some o =>
    if s.cyc < o.deadline then s
    else issueWaiting (failRequest o (raiseEv .pcieAer 0 [] (bump .plkCplTimeout 0 (setPlk { s.plk with outs := s.plk.outs.filter (fun x => x.tag != tag) } s))))

/-- Mailbox rings return to index 0; slot contents stay (R352). -/
def resetMailbox (s : State) : State := setPlk { s.plk with pairs := [] } s

/-- Receive frames that a ring holds leave the Bolt when the Placket is reset. -/
def releaseRings (s : State) : State :=
  let s1 := forUpTo 16 (fun r t => match (getRing r t).active with
    | some d => (match d.tx with | some x => leaveFrame x t | none => t)
    | none => t) s
  match mapGet none s1.fab.tx 31 with
  | some t => leaveFrame t (setTx 31 none s1)
  | none => s1

/-- Every ring stopped with its indices at 0 and its size as it stands (R352, R360). -/
def stoppedRings (s : State) : SMap DmaRing := (List.range 16).foldl (fun m r => mapSet {} m r { sizeLog := (getRing r s).sizeLog }) []

/-- FUNCTION_LEVEL_RESET: what R352 and R360 name; the rest of the configuration space and the MSI-X table stand (DESIGN CHOICE, log entry 95). -/
def functionReset (s : State) : State :=
  let s1 := releaseRings s
  let ws := s1.plk.windows.foldl (fun (m : SMap Window) e => let a := e.2.active &&& ~~~(BitVec.twoPow 128 127); mapSet {} m e.1 { active := a, staged := a }) []
  resetMailbox (setPlk { s1.plk with windows := ws, rings := stoppedRings s, outs := [], errR := 0, errW := 0, errs := [], errOvf := 0 } s1)

/-- The Placket after a module, fundamental or hot reset: the link is down, configuration space, windows, rings and registers at their reset values; ring slots and descriptors are not cleared (R352, R360, R363). The copies of other domains follow at the next poll. -/
def resetPlacket (s : State) : State :=
  let s1 := releaseRings s
  setPlk { ({} : Placket) with ringMem := s1.plk.ringMem, descMem := s1.plk.descMem, copies := { lc := s1.plk.copies.lc },
                               pollAt := s1.cyc + 4 * usCyc, serial := s1.plk.serial } s1

/-- PCIE_LINK_STATE_CHANGE (R347). -/
def linkState (l : PcieLink) (s : State) : State := if domainRuns 14 s then setPlk { s.plk with link := l } s else s

/-- PCIE_CONFIG_WRITE: Device Control, Device Control 2 and Bus Master Enable (R339, R340, R346). Max Payload Size Supported is 256 bytes. A size or time that its field cannot hold leaves the field unchanged (R12). -/
def configWrite (c : PcieCfg) (s : State) : State :=
  match c with
  | .busMaster on => setPlk { s.plk with bme := on } s
  | .maxPayload n => if n = 128 ∨ n = 256 then setPlk { s.plk with maxPayload := n } s else s
  | .maxReadRequest n => if [128, 256, 512, 1024, 2048, 4096].contains n then setPlk { s.plk with maxRead := n } s else s
  | .cplTimeout ns => if 50000 ≤ ns ∧ ns ≤ 250000000 then setPlk { s.plk with cplNs := ns } s else s

/-- A completion ring is full when its producer is 16 ahead of its consumer (R350). -/
def cplFull (c : Nat) (s : State) : Bool := decide (((getPair c s).cplProd + 32 - (getPair c s).cplCons) % 32 ≥ 16)

/-- BAR0 offset of a ring slot (R349). -/
def slotAt (completion : Bool) (c i : Nat) : Nat := (if completion then 0x200000 else 0x100000) + c * 0x10800 + (i % 16) * 0x1080

/-- Write a message into a pair's completion ring (R349-R351). -/
def writeCompletion (c : Nat) (b : List Byte) (s : State) : State :=
  let p := getPair c s
  let a := slotAt true c p.cplProd
  let s1 := setPlk { s.plk with ringMem := memWrite (memWrite s.plk.ringMem a (natBytes 4 b.length).reverse) (a + 64) b } s
  setCause c (setPair c { p with cplProd := (p.cplProd + 1) % 32 } s1)

/-- The LENGTH and message of a command slot (R349, R351). -/
def readSlot (c i : Nat) (s : State) : Nat × List Byte :=
  let a := slotAt false c i
  let n := beNat (memRead s.plk.ringMem a 4).reverse
  (n, memRead s.plk.ringMem (a + 64) (Nat.min n 4128))

/-- A poll hands the mailbox doorbells to the Keeper (R356). -/
def handMailbox (s : State) : State := forUpTo 4 (fun c t => let p := getPair c t; setPair c { p with handed := p.cmdProd } t) s

/-- A poll hands the ring doorbells to the DMA rings (R356). -/
def handRings (s : State) : State := forUpTo 16 (fun r t => let x := getRing r t; setRing r { x with handed := x.prod } t) s

end Sys2Proof.Machine
end

