-- ==== Sys2Proof/Machine/PortOps.lean ====
section
/-! DEFINITION. Machine/PortOps.lean: the Ethernet ports: configuration, link up and down, training, fast link-up (R228-R237), LLDP and partner discovery (R238-R241), and the frames that the Keeper sends through port 27. -/

namespace Sys2Proof.Machine

/-- A port of the T1 kind: E0-E5 and G0-G7 (R227). -/
def isT1 (p : Nat) : Bool := p < 6 || (decide (16 ≤ p) && decide (p ≤ 23))

/-- A Selvage tributary, S0 or S1. -/
def isTrib (p : Nat) : Bool := p == 24 || p == 25

/-- The power domain of a port's PHY or SerDes, in the bit order of R368: PHYE, SERE, SERH, PHYG, SEL. -/
def portDomain (p : Nat) : Nat := if p < 6 then 8 else if p < 14 then 10 else if p < 16 then 11 else if p < 24 then 9 else if p < 26 then 12 else 10

/-- The modes that a port supports with AN_EN = 0 (R227). -/
def fixedModes (p : Nat) : List Nat := if p < 6 then [0, 1, 2] else if p < 14 then [5, 6] else if p < 16 then [7] else if p < 24 then [3, 4] else if p = 26 then [5] else []

/-- Whether a port's record lets it link in a mode (R228, R229): MODE, an advertised mode of a T1 port, or negotiated 1000BASE-X. -/
def modeAllowed (p : Nat) (r : BitVec 64) (m : Nat) : Bool :=
  if r.getLsbD 53 then (if isT1 p then decide (m < 5) && r.getLsbD (58 - m) else m == 6) else bits r 62 59 == m

/-- The role of a link (R228-R230): that of the record, or the negotiated one; 0 on ports that are not T1. None when the record does not allow it. -/
def roleOf (p : Nat) (r : BitVec 64) (role : Nat) : Option Nat :=
  if !(isT1 p) then some 0
  else if bits r 52 51 = 0 then (if role = 1 ∨ role = 2 then some role else none)
  else if role = bits r 52 51 then some role else none

/-- The rates that a link record allows, highest first (R191, R214). -/
def linkRates (r : BitVec 64) : List Nat := [0, 1, 2].filter (fun c => r.getLsbD (61 - c))

/-- Whether a port trains as it links: the T1 PHYs, and with TRAIN_EN the 10GBASE-R and 25GBASE-R ports (R228, R230, R231). -/
def trains (p : Nat) (r : BitVec 64) : Bool := isT1 p || r.getLsbD 50

/-- The highest rate in bit/s that a port's configuration allows (R65). -/
def topRate (p : Nat) (s : State) : Nat :=
  let r := (getPort p s).record
  if isTrib p then ((linkRates (getLink (p - 24) s).record).map (fun c => modeRate (16 + c))).foldl Nat.max 0
  else if r.getLsbD 53 ∧ isT1 p then (([0, 1, 2, 3, 4].filter (fun m => r.getLsbD (58 - m))).map modeRate).foldl Nat.max 0
  else modeRate (bits r 62 59)

/-- Whether a port configuration record breaks R228, or names what the port lacks under R227 or R71. -/
def portRecordBad (p : Nat) (r : BitVec 64) : Bool :=
  let an := r.getLsbD 53
  let mode := bits r 62 59
  let adv := bits r 58 54
  let common := decide (bits r 46 33 < 1518) || decide (bits r 46 33 > 9216) || decide (bits r 29 18 = 4095) || decide (bits r 16 0 ≠ 0)
  if isTrib p then common || decide (bits r 63 50 ≠ 0) || r.getLsbD 47
  else
    common
    || (if an then
          (if isT1 p then decide (mode ≠ 0) || decide (adv = 0) || (if p < 6 then decide (adv % 4 ≠ 0) else decide (adv / 4 ≠ 0))
           else decide (p < 6) || decide (p ≥ 14) || decide (mode ≠ 6) || decide (adv ≠ 0))
        else !((fixedModes p).contains mode) || decide (adv ≠ 0))
    || (if isT1 p then decide (bits r 52 51 = 3) || (decide (bits r 52 51 = 0) && !an) else decide (bits r 52 51 ≠ 1))
    || (r.getLsbD 50 && !(!an && (mode == 5 || mode == 7)))
    || (r.getLsbD 49 && decide (16 ≤ p) && decide (p ≤ 23) && !an && decide (mode = 4))

/-- The identity of a port's partner: subtypes and IDs. -/
def partnerIdent (q : PortSt) : List Byte := natBytes 1 q.chassisType ++ q.chassis ++ natBytes 1 q.portType ++ q.portId

/-- Detail of a partner event: state and identity (R239). -/
def partnerDetail (st : Nat) (q : PortSt) : List Byte := natBytes 1 st ++ partnerIdent q

/-- The zone that a port takes from its partner's state (R240). -/
def partnerZone (q : PortSt) (z : PartnerZones) : Nat :=
  if q.partner = 2 then
    match z.ents.find? (fun e => e.1 == q.chassisType && decide (e.2.2 = fit 32 q.chassis)) with
    | some e => e.2.1
    | none => z.unlisted
  else if q.partner = 1 then z.unident else z.absent

/-- What the partner module's STATUS says of a port (R445): partner state, chassis subtype and chassis ID; a port that it does not list is ABSENT. -/
def pairPartner (p : Nat) (s : State) : PortSt :=
  let b := s.twin.partnerStatus
  match ((List.range ((b.length - 8) / 40)).map (fun i => (b.drop (8 + 40 * i)).take 40)).find? (fun e => numAt e 0 1 == p) with
  | some e => { portReset p with partner := numAt e 1 1, chassisType := numAt e 2 1, chassis := (e.drop 4).take 32 }
  | none => portReset p

/-- Whether the supervisor of a pair decides for both modules: in control, with the partner's STATUS at hand (R443). -/
def pairDecides (s : State) : Bool := decide (s.twin.mode = 1) && !s.twin.partnerStatus.isEmpty

/-- The zone of a port in a pair, and whether the modules' partners disagree (R443). -/
def pairZone (p : Nat) (z : PartnerZones) (s : State) : Nat × Bool :=
  let a := getPort p s
  let b := pairPartner p s
  let za := partnerZone a z
  let zb := partnerZone b z
  if za = zb then (za, false) else if a.partner = 0 then (zb, false) else if b.partner = 0 then (za, false) else (z.unlisted, true)

/-- The Keeper chooses a port's zone on a change of its partner's state and applies it (R240); in whole-unit mode the module in control chooses it for both (R443). S0 and S1 follow R222. -/
def chooseZone (p : Nat) (s : State) : State :=
  if isTrib p ∨ (s.twin.mode = 1 ∧ !(inControl s)) then s
  else
    match (getPort p s).zones with
    | none => s
    | some z =>
      if pairDecides s then
        let r := pairZone p z s
        applyZones (decideZone p r.1 (if r.2 then raiseEv .twinUnlisted p [] s else s))
      else applyZones (decideZone p (partnerZone (getPort p s) z) s)

/-- A KNOWN partner departs and the port takes another state (R239); log entry 24. -/
def departs (p st : Nat) (s : State) : State :=
  let q := getPort p s
  let s1 := if q.partner = 2 then raiseEv .partnerDepart p (partnerDetail st q) (bump .kprPartnerDepart p s) else s
  setPort p { q with partner := st, chassisType := 0, chassis := [], portType := 0, portId := [] } s1

/-- A port takes another partner state, and the zone of it (R239, R240). -/
def partnerLeaves (p st : Nat) (s : State) : State := chooseZone p (departs p st s)

/-- A partner is recognised from an LLDPDU, after the departure of one with another identity, and the port's zone is chosen once for both changes (R232, R239, R240). -/
def partnerArrives (p ct : Nat) (ci : List Byte) (pt : Nat) (pi : List Byte) (s0 : State) : State :=
  let s := if (getPort p s0).partner = 2 then departs p 1 s0 else s0
  let q := getPort p s
  let st := match q.stored with
    | some x => if x.chassis = [] then some { x with chassis := natBytes 1 ct ++ ci, portId := natBytes 1 pt ++ pi }
      else if x.chassis = natBytes 1 ct ++ ci ∧ x.portId = natBytes 1 pt ++ pi then some x else none
    | none => none
  let q1 := { q with partner := 2, chassisType := ct, chassis := ci, portType := pt, portId := pi, stored := st }
  chooseZone p (raiseEv .partnerArrive p (partnerDetail 2 q1) (bump .kprPartnerArrive p (setPort p q1 s)))

/-- CBS queues of a port whose rate is at or below their idleSlope are over-rate until the rate rises again (R70). -/
def markOverrate (p : Nat) (s : State) : State :=
  forUpTo 8 (fun c t => markQueue (8 * p + c) t) s

/-- A port's link comes up (R230, R232, R237, R238): `fast` from the stored set. -/
def portUp (p mode role : Nat) (fast : Bool) (s : State) : State :=
  let q := getPort p s
  let r := q.record
  let keep := if fast ∨ !(r.getLsbD 47) then q.stored
    else some { mode := mode, role := role, coeffs := Config.linkCoeffs p s.draws,
                chassis := if q.partner = 2 then natBytes 1 q.chassisType ++ q.chassis else [],
                portId := if q.partner = 2 then natBytes 1 q.portType ++ q.portId else [] }
  let q1 := { q with
    up := true, sends := false, mode := mode, role := role, fast := fast, upAt := s.cyc, powerGood := none, heard := false, stored := keep,
    training := if !fast && trains p r then 1 else 0, lldpNext := s.cyc, lldpBurst := if r.getLsbD 17 then 4 else 0 }
  let s1 := setPort p q1 { s with draws := s.draws + 1, sch := { s.sch with preempt := if q.sends then s.sch.preempt else mapSet 0 s.sch.preempt p 0 } }
  raiseEv .linkUp p [BitVec.ofNat 8 mode, BitVec.ofNat 8 role] (recheckGcl p (markOverrate p s1))

/-- FLUSH_ON_DOWN of a port applied: its queues are flushed, or kept (R62). -/
def flushOnDown (p : Nat) (s : State) : State := if (getPort p s).record.getLsbD 48 then flushPort p s else s

/-- A port stops sending: what it sends is lost, and its queues are flushed under FLUSH_ON_DOWN (R62, R224, R241). -/
def stopSending (p : Nat) (s : State) : State :=
  flushOnDown p (loseTx p (setPort p { getPort p s with sends := false } { s with sch := { s.sch with preempt := mapSet 0 s.sch.preempt p 0 } }))

/-- A port that is up reports link down: what it receives ends as a frame error (R40, R237). -/
def reportDown (p : Nat) (s : State) : State :=
  let q := getPort p s
  let s1 := setPort p { q with up := false, downAt := s.cyc, training := if trains p q.record then 2 else 0, fast := false } s
  raiseEv .linkDown p [] (match receiving p s1 with
    | some f => endAtPort p f.ident f.received .lost s1
    | none => s1)

/-- A port's link goes down (R40, R62, R237, R241). -/
def portDown (p : Nat) (s : State) : State :=
  let q := getPort p s
  if q.up then stopSending p (reportDown p s) else if q.sends then stopSending p s else s

/-- A tributary's link has lost FRAME in UP: the port reports link down and its queues are flushed under FLUSH_ON_DOWN (R208), but it sends on until the link leaves UP (R224). -/
def tribDown (p : Nat) (s : State) : State :=
  let q := getPort p s
  if q.up then flushOnDown p (setPort p { getPort p (reportDown p s) with sends := true } (reportDown p s)) else s

/-- Whether a port runs: ENABLE, and its domain powered. The tributaries run under their link (R228). -/
def portRuns (p : Nat) (s : State) : Bool := !(isTrib p) && (getPort p s).record.getLsbD 63 && domainRuns (portDomain p) s

/-- LINK_UP: the port links in a mode and role that its record allows (R228-R230, R233). -/
def linkComesUp (p mode role : Nat) (fast : Bool) (s : State) : State :=
  let q := getPort p s
  match roleOf p q.record role with
  | none => s
  | some ro =>
    if !(portRuns p s) ∨ q.up ∨ !(modeAllowed p q.record mode) then s
    else
      match (if fast ∧ q.powerGood.isSome then q.stored else none) with
      | some x => portUp p x.mode x.role true s
      | none => portUp p mode ro false s

/-- TRAINING_FAIL: training that runs on a port has failed and restarts (R230); in a fast link-up none runs (R233). -/
def trainingFails (p : Nat) (s : State) : State :=
  if portRuns p s ∧ !(getPort p s).up ∧ trains p (getPort p s).record ∧ (getPort p s).powerGood.isNone then setPort p { getPort p s with training := 3 } s else s

/-- PHY_POWER_GOOD: a port with a valid stored set starts from it (R233). -/
def phyPowerGood (p : Nat) (s : State) : State :=
  let q := getPort p s
  if portRuns p s ∧ !q.up then
    let quick := q.stored.isSome && q.record.getLsbD 47
    setPort p { q with powerGood := if quick then some s.cyc else none, training := if !quick && trains p q.record then 2 else 0 } s
  else s

/-- FASTLINK_FALLBACK: no link 10.0 ms after power-good: the set is discarded and a full link-up follows (R233). -/
def fastFallback (p : Nat) (s : State) : State :=
  let q := getPort p s
  match q.powerGood with
  | some t =>
    if q.up ∨ s.cyc < t + 10 * msCyc then s
    else raiseEv .fastlinkFallback p [] (bump .pwrFastlinkFallback p (setPort p { q with powerGood := none, stored := none, training := if trains p q.record then 2 else 0 } s))
  | none => s

/-- PORT_SET (R228): the record is written; a change of any field other than LLDP_EN restarts the port, which flushes its queues whatever FLUSH_ON_DOWN says (R62), and the stored set becomes invalid (R232). -/
def portSet (p : Nat) (r : BitVec 64) (s : State) : State :=
  let q := getPort p s
  let same := decide (q.record ||| (1 <<< 17) = r ||| (1 <<< 17))
  let s1 := if same then s else flushPort p (portDown p s)
  let q1 := { getPort p s1 with record := r, stored := none, powerGood := none }
  let s2 := setPort p (if same then q1 else { q1 with training := if r.getLsbD 63 && trains p r then 2 else 0 }) s1
  if same ∨ !(isTrib p) ∨ !q.up then s2 else portUp p q.mode q.role false s2

/-- The TLVs of an LLDPDU: type and value, up to an End TLV or the end; none when one runs past the end. -/
def lldpTlvs : Nat → List Byte → Option (List (Nat × List Byte))
  | 0, _ => none
  | fuel + 1, b =>
    if b.isEmpty then some []
    else
      let h := numAt b 0 2
      let n := h % 512
      if b.length < 2 + n then none
      else if h / 512 = 0 then (if n = 0 then some [] else none)
      else (lldpTlvs fuel (b.drop (2 + n))).map (fun l => (h / 512, (b.drop 2).take n) :: l)

/-- What a valid LLDPDU says: chassis subtype and ID, port subtype and ID, TTL (R238). Order and lengths are those of IEEE 802.1AB (log entry 3). -/
def readLldp (pdu : List Byte) : Option (Nat × List Byte × Nat × List Byte × Nat) :=
  if pdu.length > 1500 then none
  else
    match lldpTlvs 751 pdu with
    | some ((1, c) :: (2, p) :: (3, t) :: rest) =>
      if c.length < 2 ∨ c.length > 256 ∨ p.length < 2 ∨ p.length > 256 ∨ t.length < 2 ∨ rest.any (fun x => decide (1 ≤ x.1) && decide (x.1 ≤ 3)) then none
      else some (numAt c 0 1, c.drop 1, numAt p 0 1, p.drop 1, numAt t 0 2)
    | _ => none

/-- LLDP_RX (R238, R239). -/
def lldpReceive (p : Nat) (pdu : List Byte) (s : State) : State :=
  let q := getPort p s
  if !q.up ∨ !(q.record.getLsbD 17) then s
  else
    match readLldp pdu with
    | none => bump .kprLldpBad p s
    | some (ct, ci, pt, pi, ttl) =>
      let s1 := setPort p { q with heard := true, ttlEnds := s.cyc + ttl * 1000 * msCyc } s
      if ttl = 0 then (if q.partner = 1 then s1 else partnerLeaves p 1 s1)
      else if q.partner = 2 ∧ q.chassisType = ct ∧ q.chassis = ci ∧ q.portType = pt ∧ q.portId = pi then s1
      else partnerArrives p ct ci pt pi s1

/-- LLDP_TTL_EXPIRY (R239). -/
def lldpTtlExpire (p : Nat) (s : State) : State :=
  let q := getPort p s
  if q.up ∧ q.partner = 2 ∧ s.cyc ≥ q.ttlEnds then partnerLeaves p 1 s else s

/-- LLDP_WAIT_EXPIRY: no valid LLDPDU since link-up (R239). -/
def lldpWaitExpire (p : Nat) (s : State) : State :=
  let q := getPort p s
  if q.up ∧ !q.heard ∧ q.partner ≠ 1 ∧ s.cyc ≥ q.upAt + q.lldpWait * msCyc then partnerLeaves p 1 s else s

/-- ABSENT_HOLD_EXPIRY: the link has been down for ABSENT_HOLD (R239). -/
def absentHoldExpire (p : Nat) (s : State) : State :=
  let q := getPort p s
  if !q.up ∧ q.partner ≠ 0 ∧ s.cyc ≥ q.downAt + q.absentHold * msCyc then partnerLeaves p 0 s else s

/-- A frame that the Keeper sends enters the fabric at port 27 with its destination and class fixed (R16): only its admission there is to come. -/
def keeperSend (out cls : Nat) (bs : List Byte) (s : State) : State :=
  let f : Frame := { ident := s.fab.nextIdent, entry := 27, keyPort := 27, bytes := bs, ended := true, whole := true, arrived := nowFrac s, stage := .ready,
                     verdict := { ports := [out], cls := cls } }
  settleBytes f.ident (setFab { s.fab with frames := s.fab.frames ++ [f], nextIdent := s.fab.nextIdent + 1 } s)

/-- An untagged Ethernet frame with padding and FCS. -/
def plainFrame (da sa : BitVec 48) (etype : Nat) (body : List Byte) : List Byte :=
  let b := natBytes 6 da.toNat ++ natBytes 6 sa.toNat ++ natBytes 2 etype ++ body
  let b1 := b ++ List.replicate (60 - b.length) 0
  b1 ++ fcs32 b1

/-- A TLV of an LLDPDU (R238): type, length and value as IEEE 802.1AB lays them out (log entry 3). -/
def lldpTlv (t : Nat) (v : List Byte) : List Byte := natBytes 2 (t * 512 + (v.take 511).length) ++ v.take 511

/-- The LLDPDU of a port (R238): chassis ID, port ID, TTL, port description, system name and management address, then the End TLV. -/
def lldpPdu (p ttl : Nat) : List Byte :=
  lldpTlv 1 (Config.lldpValue 1 p) ++ lldpTlv 2 (Config.lldpValue 2 p) ++ lldpTlv 3 (natBytes 2 ttl) ++ lldpTlv 4 (Config.lldpValue 4 p)
    ++ lldpTlv 5 (Config.lldpValue 5 p) ++ lldpTlv 8 (Config.lldpValue 8 p) ++ lldpTlv 0 []

/-- LLDP_TX: four LLDPDUs 1 s apart after link up, then one per interval (R238). Class 7 (log entry 25). -/
def lldpSend (p : Nat) (s : State) : State :=
  let q := getPort p s
  if !q.up ∨ !(q.record.getLsbD 17) ∨ s.cyc < q.lldpNext then s
  else
    let gap := if q.lldpBurst > 1 then 1000 * msCyc else q.lldpInterval * 1000 * msCyc
    keeperSend p 7 (plainFrame 0x0180C200000E (Config.portMac p) 0x88CC (lldpPdu p (Nat.min 65535 (4 * q.lldpInterval))))
      (setPort p { q with lldpNext := s.cyc + gap, lldpBurst := q.lldpBurst - 1 } s)

end Sys2Proof.Machine
end

