-- ==== Sys2Proof/Machine/YelomOps.lean ====
section
/-! DEFINITION. Machine/YelomOps.lean: what every Yelom command shares: the transports, command keys and trailers (R313, R316), replies and events on each transport (R309, R312, R319, R320, R351), and twin frames (R444). -/

namespace Sys2Proof.Machine

/-- The transport of a message's origin (R309). -/
def transportOf : Via → Transport
  | .ring _ => .placket
  | .vlan .. => .vlan
  | .mspi => .mspi

/-- The instance of a transport in the counters that are kept per transport (R336). -/
def transportIx : Transport → Nat
  | .placket => 0
  | .vlan => 1
  | .mspi => 2

/-- A transport's state. -/
def getTrans (t : Transport) (s : State) : Trans :=
  match t with
  | .placket => s.yel.placket
  | .vlan => s.yel.vlan
  | .mspi => s.yel.mspi

/-- Replace a transport's state. -/
def setTrans (t : Transport) (x : Trans) (s : State) : State :=
  match t with
  | .placket => { s with yel := { s.yel with placket := x } }
  | .vlan => { s with yel := { s.yel with vlan := x } }
  | .mspi => { s with yel := { s.yel with mspi := x } }

/-- Replace the service's state. -/
def setYel (y : Yelom) (s : State) : State := { s with yel := y }

/-- The transport's own command key, when its slot is set and passes R269 with master Keeper, world Trusted and use HMAC (R316). -/
def ownKey (t : Transport) (s : State) : Option (List Byte) :=
  match (getTrans t s).keySlot with
  | none => none
  | some n => if mayUse n .keeper .trusted .hmac s && !(isStale n none s) then some (slotValue n s) else none

/-- The Keeper asks the Thimble for a transport's own command key when a trailer is checked: a key that it delivers is split under a fresh mask, and a refusal is counted at the slot (R266, R269, R316). -/
def askKey (t : Transport) (s : State) : State :=
  match (getTrans t s).keySlot with
  | some n => if domainRuns 7 s && (lcState s == 1 || lcState s == 2) then (fetchKey n none .keeper .trusted .hmac s).2 else s
  | none => s

/-- The owner command key, usable in FIELD only (R316), and not under R468. -/
def ownerKey (s : State) : Option (List Byte) :=
  if lcState s = 2 ∧ rootAlive 2 s ∧ !(vendorDebug s) then some (kdf (rootValue 2 s) "YLMOWNER" [] 32) else none

/-- The service command key, usable in SERVICE only (R316). -/
def serviceKey (s : State) : Option (List Byte) :=
  if lcState s = 3 ∧ rootAlive 1 s then some (kdf (rootValue 1 s) "YLMSERVICE" [] 32) else none

/-- The key that authenticates a transport's messages in the current lifecycle state (R315, R316). -/
def commandKey (t : Transport) (s : State) : Option (List Byte) :=
  match lcState s with
  | 1 => ownKey t s
  | 2 => (ownKey t s).or (ownerKey s)
  | 3 => serviceKey s
  | _ => none

/-- Whether a transport uses the owner command key now (R316, R317). -/
def usesOwner (t : Transport) (s : State) : Bool := decide (lcState s = 2) && (ownKey t s).isNone && (ownerKey s).isSome

/-- A transport that begins or ceases to use the owner command key starts its sequence again (R317). -/
def refreshOwner (t : Transport) (s : State) : State :=
  let x := getTrans t s
  if x.ownerUsed = usesOwner t s then s else setTrans t { x with ownerUsed := usesOwner t s, lastSeq := 0, reserved := 0 } s

/-- Every transport checked for R317's change of key. -/
def refreshKeys (s : State) : State := refreshOwner .mspi (refreshOwner .vlan (refreshOwner .placket s))

/-- The 16-byte header of a message (R310). -/
def headerBytes (b0 cls opcode tag plen seq status : Nat) : List Byte :=
  natBytes 1 b0 ++ natBytes 1 cls ++ natBytes 2 opcode ++ natBytes 2 tag ++ natBytes 2 plen ++ natBytes 4 seq ++ natBytes 2 status ++ natBytes 2 0

/-- The trailer of a message under a key: the leftmost 16 bytes of its HMAC-SHA-256 (R316). -/
def trailer (key : Option (List Byte)) (bs : List Byte) : List Byte :=
  match key with
  | some k => (hmacSha256 k bs).take 16
  | none => []

/-- A reply (R312, R313). -/
def replyBytes (cls opcode : Nat) (m : Msg) (status : Status) (result : List Byte) (replicated : Bool) (key : Option (List Byte)) : List Byte :=
  let h := headerBytes (0x18 + (if key.isSome then 4 else 0) + (if replicated then 2 else 0)) cls opcode m.tag.toNat result.length m.seq.toNat status.code
  h ++ result ++ trailer key (h ++ result)

/-- A message in a frame of the management VLAN with EtherType 0x88B5, in class 6 (R309, R319). -/
def vlanFrame (da sa : BitVec 48) (vid : BitVec 12) (bs : List Byte) : List Byte :=
  let b := natBytes 6 da.toNat ++ natBytes 6 sa.toNat ++ natBytes 2 0x8100 ++ natBytes 2 (6 * 8192 + vid.toNat) ++ natBytes 2 0x88B5 ++ bs
  let b1 := b ++ List.replicate (60 - b.length) 0
  b1 ++ fcs32 b1

/-- A reply goes back the way its command came: it waits for a place in its completion ring or for an MSPI read, or leaves at once on the management VLAN. `counted` when its command is outstanding until then (R312, R319, R320, R351). -/
def sendReply (via : Via) (counted : Bool) (bs : List Byte) (s : State) : State :=
  match via with
  | .vlan p sa da vid =>
    let x := s.yel.vlan
    keeperSend p.val 6 (vlanFrame sa da vid bs) (setTrans .vlan { x with outstanding := if counted then x.outstanding - 1 else x.outstanding } s)
  | _ =>
    let t := transportOf via
    let x := getTrans t s
    setTrans t { x with replies := x.replies ++ [(via, counted, bs)] } s

/-- Reply to a command with a status and no result, unless the status is OK. -/
def replyTo (cls opcode : Nat) (m : Msg) (counted : Bool) (status : Status) (result : List Byte) (replicated : Bool) (s : State) : State :=
  sendReply m.via counted (replyBytes cls opcode m status result replicated (commandKey (transportOf m.via) s)) s

/-- An accepted command that ends before it executed (R333, R334). -/
def replyAborted (a : Accepted) (s : State) : State :=
  replyTo a.cls a.opcode a.msg true .aborted [] false (bump .kprCmdAborted (transportIx (transportOf a.msg.via)) s)

/-- Every command accepted and not executed completes with ABORTED (R333, R334). -/
def abortQueued (s : State) : State :=
  let q := (match s.yel.waiting with | some w => [w.1] | none => []) ++ s.yel.queue
  forEach q replyAborted (setYel { s.yel with waiting := none, queue := [] } s)

/-- REPLY_WRITE: the oldest reply that waits for a pair's completion ring is written while the ring has a free slot; its command is then no longer outstanding (R351). -/
def writeReply (c : Nat) (s : State) : State :=
  let x := s.yel.placket
  let mine (e : Via × Bool × List Byte) : Bool := match e.1 with | .ring k => decide (k.val = c) | _ => false
  match x.replies.find? mine with
  | none => s
  | some e =>
    if cplFull c s ∨ !(domainRuns 14 s) then s
    else
      writeCompletion c e.2.2 (setTrans .placket { x with replies := x.replies.erase e, outstanding := if e.2.1 then x.outstanding - 1 else x.outstanding } s)

/-- MSPI READ: the oldest reply, else the oldest event, else sixteen bytes of 0 (R320). -/
def readMspi (s : State) : State :=
  let x := s.yel.mspi
  match x.replies with
  | e :: rest => emit (.mspi e.2.2) (setTrans .mspi { x with replies := rest, outstanding := if e.2.1 then x.outstanding - 1 else x.outstanding } s)
  | [] =>
    match x.events with
    | e :: rest => emit (.mspi e) (setTrans .mspi { x with events := rest } s)
    | [] => emit (.mspi (List.replicate 16 0)) s

/-- Whether MSPI can take a WRITE: the service runs, and its buffer holds no message that waits for the end of a pause (R320, R333). -/
def mspiReady (s : State) : Bool := keeperRuns s && s.yel.parked.all (fun p => p.1 != .mspi)

/-- MSPI STATUS (R320). -/
def statusMspi (s : State) : State :=
  let b := (if mspiReady s then 1 else 0) + (if s.yel.mspi.replies.isEmpty then 0 else 2) + (if s.yel.mspi.events.isEmpty then 0 else 4)
  emit (.mspi [BitVec.ofNat 8 b]) s

/-- The parameters of an event message (R326). -/
def eventParams (e : Ev) (inst : Nat) (detail : List Byte) (s : State) : List Byte :=
  let d := detail.take 64
  nowBytes s ++ natBytes 2 (Config.eventBlock e.ctorIdx).toNat ++ natBytes 2 inst ++ natBytes 2 d.length ++ natBytes 2 0 ++ d

/-- The event message for a transport (R326). -/
def eventMessage (t : Transport) (e : Ev) (params : List Byte) (s : State) : List Byte :=
  let key := if lcState s = 2 ∨ lcState s = 3 then commandKey t s else none
  let h := headerBytes (0x11 + (if key.isSome then 4 else 0)) e.cls (Config.eventCode e.ctorIdx).toNat 0 params.length (getTrans t s).eventCount.toNat 0
  h ++ params ++ trailer key (h ++ params)

/-- Deliver an event to a transport that subscribes to its class; one that cannot take it at once drops it, counted (R320, R326, R351). -/
def deliverEvent (t : Transport) (e : Ev) (params : List Byte) (s : State) : State :=
  let x := getTrans t s
  if !(x.eventMask.getLsbD e.cls) then s
  else
    let b := eventMessage t e params s
    let s1 := setTrans t { x with eventCount := x.eventCount + 1 } s
    let lost := bump .kprEventDrop (transportIx t) s1
    match t, x.eventTo with
    | .mspi, _ => if x.events.length ≥ 16 then lost else setTrans .mspi { s1.yel.mspi with events := x.events ++ [b] } s1
    | .placket, some (.ring c) => if cplFull c.val s ∨ !(domainRuns 14 s) then lost else writeCompletion c.val b s1
    | .vlan, some (.vlan p sa da vid) => keeperSend p.val 6 (vlanFrame sa da vid b) s1
    | _, _ => lost

/-- The Keeper takes an event: it is written to the MRAM log and goes to every transport that subscribes to its class (R326). -/
def takeEvent (e : Ev × List Byte) (s : State) : State :=
  let entry := ((Config.logEntry e.1.ctorIdx s.boot.eventTotal e.2) ++ List.replicate 96 0).take 96
  let s1 := { s with boot := { s.boot with events := (s.boot.events ++ [entry]).drop (s.boot.events.length + 1 - 19114), eventTotal := s.boot.eventTotal + 1 } }
  forEach [Transport.placket, .vlan, .mspi] (fun t x => deliverEvent t e.1 e.2 x) s1

/-- An event frame for fabric port 27 (R20): it waits at a cell builder for its admission, like any other frame (R19; log entry 77). -/
def postEvent (e : Ev × List Byte) (s : State) : State :=
  let f : Frame := { ident := s.fab.nextIdent, entry := 27, keyPort := 27, bytes := e.2, ended := true, whole := true, arrived := nowFrac s, stage := .ready,
                     verdict := { ports := [27] }, event := some e }
  settleBytes f.ident (setFab { s.fab with frames := s.fab.frames ++ [f], nextIdent := s.fab.nextIdent + 1 } s)

/-- A twin frame on T0: EtherType 0x88B5, class 6, its SEQ one above the last (R444, R445). -/
def sendTwin (kind : Nat) (gen : BitVec 32) (body : List Byte) (s : State) : State :=
  let seq := s.twin.txSeq
  let h := natBytes 1 0xF0 ++ natBytes 1 kind ++ natBytes 2 body.length ++ natBytes 4 seq.toNat ++ natBytes 4 gen.toNat ++ natBytes 4 0
  keeperSend 26 6 (plainFrame Config.twinMac (Config.portMac 26) 0x88B5 (h ++ body)) { s with twin := { s.twin with txSeq := seq + 1 } }

end Sys2Proof.Machine
end

