-- ==== Sys2Proof/Machine/SafetyOps.lean ====
section
/-! DEFINITION. Machine/SafetyOps.lean: the Lamp room's reactions, the safe state and its release, the Keeper's resets and watchdog (R413-R433), the debug state and the test port (R460-R474), and the clocks (R376-R388). -/

namespace Sys2Proof.Machine

/-- Replace the Lamp room. -/
def setLamp (x : Lamp) (s : State) : State := { s with lamp := x }

/-- Replace the Keeper. -/
def setKpr (x : Keeper) (s : State) : State := { s with kpr := x }

/-- Replace the twin state. -/
def setTwin (x : Twin) (s : State) : State := { s with twin := x }

/-- Replace power and clocks. -/
def setPwr (x : Power) (s : State) : State := { s with pwr := x }

/-- Replace the boot and MRAM state. -/
def setBoot (x : Boot) (s : State) : State := { s with boot := x }

/-- The role that a twin state has (R440, DEVICE_INFO): 0 none, 1 active, 2 standby. -/
def twinRole (s : State) : Nat :=
  if s.twin.mode ≠ 1 then 0
  else match s.twin.st with
    | .wait => 0
    | .solo => 1
    | .active => 1
    | _ => 2

/-- Enter a twin state; a change of role sets the cause of vector 6 (R440). ACTIVE_N is driven low in control and released otherwise (R439), and the CAN channels change between normal and listen-only (R447). -/
def enterTwin (m : TwinMode) (s : State) : State :=
  let s1 := setTwin { s.twin with st := m, since := s.cyc } s
  let s2 := if twinRole s1 ≠ twinRole s then sideCause 6 s1 else s1
  if inControl s1 = inControl s then s2
  else forUpTo 16 (fun ch t => setTransceiver ch (if inControl s1 then t else requeueSending ch t)) (emit (.pin .activeN (!(inControl s1))) s2)

/-- A relinquish is noted: the third within one hour suppresses takeback, with an event (R455). -/
def noteRelinquish (s : State) : State :=
  let l := (s.cyc :: s.twin.relinquishes).filter (fun t => decide (s.cyc < t + 3600000 * msCyc))
  let s1 := setTwin { s.twin with relinquishes := l, suppressed := s.twin.suppressed || decide (l.length ≥ 3) } s
  if l.length ≥ 3 ∧ !s.twin.suppressed then raiseEv .twinFault 0 [] s1 else s1

/-- A self-detected failure in whole-unit mode (R451): a module in control with a partner relinquishes, a standby becomes RELINQUISHED; the heartbeat pin is held low. -/
def relinquishSelf (s : State) : State :=
  if s.twin.mode ≠ 1 then s
  else
    match s.twin.st with
    | .wait => s
    | .relinquished => s
    | _ =>
      if inControl s ∧ s.twin.partner.isNone then s
      else
        let s0 := enterTwin .relinquished s
        let s1 := emit (.pin .twinHbOut false) (setTwin { s0.twin with hbOut := false, granting := none } s0)
        if !(inControl s) then s1
        else
          let s2 := noteRelinquish (raiseEv .twinRelinquish 0 [] (bump .twinRelinquish 0 s1))
          abortQueued (if keeperRuns s then sendTwin 7 0 [] s2 else s2)

/-- The reactions of R420. -/
inductive Reaction where
  | safe | safeKeeper | report
  deriving DecidableEq, Repr

/-- The reaction to a mechanism's detection (R420): 0x05 stands here for its double-bit errors and 0x09 for 130 °C; their milder cases report only. -/
def reactionOf (mech : Nat) : Reaction :=
  if mech ≤ 6 then .safeKeeper else if mech = 0x0D ∨ mech = 0x0E ∨ mech ≥ 0x11 then .report else .safe

/-- A fault code is latched once, with the time of the first; a ninth is counted instead (R421). -/
def latchCode (c : BitVec 16) (s : State) : State :=
  let l := s.lamp
  if l.codes.contains c then s
  else if l.codes.length ≥ 8 then bump .lampCodeOvf 0 s
  else setLamp { l with codes := l.codes ++ [c], firstTime := if l.codes.isEmpty then nowBytes s else l.firstTime, restarted := if l.codes.isEmpty then false else l.restarted } s

/-- FAULT_N is asserted (low) or released (R416, R482). -/
def driveFault (on : Bool) (s : State) : State := if s.lamp.faultN = on then s else emit (.pin .faultN (!on)) (setLamp { s.lamp with faultN := on } s)

/-- The safe state is entered (R416, R417): gates closed, FAULT_N low, the cause of vector 5 set; in a twin pair control is given up. -/
def enterSafe (s : State) : State :=
  if s.lamp.safe then s
  else
    let s1 := driveFault true (setLamp { s.lamp with safe := true } s)
    relinquishSelf (raiseEv .safeEntry 0 [] (sideCause 5 (closeAllGates (bump .lampSafeEntry 0 s1))))

/-- A transport after a reset: nothing outstanding, nothing held, the stored reservation as its last accepted sequence, its staging buffer empty and its subscription gone (R317, R329, R332). -/
def Trans.afterReset (t : Trans) (now : Nat) : Trans :=
  { t with lastSeq := t.reserved, tokens := t.depth * 500000000, tokensAt := now, outstanding := 0, lockedUntil := 0, fails := [],
           eventMask := 0, eventCount := 0, eventTo := none, staged := [], replies := [], events := [] }

/-- The Yelom service after a reset of the module or the Keeper (R332). -/
def resetYelom (s : State) : State :=
  setYel { ({} : Yelom) with placket := s.yel.placket.afterReset s.cyc, vlan := s.yel.vlan.afterReset s.cyc, mspi := s.yel.mspi.afterReset s.cyc } s

/-- The Keeper pair is held in reset: its service, mailbox rings, debug state and TCM are reset, and the boot is counted; the data plane goes on (R24, R352, R428, R461, R475, R476). -/
def resetPair (source : Nat) (s : State) : State :=
  let s1 := setKpr { ({} : Keeper) with restartAt := s.kpr.restartAt, recovery := s.kpr.recovery } (closeDebug (resetMailbox (resetYelom s)))
  { s1 with boot := { s1.boot with count := s1.boot.count + 1, last := source }, bod := { s1.bod with invocation := [] } }

/-- A Keeper reset (R475): in whole-unit mode the twin agent begins in WAIT, unless the module has relinquished (R441, R442). -/
def resetKeeper (source : Nat) (s : State) : State :=
  let s0 := if s.twin.mode = 1 ∧ s.twin.st ≠ .relinquished then
      let u := enterTwin .wait s
      setTwin { ({} : Twin) with mode := 1, holdOff := u.twin.holdOff, since := u.cyc, txSeq := u.twin.txSeq, gen := u.twin.gen, relinquishes := u.twin.relinquishes,
                                 suppressed := u.twin.suppressed, hbOut := u.twin.hbOut, hbNext := u.twin.hbNext } u
    else s
  resetPair source s0

/-- A fault with reaction S+K resets the Keeper; a second within 1 s of the restart leaves it halted (R428). -/
def faultKeeper (s : State) : State :=
  if s.kpr.halted then s
  else
    let again := match s.kpr.restartAt with
      | some t => decide (s.cyc < t + 1000 * msCyc)
      | none => false
    let s1 := bump .kprRestart 0 (resetKeeper 4 s)
    if again then setKpr { s1.kpr with halted := true } s1 else s1

/-- A report-only detection: counted, with its event (R420). -/
def reportFault (mech inst : Nat) (s : State) : State :=
  raiseEv .safetyReport inst [BitVec.ofNat 8 mech, if s.lamp.injected then 1 else 0] (bump .lampDetect mech s)

/-- The Lamp room reacts to one detection (R417, R420, R421); during a boot it is latched, and the safe state is entered at load completion (R490). -/
def reactTo (f : Nat × Nat) (s : State) : State :=
  let r := reactionOf f.1
  if r = .report then reportFault f.1 f.2 s
  else
    let s1 := setLamp { s.lamp with lastS := some s.cyc } (bump .lampDetect f.1 s)
    let s2 := raiseEv .safetyReport f.2 [BitVec.ofNat 8 f.1, if s.lamp.injected then 1 else 0] (latchCode (BitVec.ofNat 16 (f.1 * 256 + f.2)) s1)
    let s3 := if f.1 = 7 ∧ f.2 = 2 then latchCode 0x0700 s2 else s2
    let s4 := if s.boot.booted || s.kpr.up then enterSafe s3 else setLamp { s3.lamp with safe := true } s3
    if r = .safeKeeper then faultKeeper s4 else s4

/-- The detections of a command, in the order of their mechanism (R432). -/
def reactAll (s : State) : State :=
  let fs := sortBy (fun a b => decide (a.1 ≤ b.1)) s.faults
  let s1 := forEach fs reactTo { s with faults := [] }
  setLamp { s1.lamp with injected := false } s1

/-- Whether the mechanisms are powered: they are off in DEEP and OFF (R430, R472). -/
def mechanismsOn (s : State) : Bool := !(s.pwr.state == .deep || s.pwr.state == .off)

/-- A mechanism detects a fault of the running Keeper pair (R423-R426, R429, R432). -/
def keeperFault (mech : Nat) (s : State) : State := if s.kpr.up && mechanismsOn s then detectFault mech 0 s else s

/-- A mechanism detects a fault of its block. -/
def blockFault (mech inst : Nat) (s : State) : State := if mechanismsOn s then detectFault mech inst s else s

/-- A check that pauses in DOZE with CORE: 0x0A and 0x0B (R430). -/
def coreCheck (mech inst : Nat) (s : State) : State := if s.pwr.state = .doze then s else blockFault mech inst s

/-- RAIL_FAULT of a powered domain (R420). -/
def railFault (d : Nat) (s : State) : State := if poweredNow d s then blockFault 8 d s else s

/-- TEMPERATURE_THRESHOLD (R420): 130 °C is the safe state, 125 °C a report. -/
def temperature (sensor : Nat) (c : Int) (s : State) : State :=
  let s1 := setPwr { s.pwr with temps := mapSet 0 s.pwr.temps sensor c } s
  if !(mechanismsOn s) then s1 else if c ≥ 130 then detectFault 9 sensor s1 else if c ≥ 125 then reportFault 9 sensor s1 else s1

/-- TCM_ECC_ERROR (R420). -/
def tcmEcc (double : Bool) (s : State) : State :=
  if !(mechanismsOn s) then s else if double then detectFault 5 0 s else reportFault 5 0 (bump .lampEccCorr 0 s)

/-- MEMORY_SCRUB: the words read in this pass, with the double-bit errors that an injection planted (R420, R422). -/
def scrub (tcm tables : Ecc) (s : State) : State :=
  if !(mechanismsOn s) then s
  else
    let p := s.lamp.planted
    let s0 := if p = 0 then s else setLamp { s.lamp with planted := 0, injected := true } s
    let s1 := if p.getLsbD 0 then detectFault 5 0 s0 else match tcm with
      | .clean => s0
      | .corrected => tcmEcc false s0
      | .uncorrectable => detectFault 5 0 s0
    if p.getLsbD 1 then detectFault 12 0 s1 else match tables with
      | .clean => s1
      | .corrected => bump .lampEccCorr 1 s1
      | .uncorrectable => detectFault 12 0 s1

/-- WATCHDOG_SERVICE: a plane sets its bit; with both set the period restarts (R429). -/
def watchdogService (management : Bool) (s : State) : State :=
  if !(keeperRuns s) then s
  else
    let k := { s.kpr with mgmtBit := s.kpr.mgmtBit || management, ctrlBit := s.kpr.ctrlBit || !management }
    setKpr (if k.mgmtBit && k.ctrlBit then { k with mgmtBit := false, ctrlBit := false, wdFrom := s.cyc } else k) s

/-- WATCHDOG_EXPIRY: 1.0 ms without a service; held in DOZE, and in a firmware switch until 3 ms after the pause began (R429). -/
def watchdogExpire (s : State) : State :=
  let due : Bool := match s.yel.pauseUntil with
    | some t => decide (s.cyc ≥ t + msCyc)
    | none => decide (s.cyc ≥ s.kpr.wdFrom + msCyc)
  if s.kpr.wdActive ∧ s.pwr.state ≠ .doze ∧ due then keeperFault 6 s else s

/-- GATE_TOKEN_TIMEOUT: the gate logic closes the gates of every port that is not safe-open (R430). -/
def tokenTimeout (s : State) : State :=
  if !(mechanismsOn s) ∨ s.pwr.state = .doze then s else closeAllGates (setLamp { s.lamp with tokenLost := true } s)

/-- The gates that had been closed follow their lists again (R419). -/
def reopenGates (s : State) : State := replaceAllGates s

/-- SAFE_RELEASE (R419, R465). Conditions of codes with no clearing row are absent when their monitor has not detected them again (log entry 32). -/
def safeRelease (s : State) : CmdResult :=
  let hot : Bool := (List.range 4).any (fun i => decide (mapGet 0 s.pwr.temps i ≥ 120))
  let recent : Bool := match s.lamp.lastS with
    | some t => decide (s.cyc < t + 10 * msCyc)
    | none => false
  let pins : Bool := s.dbg.ir == 0 || s.dbg.ir == 3 || s.dbg.ir == 4
  if !s.lamp.safe then failed .notInState s
  else if hot ∨ recent ∨ pins ∨ s.pwr.unlocked &&& s.pwr.powered ≠ 0 ∨ !s.kpr.testPassed ∨ !s.faults.isEmpty then failed .denied s
  else
    let detail := s.lamp.codes.flatMap (fun (c : BitVec 16) => natBytes 2 c.toNat)
    let s1 := driveFault false (setLamp { s.lamp with safe := false, codes := [], firstTime := [], restarted := false, tokenLost := false } s)
    done [] (raiseEv .safeRelease 0 detail (sideCause 5 (bump .lampRelease 0 (reopenGates s1))))

/-- SAFE_OPEN_SET: in the safe state newly marked ports follow their lists, unmarked ports close (R416, R432). -/
def setSafeOpen (mask : BitVec 32) (s : State) : State :=
  let old := s.lamp.safeOpen
  let s1 := setLamp { s.lamp with safeOpen := mask } s
  if s.lamp.safe ∨ s.lamp.tokenLost then
    reopenGates (forUpTo 27 (fun p t => if old.getLsbD p && !(mask.getLsbD p) then closeGatesAt p t else t) s1)
  else s1

/-- Whether a fault code names a mechanism of R420 and an instance of it (R421, R422). -/
def codeOk (mech inst : Nat) : Bool :=
  decide (1 ≤ mech) && decide (mech ≤ 0x13) &&
    (match mech with
    | 0x0A => decide (inst < 27)
    | 7 => decide (inst < 8)
    | 8 => decide (inst < 16)
    | 9 => decide (inst < 4)
    | 0x12 => decide (inst < 64)
    | _ => decide (inst = 0))

/-- FAULT_INJECT: the mechanism detects once; 0x05 and 0x0C plant an error for the scrubber (R422). -/
def inject (code : Nat) (s : State) : CmdResult :=
  let mech := code / 256
  if lcState s ≠ 1 ∧ lcState s ≠ 3 then failed .notInState s
  else if !(codeOk mech (code % 256)) then failed .denied s
  else if mech = 5 then done [] (setLamp { s.lamp with planted := s.lamp.planted ||| 1 } s)
  else if mech = 0x0C then done [] (setLamp { s.lamp with planted := s.lamp.planted ||| 2 } s)
  else done [] (detectFault mech (code % 256) (setLamp { s.lamp with injected := true } s))

/-- LAMP_STATUS reply (R421). -/
def lampReply (s : State) : List Byte :=
  let l := s.lamp
  let b := (if l.safe then 128 else 0) + (if l.faultN then 64 else 0) + (if l.restarted then 32 else 0)
  natBytes 1 b ++ natBytes 1 l.codes.length ++ natBytes 2 0 ++ (l.firstTime ++ List.replicate 12 0).take 12
    ++ (l.codes.flatMap (fun (c : BitVec 16) => natBytes 2 c.toNat) ++ List.replicate 16 0).take 16

/-- The clock domains' power domains (R376, R421): the bits of the domains whose monitored clock has a number. -/
def clockDomains (clock : Nat) : BitVec 16 :=
  match clock with
  | 3 => 0x0002
  | 4 => 0x00FC
  | 5 => 0x8000
  | 6 => 0x2000
  | 7 => 0x4000
  | _ => 0

/-- CLOCK_FAULT of a clock that is monitored now, which a gated one is not (R377, R378): counted, an event, reported to the Lamp room; the clock is held off until its PLL locks. A disagreement of the monitor oscillator with the reference is a fault of both. -/
def clockFails (clock : Nat) (s : State) : State :=
  if !(mechanismsOn s) ∨ (clock ≥ 3 ∧ clockDomains clock &&& s.pwr.powered = 0) ∨ (clock = 4 ∧ s.pwr.state = .doze) then s
  else
    let s1 := setPwr { s.pwr with unlocked := s.pwr.unlocked ||| (clockDomains clock &&& s.pwr.powered) } s
    let s2 := raiseEv .clockFault clock [] (bump .pwrClkFault clock s1)
    detectFault 7 clock (if clock = 2 then raiseEv .clockFault 0 [] (bump .pwrClkFault 0 s2) else s2)

/-- PLL_LOCK: the domain's clock is released; its crossings then resynchronise (R377, R386). -/
def pllLocks (d : Nat) (s : State) : State :=
  if !(poweredNow d s) ∨ !(s.pwr.unlocked.getLsbD d) then s
  else
    let s1 := setPwr { s.pwr with unlocked := s.pwr.unlocked &&& ~~~(BitVec.twoPow 16 d), resync := s.pwr.resync ||| BitVec.twoPow 16 d } s
    if d = 1 ∧ !s.lamp.safe ∧ s.lamp.tokenLost then reopenGates (setLamp { s1.lamp with tokenLost := false } s1) else s1

/-- RESYNC_COMPLETE: discarded FIFO entries are counted, lost pulses set the overflow flag, frames cut by the discard end under R40; with the clock of a side stopped the handshake does not complete (R386). -/
def resyncDone (d discarded lostPulses : Nat) (s : State) : State :=
  if !(clockRuns d s) then s
  else
    let s1 := setPwr { s.pwr with resync := s.pwr.resync &&& ~~~(BitVec.twoPow 16 d),
                                  overflow := if lostPulses = 0 then s.pwr.overflow else mapSet false s.pwr.overflow d true } s
    let s2 := bumpBy discarded .pwrCdcResync d s1
    if discarded = 0 then s2
    else forUpTo 27 (fun p t => if portDomain p = d then (match receiving p t with | some f => endAtPort p f.ident f.received .lost t | none => t) else t) s2

/-- A domain is latched as stopped by an initiator's timeout (R368, R384, R420). -/
def latchStopped (initiator d : Nat) (s : State) : State :=
  let s1 := setPlk { s.plk with stopped := s.plk.stopped ||| BitVec.twoPow 16 d } s
  detectFault 0x13 d (raiseEv .domainStopped d [] (sideCause 8 (bump .pwrInitTimeout initiator s1)))

/-- KEEPER_SELF_TEST_DONE: a Keeper held in reset restarts, or stays halted (R419, R421, R428). -/
def selfTest (pass : Bool) (s : State) : State :=
  if s.kpr.up ∨ s.kpr.halted ∨ !s.boot.booted then s
  else if !pass then setKpr { s.kpr with halted := true } s
  else
    let s1 := setKpr { s.kpr with up := true, testPassed := true, wdActive := true, wdFrom := s.cyc, restartAt := if s.boot.last = 4 then some s.cyc else s.kpr.restartAt } s
    raiseEv .keeperRestart 0 [] (setLamp { s1.lamp with restarted := !s1.lamp.codes.isEmpty } s1)

/-- Whether an instruction that drives or may drive the pins is permitted (R464). -/
def pinsPermitted (s : State) : Bool :=
  lcState s == 0 || (s.lamp.safe && (match s.dbg.state with | .auth 2 _ => true | _ => false))

/-- Whether Keeper debug is open (R464). -/
def debugOpen (s : State) : Bool := lcState s == 0 || s.dbg.state != .closed

/-- Load a test port instruction when its condition holds, else BYPASS, counted (R464); in DEEP and OFF the port is unpowered (R471, R472). -/
def loadIr (code : Byte) (ok : Bool) (s : State) : State :=
  if !(mechanismsOn s) then s
  else if ok then { s with dbg := { s.dbg with ir := code } }
  else bump .thmDbgRefused 0 { s with dbg := { s.dbg with ir := 0xFF } }

/-- The DBG_STATUS register (R466). -/
def dbgStatus (s : State) : Nat :=
  lcState s * 32 + (match s.dbg.state with
    | .closed => 0
    | .auth l v => 8 + l * 2 + (if v then 1 else 0)
    | .opened => 16 + 4)

/-- DBG_LOCK: the debug state returns to Closed (R461, R464). -/
def debugLock (s : State) : State :=
  let s1 := loadIr 0x11 (decide (lcState s ≠ 0)) s
  if mechanismsOn s && decide (lcState s ≠ 0) then closeDebug s1 else s1

/-- DEBUG_CHALLENGE (R462). -/
def debugChallenge (s : State) : CmdResult :=
  if s.thm.rngFault then failed .denied s
  else
    let d := drawBytes 32 s
    done d.1 { d.2 with thm := { d.2.thm with dbgNonce := some (d.1, s.cyc + 60000 * msCyc) } }

/-- DEBUG_NONCE_EXPIRY (R462). -/
def debugNonceExpire (s : State) : State :=
  match s.thm.dbgNonce with
  | some (_, t) => if s.cyc ≥ t then { s with thm := { s.thm with dbgNonce := none } } else s
  | none => s

/-- A debug token under a root (R463). -/
def debugToken (r : Nat) (nonce : List Byte) (level : Nat) (s : State) : List Byte :=
  hmacSha256 (kdf (rootValue r s) "THMDBG" [] 32) (nonce ++ natBytes 1 (lcState s) ++ natBytes 1 level ++ [Config.revision] ++ natBytes 8 Config.serial.toNat)

/-- The roots that may authorise a level in a lifecycle state, root 1 first (R463). -/
def debugRoots (lc level : Nat) : List Nat :=
  match lc with
  | 1 => [1, 2]
  | 2 => if level = 1 then [1, 2] else [2]
  | 3 => [1]
  | _ => []

/-- DEBUG_UNLOCK (R461-R463). -/
def debugUnlock (level : Nat) (token : List Byte) (s : State) : CmdResult :=
  let lc := lcState s
  if lc = 0 ∨ lc = 4 then failed .notInState s
  else if level > 2 then failed .denied s
  else if level = 0 then
    (if token.all (· == 0) then done [] (closeDebug s) else failed .denied s)
  else
    let used : State := { s with thm := { s.thm with dbgNonce := none } }
    let bad := failed .denied (bump .thmDbgAuthFail 0 used)
    match s.thm.dbgNonce with
    | none => bad
    | some (nonce, ends) =>
      if s.cyc ≥ ends then bad
      else
        match (debugRoots lc level).find? (fun r => rootAlive r s && decide (token = debugToken r nonce level s)) with
        | none => bad
        | some r =>
          done [] (raiseEv .debugOpened 0 [BitVec.ofNat 8 level, BitVec.ofNat 8 r] (bump .thmDbgOpen 0 { used with dbg := { used.dbg with state := .auth level (decide (r = 1)) } }))

/-- DEBUG_ACTION (R431): applied to the main core and recorded for the checker; needs DBG_ACCESS. The replay buffer of 64 entries drains within two cycles of each action, so no action finds it full here (log entry 33). -/
def debugAct (a : DebugAct) (s : State) : State :=
  if s.dbg.ir ≠ 0x12 ∨ !(mechanismsOn s) then s
  else if !s.kpr.up then { s with dbg := { s.dbg with busy := true } }
  else if !(debugOpen s) then s
  else
    let s0 : State := { s with dbg := { s.dbg with busy := false } }
    let k := s.kpr
    match a with
    | .halt => setKpr { k with dbgHalt := true } s0
    | .step => s0
    | .resume => setKpr { k with dbgHalt := false } s0
    | .readReg r => emit (.testData (natBytes 4 (mapGet 0 k.regs r).toNat)) s0
    | .writeReg r v => setKpr { k with regs := mapSet 0 k.regs r v } s0
    | .readTcm i => emit (.testData (natBytes 4 (mapGet 0 k.tcm i).toNat)) s0
    | .writeTcm i v => setKpr { k with tcm := mapSet 0 k.tcm i v } s0
    | .breakpoint i => setKpr { k with breakpoints := k.breakpoints ++ [i] } s0

end Sys2Proof.Machine
end

