-- ==== Sys2Proof/Machine/SelvageOps.lean ====
section
/-! DEFINITION. Machine/SelvageOps.lean: the Selvage links: alignment, superframes, threads, overhead channels, defects and the hitch sequence (R191-R226). Headers are the 16 bytes of blocks 0 and 1. -/

namespace Sys2Proof.Machine

/-- The CRC-16 of R194. -/
def crc16 (m : List Byte) : Nat := crcMsb 16 0x1021 0xFFFF m

/-- HCRC of a header: over bytes 0-5 of block 0 and bytes 0-7 of block 1 (R194). -/
def headerCrc (h : List Byte) : Nat := crc16 (h.take 6 ++ (h.drop 8).take 8)

/-- Whether a header carries ALIGN_WORD and a valid HCRC (R196). -/
def headerOk (h : List Byte) : Bool := h.length == 16 && numAt h 0 4 == 0x5E1AC6F9 && numAt h 6 2 == headerCrc h

/-- SFN of a header. -/
def headerSfn (h : List Byte) : Nat := numAt h 4 2

/-- ENABLE of a link. -/
def SelLinkSt.enabled (x : SelLinkSt) : Bool := x.record.getLsbD 63 

/-- Whether a link is a follower (R214). -/
def SelLinkSt.follower (x : SelLinkSt) : Bool := x.record.getLsbD 62

/-- The defects with their bits in LINK_STATUS (R330). -/
def Defects.bits (d : Defects) : Nat :=
  flagBits [d.unhitch, d.hitchFail, d.qualFail, d.discStale, d.mapMis, d.rdiRx, d.mimic, d.lof, d.lob, d.los]

/-- Change a link's defects, with an event when one sets or clears (R213). -/
def setDefects (l : Nat) (d : Defects) (s : State) : State :=
  let x := getLink l s
  let s1 := setLink l { x with defects := d } s
  if d = x.defects then s1 else raiseEv .selDefect l (natBytes 2 d.bits) s1

/-- The Keeper applies a link's zones: the tributary's port and its eight virtual channels (R222). -/
def applyLinkZones (l trib vc : Nat) (s : State) : State :=
  applyZones (forUpTo 8 (fun v t => decideZone (32 + 16 + 8 * l + v) vc t) (decideZone (24 + l) trib s))

/-- The zones that a zone table gives a link: by IMPL_CLASS while it is UP, else its UNHITCHED entry (R222). -/
def linkZones (z : LinkZones) (up : Bool) (cls : Nat) : Nat × Nat :=
  if !up then (z.unTrib, z.unVc)
  else match z.ents.find? (fun e => e.1 == cls) with
    | some e => e.2
    | none => (z.defTrib, z.defVc)

/-- The Keeper chooses a link's zones and applies them (R222); in whole-unit mode the module in control chooses for both, an unhitched link counting as ABSENT (R443). -/
def chooseLinkZones (l : Nat) (s : State) : State :=
  let x := getLink l s
  match x.zones with
  | none => s
  | some z =>
    if s.twin.mode = 1 ∧ !(inControl s) then s
    else
      let up := decide (x.hitch = .up)
      let a := linkZones z up (numAt (x.ident.getD []) 9 1)
      if pairDecides s then
        let up2 := numAt s.twin.partnerStatus (2 + 2 * l) 1 == 4
        let b := linkZones z up2 (numAt s.twin.partnerStatus (3 + 2 * l) 1)
        if a = b ∨ !up2 then applyLinkZones l a.1 a.2 s
        else if !up then applyLinkZones l b.1 b.2 s
        else applyLinkZones l z.defTrib z.defVc (raiseEv .twinUnlisted (24 + l) [] s)
      else applyLinkZones l a.1 a.2 s

/-- The tributary's port follows the link: up while the link is UP and the aligner in FRAME (R208); a loss of FRAME leaves its sending be (R224). -/
def syncTrib (l : Nat) (s : State) : State :=
  let x := getLink l s
  if x.hitch ≠ .up then portDown (24 + l) s
  else if !x.inFrame then tribDown (24 + l) s
  else if (getPort (24 + l) s).up then s
  else portUp (24 + l) (16 + x.rate) 0 false s

/-- The records being received on a link's threads are dropped and counted (R202). -/
def abortRx (l : Nat) (s : State) : State :=
  forEach (getLink l s).threads (fun e t =>
    let x := getLink l t
    let th := mapGet ({} : Thread) x.threads e.1
    let t1 := setLink l { x with threads := mapSet {} x.threads e.1 { th with rx := [], skip := false } } t
    if th.rx.isEmpty then t1 else bump .selRecAbort (16 * l + e.1) t1) s

/-- The records being sent on a link's threads are cut and counted (R203). -/
def abortTx (l : Nat) (s : State) : State :=
  forEach (getLink l s).threads (fun e t =>
    let x := getLink l t
    let th := mapGet ({} : Thread) x.threads e.1
    let t1 := setLink l { x with threads := mapSet {} x.threads e.1 { th with tx := [], fresh := false } } t
    if th.tx.isEmpty then t1 else bump .selRecTxAbort (16 * l + e.1) t1) s

/-- A link is no longer in UP: threads are cut and the tributary goes down (R208, R221, R224). -/
def leaveUp (l : Nat) (s : State) : State :=
  let s1 := abortTx l s
  let s2 := setLink l { getLink l s1 with linQueue := [] } s1
  syncTrib l s2

/-- A management message with header and CRC, framed and stuffed for a DCC channel (R217). -/
def dccFrame (msg : List Byte) : List Byte :=
  let body := msg ++ natBytes 2 (crc16 msg)
  [0x7E] ++ body.flatMap (fun b => if b = 0x7E ∨ b = 0x7D then [0x7D, b ^^^ 0x20] else [b]) ++ [0x7E]

/-- A management message: header and body (R217). -/
def selMsg (kind : Nat) (body : List Byte) : List Byte := [1] ++ natBytes 1 kind ++ natBytes 2 body.length ++ body

/-- The Keeper sends a management message on DCC-A; the bytes of a MAP_ACK are noted until the superframe ends (R209, R217, R225). -/
def sendMsg (l kind : Nat) (body : List Byte) (s : State) : State :=
  let x := getLink l s
  setLink l { x with ackTail := if kind = 4 then (dccFrame (selMsg kind body)).length else 0, dccA := { x.dccA with tx := x.dccA.tx ++ dccFrame (selMsg kind body) } } s

/-- The IDENT body of an end (R218). -/
def identBody (l : Nat) (s : State) : List Byte :=
  let x := getLink l s
  natBytes 8 (Config.identName l).toNat ++ natBytes 1 (if x.follower then 1 else 0) ++ [Config.identClass l] ++ natBytes 2 (Config.identMaker l).toNat
    ++ natBytes 4 Config.serial.toNat ++ natBytes 2 2 ++ natBytes 1 (bits x.record 61 59) ++ List.replicate 5 0

/-- A link enters HITCH_FAIL (R216, R219, R220). -/
def hitchFails (l : Nat) (s : State) : State :=
  let x := getLink l s
  setDefects l { x.defects with hitchFail := true } (setLink l { x with hitch := .fail, switched := false, agreed := 0 } s)

/-- The rates that a link may still try, highest first (R215, R216). -/
def openRates (x : SelLinkSt) : List Nat := (linkRates x.record).filter (fun c => !(x.excluded.contains c))

/-- How long an end holds a rate while it cycles: 30 ms a controller, 160 ms a follower (R215). -/
def rateDwell (x : SelLinkSt) : Nat := if x.follower then 160 * msCyc else 30 * msCyc

/-- The next rate of the cycle: the next lower one, or the highest again (R215). HITCH_FAIL when none remains (R216). -/
def nextRate (l : Nat) (s : State) : State :=
  let x := getLink l s
  match ((openRates x).filter (fun c => decide (c > x.rate)) ++ openRates x).head? with
  | none => hitchFails l s
  | some c => setLink l { x with rate := c, dwellEnds := s.cyc + rateDwell x } s

/-- An end returns to cycling over the remaining rates (R216). -/
def backToCycling (l : Nat) (s : State) : State :=
  nextRate l (setLink l { getLink l s with hitch := .detect, agreed := 0, switched := false, switchSfn := none } s)

/-- The link goes to DETECT at the highest allowed rate, with no rate excluded (R213, R215). -/
def toDetect (l : Nat) (s : State) : State :=
  let x := getLink l s
  let s1 := setLink l { x with
    hitch := .detect, plugged := false, excluded := [], rate := ((linkRates x.record).head?).getD 0, agreed := 0, switchSfn := none, switched := false,
    sinceSwitch := 0, ackOk := false, accepted := none, ident := none, identAcked := false, qualRdi := none, dropThreads := false, trib := [] } s
  leaveUp l (setDefects l { x.defects with mapMis := false, qualFail := false, hitchFail := false } s1)

/-- An unhitch is declared (R223). A MAP_SET taken in the same superframe is discarded with its answer (R225). -/
def unhitchLink (l : Nat) (s : State) : State :=
  let y := getLink l s
  let s0 := setLink l { y with unhitched := true, ackTail := 0, dccA := { y.dccA with tx := y.dccA.tx.take (y.dccA.tx.length - y.ackTail) } } s
  let s1 := raiseEv .selUnhitch l [] (bump .selUnhitch l (toDetect l s0))
  let x := getLink l s1
  chooseLinkZones l (isoLinkLost l (setDefects l { x.defects with unhitch := true, discStale := true } s1))

/-- An UNHITCH message, or LOS for UNPLUG_TIME, declares an unhitch, one for both in a superframe (R223). -/
def unhitchOnce (l : Nat) (s : State) : State := if (getLink l s).unhitched then s else unhitchLink l s

/-- A qualification fails: counted, the rate excluded, RDI with cause QUAL_FAIL for 1 ms (R216). -/
def qualifyFails (l : Nat) (s : State) : State :=
  let x := getLink l s
  let s1 := bump .selQualFail l (setLink l { x with hitch := .detect, excluded := x.excluded ++ [x.rate], qualRdi := some (s.cyc + msCyc) } s)
  let s2 := setDefects l { x.defects with qualFail := true } s1
  if (openRates (getLink l s2)).isEmpty then hitchFails l s2 else s2

/-- The aligner leaves FRAME (R198, R202, R205, R208): LOF unless it stands, records dropped, discretes stale. -/
def leaveFrameAt (l : Nat) (s : State) : State :=
  let x := getLink l s
  if !x.inFrame then s
  else
    let s1 := bump .selLof l (setLink l { x with inFrame := false, cands := [], badRun := 0, hdrGood := false, dropThreads := false, ttHalf := none } s)
    let s2 := abortRx l (setDefects l { x.defects with lof := true, discStale := true } s1)
    if x.hitch = .qualify then qualifyFails l s2 else syncTrib l s2

/-- The aligner enters FRAME at a candidate (R197). -/
def enterFrame (l : Nat) (c : Cand) (s : State) : State :=
  let x := getLink l s
  let s1 := setLink l { x with inFrame := true, cands := [], rxSfn := c.sfn, elapsed := 0, badRun := 0, hdrGood := true } s
  syncTrib l (setDefects l { x.defects with lof := false, mimic := false } s1)

/-- SEL_SIGHTING: a searching aligner sees a header (R196). -/
def selSighting (l pos : Nat) (h : List Byte) (s : State) : State :=
  let x := getLink l s
  if !x.enabled ∨ !x.blockLock ∨ x.inFrame ∨ !(headerOk h) ∨ x.cands.any (fun c => c.pos == pos) then s
  else if x.cands.length ≥ 4 then bump .selCandFull l s
  else setLink l { x with cands := x.cands ++ [{ pos := pos, sfn := headerSfn h }] } s

/-- After a check of a candidate: one confirmed candidate with no other that can be confirmed within the superframe enters FRAME; two or more are a mimic (R197, R225; log entry 23). -/
def settleCands (l : Nat) (s : State) : State :=
  let x := getLink l s
  match x.cands.filter (fun c => decide (c.passes ≥ 3)) with
  | [] => s
  | [c] => if x.cands.any (fun d => d.passes == 2) then s else enterFrame l c s
  | _ => if x.defects.mimic then s else bump .selMimic l (setDefects l { x.defects with mimic := true } s)

/-- SEL_CANDIDATE_CHECK: a candidate is checked 1,024 blocks after its last check (R197). -/
def selCheck (l pos : Nat) (h : List Byte) (s : State) : State :=
  let x := getLink l s
  if !x.enabled ∨ !x.blockLock ∨ x.inFrame then s
  else
    match x.cands.find? (fun c => c.pos == pos) with
    | none => s
    | some c =>
      if headerOk h ∧ headerSfn h = (c.sfn + 1) % 65536 then
        settleCands l (setLink l { x with cands := replaceIf (fun d => d.pos == pos) (fun d => { d with sfn := headerSfn h, passes := d.passes + 1 }) x.cands } s)
      else settleCands l (setLink l { x with cands := x.cands.filter (fun d => d.pos != pos) } s)

/-- The link enters UP: its zones are chosen, its tributary opens and the address-claim proxy takes its side in (R221, R222). -/
def enterUp (l : Nat) (s : State) : State :=
  chooseLinkZones l (isoLinkUp l <| syncTrib l (raiseEv .selHitch l (natBytes 1 4) (setLink l { getLink l s with hitch := .up } s)))

/-- The number of the superframe being sent: `txSfn` is the next one (R195, R220). -/
def sendingSfn (x : SelLinkSt) : Nat := (x.txSfn + 65535) % 65536

/-- The controller sends MAP_SET for a new SFN_SWITCH, 64 superframes ahead (R220). -/
def sendMapSet (l : Nat) (s : State) : State :=
  let x := getLink l s
  let w := (sendingSfn x + 64) % 65536
  sendMsg l 3 ([1, 0] ++ natBytes 2 w)
    (setLink l { x with switchSfn := some w, ackOk := false, switched := false, agreed := 0, sinceSwitch := 0, resendAt := s.cyc + 10 * msCyc } s)

/-- The link enters MAP (R220): without a common version either end fails. -/
def enterMap (l : Nat) (s : State) : State :=
  let x := getLink l s
  let s1 := setLink l { x with hitch := .map, phaseAt := s.cyc, switchSfn := none, switched := false, ackOk := false, accepted := none, agreed := 0 } s
  if numAt (x.ident.getD []) 16 2 / 2 % 2 = 1 then (if x.follower then s1 else sendMapSet l s1)
  else hitchFails l (setDefects l { x.defects with mapMis := true } s1)

/-- The link enters IDENT (R219). -/
def enterIdent (l : Nat) (s : State) : State :=
  let x := getLink l s
  sendMsg l 1 (identBody l s) (setLink l { x with hitch := .ident, phaseAt := s.cyc, resendAt := s.cyc + 10 * msCyc, ident := none, identAcked := false } s)

/-- A malformed management message (R217, R218): instance link x 3 + channel. -/
def msgBad (l ch : Nat) (s : State) : State := bump .selMsgBad (3 * l + ch) s

/-- SEL_IDENT_RX (R218, R219). -/
def identRx (l ch : Nat) (body : List Byte) (s : State) : State :=
  let x := getLink l s
  if body.length ≠ 24 ∨ numAt body 8 1 > 1 ∨ numAt body 16 2 % 2 = 1 then msgBad l ch s
  else if x.hitch ≠ .ident ∧ x.hitch ≠ .map ∧ x.hitch ≠ .up then s
  else
    let s1 := sendMsg l 2 [] s
    if x.hitch ≠ .ident then s1
    else if numAt body 8 1 = (if x.follower then 1 else 0) then hitchFails l s1
    else
      let s2 := raiseEv .selIdent l body (setLink l { getLink l s1 with ident := some body } s1)
      if x.identAcked then enterMap l s2 else s2

/-- SEL_IDENT_ACK_RX (R219). -/
def identAckRx (l : Nat) (s : State) : State :=
  let x := getLink l s
  if x.hitch ≠ .ident then s
  else
    let s1 := setLink l { x with identAcked := true } s
    if x.ident.isSome then enterMap l s1 else s1

/-- SEL_IDENT_RESEND (R219). -/
def identResend (l : Nat) (s : State) : State :=
  let x := getLink l s
  if x.hitch ≠ .ident ∨ x.identAcked ∨ s.cyc < x.resendAt then s
  else sendMsg l 1 (identBody l s) (setLink l { x with resendAt := s.cyc + 10 * msCyc } s)

/-- SEL_IDENT_TIMEOUT and SEL_MAP_TIMEOUT: a phase has not ended 1 s after it began (R219, R220). -/
def phaseTimeout (l : Nat) (h : Hitch) (s : State) : State :=
  let x := getLink l s
  if x.hitch = h ∧ s.cyc ≥ x.phaseAt + 1000 * msCyc then hitchFails l s else s

/-- SEL_MAP_SET_RX (R220): a follower accepts, refuses or answers again. -/
def mapSetRx (l ch : Nat) (body : List Byte) (s : State) : State :=
  let x := getLink l s
  let v := numAt body 0 1
  let w := numAt body 2 2
  if body.length ≠ 4 ∨ v = 0 ∨ v > 15 ∨ numAt body 1 1 ≠ 0 then msgBad l ch s
  else if !x.follower ∨ (x.hitch ≠ .map ∧ x.hitch ≠ .up) then s
  else if x.accepted = some body then sendMsg l 4 body s
  else if x.hitch = .up then s
  else if v ≠ 1 then hitchFails l (setDefects l { x.defects with mapMis := true } s)
  else
    let ahead := (w + 65536 - (x.rxSfn + x.elapsed) % 65536) % 65536
    if 16 ≤ ahead ∧ ahead ≤ 1024 then sendMsg l 4 body (setLink l { x with accepted := some body, switchSfn := some w, switched := false, agreed := 0, sinceSwitch := 0 } s)
    else sendMsg l 4 ([0, 0] ++ natBytes 2 w) s

/-- SEL_MAP_ACK_RX (R220): the controller takes the matching answer in time, or sends again after a refusal. -/
def mapAckRx (l ch : Nat) (body : List Byte) (s : State) : State :=
  let x := getLink l s
  if body.length ≠ 4 ∨ numAt body 0 1 > 15 ∨ numAt body 1 1 ≠ 0 then msgBad l ch s
  else if x.follower ∨ x.hitch ≠ .map ∨ x.switched then s
  else
    match x.switchSfn with
    | none => s
    | some w =>
      if numAt body 0 1 = 0 then sendMapSet l s
      else if numAt body 0 1 = 1 ∧ numAt body 2 2 = w ∧ (w + 65536 - sendingSfn x) % 65536 > 8 ∧ (w + 65536 - sendingSfn x) % 65536 ≤ 64 then
        setLink l { x with ackOk := true } s
      else s

/-- SEL_MAP_SET_RESEND (R220). -/
def mapSetResend (l : Nat) (s : State) : State :=
  let x := getLink l s
  if x.follower ∨ x.hitch ≠ .map ∨ x.ackOk ∨ x.switched ∨ s.cyc < x.resendAt then s else sendMapSet l s

/-- SEL_SFN_SWITCH (R220): at SFN_SWITCH an end that may switch does so; a controller without its answer sends again. A follower counts the controller's superframes as it receives them. -/
def sfnSwitch (l : Nat) (s : State) : State :=
  let x := getLink l s
  match x.switchSfn with
  | none => s
  | some w =>
    let now := if x.follower then x.rxSfn + x.elapsed else x.txSfn
    if x.hitch ≠ .map ∨ x.switched ∨ (now % 65536 + 65536 - w) % 65536 ≥ 32768 then s
    else if x.follower ∨ x.ackOk then setLink l { x with switched := true, agreed := 1, sinceSwitch := 0 } s
    else sendMapSet l s

/-- SEL_MAP_REVERT (R220): no good header with the agreed version within 16 superframes of the switch. -/
def mapRevert (l : Nat) (s : State) : State :=
  let x := getLink l s
  if x.hitch ≠ .map ∨ !x.switched ∨ x.sinceSwitch < 16 then s
  else
    let s1 := setLink l { x with switched := false, agreed := 0, switchSfn := none, accepted := none, sinceSwitch := 0 } s
    if x.follower then s1 else sendMapSet l s1

/-- A received management message on a channel: 0 DCC-A, 1 DCC-B, 2 the tributary (R217, R218). -/
def selMessage (l ch : Nat) (m : List Byte) (s : State) : State :=
  let body := m.drop 4
  if m.length < 4 ∨ numAt m 0 1 ≠ 1 ∨ numAt m 2 2 > 512 ∨ numAt m 2 2 ≠ body.length then msgBad l ch s
  else if !(getLink l s).enabled then s
  else
    match numAt m 1 1 with
    | 1 => identRx l ch body s
    | 2 => if body.isEmpty then identAckRx l s else msgBad l ch s
    | 3 => mapSetRx l ch body s
    | 4 => mapAckRx l ch body s
    | 5 => if body.isEmpty then unhitchOnce l s else msgBad l ch s
    | _ => bump .selMsgUnknown (3 * l + ch) s

/-- A whole frame of a DCC channel, flags and stuffing removed (R217). -/
def dccMessage (l : Nat) (b : Bool) (f : List Byte) (s : State) : State :=
  let m := f.take (f.length - 2)
  let ch := if b then 1 else 0
  if f.length < 6 ∨ f.length > 518 ∨ beNat (f.drop (f.length - 2)) ≠ crc16 m then msgBad l ch s
  else if b then
    if numAt m 0 1 ≠ 1 ∨ numAt m 2 2 ≠ m.length - 4 then msgBad l ch s
    else
      let x := getLink l s
      setLink l { x with dccB := { x.dccB with inbox := x.dccB.inbox ++ [m] } } s
  else selMessage l 0 m s

/-- A DCC channel of a link. -/
def getDcc (l : Nat) (b : Bool) (s : State) : Dcc := if b then (getLink l s).dccB else (getLink l s).dccA

/-- Replace a DCC channel. -/
def setDcc (l : Nat) (b : Bool) (d : Dcc) (s : State) : State :=
  let x := getLink l s
  setLink l (if b then { x with dccB := d } else { x with dccA := d }) s

/-- A byte of a DCC channel from a good header (R209, R217). -/
def dccByte (l : Nat) (b valid : Bool) (v : Byte) (s : State) : State :=
  let d := { getDcc l b s with lastByte := v, lastContent := valid }
  if !valid then setDcc l b d s
  else if v = 0x7E then
    match d.rx with
    | some f => let s1 := setDcc l b { d with rx := some [], esc := false } s
                if f.isEmpty then s1 else dccMessage l b f s1
    | none => setDcc l b { d with rx := some [], esc := false } s
  else
    match d.rx with
    | none => setDcc l b d s
    | some f =>
      if v = 0x7D then setDcc l b { d with esc := true } s
      else if f.length ≥ 518 then msgBad l (if b then 1 else 0) (setDcc l b { d with rx := none, esc := false } s)
      else setDcc l b { d with rx := some (f ++ [if d.esc then v ^^^ 0x20 else v]), esc := false } s

/-- The time-transfer half of a good header (R211). -/
def ttTake (l : Nat) (h : List Byte) (s : State) : State :=
  let x := getLink l s
  let sfn := headerSfn h
  let half := numAt h 12 4
  if !((h.getD 8 0).getLsbD 2) then setLink l { x with ttHalf := none } s
  else if sfn % 2 = 0 then setLink l { x with ttHalf := some (sfn, half, rxStampAt (16 + x.rate) (24 + l) s) } s
  else
    match x.ttHalf with
    | some (e, hi, stamp) =>
      setLink l { x with ttHalf := none, ttPair := if e + 1 = sfn then some (hi * 2 ^ 32 + half, stamp) else x.ttPair } s
    | none => s

/-- The hitch sequence at a good header: entry to QUALIFY, a received QUAL_FAIL, entry to UP, and the version check in UP (R199, R215, R216, R220, R221). -/
def hitchHeader (l : Nat) (h : List Byte) (s : State) : State :=
  let x := getLink l s
  let ver := numAt h 8 1 / 16
  let cause := numAt h 11 1 % 16
  let d1 := { x.defects with rdiRx := x.peerRdi, discStale := false }
  let d2 := if x.agreed ≠ 0 ∧ ver = x.agreed then { d1 with mapMis := false } else d1
  let bad := decide (x.hitch = .up) && decide (ver ≠ x.agreed)
  let s1 := setDefects l (if bad then { d2 with mapMis := true } else d2) (setLink l { x with dropThreads := bad } s)
  let s2 := if bad then spoilFrame (24 + l) (bump .selMapMismatch l s1) else s1
  let told := decide (cause = 5) && x.peerRdi
  match x.hitch with
  | .detect => if told ∧ x.plugged ∧ !(x.excluded.contains x.rate) then
      backToCycling l (setLink l { getLink l s2 with excluded := x.excluded ++ [x.rate] } s2)
    else if x.plugged ∧ x.qualRdi.isNone ∧ !x.peerRdi ∧ x.peerRate = x.rate then
      setLink l { getLink l s2 with hitch := .qualify, qualEnds := s.cyc + 10 * msCyc, qualErr := 0 } s2 else s2
  | .map => if x.switched ∧ ver = x.agreed then enterUp l s2 else if told then
      backToCycling l (setLink l { getLink l s2 with excluded := x.excluded ++ [x.rate] } s2) else s2
  | .up => s2
  | .fail => s2
  | _ => if told then backToCycling l (setLink l { getLink l s2 with excluded := x.excluded ++ [x.rate] } s2) else s2

/-- A good header: its overhead block is taken (R199, R209, R211, R212). -/
def goodHeader (l : Nat) (h : List Byte) (s : State) : State :=
  let x := getLink l s
  let b3 := numAt h 11 1
  let rate := b3 / 64
  let x1 := { x with
    rxSfn := headerSfn h, elapsed := 0, badRun := 0, hdrGood := true, peerRdi := (h.getD 8 0).getLsbD 3, rdiCause := b3 % 16,
    peerRate := if rate = 3 then x.peerRate else rate }
  let s1 := ttTake l h (setLink l x1 s)
  let s2 := dccByte l true ((h.getD 8 0).getLsbD 0) (h.getD 10 0) (dccByte l false ((h.getD 8 0).getLsbD 1) (h.getD 9 0) s1)
  hitchHeader l h (sfnSwitch l s2)

/-- SEL_HEADER_RX: the header at the expected position is judged (R198, R199). -/
def selHeader (l : Nat) (h : List Byte) (s : State) : State :=
  let x := getLink l s
  if !x.enabled ∨ !x.inFrame then s
  else
    let n := x.elapsed + 1
    if headerOk h ∧ headerSfn h = (x.rxSfn + n) % 65536 then goodHeader l h s
    else
      let x1 := { x with elapsed := n, badRun := x.badRun + 1, hdrGood := false, dropThreads := false, ttHalf := none, qualErr := x.qualErr + 1,
                         dccA := { x.dccA with lastContent := false }, dccB := { x.dccB with lastContent := false } }
      let s1 := sfnSwitch l (bump .selHdrBad l (setLink l x1 s))
      if x1.badRun ≥ 4 then leaveFrameAt l s1 else s1

/-- SEL_BLOCK_LOCK_LOSS (R198). -/
def lockLost (l : Nat) (s : State) : State :=
  let x := getLink l s
  if !x.enabled ∨ !x.blockLock then s
  else
    let s1 := bump .selLob l (setDefects l { x.defects with lob := true } (setLink l { x with blockLock := false } s))
    if x.inFrame then leaveFrameAt l s1 else setLink l { getLink l s1 with cands := [] } s1

/-- SEL_BLOCK_LOCK_ACQUIRED (R198, R213). -/
def lockGained (l : Nat) (s : State) : State :=
  let x := getLink l s
  if !x.enabled ∨ x.blockLock then s
  else setDefects l { x.defects with lob := false } (setLink l { x with blockLock := true } s)

/-- SEL_LOS_SET: LOS begins, and with it the time to an unhitch (R213, R223). -/
def losSet (l : Nat) (s : State) : State :=
  let x := getLink l s
  if !x.enabled ∨ x.defects.los then s
  else bump .selLos l (setDefects l { x.defects with los := true } (setLink l { x with losAt := s.cyc, losTold := false } s))

/-- SEL_LOS_CLEAR (R213). -/
def losClear (l : Nat) (s : State) : State :=
  let x := getLink l s
  if !x.enabled then s else setDefects l { x.defects with los := false } s

/-- SEL_PLUG_IN: signal detect present for 10 ms (R213, R215). -/
def plugIn (l : Nat) (s : State) : State :=
  let x := getLink l s
  if !x.enabled ∨ x.hitch ≠ .detect ∨ x.plugged then s
  else
    let s1 := setLink l { x with plugged := true, dwellEnds := s.cyc + rateDwell x } s
    raiseEv .selHitch l (natBytes 1 0) (bump .selHitch l (setDefects l { x.defects with unhitch := false } s1))

/-- SEL_RATE_DWELL_END (R215). -/
def dwellEnd (l : Nat) (s : State) : State :=
  let x := getLink l s
  if !x.enabled ∨ x.hitch ≠ .detect ∨ !x.plugged ∨ x.qualRdi.isSome ∨ s.cyc < x.dwellEnds then s else nextRate l s

/-- SEL_QUALIFY_END (R216): errors are invalid sync headers and bad headers. -/
def qualifyEnd (l badSync : Nat) (s : State) : State :=
  let x := getLink l s
  if x.hitch ≠ .qualify ∨ s.cyc < x.qualEnds then s
  else if badSync + x.qualErr > bits x.record 42 35 ∨ !x.inFrame then qualifyFails l s
  else enterIdent l s

/-- SEL_QUAL_RDI_END (R212, R216): the 1 ms of RDI is over; the end goes on to the next rate. -/
def qualRdiEnd (l : Nat) (s : State) : State :=
  let x := getLink l s
  match x.qualRdi with
  | some t =>
    if s.cyc < t then s
    else
      let s1 := setLink l { x with qualRdi := none } s
      if x.hitch = .detect then nextRate l s1 else s1
  | none => s

/-- SEL_UNPLUG_TIMEOUT: LOS has lasted UNPLUG_TIME, once for each LOS (R223). -/
def unplugTimeout (l : Nat) (s : State) : State :=
  let x := getLink l s
  if !x.enabled ∨ !x.defects.los ∨ x.losTold ∨ s.cyc < x.losAt + bits x.record 52 43 * msCyc then s else unhitchOnce l (setLink l { x with losTold := true } s)

/-- The RDI cause that a transmitter sends: the lowest that holds, 0 none (R212). -/
def rdiOf (x : SelLinkSt) : Nat :=
  if x.defects.los then 1 else if x.defects.lob then 2 else if !x.inFrame then 3 else if x.defects.mimic then 4
  else if x.qualRdi.isSome then 5 else if x.defects.mapMis then 6 else 0

/-- The byte that a DCC channel sends next with its valid bit, and the channel after it (R209, R210). -/
def dccNext (sdcc : Bool) (d : Dcc) : Byte × Bool × Dcc :=
  if sdcc then (d.sdccByte, d.sdccValid, { d with sdccValid := false })
  else
    match d.tx with
    | [] => (0, false, d)
    | b :: rest => (b, true, { d with tx := rest })

/-- A CAN record of a thread with its CRC (R201). -/
def canRecordBytes (m : CanMsg) : List Byte :=
  let fd := isFd m.format
  let b := natBytes 1 (16 + flagBits [isExt m.format, fd, m.brs, m.rtr]) ++ natBytes 1 ((if m.esi then 128 else 0) + m.dlc % 16) ++ natBytes 4 m.ident
    ++ (if m.rtr then [] else m.data)
  b ++ natBytes 2 (crc16 b)

/-- A LIN record of a thread with its CRC (R201). -/
def linRecordBytes (f : Nat) (enhanced : Bool) (data : List Byte) : List Byte :=
  let b := natBytes 1 (32 + (if enhanced then 8 else 0)) ++ natBytes 1 f ++ natBytes 1 data.length ++ data
  b ++ natBytes 2 (crc16 b)

/-- SEL_THREAD_IDLE: a thread that needs a new record takes the slot message or the head of its queue, the LIN thread its next frame (R203, R204); a channel of a sleeping network takes none (R401). -/
def threadIdle (l th : Nat) (s : State) : State :=
  let x := getLink l s
  let t := mapGet ({} : Thread) x.threads th
  let ch := 16 + 8 * l + th
  let put (b : List Byte) (z : State) : State :=
    let y := getLink l z
    setLink l { y with threads := mapSet {} y.threads th { mapGet ({} : Thread) y.threads th with tx := b, fresh := true } } z
  if x.hitch ≠ .up ∨ !t.tx.isEmpty then s
  else if th = 8 then
    match x.linQueue with
    | [] => s
    | (f, e, d) :: rest => put (linRecordBytes f e d) (setLink l { x with linQueue := rest } s)
  else if th > 8 ∨ !((canRecord ch s).getLsbD 127) ∨ !(edgeOn s) ∨ asleepMember (fun n => n.hasCan ch) s then s
  else
    match handedOf ch s with
    | h :: rest => put (canRecordBytes h.msg) (setHanded ch rest s)
    | [] =>
      match txq ch s with
      | [] => s
      | q :: rest => put (canRecordBytes q.msg) (setTxq ch rest s)

/-- Seven bytes of a thread's record stream: position in the block, FIRST so far, bytes so far (R200). -/
def fillBlock (l th : Nat) : Nat → Nat → List Byte → State → (Nat × List Byte) × State
  | 0, first, acc, s => ((first, acc), s)
  | n + 1, first, acc, s =>
    let x := getLink l s
    let t := mapGet ({} : Thread) x.threads th
    match t.tx with
    | b :: rest => fillBlock l th n (if t.fresh ∧ first = 0 then 7 - n else first) (acc ++ [b]) (setLink l { x with threads := mapSet {} x.threads th { t with tx := rest, fresh := false } } s)
    | [] =>
      let s1 := threadIdle l th s
      let y := getLink l s1
      let u := mapGet ({} : Thread) y.threads th
      match u.tx with
      | b :: rest => fillBlock l th n (if first = 0 then 7 - n else first) (acc ++ [b]) (setLink l { y with threads := mapSet {} y.threads th { u with tx := rest, fresh := false } } s1)
      | [] => ((first, acc ++ List.replicate (n + 1) 0), s1)

/-- The block of a thread in the superframe sent now (R193, R200, R203). -/
def threadBlock (l th : Nat) (s : State) : List Byte × State :=
  if (getLink l s).hitch ≠ .up then (List.replicate 8 0, s)
  else
    let r := fillBlock l th 7 0 [] s
    (natBytes 1 r.1.1 ++ r.1.2, r.2)

/-- Blocks of several threads in order. -/
def threadBlocks (l : Nat) : List Nat → State → List (List Byte) × State
  | [], s => ([], s)
  | th :: rest, s =>
    let a := threadBlock l th s
    let b := threadBlocks l rest a.2
    (a.1 :: b.1, b.2)

/-- The discrete block sent now (R205). -/
def discBlock (x : SelLinkSt) : List Byte :=
  if x.hitch ≠ .up then List.replicate 8 0 else natBytes 4 (x.discOut &&& x.discMask).toNat ++ natBytes 4 x.discMask.toNat

/-- The time-transfer word of an even superframe and whether it is valid; its halves are sent either way (R211). -/
def ttSample (x : SelLinkSt) (s : State) : SelLinkSt :=
  if x.txSfn % 2 = 0 then
    { x with ttWord := nowNs s % 2 ^ 64, ttSend := decide (s.bcn.mode = .locked) || decide (s.bcn.mode = .grandmaster) }
  else x

/-- The 1,024 blocks of a superframe before the scrambler: blocks 0-11, four reserved blocks of zeros, and 1,008 of the tributary, idle where it has none (R192, R193, R207). -/
def superframeBlocks (head : List (List Byte)) (trib : List (BitVec 66)) : List (BitVec 66) :=
  head.map dataBlock ++ List.replicate 4 (dataBlock []) ++ trib.take 1008 ++ List.replicate (1008 - trib.length) idleBlock

/-- SEL_SUPERFRAME_TX: the transmitter sends a superframe: header, threads, discretes, reserved blocks and the tributary's, under the line coding (R192-R195, R207, R209-R212, R220). -/
def superframeTx (l : Nat) (s : State) : State :=
  if !(getLink l s).enabled ∨ !(domainRuns 12 s) then s
  else
    let s0 := sfnSwitch l s
    let x0 := getLink l s0
    let x := ttSample x0 s0
    let a := dccNext (x.record.getLsbD 58) x.dccA
    let b := dccNext (x.record.getLsbD 57) x.dccB
    let cause := rdiOf x
    let half := if x.txSfn % 2 = 0 then x.ttWord / 2 ^ 32 else x.ttWord % 2 ^ 32
    let b1 := natBytes 1 (x.agreed * 16 + flagBits [decide (cause ≠ 0), x.ttSend, a.2.1, b.2.1]) ++ [a.1, b.1]
      ++ natBytes 1 (x.rate * 64 + flagBits [x.follower, decide (x.hitch = .up)] * 16 + cause) ++ natBytes 4 half
    let h0 := natBytes 4 0x5E1AC6F9 ++ natBytes 2 x.txSfn
    let b0 := h0 ++ natBytes 2 (crc16 (h0 ++ b1))
    let s1 := setLink l { x with dccA := a.2.2, dccB := b.2.2 } s0
    let t := threadBlocks l [0, 1, 2, 3, 4, 5, 6, 7] s1
    let u := threadBlock l 8 t.2
    let y := getLink l u.2
    let head := [b0, b1] ++ t.1 ++ [discBlock y, u.1]
    let line := scrambleLine (superframeBlocks head y.trib) y.scrambler
    let s2 := setLink l { y with
      txSfn := (y.txSfn + 1) % 65536, sinceSwitch := if y.switched then y.sinceSwitch + 1 else 0, unhitched := false, ackTail := 0,
      trib := y.trib.drop 1008, scrambler := line.2 } u.2
    emit (.superframe l head line.1) s2

/-- What can be said of a record from the bytes it has so far (R201): its length once the header tells it; none when the header breaks the tables. -/
def recordLen (lin : Bool) (b : List Byte) : Option (Option Nat) :=
  let h := numAt b 0 1
  if b.isEmpty then some none
  else if h / 16 = 1 then
    if lin ∨ (h / 4 % 2 = 1 ∧ h % 2 = 1) then none
    else if b.length < 2 then some none
    else if numAt b 1 1 / 16 % 8 ≠ 0 then none
    else if b.length ≥ 6 ∧ numAt b 2 4 ≥ 2 ^ (if h / 8 % 2 = 1 then 29 else 11) then none
    else some (some (8 + (if h % 2 = 1 then 0 else dlcBytes (h / 4 % 2 = 1) (numAt b 1 1 % 16))))
  else if h / 16 = 2 then
    if !lin ∨ h % 8 ≠ 0 then none
    else if b.length < 2 then some none
    else if numAt b 1 1 ≥ 64 then none
    else if b.length < 3 then some none
    else if numAt b 2 1 = 0 ∨ numAt b 2 1 > 8 then none
    else some (some (5 + numAt b 2 1))
  else none

/-- A complete record whose CRC passes is delivered: a CAN message of the virtual channel, or a LIN frame of the bound channel (R202, R204); on a channel of a sleeping network it does what `wake` says (R407). -/
def deliverSelRecord (wake : Nat → CanMsg → State → State) (l th : Nat) (stamp : Nat) (b : List Byte) (s : State) : State :=
  let h := numAt b 0 1
  if th = 8 then
    let ch := bits (getLink l s).record 56 53
    if ch ≥ 8 then s
    else enterMessage .lin stamp (linPseudo ch (numAt b 1 1) (decide (h / 8 % 2 = 1)) ((getLin ch s).record.getLsbD 62) ((b.drop 3).take (numAt b 2 1))) s
  else
    let ch := 16 + 8 * l + th
    let rec' := canRecord ch s
    let fd := decide (h / 4 % 2 = 1)
    let ext := decide (h / 8 % 2 = 1)
    let m : CanMsg := { format := if fd then (if ext then .fdExt else .fdBase) else if ext then .classicExt else .classicBase,
                        rtr := decide (h % 2 = 1), brs := decide (h / 2 % 2 = 1), esi := decide (numAt b 1 1 ≥ 128), ident := numAt b 2 4,
                        dlc := numAt b 1 1 % 16, data := (b.drop 6).take (b.length - 8) }
    if !(rec'.getLsbD 127) ∨ !(edgeOn s) then s
    else if asleepMember (fun n => n.hasCan ch) s then wake ch m s
    else enterMessage .can stamp (canPseudo ch (rec'.getLsbD 124) m) s

/-- A thread of a link replaced. -/
def setThread (l th : Nat) (t : Thread) (s : State) : State :=
  let x := getLink l s
  setLink l { x with threads := mapSet {} x.threads th t } s

/-- Bytes of a record stream in order; `open_` when a record may begin (R200-R202). -/
def feedThread (wake : Nat → CanMsg → State → State) (l th : Nat) (open_ : Bool) : List Byte → State → State
  | [], s => s
  | b :: rest, s =>
    let t := mapGet ({} : Thread) (getLink l s).threads th
    if t.rx.isEmpty ∧ (b = 0 ∨ !open_) then s
    else
      let rx := t.rx ++ [b]
      let stamp := if t.rx.isEmpty then nowFrac s else t.rxStamp
      match recordLen (th == 8) rx with
      | none => bump .selRecBad (16 * l + th) (setThread l th { t with rx := [], skip := true } s)
      | some none => feedThread wake l th open_ rest (setThread l th { t with rx := rx, rxStamp := stamp } s)
      | some (some n) =>
        if rx.length < n then feedThread wake l th open_ rest (setThread l th { t with rx := rx, rxStamp := stamp } s)
        else
          let s1 := setThread l th { t with rx := [] } s
          let s2 := if beNat (rx.drop (n - 2)) = crc16 (rx.take (n - 2)) then deliverSelRecord wake l th stamp rx s1 else bump .selRecCrc (16 * l + th) s1
          feedThread wake l th open_ rest s2

/-- A record that its block should have completed and did not is dropped (R200, R202). -/
def cutRecord (l th : Nat) (s : State) : State :=
  let t := mapGet ({} : Thread) (getLink l s).threads th
  if t.rx.isEmpty then s else bump .selRecBad (16 * l + th) (setThread l th { t with rx := [] } s)

/-- SEL_THREAD_BLOCK_RX: a block of a thread's record stream (R200-R202). -/
def threadBlockRx (wake : Nat → CanMsg → State → State) (l th : Nat) (block : List Byte) (s : State) : State :=
  let x := getLink l s
  let t := mapGet ({} : Thread) x.threads th
  let first := numAt block 0 1
  let data := (block.drop 1).take 7
  if x.hitch ≠ .up ∨ !x.inFrame ∨ x.dropThreads then s
  else if first ≥ 8 then bump .selRecBad (16 * l + th) (setThread l th { t with rx := [], skip := true } s)
  else if first = 0 then (if t.skip ∨ t.rx.isEmpty then s else feedThread wake l th false data s)
  else
    let s1 := if t.skip then setThread l th { t with rx := [], skip := false } s else feedThread wake l th false (data.take (first - 1)) s
    let s2 := cutRecord l th s1
    let u := mapGet ({} : Thread) (getLink l s2).threads th
    if u.skip then s2 else feedThread wake l th true (data.drop (first - 1)) s2

/-- SEL_DISC_BLOCK_RX: received discretes are latched from a superframe whose header is good (R205). -/
def discRx (l : Nat) (block : List Byte) (s : State) : State :=
  let x := getLink l s
  if !x.inFrame ∨ !x.hdrGood ∨ x.dropThreads then s
  else
    let v := BitVec.ofNat 32 (numAt block 4 4)
    let d := BitVec.ofNat 32 (numAt block 0 4) &&& v
    let s1 := setLink l { x with discIn := d, discInValid := v } s
    if (x.discIn ^^^ d) &&& x.discEvents ≠ 0 then raiseEv .selDiscChange l (natBytes 4 d.toNat) s1 else s1

/-- SDCC_BURST: one burst of an overhead serial port (R210). -/
def sdccBurst (l : Nat) (b : Bool) (dataIn : Byte) (validIn : Bool) (s : State) : State :=
  let x := getLink l s
  if !x.enabled then s
  else
    let d := getDcc l b s
    emit (.sdcc l b d.lastByte d.lastContent) (setDcc l b { d with sdccByte := dataIn, sdccValid := validIn, lastContent := false } s)

/-- A word with the bits under a mask taken from another. -/
def underMask (old value mask : BitVec 32) : BitVec 32 := (old &&& ~~~mask) ||| (value &&& mask)

/-- A discrete release key fires: DISC_OUT takes the entry's bits (R206). The bits that keys set in one cycle are kept for R225. -/
def discFire (l e : Nat) (s : State) : State :=
  let d := mapGet ({} : DiscDef) (curTables s).discs (l * 16 + e)
  let x := getLink l s
  let old : BitVec 32 × BitVec 32 := match x.discFired with
    | some (c, v, m) => if c = s.cyc then (v, m) else (0, 0)
    | none => (0, 0)
  setLink l { x with discOut := underMask x.discOut d.value d.mask, discFired := some (s.cyc, underMask old.1 d.value d.mask, old.2 ||| d.mask) } s

/-- DISC_WRITE: DISC_OUT is written directly (R206); the bits of a key that fires in the same cycle stand over it (R225). -/
def discWrite (l : Nat) (value mask : BitVec 32) (s : State) : State :=
  let x := getLink l s
  let w := underMask x.discOut value mask
  setLink l { x with discOut := match x.discFired with
    | some (c, v, m) => if c = s.cyc then underMask w v m else w
    | none => w } s

/-- Whether a link record breaks R214. -/
def linkRecordBad (r : BitVec 64) : Bool :=
  decide (bits r 61 59 = 0) || decide (bits r 56 53 > 8) || decide (bits r 52 43 < 10) || decide (bits r 52 43 > 1000) || decide (bits r 34 0 ≠ 0)

/-- A link that starts anew under a record, with what neither its aligner nor its hitch sequence makes: defects, zones, discretes, LOS and the scrambler. -/
def freshLink (r : BitVec 64) (x : SelLinkSt) : SelLinkSt :=
  { linkReset with
    record := r, defects := x.defects, losAt := x.losAt, losTold := x.losTold, zones := x.zones, discOut := x.discOut, discMask := x.discMask, discEvents := x.discEvents,
    discIn := x.discIn, discInValid := x.discInValid, discFired := x.discFired, unhitched := x.unhitched, scrambler := x.scrambler }

/-- LINK_SET on a link (R213-R215): enabling starts DETECT with LOF set; disabling ends everything that the link did, its defects apart: they clear as R213 has it. -/
def linkSet (l : Nat) (r : BitVec 64) (s : State) : State :=
  let x := getLink l s
  if r.getLsbD 63 ∧ !x.enabled then
    bump .selLof l (setDefects l { x.defects with lof := true, mapMis := false, qualFail := false, hitchFail := false } (toDetect l (setLink l (freshLink r x) s)))
  else if x.enabled ∧ !(r.getLsbD 63) then
    let s1 := if x.inFrame then setDefects l { x.defects with discStale := true } (abortRx l (setLink l { x with inFrame := false } s)) else s
    let s2 := toDetect l s1
    setLink l (freshLink r (getLink l s2)) s2
  else setLink l { x with record := r } s

end Sys2Proof.Machine
end

