-- ==== Sys2Proof/Machine/TimeActs.lean ====
section
/-! DEFINITION. Machine/TimeActs.lean: what happens on the Beacon and the stitch bases: gPTP and the servo (R105-R110), counts, reversals, standstill and samples (R111-R117), the firing of event keys (R118-R128) and mark outputs (R127). -/

namespace Sys2Proof.Machine

/-- Replace the Beacon. -/
def setBcn (b : Beacon) (s : State) : State := { s with bcn := b }

/-- A gPTP instance. -/
def getInst (i : Nat) (s : State) : Gptp := if i = 0 then s.bcn.inst0 else s.bcn.inst1

/-- Replace a gPTP instance. -/
def setInst (i : Nat) (g : Gptp) (s : State) : State := setBcn (if i = 0 then { s.bcn with inst0 := g } else { s.bcn with inst1 := g }) s

/-- The consumer of a key (R123). -/
def KeyRef.consumer : KeyRef → Nat
  | .gate p _ => p.val
  | .mark o _ => 27 + o.val
  | .slot c _ => 35 + c.val
  | .disc l _ => 67 + l.val

/-- The number of a key. -/
def KeyRef.id : KeyRef → Nat
  | .gate p e => gateKeyId p.val e
  | .mark o k => markKeyId o.val k
  | .slot c n => slotKeyId c.val n
  | .disc l e => discKeyId l.val e

/-- A mark output. -/
def getMark (o : Nat) (s : State) : Mark := mapGet {} s.stb.marks o

/-- Replace a mark output. -/
def setMark (o : Nat) (m : Mark) (s : State) : State := { s with stb := { s.stb with marks := mapSet {} s.stb.marks o m } }

/-- The level of a mark output's pin: active high or, with POLARITY, active low (R127). -/
def Mark.high (m : Mark) : Bool := m.pulseEnd.isSome != m.record.getLsbD 62

/-- A firing of a mark output: a pulse of WIDTH starts, or the running pulse is extended to end WIDTH after this firing (R127). -/
def markFire (o : Nat) (s : State) : State :=
  let m := getMark o s
  let stop := Int.ofNat (nowNs s) + Int.ofNat (bits m.record 31 0)
  let s1 := setMark o { m with pulseEnd := some stop } s
  emit (.markPulse o stop (!m.record.getLsbD 62)) (if m.pulseEnd.any (fun t => decide (Int.ofNat (nowNs s) < t)) then bump .bcnMarkRetrigger o s1 else s1)

/-- MARK_PULSE_END (R127). -/
def markEnd (o : Nat) (s : State) : State :=
  let m := getMark o s
  match m.pulseEnd with
  | some t => if Int.ofNat (nowNs s) ≥ t then emit (.markIdle o (m.record.getLsbD 62)) (setMark o { m with pulseEnd := none } s) else s
  | none => s

/-- A stitch-keyed gate entry fires: its GATES override the sequence for INTERVAL (R76). -/
def overrideFire (p e : Nat) (s : State) : State :=
  let g := getGates p s
  let ent := mapGet 0 g.act.ents e
  let before := gateOut p s
  countOverrun p before
    (setGates p { g with ovr := some { gates := entryGates ent, stop := Int.ofNat (nowNs s) + Int.ofNat (entryInterval ent), pos := e } } s)

/-- STITCH_OVERRIDE_END: an override's INTERVAL has passed; the TIME sequence's states apply again (R76). -/
def overrideEnd (p : Nat) (s : State) : State :=
  let g := getGates p s
  match g.ovr with
  | some o =>
    if Int.ofNat (nowNs s) ≥ o.stop then
      let s1 := refreshGates p s
      countOverrun p o.gates (setGates p { getGates p s1 with ovr := none } s1)
    else s
  | none => s

/-- The action of a key by its number (R76, R127, R176, R206). -/
def keyAction (i : Nat) (s : State) : State :=
  if i < 27648 then overrideFire (i / 1024) (i % 1024) s
  else if i < 27776 then markFire ((i - 27648) / 16) s
  else if i < 29824 then
    let ch := (i - 27776) / 64
    let sl := (i - 27776) % 64
    fireSlot ch sl (mapGet ({} : SlotDef) (curTables s).slots (ch * 64 + sl)).repeating s
  else discFire ((i - 29824) / 16) ((i - 29824) % 16) s

/-- A key's occurrence is taken: it counts as fired up to there, and a re-fire below the high-water mark is counted (R118, R124). -/
def takeOccurrence (i : Nat) (k : BitVec 128) (x : Int) (s : State) : State :=
  let st := keySt i s
  let s1 := setKeySt i { st with last := some x, done := decide (keyKind k = 0) || st.done } s
  if keyKind k ≥ 2 ∧ keyRefire k ∧ st.top.any (fun h => decide (x ≤ h)) then bump .stbRefired i s1 else s1

/-- The keys of a consumer that are due now, in table order, with their occurrences (R118, R123). -/
def dueKeys (c : Nat) (s : State) : List (Nat × BitVec 128 × Int) :=
  ((activeKeys s).filter (fun k => consumerOf k.1 == c)).filterMap (fun k => (keyDue k.1 k.2 (nowFrac s) s).map (fun x => (k.1, k.2, x)))

/-- Keys of a consumer fire together. The lowest in table position acts, the others coalesce into it; a firing less than 200 ns after the consumer's last coalesces into that (R118, R123). -/
def fireKeys (c : Nat) (ks : List (Nat × BitVec 128 × Int)) (s : State) : State :=
  match ks with
  | [] => s
  | first :: rest =>
    let near := match mapGet none s.stb.lastFire c with
      | some t => decide (Int.ofNat s.cyc < t + 100)
      | none => false
    let s1 := forEach (first :: rest) (fun k t => takeOccurrence k.1 k.2.1 k.2.2 t) s
    let merged := if near then rest.length + 1 else rest.length
    let s2 := bumpBy merged .stbCoalesced c s1
    if near then { s2 with stb := { s2.stb with overspeed := mapSet false s2.stb.overspeed c true } }
    else
      keyAction first.1 { s2 with stb := { s2.stb with
        lastFire := mapSet none s2.stb.lastFire c (some (Int.ofNat s.cyc)),
        overspeed := mapSet false s2.stb.overspeed c (decide (rest ≠ [])) } }

/-- KEY_FIRE: the due keys of a consumer fire, the named one among them. -/
def keyFires (c i : Nat) (s : State) : State :=
  let ks := dueKeys c s
  if ks.any (fun k => k.1 == i) then fireKeys c ks s else s

/-- How many crossings of a stitch key lie above one position and up to another. -/
def crossings (k : BitVec 128) (b : StitchBase) (lo hi : Int) : Nat :=
  if hi ≤ lo then 0
  else if keyKind k = 3 then
    let sp := Int.ofNat (keyStitch k)
    let ph := Int.ofNat (keyPeriod k)
    ((hi - ph) / sp - (lo - ph) / sp).toNat
  else if b.modulus ≠ 0 then
    let m := Int.ofNat b.modulus * 65536
    let w := Int.ofNat (keyStitch k)
    ((hi - w) / m - (lo - w) / m).toNat
  else
    let x := nextCross k b lo
    if lo < x ∧ x ≤ hi then 1 else 0

/-- The active stitch keys of a base. -/
def baseKeys (i : Nat) (s : State) : List (Nat × BitVec 128) := (stitchKeys (activeKeys s)).filter (fun k => keyBase k.2 == i)

/-- Crossings up to the high-water mark that forward travel passes again: keys that do not re-fire skip them, counted (R124). -/
def countSkips (i : Nat) (lo hi : Int) (s : State) : State :=
  let b := getBase i s
  forEach (baseKeys i s) (fun k t => if keyRefire k.2 then t else bumpBy (crossings k.2 b lo (min hi b.hwm)) .stbSkipped k.1 t) s

/-- Forward travel of a base up to now is noted: the positions below the high-water mark that it has passed again, and the mark itself (R116, R124). -/
def catchUp (i : Nat) (s : State) : State :=
  let b := getBase i s
  if b.moving && b.fwd then
    let cur := b.posAt (nowFrac s)
    setBase i { b with hwm := max b.hwm cur, seen := max b.seen cur } (countSkips i b.seen cur s)
  else s

/-- Travel in reverse: keys that re-fire wait for every position from here on, the others for positions beyond the high-water mark (R124). -/
def noteReverse (i : Nat) (pos : Int) (s : State) : State :=
  let h := (getBase i s).hwm
  forEach (baseKeys i s) (fun k t =>
    let l := (keySt k.1 t).last.getD h
    setKeySt k.1 { keySt k.1 t with last := some (if keyRefire k.2 then min l pos else max l h), top := some h } t) s

/-- One accepted count of a base in a direction (R113-R116, R118, R124). The first count after a reset or a write of the record is a reversal when it goes backward, since a base starts forward; and the unwrapped position may grow past 48 bits: the spec says neither (DESIGN CHOICE, log entry 10). -/
def applyCount (i : Nat) (fwd : Bool) (s0 : State) : State :=
  let s := catchUp i s0
  let b := getBase i s
  let dir := fwd != b.record.getLsbD 122
  let now := nowFrac s
  let pos := if dir then b.pos + Int.ofNat b.scale else b.pos - Int.ofNat b.scale
  let turn := dir != b.fwd
  let s1 := if dir then countSkips i b.seen pos s else s
  let b1 := { b with
    pos := pos, fwd := dir, moving := true, hwm := max b.hwm pos, seen := pos, lastAt := Int.ofNat now, heard := s.cyc,
    stamps := if turn || !b.moving then [Int.ofNat now] else (Int.ofNat now :: b.stamps).take 65 }
  let s2 := setBase i b1 s1
  let s3 := if turn then bump .stbReversal i s2 else s2
  if dir then s3 else noteReverse i pos s3

/-- The quarter of a quadrature line that two levels stand for. -/
def quadQuarter (a b : Bool) : Nat := if a then (if b then 2 else 1) else (if b then 3 else 0)

/-- STITCH_EDGE: the pins of a base change level and hold it for a time (R112, R116). Which transitions count at x1 and x2, and which lead is forward, is PRESUMED (log entry 10). -/
def stitchEdge (i : Nat) (a b : Bool) (heldNs : Nat) (s : State) : State :=
  let x := getBase i s
  let mode := x.mode
  if a = x.pinA ∧ b = x.pinB then s
  else if mode = 0 ∨ mode ≥ 4 then setBase i { x with pinA := a, pinB := b } s
  else if heldNs < 10 * bits x.record 115 104 then bump .stbGlitch i s
  else
    let fast := match x.edgeCyc with
      | some t => decide (s.cyc < t + 40)
      | none => false
    let s1 := setBase i { x with pinA := a, pinB := b, edgeCyc := some s.cyc } (if fast then bump .stbOverspeed i s else s)
    if mode = 1 then
      let p := quadQuarter x.pinA x.pinB
      let q := quadQuarter a b
      let d := (q + 4 - p) % 4
      let low := if d = 1 then p else q
      let counts := match bits x.record 124 123 with
        | 0 => low == 0
        | 1 => low == 0 || low == 2
        | _ => true
      if d = 2 then bump .stbQuadError i s1
      else if counts then applyCount i (d == 1) s1
      else s1
    else if a && !x.pinA then applyCount i (if mode = 2 then !b else x.cmdFwd) s1
    else s1

/-- STANDSTILL_TIMEOUT: no count or sample for the standstill timeout (R115, R117). -/
def standstill (i : Nat) (s : State) : State :=
  let b := getBase i s
  if !b.moving ∨ s.cyc < b.heard + b.standstill then s
  else
    let s1 := catchUp i s
    let b1 := getBase i s1
    bump .stbStandstill i (setBase i { b1 with pos := if b1.mode = 4 then b1.posAt (nowFrac s) else b1.pos, moving := false, stamps := [], speed := 0 } s1)

/-- The unwrapped position nearest a base's that a reported position stands for (R113). -/
def unwrapNear (b : StitchBase) (cur p : Int) : Int :=
  let m := if b.modulus = 0 then (2 : Int) ^ 64 else Int.ofNat b.modulus * 65536
  let d := (p - cur) % m
  cur + (if d ≥ m / 2 then d - m else d)

/-- A sample of a base in COMMAND mode (R117): position and speed in 2^-16, time in 2^-16 ns. -/
def stbSample (i : Nat) (p v : Int) (t : Nat) (s : State) : State :=
  let now := nowFrac s
  let far := decide (t > now + 1000000000 * 65536) || decide (now > t + 1000000000 * 65536)
  if far ∨ ((getBase i s).sampled ∧ Int.ofNat t < (getBase i s).sampleAt) then bump .stbFeedReject i s
  else
    let s0 := catchUp i s
    let b := getBase i s0
    let cur := b.posAt now
    let target := unwrapNear b cur p
    let y := target + v * (Int.ofNat now - Int.ofNat t) / (1000000000 * 65536)
    let fwd := if v = 0 then b.fwd else decide (v > 0)
    let turn := b.sampled && fwd != b.fwd
    let pos := if fwd then max cur y else min cur y
    let s1 := if b.fwd then s0 else noteReverse i cur s0
    let s2 := if fwd then countSkips i (if b.fwd then b.seen else cur) pos s1 else s1
    let s3 := setBase i { b with pos := pos, fwd := fwd, moving := true, hwm := if fwd then max b.hwm pos else b.hwm, seen := pos, speed := v, sampleAt := Int.ofNat t, samplePos := target, sampled := true, heard := s.cyc } s2
    let s4 := if turn then bump .stbReversal i s3 else s3
    if fwd then s4 else noteReverse i pos s4

/-- The stamps of the bases in a new time scale (R126). -/
def shiftBases (d : Int) (s : State) : State :=
  { s with stb := { s.stb with bases := s.stb.bases.map (fun e =>
    (e.1, { e.2 with stamps := e.2.stamps.map (fun t => t + d), lastAt := e.2.lastAt + d, sampleAt := e.2.sampleAt + d })) } }

/-- Pulses and overrides that run keep their own durations over a step. -/
def shiftRunning (d : Int) (s : State) : State :=
  let s1 := forUpTo 8 (fun o t => let m := getMark o t; match m.pulseEnd with
    | some x => setMark o { m with pulseEnd := some (x + d / 65536) } t
    | none => t) s
  forUpTo 27 (fun p t => let g := getGates p t; match g.ovr with
    | some o => setGates p { g with ovr := some { o with stop := o.stop + d / 65536 } } t
    | none => t) s1

/-- The TIME_AT keys of a consumer that have not fired and whose time is not after a moment. -/
def timesUp (c : Nat) (ns : Nat) (s : State) : List (Nat × BitVec 128 × Int) :=
  ((activeKeys s).filter (fun k => consumerOf k.1 == c && keyKind k.2 == 0 && !(keySt k.1 s).done && decide (keyWhenNs k.2 ≤ ns))).map (fun k => (k.1, k.2, Int.ofNat (keyWhenNs k.2)))

/-- Event keys after a step from a time (R109): each TIME_EVERY realigns to its grid; then every TIME_AT that was due fires, and each that the step passed over fires at once and is counted (R128). -/
def stepKeys (was : Nat) (s : State) : State :=
  let s1 := forEach (activeKeys s) (fun k t => if keyKind k.2 = 1 then setKeySt k.1 { keySt k.1 t with last := some (Int.ofNat (nowNs t) - 1) } t else t) s
  forUpTo 69 (fun c t =>
    let ks := timesUp c (Nat.max was (nowNs t)) t
    fireKeys c ks (bumpBy (ks.filter (fun k => decide (k.2.2 > Int.ofNat was))).length .bcnEventStepped 0 t)) s1

/-- A step of Beacon time by an offset in 2^-16 ns, at one update of the nanosecond counter (R85, R109, R126). -/
def stepBeacon (d : Int) (s : State) : State :=
  let b := s.bcn
  let s1 := setBcn { b with total := ((Int.ofNat b.total + d * 2 ^ 23) % Int.ofNat beaconWrap).toNat, inst0 := { b.inst0 with offset := b.inst0.offset - d },
                            inst1 := { b.inst1 with offset := b.inst1.offset - d } } s
  bump .bcnStepApplied 0 (stepKeys (nowNs s) (resyncGates (shiftRunning d (shiftBases d s1))))

/-- RATE units in one ppm (R100): 2^40 / 10^6. -/
def ppmRate (n : Nat) : Int := Int.ofNat (n * 2 ^ 40 / 1000000)

/-- The servo's new RATE (R106): within the slew limit of the measured ratio. The control law is the Keeper's; the manual bounds it only (log entry 11). -/
def servoRate (ratio : Int) (s : State) : State :=
  let w := ppmRate s.bcn.slewPpm
  let d := drawBelow (2 * w.toNat + 1) s
  let r := max (-(2 ^ 31)) (min (2 ^ 31 - 1) (ratio - w + Int.ofNat d.1))
  let h := if d.2.bcn.mode = .locked then (r :: d.2.bcn.history).take 16 else d.2.bcn.history
  setBcn { d.2.bcn with rate := r, history := h } d.2

/-- The clock enters HOLDOVER at the mean of the last 16 values that LOCKED applied (R107). -/
def enterHoldover (s : State) : State :=
  let h := s.bcn.history
  setBcn { s.bcn with mode := .holdover, good := 0, far := 0, rate := if h.isEmpty then s.bcn.rate else h.foldl (· + ·) 0 / Int.ofNat h.length } s

/-- A step is refused (R108). -/
def refuseStep (offset : Int) (s : State) : State :=
  let s1 := if s.bcn.mode = .holdover then s else enterHoldover s
  raiseEv .stepRefused 0 [] (bump .bcnStepRefused 0 (setBcn { s1.bcn with stepPending := true, pendOffset := offset, refusedAt := some s.cyc } s1))

/-- Magnitude of an offset in 2^-16 ns against a limit in ns. -/
def within (offset : Int) (ns : Nat) : Bool := decide (offset.natAbs ≤ ns * 65536)

/-- The servo takes a Sync that needs no step (R107). -/
def servoSync (offset ratio : Int) (s : State) : State :=
  let b := s.bcn
  let good := if within offset 100 then b.good + 1 else 0
  let far := if within offset 1000 then 0 else b.far + 1
  let mode := match b.mode with
    | .acquire => if good ≥ 8 then BcnState.locked else .acquire
    | .locked => if far ≥ 4 then .acquire else .locked
    | .holdover => .acquire
    | m => m
  let fresh := mode != b.mode
  servoRate ratio (setBcn { b with mode := mode, good := if fresh then 0 else good, far := if fresh then 0 else far } s)

/-- A Sync of the primary domain by the clock's state (R107, R108, R110). -/
def primarySync (gm : BitVec 64) (offset ratio : Int) (changed : Bool) (s : State) : State :=
  let b := s.bcn
  let stepIn (x : State) : State := let y := stepBeacon offset x; servoRate ratio (setBcn { y.bcn with mode := .acquire, provisional := false, good := 0, far := 0 } y)
  if b.mode = .grandmaster then s
  else if b.stepPending then (if changed ∧ !(within offset b.threshold) then refuseStep offset s else setBcn { b with pendOffset := offset } s)
  else if b.mode = .free then
    if b.provisional then
      (if (b.deep.bind (fun d => d.gm)) = some gm ∧ within offset b.wakeLimit then stepIn s else refuseStep offset s)
    else if b.autoAcquire then stepIn s else refuseStep offset s
  else if changed ∨ b.mode = .holdover then
    if within offset b.threshold then
      let s1 := servoSync offset ratio s
      if changed then raiseEv .gmChange 0 (natBytes 8 gm.toNat) s1 else s1
    else refuseStep offset s
  else servoSync offset ratio s

/-- GPTP_SYNC_RECEIVED: offset is grandmaster minus local in 2^-16 ns (R105-R108). -/
def gptpSync (i : Nat) (gm : BitVec 64) (offset ratio : Int) (s : State) : State :=
  let g := getInst i s
  let changed := g.changed || (g.gm.isSome && decide (g.gm ≠ some gm))
  let s1 := setInst i { g with gm := some gm, offset := offset, ratio := ratio, lastSync := s.cyc, changed := false } s
  if i = s.bcn.primary then primarySync gm offset ratio changed s1 else s1

/-- SYNC_RECEIPT_TIMEOUT (R107): that the receipt timeout of IEEE 802.1AS has passed is the row's own word (log entry 11). -/
def syncTimeout (i : Nat) (s : State) : State :=
  let s1 := bump .bcnSyncTimeout i s
  if i = s.bcn.primary ∧ (s.bcn.mode = .acquire ∨ s.bcn.mode = .locked) then enterHoldover s1 else s1

/-- GRANDMASTER_SELECTION for the primary domain (R107, R108): the module becomes grandmaster, or another is selected, and the clock that was grandmaster holds over until a Sync of the other (log entry 86). -/
def gmSelect (isSelf : Bool) (gm : BitVec 64) (s : State) : State :=
  let i := s.bcn.primary
  let g := getInst i s
  if isSelf then setBcn { s.bcn with mode := .grandmaster, stepPending := false, good := 0, far := 0 } (setInst i { g with gm := none, changed := true } s)
  else
    let s1 := setInst i { g with changed := g.changed || decide (g.gm ≠ some gm) } s
    if s.bcn.mode = .grandmaster then enterHoldover s1 else s1

end Sys2Proof.Machine
end

