-- ==== Sys2Proof/Machine/CmdBase.lean ====
section
/-! DEFINITION. Machine/CmdBase.lean: what describes a Yelom opcode (R327): its kind, its length check, the blocks it acts on, the modes in which alone it runs, its image record (R484) and its effect. -/

namespace Sys2Proof.Machine

/-- A Yelom opcode. `len` is check 12 over the parameters; `domains` lists the power domains of the block that it acts on (R325, R384); `mode` is what the opcode tables call "only", checked at check 11; `key` is how many leading parameter bytes name the object of its image record, when it leaves one (R484), and `epoch` says that the record belongs to the pending epoch; `waits` names what it may have to wait for before its effect (R209, R324, R451), and `start` what it does before it waits. -/
structure Cmd where
  cls : Nat
  opcode : Nat
  mutator : Bool := true
  len : List Byte → Bool
  domains : List Byte → List Nat := fun _ => []
  mode : List Byte → State → Bool := fun _ _ => true
  key : Option Nat := none
  epoch : Bool := false
  waits : List Byte → State → Option (WaitFor × Nat) := fun _ _ => none
  start : List Byte → State → State := fun _ s => s
  body : Via → List Byte → State → CmdResult

/-- A fixed parameter length. -/
def lenIs (n : Nat) (p : List Byte) : Bool := p.length == n

/-- A length `base + per * n` with a count `n` of `w` bytes at `off` between `lo` and `hi` (R327). -/
def lenCount (base per off w lo hi : Nat) (p : List Byte) : Bool :=
  let n := numAt p off w
  decide (lo ≤ n) && decide (n ≤ hi) && p.length == base + per * n

/-- Whether the named runs of parameter bytes are 0 (check 13 for reserved bytes). -/
def res0 (runs : List (Nat × Nat)) (p : List Byte) : Bool := runs.all (fun r => numAt p r.1 r.2 == 0)

/-- A signed number of `w` bytes of the parameters. -/
def intAt (p : List Byte) (off w : Nat) : Int :=
  let v := numAt p off w
  if v ≥ 2 ^ (8 * w - 1) then Int.ofNat v - 2 ^ (8 * w) else Int.ofNat v

/-- A signed number as `w` bytes. -/
def intBytes (w : Nat) (v : Int) : List Byte := natBytes w (v % 2 ^ (8 * w)).toNat

/-- Bytes cut or padded with 0 to a length. -/
def padTo (n : Nat) (b : List Byte) : List Byte := (b ++ List.replicate n 0).take n

/-- Run a body when its parameters are in range, else DENIED (check 13). -/
def whenOk (ok : Bool) (r : CmdResult) (s : State) : CmdResult := if ok then r else failed .denied s

/-- A time parameter in range (R99). -/
def timeOk (p : List Byte) (off : Nat) : Bool := decide (numAt p (off + 6) 4 < 1000000000)

/-- A 12-byte time of the parameters in 2^-16 ns (R99). -/
def timeAt (p : List Byte) (off : Nat) : Nat := (numAt p off 6 * 1000000000 + numAt p (off + 6) 4) * 65536 + numAt p (off + 10) 2

/-- Elements of `w` bytes from an offset on. -/
def elements (off w n : Nat) (p : List Byte) : List (List Byte) := (List.range n).map (fun i => (p.drop (off + w * i)).take w)

/-- The domain of a port named in byte 0 (R25). -/
def portDom (p : List Byte) : List Nat := if p.isEmpty ∨ numAt p 0 1 > 26 then [] else [portDomain (numAt p 0 1)]

end Sys2Proof.Machine
end

