-- ==== Sys2Proof/Machine/CmdDevice.lean ====
section
/-! DEFINITION. Machine/CmdDevice.lean: the opcodes of the Device class (0x01) (R327). RESET is refused to later commands by the service (R325). -/

namespace Sys2Proof.Machine

/-- DEVICE_INFO reply (R4, R327, R475). -/
def deviceInfoReply (s : State) : List Byte :=
  natBytes 4 Config.partCode ++ [Config.revision] ++ natBytes 1 (lcState s) ++ natBytes 1 s.boot.bank ++ natBytes 1 (twinRole s)
    ++ natBytes 4 (if s.boot.bank ≤ 1 then bankVersion s.boot.bank s else 0) ++ natBytes 4 s.boot.count ++ natBytes 8 Config.serial.toNat
    ++ natBytes 1 s.boot.last ++ natBytes 7 0

/-- DEVICE_INFO. -/
def cmdDeviceInfo : Cmd := { cls := 1, opcode := 1, mutator := false, len := lenIs 0, body := fun _ _ s => done (deviceInfoReply s) s }

/-- The generation of a transport's command key: its slot's generation, 0 with no slot set (R317). -/
def keyGeneration (t : Transport) (s : State) : Nat :=
  match (getTrans t s).keySlot with
  | some n => slotGen n s
  | none => 0

/-- SEQ_FLOOR (R317). -/
def cmdSeqFloor : Cmd :=
  { cls := 1, opcode := 2, mutator := false, len := lenIs 0,
    body := fun v _ s =>
      let t := getTrans (transportOf v) s
      done (natBytes 4 t.lastSeq ++ natBytes 4 t.reserved ++ natBytes 4 (keyGeneration (transportOf v) s)) s }

/-- The transport that a number of SET_CMD_KEY or SET_LIMITS names. -/
def transportNo (n : Nat) : Transport := if n = 0 then .placket else if n = 1 then .vlan else .mspi

/-- SET_CMD_KEY (R316, R317): naming another slot restarts the sequence. -/
def setCmdKey (t : Transport) (slot : Option Nat) (s : State) : State :=
  let x := getTrans t s
  if x.keySlot = slot then s else setTrans t { x with keySlot := slot, lastSeq := 0, reserved := 0 } s

/-- SET_CMD_KEY. -/
def cmdSetCmdKey : Cmd :=
  { cls := 1, opcode := 3, len := lenIs 4, key := some 1,
    body := fun _ p s =>
      let slot := numAt p 1 1
      whenOk (decide (numAt p 0 1 ≤ 2) && (decide (slot < 64) || slot == 255) && res0 [(2, 2)] p)
        (done [] (setCmdKey (transportNo (numAt p 0 1)) (if slot = 255 then none else some slot) s)) s }

/-- Token units that a transport's bucket holds now (R323): one token is 500,000,000 units. -/
def tokensNow (t : Trans) (s : State) : Nat := Nat.min (t.depth * 500000000) (t.tokens + t.rate * (s.cyc - t.tokensAt))

/-- SET_LIMITS (R323): the bucket keeps its tokens, up to the new depth. -/
def setLimits (t : Transport) (rate depth : Nat) (s : State) : State :=
  let x := getTrans t s
  setTrans t { x with rate := rate, depth := depth, tokens := Nat.min (depth * 500000000) (tokensNow x s), tokensAt := s.cyc } s

/-- SET_LIMITS: the rate field of 2 bytes reaches the 50,000 of R323. -/
def cmdSetLimits : Cmd :=
  { cls := 1, opcode := 4, len := lenIs 8, key := some 1,
    body := fun _ p s =>
      let rate := numAt p 2 2
      let depth := numAt p 4 2
      whenOk (decide (numAt p 0 1 ≤ 2) && res0 [(1, 1), (6, 2)] p && decide (100 ≤ rate) && decide (rate ≤ 50000) && decide (1 ≤ depth) && decide (depth ≤ 64))
        (done [] (setLimits (transportNo (numAt p 0 1)) rate depth s)) s }

/-- EVENT_SUBSCRIBE (R326): the class mask, for the issuing transport, with the source that events go to. -/
def cmdEventSubscribe : Cmd :=
  { cls := 1, opcode := 5, len := lenIs 4,
    body := fun v p s =>
      let m := BitVec.ofNat 16 (numAt p 0 2)
      let t := transportOf v
      whenOk (!(m.getLsbD 0) && res0 [(2, 2)] p) (done [] (setTrans t { getTrans t s with eventMask := m, eventTo := some v } s)) s }

/-- CONFIG_SAVE (R485, R487). -/
def cmdConfigSave : Cmd := { cls := 1, opcode := 6, len := lenIs 0, body := fun _ _ s => configSave s }

/-- RESET (R331): the reset follows 1 ms after its reply. -/
def cmdReset : Cmd :=
  { cls := 1, opcode := 7, len := lenIs 4,
    body := fun _ p s =>
      let k := numAt p 0 1
      whenOk (decide (k ≤ 1) && res0 [(1, 3)] p) (done [] (setYel { s.yel with resetTaken := some (k, s.cyc + msCyc) } s)) s }

/-- ECHO. -/
def cmdEcho : Cmd := { cls := 1, opcode := 8, mutator := false, len := fun p => decide (p.length ≤ 4096), body := fun _ p s => done p s }

/-- The Device class. -/
def deviceCmds : List Cmd := [cmdDeviceInfo, cmdSeqFloor, cmdSetCmdKey, cmdSetLimits, cmdEventSubscribe, cmdConfigSave, cmdReset, cmdEcho]

end Sys2Proof.Machine
end

