-- ==== Sys2Proof/Machine/CmdKeys.lean ====
section
/-! DEFINITION. Machine/CmdKeys.lean: the opcodes of the Keys class (0x09) and of the Cipher class (0x0A) (R263-R305, R327, R329). -/

namespace Sys2Proof.Machine

/-- While a lifecycle transition runs, the Keys class other than READ_ATTR completes with BUSY (R280). -/
def whileQuiet (body : Via → List Byte → State → CmdResult) (v : Via) (p : List Byte) (s : State) : CmdResult :=
  if s.cyc < s.thm.lcUntil then failed .busy s else body v p s

/-- An operation of the Bodkin waits for room in pipeline 0, where it counts among the 64 packets in flight (R286, R302). -/
def laneWait (_ : List Byte) (s : State) : Option (WaitFor × Nat) := if inFlight 0 s ≥ 64 then some (.lane, s.cyc + 1000 * msCyc) else none

/-- IMPORT (R270, R272): the blob length that TYPE requires is checked with the record. -/
def cmdImport : Cmd :=
  { cls := 9, opcode := 1, len := fun p => p.length == 64 || p.length == 80,
    body := whileQuiet fun v p s => whenOk (res0 [(2, 2)] p) (importKey (numAt p 0 1) (numAt p 1 1) ((p.drop 4).take 16) (p.drop 20) v s) s }

/-- GENERATE (R267, R271). -/
def cmdGenerate : Cmd :=
  { cls := 9, opcode := 2, len := lenIs 20, body := whileQuiet fun _ p s => whenOk (res0 [(1, 3)] p) (generateKey (numAt p 0 1) (p.drop 4) s) s }

/-- DERIVE (R271). -/
def cmdDerive : Cmd :=
  { cls := 9, opcode := 3, len := lenIs 20, body := whileQuiet fun v p s => whenOk (res0 [(1, 3)] p) (deriveKey (numAt p 0 1) (p.drop 4) v s) s }

/-- DESTROY (R274). -/
def cmdDestroy : Cmd :=
  { cls := 9, opcode := 4, len := lenIs 4, body := whileQuiet fun _ p s => whenOk (res0 [(1, 3)] p) (destroyKey (numAt p 0 1) s) s }

/-- READ_ATTR reply: generation, EMPTY, attribute record (R268). -/
def readAttrReply (n : Nat) (s : State) : List Byte :=
  natBytes 4 (slotGen n s) ++ natBytes 1 (if slotEmpty n s then 1 else 0) ++ natBytes 3 0 ++ natBytes 16 (slotAttr n s).toNat

/-- READ_ATTR. -/
def cmdReadAttr : Cmd :=
  { cls := 9, opcode := 5, mutator := false, len := lenIs 4,
    body := fun _ p s => whenOk (decide (numAt p 0 1 < 64) && res0 [(1, 3)] p) (done (readAttrReply (numAt p 0 1) s) s) s }

/-- LC_CHALLENGE (R279). -/
def cmdLcChallenge : Cmd := { cls := 9, opcode := 6, len := lenIs 0, body := whileQuiet fun _ _ s => lcChallenge s }

/-- LC_TRANSITION (R278-R280). -/
def cmdLcTransition : Cmd :=
  { cls := 9, opcode := 7, len := lenIs 36, body := whileQuiet fun _ p s => whenOk (res0 [(1, 3)] p) (lcTransition (numAt p 0 1) (p.drop 4) s) s }

/-- The attestation message (R281). -/
def attestMessage (sel : Nat) (challenge : List Byte) (s : State) : List Byte :=
  natBytes 1 1 ++ natBytes 1 (lcState s) ++ [Config.revision] ++ natBytes 1 sel ++ challenge
    ++ (if s.boot.bank ≤ 1 then bankMeasure s.boot.bank s else sha256 []) ++ configDigest s ++ natBytes 4 (if sel = 255 then 1 else slotGen sel s)

/-- ATTEST (R281): the message and its whole MAC. -/
def attest (sel : Nat) (challenge : List Byte) (s : State) : CmdResult :=
  let m := attestMessage sel challenge s
  let r := hmacOp sel 32 m .keeper .trusted s
  if r.status = .ok then done (m ++ r.reply) r.st else r

/-- ATTEST (R281); not while debug is open (R467). -/
def cmdAttest : Cmd :=
  { cls := 9, opcode := 8, mutator := false, len := lenIs 36, domains := fun _ => [7], mode := fun _ s => s.dbg.state == .closed,
    waits := laneWait, body := whileQuiet fun _ p s => whenOk (res0 [(1, 3)] p) (attest (numAt p 0 1) (p.drop 4) s) s }

/-- LC_STATUS reply (R277, R284). -/
def lcStatusReply (s : State) : List Byte :=
  natBytes 1 (lcState s) ++ natBytes 1 (freeEntries s) ++ natBytes 1 s.thm.programmed.toNat ++ natBytes 1 s.thm.killed.toNat
    ++ natBytes 1 (if s.thm.rngFault then 1 else 0) ++ natBytes 3 0

/-- LC_STATUS. -/
def cmdLcStatus : Cmd := { cls := 9, opcode := 9, mutator := false, len := lenIs 0, body := whileQuiet fun _ _ s => done (lcStatusReply s) s }

/-- The Keys class. -/
def keyCmds : List Cmd := [cmdImport, cmdGenerate, cmdDerive, cmdDestroy, cmdReadAttr, cmdLcChallenge, cmdLcTransition, cmdAttest, cmdLcStatus]

/-- CTX_WRITE (R290, R291). -/
def cmdCtxWrite : Cmd :=
  { cls := 10, opcode := 1, len := lenIs 36, domains := fun _ => [7], key := some 2,
    body := fun v p s => whenOk (res0 [(2, 2)] p) (ctxWrite (numAt p 0 2) (BitVec.ofNat 256 (numAt p 4 32)) v s) s }

/-- CTX_READ (R290). -/
def cmdCtxRead : Cmd :=
  { cls := 10, opcode := 2, mutator := false, len := lenIs 4, domains := fun _ => [7],
    body := fun _ p s => whenOk (decide (numAt p 0 2 < 2048) && res0 [(2, 2)] p) (done (natBytes 32 (getCtx (numAt p 0 2) s).record.toNat) s) s }

/-- SA_WRITE (R295). -/
def cmdSaWrite : Cmd :=
  { cls := 10, opcode := 3, len := lenIs 36, domains := fun _ => [7], key := some 3,
    body := fun _ p s => whenOk (res0 [(3, 1)] p) (saWrite (numAt p 0 2) (numAt p 2 1) (BitVec.ofNat 256 (numAt p 4 32)) s) s }

/-- SA_READ (R295). -/
def cmdSaRead : Cmd :=
  { cls := 10, opcode := 4, mutator := false, len := lenIs 4, domains := fun _ => [7],
    body := fun _ p s =>
      whenOk (decide (numAt p 0 2 < 2048) && decide (numAt p 2 1 < 4) && res0 [(3, 1)] p) (done (natBytes 32 (getSa (4 * numAt p 0 2 + numAt p 2 1) s).toNat) s) s }

/-- Replace the staging buffer of a transport (R329). -/
def setStaged (t : Transport) (b : List Byte) (s : State) : State := setTrans t { getTrans t s with staged := b } s

/-- STAGE (R329): an append beyond 8,192 bytes leaves the buffer as it is. -/
def cmdStage : Cmd :=
  { cls := 10, opcode := 5, len := fun p => decide (1 ≤ p.length) && decide (p.length ≤ 4096), domains := fun _ => [7],
    body := fun v p s =>
      let b := (getTrans (transportOf v) s).staged ++ p
      if b.length > 8192 then failed .lenRange s else done [] (setStaged (transportOf v) b s) }

/-- STAGE_CLEAR (R329). -/
def cmdStageClear : Cmd := { cls := 10, opcode := 6, len := lenIs 0, domains := fun _ => [7], body := fun v _ s => done [] (setStaged (transportOf v) [] s) }

/-- STAGE_READ (R329). -/
def cmdStageRead : Cmd :=
  { cls := 10, opcode := 7, mutator := false, len := lenIs 4, domains := fun _ => [7],
    body := fun v p s =>
      let off := numAt p 0 2
      let n := numAt p 2 2
      let b := (getTrans (transportOf v) s).staged
      if n < 1 ∨ n > 4096 ∨ off + n > b.length then failed .lenRange s else done ((b.drop off).take n) s }

/-- Run an operation on its input (R329): with STAGED 0 the input is the command's and the output the reply's; with STAGED 1 both are the buffer's and the reply is the output's length, as four bytes (log entry 38). A failed staged operation empties the buffer. -/
def stagedOp (staged : Nat) (v : Via) (carried : List Byte) (op : List Byte → State → CmdResult) (s : State) : CmdResult :=
  if staged = 0 then op carried s
  else
    let t := transportOf v
    let r := op (getTrans t s).staged s
    if r.status = .ok then { r with reply := natBytes 4 r.reply.length, st := setStaged t r.reply r.st } else { r with st := setStaged t [] r.st }

/-- The length check of an operation: a fixed part, and no carried bytes with STAGED 1 (R329). -/
def opLen (fixed : Nat) (p : List Byte) : Bool := decide (fixed ≤ p.length) && (numAt p 2 1 != 1 || p.length == fixed)

/-- HMAC (R302). -/
def cmdHmac : Cmd :=
  { cls := 10, opcode := 8, mutator := false, len := opLen 4, domains := fun _ => [7], waits := laneWait,
    body := fun v p s =>
      whenOk (decide (numAt p 2 1 ≤ 1) && res0 [(3, 1)] p)
        (stagedOp (numAt p 2 1) v (p.drop 4) (fun m => hmacOp (numAt p 0 1) (numAt p 1 1) m (viaMaster v) (viaWorld v)) s) s }

/-- CMAC (R302). -/
def cmdCmac : Cmd :=
  { cls := 10, opcode := 9, mutator := false, len := opLen 4, domains := fun _ => [7], waits := laneWait,
    body := fun v p s =>
      whenOk (decide (numAt p 2 1 ≤ 1) && res0 [(3, 1)] p)
        (stagedOp (numAt p 2 1) v (p.drop 4) (fun m => cmacOp (numAt p 0 1) (numAt p 1 1) m (viaMaster v) (viaWorld v)) s) s }

/-- GCM_SEAL (R302, R305): additional data first, then the plaintext. -/
def cmdGcmSeal : Cmd :=
  { cls := 10, opcode := 0x0A, len := opLen 8, domains := fun _ => [7], waits := laneWait,
    body := fun v p s =>
      let n := numAt p 4 2
      let op : List Byte → State → CmdResult := fun m t =>
        if n > m.length then failed .lenRange t else sealOp (numAt p 0 1) (numAt p 1 1) (m.take n) (m.drop n) (viaMaster v) (viaWorld v) t
      whenOk (decide (numAt p 2 1 ≤ 1) && res0 [(3, 1), (6, 2)] p) (stagedOp (numAt p 2 1) v (p.drop 8) op s) s }

/-- GCM_OPEN (R302): additional data, ciphertext and tag. -/
def cmdGcmOpen : Cmd :=
  { cls := 10, opcode := 0x0B, mutator := false, len := opLen 20, domains := fun _ => [7], waits := laneWait,
    body := fun v p s =>
      let n := numAt p 4 2
      let tag := numAt p 1 1
      let op : List Byte → State → CmdResult := fun m t =>
        if n + tag > m.length then failed .lenRange t
        else
          let c := m.drop n
          openOp (numAt p 0 1) tag ((p.drop 8).take 12) (m.take n) (c.take (c.length - tag)) (c.drop (c.length - tag)) (viaMaster v) (viaWorld v) t
      whenOk (decide (numAt p 2 1 ≤ 1) && res0 [(3, 1), (6, 2)] p) (stagedOp (numAt p 2 1) v (p.drop 20) op s) s }

/-- MODE_SET (R303). -/
def cmdModeSet : Cmd :=
  { cls := 10, opcode := 0x0C, len := lenIs 4, domains := fun _ => [7], body := fun _ p s => whenOk (res0 [(1, 3)] p) (bodModeSet (numAt p 0 1) s) s }

/-- KAT_RUN (R303): in TEST only; the algorithms of a module without faults pass (log entry 38). -/
def cmdKatRun : Cmd :=
  { cls := 10, opcode := 0x0D, mutator := false, len := lenIs 4, domains := fun _ => [7], mode := fun _ s => s.bod.mode == .test,
    body := fun _ p s => whenOk (decide (numAt p 0 1 < 64) && res0 [(1, 3)] p) (done (natBytes 1 (numAt p 0 1) ++ natBytes 3 0) s) s }

/-- The Cipher class. -/
def cipherCmds : List Cmd :=
  [cmdCtxWrite, cmdCtxRead, cmdSaWrite, cmdSaRead, cmdStage, cmdStageClear, cmdStageRead, cmdHmac, cmdCmac, cmdGcmSeal, cmdGcmOpen, cmdModeSet, cmdKatRun]

end Sys2Proof.Machine
end

