-- ==== Sys2Proof/Machine/CmdPort.lean ====
section
/-! DEFINITION. Machine/CmdPort.lean: the opcodes of the Port class (0x02) and of the Fabric/queue class (0x03) (R327). -/

namespace Sys2Proof.Machine

/-- The shared pool is not negative (R48). -/
def poolFits (s : State) : Bool := decide (0 ≤ poolSize s)

/-- PORT_SET (R48, R228). -/
def cmdPortSet : Cmd :=
  { cls := 2, opcode := 1, len := lenIs 12, domains := portDom, key := some 1,
    body := fun _ p s =>
      let port := numAt p 0 1
      let r := BitVec.ofNat 64 (numAt p 4 8)
      whenOk (decide (port ≤ 26) && res0 [(1, 3)] p && !(portRecordBad port r) && poolFits (setPort port { getPort port s with record := r } s))
        (done [] (portSet port r s)) s }

/-- PORT_GET (R228). -/
def cmdPortGet : Cmd :=
  { cls := 2, opcode := 2, mutator := false, len := lenIs 4, domains := portDom,
    body := fun _ p s =>
      whenOk (decide (numAt p 0 1 ≤ 26) && res0 [(1, 3)] p) (done (natBytes 8 (getPort (numAt p 0 1) s).record.toNat) s) s }

/-- PORT_STATUS reply (R330). -/
def portStatusReply (p : Nat) (s : State) : List Byte :=
  let q := getPort p s
  let a := preemptA p s
  let flags := (if q.fast then 8 else 0) + (if q.stored.isSome then 4 else 0) + (if a.isSome then 2 else 0) + (if q.up then 1 else 0)
  let known := q.partner == 2
  natBytes 1 (if q.up then q.mode else 0xFF) ++ natBytes 1 (if isT1 p && q.up then q.role else 0) ++ natBytes 1 q.training ++ natBytes 1 flags
    ++ natBytes 1 q.partner ++ natBytes 1 (if known then q.chassisType else 0) ++ natBytes 1 (if known then q.portType else 0) ++ natBytes 1 (a.getD 0)
    ++ padTo 32 (if known then q.chassis else []) ++ padTo 24 (if known then q.portId else [])

/-- PORT_STATUS. -/
def cmdPortStatus : Cmd :=
  { cls := 2, opcode := 3, mutator := false, len := lenIs 4, domains := portDom,
    body := fun _ p s => whenOk (decide (numAt p 0 1 ≤ 26) && res0 [(1, 3)] p) (done (portStatusReply (numAt p 0 1) s) s) s }

/-- LLDP_SET (R238, R239). -/
def cmdLldpSet : Cmd :=
  { cls := 2, opcode := 4, len := lenIs 12, domains := portDom, key := some 1,
    body := fun _ p s =>
      let port := numAt p 0 1
      whenOk (decide (port ≤ 26) && res0 [(1, 1), (8, 4)] p && decide (1 ≤ numAt p 2 2) && decide (numAt p 2 2 ≤ 3600) && decide (numAt p 4 2 ≤ 10000) && decide (numAt p 6 2 ≤ 10000))
        (done [] (setPort port { getPort port s with lldpInterval := numAt p 2 2, lldpWait := numAt p 4 2, absentHold := numAt p 6 2 } s)) s }

/-- PARTNER_ZONES (R240): the table is written and the port's zone chosen by it. -/
def cmdPartnerZones : Cmd :=
  { cls := 2, opcode := 5, len := lenCount 8 36 1 1 0 8, domains := portDom, key := some 1,
    body := fun _ p s =>
      let port := numAt p 0 1
      let es := elements 8 36 (numAt p 1 1) p
      let z : PartnerZones := { absent := numAt p 2 1, unident := numAt p 3 1, unlisted := numAt p 4 1, ents := es.map (fun e => (numAt e 0 1, numAt e 1 1, e.drop 4)) }
      whenOk (decide (port ≤ 26) && res0 [(5, 3)] p && decide (z.absent ≤ 15) && decide (z.unident ≤ 15) && decide (z.unlisted ≤ 15)
              && es.all (fun e => decide (numAt e 1 1 ≤ 15) && res0 [(2, 2)] e))
        (done [] (chooseZone port (setPort port { getPort port s with zones := some z } s))) s }

/-- FASTLINK_CLEAR (R232). -/
def cmdFastlinkClear : Cmd :=
  { cls := 2, opcode := 6, len := lenIs 4, domains := portDom,
    body := fun _ p s =>
      let port := numAt p 0 1
      whenOk (decide (port ≤ 26) && res0 [(1, 3)] p) (done [] (setPort port { getPort port s with stored := none } s)) s }

/-- The Port class. -/
def portCmds : List Cmd := [cmdPortSet, cmdPortGet, cmdPortStatus, cmdLldpSet, cmdPartnerZones, cmdFastlinkClear]

/-- The rate that bounds a port's idleSlope (R65): its current rate, or while its link is down the highest that its configuration allows. -/
def slopeRate (p : Nat) (s : State) : Nat := if (getPort p s).up then portRate p s else topRate p s

/-- The DWRR classes of a port are a contiguous range from 0, class 7 not among them (R66). -/
def dwrrOk (p : Nat) (s : State) : Bool :=
  let d := (List.range 8).map (fun c => (lastQP (8 * p + c) s).sel == 2)
  d == List.replicate (d.filter id).length true ++ List.replicate (8 - (d.filter id).length) false && !(d.getD 7 true)

/-- Replace the transmission parameters of a queue, at its next frame boundary (R17, R65). -/
def setQueueParam (q : Nat) (x : QueueParam) (s : State) : State :=
  if midFrame q s then { s with sch := { s.sch with nextParam := mapSet none s.sch.nextParam q (some x) } } else takeParam q x s

/-- QUEUE_SET (R65, R66). -/
def cmdQueueSet : Cmd :=
  { cls := 3, opcode := 1, domains := fun _ => [6], len := lenIs 12, key := some 2,
    body := fun _ p s =>
      let port := numAt p 0 1
      let c := numAt p 1 1
      let x : QueueParam := { sel := numAt p 2 1, preemptable := numAt p 3 1 == 1, weight := numAt p 4 1, maxSdu := numAt p 6 2, idle := numAt p 8 4 }
      let q := 8 * port + c
      let s1 := setQueueParam q x s
      let internal := decide (port ≥ 27)
      let slope := x.sel != 1 || (!internal && decide (1 ≤ x.idle) && decide (x.idle * 1000 ≤ slopeRate port s))
      whenOk (decide (port ≤ 31) && decide (c ≤ 7) && decide (x.sel ≤ 2) && decide (numAt p 3 1 ≤ 1) && (!x.preemptable || (decide (c ≠ 7) && !internal))
              && decide (1 ≤ x.weight) && res0 [(5, 1)] p && decide (64 ≤ x.maxSdu) && decide (x.maxSdu ≤ 9216) && slope && dwrrOk port s1)
        (done [] s1) s }

/-- Replace the buffer parameters of a queue. -/
def setBuf (q : Nat) (b : BufParam) (s : State) : State := setFab { s.fab with buf := mapSet {} s.fab.buf q b } s

/-- BUFFER_SET (R47, R48, R62): the port's queues are flushed and restart with the new values. -/
def cmdBufferSet : Cmd :=
  { cls := 3, opcode := 2, domains := fun _ => [6], len := lenIs 8, key := some 2,
    body := fun _ p s =>
      let port := numAt p 0 1
      let c := numAt p 1 1
      let b : BufParam := { k := numAt p 2 1, headDrop := numAt p 3 1 == 1, reserve := numAt p 4 2, limitMs := numAt p 6 2 }
      let q := 8 * port + c
      whenOk (decide (port ≤ 31) && decide (c ≤ 7) && decide (b.k ≤ 9) && decide (numAt p 3 1 ≤ 1) && decide (1 ≤ b.reserve) && decide (b.reserve ≤ 8192)
              && decide (1 ≤ b.limitMs) && decide (b.limitMs ≤ 1000) && poolFits (setBuf q b s))
        (done [] (endContention (setBuf q b (flushPort port s)))) s }

/-- Whether a queue is contended now, tracked or served without weighting (R51). -/
def contendedNow (q : Nat) (s : State) : Bool := ((trackedOf q s).isSome || s.fab.unweighted.contains q) && !(contentionOver q (sFree s) s)

/-- QUEUE_STATUS reply: O(q), U(q), contended, over-rate, deficit in bytes, CBS credit with its sign in the 1/256 bit to which R70 holds it (log entry 9). -/
def queueStatusReply (q : Nat) (s : State) : List Byte :=
  natBytes 4 (occOf q s) ++ natBytes 4 (useOf q s) ++ natBytes 1 (if contendedNow q s then 1 else 0) ++ natBytes 1 (if mapGet false s.sch.overrate q then 1 else 0)
    ++ natBytes 2 0 ++ intBytes 4 (mapGet 0 s.sch.deficit q) ++ intBytes 8 (mapGet 0 s.sch.credit q * 256 / 1000000)

/-- QUEUE_STATUS. -/
def cmdQueueStatus : Cmd :=
  { cls := 3, opcode := 3, domains := fun _ => [6], mutator := false, len := lenIs 4,
    body := fun _ p s =>
      whenOk (decide (numAt p 0 1 ≤ 31) && decide (numAt p 1 1 ≤ 7) && res0 [(2, 2)] p) (done (queueStatusReply (8 * numAt p 0 1 + numAt p 1 1) s) s) s }

/-- BOLT_STATUS reply: free pool, pool, occupancy of the quadrants, headroom in use per port (R61, R327). -/
def boltStatusReply (s : State) : List Byte :=
  natBytes 4 (sFree s) ++ natBytes 4 (poolSize s).toNat ++ (List.range 4).flatMap (fun q => natBytes 4 (quadOcc q s))
    ++ (List.range 32).flatMap (fun p => natBytes 2 (mapGet 0 s.fab.headroom p))

/-- BOLT_STATUS. -/
def cmdBoltStatus : Cmd := { cls := 3, opcode := 4, domains := fun _ => [6], mutator := false, len := lenIs 0, body := fun _ _ s => done (boltStatusReply s) s }

/-- The Fabric/queue class. -/
def queueCmds : List Cmd := [cmdQueueSet, cmdBufferSet, cmdQueueStatus, cmdBoltStatus]

end Sys2Proof.Machine
end

