-- ==== Sys2Proof/Machine/PowerOps.lean ====
section
/-! DEFINITION. Machine/PowerOps.lean: the power states and their transitions (R26, R48, R58, R59, R289, R389-R392, R403), what a domain's switching does to its blocks, and the wake-cause record of AO (R254-R256, R260, R404, R409, R411). -/

namespace Sys2Proof.Machine

/-- Whether the packet core runs: powered, its clock not gated by DOZE, running and resynchronised (R383, R389, R392). -/
def coreRuns (s : State) : Bool := poweredNow 6 s && s.pwr.state != .doze && !(domainStuck 6 s)

/-- Whether a lights-out is under way (R403). -/
def lightsGoing (s : State) : Bool := match s.pwr.transition with
  | some t => t.lights
  | none => false

/-- Whether commands are refused because of lights-out: from its commit until RUN or TRIM is reached (R402). -/
def lightsOut (s : State) : Bool := lightsGoing s || s.pwr.state == .deep || s.pwr.state == .off

/-- The code of a power state in POWER_REQ and POWER_STATUS (R327, R330). -/
def PwrState.code (x : PwrState) : Nat := x.ctorIdx

/-- The power state that POWER_REQ names (R390). -/
def pwrOfCode (n : Nat) : Option PwrState := [PwrState.run, .trim, .doze, .deep, .off][n]?

/-- The domains that a state powers (R389). -/
def wantedDomains (target : PwrState) (mask : BitVec 16) (s : State) : BitVec 16 :=
  match target with
  | .run => 0xFFFF
  | .trim => mask
  | .doze => s.pwr.powered
  | .deep => 1
  | .off => 0

/-- BOLT domains in a domain mask. -/
def boltsIn (mask : BitVec 16) : Nat := ((List.range 4).filter (fun i => mask.getLsbD (i + 2))).length

/-- Whether any context has a TYPE other than NONE (R289). -/
def contextsInUse (s : State) : Bool := s.bod.ctx.any (fun e => decide (bits e.2.record 255 254 ≠ 0))

/-- The rules of R390 on a request, R26, R48, R289, R469 and R470 among them. -/
def powerAllowed (target : PwrState) (mask : BitVec 16) (s : State) : Bool :=
  match target with
  | .run => mask == 0
  | .trim =>
    mask.getLsbD 0 && mask.getLsbD 1 && mask.getLsbD 6 && mask.getLsbD 15 && decide (1 ≤ boltsIn mask) && decide (0 ≤ poolFor (boltsIn mask) s)
      && (mask.getLsbD 7 || (!(contextsInUse s) && lcState s != 2 && lcState s != 3))
  | .doze => mask == 0 && (s.pwr.state == .run || s.pwr.state == .trim) && s.dbg.state == .closed
  | _ => mask == 0 && s.pwr.nets.all (fun n => !(n.2.record.getLsbD 123))

/-- The state changes: the cause of vector 7 is set (R389). -/
def setPwrState (x : PwrState) (mask : BitVec 16) (s : State) : State :=
  if s.pwr.state = x ∧ s.pwr.trimMask = mask then s else sideCause 7 (setPwr { s.pwr with state := x, trimMask := mask } s)

/-- A quadrant's banks. -/
def setQuad (q : Nat) (x : QuadState) (s : State) : State := setFab { s.fab with quads := mapSet .off s.fab.quads q x } s

/-- A quadrant that is to go off takes no more cells (R58). -/
def drainQuad (q : Nat) (s : State) : State := if quadState q s = .on then setQuad q .draining s else if quadState q s = .clearing then setQuad q .off s else s

/-- A quadrant that comes on is cleared first (R59). -/
def clearQuad (q : Nat) (s : State) : State :=
  let f := s.fab
  setFab { f with quads := mapSet .off f.quads q .clearing, banks := (List.range 4).foldl (fun m i => mapSet {} m (4 * q + i) {}) f.banks } s

/-- BANK_CLEAR_DONE: the Treadle may connect to the quadrant (R59). -/
def bankCleared (q : Nat) (s : State) : State := if quadState q s = .clearing then endContention (setQuad q .on s) else s

/-- QUADRANT_DRAINED: a draining quadrant whose occupancy is zero goes off (R58). -/
def quadDrained (q : Nat) (s : State) : State := if quadState q s = .draining ∧ quadOcc q s = 0 then setQuad q .off s else s

/-- A port is stopped: its link is down and its queues are flushed (R62, R391). -/
def stopPort (p : Nat) (s : State) : State := flushPort p (portDown p s)

/-- A CAN channel leaves the bus with its domain: what its controller and queues held is gone, its transceiver in standby (R247, R391; log entry 39). -/
def canPoweredOff (ch : Nat) (s : State) : State :=
  let c := getCan ch s
  setTransceiver ch (setCan ch { c with bus := .off, tec := 0, recv := 0, tail := none, fifo := [], sending := none, rateState := 0, cand := 0, roundsDone := 0, goodRun := 0, dataSeen := false } s)

/-- EDGE is switched off (R391; log entry 39). -/
def edgeOff (s : State) : State :=
  let e := s.edge
  let s1 := forUpTo 16 canPoweredOff { s with edge := { e with inbox := [], txq := [], slotBuf := [], handed := [], acf := [], linBuf := [] } }
  forUpTo 8 (fun ch t => setLin ch { getLin ch t with running := false, waiting := none, echo := none, sleepDue := false, current := [], pos := 0 } t) s1

/-- A CAN channel takes part again: it integrates, and a rate detection starts over (R245, R253). -/
def canRejoin (ch : Nat) (s : State) : State :=
  let c := getCan ch s
  if !(c.record.getLsbD 127) ∨ !(edgePowered s) then setTransceiver ch s
  else setTransceiver ch (setCan ch { c with bus := .integrating, rateState := if bits c.record 123 122 = 2 then 1 else 0, candAt := s.cyc } s)

/-- What switching a domain off does to its blocks (R391). -/
def domainOff (d : Nat) (s : State) : State :=
  let s1 := forUpTo 27 (fun p t => if portDomain p = d ∧ !(isTrib p) then stopPort p t else t) s
  match d with
  | 7 => { s1 with bod := { s1.bod with items := [], pipes := [], ctx := [], sas := [], fetched := none, asked := [] } }
  | 12 => forUpTo 2 (fun l t => if (getLink l t).enabled then stopPort (24 + l) (unhitchLink l t) else t) s1
  | 13 => edgeOff s1
  | 14 => resetPlacket (emit .pcieDown s1)
  | _ => if 2 ≤ d ∧ d ≤ 5 then setQuad (d - 2) .off s1 else s1

/-- What switching a domain on does to its blocks: banks are cleared; ports then link by their own rows (R391). -/
def domainOn (d : Nat) (s : State) : State :=
  if 2 ≤ d ∧ d ≤ 5 then setQuad (d - 2) .on s
  else s

/-- A transition with nothing left to switch is complete, but for a lights-out, which ends in DEEP or OFF (R403). -/
def finishTransition (s : State) : State :=
  match s.pwr.transition with
  | some t =>
    if t.offs = 0 ∧ t.ons = 0 ∧ !t.lights then
      setPwrState t.target (if t.target = .trim then s.pwr.powered else 0) (setPwr { s.pwr with transition := none } s)
    else s
  | none => s

/-- A transceiver goes receive-only, once its controller sends no frame (R247, R392, R401). -/
def restTransceiver (ch : Nat) (s : State) : State :=
  let c := getCan ch s
  if c.en ∧ c.sending.isNone then emit (.pin (.en ch) false) (setCan ch { c with en := false } s) else s

/-- DOZE is entered: every port stops, CAN channels stay in listen-only with their transceivers receive-only from the end of the frame in progress (R392; log entry 39). -/
def enterDoze (s : State) : State :=
  let s1 := setPwrState .doze s.pwr.trimMask (setPwr { s.pwr with before := s.pwr.state } s)
  forUpTo 16 restTransceiver (forUpTo 32 flushPort s1)

/-- A transition starts (R391): BOLT domains that go off drain, those that come on are cleared; the other blocks of a domain stop when the domain is switched, after the reply (R390; log entry 39). -/
def beginTransition (target : PwrState) (want : BitVec 16) (lights : Bool) (s : State) : State :=
  let offs := s.pwr.powered &&& ~~~want
  let ons := want &&& ~~~s.pwr.powered
  let s1 := setPwr { s.pwr with transition := some { target := target, offs := offs, ons := ons, lights := lights } } s
  let s2 := forUpTo 4 (fun q t => if offs.getLsbD (q + 2) then drainQuad q t else if ons.getLsbD (q + 2) then clearQuad q t else t) s1
  finishTransition s2

/-- The AO count (R256): 32.768 kHz cycles since power-on. -/
def aoCount (s : State) : Nat := s.cyc * 32768 / 500000000 % 2 ^ 32

/-- The settings in force in DEEP pass to AO, and the wake-cause record of the sleep before is cleared (R254, R256, R403). -/
def armWake (s : State) : State :=
  let s1 : State := { s with edge := { s.edge with
    wakeRec := {}, oscillator := none,
    wake := s.edge.wake.map (fun e => (e.1, { e.2 with inDeep := some e.2.record, errors := 0 })) } }
  setPwr { s1.pwr with wakeLatched := false, wakePending := false, causeNow := 0, instNow := 0 } s1

/-- STB_N and EN of a channel in DEEP, by DEEP_MODE (R247): 0 standby, 1 receive-only, 2 off. -/
def deepTransceiver (ch : Nat) (s : State) : State :=
  let m := bits (getCan ch s).record 119 118
  driveTransceiver ch (m == 1) (m == 2) s

/-- The steps L1 to L3 of lights-out, then L4 under way (R110, R403, R461): the debug state closes and the wake latch is armed; Beacon time, network states and TRIM mask are recorded; contexts are cleared; transceivers take their DEEP levels. -/
def goLightsOut (target : PwrState) (s : State) : State :=
  let b := s.bcn
  let gmNow := (getInst b.primary s).gm
  let rec' : DeepRecord := { total := b.total, rate := b.rate, aoCount := aoCount s, gm := gmNow }
  let s1 : State := armWake (closeDebug { s with bcn := { b with deep := some rec' } })
  let s2 := setPwr { s1.pwr with savedMask := s1.pwr.trimMask, savedNets := s1.pwr.nets.map (fun e => (e.1, e.2.mode)), deepAt := s1.cyc } s1
  let s3 := forUpTo 16 deepTransceiver { s2 with bod := { s2.bod with ctx := [], sas := [] } }
  beginTransition target (wantedDomains target 0 s3) true s3

/-- POWER_REQ (R390). -/
def powerRequest (code : Nat) (mask : BitVec 16) (s : State) : CmdResult :=
  match pwrOfCode code with
  | none => failed .denied s
  | some target =>
    if !(powerAllowed target mask s) then failed .denied s
    else if s.pwr.transition.isSome then failed .busy s
    else if s.pwr.state = target ∧ s.pwr.trimMask = mask then done [] s
    else
      match target with
      | .doze => done [] (enterDoze s)
      | .run => done [] (beginTransition .run 0xFFFF false s)
      | .trim => done [] (beginTransition .trim mask false s)
      | _ => done [] (goLightsOut target s)

/-- DOMAIN_SWITCHED: a domain's sequence completes: off, with its crossings closed, or on, with its PLL locked, its crossings resynchronised and opened (R383, R391). A BOLT domain goes off once it has drained; AO is the last of OFF (R403). -/
def domainSwitched (d : Nat) (s : State) : State :=
  match s.pwr.transition with
  | none => s
  | some t =>
    let bit : BitVec 16 := BitVec.twoPow 16 d
    if t.offs.getLsbD d then
      let waits : Bool := (decide (2 ≤ d) && decide (d ≤ 5) && !t.lights && quadState (d - 2) s != .off) || (d == 0 && t.offs != 1)
      if waits then s
      else
        let s1 := domainOff d s
        let t' : Transition := { t with offs := t.offs &&& ~~~bit }
        let w := s1.pwr
        finishTransition (setPwr { w with transition := some t', powered := w.powered &&& ~~~bit, closed := w.closed ||| bit, unlocked := w.unlocked &&& ~~~bit, resync := w.resync &&& ~~~bit, overflow := mapSet false w.overflow d false } s1)
    else if t.ons.getLsbD d then
      let t' : Transition := { t with ons := t.ons &&& ~~~bit }
      let w := s.pwr
      finishTransition (domainOn d (setPwr { w with transition := some t', powered := w.powered ||| bit, closed := w.closed &&& ~~~bit, unlocked := w.unlocked &&& ~~~bit, resync := w.resync &&& ~~~bit } s))
    else s

/-- DOZE is left for the state it was entered from: gate lists take the entry of the time now, channels drive their buses again, the Keeper's watchdog has a full period (R392, R429). -/
def leaveDoze (s : State) : State :=
  if s.pwr.state ≠ .doze then s
  else
    let s1 := setPwrState s.pwr.before s.pwr.trimMask s
    let s2 := replaceAllGates (forUpTo 16 setTransceiver s1)
    setKpr { s2.kpr with wdFrom := s2.cyc, mgmtBit := false, ctrlBit := false } s2

/-- The order of wake causes that meet in one AO cycle (R411): WAKE0, WAKE1, CAN by channel, LIN, TC10. -/
def wakeRank (cause inst : Nat) : Nat :=
  if cause = 5 then 0 else if cause = 6 then 1 else if cause ≤ 4 then 2 + inst else if cause = 7 then 100 + inst else 200 + inst

/-- Record a wake: the first cause stands, but for one of a lower rank in its AO cycle (R256, R404, R409, R411). -/
def recordWake (r : WakeRecord) (s : State) : State :=
  let old := s.edge.wakeRec
  let first : Bool := old.cause == 0 || (decide (s.pwr.wakeAo = aoCount s) && decide (wakeRank r.cause r.channel < wakeRank old.cause old.channel))
  if first then setPwr { s.pwr with causeNow := r.cause, instNow := r.channel, wakeAo := aoCount s } { s with edge := { s.edge with wakeRec := r } } else s

/-- Whether a boot after power-on, or from OFF, is under way (R481). -/
def startsUp (s : State) : Bool := s.pwr.state == .run && !s.boot.booted && !s.kpr.up && decide (s.boot.last = 0)

/-- A wake source in DEEP, or between the commit of lights-out and DEEP, where it is latched (R404, R409); during a boot from OFF it is recorded (R490). -/
def registerWake (r : WakeRecord) (s : State) : State :=
  if lightsGoing s then
    let s1 := recordWake r (bump .pwrWakeLatched 0 s)
    setPwr { s1.pwr with wakeLatched := true } s1
  else if s.pwr.state = .deep then
    let s1 := recordWake r s
    setPwr { s1.pwr with wakePending := true } s1
  else if startsUp s then recordWake r s
  else s

/-- The selective wake record of a channel (R254): FD_PASSIVE 1 after reset. -/
def wakeReset : WakeCfg := { record := 1 <<< 123 }

/-- A channel's selective wake. -/
def getWake (ch : Nat) (s : State) : WakeCfg := mapGet wakeReset s.edge.wake ch

/-- Replace a channel's selective wake. -/
def setWake (ch : Nat) (w : WakeCfg) (s : State) : State := { s with edge := { s.edge with wake := mapSet wakeReset s.edge.wake ch w } }

/-- The record that a channel's decoder works by: that taken at the entry to DEEP (R254). -/
def wakeRecord (ch : Nat) (s : State) : BitVec 192 := let w := getWake ch s; w.inDeep.getD w.record

/-- Whether a selective wake record breaks R254. -/
def wakeBad (r : BitVec 192) : Bool :=
  bits r 191 190 == 3 || decide (bits r 189 187 ≥ 6) || decide (bits r 185 182 > 8) || (!(r.getLsbD 186) && decide (bits r 181 153 ≥ 2048)) || decide (bits r 122 64 ≠ 0)

/-- Whether a frame is a wake-up frame of a record (R255). -/
def wufMatches (r : BitVec 192) (m : CanMsg) : Bool :=
  let n := bits r 185 182
  let mask := natBytes 8 (bits r 63 0)
  (m.format == .classicBase || m.format == .classicExt) && !m.rtr && (m.format == .classicExt) == r.getLsbD 186
    && ((m.ident ^^^ bits r 181 153) &&& bits r 152 124) == 0 && m.dlc == n
    && (n == 0 || bits r 63 0 == 0 || (List.range n).any (fun i => (m.data.getD i 0 &&& mask.getD (7 - i) 0) != 0))

/-- The decoder's error count after a frame (R255): up for an error, and for an FD frame unless FD_PASSIVE; down to 0 for one without error. -/
def wakeCount (r : BitVec 192) (errors : Nat) (m : CanMsg) (error : Bool) : Nat :=
  let fd := isFd m.format || m.format == .xl
  if error then errors + 1 else if fd then (if r.getLsbD 123 then errors else errors + 1) else errors - 1

/-- The oscillator runs from an edge on RXD (R254). -/
def oscillates (s : State) : State := { s with edge := { s.edge with oscillator := some s.cyc } }

/-- Whether the selective wake decoder of a channel reads RXD: in DEEP or on its way there, DEEP_MODE receive-only (R254). -/
def decoderOn (ch : Nat) (s : State) : Bool := (lightsGoing s || s.pwr.state == .deep) && bits (getCan ch s).record 119 118 == 1

/-- SELECTIVE_WAKE_FRAME (R255, R256). -/
def selectiveFrame (ch : Nat) (m : CanMsg) (error : Bool) (s : State) : State :=
  let r := wakeRecord ch s
  if !(decoderOn ch s) then s
  else if bits r 191 190 ≠ 2 then oscillates s
  else
    let n := wakeCount r (getWake ch s).errors m error
    let s1 := oscillates (setWake ch { getWake ch s with errors := n } s)
    if !error ∧ wufMatches r m then registerWake { channel := ch, cause := 1, dlc := m.dlc, ident := m.ident, data := m.data, aoCount := aoCount s } s1
    else if n ≥ 32 then registerWake { channel := ch, cause := 2 } s1
    else s1

/-- WUP_PATTERN (R255). -/
def wupWake (ch : Nat) (s : State) : State :=
  if !(decoderOn ch s) then s
  else if bits (wakeRecord ch s) 191 190 = 1 then registerWake { channel := ch, cause := 3 } (oscillates s)
  else oscillates s

/-- STANDBY_RXD_WAKE (R255). -/
def standbyWake (ch : Nat) (s : State) : State :=
  if (lightsGoing s || s.pwr.state == .deep) && bits (getCan ch s).record 119 118 == 0 then registerWake { channel := ch, cause := 4 } s else s

/-- LIN_DEEP_WAKE (R260). -/
def linWake (ch : Nat) (s : State) : State := if (getLin ch s).record.getLsbD 36 then registerWake { channel := ch, cause := 7 } s else s

/-- WAKE_OSC_STOP: 2 ms of recessive level (R254). -/
def oscStop (s : State) : State :=
  match s.edge.oscillator with
  | some t => if s.cyc ≥ t + 2 * msCyc then { s with edge := { s.edge with oscillator := none } } else s
  | none => s

/-- POWER_STATUS reply (R330). -/
def powerStatusReply (s : State) : List Byte :=
  let w := s.pwr
  let nets (f : Net → Bool) : Nat := (List.range 16).foldl (fun a i => match mapFind w.nets i with | some n => if f n then a + 2 ^ i else a | none => a) 0
  let held (n : Net) : Bool := n.record.getLsbD 123 && (n.hold || (n.record.getLsbD 121 && w.pinsHigh.getLsbD 0) || (n.record.getLsbD 120 && w.pinsHigh.getLsbD 1))
  natBytes 1 w.state.code ++ natBytes 1 ((if w.wakeLatched then 2 else 0) + (if w.transition.isSome then 1 else 0)) ++ natBytes 2 w.powered.toNat
    ++ natBytes 2 s.plk.stopped.toNat ++ natBytes 2 w.trimMask.toNat ++ natBytes 2 (nets (fun n => n.record.getLsbD 123 && n.mode == .asleep)) ++ natBytes 2 (nets held)
    ++ natBytes 1 w.causeNow ++ natBytes 1 w.instNow ++ natBytes 2 0

/-- WAKE_CAUSE reply (R256, R327). -/
def wakeCauseReply (s : State) : List Byte :=
  let r := s.edge.wakeRec
  natBytes 1 r.channel ++ natBytes 1 r.cause ++ natBytes 1 r.dlc ++ natBytes 1 0 ++ natBytes 4 r.ident ++ padTo 8 r.data ++ natBytes 4 r.aoCount ++ natBytes 4 0

end Sys2Proof.Machine
end

