-- ==== Sys2Proof/Machine/NmOps.lean ====
section
/-! DEFINITION. Machine/NmOps.lean: network management: records, keep-alives and holds, consent rounds, sleep and the wake of networks (R393-R402, R407, R410). -/

namespace Sys2Proof.Machine

/-- Replace a network. -/
def setNet (n : Nat) (x : Net) (s : State) : State := setPwr { s.pwr with nets := mapSet netReset s.pwr.nets n x } s

/-- SLEEP_WAIT in cycles. -/
def Net.sleepWait (x : Net) : Nat := bits x.record 52 43 * 10 * msCyc

/-- CONSENT_TIME in cycles. -/
def Net.consentTime (x : Net) : Nat := bits x.record 42 35 * 10 * msCyc

/-- FALSE_WAKE in cycles. -/
def Net.falseWake (x : Net) : Nat := bits x.record 34 27 * 10 * msCyc

/-- The interval of KEEP_ALIVE messages: SLEEP_WAIT/4 in whole units of 10 ms, at least one (R395). -/
def Net.keepEvery (x : Net) : Nat := Nat.max 1 (bits x.record 52 43 / 4) * 10 * msCyc

/-- Whether a network is held: by NM_REQUEST, or by a WAKE pin of its WAKE_HOLD at its active level (R395). -/
def netHeld (n : Nat) (s : State) : Bool :=
  let x := getNet n s
  x.hold || (x.record.getLsbD 121 && s.pwr.pinsHigh.getLsbD 0) || (x.record.getLsbD 120 && s.pwr.pinsHigh.getLsbD 1)

/-- Whether a network record breaks R393 or R394, as network `n` among the others. -/
def nmBad (n : Nat) (r : BitVec 128) (s : State) : Bool :=
  let members := bits r 119 53
  bits r 52 43 == 0 || decide (bits r 52 43 > 1000) || bits r 42 35 == 0 || bits r 34 27 == 0
  || (r.getLsbD 123 && (members == 0 ||
      (List.range 16).any (fun k => k != n && (getNet k s).enabled && decide (members &&& bits (getNet k s).record 119 53 ≠ 0))))

/-- The rule count that the Keeper watches as keep-alives (R395). -/
def kaCount (x : Net) (s : State) : Nat := (mapGet (0, 0) s.seam.rules (bits x.record 15 0)).1

/-- A CAN NM message of the module (R396). -/
def nmMsg (x : Net) (op : Nat) : CanMsg :=
  { format := .classicBase, rtr := false, brs := false, esi := false, ident := bits x.record 26 16, dlc := 2, data := natBytes 1 op ++ natBytes 1 0xFE }

/-- A CAN NM message joins a channel's transmit queue (R174, R396; log entry 40). -/
def nmSend (n op ch : Nat) (s : State) : State := keeperTx ch (nmMsg (getNet n s) op) s

/-- An NM message on every member CAN channel. -/
def nmSendAll (n op : Nat) (s : State) : State := forUpTo 32 (fun ch t => if (getNet n t).hasCan ch then nmSend n op ch t else t) s

/-- The participants of a CAN channel (R397). -/
def getNmChan (ch : Nat) (s : State) : NmChan := mapGet {} s.pwr.chans ch

/-- Replace them. -/
def setNmChan (ch : Nat) (x : NmChan) (s : State) : State := setPwr { s.pwr with chans := mapSet {} s.pwr.chans ch x } s

/-- The participants of a network's channels whose consent a round awaits (R399); channels of a domain that is off have left it (R411). -/
def silentNodes (n : Nat) (s : State) : List (Nat × Nat) :=
  let x := getNet n s
  ((List.range 32).filter (fun ch => x.hasCan ch && domainRuns (if ch < 16 then 13 else 12) s)).flatMap (fun ch =>
    ((List.range 64).filter (fun k => (getNmChan ch s).nodes.getLsbD k && !(x.answered.contains (ch, k)))).map (fun k => (ch, k)))

/-- The member T1 ports whose sleep acknowledge phase 2 awaits: linked, not excluded and not answered (R399, R400). -/
def silentPorts (n : Nat) (s : State) : List Nat :=
  let x := getNet n s
  (List.range 27).filter (fun p => isT1 p && x.hasPort p && (getPort p s).up && !(s.pwr.portExcluded.getLsbD p) && !(x.portsAnswered.contains p))

/-- The same of the partner module's ports in a pair, whose STATUS tells which are linked (R443, R445). A port `p` of the partner counts as `p + 32` among those that have answered or were silent. -/
def silentPairPorts (n : Nat) (s : State) : List Nat :=
  let x := getNet n s
  if pairActive s then
    (List.range 27).filter (fun p => isT1 p && x.hasPort p && (pairPartner p s).partner != 0 && decide (mapGet 0 s.pwr.portSilent (p + 32) < 3) && !(x.portsAnswered.contains (p + 32)))
  else []

/-- A port wakes from TC10 sleep, the partner's by RELAY_DOWN (R399, R407, R445). -/
def wakePort (p : Nat) (s : State) : State :=
  if p ≥ 32 then relayTo 3 (p - 32) [] s
  else
  emit (.tc10 p true) (setPwr { s.pwr with asleepPorts := s.pwr.asleepPorts &&& ~~~(BitVec.twoPow 27 p) } s)

/-- The go-to-sleep command of a LIN commander, after the frame in progress; its schedule then stops (R401). -/
def linSleep (ch : Nat) (s : State) : State :=
  let c := getLin ch s
  if !(c.record.getLsbD 63) ∨ !(c.record.getLsbD 62) then s
  else if c.waiting.isSome then setLin ch { c with running := false, sleepDue := true } s
  else
    let d : List Byte := 0 :: List.replicate 7 0xFF
    emit (.linResponse ch (d ++ [linChecksum false (linPid 60) d])) (emitHeader ch 60 (setLin ch { c with running := false, sleepDue := false, current := [], pos := 0 } s))

/-- The frame that a go-to-sleep command waited for has ended (R401). -/
def linSleepNow (ch : Nat) (s : State) : State := if (getLin ch s).sleepDue ∧ (getLin ch s).waiting.isNone then linSleep ch s else s

/-- A CAN member leaves the bus at the end of the frame in progress, its transceiver receive-only (R401). -/
def canSleep (ch : Nat) (s : State) : State :=
  if ch ≥ 16 then s
  else
    let c := getCan ch s
    if !(c.record.getLsbD 127) ∨ c.sending.isSome then s
    else restTransceiver ch (setCan ch { c with bus := .off, tail := if c.bus = .on then some c.record else c.tail, candAt := s.cyc } s)

/-- Whether a channel of a sleeping network still ends the frame that was in progress at the commit: one it sends, or one received whose start of frame came `ago` cycles before now (R401). -/
def endsFrame (ch ago : Nat) (s : State) : Bool := (getCan ch s).sending.isSome || ((getCan ch s).tail.isSome && decide (s.cyc < (getCan ch s).candAt + ago))

/-- The frame that a channel was sending has ended: in a sleeping network it leaves the bus, in DOZE its transceiver goes receive-only (R392, R401). -/
def restAfterFrame (ch : Nat) (s : State) : State :=
  if asleepMember (fun x => x.hasCan ch) s then canSleep ch s else if s.pwr.state = .doze then restTransceiver ch s else s

/-- Every enabled network is asleep, and there is one. -/
def allAsleep (s : State) : Bool :=
  let es := (List.range 16).filter (fun n => (getNet n s).enabled)
  !es.isEmpty && es.all (fun n => (getNet n s).mode == .asleep)

/-- The state at lights-out: OFF when every enabled network has TARGET OFF (R402). -/
def lightsTarget (s : State) : PwrState :=
  if (List.range 16).all (fun n => !(getNet n s).enabled || (getNet n s).record.getLsbD 122) then .off else .deep

/-- Lights-out of the module that runs network management: in whole-unit mode the partner is ordered into the same state (R402, R410). -/
def lightsOutNow (target : PwrState) (s : State) : State :=
  let s1 := if s.twin.mode = 1 ∧ inControl s ∧ s.twin.partner.isSome then sendTwin 0x0B 0 (natBytes 1 target.code ++ natBytes 3 0) s else s
  goLightsOut target s1

/-- A round succeeds: the network's members are quiet from the commit; the last network's commit is lights-out (R401, R402). -/
def nmCommit (n : Nat) (s : State) : State :=
  let x := getNet n s
  let s1 := setNet n { x with mode := .asleep, since := s.cyc, answered := [], portsAnswered := [] } s
  let s2 := forUpTo 32 (fun ch t => if x.hasCan ch then canSleep ch t else t) s1
  let s3 := forUpTo 8 (fun ch t => if x.hasLin ch then linSleep ch t else t) s2
  let s4 := forUpTo 27 (fun p t => if x.hasPort p then stopPort p t else t) s3
  if allAsleep s4 ∧ s4.pwr.transition.isNone then lightsOutNow (lightsTarget s4) s4 else s4

/-- A round fails: counted, the network is awake, and ports that slept in it are woken (R399). -/
def roundFails (n : Nat) (s : State) : State :=
  let x := getNet n s
  let s1 := bump .pwrNmRoundFail n (setNet n { x with mode := .awake, since := s.cyc, answered := [], portsAnswered := [] } s)
  forEach x.portsAnswered wakePort s1

/-- A round moves on when every answer of its phase is in (R399). -/
def roundProgress (n : Nat) (s : State) : State :=
  let x := getNet n s
  if !x.enabled ∨ x.mode ≠ .consent then s
  else
    let two := { x with phase := 2, since := s.cyc }
    let s1 := if x.phase = 1 ∧ (silentNodes n s).isEmpty then
        let t := setNet n two s
        forEach (silentPairPorts n t) (fun p u => relayTo 2 p [] u) (forEach (silentPorts n t) (fun p u => emit (.tc10 p false) u) t)
      else s
    if (getNet n s1).phase = 2 ∧ (silentPorts n s1).isEmpty ∧ (silentPairPorts n s1).isEmpty then nmCommit n s1 else s1

/-- The snapshot that the Keeper makes sure of before a round (R402): none when the configuration does not fit. -/
def snapshotFor (s : State) : Option State :=
  let rs := activeRecords s
  if !(imageFits rs) then none
  else match bestCopy s with
    | some i => if i.digest = digestOf rs then some s else some (writeImage rs s)
    | none => some (writeImage rs s)

/-- A timer expires with no hold: a consent round starts, when the snapshot can be written (R398, R399, R402). -/
def startRound (n : Nat) (s : State) : State :=
  let x := getNet n s
  match snapshotFor s with
  | none => raiseEv .nmSaveFail n [] (bump .pwrNmSaveFail 0 (setNet n { x with mode := .awake, since := s.cyc } s))
  | some s0 =>
    let s1 := if x.mode = .wakeCheck then bump .pwrNmFalseWake n s0 else s0
    let s2 := bump .pwrNmRound n (setNet n { x with mode := .consent, phase := 1, since := s.cyc, answered := [], portsAnswered := [] } s1)
    roundProgress n (nmSendAll n 2 s2)

/-- Networks are managed by a running Keeper, in whole-unit mode by the module in control (R410), outside DOZE and lights-out. -/
def nmRuns (s : State) : Bool := keeperRuns s && s.pwr.state != .doze && !(lightsOut s) && (s.twin.mode != 1 || inControl s)

/-- SLEEP_WAIT expires (R398, R411). -/
def sleepExpire (n : Nat) (s : State) : State :=
  let x := getNet n s
  if nmRuns s ∧ x.enabled ∧ x.mode = .awake ∧ s.cyc ≥ x.since + x.sleepWait ∧ !(netHeld n s) then startRound n s else s

/-- FALSE_WAKE expires (R398). -/
def falseWakeExpire (n : Nat) (s : State) : State :=
  let x := getNet n s
  if nmRuns s ∧ x.enabled ∧ x.mode = .wakeCheck ∧ s.cyc ≥ x.since + x.falseWake ∧ !(netHeld n s) then startRound n s else s

/-- The wake pulse of a LIN commander (R260). -/
def linPulse (ch : Nat) (s : State) : State :=
  let r := (getLin ch s).record
  if r.getLsbD 63 ∧ r.getLsbD 62 then emit (.linWake ch (bits r 35 26 * 5)) s else s

/-- A member is brought back when its network wakes: T1 ports by the TC10 wake-up request, LIN commanders by a wake pulse but for the channel `src` that woke it, CAN channels by integration (R260, R407). -/
def wakeMembers (n : Nat) (src : Option Nat) (s : State) : State :=
  let x := getNet n s
  let s1 := forUpTo 27 (fun p t => if x.hasPort p ∧ isT1 p then wakePort (p + 32) (wakePort p t) else t) s
  let s2 := forUpTo 8 (fun ch t => if x.hasLin ch then (let u := setLin ch { getLin ch t with sleepDue := false } t; if src ≠ some ch then linPulse ch u else u) else t) s1
  forUpTo 32 (fun ch t => if x.hasCan ch then setNmChan ch {} (if ch < 16 then canRejoin ch t else t) else t) s2

/-- A network wakes (R407). -/
def wakeNet (n : Nat) (src : Option Nat) (s : State) : State :=
  wakeMembers n src (setNet n { getNet n s with mode := .wakeCheck, since := s.cyc, kaSeen := kaCount (getNet n s) s } s)

/-- A keep-alive or a hold (R398, R399, R407): a sleeping network is not reached by a keep-alive. -/
def keepAwake (n : Nat) (s : State) : State :=
  let x := getNet n s
  if !x.enabled then s
  else match x.mode with
    | .consent => roundFails n s
    | .asleep => s
    | _ => setNet n { x with mode := .awake, since := s.cyc } s

/-- A hold is applied (R395, R398, R407). -/
def applyHold (n : Nat) (s : State) : State :=
  let x := getNet n s
  if !x.enabled then s else if x.mode = .asleep then keepAwake n (wakeNet n none s) else keepAwake n s

/-- NM_SET (R393, R394, R398). -/
def nmSet (r : BitVec 128) (s : State) : CmdResult :=
  let n := bits r 127 124
  let x := getNet n s
  if nmBad n r s then failed .denied s
  else if x.enabled ∧ x.mode = .consent then failed .busy s
  else
    let s1 := if x.enabled ∧ x.mode = .asleep then wakeMembers n none s else s
    done [] (setNet n { x with record := r, mode := .awake, since := s.cyc, kaSeen := kaCount { x with record := r } s, kaNext := s.cyc, answered := [], portsAnswered := [] } s1)

/-- NM_REQUEST (R395). -/
def nmRequest (mask : BitVec 16) (hold : Bool) (s : State) : State :=
  forUpTo 16 (fun n t => if mask.getLsbD n then
      let t1 := setNet n { getNet n t with hold := hold, kaNext := if hold then t.cyc else (getNet n t).kaNext } t
      if hold then applyHold n t1 else t1
    else t) s

/-- NM_KA_POLL: every 10 ms an increase of KA_RULE is a keep-alive (R395). -/
def kaPoll (s : State) : State :=
  if !(nmRuns s) ∨ s.cyc < s.pwr.kaPollAt then s
  else
    let s1 := forUpTo 16 (fun n t =>
      let x := getNet n t
      let c := kaCount x t
      if !x.enabled then t
      else
        let t1 := setNet n { x with kaSeen := c } t
        if c > x.kaSeen then keepAwake n t1 else t1) s
    setPwr { s1.pwr with kaPollAt := s.cyc + 10 * msCyc } s1

/-- NM_KEEPALIVE_TX (R395). -/
def kaSend (n : Nat) (s : State) : State :=
  let x := getNet n s
  if nmRuns s ∧ x.enabled ∧ netHeld n s ∧ s.cyc ≥ x.kaNext then nmSendAll n 1 (setNet n { x with kaNext := s.cyc + x.keepEvery } s) else s

/-- The network and the sender of a valid NM message on a channel (R396), or nothing; a message that breaks the table is counted. -/
def nmTake (ch op : Nat) (m : CanMsg) (s : State) : Option (Nat × Nat) × State :=
  match netOf (fun x => x.hasCan ch) s with
  | none => (none, s)
  | some n =>
    let node := numAt m.data 1 1
    let ok : Bool := m.format == .classicBase && !m.rtr && m.ident == bits (getNet n s).record 26 16 && m.dlc == 2 && m.data.length == 2
      && numAt m.data 0 1 == op && (decide (node < 64) || node == 0xFE)
    if !(nmRuns s) ∨ (getNet n s).mode = .asleep then (none, s)
    else if !ok then (none, bump .pwrNmBad ch s)
    else
      let c := getNmChan ch s
      (some (n, node), if node < 64 then setNmChan ch { c with nodes := c.nodes ||| BitVec.twoPow 64 node } s else s)

/-- NM_KEEP_ALIVE_RX (R395, R396). -/
def keepAliveRx (ch : Nat) (m : CanMsg) (s : State) : State :=
  match nmTake ch 1 m s with
  | (some (n, _), t) => keepAwake n t
  | (none, t) => t

/-- NM_READY_TO_SLEEP_RX (R396). -/
def readyToSleepRx (ch : Nat) (m : CanMsg) (s : State) : State :=
  match nmTake ch 2 m s with
  | (some (n, _), t) => nmSend n (if netHeld n t then 4 else 3) ch t
  | (none, t) => t

/-- NM_CONSENT_RX (R399, R400): an answer ends a participant's silence. -/
def consentRx (ch : Nat) (m : CanMsg) (s : State) : State :=
  match nmTake ch 3 m s with
  | (some (n, node), t) =>
    let x := getNet n t
    if node ≥ 64 ∨ x.mode ≠ .consent ∨ x.phase ≠ 1 then t
    else
      let c := getNmChan ch t
      roundProgress n (setNet n { x with answered := x.answered ++ [(ch, node)] } (setNmChan ch { c with silent := mapSet 0 c.silent node 0 } t))
  | (none, t) => t

/-- NM_REFUSE_RX (R399). -/
def refuseRx (ch : Nat) (m : CanMsg) (s : State) : State :=
  match nmTake ch 4 m s with
  | (some (n, _), t) => if (getNet n t).mode = .consent then roundFails n t else t
  | (none, t) => t

/-- TC10_SLEEP_ACK: a partner's answer ends its exclusion, and in phase 2 its port sleeps at once (R399, R400). -/
def sleepAck (p : Nat) (s : State) : State :=
  let s0 := setPwr { s.pwr with portExcluded := s.pwr.portExcluded &&& ~~~(BitVec.twoPow 27 p), portSilent := mapSet 0 s.pwr.portSilent p 0 } s
  match netOf (fun x => x.hasPort p) s with
  | none => s0
  | some n =>
    let x := getNet n s
    if !(nmRuns s) ∨ !(isT1 p) ∨ x.mode ≠ .consent ∨ x.phase ≠ 2 ∨ !(getPort p s).up then s0
    else
      let s1 := portDown p (setPwr { s0.pwr with asleepPorts := s0.pwr.asleepPorts ||| BitVec.twoPow 27 p } s0)
      roundProgress n (setNet n { x with portsAnswered := x.portsAnswered ++ [p] } s1)

/-- The acknowledge of a partner module's port, relayed by it (R399, R400, R445). -/
def pairAck (p : Nat) (s : State) : State :=
  let s0 := setPwr { s.pwr with portSilent := mapSet 0 s.pwr.portSilent (p + 32) 0 } s
  match netOf (fun x => x.hasPort p) s with
  | none => s0
  | some n =>
    let x := getNet n s
    if !(nmRuns s) ∨ x.mode ≠ .consent ∨ x.phase ≠ 2 then s0
    else roundProgress n (setNet n { x with portsAnswered := x.portsAnswered ++ [p + 32] } s0)

/-- A participant was silent: its third round in a row leaves it out (R400). -/
def nodeSilent (n : Nat) (e : Nat × Nat) (s : State) : State :=
  let c := getNmChan e.1 s
  let k := mapGet 0 c.silent e.2 + 1
  if k ≥ 3 then bump .pwrNmSilent n (setNmChan e.1 { nodes := c.nodes &&& ~~~(BitVec.twoPow 64 e.2), silent := mapSet 0 c.silent e.2 0 } s)
  else setNmChan e.1 { c with silent := mapSet 0 c.silent e.2 k } s

/-- A partner was silent (R400); of the partner module's ports, the count of 3 stands for the exclusion. -/
def portSilent (n p : Nat) (s : State) : State :=
  let k := mapGet 0 s.pwr.portSilent p + 1
  if p ≥ 32 then (let s1 := setPwr { s.pwr with portSilent := mapSet 0 s.pwr.portSilent p k } s; if k ≥ 3 then bump .pwrNmSilent n s1 else s1)
  else if k ≥ 3 then bump .pwrNmSilent n (setPwr { s.pwr with portExcluded := s.pwr.portExcluded ||| BitVec.twoPow 27 p, portSilent := mapSet 0 s.pwr.portSilent p 0 } s)
  else setPwr { s.pwr with portSilent := mapSet 0 s.pwr.portSilent p k } s

/-- NM_CONSENT_TIMEOUT: the phase's time ends with answers missing (R399, R400). -/
def consentTimeout (n : Nat) (s : State) : State :=
  let x := getNet n s
  if !(nmRuns s) ∨ !x.enabled ∨ x.mode ≠ .consent ∨ s.cyc < x.since + x.consentTime then s
  else
    let nodes := if x.phase = 1 then silentNodes n s else []
    let ports := if x.phase = 2 then silentPorts n s ++ (silentPairPorts n s).map (fun p => p + 32) else []
    if nodes.isEmpty ∧ ports.isEmpty then roundProgress n s
    else roundFails n (forEach ports (portSilent n) (forEach nodes (nodeSilent n) s))

/-- A wake source on a member (R399, R407): a sleeping network wakes, a round fails. -/
def memberWakes (n : Nat) (lin : Option Nat) (s : State) : State :=
  let x := getNet n s
  if !x.enabled then s
  else match x.mode with
    | .asleep => wakeNet n lin s
    | .consent => roundFails n s
    | _ => s

/-- Whether the module runs in RUN or TRIM. -/
def running (s : State) : Bool := (s.pwr.state == .run || s.pwr.state == .trim) && !(lightsGoing s)

/-- TC10_WAKE_RX (R407). -/
def tc10WakeRx (p : Nat) (s : State) : State :=
  if !(running s) then s
  else match netOf (fun x => x.hasPort p) s with
    | some n => memberWakes n none s
    | none => s

/-- LIN_WAKE_RX (R407). -/
def linWakeRx (ch : Nat) (s : State) : State :=
  if !(running s) then s
  else match netOf (fun x => x.hasLin ch) s with
    | some n => memberWakes n (some ch) s
    | none => s

/-- A network is selective when all its CAN members are C0-C15 channels with WMODE WUF and it has no other members (R407). -/
def selectiveNet (n : Nat) (s : State) : Bool :=
  let x := getNet n s
  bits x.record 119 93 == 0 && bits x.record 60 53 == 0 && bits x.record 92 77 == 0
    && (List.range 16).all (fun ch => !(x.hasCan ch) || bits (wakeRecord ch s) 191 190 == 2)

/-- A frame on a CAN channel whose network sleeps, in RUN or TRIM (R407): on a WUF channel it must match, or bring a selective network's error count to 32. -/
def sleepingCan (ch : Nat) (m : CanMsg) (error : Bool) (s : State) : State :=
  match netOf (fun x => x.hasCan ch) s with
  | none => s
  | some n =>
    let r := wakeRecord ch s
    if bits r 191 190 ≠ 2 then (if error then s else wakeNet n none s)
    else
      let k := wakeCount r (getWake ch s).errors m error
      let s1 := setWake ch { getWake ch s with errors := if k ≥ 32 then 0 else k } s
      if (!error && wufMatches r m) || (decide (k ≥ 32) && selectiveNet n s) then wakeNet n none s1 else s1

/-- The networks that wake when the module leaves DEEP (R407): those of the wake source, those whose WAKE pin is active, and those that are not selective. -/
def wakesFromDeep (n : Nat) (s : State) : Bool :=
  let x := getNet n s
  let c := s.pwr.causeNow
  let i := s.pwr.instNow
  let source : Bool := if c = 0 then false else if c ≤ 4 then x.hasCan i else if c = 7 then x.hasLin i else if c = 8 then x.hasPort i else false
  x.enabled && (source || (x.record.getLsbD 121 && s.pwr.pinsHigh.getLsbD 0) || (x.record.getLsbD 120 && s.pwr.pinsHigh.getLsbD 1) || !(selectiveNet n s))

/-- WAKE_PIN in a running module: networks that name the pin are held (R395, R407). -/
def pinHolds (pin : Nat) (s : State) : State :=
  forUpTo 16 (fun n t => if (getNet n t).record.getLsbD (121 - pin) then
      applyHold n (setNet n { getNet n t with kaNext := t.cyc } t) else t) s

end Sys2Proof.Machine
end

