-- ==== Sys2Proof/Machine/CmdPower.lean ====
section
/-! DEFINITION. Machine/CmdPower.lean: the opcodes of the Power/network management class (0x0B) and of the Safety class (0x0C) (R327). -/

namespace Sys2Proof.Machine

/-- POWER_REQ (R390). -/
def cmdPowerReq : Cmd :=
  { cls := 11, opcode := 1, len := lenIs 4, body := fun _ p s => whenOk (res0 [(1, 1)] p) (powerRequest (numAt p 0 1) (BitVec.ofNat 16 (numAt p 2 2)) s) s }

/-- POWER_STATUS (R330). -/
def cmdPowerStatus : Cmd := { cls := 11, opcode := 2, mutator := false, len := lenIs 0, body := fun _ _ s => done (powerStatusReply s) s }

/-- NM_SET (R393); the object of its image record is the network. -/
def cmdNmSet : Cmd := { cls := 11, opcode := 3, len := lenIs 16, key := some 1, body := fun _ p s => nmSet (BitVec.ofNat 128 (numAt p 0 16)) s }

/-- NM_REQUEST (R395). -/
def cmdNmRequest : Cmd :=
  { cls := 11, opcode := 4, len := lenIs 4,
    body := fun _ p s => whenOk (decide (numAt p 2 1 ≤ 1) && res0 [(3, 1)] p) (done [] (nmRequest (BitVec.ofNat 16 (numAt p 0 2)) (numAt p 2 1 == 1) s)) s }

/-- WAKE_SET (R254). -/
def cmdWakeSet : Cmd :=
  { cls := 11, opcode := 5, len := lenIs 28, key := some 1,
    body := fun _ p s =>
      let ch := numAt p 0 1
      let r := BitVec.ofNat 192 (numAt p 4 24)
      whenOk (decide (ch < 16) && res0 [(1, 3)] p && !(wakeBad r)) (done [] (setWake ch { getWake ch s with record := r } s)) s }

/-- WAKE_CAUSE (R256). -/
def cmdWakeCause : Cmd := { cls := 11, opcode := 6, mutator := false, len := lenIs 0, body := fun _ _ s => done (wakeCauseReply s) s }

/-- The Power/network management class. -/
def powerCmds : List Cmd := [cmdPowerReq, cmdPowerStatus, cmdNmSet, cmdNmRequest, cmdWakeSet, cmdWakeCause]

/-- LAMP_STATUS (R421). -/
def cmdLampStatus : Cmd := { cls := 12, opcode := 1, mutator := false, len := lenIs 0, body := fun _ _ s => done (lampReply s) s }

/-- SAFE_RELEASE (R419). -/
def cmdSafeRelease : Cmd := { cls := 12, opcode := 2, len := lenIs 4, body := fun _ p s => whenOk (res0 [(0, 4)] p) (safeRelease s) s }

/-- SAFE_OPEN_SET (R416). -/
def cmdSafeOpen : Cmd :=
  { cls := 12, opcode := 3, len := lenIs 4, key := some 0,
    body := fun _ p s => whenOk (decide (numAt p 0 4 < 2 ^ 27)) (done [] (setSafeOpen (BitVec.ofNat 32 (numAt p 0 4)) s)) s }

/-- FAULT_INJECT (R422), in PROVISION and SERVICE only. -/
def cmdFaultInject : Cmd :=
  { cls := 12, opcode := 4, len := lenIs 4, mode := fun _ s => lcState s == 1 || lcState s == 3,
    body := fun _ p s => whenOk (res0 [(2, 2)] p) (inject (numAt p 0 2) s) s }

/-- DEBUG_CHALLENGE (R462). -/
def cmdDebugChallenge : Cmd := { cls := 12, opcode := 5, len := lenIs 0, body := fun _ _ s => debugChallenge s }

/-- DEBUG_UNLOCK (R463). -/
def cmdDebugUnlock : Cmd :=
  { cls := 12, opcode := 6, len := lenIs 36, body := fun _ p s => whenOk (res0 [(1, 3)] p) (debugUnlock (numAt p 0 1) (p.drop 4) s) s }

/-- The Safety class. -/
def safetyCmds : List Cmd := [cmdLampStatus, cmdSafeRelease, cmdSafeOpen, cmdFaultInject, cmdDebugChallenge, cmdDebugUnlock]

end Sys2Proof.Machine
end

