-- ==== Sys2Proof/Machine/CmdSched.lean ====
section
/-! DEFINITION. Machine/CmdSched.lean: the opcodes of the Schedule class (0x04) (R327): gate lists and stream gates (R73-R80, R91). -/

namespace Sys2Proof.Machine

/-- GCL_WRITE (R73, R80): entries of the shadow list. -/
def cmdGclWrite : Cmd :=
  { cls := 4, opcode := 1, domains := fun _ => [6], len := fun p => lenCount 8 16 4 2 1 255 p && decide (numAt p 2 2 ≤ 1023) && decide (numAt p 2 2 + numAt p 4 2 ≤ 1024),
    body := fun _ p s =>
      let port := numAt p 0 1
      let first := numAt p 2 2
      let es := (elements 8 16 (numAt p 4 2) p).map (fun e => BitVec.ofNat 128 (beNat e))
      let g := getGates port s
      if !(decide (port ≤ 26) && res0 [(1, 1), (6, 2)] p) ∨ es.any entryBad then failed .denied s
      else if g.pend.isSome then failed .busy s
      else
        let ents := (List.range es.length).foldl (fun m i => mapSet 0 m (first + i) (es.getD i 0)) g.shadow.ents
        done [] (setGates port { g with shadow := { g.shadow with ents := ents } } s) }

/-- Whether gate-list parameters are in range (R73). -/
def gclParamsOk (p : List Byte) : Bool :=
  let len := numAt p 2 2
  let cycle := numAt p 4 4
  decide (1 ≤ len) && decide (len ≤ 1024) && decide (100 ≤ cycle) && decide (cycle ≤ 1000000000) && decide (numAt p 8 4 ≤ 1000000000) && decide (numAt p 18 4 < 1000000000)
    && decide (numAt p 23 1 ≤ 1)

/-- GCL_PARAMS (R73, R80): parameters of the shadow list. -/
def cmdGclParams : Cmd :=
  { cls := 4, opcode := 2, domains := fun _ => [6], len := lenIs 24,
    body := fun _ p s =>
      let port := numAt p 0 1
      let g := getGates port s
      if !(decide (port ≤ 26) && res0 [(1, 1)] p && gclParamsOk p) then failed .denied s
      else if g.pend.isSome then failed .busy s
      else
        let l : GateList := { g.shadow with len := numAt p 2 2, cycle := numAt p 4 4, ext := numAt p 8 4, base := numAt p 12 6 * 1000000000 + numAt p 18 4,
                                            shut := BitVec.ofNat 8 (numAt p 22 1), enable := numAt p 23 1 == 1 }
        done [] (setGates port { g with shadow := l } s) }

/-- How long before CT a commit must be accepted, and a cancel executed, in ns: 10 us and 5 us (R78, R80), 12 ms for both in control of a whole-unit pair (R450). -/
def commitLead (s : State) : Nat × Nat := if s.twin.mode = 1 ∧ inControl s then (12000000, 12000000) else (10000, 5000)

/-- CT of a commit accepted now (R78, R450). -/
def commitTime (base cycle : Nat) (s : State) : Int :=
  let e := nowNs s + (commitLead s).1
  if base ≥ e then base else Int.ofNat (base + ((e - base + cycle - 1) / cycle) * cycle)

/-- A validated commit of a port's shadow list (R78). -/
def commitList (port : Nat) (s : State) : State :=
  let g := getGates port s
  setGates port { g with pend := some (commitTime g.shadow.base g.shadow.cycle s) } s

/-- Whether the stitch keys that would be tracked with a port's shadow list in place of its active one are too many (R121). -/
def tooManyKeys (port : Nat) (s : State) : Bool := tracksTooMany (epochKeys (curTables s)) (commitList port s)

/-- A CT as a 12-byte time (R99). -/
def ctBytes (ct : Int) : List Byte := timeBytes (ct.toNat * 65536)

/-- GCL_COMMIT (R73, R77, R78, R121). -/
def cmdGclCommit : Cmd :=
  { cls := 4, opcode := 3, domains := fun _ => [6], len := lenIs 4,
    body := fun _ p s =>
      let port := numAt p 0 1
      let g := getGates port s
      if !(decide (port ≤ 26) && res0 [(1, 3)] p) then failed .denied s
      else if g.pend.isSome then failed .busy s
      else if listBad g.shadow || !(classChecks port g.shadow s) || tooManyKeys port s then failed .denied s
      else done (ctBytes (commitTime g.shadow.base g.shadow.cycle s)) (commitList port s) }

/-- Whether a cancel of a change at CT comes in time (R80, R450). -/
def cancelInTime (ct : Int) (s : State) : Bool := decide (Int.ofNat (nowNs s + (commitLead s).2) ≤ ct)

/-- GCL_CANCEL (R80): it withdraws a commit that is pending; with none it completes with NOT_IN_STATE. -/
def cmdGclCancel : Cmd :=
  { cls := 4, opcode := 4, domains := fun _ => [6], len := lenIs 4,
    body := fun _ p s =>
      let port := numAt p 0 1
      let g := getGates port s
      if !(decide (port ≤ 26) && res0 [(1, 3)] p) then failed .denied s
      else
        match g.pend with
        | some ct => if cancelInTime ct s then done [] (setGates port { g with pend := none } s) else failed .notInState s
        | none => failed .notInState s }

/-- GCL_READ: entries as stored. -/
def cmdGclRead : Cmd :=
  { cls := 4, opcode := 5, domains := fun _ => [6], mutator := false, len := fun p => lenIs 8 p && decide (1 ≤ numAt p 4 2) && decide (numAt p 4 2 ≤ 255) && decide (numAt p 2 2 + numAt p 4 2 ≤ 1024),
    body := fun _ p s =>
      let g := getGates (numAt p 0 1) s
      let l := if numAt p 1 1 = 0 then g.act else g.shadow
      whenOk (decide (numAt p 0 1 ≤ 26) && decide (numAt p 1 1 ≤ 1) && res0 [(6, 2)] p)
        (done ((List.range (numAt p 4 2)).flatMap (fun i => natBytes 16 (mapGet 0 l.ents (numAt p 2 2 + i)).toNat)) s) s }

/-- GCL_STATUS reply (R330). -/
def gclStatusReply (p : Nat) (s : State) : List Byte :=
  let g := getGates p s
  let overr := match g.ovr with
    | some o => decide (Int.ofNat (nowNs s) < o.stop)
    | none => false
  let flags := (if lampCloses p s then 32 else 0) + (if overr then 16 else 0) + (if g.infeasible then 8 else 0) + (if g.pend.isSome then 4 else 0)
    + (if g.hold then 2 else 0) + (if g.live && g.act.enable then 1 else 0)
  natBytes 2 g.cur ++ natBytes 1 flags ++ natBytes 1 (gateOut p s).toNat ++ ctBytes g.cycleStart ++ (match g.pend with | some c => ctBytes c | none => natBytes 12 0)
    ++ natBytes 2 g.act.len ++ natBytes 2 0 ++ natBytes 4 g.act.cycle ++ natBytes 12 0

/-- GCL_STATUS. -/
def cmdGclStatus : Cmd :=
  { cls := 4, opcode := 6, domains := fun _ => [6], mutator := false, len := lenIs 4,
    body := fun _ p s => whenOk (decide (numAt p 0 1 ≤ 26) && res0 [(1, 3)] p) (done (gclStatusReply (numAt p 0 1) s) s) s }

/-- The list that SGATE_WRITE parameters spell. -/
def sgListOf (p : List Byte) : SgList :=
  { ents := (elements 24 8 (numAt p 1 1) p).map (fun e => { isOpen := numAt e 0 1 == 1, prio := numAt e 1 1, interval := numAt e 4 4 }),
    cycle := numAt p 4 4, ext := numAt p 8 4, base := numAt p 12 6 * 1000000000 + numAt p 18 4, lockOption := numAt p 2 1 == 1 }

/-- Whether SGATE_WRITE parameters are in range (R91, R327). -/
def sgateOk (p : List Byte) : Bool :=
  let cycle := numAt p 4 4
  res0 [(3, 1), (22, 2)] p && decide (numAt p 2 1 ≤ 1) && decide (100 ≤ cycle) && decide (cycle ≤ 1000000000) && decide (numAt p 8 4 ≤ 1000000000) && decide (numAt p 18 4 < 1000000000)
    && (elements 24 8 (numAt p 1 1) p).all (fun e => decide (numAt e 0 1 ≤ 1) && (decide (numAt e 1 1 ≤ 7) || numAt e 1 1 == 255) && res0 [(2, 2)] e
          && decide (8 ≤ numAt e 4 4) && decide (numAt e 4 4 ≤ 1000000000))

/-- SGATE_WRITE (R91): the shadow of a stream gate. -/
def cmdSgateWrite : Cmd :=
  { cls := 4, opcode := 7, domains := fun _ => [6], len := lenCount 24 8 1 1 1 64,
    body := fun _ p s =>
      let i := numAt p 0 1
      let g := getSGate i s
      if !(sgateOk p) then failed .denied s
      else if g.pend.isSome then failed .busy s
      else done [] (setSGate i { g with shadow := sgListOf p } s) }

/-- SGATE_COMMIT (R78, R91): a shadow never written has no entries and is refused. -/
def cmdSgateCommit : Cmd :=
  { cls := 4, opcode := 8, domains := fun _ => [6], len := lenIs 4,
    body := fun _ p s =>
      let i := numAt p 0 1
      let g := getSGate i s
      if !(res0 [(1, 3)] p) then failed .denied s
      else if g.pend.isSome then failed .busy s
      else if g.shadow.ents.isEmpty then failed .denied s
      else
        let ct := commitTime g.shadow.base g.shadow.cycle s
        done (ctBytes ct) (setSGate i { g with pend := some ct } s) }

/-- SGATE_CANCEL (R80, R91). -/
def cmdSgateCancel : Cmd :=
  { cls := 4, opcode := 9, domains := fun _ => [6], len := lenIs 4,
    body := fun _ p s =>
      let i := numAt p 0 1
      let g := getSGate i s
      if !(res0 [(1, 3)] p) then failed .denied s
      else
        match g.pend with
        | some ct => if cancelInTime ct s then done [] (setSGate i { g with pend := none } s) else failed .notInState s
        | none => failed .notInState s }

/-- SGATE_UNLOCK (R91). -/
def cmdSgateUnlock : Cmd :=
  { cls := 4, opcode := 10, domains := fun _ => [6], len := lenIs 4,
    body := fun _ p s =>
      let i := numAt p 0 1
      whenOk (res0 [(1, 3)] p) (done [] (setSGate i { getSGate i s with locked := false } s)) s }

/-- The Schedule class. -/
def schedCmds : List Cmd :=
  [cmdGclWrite, cmdGclParams, cmdGclCommit, cmdGclCancel, cmdGclRead, cmdGclStatus, cmdSgateWrite, cmdSgateCommit, cmdSgateCancel, cmdSgateUnlock]

end Sys2Proof.Machine
end

