-- ==== Sys2Proof/Machine/CmdTime.lean ====
section
/-! DEFINITION. Machine/CmdTime.lean: the opcodes of the Time/stitch class (0x05) (R327). -/

namespace Sys2Proof.Machine

/-- The code of a servo state (R107). -/
def bcnCode (m : BcnState) : Nat := m.ctorIdx

/-- TIME_GET (R107). -/
def cmdTimeGet : Cmd :=
  { cls := 5, opcode := 1, domains := fun _ => [15], mutator := false, len := lenIs 0,
    body := fun _ _ s =>
      done (nowBytes s ++ natBytes 1 (bcnCode s.bcn.mode) ++ natBytes 1 ((if s.bcn.stepPending then 1 else 0) + (if s.bcn.provisional then 2 else 0)) ++ natBytes 2 0) s }

/-- Beacon time set to a value, by one step (R109). -/
def setBeaconTime (t : Nat) (s : State) : State := stepBeacon (Int.ofNat t - Int.ofNat (nowFrac s)) s

/-- SET_TIME, in FREE or HOLDOVER only (R109). -/
def cmdSetTime : Cmd :=
  { cls := 5, opcode := 2, domains := fun _ => [15], len := lenIs 12, mode := fun _ s => s.bcn.mode == .free || s.bcn.mode == .holdover,
    body := fun _ p s => whenOk (timeOk p 0) (done [] (setBeaconTime (timeAt p 0) s)) s }

/-- GM_SET_TIME, in GRANDMASTER only (R109). -/
def cmdGmSetTime : Cmd :=
  { cls := 5, opcode := 3, domains := fun _ => [15], len := lenIs 12, mode := fun _ s => s.bcn.mode == .grandmaster,
    body := fun _ p s => whenOk (timeOk p 0) (done [] (setBeaconTime (timeAt p 0) s)) s }

/-- ACCEPT_STEP (R109, R110): in the cycle of a refusal that wins, it completes with NOT_IN_STATE (R128); else the pending step is applied, the provisional mark ends (log entry 87), the clock goes to ACQUIRE; the reply gives the step, its seconds rounded down. -/
def cmdAcceptStep : Cmd :=
  { cls := 5, opcode := 4, domains := fun _ => [15], len := lenIs 0,
    body := fun _ _ s =>
      if !s.bcn.stepPending ∨ s.bcn.refusedAt = some s.cyc then failed .notInState s
      else
        let d := s.bcn.pendOffset
        let ns := d / 65536
        let s1 := stepBeacon d s
        done (intBytes 6 (ns / 1000000000) ++ natBytes 4 (ns % 1000000000).toNat ++ natBytes 2 0)
          (setBcn { s1.bcn with stepPending := false, provisional := false, mode := .acquire, good := 0, far := 0 } s1) }

/-- SERVO_SET (R106, R108, R110). -/
def cmdServoSet : Cmd :=
  { cls := 5, opcode := 5, domains := fun _ => [15], len := lenIs 12, key := some 0,
    body := fun _ p s =>
      let th := numAt p 0 4
      let slew := numAt p 4 2
      let wl := numAt p 8 4
      whenOk (decide (1 ≤ th) && decide (th ≤ 1000000000) && decide (1 ≤ slew) && decide (slew ≤ 1000) && decide (numAt p 6 1 ≤ 1) && res0 [(7, 1)] p
              && decide (1000 ≤ wl) && decide (wl ≤ 1000000000))
        (done [] (setBcn { s.bcn with threshold := th, slewPpm := slew, autoAcquire := numAt p 6 1 == 1, wakeLimit := wl } s)) s }

/-- GPTP_SET (R105, R106): a command that makes the tracked domain primary is a grandmaster change (R106), so a clock that was grandmaster of the other holds over until a Sync of this one (log entry 86). A primary field of 0 leaves the primary domain as it is (log entry 35). -/
def gptpSet (p : List Byte) (s : State) : State :=
  let i := numAt p 0 1
  let g : Gptp := { getInst i s with
    domain := numAt p 1 1, external := numAt p 2 1 == 1, prio1 := numAt p 4 1, prio2 := numAt p 5 1, logSync := BitVec.ofNat 8 (numAt p 8 1), logPdelay := BitVec.ofNat 8 (numAt p 9 1),
    portMask := BitVec.ofNat 32 (numAt p 12 4), roles := (p.drop 16).take 27 }
  let takes := numAt p 3 1 == 1 && decide (s.bcn.primary ≠ i)
  let s1 := setInst i (if takes then { g with changed := true } else g) s
  if !takes then s1
  else
    let s2 := setBcn { s1.bcn with primary := i } s1
    if s.bcn.mode = .grandmaster then enterHoldover s2 else s2

/-- GPTP_SET. -/
def cmdGptpSet : Cmd :=
  { cls := 5, opcode := 6, domains := fun _ => [15], len := lenIs 44, key := some 1,
    body := fun _ p s =>
      whenOk (decide (numAt p 0 1 ≤ 1) && decide (numAt p 1 1 ≤ 127) && decide (numAt p 2 1 ≤ 1) && decide (numAt p 3 1 ≤ 1) && res0 [(6, 2), (10, 2), (43, 1)] p
              && decide (numAt p 12 4 < 2 ^ 27) && ((p.drop 16).take 27).all (fun r => decide (r.toNat ≤ 3)))
        (done [] (gptpSet p s)) s }

/-- RATE_SET, in GRANDMASTER only (R100): every value is a rate. -/
def cmdRateSet : Cmd :=
  { cls := 5, opcode := 7, domains := fun _ => [15], len := lenIs 4, mode := fun _ s => s.bcn.mode == .grandmaster,
    body := fun _ p s => done [] (setBcn { s.bcn with rate := intAt p 0 4 } s) }

/-- A time of the local clock on the tracked domain's scale, by its last offset and rate ratio (R106; log entry 35). -/
def toTracked (g : Gptp) (t : Int) (s : State) : Int :=
  let at_ := Int.ofNat (nowFrac s) - Int.ofNat (s.cyc - g.lastSync) * 131072
  t + g.offset + g.ratio * (t - at_) / 2 ^ 40

/-- A time of the tracked domain on the local clock's scale (R106; log entry 35). -/
def fromTracked (g : Gptp) (t : Int) (s : State) : Int :=
  let at_ := Int.ofNat (nowFrac s) - Int.ofNat (s.cyc - g.lastSync) * 131072
  let x := t - g.offset
  x - g.ratio * (x - at_) / 2 ^ 40

/-- Beacon times wrap after 2^48 seconds, in 2^-16 ns (R99). -/
def wrapFrac (t : Int) : Nat := (t % Int.ofNat (2 ^ 48 * 1000000000 * 65536)).toNat

/-- DOMAIN_CONVERT: direction 0 from the local clock to the tracked domain, 1 back (log entry 35). -/
def cmdDomainConvert : Cmd :=
  { cls := 5, opcode := 8, domains := fun _ => [15], mutator := false, len := lenIs 16,
    body := fun _ p s =>
      let g := getInst (1 - s.bcn.primary) s
      let t := Int.ofNat (timeAt p 4)
      whenOk (decide (numAt p 0 1 ≤ 1) && res0 [(1, 3)] p && timeOk p 4)
        (done (timeBytes (wrapFrac (if numAt p 0 1 = 0 then toTracked g t s else fromTracked g t s))) s) s }

/-- PORT_TRIM (R103). -/
def cmdPortTrim : Cmd :=
  { cls := 5, opcode := 9, domains := fun _ => [15], len := lenIs 8, key := some 1,
    body := fun _ p s =>
      whenOk (decide (numAt p 0 1 ≤ 26) && res0 [(1, 1), (6, 2)] p)
        (done [] (setBcn { s.bcn with trims := mapSet (0, 0) s.bcn.trims (numAt p 0 1) (intAt p 2 2, intAt p 4 2) } s)) s }

/-- Whether a stitch base record breaks R111. -/
def baseBad (r : BitVec 128) : Bool :=
  decide (bits r 127 125 > 4) || decide (bits r 124 123 = 3) || decide (bits r 115 104 < 2) || decide (bits r 115 104 > 1000) || decide (bits r 103 88 = 0)
    || decide (bits r 103 88 > 10000) || decide (bits r 87 56 = 0) || decide (bits r 55 16 = 1) || decide (bits r 15 8 > 3) || decide (bits r 7 0 ≠ 0)

/-- A base as a write of its record leaves it: position 0, speed 0, STANDSTILL; the levels of its pins are not state of the record (R111). Its direction, against which the first count is judged, and that of STB_DIR are forward: the spec does not say (DESIGN CHOICE, log entry 10). -/
def configBase (i : Nat) (r : BitVec 128) (s : State) : State :=
  let b := getBase i s
  setBase i { record := r, pinA := b.pinA, pinB := b.pinB, edgeCyc := b.edgeCyc, heard := s.cyc } s

/-- STB_CONFIG (R111). -/
def cmdStbConfig : Cmd :=
  { cls := 5, opcode := 10, domains := fun _ => [15], len := lenIs 20, key := some 1,
    body := fun _ p s =>
      let i := numAt p 0 1
      let r := BitVec.ofNat 128 (numAt p 4 16)
      if !(decide (i ≤ 3) && res0 [(1, 3)] p) || baseBad r then failed .denied s
      else if (stitchKeys (committedKeys s)).any (fun k => keyBase k.2 == i) then failed .busy s
      else done [] (configBase i r s) }

/-- The speed of a base as STB_READ gives it: in 2^-16 stitches per second with the sign of travel, as R117 codes a sample's; the spec gives the field's length alone (DESIGN CHOICE, log entry 10). -/
def baseSpeed (b : StitchBase) : Int :=
  if !b.moving then 0
  else if b.mode = 4 then b.speed
  else
    match b.rateOf with
    | none => 0
    | some r => let v := Int.ofNat (r.1 * (65536 * 1000000000) / r.2); if b.fwd then v else -v

/-- STB_READ reply (R114): direction 0 forward and 1 reverse, state 0 STANDSTILL and 1 in motion (log entry 10). -/
def stbReadReply (i : Nat) (s : State) : List Byte :=
  let b := getBase i s
  nowBytes s ++ natBytes 8 (b.report (b.posAt (nowFrac s))) ++ intBytes 8 (baseSpeed b) ++ natBytes 1 (if b.fwd then 0 else 1) ++ natBytes 1 (if b.moving then 1 else 0)
    ++ intBytes 8 (b.topAt (nowFrac s)) ++ natBytes 2 0

/-- STB_READ. -/
def cmdStbRead : Cmd :=
  { cls := 5, opcode := 11, domains := fun _ => [15], mutator := false, len := lenIs 4,
    body := fun _ p s => whenOk (decide (numAt p 0 1 ≤ 3) && res0 [(1, 3)] p) (done (stbReadReply (numAt p 0 1) s) s) s }

/-- STB_SAMPLE, in COMMAND mode only (R117). -/
def cmdStbSample : Cmd :=
  { cls := 5, opcode := 12, domains := fun _ => [15], len := lenIs 32, mode := fun p s => decide (numAt p 0 1 > 3) || (getBase (numAt p 0 1) s).mode == 4,
    body := fun _ p s =>
      whenOk (decide (numAt p 0 1 ≤ 3) && res0 [(1, 3)] p && timeOk p 20)
        (done [] (stbSample (numAt p 0 1) (intAt p 4 8) (intAt p 12 8) (timeAt p 20) s)) s }

/-- STB_DIR, in PULSE_CMD mode only (R116): direction 0 forward, 1 reverse (log entry 10). -/
def cmdStbDir : Cmd :=
  { cls := 5, opcode := 13, domains := fun _ => [15], len := lenIs 4, mode := fun p s => decide (numAt p 0 1 > 3) || (getBase (numAt p 0 1) s).mode == 3,
    body := fun _ p s =>
      let i := numAt p 0 1
      whenOk (decide (i ≤ 3) && decide (numAt p 1 1 ≤ 1) && res0 [(2, 2)] p) (done [] (setBase i { getBase i s with cmdFwd := numAt p 1 1 == 0 } s)) s }

/-- KEY_COUNT of the mark record in the parameters of MARK_SET. -/
def markCount (p : List Byte) : Nat := bits (BitVec.ofNat 64 (numAt p 4 8)) 61 57

/-- MARK_SET (R127): the record and its keys; a pulse that runs goes on while the output stays enabled; the pin follows POLARITY at once. -/
def markSet (o : Nat) (r : BitVec 64) (ks : List (BitVec 128)) (s : State) : State :=
  let m := getMark o s
  let m' : Mark := { record := r, keys := ks, pulseEnd := if r.getLsbD 63 then m.pulseEnd else none }
  let s1 := setMark o m' s
  let s2 := if m'.high = m.high then s1
    else match m'.pulseEnd with
      | some stop => emit (.markPulse o stop m'.high) s1
      | none => emit (.markIdle o m'.high) s1
  if r.getLsbD 63 then forEach ks.zipIdx (fun k t => activateKey (27 + o) (markKeyId o k.2) k.1 t) s2 else s2

/-- MARK_SET. -/
def cmdMarkSet : Cmd :=
  { cls := 5, opcode := 14, domains := fun _ => [15], len := fun p => decide (markCount p ≤ 16) && p.length == 12 + 16 * markCount p, key := some 1,
    body := fun _ p s =>
      let o := numAt p 0 1
      let r := BitVec.ofNat 64 (numAt p 4 8)
      let ks := (elements 12 16 (markCount p) p).map (fun e => BitVec.ofNat 128 (beNat e))
      let s1 := markSet o r ks s
      whenOk (decide (o ≤ 7) && res0 [(1, 3)] p && decide (bits r 56 32 = 0) && decide (8 ≤ bits r 31 0) && decide (bits r 31 0 ≤ 1000000000) && ks.all (fun k => !(keyBad k s))
              && !(tracksTooMany (epochKeys (curTables s1)) s1))
        (done [] s1) s }

/-- The Time/stitch class. -/
def timeCmds : List Cmd :=
  [cmdTimeGet, cmdSetTime, cmdGmSetTime, cmdAcceptStep, cmdServoSet, cmdGptpSet, cmdRateSet, cmdDomainConvert, cmdPortTrim, cmdStbConfig, cmdStbRead, cmdStbSample, cmdStbDir, cmdMarkSet]

end Sys2Proof.Machine
end

