-- ==== Sys2Proof/Machine/CmdPattern.lean ====
section
/-! DEFINITION. Machine/CmdPattern.lean: the opcodes of the Pattern/seam class (0x06) (R327, R328). Counts that are not counts of a length formula are refused at check 13 with DENIED (log entry 36). -/

namespace Sys2Proof.Machine

/-- NODE_LOAD (R142): a load into a node that a live epoch owns is refused. -/
def cmdNodeLoad : Cmd :=
  { cls := 6, opcode := 1, domains := fun _ => [6], len := fun p => lenCount 4 64 2 2 1 63 p && decide (numAt p 0 2 + numAt p 2 2 ≤ 65536), key := some 4, epoch := true,
    body := fun _ p s =>
      let first := numAt p 0 2
      let n := numAt p 2 2
      whenOk (!((ownedNodes s).any (fun i => decide (first ≤ i) && decide (i < first + n)))) (done [] (loadNodes first n (p.drop 4) s)) s }

/-- The root table that ROOT_SET parameters spell: 80 entries of a present byte and a node index (R138). -/
def rootTable (p : List Byte) : SMap (Option Nat) :=
  (List.range 80).foldl (fun m i => mapSet none m i (if numAt p (3 * i) 1 = 1 then some (numAt p (3 * i + 1) 2) else none)) []

/-- ROOT_SET (R138, R328). -/
def cmdRootSet : Cmd :=
  { cls := 6, opcode := 2, domains := fun _ => [6], len := lenIs 240, key := some 0, epoch := true,
    body := fun _ p s =>
      whenOk ((List.range 80).all (fun i => decide (numAt p (3 * i) 1 ≤ 1))) (done [] (writePending (fun t => { t with roots := rootTable p, ownTree := true }) s)) s }

/-- ZONE_MAP_SET (R161): 72 zones, two per byte, the even entry in bits 7-4. -/
def cmdZoneMapSet : Cmd :=
  { cls := 6, opcode := 3, domains := fun _ => [6], len := lenIs 36, key := some 0, epoch := true,
    body := fun _ p s =>
      let m := (List.range 72).foldl (fun m i => mapSet 0 m i (if i % 2 = 0 then numAt p (i / 2) 1 / 16 else numAt p (i / 2) 1 % 16)) ([] : SMap Nat)
      done [] (writePending (fun t => { t with zoneMap := m }) s) }

/-- MATRIX_SET (R163): ingress zone major. -/
def cmdMatrixSet : Cmd :=
  { cls := 6, opcode := 4, domains := fun _ => [6], len := lenIs 256, key := some 0, epoch := true,
    body := fun _ p s =>
      let m := (List.range 256).foldl (fun m i => mapSet 0 m i (p.getD i 0)) ([] : SMap (BitVec 8))
      whenOk (p.all (fun e => decide (bits e 7 6 ≠ 3) && decide (bits e 3 0 = 0))) (done [] (writePending (fun t => { t with matrix := m }) s)) s }

/-- GROUP_SET (R158). -/
def cmdGroupSet : Cmd :=
  { cls := 6, opcode := 5, domains := fun _ => [6], len := lenIs 24, key := some 1, epoch := true,
    body := fun _ p s =>
      let n := numAt p 1 1
      let ms := ((p.drop 8).take n).map (fun b => b.toNat)
      whenOk (decide (numAt p 0 1 ≤ 63) && decide (1 ≤ n) && decide (n ≤ 16) && res0 [(2, 2)] p && ms.all (fun m => decide (m ≤ 26)) && (p.drop (8 + n)).all (fun b => b == 0))
        (done [] (writePending (fun t => { t with groups := mapSet {} t.groups (numAt p 0 1) { members := ms, seed := numAt p 4 4 } }) s)) s }

/-- EPOCH_SWAP (R146, R328). -/
def cmdEpochSwap : Cmd :=
  { cls := 6, opcode := 6, domains := fun _ => [6], len := lenIs 4, body := fun _ p s => whenOk (res0 [(1, 3)] p) (epochSwap (numAt p 0 1) s) s }

/-- EPOCH_DISCARD (R328). -/
def cmdEpochDiscard : Cmd := { cls := 6, opcode := 7, domains := fun _ => [6], len := lenIs 0, body := fun _ _ s => done [] (epochDiscard s) }

/-- EPOCH_STATUS reply (R327). -/
def epochStatusReply (s : State) : List Byte :=
  let num (e : Option EpochTables) : Nat := match e with
    | some t => t.number
    | none => 0
  let flags := (if s.pat.current.isSome then 1 else 0) + (if s.pat.draining.isSome then 2 else 0) + (if s.pat.pending.isSome then 4 else 0)
  let refs := match s.pat.draining with
    | some t => epochRefs t.number s
    | none => 0
  let nodes := match s.pat.pending with
    | some t => t.nodes.length
    | none => 0
  natBytes 1 (num s.pat.current) ++ natBytes 1 (num s.pat.draining) ++ natBytes 1 flags ++ natBytes 1 0 ++ natBytes 4 refs ++ natBytes 4 nodes ++ natBytes 4 0

/-- EPOCH_STATUS. -/
def cmdEpochStatus : Cmd := { cls := 6, opcode := 8, mutator := false, domains := fun _ => [6], len := lenIs 0, body := fun _ _ s => done (epochStatusReply s) s }

/-- PAT_OPTIONS (R143, R151, R158, R159): at most four express sources. -/
def cmdPatOptions : Cmd :=
  { cls := 6, opcode := 9, domains := fun _ => [6], len := lenIs 28, key := some 0,
    body := fun _ p s =>
      let mask := BitVec.ofNat 32 (numAt p 0 4)
      let acts := (List.range 16).foldl (fun m z => mapSet 0 m z (numAt p (4 + z) 1)) ([] : SMap Nat)
      let marks := (List.range 32).filter (fun i => mask.getLsbD i)
      whenOk (marks.all (fun i => decide (i ≤ 26)) && decide (marks.length ≤ 4) && ((p.drop 4).take 16).all (fun a => decide (a.toNat ≤ 3)) && decide (1 ≤ numAt p 20 2)
              && decide (numAt p 20 2 ≤ 1000) && decide (1 ≤ numAt p 22 1) && decide (numAt p 22 1 ≤ 8) && res0 [(23, 1)] p)
        (done [] (setPat { s.pat with expressMask := mask, depthAction := acts, fragMs := numAt p 20 2, workers := numAt p 22 1, workerSeed := numAt p 24 4 } s)) s }

/-- An index of a table or 0xFFFF for none. -/
def indexOrNone (v n : Nat) : Bool := decide (v < n) || v == 0xFFFF

/-- SF_SET (R88): a stream that is blocked stays so until SF_UNBLOCK (R90). -/
def cmdSfSet : Cmd :=
  { cls := 6, opcode := 10, domains := fun _ => [6], len := lenIs 16, key := some 2,
    body := fun _ p s =>
      let i := numAt p 0 2
      let f : StreamFilter := { prio := numAt p 2 1, blockOver := numAt p 3 1 == 1, maxSdu := numAt p 4 2, gate := numAt p 6 2, policer := numAt p 8 2, gen := numAt p 10 2,
                                recov := numAt p 12 2, blocked := (getFilter i s).blocked }
      whenOk (decide (1 ≤ i) && decide (i ≤ 4095) && (decide (f.prio ≤ 7) || f.prio == 255) && decide (numAt p 3 1 ≤ 1)
              && (f.maxSdu == 0 || (decide (64 ≤ f.maxSdu) && decide (f.maxSdu ≤ 9216))) && indexOrNone f.gate 256 && indexOrNone f.policer 4096 && indexOrNone f.gen 2048
              && indexOrNone f.recov 2048 && res0 [(14, 2)] p)
        (done [] (setFilter i f s)) s }

/-- SF_UNBLOCK (R90). -/
def cmdSfUnblock : Cmd :=
  { cls := 6, opcode := 11, domains := fun _ => [6], len := lenIs 4,
    body := fun _ p s =>
      let i := numAt p 0 2
      whenOk (decide (1 ≤ i) && decide (i ≤ 4095) && res0 [(2, 2)] p) (done [] (setFilter i { getFilter i s with blocked := false } s)) s }

/-- Nothing is owed to a policer's former buckets: POLICER_SET has refilled them, and a frame judged before it is not charged to the new ones (R17, R93). -/
def forgetCharges (pol : Nat) (s : State) : State :=
  setFab { s.fab with frames := replaceIf (fun f => f.owed.any (fun o => o.1 == pol)) (fun f => { f with owed := none }) s.fab.frames } s

/-- POLICER_SET (R92, R93): both buckets are full; a latch stays only while MarkAllFramesRed stays on. -/
def cmdPolicerSet : Cmd :=
  { cls := 6, opcode := 12, domains := fun _ => [6], len := lenIs 20, key := some 2,
    body := fun _ p s =>
      let i := numAt p 0 2
      let fl := numAt p 2 1
      let markRed := decide (fl % 2 = 1)
      let x : Policer := { present := true, cf := decide (fl / 8 % 2 = 1), cm := decide (fl / 4 % 2 = 1), dropYellow := decide (fl / 2 % 2 = 1), markRed := markRed,
                           cir := numAt p 4 4, eir := numAt p 8 4, cbs := numAt p 12 3, ebs := numAt p 15 3, cTok := numAt p 12 3 * tokUnit, eTok := numAt p 15 3 * tokUnit,
                           at_ := s.cyc, red := markRed && (getPolicer i s).red }
      whenOk (decide (i ≤ 4095) && decide (fl < 16) && res0 [(3, 1), (18, 2)] p && decide (x.cir ≤ 25000000) && decide (x.eir ≤ 25000000)) (done [] (forgetCharges i (setPolicer i x s))) s }

/-- POLICER_UNLATCH (R93). -/
def cmdPolicerUnlatch : Cmd :=
  { cls := 6, opcode := 13, domains := fun _ => [6], len := lenIs 4,
    body := fun _ p s =>
      let i := numAt p 0 2
      whenOk (decide (i ≤ 4095) && res0 [(2, 2)] p) (done [] (setPolicer i { getPolicer i s with red := false } s)) s }

/-- FRER_GEN_SET (R95): the count restarts at 0. -/
def cmdFrerGenSet : Cmd :=
  { cls := 6, opcode := 14, domains := fun _ => [6], len := lenIs 4, key := some 2,
    body := fun _ p s =>
      whenOk (decide (numAt p 0 2 ≤ 2047) && res0 [(2, 2)] p) (done [] { s with sch := { s.sch with gens := mapSet none s.sch.gens (numAt p 0 2) (some 0) } }) s }

/-- FRER_REC_SET (R94, R96, R97): the function restarts in take-any, its latent-error test from now. -/
def cmdFrerRecSet : Cmd :=
  { cls := 6, opcode := 15, domains := fun _ => [6], len := lenIs 16, key := some 2,
    body := fun _ p s =>
      let fl := numAt p 3 1
      let r : Recov := { present := true, isMatch := numAt p 2 1 == 1, takeNoSeq := decide (fl / 2 % 2 = 1), strip := decide (fl % 2 = 1), histLen := numAt p 4 1, resetMs := numAt p 6 2,
                         paths := numAt p 8 1, diff := numAt p 10 2, testMs := numAt p 12 2, latResetMs := numAt p 14 2, passedAt := s.cyc, testAt := s.cyc, latResetAt := s.cyc }
      whenOk (decide (numAt p 0 2 ≤ 2047) && decide (numAt p 2 1 ≤ 1) && decide (fl ≤ 3) && (r.isMatch || (decide (2 ≤ r.histLen) && decide (r.histLen ≤ 64))) && res0 [(5, 1), (9, 1)] p
              && decide (1 ≤ r.resetMs) && decide (2 ≤ r.paths) && decide (r.paths ≤ 8) && decide (1 ≤ r.testMs) && decide (1 ≤ r.latResetMs))
        (done [] (setRecov (numAt p 0 2) r s)) s }

/-- The Pattern/seam class. -/
def patternCmds : List Cmd :=
  [cmdNodeLoad, cmdRootSet, cmdZoneMapSet, cmdMatrixSet, cmdGroupSet, cmdEpochSwap, cmdEpochDiscard, cmdEpochStatus, cmdPatOptions, cmdSfSet, cmdSfUnblock, cmdPolicerSet,
   cmdPolicerUnlatch, cmdFrerGenSet, cmdFrerRecSet]

end Sys2Proof.Machine
end

