-- ==== Sys2Proof/Machine/CmdGateway.lean ====
section
/-! DEFINITION. Machine/CmdGateway.lean: the opcodes of the Gateway class (0x07) (R327). -/

namespace Sys2Proof.Machine

/-- Whether the timing of a CAN record breaks R243 or R244 under its PROTOCOL. -/
def timingBad (r : BitVec 128) : Bool :=
  let proto := bits r 126 125
  let nTq := 3 + bits r 109 102 + bits r 101 95
  let n := (bits r 117 110 + 1) * nTq
  let d := (bits r 87 83 + 1) * (3 + bits r 82 78 + bits r 77 74)
  let s := bits r 61 56 + 1
  let l := bits r 55 50 + 1
  decide (bits r 109 102 = 0) || decide (bits r 94 88 > bits r 101 95) || decide (n < 80) || decide (n > 8000) || decide (nTq < 8)
    || (if proto = 0 then decide (bits r 87 44 ≠ 0)
        else decide (bits r 73 70 > bits r 77 74) || decide (d < (if proto = 1 then 10 else 8)) || decide (d > n))
    || (r.getLsbD 120 && (decide (proto ≠ 2) || decide (s + l ≠ d) || decide (s ≥ l) || decide (bits r 49 44 ≥ s + l)))

/-- Whether a record of C0-C15 breaks R243 or R244. -/
def canRecordBad (ch : Nat) (r : BitVec 128) : Bool :=
  let tmo := bits r 43 34
  decide (bits r 126 125 = 3) || (decide (bits r 126 125 = 2) && decide (ch < 12)) || decide (bits r 123 122 = 3) || decide (bits r 119 118 = 3) || decide (tmo = 0) || decide (tmo > 1000)
    || decide (bits r 33 0 ≠ 0) || timingBad r

/-- Whether a record of VC0-VC15 breaks R246. -/
def vcRecordBad (r : BitVec 128) : Bool :=
  let tmo := bits r 43 34
  decide (bits r 126 125 ≠ 0) || decide (bits r 123 44 ≠ 0) || decide (bits r 33 0 ≠ 0) || decide (tmo = 0) || decide (tmo > 1000)

/-- CAN_SET (R243-R246). -/
def canSet (ch : Nat) (r : BitVec 128) (s : State) : State :=
  if ch < 16 then applyCanRecord ch r s else { s with edge := { s.edge with vc := mapSet vcReset s.edge.vc ch { record := r } } }

/-- CAN_SET. -/
def cmdCanSet : Cmd :=
  { cls := 7, opcode := 1, domains := fun _ => [13], len := lenIs 20, key := some 1,
    body := fun _ p s =>
      let ch := numAt p 0 1
      let r := BitVec.ofNat 128 (numAt p 4 16)
      whenOk (decide (ch ≤ 31) && res0 [(1, 3)] p && !(if ch < 16 then canRecordBad ch r else vcRecordBad r)) (done [] (canSet ch r s)) s }

/-- Whether a LIN record breaks R257. -/
def linRecordBad (r : BitVec 64) : Bool :=
  decide (bits r 61 47 < 1000) || decide (bits r 61 47 > 20000) || decide (bits r 46 42 < 13) || decide (bits r 46 42 > 26) || decide (bits r 39 37 = 0) || decide (bits r 35 26 < 50)
    || decide (bits r 35 26 > 1000) || decide (bits r 25 0 ≠ 0)

/-- LIN_SET on a channel (R257): a channel that starts or stops has no frame in progress. -/
def linSet (ch : Nat) (r : BitVec 64) (s : State) : State :=
  setLin ch { getLin ch s with record := r, running := false, waiting := none, echo := none, sleepDue := false, current := [], pos := 0 } s

/-- LIN_SET. -/
def cmdLinSet : Cmd :=
  { cls := 7, opcode := 2, domains := fun _ => [13], len := lenIs 12, key := some 1,
    body := fun _ p s =>
      let ch := numAt p 0 1
      let r := BitVec.ofNat 64 (numAt p 4 8)
      let old := (getLin ch s).record
      if !(decide (ch ≤ 7) && res0 [(1, 3)] p) ∨ linRecordBad r then failed .denied s
      else if old.getLsbD 63 ∧ r ≠ old &&& ~~~(BitVec.twoPow 64 63) then failed .busy s
      else done [] (linSet ch r s) }

/-- ROUTE_WRITE (R170). -/
def cmdRouteWrite : Cmd :=
  { cls := 7, opcode := 3, domains := fun _ => [13], len := fun p => lenCount 4 16 2 2 1 255 p && decide (numAt p 0 2 + numAt p 2 2 ≤ 8192), key := some 4, epoch := true,
    body := fun _ p s =>
      let first := numAt p 0 2
      let es := (elements 4 16 (numAt p 2 2) p).map (fun e => BitVec.ofNat 128 (beNat e))
      whenOk (es.all (fun e => !(routeBad e)))
        (done [] (writePending (fun t => { t with routes := (List.range es.length).foldl (fun m i => mapSet 0 m (first + i) (es.getD i 0)) t.routes }) s)) s }

/-- CONTAINER_SET (R178). -/
def cmdContainerSet : Cmd :=
  { cls := 7, opcode := 4, domains := fun _ => [13], len := lenIs 32, key := some 1, epoch := true,
    body := fun _ p s =>
      let c : Container := { subtype := numAt p 1 1, recType := numAt p 2 1, da := BitVec.ofNat 48 (numAt p 4 6), sa := BitVec.ofNat 48 (numAt p 10 6), tci := BitVec.ofNat 16 (numAt p 16 2),
                             stream := BitVec.ofNat 64 (numAt p 18 8), maxData := numAt p 26 2, flush := numAt p 28 2 }
      whenOk ((c.subtype == 0x82 || c.subtype == 5) && decide (c.recType ≤ 2) && res0 [(3, 1), (30, 2)] p && decide (64 ≤ c.maxData) && decide (c.maxData ≤ 1456) && decide (c.flush ≤ 10000))
        (done [] (writePending (fun t => { t with containers := mapSet {} t.containers (numAt p 0 1) c }) s)) s }

/-- LIN_FRAMES (R183). -/
def cmdLinFrames : Cmd :=
  { cls := 7, opcode := 5, domains := fun _ => [13], len := fun p => lenCount 4 12 2 1 1 64 p && decide (numAt p 1 1 + numAt p 2 1 ≤ 64), key := some 3, epoch := true,
    body := fun _ p s =>
      let ch := numAt p 0 1
      let first := numAt p 1 1
      let es := elements 4 12 (numAt p 2 1) p
      let defOf (e : List Byte) : LinFrameDef := { len := numAt e 0 1, enhanced := numAt e 1 1 == 1, role := numAt e 2 1, init := (e.drop 4).take 8 }
      whenOk (decide (ch ≤ 7) && res0 [(3, 1)] p
              && es.all (fun e => decide (1 ≤ numAt e 0 1) && decide (numAt e 0 1 ≤ 8) && decide (numAt e 1 1 ≤ 1) && decide (numAt e 2 1 ≤ 2) && res0 [(3, 1)] e))
        (done [] (writePending (fun t => { t with linFrames := (List.range es.length).foldl (fun m i => mapSet {} m (ch * 64 + first + i) (defOf (es.getD i []))) t.linFrames }) s)) s }

/-- LIN_SCHEDULE (R184): TYPE 0 unconditional, 1 diagnostic commander request, 2 diagnostic responder response (log entry 12). -/
def cmdLinSchedule : Cmd :=
  { cls := 7, opcode := 6, domains := fun _ => [13], len := lenCount 4 4 2 1 1 64, key := some 2, epoch := true,
    body := fun _ p s =>
      let es := (elements 4 4 (numAt p 2 1) p).map (fun e => BitVec.ofNat 32 (beNat e))
      whenOk (decide (numAt p 0 1 ≤ 7) && decide (numAt p 1 1 ≤ 3) && res0 [(3, 1)] p && es.all (fun e => decide (bits e 31 24 ≤ 63) && decide (bits e 23 16 ≤ 2) && decide (1 ≤ bits e 15 0)))
        (done [] (writePending (fun t => { t with linTables := mapSet [] t.linTables (numAt p 0 1 * 4 + numAt p 1 1) es }) s)) s }

/-- LIN_SELECT (R184): the change takes effect at the end of the running entry. -/
def cmdLinSelect : Cmd :=
  { cls := 7, opcode := 7, domains := fun _ => [13], len := lenIs 4, key := some 1,
    body := fun _ p s =>
      let ch := numAt p 0 1
      whenOk (decide (ch ≤ 7) && decide (numAt p 1 1 ≤ 3) && res0 [(2, 2)] p) (done [] (setLin ch { getLin ch s with wanted := some (numAt p 1 1) } s)) s }

/-- SLOT_TABLE (R176). -/
def cmdSlotTable : Cmd :=
  { cls := 7, opcode := 8, domains := fun _ => [13], len := fun p => lenCount 4 20 2 1 1 64 p && decide (numAt p 1 1 + numAt p 2 1 ≤ 64), key := some 3, epoch := true,
    body := fun _ p s =>
      let ch := numAt p 0 1
      let first := numAt p 1 1
      let es := elements 4 20 (numAt p 2 1) p
      let defOf (e : List Byte) : SlotDef := { key := BitVec.ofNat 128 (numAt e 0 16), repeating := numAt e 16 1 == 1 }
      whenOk (decide (ch ≤ 31) && res0 [(3, 1)] p && es.all (fun e => decide (numAt e 16 1 ≤ 1) && res0 [(17, 3)] e && !(keyBad (defOf e).key s)))
        (done [] (writePending (fun t => { t with slots := (List.range es.length).foldl (fun m i => mapSet {} m (ch * 64 + first + i) (defOf (es.getD i []))) t.slots }) s)) s }

/-- BUS_RECOVER (R250): a channel that is not bus-off completes with NOT_IN_STATE. -/
def cmdBusRecover : Cmd :=
  { cls := 7, opcode := 9, domains := fun _ => [13], len := lenIs 4,
    body := fun _ p s =>
      let ch := numAt p 0 1
      if !(decide (ch ≤ 31) && res0 [(1, 3)] p) then failed .denied s
      else if ch ≥ 16 ∨ (getCan ch s).bus ≠ .busOff then failed .notInState s
      else done [] (setCan ch { getCan ch s with bus := .recovering } s) }

/-- RATE_CAND (R252): COMMIT 0 automatic, 1 hold (log entry 12). -/
def cmdRateCand : Cmd :=
  { cls := 7, opcode := 10, domains := fun _ => [13], len := lenCount 8 8 2 1 1 8, key := some 1,
    body := fun _ p s =>
      let ch := numAt p 0 1
      let c := getCan ch s
      let es := (elements 8 8 (numAt p 2 1) p).map (fun e => BitVec.ofNat 64 (beNat e))
      let dwell := numAt p 4 2
      whenOk (decide (ch ≤ 15) && res0 [(1, 1)] p && decide (1 ≤ numAt p 3 1) && decide (numAt p 3 1 ≤ 15) && decide (10 ≤ dwell) && decide (dwell ≤ 10000) && decide (numAt p 7 1 ≤ 1)
              && es.all (fun e => decide (bits e 7 0 = 0) && !(timingBad (applyCandidate c.record e))))
        (done [] (setCan ch { c with cands := es, confirm := numAt p 3 1, dwell := dwell, rounds := numAt p 6 1, commitAuto := numAt p 7 1 == 0 } s)) s }

/-- ISO_INSTANCE (R186, R188): a channel belongs to at most one instance of the epoch. -/
def cmdIsoInstance : Cmd :=
  { cls := 7, opcode := 11, domains := fun _ => [13], len := lenIs 32, key := some 1, epoch := true,
    body := fun _ p s =>
      let i := numAt p 0 1
      let d : IsoDef := { own := numAt p 1 1 == 1, tractor := BitVec.ofNat 32 (numAt p 2 4), implement := BitVec.ofNat 32 (numAt p 6 4), tName := BitVec.ofNat 64 (numAt p 12 8),
                          tAddr := numAt p 20 1, iName := BitVec.ofNat 64 (numAt p 21 8), iAddr := numAt p 29 1 }
      let others := (pendingTables s).isos.filter (fun e => e.1 != i)
      whenOk (decide (i ≤ 7) && decide (numAt p 1 1 ≤ 1) && res0 [(10, 2), (30, 2)] p && decide (d.tractor &&& d.implement = 0) && (!d.own || (decide (d.tAddr ≤ 253) && decide (d.iAddr ≤ 253)))
              && others.all (fun e => decide ((e.2.tractor ||| e.2.implement) &&& (d.tractor ||| d.implement) = 0)))
        (done [] (writePending (fun t => { t with isos := mapSet {} t.isos i d }) s)) s }

/-- CHANNEL_STATUS reply (R330). -/
def channelStatusReply (ch : Nat) (s : State) : List Byte :=
  let c := getCan ch s
  let slots := ((List.range 64).filter (fun i => (mapGet none s.edge.slotBuf (ch * 64 + i)).isSome)).length
  let queue := (txq ch s).length
  let mode := bits (canRecord ch s) 123 122
  if ch ≥ 16 then
    let live := (canRecord ch s).getLsbD 127 && decide ((getLink ((ch - 16) / 8) s).hitch = .up)
    natBytes 2 0 ++ natBytes 1 (if live then 0 else 4) ++ natBytes 3 0 ++ natBytes 1 0xFF ++ natBytes 2 0 ++ natBytes 1 mode ++ natBytes 1 queue ++ natBytes 1 slots ++ natBytes 20 0
  else
    let st := match c.bus with
      | .off => 4
      | .busOff => 2
      | .recovering => 3
      | _ => errState c
    let warn := decide (c.tec ≥ 96) || decide (c.recv ≥ 96)
    let rate := if c.rateState = 1 then 1 else if c.rateState = 3 then 2 else if c.rateState = 4 then 3 else 0
    let bo := c.bus == .busOff || c.bus == .recovering
    natBytes 1 (if bo then 255 else Nat.min 255 c.tec) ++ natBytes 1 (Nat.min 255 c.recv) ++ natBytes 1 st ++ natBytes 1 ((if c.lastPhase then 2 else 0) + (if warn then 1 else 0))
      ++ natBytes 1 c.lastErr ++ natBytes 1 rate ++ natBytes 1 (if 1 ≤ c.rateState ∧ c.rateState ≤ 3 then c.cand else 0xFF) ++ natBytes 1 (if c.dataSeen then 1 else 0)
      ++ natBytes 1 (Nat.min 255 c.roundsDone) ++ natBytes 1 mode ++ natBytes 1 queue ++ natBytes 1 slots ++ natBytes 20 0

/-- CHANNEL_STATUS. -/
def cmdChannelStatus : Cmd :=
  { cls := 7, opcode := 12, mutator := false, domains := fun _ => [13], len := lenIs 4,
    body := fun _ p s => whenOk (decide (numAt p 0 1 ≤ 31) && res0 [(1, 3)] p) (done (channelStatusReply (numAt p 0 1) s) s) s }

/-- The Gateway class. -/
def gatewayCmds : List Cmd :=
  [cmdCanSet, cmdLinSet, cmdRouteWrite, cmdContainerSet, cmdLinFrames, cmdLinSchedule, cmdLinSelect, cmdSlotTable, cmdBusRecover, cmdRateCand, cmdIsoInstance, cmdChannelStatus]

end Sys2Proof.Machine
end

