-- ==== Sys2Proof/Machine/CmdSelvage.lean ====
section
/-! DEFINITION. Machine/CmdSelvage.lean: the opcodes of the Selvage class (0x08) (R327). A link parameter is 0 or 1; a request to a link that is not enabled completes with NOT_IN_STATE. -/

namespace Sys2Proof.Machine

/-- A link parameter in byte 0 with three reserved bytes after it. -/
def linkOk (p : List Byte) : Bool := decide (numAt p 0 1 ≤ 1) && res0 [(1, 3)] p

/-- LINK_SET (R48, R214). -/
def cmdLinkSet : Cmd :=
  { cls := 8, opcode := 1, domains := fun _ => [12], len := lenIs 12, key := some 1,
    body := fun _ p s =>
      let l := numAt p 0 1
      let r := BitVec.ofNat 64 (numAt p 4 8)
      let old := (getLink l s).record
      if !(linkOk p) ∨ linkRecordBad r then failed .denied s
      else if old.getLsbD 63 ∧ r ≠ old &&& ~~~(BitVec.twoPow 64 63) then failed .busy s
      else if !(poolFits (setLink l { getLink l s with record := r } s)) then failed .denied s
      else done [] (linkSet l r s) }

/-- LINK_STATUS reply (R330). -/
def linkStatusReply (l : Nat) (s : State) : List Byte :=
  let x := getLink l s
  let excl := (x.excluded.eraseDups.map (fun c => 2 ^ (2 - c))).foldl (· + ·) 0
  natBytes 1 x.hitch.ctorIdx ++ natBytes 1 (if !x.blockLock then 0 else if x.inFrame then 2 else 1) ++ natBytes 2 x.defects.bits ++ natBytes 1 (if x.enabled then x.rate else 0xFF)
    ++ natBytes 1 x.agreed ++ natBytes 1 x.rdiCause ++ natBytes 1 excl ++ padTo 24 (x.ident.getD []) ++ natBytes 4 x.discIn.toNat ++ natBytes 4 x.discInValid.toNat
    ++ natBytes 4 x.discOut.toNat ++ natBytes 1 x.cands.length ++ natBytes 1 0 ++ natBytes 2 x.rxSfn ++ natBytes 16 0

/-- LINK_STATUS. -/
def cmdLinkStatus : Cmd :=
  { cls := 8, opcode := 2, mutator := false, domains := fun _ => [12], len := lenIs 4,
    body := fun _ p s => whenOk (linkOk p) (done (linkStatusReply (numAt p 0 1) s) s) s }

/-- LINK_REDETECT (R215). -/
def cmdLinkRedetect : Cmd :=
  { cls := 8, opcode := 3, domains := fun _ => [12], len := lenIs 4,
    body := fun _ p s =>
      let l := numAt p 0 1
      if !(linkOk p) then failed .denied s
      else if !(getLink l s).enabled then failed .notInState s
      else done [] (toDetect l s) }

/-- UNHITCH (R223): the far end is told by an UNHITCH message (log entry 22). -/
def cmdUnhitch : Cmd :=
  { cls := 8, opcode := 4, domains := fun _ => [12], len := lenIs 4,
    body := fun _ p s =>
      let l := numAt p 0 1
      if !(linkOk p) then failed .denied s
      else if !(getLink l s).enabled then failed .notInState s
      else done [] (unhitchLink l (sendMsg l 5 [] s)) }

/-- DISC_CONFIG (R205). -/
def cmdDiscConfig : Cmd :=
  { cls := 8, opcode := 5, domains := fun _ => [12], len := lenIs 12, key := some 1,
    body := fun _ p s =>
      let l := numAt p 0 1
      whenOk (linkOk p) (done [] (setLink l { getLink l s with discMask := BitVec.ofNat 32 (numAt p 4 4), discEvents := BitVec.ofNat 32 (numAt p 8 4) } s)) s }

/-- DISC_WRITE (R206). -/
def cmdDiscWrite : Cmd :=
  { cls := 8, opcode := 6, domains := fun _ => [12], len := lenIs 12,
    body := fun _ p s => whenOk (linkOk p) (done [] (discWrite (numAt p 0 1) (BitVec.ofNat 32 (numAt p 4 4)) (BitVec.ofNat 32 (numAt p 8 4)) s)) s }

/-- DISC_TABLE (R206): 16 entries per link, in the pending epoch. -/
def cmdDiscTable : Cmd :=
  { cls := 8, opcode := 7, domains := fun _ => [12], len := fun p => lenCount 4 24 2 1 1 16 p && decide (numAt p 1 1 + numAt p 2 1 ≤ 16), key := some 3, epoch := true,
    body := fun _ p s =>
      let l := numAt p 0 1
      let first := numAt p 1 1
      let es := elements 4 24 (numAt p 2 1) p
      let defOf (e : List Byte) : DiscDef := { key := BitVec.ofNat 128 (numAt e 0 16), value := BitVec.ofNat 32 (numAt e 16 4), mask := BitVec.ofNat 32 (numAt e 20 4) }
      whenOk (decide (l ≤ 1) && res0 [(3, 1)] p && es.all (fun e => !(keyBad (defOf e).key s)))
        (done [] (writePending (fun t => { t with discs := (List.range es.length).foldl (fun m i => mapSet {} m (l * 16 + first + i) (defOf (es.getD i []))) t.discs }) s)) s }

/-- DCCB_SEND (R209, R217, R327): it waits for FRAME for up to 1 s. -/
def cmdDccbSend : Cmd :=
  { cls := 8, opcode := 8, domains := fun _ => [12], len := fun p => decide (8 ≤ p.length) && decide (p.length ≤ 520) && decide (numAt p 6 2 = p.length - 8),
    waits := fun p s => if linkOk p && numAt p 4 1 == 1 then some (.frame (numAt p 0 1), s.cyc + 1000 * msCyc) else none,
    body := fun _ p s =>
      let l := numAt p 0 1
      let x := getLink l s
      whenOk (linkOk p && numAt p 4 1 == 1) (done [] (setLink l { x with dccB := { x.dccB with tx := x.dccB.tx ++ dccFrame (p.drop 4) } } s)) s }

/-- DCCB_RECV: the oldest received message, which leaves the inbox; nothing when there is none. -/
def cmdDccbRecv : Cmd :=
  { cls := 8, opcode := 9, mutator := false, domains := fun _ => [12], len := lenIs 4,
    body := fun _ p s =>
      let l := numAt p 0 1
      let x := getLink l s
      whenOk (linkOk p)
        (match x.dccB.inbox with
         | m :: rest => done m (setLink l { x with dccB := { x.dccB with inbox := rest } } s)
         | [] => done [] s) s }

/-- ZONE_TABLE (R222). -/
def cmdZoneTable : Cmd :=
  { cls := 8, opcode := 10, domains := fun _ => [12], len := lenCount 8 4 1 1 0 16, key := some 1,
    body := fun _ p s =>
      let l := numAt p 0 1
      let es := elements 8 4 (numAt p 1 1) p
      let z : LinkZones := { ents := es.map (fun e => (numAt e 0 1, numAt e 1 1, numAt e 2 1)), defTrib := numAt p 2 1, defVc := numAt p 3 1, unTrib := numAt p 4 1, unVc := numAt p 5 1 }
      whenOk (decide (l ≤ 1) && res0 [(6, 2)] p && decide (z.defTrib ≤ 15) && decide (z.defVc ≤ 15) && decide (z.unTrib ≤ 15) && decide (z.unVc ≤ 15)
              && es.all (fun e => decide (numAt e 1 1 ≤ 15) && decide (numAt e 2 1 ≤ 15) && res0 [(3, 1)] e))
        (done [] (chooseLinkZones l (setLink l { getLink l s with zones := some z } s))) s }

/-- TT_READ reply (R211): T and the arrival stamp of the last pair, zeros before the first. -/
def threadTimeReply (l : Nat) (s : State) : List Byte :=
  match (getLink l s).ttPair with
  | some (t, stamp) => natBytes 8 t ++ timeBytes stamp ++ natBytes 4 0
  | none => natBytes 24 0

/-- TT_READ. -/
def cmdTtRead : Cmd :=
  { cls := 8, opcode := 11, mutator := false, domains := fun _ => [12], len := lenIs 4,
    body := fun _ p s =>
      whenOk (linkOk p) (done (threadTimeReply (numAt p 0 1) s) s) s }

/-- The Selvage class. -/
def selvageCmds : List Cmd :=
  [cmdLinkSet, cmdLinkStatus, cmdLinkRedetect, cmdUnhitch, cmdDiscConfig, cmdDiscWrite, cmdDiscTable, cmdDccbSend, cmdDccbRecv, cmdZoneTable, cmdTtRead]

end Sys2Proof.Machine
end

