-- ==== Sys2Proof/Machine/TwinBase.lean ====
section
/-! DEFINITION. Machine/TwinBase.lean: the twin pair without the application of records: frames sent, the snapshot stream, replies that await their delta, partner and heartbeat supervision, takeover and takeback (R434-R455). -/

namespace Sys2Proof.Machine

/-- Twin frames are sent and understood by a running Keeper in whole-unit mode (R440, R443). -/
def twinRuns (s : State) : Bool := s.twin.mode == 1 && keeperRuns s && s.pwr.state != .doze && !(s.pwr.state == .deep || s.pwr.state == .off)

/-- Whether a twin state is a standby state in which its module may take over or be the partner of an ACTIVE one (R440, R453). -/
def TwinMode.standing (m : TwinMode) : Bool := m == .sync || m == .standby || m == .stale || m == .incompatible

/-- Whether a twin state is in control. -/
def TwinMode.controls (m : TwinMode) : Bool := m == .solo || m == .active

/-- This module is home: its serial number is the lower (R438). -/
def isHome (s : State) : Bool := decide (Config.serial.toNat < s.twin.partnerSerial.toNat)

/-- Whether a record is streamed to a standby (R448). -/
def streamed (r : ImageRec) : Bool := !(r.cls == 1 && r.opcode == 3) && r.cls != 10 && r.cls != 13

/-- A record of supervisor state. Its body's layout is the firmware's (R483); this one is the model's (log entry 41). -/
def superRec (item : Nat) (body : List Byte) : ImageRec := { cls := 0, opcode := item, wakeFirst := false, body := body }

/-- KEY_EPOCH of the LABEL-mode setups (R295, R448): opcode, context or entry, value. -/
def keyEpochs (s : State) : List Byte :=
  (s.boot.records.filter (fun r => r.cls == 10)).flatMap (fun r =>
    let v := BitVec.ofNat 256 (numAt r.body 4 32)
    let k := if r.opcode = 3 then bits v 216 201 else if bits v 255 254 = 3 then bits v 201 186 else 0
    if k = 0 then [] else natBytes 2 r.opcode ++ r.body.take 4 ++ natBytes 2 k)

/-- The body of STATUS (R445): networks whose keep-alive count rose, the links, and the ports whose partner is not ABSENT. -/
def statusBody (mask : BitVec 16) (s : State) : List Byte :=
  let link (l : Nat) : List Byte := let x := getLink l s; natBytes 1 x.hitch.ctorIdx ++ natBytes 1 (numAt (x.ident.getD []) 9 1)
  let port (p : Nat) : List Byte := let q := getPort p s; natBytes 1 p ++ natBytes 1 q.partner ++ natBytes 1 q.chassisType ++ natBytes 1 0 ++ padTo 32 q.chassis ++ natBytes 4 0
  natBytes 2 mask.toNat ++ link 0 ++ link 1 ++ natBytes 2 0 ++ ((List.range 27).filter (fun p => (getPort p s).partner != 0)).flatMap port

/-- The supervisor state (R448): zone decisions, network states with holds, participant sets, address claims, the partner states of both modules' ports, KEY_EPOCH values. -/
def superRecs (s : State) : List ImageRec :=
  [superRec 1 (s.seam.keeperZones.flatMap (fun e => match e.2 with | some z => natBytes 1 e.1 ++ natBytes 1 z | none => [])),
   superRec 2 ((List.range 16).flatMap (fun n => natBytes 1 (getNet n s).mode.ctorIdx ++ natBytes 1 (if (getNet n s).hold then 1 else 0))),
   superRec 3 ((List.range 32).flatMap (fun ch => natBytes 8 (getNmChan ch s).nodes.toNat)),
   superRec 4 (s.edge.isoAddrs.flatMap (fun e => match e.2 with | some a => natBytes 4 e.1 ++ natBytes 1 (if a.implement then 1 else 0) ++ natBytes 8 a.name.toNat | none => [])),
   superRec 5 (statusBody 0 s), superRec 6 s.twin.partnerStatus, superRec 7 (keyEpochs s)]

/-- A commit of a gate list or stream gate as the stream carries it: the mutator's parameters and the CT (R450; log entry 41). -/
def commitRec (opcode i : Nat) (ct : List Byte) : ImageRec := { cls := 4, opcode := opcode, wakeFirst := false, body := natBytes 1 i ++ natBytes 3 0 ++ ct }

/-- Gate lists with their commits. -/
def gateStream (s : State) : List ImageRec :=
  let ct (c : Int) : List Byte := timeBytes (c.toNat * 65536)
  (List.range 27).flatMap (fun p => let g := getGates p s; gateRecords p s ++ (if g.live then [commitRec 3 p (ct g.ct)] else []))
    ++ (List.range 256).flatMap (fun i => let g := getSGate i s; sgateRecords i s ++ (if g.live then [commitRec 8 i (ct g.ct)] else []))

/-- The records of a snapshot outside the epochs. -/
def plainStream (s : State) : List ImageRec := s.boot.records.filter streamed ++ gateStream s ++ superRecs s

/-- An epoch swap as the stream carries it: its number. -/
def swapRec (n : Nat) : ImageRec := { cls := 6, opcode := 6, wakeFirst := false, body := natBytes 1 n ++ natBytes 3 0 }

/-- An epoch discard as the stream carries it. -/
def discardRec : ImageRec := { cls := 6, opcode := 7, wakeFirst := false, body := [] }

/-- The current epoch as the stream carries it: its records, made current under its number (R450). -/
def epochStream (s : State) : List ImageRec :=
  match s.pat.current with
  | some t => discardRec :: s.boot.epochRecords ++ [swapRec t.number]
  | none => []

/-- A full snapshot (R448, R449). -/
def fullStream (s : State) : List ImageRec := plainStream s ++ epochStream s ++ s.boot.pendingRecords

/-- Cut records into parts of at most 8,184 bytes, no record in two (R445). -/
def cutParts : List ImageRec → List ImageRec → Nat → List (List ImageRec)
  | [], acc, _ => [acc]
  | r :: rs, acc, n =>
    let k := (imageBytes r).length
    if acc.isEmpty ∨ n + k ≤ 8184 then cutParts rs (acc ++ [r]) (n + k) else acc :: cutParts rs [r] k

/-- Send a generation in its parts (R444, R445). -/
def sendParts (kind : Nat) (gen : BitVec 32) (rs : List ImageRec) (s : State) : State :=
  let parts := cutParts rs [] 0
  forEach (List.range parts.length) (fun i t =>
    sendTwin kind gen (natBytes 2 i ++ natBytes 2 parts.length ++ natBytes 4 0 ++ (parts.getD i []).flatMap imageBytes) t) s

/-- Send a delta with every change since the last generation (R449). -/
def sendDelta (s : State) : State :=
  let sup := superRecs s
  let rs := s.twin.changed ++ (if sup = s.twin.sentSuper then [] else sup)
  let g := s.twin.gen + 1
  let s1 := sendParts 3 g rs s
  setTwin { s1.twin with gen := g, changed := [], sentSuper := sup, sent := s1.twin.sent ++ [(g, s.cyc)], deltaNext := s.cyc + msCyc } s1

/-- TWIN_DELTA_TX: within 1 ms of a mutator, or 10 ms of a change of supervisor state; partners of different SNAP_FORMAT exchange none (R449). -/
def deltaTx (s : State) : State :=
  let t := s.twin
  let ready : Bool := !t.changed.isEmpty || s.yel.held.any (fun h => decide (h.gen = t.gen + 1))
  let sup : Bool := decide (superRecs s ≠ t.sentSuper)
  if twinRuns s ∧ pairActive s ∧ t.partner ≠ some .incompatible ∧ t.granting.isNone ∧ ((ready ∧ s.cyc ≥ t.deltaNext) ∨ (sup ∧ s.cyc ≥ t.deltaNext + 9 * msCyc)) then sendDelta s else s

/-- TWIN_FULL_SNAPSHOT_TX: every 1 s, and at once when the partner enters SYNC (R449). -/
def fullTx (s : State) : State :=
  if !(twinRuns s) ∨ !(pairActive s) ∨ s.cyc < s.twin.fullNext ∨ s.twin.partner = some .incompatible then s
  else
    let g := s.twin.gen + 1
    let s1 := sendParts 2 g (fullStream s) s
    setTwin { s1.twin with gen := g, changed := [], sentSuper := superRecs s, fullNext := s.cyc + 1000 * msCyc, lastFull := nowNs s } s1

/-- Held replies leave (R334). -/
def releaseHeld (due : HeldReply → Bool) (replicated : Bool) (s : State) : State :=
  let out := s.yel.held.filter due
  forEach out (fun h t => replyTo h.cls h.opcode h.msg true .ok h.result replicated t) (setYel { s.yel with held := s.yel.held.filter (fun h => !(due h)) } s)

/-- The partner is counted as lost (R435, R452): a module in control is SOLO, and held replies are not replicated. -/
def loseTwinPartner (s : State) : State :=
  let s1 := setTwin { s.twin with partner := none, partnerStatus := [], hbSeen := false, sent := [], granting := none, changed := [] } s
  releaseHeld (fun _ => true) false (if s1.twin.st = .active then enterTwin .solo s1 else s1)

/-- Enter STANDBY: the hold-off starts (R455). -/
def enterStandby (s : State) : State :=
  let s1 := enterTwin .standby s
  setTwin { s1.twin with homeTimer := s1.cyc + s1.twin.holdOff * 1000 * msCyc, granting := none, askedAt := none } s1

/-- A module in control hands over: its commands not executed complete with ABORTED, and it stands by (R334, R451, R455). -/
def handOver (s : State) : State := abortQueued (enterStandby (releaseHeld (fun _ => true) false s))

/-- Takeover (R453, R454): from a state without a current image it is degraded. -/
def takeOver (s : State) : State :=
  let degraded : Bool := s.twin.st == .sync || s.twin.st == .stale || s.twin.st == .incompatible
  let s1 := setTwin { s.twin with busAt := s.cyc + msCyc, superAt := some (s.cyc + 80 * msCyc), takeAt := none, relinquishSeen := false, askedAt := none,
                                  partner := none, partnerStatus := [], hbSeen := false, incoming := none } s
  let s2 := bump .twinTakeover 0 (enterTwin .solo s1)
  let s3 := forUpTo 16 (fun ch t => let c := getCan ch t; if c.record.getLsbD 127 ∧ c.bus = .on then setCan ch { c with bus := .integrating } t else t) s2
  if degraded then raiseEv .twinTakeover 0 [] (bump .twinTakeoverDegraded 0 s3) else s3

/-- Whether a standby takes over now (R453): the heartbeat is lost and RELINQUISH has come, T0 is down, or no twin frame has come for 5 ms. -/
def mustTake (s : State) : Bool :=
  s.twin.st.standing && s.twin.partner.isSome && !s.twin.hbSeen && (s.twin.relinquishSeen || !(getPort 26 s).up || decide (s.cyc ≥ s.twin.frameAt + 5 * msCyc))

/-- TWIN_HB_LOSS: 250 us without an edge (R439, R452, R453). -/
def hbLoss (s : State) : State :=
  if s.twin.mode ≠ 1 ∨ !s.twin.hbSeen then s
  else
    let s1 := setTwin { s.twin with hbSeen := false } s
    if mustTake s1 then takeOver s1 else s1

/-- TWIN_SILENCE_TIMEOUT: 5 ms without a twin frame, or the 1 ms after a RELINQUISH under a heartbeat (R452, R453). -/
def silence (s : State) : State :=
  if s.twin.mode ≠ 1 then s
  else if mustTake s then takeOver s
  else
    match s.twin.takeAt with
    | some t => if s.cyc ≥ t ∧ s.twin.st.standing then takeOver (bump .twinHbFault 0 s) else s
    | none => if inControl s ∧ s.twin.partner.isSome ∧ !s.twin.hbSeen ∧ s.cyc ≥ s.twin.helloAt + 5 * msCyc then loseTwinPartner s else s

/-- T0 goes down (R449, R453): alone it makes a standby STALE. -/
def twinLinkLost (s : State) : State :=
  if s.twin.mode ≠ 1 ∨ s.twin.partner.isNone then s
  else if mustTake s then takeOver s
  else
    let s1 := bump .twinT0Fault 0 s
    if s1.twin.st = .standby ∨ s1.twin.st = .sync then enterTwin .stale s1 else s1

/-- TWIN_HB_TOGGLE: every 50 us while the state calls for it (R439, R440). -/
def hbToggle (s : State) : State :=
  let t := s.twin
  let calls : Bool := t.mode == 1 && t.st != .relinquished && mechanismsOn s
  if !calls ∨ s.cyc < t.hbNext then s
  else emit (.pin .twinHbOut (!t.hbOut)) (setTwin { t with hbOut := !t.hbOut, hbNext := s.cyc + 50 * usCyc } s)

/-- The body of HELLO (R445). -/
def helloBody (s : State) : List Byte :=
  natBytes 8 Config.serial.toNat ++ natBytes 4 (if s.boot.bank ≤ 1 then bankVersion s.boot.bank s else 0) ++ natBytes 2 (snapFormat s)
    ++ natBytes 1 s.twin.st.ctorIdx ++ natBytes 1 0 ++ configDigest s ++ natBytes 4 0

/-- TWIN_HELLO_TX: every 1 ms (R445). -/
def helloTx (s : State) : State :=
  if !(twinRuns s) ∨ s.cyc < s.twin.helloNext then s else sendTwin 1 0 (helloBody s) (setTwin { s.twin with helloNext := s.cyc + msCyc } s)

/-- The twin state that a code of HELLO names. -/
def twinOfCode (n : Nat) : Option TwinMode := [TwinMode.wait, .solo, .active, .sync, .standby, .stale, .incompatible, .relinquished][n]?

/-- A twin frame has come (R453). -/
def twinHeard (s : State) : State := setTwin { s.twin with frameAt := s.cyc } s

/-- What a HELLO does to the own state (R440-R442, R449, R452). -/
def meetPartner (m : TwinMode) (before : Option TwinMode) (s : State) : State :=
  let fits : Bool := s.twin.partnerFormat == snapFormat s
  match s.twin.st with
  | .wait => if m.controls then enterTwin .sync s else if m = .wait ∧ isHome s then enterTwin .solo s else s
  | .solo =>
    if m.controls then (if isHome s then s else abortQueued (raiseEv .twinSplit 0 [] (bump .twinSplit 0 (enterTwin .sync s))))
    else if m.standing then
      let t := enterTwin .active s
      setTwin { t.twin with fullNext := t.cyc } t
    else s
  | .active =>
    if m.controls then (if isHome s then s else abortQueued (raiseEv .twinSplit 0 [] (bump .twinSplit 0 (enterTwin .sync (releaseHeld (fun _ => true) false s)))))
    else if !m.standing then releaseHeld (fun _ => true) false (enterTwin .solo s)
    else if m = .sync ∧ before ≠ some .sync then setTwin { s.twin with fullNext := s.cyc } s
    else s
  | .relinquished => s
  | .incompatible => if m.controls ∧ fits then enterTwin .sync s else s
  | _ => if m.controls ∧ !fits then enterTwin .incompatible s else s

/-- TWIN_HELLO_RX (R441, R445, R453). The heartbeat counts as present from a HELLO on (log entry 31). -/
def helloRx (h : Hello) (s : State) : State :=
  if !(twinRuns s) then s
  else
    match twinOfCode h.state with
    | none => bump .twinFrameBad 0 s
    | some m =>
      let t := s.twin
      let fault : Bool := t.st.standing && m.controls && t.partner.isSome && !t.hbSeen
      let s1 := setTwin { t with partner := some m, partnerSerial := h.serial, partnerFw := h.fwVersion, partnerFormat := h.snapFormat.toNat,
                                 hbSeen := true, helloAt := s.cyc, frameAt := s.cyc } s
      meetPartner m t.partner (if fault then bump .twinHbFault 0 s1 else s1)

/-- TWIN_WAIT_TIMEOUT: 100 ms without a HELLO (R441). -/
def waitTimeout (s : State) : State :=
  if twinRuns s ∧ s.twin.st = .wait ∧ s.twin.partner.isNone ∧ s.cyc ≥ s.twin.since + 100 * msCyc then enterTwin .solo s else s

/-- A RELINQUISHED module whose safe state is released and whose Keeper runs (R442). -/
def leaveRelinquished (s : State) : State :=
  if s.twin.mode = 1 ∧ s.twin.st = .relinquished ∧ !s.lamp.safe ∧ keeperRuns s then
    enterTwin (if (match s.twin.partner with | some m => m.controls | none => false) then .sync else .wait) s
  else s

/-- TWIN_SUPERVISOR_READY: 80 ms after a takeover (R454). -/
def supervisorReady (s : State) : State :=
  match s.twin.superAt with
  | some t => if s.cyc ≥ t then setTwin { s.twin with superAt := none } s else s
  | none => s

/-- An acknowledgement ends a handover's wait: TAKEBACK_GRANT is sent and the module stands by (R455); a RELINQUISH command goes on by itself (R451). -/
def grantStep (s : State) : State :=
  match s.twin.granting with
  | some (true, _) => sendTwin 9 0 [] (handOver s)
  | _ => setTwin { s.twin with granting := none } s

/-- TWIN_ACK_RX: replies of the acknowledged generations leave with REPLICATED set (R334, R449). -/
def ackRx (gen : BitVec 32) (s : State) : State :=
  if !(twinRuns s) ∨ !(pairActive s) then s
  else
    let s1 := twinHeard s
    let s2 := setTwin { s1.twin with sent := s1.twin.sent.filter (fun e => decide (e.1 ≠ gen)) } s1
    let s3 := releaseHeld (fun h => decide (h.gen.toNat ≤ gen.toNat)) true s2
    match s3.twin.granting with
    | some (_, g) => if g = gen then grantStep s3 else s3
    | none => s3

/-- TWIN_ACK_TIMEOUT: 12 ms without an acknowledgement (R334, R449, R455): a takeback grant is not given. -/
def ackTimeout (s : State) : State :=
  let late (t : Nat) : Bool := decide (s.cyc ≥ t + 12 * msCyc)
  let old := s.twin.sent.filter (fun e => late e.2)
  let s1 := bumpBy old.length .twinDeltaLate 0 (setTwin { s.twin with sent := s.twin.sent.filter (fun e => !(late e.2)) } s)
  let s2 := releaseHeld (fun h => late h.since) false s1
  match s2.twin.granting with
  | some (_, g) => if old.any (fun e => decide (e.1 = g)) then setTwin { s2.twin with granting := none } s2 else s2
  | none => s2

/-- A module in control sends its final delta and awaits its ACK (R451, R455). -/
def finalDelta (takeback : Bool) (s : State) : State :=
  let s1 := sendDelta s
  setTwin { s1.twin with granting := some (takeback, s1.twin.gen) } s1

/-- TWIN_TAKEBACK_REQ_RX (R455); in a firmware switch's pause the grant follows the pause (R458), and commands accepted before the request are executed first. -/
def takebackReq (s : State) : State :=
  if !(twinRuns s) then s
  else
    let s1 := twinHeard s
    if !(pairActive s1) ∨ s1.twin.granting.isSome then s1
    else if s1.yel.pauseUntil.isSome ∨ s1.yel.waiting.isSome ∨ !s1.yel.queue.isEmpty then setTwin { s1.twin with askedInPause := true } s1
    else finalDelta true s1

/-- The pause of a firmware switch is over, or the commands before it are executed: a takeback request that came meanwhile is taken up (R455, R458). -/
def afterPause (s : State) : State :=
  if s.twin.askedInPause ∧ s.yel.pauseUntil.isNone ∧ s.yel.waiting.isNone ∧ s.yel.queue.isEmpty then
    let s1 := setTwin { s.twin with askedInPause := false } s
    if pairActive s1 ∧ s1.twin.granting.isNone then finalDelta true s1 else s1
  else s

/-- TWIN_TAKEBACK_GRANT_RX (R455). -/
def takebackGrant (s : State) : State :=
  if !(twinRuns s) then s
  else
    let s1 := twinHeard s
    match s1.twin.askedAt with
    | some t => if s1.cyc < t + 50 * msCyc ∧ s1.twin.st = .standby then raiseEv .twinTakeback 0 [] (bump .twinTakeback 0 (takeOver s1)) else s1
    | none => s1

/-- TWIN_GRANT_TIMEOUT: 50 ms without a grant; the hold-off starts again, with the value in force now (R435, R455). -/
def grantTimeout (s : State) : State :=
  match s.twin.askedAt with
  | some t => if s.cyc ≥ t + 50 * msCyc then setTwin { s.twin with askedAt := none, homeTimer := s.cyc + s.twin.holdOff * 1000 * msCyc } s else s
  | none => s

/-- TWIN_HOLD_OFF_EXPIRY: a home module in STANDBY for the whole hold-off asks for control (R455). -/
def holdOffExpire (s : State) : State :=
  let t := s.twin
  if twinRuns s ∧ t.st = .standby ∧ t.partner.isSome ∧ isHome s ∧ !t.suppressed ∧ t.askedAt.isNone ∧ s.cyc ≥ t.homeTimer then
    sendTwin 8 0 [] (setTwin { t with askedAt := some s.cyc } s)
  else s

/-- TWIN_RELINQUISH_RX (R453, R458). -/
def relinquishRx (s : State) : State :=
  if !(twinRuns s) then s
  else
    let s1 := twinHeard s
    if !s1.twin.st.standing then s1
    else
      let s2 := setTwin { s1.twin with relinquishSeen := true, askedAt := none, takeAt := if s1.twin.hbSeen then some (s.cyc + msCyc) else none } s1
      if mustTake s2 then takeOver s2 else s2

/-- TWIN_LEAVE_RX (R435). -/
def leaveRx (s : State) : State := if twinRuns s then loseTwinPartner (twinHeard s) else s

/-- TWIN_LIGHTS_OUT_RX: a standby enters the same state (R410); a target other than 3 and 4 is no order. -/
def lightsOutRx (target : Nat) (s : State) : State :=
  if !(twinRuns s) then s
  else
    let s1 := twinHeard s
    if inControl s1 ∨ s1.pwr.transition.isSome then s1
    else if target = 3 then goLightsOut .deep s1
    else if target = 4 then goLightsOut .off s1
    else s1

/-- The RELAY_DOWN messages of a command leave (R445). -/
def sendRelays (s : State) : State := forEach s.twin.relays (fun b t => sendTwin 6 0 b t) (setTwin { s.twin with relays := [] } s)

/-- A standby tells the module in control of each change of what it sees, and that module sends its relays (R443, R445). -/
def statusTx (mask : BitVec 16) (s : State) : State :=
  if !(twinRuns s) ∨ s.twin.st = .wait then s
  else if inControl s then sendRelays s
  else
    let b := statusBody 0 s
    if mask = 0 ∧ b = s.twin.sentStatus then s
    else sendTwin 12 0 (statusBody mask s) (setTwin { s.twin with sentStatus := b } s)

/-- TWIN_STATUS_RX: keep-alives of the partner's module count, and zones are chosen for both (R395, R443, R445). -/
def statusRx (b : List Byte) (s : State) : State :=
  if !(twinRuns s) then s
  else if b.length < 8 ∨ b.length % 40 ≠ 8 ∨ b.length > 1088 then bump .twinFrameBad 0 s
  else
    let s1 := twinHeard s
    if !(inControl s1) then s1
    else
      let s2 := setTwin { s1.twin with partnerStatus := b } s1
      let s3 := forUpTo 16 (fun n t => if (BitVec.ofNat 16 (numAt b 0 2)).getLsbD n then keepAwake n t else t) s2
      forUpTo 2 chooseLinkZones (forUpTo 27 chooseZone s3)

/-- A relayed or received CAN NM message, by its OP (R396). -/
def nmDispatch (ch : Nat) (m : CanMsg) (s : State) : State :=
  match numAt m.data 0 1 with
  | 1 => keepAliveRx ch m s
  | 2 => readyToSleepRx ch m s
  | 3 => consentRx ch m s
  | 4 => refuseRx ch m s
  | _ => (nmTake ch 0xFF m s).2

/-- TWIN_RELAY_UP_RX: what the standby's ports bring for the supervisor (R443, R445): virtual-channel messages, TC10 acknowledges and wake-ups. -/
def relayUp (kind inst : Nat) (msg : List Byte) (s : State) : State :=
  if !(twinRuns s) then s
  else
    let s1 := twinHeard s
    if !(inControl s1) then s1
    else match kind with
      | 1 =>
        let m := canOfPseudo msg
        if inst < 16 ∨ inst ≥ 32 then s1
        else if (netOf (fun x => x.hasCan inst) s1).any (fun n => m.format == .classicBase && m.ident == bits (getNet n s1).record 26 16) then nmDispatch inst m s1
        else addressClaim inst m s1
      | 2 => pairAck inst s1
      | 3 => tc10WakeRx inst s1
      | _ => s1

/-- TWIN_RELAY_DOWN_RX: what the supervisor sends through the standby's ports (R445). -/
def relayDown (kind inst : Nat) (msg : List Byte) (s : State) : State :=
  if !(twinRuns s) then s
  else
    let s1 := twinHeard s
    if inControl s1 then s1
    else match kind with
      | 0 => if inst < 27 then keeperSend inst 6 msg s1 else s1
      | 1 => if 16 ≤ inst ∧ inst < 32 then enqueueTx inst { msg := canOfPseudo msg, since := s1.cyc } s1 else s1
      | 2 => if inst < 27 ∧ isT1 inst then emit (.tc10 inst false) s1 else s1
      | 3 => if inst < 27 ∧ isT1 inst then wakePort inst s1 else s1
      | _ => s1

/-- A standby relays a TC10 event of its port to the module in control (R445). -/
def relayTc10 (kind p : Nat) (s : State) : State :=
  if twinRuns s ∧ s.twin.st.standing then sendTwin 5 0 (natBytes 1 kind ++ natBytes 1 p ++ natBytes 2 0) s else s

/-- TWIN_SET (R435, R441, R455). -/
def twinSet (mode holdOff : Nat) (s : State) : CmdResult :=
  let t := s.twin
  if mode ≠ t.mode ∧ t.mode = 1 ∧ inControl s ∧ t.partner.isSome then failed .notInState s
  else
    let s1 := setTwin { t with holdOff := holdOff, suppressed := false, relinquishes := [] } s
    if mode = t.mode then done [] s1
    else
      let s2 := if t.mode = 1 then
          let u := sendTwin 10 0 [] s1
          let v := emit (.pin .activeN true) (emit (.pin .twinHbOut false) u)
          setTwin { ({} : Twin) with mode := mode, holdOff := holdOff, txSeq := u.twin.txSeq, superAt := if inControl s then none else some (s.cyc + 80 * msCyc) } v
        else setTwin { s1.twin with mode := mode } s1
      let s3 := if mode = 1 then setTwin { s2.twin with st := .wait, since := s.cyc, partner := none } s2 else s2
      let s4 := if twinRole s3 ≠ twinRole s then sideCause 6 s3 else s3
      done [] (forUpTo 16 setTransceiver s4)

/-- TWIN_STATUS reply (R330). -/
def twinStatusReply (s : State) : List Byte :=
  let t := s.twin
  let w := t.mode == 1
  let left := if w && t.st == .standby && isHome s && !t.suppressed then (t.homeTimer - s.cyc + 1000 * msCyc - 1) / (1000 * msCyc) else 0
  let flags := (if t.suppressed then 8 else 0) + (if (getPort 26 s).up then 4 else 0) + (if t.hbSeen then 2 else 0) + (if w && t.partner.isSome && isHome s then 1 else 0)
  natBytes 1 t.mode ++ natBytes 1 (if w then t.st.ctorIdx else 255) ++ natBytes 1 (match t.partner with | some m => m.ctorIdx | none => 255) ++ natBytes 1 flags
    ++ natBytes 8 (if t.partner.isSome then t.partnerSerial.toNat else 0) ++ natBytes 4 t.gen.toNat ++ natBytes 8 t.lastFull ++ natBytes 2 left
    ++ natBytes 1 (Nat.min 255 (t.relinquishes.filter (fun r => decide (s.cyc < r + 3600000 * msCyc))).length) ++ natBytes 1 0
    ++ natBytes 4 (if t.partner.isSome then t.partnerFw.toNat else 0)

end Sys2Proof.Machine
end

