-- ==== Sys2Proof/Machine/CmdTwin.lean ====
section
/-! DEFINITION. Machine/CmdTwin.lean: the opcodes of the Twin class (0x0D) and of the Update class (0x0E) (R327). -/

namespace Sys2Proof.Machine

/-- TWIN_SET (R435). -/
def cmdTwinSet : Cmd :=
  { cls := 13, opcode := 1, len := lenIs 8, key := some 0,
    body := fun _ p s =>
      let hold := numAt p 2 2
      if !(decide (numAt p 0 1 ≤ 2) && decide (1 ≤ hold) && decide (hold ≤ 3600) && res0 [(1, 1), (4, 4)] p) then failed .denied s
      else twinSet (numAt p 0 1) hold s }

/-- TWIN_STATUS (R330). -/
def cmdTwinStatus : Cmd := { cls := 13, opcode := 2, mutator := false, len := lenIs 0, body := fun _ _ s => done (twinStatusReply s) s }

/-- The end of a relinquish by command, once its final delta is acknowledged or 12 ms have passed (R451). -/
def relinquishNow (s : State) : CmdResult :=
  if !(pairActive s) then failed .timeout s else done [] (handOver (sendTwin 7 0 [] (noteRelinquish s)))

/-- RELINQUISH (R451): only while the partner is in STANDBY. -/
def cmdRelinquish : Cmd :=
  { cls := 13, opcode := 3, len := lenIs 4,
    mode := fun _ s => pairActive s && s.twin.partner == some .standby,
    waits := fun p s => if res0 [(0, 4)] p && pairActive s then some (.ack, s.cyc + 1000 * msCyc) else none,
    start := fun p s => if res0 [(0, 4)] p then finalDelta false s else s,
    body := fun _ p s => if !(res0 [(0, 4)] p) then failed .denied s else relinquishNow s }

/-- The Twin class. -/
def twinCmds : List Cmd := [cmdTwinSet, cmdTwinStatus, cmdRelinquish]

/-- FW_WRITE: bytes of the inactive bank (R327, R478). -/
def cmdFwWrite : Cmd :=
  { cls := 14, opcode := 1, len := fun p => decide (5 ≤ p.length) && decide (p.length ≤ 4096),
    body := fun _ p s =>
      let off := numAt p 0 4
      let bs := p.drop 4
      if off + bs.length > 2097152 then failed .lenRange s
      else if off % 4 ≠ 0 then failed .denied s
      else done [] (writeBank off bs s) }

/-- FW_VERIFY: the check of R479 over the inactive bank. -/
def fwVerify (s : State) : CmdResult :=
  let b := inactiveBank s
  if bankAuthentic b s then done (bankMeasure b s) (setBank b { getBank b s with verified := true } s) else failed .denied s

/-- FW_VERIFY. -/
def cmdFwVerify : Cmd := { cls := 14, opcode := 2, len := lenIs 0, body := fun _ _ s => fwVerify s }

/-- FW_SWITCH (R333, R480, R489): the verified bank becomes preferred, and the control plane pauses for 2 ms; in recovery a module reset follows 1 ms later. -/
def fwSwitch (s : State) : CmdResult :=
  let b := inactiveBank s
  if !((getBank b s).verified) then failed .notInState s
  else
    let s1 := setBoot { s.boot with preferred := b } s
    if s.boot.bank > 1 then done [] (setYel { s1.yel with resetTaken := some (0, s.cyc + msCyc) } s1)
    else done [] (abortQueued (setYel { s1.yel with pauseUntil := some (s.cyc + 2 * msCyc) } s1))

/-- FW_SWITCH. -/
def cmdFwSwitch : Cmd := { cls := 14, opcode := 3, len := lenIs 4, body := fun _ p s => whenOk (res0 [(0, 4)] p) (fwSwitch s) s }

/-- FW_STATUS reply (R330). -/
def fwStatusReply (s : State) : List Byte :=
  let bit (c : Bool) (n : Nat) : Nat := if c then n else 0
  let flags := bit (getBank (inactiveBank s) s).verified 16 + bit (bankAuthentic 1 s) 8 + bit (bankValid 1 s) 4 + bit (bankAuthentic 0 s) 2 + bit (bankValid 0 s) 1
  natBytes 1 s.boot.bank ++ natBytes 1 s.boot.preferred ++ natBytes 1 flags ++ natBytes 1 0 ++ natBytes 4 (bankVersion 0 s) ++ natBytes 4 (bankVersion 1 s)
    ++ natBytes 2 (snapFormat s) ++ natBytes 2 0

/-- FW_STATUS (R330). -/
def cmdFwStatus : Cmd := { cls := 14, opcode := 4, mutator := false, len := lenIs 0, body := fun _ _ s => done (fwStatusReply s) s }

/-- The Update class. -/
def updateCmds : List Cmd := [cmdFwWrite, cmdFwVerify, cmdFwSwitch, cmdFwStatus]

/-- FW_SWITCH_RESUME: the pause ends with the preferred bank running (R333, R429); the messages that came in the pause are taken up after it. -/
def switchBank (s : State) : State :=
  match s.yel.pauseUntil with
  | none => s
  | some t =>
    if s.cyc < t then s
    else
      let s1 := setYel { s.yel with pauseUntil := none } s
      setKpr { s1.kpr with wdFrom := s.cyc } (setBoot { s1.boot with bank := s1.boot.preferred } s1)

end Sys2Proof.Machine
end

