-- ==== Sys2Proof/Machine/StatusItems.lean ====
section
/-! DEFINITION. Machine/StatusItems.lean: the status items that the manual reads with the counters (R98, R129, R226, R242, R262, R284, R308, R336, R362, R388, R412, R433, R459, R474, R491, R508) and their values as STATUS_READ reports them (R330). -/

namespace Sys2Proof.Machine

/-- A status item: the name that the manual gives it (empty: it gives none), its instances, its FORMAT and the bytes of its value. The manual fixes what an item holds; its FORMAT and LENGTH are the model's (DESIGN CHOICE, log entry 4). -/
structure StatusItem where
  name : String := ""
  instances : Nat
  format : Nat
  value : Nat → State → List Byte × State

/-- An item of format 0 (unsigned), 1 (signed), 2 (bit set), 3 (Beacon time) or 4 (bytes) that State holds. -/
def item (name : String) (instances format : Nat) (value : Nat → State → List Byte) : StatusItem :=
  { name := name, instances := instances, format := format, value := fun i s => (value i s, s) }

/-- A flag as a bit set of one byte. -/
def flagItem (name : String) (instances : Nat) (holds : Nat → State → Bool) : StatusItem :=
  item name instances 2 (fun i s => natBytes 1 (if holds i s then 1 else 0))

/-- A value that the environment alone decides, of so many bytes: free (log entry 6). -/
def freeItem (instances bytes : Nat) : StatusItem :=
  { instances := instances, format := 0, value := fun _ s => let d := drawBelow (256 ^ bytes) s; (natBytes bytes d.1, d.2) }

/-- Bytes of a status reply. -/
def part (off n : Nat) (b : List Byte) : List Byte := (b.drop off).take n

/-- A transport by its place in the instances of a transport's counter. -/
def transOf (t : Nat) (s : State) : Trans := getTrans (if t = 0 then .placket else if t = 1 then .vlan else .mspi) s

/-- The items of queues, gates, stream gates and policers (R98), and of the Beacon and the stitch bases (R129). -/
def scheduleItems : List StatusItem :=
  [flagItem "BOLT_CBS_OVERRATE" 256 (fun q s => mapGet false s.sch.overrate q),
   flagItem "BOLT_GCL_INFEASIBLE" 27 (fun p s => (getGates p s).infeasible),
   item "" 27 0 (fun p s => part 0 2 (gclStatusReply p s)),
   item "" 27 3 (fun p s => part 4 12 (gclStatusReply p s)),
   item "" 27 3 (fun p s => part 16 12 (gclStatusReply p s)),
   flagItem "" 27 (fun p s => (getGates p s).hold),
   flagItem "" 256 (fun i s => (getSGate i s).locked),
   flagItem "" 4096 (fun i s => (getPolicer i s).red),
   item "BCN_STATE" 1 0 (fun _ s => natBytes 1 (bcnCode s.bcn.mode)),
   flagItem "BCN_STEP_PENDING" 1 (fun _ s => s.bcn.stepPending),
   flagItem "" 1 (fun _ s => s.bcn.provisional),
   flagItem "STB_OVERSPEED_EVT" 69 (fun c s => mapGet false s.stb.overspeed c)]

/-- The items of the Selvage links (R226), the ports (R242), and the channels with the wake-cause record (R262). -/
def portItems : List StatusItem :=
  [item "" 2 2 (fun l s => part 2 2 (linkStatusReply l s)),
   item "" 2 0 (fun l s => part 0 1 (linkStatusReply l s)),
   item "" 2 0 (fun l s => part 4 1 (linkStatusReply l s)),
   item "" 2 4 (fun l s => part 8 24 (linkStatusReply l s)),
   item "" 2 0 (fun l s => part 5 1 (linkStatusReply l s)),
   item "" 2 4 (fun l s => threadTimeReply l s),
   item "" 2 2 (fun l s => part 32 4 (linkStatusReply l s)),
   flagItem "DISC_STALE" 2 (fun l s => (getLink l s).defects.discStale),
   item "" 27 0 (fun p s => part 0 1 (portStatusReply p s)),
   item "" 27 0 (fun p s => part 1 1 (portStatusReply p s)),
   item "" 27 0 (fun p s => part 2 1 (portStatusReply p s)),
   item "" 27 0 (fun p s => part 4 1 (portStatusReply p s)),
   item "" 27 4 (fun p s => part 5 1 (portStatusReply p s) ++ part 8 32 (portStatusReply p s)),
   item "" 27 4 (fun p s => part 6 1 (portStatusReply p s) ++ part 40 24 (portStatusReply p s)),
   flagItem "" 27 (fun p s => (getPort p s).stored.isSome),
   item "TEC" 16 0 (fun c s => part 0 1 (channelStatusReply c s)),
   item "REC" 16 0 (fun c s => part 1 1 (channelStatusReply c s)),
   item "" 16 0 (fun c s => part 2 1 (channelStatusReply c s)),
   item "" 16 2 (fun c s => part 3 1 (channelStatusReply c s)),
   item "" 16 0 (fun c s => part 4 1 (channelStatusReply c s)),
   item "" 16 0 (fun c s => part 5 1 (channelStatusReply c s)),
   item "" 16 0 (fun c s => part 6 1 (channelStatusReply c s)),
   item "DATA_SEEN" 16 2 (fun c s => part 7 1 (channelStatusReply c s)),
   item "" 1 4 (fun _ s => wakeCauseReply s)]

/-- The items of the Thimble (R284), the Bodkin (R308) and the transports (R336). -/
def keyItems : List StatusItem :=
  [flagItem "THM_RNG_FAULT" 1 (fun _ s => s.thm.rngFault),
   flagItem "THM_JOURNAL_LOST" 64 (fun n s => (getSlot n s).lost),
   item "" 1 0 (fun _ s => part 0 1 (lcStatusReply s)),
   item "" 1 0 (fun _ s => part 1 1 (lcStatusReply s)),
   item "" 64 0 (fun n s => part 0 4 (readAttrReply n s)),
   item "EMPTY" 64 2 (fun n s => part 4 1 (readAttrReply n s)),
   item "" 64 4 (fun n s => part 8 16 (readAttrReply n s)),
   item "" 1 2 (fun _ s => part 2 1 (lcStatusReply s)),
   item "" 1 2 (fun _ s => part 3 1 (lcStatusReply s)),
   item "BOD_MODE" 1 0 (fun _ s => natBytes 1 s.bod.mode.ctorIdx),
   item "" 4 0 (fun p s => natBytes 1 (inFlight p s)),
   item "NEXT_PN" 8192 0 (fun i s => natBytes 8 (bits (getSa i s) 71 8)),
   flagItem "EXHAUSTED" 8192 (fun i s => (getSa i s).getLsbD 1),
   flagItem "SOFT_SENT" 8192 (fun i s => (getSa i s).getLsbD 0),
   item "" 2048 0 (fun i s => natBytes 8 (getCtx i s).msgs),
   item "" 2048 0 (fun i s => natBytes 8 (getCtx i s).used),
   item "INVOCATION" 64 0 (fun n s => natBytes 4 (invocation n s)),
   item "BOOT_COUNT" 1 0 (fun _ s => natBytes 4 s.boot.count),
   item "" 3 0 (fun t s => natBytes 8 (transOf t s).lastSeq),
   item "" 3 0 (fun t s => natBytes 8 (transOf t s).reserved),
   flagItem "" 3 (fun t s => decide (s.cyc < (transOf t s).lockedUntil)),
   item "" 3 0 (fun t s => natBytes 1 (transOf t s).outstanding)]

/-- The items of the Placket (R362), the clocks and crossings (R388), and power and networks (R412). Link width and speed are agreed with the host outside the model. -/
def powerItems : List StatusItem :=
  [freeItem 1 1,
   freeItem 1 1,
   item "" 1 0 (fun _ s => natBytes 2 s.plk.outs.length),
   item "" 1 0 (fun _ _ => natBytes 2 0),
   item "" 4 4 (fun m s => (List.range 4).flatMap (fun k => natBytes 4 (hostReg (0x100 + 16 * m + 4 * k) s))),
   item "" 16 4 (fun r s => (List.range 3).flatMap (fun k => natBytes 4 (hostReg (0x2000 + 16 * r + 4 * k) s))),
   item "" 1 2 (fun _ s => natBytes 4 s.plk.cause.toNat),
   flagItem "" 5 (fun k s => decide (clockDomains (k + 3) &&& s.pwr.powered ≠ 0) && decide (clockDomains (k + 3) &&& s.pwr.unlocked = 0)),
   flagItem "" 16 (fun d s => s.pwr.closed.getLsbD d),
   flagItem "" 16 (fun d s => domainStuck d s),
   flagItem "" 16 (fun c s => mapGet false s.pwr.overflow c),
   item "" 1 0 (fun _ s => part 0 1 (powerStatusReply s)),
   item "" 1 2 (fun _ s => part 2 2 (powerStatusReply s)),
   item "" 1 2 (fun _ s => part 4 2 (powerStatusReply s)),
   item "" 16 0 (fun n s => natBytes 1 (match mapFind s.pwr.nets n with | some x => x.mode.ctorIdx | none => 0)),
   item "" 32 2 (fun c s => natBytes 8 (getNmChan c s).nodes.toNat),
   item "" 1 2 (fun _ s => natBytes 4 s.pwr.portExcluded.toNat),
   flagItem "" 1 (fun _ s => s.pwr.wakeLatched)]

/-- The items of the Lamp room (R433), the twin (R459), debug (R474), boot (R491) and the supply (R508). The measured VIN is the environment's. -/
def moduleItems : List StatusItem :=
  [item "" 1 4 (fun _ s => part 16 16 (lampReply s)),
   item "" 1 2 (fun _ s => natBytes 4 s.lamp.safeOpen.toNat),
   item "" 4 1 (fun i s => intBytes 2 (mapGet 0 s.pwr.temps i)),
   item "" 1 0 (fun _ s => natBytes 8 (s.kpr.wdFrom / usCyc)),
   item "" 1 0 (fun _ s => part 1 1 (twinStatusReply s)),
   item "" 1 0 (fun _ s => part 2 1 (twinStatusReply s)),
   item "" 1 0 (fun _ s => part 4 8 (twinStatusReply s)),
   item "" 1 0 (fun _ s => part 12 4 (twinStatusReply s)),
   item "" 1 0 (fun _ s => part 16 8 (twinStatusReply s)),
   item "" 1 0 (fun _ s => part 24 2 (twinStatusReply s)),
   item "DBG_STATE" 1 0 (fun _ s => natBytes 1 s.dbg.state.ctorIdx),
   item "LEVEL" 1 0 (fun _ s => natBytes 1 (match s.dbg.state with | .auth l _ => l | _ => 0)),
   flagItem "VENDOR" 1 (fun _ s => match s.dbg.state with | .auth _ v => v | _ => false),
   item "KPR_LAST_RESET" 1 0 (fun _ s => natBytes 1 s.boot.last),
   flagItem "CONFIG_DEFAULTED" 1 (fun _ s => s.boot.defaulted),
   item "" 1 0 (fun _ s => natBytes 1 s.boot.preferred),
   flagItem "" 2 (fun b s => bankAuthentic b s),
   freeItem 1 2]

/-- Every status item that the manual names, in the order of its chapters; an item's place numbers its code (R330; log entry 4). -/
def statusItems : List StatusItem := scheduleItems ++ portItems ++ keyItems ++ powerItems ++ moduleItems

/-- The status item with a code. -/
def statusItemOf (code : Nat) : Option StatusItem :=
  ((List.range statusItems.length).find? (fun i => decide ((Config.statusCode i).toNat = code))).bind (fun i => statusItems[i]?)

end Sys2Proof.Machine
end

