-- ==== Sys2Proof/Machine/CmdDiag.lean ====
section
/-! DEFINITION. Machine/CmdDiag.lean: the opcodes of the Diagnostics class (0x0F) (R326, R327, R330). -/

namespace Sys2Proof.Machine

/-- Entry `i` of the counter catalogue: the counters first, then the status items (R330; log entry 4). -/
def catalogEntry (i : Nat) : List Byte :=
  match Ctr.all[i]? with
  | some c => natBytes 2 (Config.counterCode c.ctorIdx).toNat ++ natBytes 1 (Config.counterScope c.ctorIdx).toNat ++ natBytes 2 c.instances ++ padTo 27 (ascii c.name)
  | none =>
    let k := i - Ctr.all.length
    match statusItems[k]? with
    | some x => natBytes 2 (Config.statusCode k).toNat ++ natBytes 1 (128 + (Config.statusScope k).toNat) ++ natBytes 2 x.instances ++ padTo 27 (if x.name.isEmpty then Config.statusName k else ascii x.name)
    | none => padTo 32 (Config.catalogEntry i)

/-- COUNTER_CATALOG (R330). -/
def cmdCounterCatalog : Cmd :=
  { cls := 15, opcode := 1, mutator := false, len := fun p => lenCount 4 0 2 2 1 127 p,
    body := fun _ p s => done ((List.range (numAt p 2 2)).flatMap (fun i => catalogEntry (numAt p 0 2 + i))) s }

/-- The counter with a code (R330). -/
def counterOf (code : Nat) : Option Ctr := Ctr.all.find? (fun c => decide ((Config.counterCode c.ctorIdx).toNat = code))

/-- A counter instance is cleared by a read; with PWR_CDC_PULSE_OVF goes the channel's overflow flag (R7, R382). -/
def clearRead (c : Ctr) (i : Nat) (s : State) : State :=
  let s1 := clearCount c i s
  if c = .pwrCdcPulseOvf then setPwr { s1.pwr with overflow := mapSet false s1.pwr.overflow i false } s1 else s1

/-- A counter as a read finds it: the positions that forward travel has passed again up to now are among the skipped ones (R124). -/
def settleCount (c : Ctr) (s : State) : State := if c = .stbSkipped then forUpTo 4 catchUp s else s

/-- COUNTER_READ: the values, cleared unless peeked at (R7, R327). -/
def counterRead (c : Ctr) (first n : Nat) (peek : Bool) (s0 : State) : CmdResult :=
  let s := settleCount c s0
  done ((List.range n).flatMap (fun i => natBytes 8 (count c (first + i) s))) (if peek then s else forUpTo n (fun i t => clearRead c (first + i) t) s)

/-- COUNTER_READ: instances past the counter's scope are out of range. -/
def cmdCounterRead : Cmd :=
  { cls := 15, opcode := 2, len := fun p => lenCount 8 0 4 2 1 255 p,
    body := fun _ p s =>
      let n := numAt p 4 2
      match counterOf (numAt p 0 2) with
      | none => failed .denied s
      | some c => whenOk (decide (numAt p 2 2 + n ≤ c.instances) && decide (numAt p 6 1 ≤ 1) && res0 [(7, 1)] p) (counterRead c (numAt p 2 2) n (numAt p 6 1 == 1) s) s }

/-- STATUS_READ reply (R330). -/
def statusReadReply (p : List Byte) (fmt : BitVec 8) (v : List Byte) : List Byte :=
  p.take 4 ++ natBytes 2 (v.take 56).length ++ natBytes 1 fmt.toNat ++ natBytes 1 0 ++ padTo 56 (v.take 56)

/-- STATUS_READ of an item that the manual does not name (log entry 4). -/
def otherStatus (p : List Byte) (s : State) : CmdResult :=
  let code := BitVec.ofNat 16 (numAt p 0 2)
  let inst := BitVec.ofNat 16 (numAt p 2 2)
  match Config.statusItem code inst with
  | none => failed .denied s
  | some fmt =>
    let v := Config.statusValue code inst s.draws
    done (statusReadReply p fmt (v.1 :: v.2)) { s with draws := s.draws + 1 }

/-- STATUS_READ (R330) of an item that the manual names; a code of a counter is DENIED; of any other code the implementation decides whether it names an item and what that holds (log entry 4). -/
def cmdStatusRead : Cmd :=
  { cls := 15, opcode := 3, mutator := false, len := lenIs 4,
    body := fun _ p s =>
      match statusItemOf (numAt p 0 2) with
      | some x =>
        let v := x.value (numAt p 2 2) s
        whenOk (decide (numAt p 2 2 < x.instances)) (done (statusReadReply p (BitVec.ofNat 8 x.format) v.1) v.2) s
      | none =>
        if (counterOf (numAt p 0 2)).isSome then failed .denied s
        else otherStatus p s }

/-- DESC_READ: the frame descriptor and cell link word of a cell (R41, R42). -/
def cmdDescRead : Cmd :=
  { cls := 15, opcode := 4, mutator := false, domains := fun _ => [6], len := lenIs 4,
    body := fun _ p s =>
      let i := numAt p 0 4
      whenOk (decide (i ≤ 131071)) (done (natBytes 16 (mapGet 0 s.fab.descs i).toNat ++ natBytes 4 (mapGet 0 s.fab.linkWords i).toNat) s) s }

/-- MC_LINK_READ: a multicast link entry (R43). -/
def cmdMcLinkRead : Cmd :=
  { cls := 15, opcode := 5, mutator := false, domains := fun _ => [6], len := lenIs 4,
    body := fun _ p s =>
      let i := numAt p 0 4
      whenOk (decide (i ≤ 16383)) (done (natBytes 8 (mapGet 0 s.fab.mcLinks i).toNat) s) s }

/-- The key of a sample: it is parsed as a frame of the port that has ended and carries no FCS, past the depth limit as its zone's action says (R130-R136, R159). -/
def sampleKey (port : Nat) (bs : List Byte) (s : State) : Option (PKey × Nat) :=
  let tci := defaultTci port s
  let z := frameZone (curTables s) { ident := 0, entry := port, keyPort := port, bytes := bs }
  match parseFrom bs (some bs.length) 0 9 0 0 0 { key := { outer := tci } } with
  | .done k depth => some ({ k with depthExc := depth && depthAction z s == 2 }, z)
  | _ => none

/-- The seed of H16 for a leaf: of the leaf's group where its egress is a group, else that of the Keeper's workers (R156-R158). -/
def seedFor (leaf : Option Nat) (s : State) : Nat :=
  match leaf with
  | some l =>
    let node := mapGet 0 s.pat.nodeMem l
    if nodeByte node 2 / 8 % 4 = 1 then (mapGet {} (curTables s).groups (nodeByte node 14 % 64)).seed else s.pat.workerSeed
  | none => s.pat.workerSeed

/-- KEY_TRACE: flow key, H16 and leaf of a sample under the current epoch. A sample that the parser refuses is DENIED; where the walk ends at no leaf, the leaf number that the reply shows is a free value (log entry 43). -/
def keyTrace (port : Nat) (bs : List Byte) (s : State) : CmdResult :=
  match sampleKey port bs s with
  | none => failed .denied s
  | some (k, z) =>
    let kb := keyBytes port z false false 0 k
    let t := curTables s
    let leaf := (mapGet none t.roots (z * 5 + keyType k)).bind (fun root => walkTree s.pat.nodeMem t.nodes kb 24 root)
    let head := kb ++ natBytes 2 (hash16 (seedFor leaf s) k)
    match leaf with
    | some l => done (head ++ natBytes 2 l ++ natBytes 4 0) s
    | none => let d := drawBelow 65536 s; done (head ++ natBytes 2 d.1 ++ natBytes 4 0) d.2

/-- KEY_TRACE. -/
def cmdKeyTrace : Cmd :=
  { cls := 15, opcode := 6, mutator := false, domains := fun _ => [6], len := fun p => decide (5 ≤ p.length) && decide (p.length ≤ 260),
    body := fun _ p s => whenOk (decide (numAt p 0 1 ≤ 26) && res0 [(1, 3)] p) (keyTrace (numAt p 0 1) (p.drop 4) s) s }

/-- EVENT_LOG_READ (R326): index 0 is the oldest entry that the log holds (log entry 42). -/
def cmdEventLogRead : Cmd :=
  { cls := 15, opcode := 7, mutator := false, len := fun p => lenCount 8 0 4 2 1 42 p,
    body := fun _ p s =>
      let at_ (i : Nat) : List Byte := match s.boot.events[numAt p 0 4 + i]? with
        | some e => e
        | none => padTo 96 (Config.emptyLog (numAt p 0 4 + i))
      whenOk (res0 [(6, 2)] p) (done ((List.range (numAt p 4 2)).flatMap at_) s) s }

/-- EVENT_CATALOG (R326, R327; log entry 4). -/
def cmdEventCatalog : Cmd :=
  { cls := 15, opcode := 8, mutator := false, len := fun p => lenCount 4 0 2 2 1 127 p,
    body := fun _ p s =>
      done ((List.range (numAt p 2 2)).flatMap (fun i =>
        let k := numAt p 0 2 + i
        natBytes 2 (Config.eventBlock k).toNat ++ natBytes 2 (Config.eventCode k).toNat ++ padTo 28 (Config.eventName k))) s }

/-- The Diagnostics class. -/
def diagCmds : List Cmd :=
  [cmdCounterCatalog, cmdCounterRead, cmdStatusRead, cmdDescRead, cmdMcLinkRead, cmdKeyTrace, cmdEventLogRead, cmdEventCatalog]

end Sys2Proof.Machine
end

