-- ==== Sys2Proof/Machine/CmdTable.lean ====
section
/-! DEFINITION. Machine/CmdTable.lean: every Yelom opcode (R327), the states in which it is allowed (R315, R325), the image record that it leaves (R484) and what it adds to the twin's stream (R448-R450). -/

namespace Sys2Proof.Machine

/-- Every opcode of the opcode tables. -/
def allCmds : List Cmd :=
  deviceCmds ++ (portCmds ++ (queueCmds ++ (schedCmds ++ (timeCmds ++ (patternCmds ++ (gatewayCmds ++ (selvageCmds ++ (keyCmds ++ (cipherCmds ++ (powerCmds
    ++ (safetyCmds ++ (twinCmds ++ (updateCmds ++ diagCmds)))))))))))))

/-- The command with a class and an opcode (check 10 of R311). -/
def cmdOf (cls opcode : Nat) : Option Cmd := allCmds.find? (fun c => c.cls == cls && c.opcode == opcode)

/-- Commands that RETIRED leaves (R315). -/
def retiredOk (c : Cmd) : Bool := c.cls == 15 || (c.cls == 1 && (c.opcode == 1 || c.opcode == 2)) || (c.cls == 9 && (c.opcode == 8 || c.opcode == 9))

/-- Commands that RECOVERY accepts (R325). -/
def recoveryOk (c : Cmd) : Bool := c.cls == 1 || c.cls == 14 || c.cls == 15 || (c.cls == 9 && (c.opcode == 5 || c.opcode == 8 || c.opcode == 9))

/-- Classes that a twin standby accepts (R325). -/
def standbyOk (c : Cmd) : Bool := c.cls == 1 || c.cls == 9 || c.cls == 12 || c.cls == 13 || c.cls == 14 || c.cls == 15

/-- Whether the module takes the commands of a standby alone: in whole-unit mode out of control, and until the supervisor runs after a takeover (R325, R454). -/
def standbyRule (s : State) : Bool := (s.twin.mode == 1 && !(inControl s)) || s.twin.superAt.isSome

/-- Check 11 of R311: lifecycle, Bodkin mode, twin role, power state and what the opcode tables call "only" (R315, R325, R402). -/
def allowed (c : Cmd) (p : List Byte) (s : State) : Bool :=
  s.yel.resetTaken.isNone && (lcState s != 4 || retiredOk c) && (s.bod.mode != .recovery || recoveryOk c) && (!(standbyRule s) || standbyOk c)
    && (c.domains p).all (fun d => poweredNow d s) && (!(lightsOut s) || (c.cls == 1 && c.opcode == 1)) && c.mode p s

/-- Whether two records set the same object (R484): a network's is named by the first four bits of its record, any other by the first `k` bytes. -/
def sameObject (k : Nat) (a b : ImageRec) : Bool :=
  a.cls == b.cls && a.opcode == b.opcode && (if a.cls = 11 ∧ a.opcode = 3 then numAt a.body 0 1 / 16 == numAt b.body 0 1 / 16 else decide (a.body.take k = b.body.take k))

/-- A record takes the place of its object's earlier one and follows the others (R484; log entry 34). -/
def putRecord (r : ImageRec) (k : Nat) (l : List ImageRec) : List ImageRec := l.filter (fun x => !(sameObject k x r)) ++ [r]

/-- Whether a record is one of a Bodkin context that is not in LABEL mode: those are in no image (R484). -/
def passRecord (s : State) (r : ImageRec) : Bool := r.cls == 10 && (getCtx (numAt r.body 0 2) s).record.getLsbD 251

/-- The record that an executed command leaves in the active configuration (R328, R484). -/
def noteRecord (c : Cmd) (p : List Byte) (before s : State) : State :=
  match c.key with
  | none => s
  | some k =>
    let r : ImageRec := { cls := c.cls, opcode := c.opcode, wakeFirst := false, body := p }
    let b := s.boot
    if c.epoch then
      let base := if before.pat.pending.isNone then b.epochRecords.filter (fun x => !(isTreeRec x)) else b.pendingRecords
      setBoot { b with pendingRecords := putRecord r k base } s
    else setBoot { b with records := (putRecord r k b.records).filter (fun x => !(passRecord s x)) } s

/-- What an executed command adds to the next delta (R448-R450): its record, an epoch's swap or discard, a gate list's write, commit with its CT, or cancel. -/
def streamOf (c : Cmd) (p reply : List Byte) : List ImageRec :=
  let r : ImageRec := { cls := c.cls, opcode := c.opcode, wakeFirst := false, body := p }
  if c.key.isSome then (if streamed r then [r] else [])
  else if c.cls = 6 ∧ c.opcode = 6 then [swapRec (numAt p 0 1)]
  else if c.cls = 6 ∧ c.opcode = 7 then [discardRec]
  else if c.cls = 4 ∧ (c.opcode = 3 ∨ c.opcode = 8) then [commitRec c.opcode (numAt p 0 1) reply]
  else if c.cls = 4 ∧ c.mutator ∧ c.opcode ≠ 10 then [r]
  else []

/-- Execute an opcode's effect with the record that it leaves (R484). -/
def runCmd (c : Cmd) (v : Via) (p : List Byte) (s : State) : CmdResult :=
  let r := c.body v p s
  if r.status = .ok then { r with st := noteRecord c p s r.st } else r

end Sys2Proof.Machine
end

