-- ==== Sys2Proof/Machine/TwinOps.lean ====
section
/-! DEFINITION. Machine/TwinOps.lean: a standby's reception and application of the twin's stream (R448-R450). -/

namespace Sys2Proof.Machine

/-- Supervisor state of the active taken over (R448; layouts of log entry 41). -/
def applySuper (item : Nat) (b : List Byte) (s : State) : State :=
  match item with
  | 1 => applyZones (forEach (elements 0 2 (b.length / 2) b) (fun e t => decideZone (numAt e 0 1) (numAt e 1 1) t) s)
  | 2 =>
    forUpTo 16 (fun n t =>
      let m := match numAt b (2 * n) 1 with
        | 0 => NetMode.awake
        | 1 => .wakeCheck
        | 2 => .consent
        | _ => .asleep
      setNet n { getNet n t with mode := m, hold := numAt b (2 * n + 1) 1 == 1 } t) s
  | 3 => forUpTo 32 (fun ch t => setNmChan ch { getNmChan ch t with nodes := BitVec.ofNat 64 (numAt b (8 * ch) 8) } t) s
  | 4 =>
    let m := (elements 0 13 (b.length / 13) b).foldl (fun m e => mapSet none m (numAt e 0 4) (some { name := BitVec.ofNat 64 (numAt e 5 8), implement := numAt e 4 1 == 1 }))
      ([] : SMap (Option IsoAddr))
    { s with edge := { s.edge with isoAddrs := m } }
  | 5 => setTwin { s.twin with partnerStatus := b } s
  | 7 => setTwin { s.twin with keyEpochs := b } s
  | _ => s

/-- Records whose change restarts a port, channel or link, and BUFFER_SET (R450). -/
def restartRec (r : ImageRec) : Bool := (r.cls == 2 && r.opcode == 1) || (r.cls == 3 && r.opcode == 2) || (r.cls == 7 && (r.opcode == 1 || r.opcode == 2)) || (r.cls == 8 && r.opcode == 1)

/-- Records that belong to an epoch (R328), with its swap and discard. -/
def epochRec (r : ImageRec) : Bool := match cmdOf r.cls r.opcode with
  | some c => c.epoch || (r.cls == 6 && (r.opcode == 6 || r.opcode == 7))
  | none => false

/-- Whether two records are the same but for WAKE_FIRST. -/
def sameRec (a b : ImageRec) : Bool := a.cls == b.cls && a.opcode == b.opcode && decide (a.body = b.body)

/-- Run a record's mutator on a standby (R450): its links and LIN channels are disabled before their records are written (R214, R257). -/
def applyCmd (r : ImageRec) (s : State) : State :=
  match cmdOf r.cls r.opcode with
  | none => s
  | some c =>
    let l := numAt r.body 0 1
    let s0 := if r.cls = 8 ∧ r.opcode = 1 ∧ l < 2 then linkSet l ((getLink l s).record &&& ~~~(BitVec.twoPow 64 63)) s
      else if r.cls = 7 ∧ r.opcode = 2 ∧ l < 8 then linSet l ((getLin l s).record &&& ~~~(BitVec.twoPow 64 63)) s
      else s
    (runCmd c .mspi r.body s0).st

/-- CT of a received commit (R450): its own, or the next cycle start of its grid when it is past. -/
def standbyCt (body : List Byte) (cycle : Nat) (s : State) : Int × Bool :=
  let ct := timeAt body 4 / 65536
  let now := nowNs s
  if ct ≥ now then (Int.ofNat ct, false) else (Int.ofNat (ct + ((now - ct + cycle - 1) / cycle) * cycle), true)

/-- A commit of a port's shadow list, or of a stream gate's, as received (R450). -/
def standbyCommit (r : ImageRec) (s : State) : State :=
  let i := numAt r.body 0 1
  let late (b : Bool) (t : State) : State := if b then bump .twinCtLate 0 t else t
  if r.opcode = 3 then
    let g := getGates i s
    let c := standbyCt r.body g.shadow.cycle s
    late c.2 (setGates i { g with pend := some c.1 } s)
  else
    let g := getSGate i s
    let c := standbyCt r.body g.shadow.cycle s
    late c.2 (setSGate i { g with pend := some c.1 } s)

/-- A record of a gate list or stream gate, in the stream's order (R450). A commit of the standby's that is still pending takes effect before its shadow is written again. -/
def standbyGate (r : ImageRec) (s : State) : State :=
  let i := numAt r.body 0 1
  match r.opcode with
  | 3 => standbyCommit r s
  | 8 => standbyCommit r s
  | 4 => setGates i { getGates i s with pend := none } s
  | 9 => setSGate i { getSGate i s with pend := none } s
  | 7 => applyCmd r (match (getSGate i s).pend with
    | some _ => let g := getSGate i s; setSGate i { g with act := g.shadow, live := true, ct := g.pend.getD g.ct, pend := none } s
    | none => s)
  | _ => applyCmd r (takeList i s)

/-- EPOCH_SWAP by the active's number, which may be any (R450). One that finds an epoch draining waits 1 ms. -/
def standbySwap (n : Nat) (s : State) : State :=
  let r := swapTo n (decide (currentEpoch s ≠ some n)) s
  setTwin { r.st.twin with swapWaits := if r.status = .staleEpoch ∧ r.st.pat.draining.isSome then some (n, s.cyc + msCyc) else none } r.st

/-- A change that restarts a port, channel or link is recorded at once and applied later (R450). -/
def deferRecord (r : ImageRec) (s : State) : State :=
  match cmdOf r.cls r.opcode with
  | none => s
  | some c =>
    let s1 := noteRecord c r.body s s
    let others := s1.twin.deferred.filter (fun d => !(sameObject (c.key.getD 0) d.item r))
    setTwin { s1.twin with deferred := others ++ [{ item := r, due := s.cyc + 2000 * msCyc }] } s1

/-- Apply one received record that differs from the standby's own (R450). -/
def applyTwinRecord (r : ImageRec) (s : State) : State :=
  if r.cls = 0 then applySuper r.opcode r.body s
  else if s.twin.swapWaits.isSome ∧ epochRec r then setTwin { s.twin with swapAfter := s.twin.swapAfter ++ [r] } s
  else if r.cls = 6 ∧ r.opcode = 6 then standbySwap (numAt r.body 0 1) s
  else if r.cls = 4 then standbyGate r s
  else if epochRec r then applyCmd r s
  else if s.boot.records.any (sameRec r) then s
  else if restartRec r then deferRecord r s
  else applyCmd r s

/-- TWIN_EPOCH_SWAP_RETRY (R450): once the swap is made, the epoch records behind it follow. -/
def swapRetry (s : State) : State :=
  match s.twin.swapWaits with
  | some (n, t) =>
    if s.cyc < t then s
    else
      let s1 := standbySwap n s
      if s1.twin.swapWaits.isSome then s1 else forEach s.twin.swapAfter applyTwinRecord (setTwin { s1.twin with swapAfter := [] } s1)
  | none => s

/-- The object of a record returns to its reset configuration: a full snapshot that lacks the record holds none for it (R441, R450). -/
def forgetObject (r : ImageRec) (s : State) : State :=
  let i := numAt r.body 0 1
  let j := numAt r.body 0 2
  let p := getPort i s
  match r.cls, r.opcode with
  | 1, 4 => s
  | 2, 1 => portSet i (portRecordReset i) s
  | 2, 4 => setPort i { p with lldpInterval := 30, lldpWait := 2000, absentHold := 500 } s
  | 2, 5 => setPort i { p with zones := none } s
  | 3, 1 => let q := 8 * i + numAt r.body 1 1; setQueueParam q (queueParamReset q) s
  | 3, 2 => setBuf (8 * i + numAt r.body 1 1) {} (flushPort i s)
  | 5, 5 => setBcn { s.bcn with threshold := 1000, slewPpm := 200, autoAcquire := true, wakeLimit := 10000000 } s
  | 5, 6 => setInst i {} s
  | 5, 9 => setBcn { s.bcn with trims := mapSet (0, 0) s.bcn.trims i (0, 0) } s
  | 5, 10 => configBase i 0 s
  | 5, 14 => markSet i 0 [] s
  | 6, 9 => setPat { s.pat with expressMask := 0, depthAction := [], fragMs := 30, workers := 1, workerSeed := 0 } s
  | 6, 10 => setFilter j {} s
  | 6, 12 => setPolicer j {} s
  | 6, 14 => { s with sch := { s.sch with gens := mapSet none s.sch.gens j none } }
  | 6, 15 => setRecov j {} s
  | 7, 1 => canSet i (if i < 16 then canRecordReset i else vcReset.record) s
  | 7, 2 => linSet i linRecordReset s
  | 7, 7 => setLin i { getLin i s with wanted := some 0 } s
  | 7, 10 => setCan i { getCan i s with cands := [], confirm := 3, dwell := 100, rounds := 4, commitAuto := true } s
  | 8, 1 => linkSet i linkRecordReset s
  | 8, 5 => setLink i { getLink i s with discMask := 0, discEvents := 0 } s
  | 8, 10 => setLink i { getLink i s with zones := none } s
  | 11, 3 => setNet (i / 16) netReset s
  | 11, 5 => setWake i { getWake i s with record := wakeReset.record } s
  | 12, 3 => setSafeOpen 0 s
  | _, _ => s

/-- TWIN_DEFERRED_APPLY: the deferred changes whose time has come (R450). The other condition of the rule, that the active's port is linked again, is not seen here: each waits for its 2 s (log entry 44). -/
def applyDeferred (s : State) : State :=
  let due := s.twin.deferred.filter (fun d => decide (s.cyc ≥ d.due))
  forEach due (fun d t => if d.gone then forgetObject d.item t else applyCmd d.item t)
    (setTwin { s.twin with deferred := s.twin.deferred.filter (fun d => !(decide (s.cyc ≥ d.due))) } s)

/-- The gate list or stream gate that a record of class 0x04 belongs to. -/
def gateOf (r : ImageRec) : Nat := (if r.opcode ≥ 7 then 256 else 0) + numAt r.body 0 1

/-- The records that differ between a full snapshot and a standby's own state, outside the epochs: those to apply and those whose objects are to be forgotten (R450). Gate lists count whole. -/
def snapshotDiff (rs : List ImageRec) (s : State) : List ImageRec × List ImageRec :=
  let own := gateStream s
  let ofGate (k : Nat) (l : List ImageRec) : List ImageRec := l.filter (fun r => r.cls == 4 && gateOf r == k)
  let same (a b : List ImageRec) : Bool := a.length == b.length && (a.zip b).all (fun x => sameRec x.1 x.2)
  let changed (r : ImageRec) : Bool := if r.cls = 4 then !(same (ofGate (gateOf r) rs) (ofGate (gateOf r) own)) else !(s.boot.records.any (sameRec r))
  (rs.filter (fun r => r.cls != 0 && changed r), s.boot.records.filter (fun r => streamed r && !(rs.any (fun x => match cmdOf r.cls r.opcode with
    | some c => sameObject (c.key.getD 0) x r
    | none => false))))

/-- Records up to the first that meets a test, and from it on. -/
def cutAt (f : ImageRec → Bool) (l : List ImageRec) : List ImageRec × List ImageRec := (l.takeWhile (fun r => !(f r)), l.dropWhile (fun r => !(f r)))

/-- A full snapshot applied (R450): the records that differ, each counted in TWIN_DIVERGE; the current epoch where its records or number differ; the pending epoch. -/
def applyFull (rs : List ImageRec) (s : State) : State :=
  let isDiscard (r : ImageRec) : Bool := r.cls == 6 && r.opcode == 7
  let isSwap (r : ImageRec) : Bool := r.cls == 6 && r.opcode == 6
  let hasEpoch := rs.any isSwap
  let body := if hasEpoch then (cutAt isDiscard rs).1 else rs.filter (fun r => !(epochRec r))
  let rest := if hasEpoch then (cutAt isDiscard rs).2 else []
  let epoch := (cutAt isSwap rest).1.drop 1
  let tail := (cutAt isSwap rest).2
  let pend := if hasEpoch then tail.drop 1 else rs.filter (fun r => epochRec r)
  let number := match tail.head? with
    | some r => numAt r.body 0 1
    | none => 0
  let same (a b : List ImageRec) : Bool := a.length == b.length && (a.zip b).all (fun x => sameRec x.1 x.2)
  let epochNew : Bool := hasEpoch && !(same epoch s.boot.epochRecords && currentEpoch s == some number)
  let pendNew : Bool := epochNew || !(same pend s.boot.pendingRecords)
  let d := snapshotDiff body s
  let n := d.1.length + d.2.length + (if epochNew then 1 else 0)
  let s1 := forEach (body.filter (fun r => r.cls == 0)) (fun r t => applySuper r.opcode r.body t) s
  let s2 := forEach d.2 (fun r t =>
    let u := setBoot { t.boot with records := t.boot.records.filter (fun x => !(sameRec x r)) } t
    if restartRec r then setTwin { u.twin with deferred := u.twin.deferred ++ [{ item := r, due := u.cyc + 2000 * msCyc, gone := true }] } u else forgetObject r u) s1
  let s3 := forEach d.1 applyTwinRecord s2
  let s4 := if epochNew then forEach (discardRec :: epoch ++ tail.take 1) applyTwinRecord s3 else s3
  let s5 := if pendNew then forEach (discardRec :: pend) applyTwinRecord s4 else s4
  if n = 0 then s5 else raiseEv .twinDiverge 0 [] (bumpBy n .twinDiverge 0 s5)

/-- A generation is written to the standby's own image region and acknowledged (R449). -/
def writeGeneration (gen : BitVec 32) (s : State) : State :=
  let rs := activeRecords s
  let s1 := if imageFits rs then writeImage rs s else s
  sendTwin 4 gen [] (setTwin { s1.twin with gen := gen, incoming := none } s1)

/-- A full snapshot is complete: SYNC and STALE become STANDBY (R449). -/
def fullDone (gen : BitVec 32) (rs : List ImageRec) (s : State) : State :=
  let s1 := writeGeneration gen (applyFull rs s)
  let s2 := setTwin { s1.twin with lastFull := nowNs s1 } s1
  if s2.twin.st = .sync ∨ s2.twin.st = .stale then enterStandby s2 else s2

/-- A delta is complete: the next generation is applied; any other makes the standby STALE (R449). -/
def deltaDone (gen : BitVec 32) (rs : List ImageRec) (s : State) : State :=
  let s0 := setTwin { s.twin with incoming := none } s
  if s.twin.st ≠ .standby then s0
  else if gen ≠ s.twin.gen + 1 then enterTwin .stale s0
  else writeGeneration gen (forEach rs applyTwinRecord s0)

/-- TWIN_FULL_PART_RX and TWIN_DELTA_RX: the parts of a generation in their order (R444, R445, R449). -/
def partRx (full : Bool) (gen : BitVec 32) (part parts : Nat) (rs : List ImageRec) (s : State) : State :=
  if !(twinRuns s) then s
  else if parts < 1 ∨ parts > 512 ∨ part ≥ parts ∨ recordBytes rs > 8184 then bump .twinFrameBad 0 s
  else
    let s1 := twinHeard s
    if !(s1.twin.st == .sync || s1.twin.st == .standby || s1.twin.st == .stale) then s1
    else
      let sofar : Option (List ImageRec) :=
        if part = 0 then some []
        else match s1.twin.incoming with
          | some x => if x.gen = gen ∧ x.part + 1 = part ∧ x.parts = parts ∧ x.full = full then some x.recs else none
          | none => none
      match sofar with
      | none =>
        let s2 := setTwin { s1.twin with incoming := none } s1
        if s2.twin.st = .standby then enterTwin .stale s2 else s2
      | some l =>
        if part + 1 < parts then setTwin { s1.twin with incoming := some { gen := gen, part := part, parts := parts, recs := l ++ rs, full := full } } s1
        else if full then fullDone gen (l ++ rs) s1
        else deltaDone gen (l ++ rs) s1

end Sys2Proof.Machine
end

