-- ==== Sys2Proof/Machine/BootOps.lean ====
section
/-! DEFINITION. Machine/BootOps.lean: resets, the boot and the load of the configuration image (R475-R491), the arrival in DEEP and OFF and the wake from DEEP (R110, R403-R409), and the supply (R494-R496, R508). The steps of a boot are collapsed into its two ends (log entry 45). -/

namespace Sys2Proof.Machine

/-- Counters that the control block of MRAM holds, which no reset clears (R491, R508). -/
def keptCounters : List Ctr := [.kprBootFallback, .kprConfigRecover, .kprConfigLoadFail, .pwrBrownout, .pwrCrank, .pwrOvervolt]

/-- The counters after a reset. -/
def countersAfter (m : SMap Nat) : SMap Nat := m.filter (fun e => keptCounters.any (fun c => decide (c.ctorIdx = e.1 / 65536)))

/-- A transport after a module reset: MRAM keeps its reservation (R317), with whether it used the owner key; the rest is at its reset values. -/
def Trans.cold (t : Trans) (now : Nat) : Trans :=
  { ({} : Trans) with lastSeq := t.reserved, reserved := t.reserved, ownerUsed := t.ownerUsed, tokensAt := now }

/-- What is left of the module where only MRAM, OTP and the levels on its pins remain (R475-R477): also the model's own queue, clock and trace. -/
def coldState (s : State) : State :=
  { pending := s.pending, cyc := s.cyc, out := s.out, draws := s.draws,
    counters := countersAfter s.counters,
    ports := s.ports.foldl (fun m e => mapSet (portReset e.1) m e.1 { portReset e.1 with stored := e.2.stored }) [],
    yel := { placket := s.yel.placket.cold s.cyc, vlan := s.yel.vlan.cold s.cyc, mspi := s.yel.mspi.cold s.cyc },
    thm := { s.thm with lcNonce := none, dbgNonce := none, rngFault := false, lcUntil := 0 },
    dbg := { state := if lcState s = 0 then .opened else .closed },
    lamp := { faultN := s.lamp.faultN, lastS := s.lamp.lastS },
    pwr := { pinsHigh := s.pwr.pinsHigh, temps := s.pwr.temps, vinLow := s.pwr.vinLow, crankAt := s.pwr.crankAt, savedMask := s.pwr.savedMask, savedNets := s.pwr.savedNets, deepAt := s.pwr.deepAt },
    boot := { s.boot with booted := false, records := [], epochRecords := [], pendingRecords := [], defaulted := false, fellBack := false, strap := false } }

/-- AO's own state put back: the safe state's flag and codes, the wake-cause record (R418, R476). -/
def keepAo (old s : State) : State :=
  { s with
    lamp := { s.lamp with safe := old.lamp.safe, lastS := old.lamp.lastS, codes := old.lamp.codes, firstTime := old.lamp.firstTime },
    edge := { s.edge with wakeRec := old.edge.wakeRec },
    pwr := { s.pwr with causeNow := old.pwr.causeNow, instNow := old.pwr.instNow, wakeAo := old.pwr.wakeAo } }

/-- The twin's pins go to their levels in reset, DEEP or OFF (R503). -/
def twinPinsIdle (s : State) : State :=
  let s1 := if inControl s ∧ s.twin.mode = 1 then emit (.pin .activeN true) s else s
  if s.twin.hbOut then emit (.pin .twinHbOut false) s1 else s1

/-- The mark outputs in use go low in reset, DEEP and OFF (R503). -/
def marksLow (s : State) : State := forUpTo 8 (fun o t => if (getMark o t).record = 0 then t else emit (.markIdle o false) t) s

/-- The pins of the module go to their levels in reset or OFF: transceivers to standby (R503; log entry 92). -/
def pinsIdle (s : State) : State := forUpTo 16 (fun ch t => driveTransceiver ch false false t) (marksLow (twinPinsIdle s))

/-- A reset begins (R475, R481): the boot is counted, Thimble recovery and a pending lifecycle transition run (R273, R280). -/
def beginBoot (last : Nat) (strap : Bool) (s : State) : State :=
  let s1 := lcRedo (recoverSlots (setBoot { s.boot with count := s.boot.count + 1, last := last, strap := strap } s))
  { s1 with dbg := { s1.dbg with state := if lcState s1 = 0 then .opened else .closed } }

/-- POWER_ON_RESET (R475, R476): VIN is in its range. -/
def powerOn (strap : Bool) (s : State) : State :=
  let s1 := coldState (pinsIdle s)
  beginBoot 0 strap (driveFault true (setPwr { s1.pwr with vinLow := false, crankAt := none } s1))

/-- RST_N and module reset (R475, R476): AO keeps its state, the Beacon its RATE; an Authenticated-open debug state closes with its event (R461). The host bridge's memories keep their contents (R352). -/
def resetModule (last : Nat) (strap : Bool) (s : State) : State :=
  let s1 := keepAo s (coldState (pinsIdle s))
  let s2 : State := { s1 with bcn := { s1.bcn with rate := s.bcn.rate }, plk := (resetPlacket s).plk }
  let s3 := beginBoot last strap (driveFault true (setBoot { s2.boot with storedRate := s.bcn.rate } s2))
  match s.dbg.state with
  | .auth _ _ => raiseEv .debugClosed 0 [] s3
  | _ => s3

/-- RST_N_RESET: a pulse of at least 10 us resets the module in every state but OFF (R475). -/
def rstN (heldNs : Nat) (strap : Bool) (s : State) : State := if heldNs < 10000 ∨ s.pwr.state = .off then s else resetModule 1 strap s

/-- MODULE_RESET: 1 ms after the reply of RESET, or of FW_SWITCH in recovery (R331, R489). -/
def moduleResetDue (s : State) : State :=
  match s.yel.resetTaken with
  | some (0, t) => if s.cyc ≥ t then resetModule 2 false s else s
  | _ => s

/-- KEEPER_RESET by command (R331). -/
def keeperResetDue (s : State) : State :=
  match s.yel.resetTaken with
  | some (1, t) => if s.cyc ≥ t then resetKeeper 3 s else s
  | _ => s

/-- The bank that the boot ROM takes (R480): none for recovery. -/
def bootBank (s : State) : Option Nat :=
  if bankAuthentic s.boot.preferred s then some s.boot.preferred
  else if bankAuthentic (1 - s.boot.preferred) s then some (1 - s.boot.preferred)
  else none

/-- The boot ROM takes a bank; a fallback is counted, becomes preferred and raises an event (R480). -/
def takeBank (b : Nat) (s : State) : State :=
  if b = s.boot.preferred then setBoot { s.boot with bank := b } s
  else raiseEv .bootFallback 0 [] (bump .kprBootFallback 0 (setBoot { s.boot with bank := b, preferred := b } s))

/-- Recovery (R488, R489): five domains, ports closed, the Bodkin in RECOVERY; of the image, the key slot of MSPI is loaded. -/
def enterRecovery (s : State) : State :=
  let s1 := setPwr { s.pwr with powered := 0x00C7, closed := 0xFF38 } s
  let s2 := setQuad 0 .on (setBoot { s1.boot with bank := 255 } { s1 with bod := { s1.bod with mode := .recovery } })
  let recs := match bestCopy s with
    | some i => i.recs
    | none => []
  let slot := (recs.find? (fun r => r.cls == 1 && r.opcode == 3 && numAt r.body 0 1 == 2)).bind (fun r => if numAt r.body 1 1 < 64 then some (numAt r.body 1 1) else none)
  let s3 := setTrans .mspi { s2.yel.mspi with keySlot := slot } s2
  let s4 := setKpr { s3.kpr with up := true, recovery := true, testPassed := true, wdActive := true, wdFrom := s.cyc } s3
  if s.boot.strap then s4 else sideCause 7 (raiseEv .recoveryBoot 0 [] s4)

/-- KEY_EPOCH of a record of the image is one above the stored one (R295, R484). -/
def advanceEpoch (r : ImageRec) : ImageRec :=
  if r.cls ≠ 10 then r
  else
    let v := BitVec.ofNat 256 (numAt r.body 4 32)
    let v1 := if r.opcode = 3 then putField v 216 201 ((bits v 216 201 + 1) % 65536)
      else if bits v 255 254 = 3 then putField v 201 186 ((bits v 201 186 + 1) % 65536)
      else v
    { r with body := r.body.take 4 ++ natBytes 32 v1.toNat }

/-- Apply a list of records in order; none where a mutator refuses one (R486). -/
def applyAll : List ImageRec → State → Option State
  | [], s => some s
  | r :: rs, s =>
    match cmdOf r.cls r.opcode with
    | none => none
    | some c =>
      let x := runCmd c .mspi r.body s
      if x.status = .ok then applyAll rs x.st else none

/-- The lists that were written are committed with their base times (R78, R484). -/
def commitAll (s : State) : Option State :=
  let ports := (List.range 27).filter (fun p => decide ((getGates p s).shadow.len ≠ 0))
  let gates := (s.sch.sgates.filter (fun e => !e.2.shadow.ents.isEmpty)).map (·.1)
  let go (c : Cmd) (x : Option State) (i : Nat) : Option State :=
    x.bind (fun t => let r := c.body .mspi (natBytes 1 i ++ natBytes 3 0) t; if r.status = .ok then some r.st else none)
  gates.foldl (go cmdSgateCommit) (ports.foldl (go cmdGclCommit) (some s))

/-- Whether the restore engine applies a record; the Keeper applies the others after it (R483). -/
def engineRec (r : ImageRec) : Bool := (decide (2 ≤ r.cls) && decide (r.cls ≤ 8)) || r.cls == 12

/-- The records of an image applied: those of the restore engine, one swap making their epoch current, their lists committed, then the Keeper's (R146, R483, R484). -/
def loadRecords (rs : List ImageRec) (s : State) : Option State :=
  match applyAll (rs.filter engineRec) s with
  | none => none
  | some s1 =>
    let s2 := match s1.pat.pending with
      | none => some s1
      | some _ => let r := epochSwap s1.pat.nextNumber s1; if r.status = Status.ok then some r.st else none
    (s2.bind commitAll).bind (applyAll (rs.filter (fun r => !(engineRec r))))

/-- What loading the image must not touch: the stored link sets and the transports' sequences (R232, R317). -/
def keepStored (old s : State) : State :=
  let s1 := forUpTo 27 (fun p t => setPort p { getPort p t with stored := (getPort p old).stored } t) s
  let seqs (a b : Trans) : Trans := { b with lastSeq := a.lastSeq, reserved := a.reserved }
  setYel { s1.yel with placket := seqs old.yel.placket s1.yel.placket, vlan := seqs old.yel.vlan s1.yel.vlan, mspi := seqs old.yel.mspi s1.yel.mspi } s1

/-- The reset configuration stands, since no image could be loaded (R486). -/
def loadFails (s : State) : State := raiseEv .configLoadFail 0 [] (bump .kprConfigLoadFail 0 (setBoot { s.boot with defaulted := true } s))

/-- Replace an image copy. -/
def setCopy (k : Nat) (img : Image) (s : State) : State := setBoot { s.boot with copies := mapSet none s.boot.copies k (some img) } s

/-- An invalid copy is rewritten from the one that is taken, and counted (R486). -/
def recoverCopy (img : Image) (s : State) : State :=
  match getCopy 0 s, getCopy 1 s with
  | none, _ => bump .kprConfigRecover 0 (setCopy 0 img s)
  | _, none => bump .kprConfigRecover 0 (setCopy 1 img s)
  | _, _ => s

/-- An image that was loaded stands with KEY_EPOCH as loaded, and in the running format (R295, R486; log entry 34). -/
def settleImage (img : Image) (rs : List ImageRec) (s : State) : State :=
  let img' : Image := { img with recs := rs, digest := digestOf rs }
  let put (k : Nat) (t : State) : State := if getCopy k t = some img then setCopy k img' t else t
  let s1 := put 1 (put 0 s)
  if img.format ≠ snapFormat s then writeImage rs s1 else s1

/-- Load the configuration image (R483-R486). -/
def loadImage (s : State) : State :=
  match bestCopy s with
  | none => loadFails s
  | some img =>
    let s0 := recoverCopy img s
    if !(decide (snapReadMin s0 ≤ img.format) && decide (img.format ≤ snapFormat s0)) then loadFails s0
    else
      let rs := img.recs.map advanceEpoch
      match loadRecords rs s0 with
      | none => loadFails s0
      | some s1 => settleImage img rs (keepStored s0 s1)

/-- Every domain is powered and every crossing open; the quadrants' banks are cleared. -/
def powerAll (s : State) : State := forUpTo 4 (fun q t => setQuad q .on t) (setPwr { s.pwr with powered := 0xFFFF, closed := 0 } s)

/-- The Keeper runs and the load is complete: the Bodkin enters SERVICE, BOOTED is set, FAULT_N is released unless the safe state is latched, which is then entered again (R303, R418, R481, R482). -/
def finishBoot (s : State) : State :=
  let s1 := setBoot { s.boot with booted := true } { s with bod := { s.bod with mode := .service } }
  let s2 := setKpr { s1.kpr with up := true, testPassed := true, wdActive := true, wdFrom := s1.cyc } s1
  if s2.lamp.safe then enterSafe (setLamp { s2.lamp with safe := false, restarted := !s2.lamp.codes.isEmpty } s2) else driveFault false s2

/-- CONFIG_LOAD_COMPLETE (R480-R486, R488). -/
def loadComplete (s : State) : State :=
  if s.boot.booted ∨ s.kpr.up ∨ s.pwr.state = .off ∨ s.pwr.state = .deep then s
  else if s.boot.strap then enterRecovery s
  else
    match bootBank s with
    | none => enterRecovery s
    | some b => finishBoot (loadImage (powerAll (takeBank b s)))

/-- KEEPER_SELF_TEST_DONE: a Keeper reset runs the bank check of R480 before its firmware restarts (R428, R481). -/
def keeperTested (pass : Bool) (s : State) : State :=
  if s.kpr.up ∨ s.kpr.halted ∨ !s.boot.booted ∨ !pass then selfTest pass s
  else
    match bootBank s with
    | none => enterRecovery s
    | some b => let s1 := selfTest true (takeBank b s); setTwin { s1.twin with since := s1.cyc } s1

/-- What AO holds of a CAN channel in DEEP: the levels of its transceiver, and DEEP_MODE (R247). -/
def canInAo (c : CanChan) : CanChan :=
  { canReset with record := canReset.record ||| (c.record &&& BitVec.ofNat 128 (3 <<< 118)), stbN := c.stbN, en := c.en }

/-- What AO holds of a LIN channel in DEEP: whether it wakes the module (R260). -/
def linInAo (c : LinChan) : LinChan := if c.record.getLsbD 36 then linReset else { linReset with record := linReset.record - BitVec.ofNat 64 (1 <<< 36) }

/-- The module is in DEEP (R403, R476): AO, MRAM and OTP alone keep state. AO holds the transceivers' levels and the settings of its wake sources (R247, R254, R260, R404). A wake latched on the way starts at the next AO cycle (R409). -/
def arriveDeep (s : State) : State :=
  let c := keepAo s (coldState (marksLow (twinPinsIdle s)))
  let s1 : State := { c with
    edge := { c.edge with wake := s.edge.wake, oscillator := s.edge.oscillator },
    pwr := { c.pwr with nets := s.pwr.nets },
    bcn := { c.bcn with deep := s.bcn.deep, rate := s.bcn.rate },
    lamp := { c.lamp with restarted := s.lamp.restarted } }
  let s2 := forUpTo 8 (fun ch t => setLin ch (linInAo (getLin ch s)) t) (forUpTo 16 (fun ch t => setCan ch (canInAo (getCan ch s)) t) s1)
  driveFault false (setPwr { s2.pwr with state := .deep, powered := 1, closed := 0xFFFE, wakePending := s.pwr.wakeLatched } s2)

/-- The module is in OFF (R389, R403): WAKE0 already active starts it at once (R507). -/
def arriveOff (s : State) : State :=
  let s1 := coldState (pinsIdle s)
  let s2 := driveFault false (setPwr { s1.pwr with state := .off, powered := 0, closed := 0xFFFF } s1)
  if s.pwr.pinsHigh.getLsbD 0 then powerOn false s2 else s2

/-- A CAN channel of an EDGE that came on: on its bus, or receive-only while its network sleeps (R391, R401). -/
def canReturns (ch : Nat) (s : State) : State :=
  if asleepMember (fun x => x.hasCan ch) s then canSleep ch (driveTransceiver ch ((getCan ch s).record.getLsbD 127) false s) else canRejoin ch s

/-- DOMAIN_SWITCHED, with the arrival in DEEP or OFF after the last domain of a lights-out (R391, R403); channels return with EDGE, and rounds go on without the members that left (R411). -/
def switched (d : Nat) (s : State) : State :=
  let s0 := domainSwitched d s
  let s1 := if lightsGoing s ∨ s0.pwr.powered = s.pwr.powered then s0
    else forUpTo 16 roundProgress (if edgePowered s0 && !(edgePowered s) then forUpTo 16 canReturns s0 else s0)
  match s1.pwr.transition with
  | some t =>
    if t.lights ∧ t.offs = 0 ∧ t.ons = 0 then (if t.target = .off then arriveOff s1 else arriveDeep s1) else s1
  | none => s1

/-- Beacon time rebuilt from the AO count of 32.768 kHz, provisional, in FREE at the stored RATE (R110). -/
def rebuildTime (s : State) : State :=
  match s.bcn.deep with
  | none => s
  | some d =>
    let ticks := (aoCount s + 2 ^ 32 - d.aoCount) % 2 ^ 32
    let cycles := ticks * 500000000 / 32768
    let b : Beacon := { s.bcn with total := d.total, rate := d.rate }
    setBcn { (b.pass cycles) with mode := .free, provisional := true } s

/-- Whether a network that wakes from DEEP has a LIN channel among its members. -/
def linWakes (ch : Nat) (s : State) : Bool :=
  match netOf (fun x => x.hasLin ch) s with
  | some n => wakesFromDeep n s
  | none => false

/-- Networks after a wake: those that wake enter WAKE_CHECK, the others are in the state recorded at L2, their CAN members quiet (R401, R403, R407). Every LIN commander sends its wake pulse but the one that caused the wake (R260). -/
def restoreNets (s : State) : State :=
  let src := if s.pwr.causeNow = 7 then some s.pwr.instNow else none
  let s1 := forEach s.pwr.savedNets (fun e t => setNet e.1 { getNet e.1 t with mode := e.2, since := t.cyc } t) s
  let s2 := forUpTo 16 (fun n t => if wakesFromDeep n t then wakeNet n src t else t) s1
  let s3 := forUpTo 8 (fun ch t => if src ≠ some ch ∧ !(linWakes ch s1) then linPulse ch t else t) s2
  forUpTo 16 (fun ch t => if asleepMember (fun x => x.hasCan ch) t then canSleep ch t else t) s3

/-- The state that a wake restores: the TRIM mask recorded at L2, or RUN (R405). -/
def restorePower (s : State) : State :=
  if s.pwr.savedMask = 0 then setPwr { s.pwr with state := .run } s
  else
    let m := s.pwr.savedMask
    let s1 := setPwr { s.pwr with state := .trim, trimMask := m, powered := m, closed := ~~~m } s
    let s2 := if m.getLsbD 13 then s1 else edgeOff s1
    forUpTo 4 (fun q t => if m.getLsbD (q + 2) then t else setQuad q .off t) s2

/-- DEEP_WAKE_SEQUENCE (R110, R405-R407, R476, R496): with VIN in its range, domains come up, the image is restored, and the Keeper runs; its steps are taken together (log entry 45). -/
def deepWake (s : State) : State :=
  if s.pwr.state ≠ .deep ∨ !s.pwr.wakePending ∨ s.pwr.vinLow then s
  else
    let e := s.edge
    let s0 : State := { s with edge := { e with wake := e.wake.map (fun w => (w.1, { w.2 with inDeep := none, errors := 0 })), can := [], lin := [] } }
    let levels (ch : Nat) (t : State) : State := setCan ch { canReset with stbN := (getCan ch s).stbN, en := (getCan ch s).en } t
    let s1 := forUpTo 16 levels (setPwr { s.pwr with wakePending := false, wakeLatched := false, nets := [] } s0)
    let s2 := rebuildTime (beginBoot 5 false s1)
    match bootBank s2 with
    | none => enterRecovery (setPwr { s2.pwr with state := .run } s2)
    | some b => restoreNets (forUpTo 16 setTransceiver (restorePower (finishBoot (loadImage (powerAll (takeBank b (setPwr { s2.pwr with state := .run } s2)))))))

/-- WAKE_PIN: an active edge (R389, R392, R404, R507). -/
def wakePinEdge (pin : Nat) (s : State) : State :=
  let s1 := setPwr { s.pwr with pinsHigh := s.pwr.pinsHigh ||| BitVec.twoPow 2 pin } s
  match s.pwr.state with
  | .off => if pin = 0 ∧ !s.pwr.vinLow then powerOn false s1 else s1
  | .doze => leaveDoze s1
  | .deep => registerWake { ({} : WakeRecord) with cause := 5 + pin } s1
  | _ => if lightsGoing s1 || startsUp s1 then registerWake { ({} : WakeRecord) with cause := 5 + pin } s1 else pinHolds pin s1

/-- WAKE_PIN_RELEASE: the hold of the pin's networks ends (R395). -/
def wakePinOff (pin : Nat) (s : State) : State := setPwr { s.pwr with pinsHigh := s.pwr.pinsHigh &&& ~~~(BitVec.twoPow 2 pin) } s

/-- VIN_BROWNOUT (R495): every domain loses its rail at once; FAULT_N is driven low; a power-on reset follows when VIN rises. -/
def brownOut (s : State) : State :=
  let s1 := coldState (pinsIdle (driveFault true (bump .pwrBrownout 0 s)))
  setPwr { s1.pwr with state := .off, powered := 0, closed := 0xFFFF, vinLow := true, crankAt := none } s1

/-- VIN_CRANK: VIN between the brown-out and the start threshold (R494). -/
def crank (s : State) : State :=
  match s.pwr.state with
  | .deep => setPwr { s.pwr with vinLow := true } s
  | .off => s
  | _ => if s.pwr.crankAt.isSome then s else bump .pwrCrank 0 (setPwr { s.pwr with vinLow := true, crankAt := some s.cyc } s)

/-- VIN_CRANK_TIMEOUT: more than 50 ms below the start threshold (R494, R507). -/
def crankTimeout (s : State) : State :=
  match s.pwr.crankAt with
  | some t => if s.cyc ≥ t + 50 * msCyc ∧ s.pwr.state ≠ .deep ∧ s.pwr.state ≠ .off then brownOut s else s
  | none => s

/-- VIN_ABOVE_START_THRESHOLD: a power-on reset after a brown-out, or a latched wake's start (R475, R495, R496). -/
def vinRises (s : State) : State :=
  if !s.pwr.vinLow then s
  else
    let s1 := setPwr { s.pwr with vinLow := false, crankAt := none } s
    if s.pwr.state = .off then powerOn false s1 else deepWake s1

end Sys2Proof.Machine
end

