-- ==== Sys2Proof/Machine/Service.lean ====
section
/-! DEFINITION. Machine/Service.lean: the Yelom service: the checks of a received message in their order (R311-R325), the execution of accepted commands, their replies (R312, R313, R333, R334), and what a command leaves to be done at its end. -/

namespace Sys2Proof.Machine

/-- A received message with its class and opcode. -/
abbrev Received := Accepted

/-- Byte 0 bit of a message header (R310). -/
def hdrBit (m : Msg) (i : Nat) : Bool := m.b0.getLsbD i

/-- The bytes that a message's trailer covers: header and parameters as sent (R316). -/
def signedBytes (a : Received) : List Byte :=
  let m := a.msg
  headerBytes m.b0.toNat a.cls a.opcode m.tag.toNat m.plen.toNat m.seq.toNat m.stat.toNat ++ m.body.take m.plen.toNat

/-- The parameters of a message. -/
def paramsOf (m : Msg) : List Byte := m.body.take m.plen.toNat

/-- The commands that need no trailer in any state but BLANK (R315). -/
def needsNoTrailer (a : Received) : Bool := (a.cls == 1 && (a.opcode == 1 || a.opcode == 2)) || (a.cls == 9 && a.opcode == 8)

/-- The exemption of R315 in the current lifecycle state. -/
def exemptNow (a : Received) (s : State) : Bool := needsNoTrailer a && decide (lcState s ≠ 0)

/-- Commands that SEQUENCE 0xFFFF_FFFF is accepted for (R317). -/
def lastSeqOk (a : Received) (s : State) : Bool :=
  (a.cls == 1 && a.opcode == 3)
  || (a.cls == 9 && (a.opcode == 1 || a.opcode == 2 || a.opcode == 3) && (getTrans (transportOf a.msg.via) s).keySlot == some (numAt (paramsOf a.msg) 0 1))

/-- The key that checks a trailer: the Bodkin computes it (R302, R316). -/
def checkKey (t : Transport) (s : State) : Option (List Byte) := if domainRuns 7 s then commandKey t s else none

/-- The outcomes of check 9 (R315-R318). -/
inductive AuthResult where
  /-- accepted, and its sequence is taken when it was checked -/
  | pass (sequenced : Bool)
  | badTrailer
  | badSequence
  deriving DecidableEq, Repr

/-- A trailer and a sequence are checked (R316, R317). -/
def authChecked (a : Received) (s : State) : AuthResult :=
  let t := transportOf a.msg.via
  match checkKey t s with
  | none => if exemptNow a s then .pass false else .badTrailer
  | some k =>
    if a.msg.body.drop a.msg.plen.toNat ≠ trailer (some k) (signedBytes a) then .badTrailer
    else if exemptNow a s then .pass false
    else if a.msg.seq.toNat ≤ (getTrans t s).lastSeq ∨ (a.msg.seq = 0xFFFFFFFF ∧ !(lastSeqOk a s)) then .badSequence
    else .pass true

/-- Check 9 by lifecycle state (R315): not made in BLANK and RETIRED, of a trailer that is present in PROVISION, required in FIELD and SERVICE. -/
def authenticate (a : Received) (s : State) : AuthResult :=
  let lc := lcState s
  if lc = 0 ∨ lc = 4 then .pass false
  else if hdrBit a.msg 2 then authChecked a s
  else if lc = 1 ∨ exemptNow a s then .pass false
  else .badTrailer

/-- A failure of check 9 is counted; the sixteenth within 1 s begins a lockout of 1 s (R318). -/
def noteFailure (seq : Bool) (t : Transport) (s : State) : State :=
  let i := transportIx t
  let s1 := bump .kprCmdAuthFail i (if seq then bump .kprCmdReplay i s else s)
  let x := getTrans t s1
  if s.cyc < x.lockedUntil then s1
  else
    let fails := (s.cyc :: x.fails).filter (fun c => decide (s.cyc < c + 1000 * msCyc))
    if fails.length ≥ 16 then setTrans t { x with fails := [], lockedUntil := s.cyc + 1000 * msCyc } s1
    else setTrans t { x with fails := fails } s1

/-- An accepted sequence is the transport's last; one that reaches the reservation first moves it on (R317). -/
def takeSequence (seq : Nat) (t : Transport) (s : State) : State :=
  let x := getTrans t s
  setTrans t { x with lastSeq := seq, reserved := if seq ≥ x.reserved then Nat.min (seq + 4096) 0xFFFFFFFF else x.reserved } s

/-- Whether a transport is in lockout (R318). -/
def locked (t : Transport) (s : State) : Bool := decide (s.cyc < (getTrans t s).lockedUntil)

/-- Whether a transport's bucket holds a token (R323). -/
def hasToken (t : Transport) (s : State) : Bool := decide (tokensNow (getTrans t s) s ≥ 500000000)

/-- One token taken from a transport's bucket (R323). -/
def spendToken (t : Transport) (s : State) : State :=
  let x := getTrans t s
  setTrans t { x with tokens := tokensNow x s - 500000000, tokensAt := s.cyc } s

/-- The reply of a refusal at checks 3 to 9, which no outstanding command makes. -/
def refuseMsg (a : Received) (e : Status) (s : State) : State := replyTo a.cls a.opcode a.msg false e [] false s

/-- The reply to a command that executed, under the key that SET_CMD_KEY found (R313, R327); an OK reply to a mutator of a whole-unit pair waits for its delta, but for the commands that end the module's control or its run (R331, R333, R334, R451). -/
def sendResult (a : Accepted) (r : CmdResult) (streams : List ImageRec) (mutator : Bool) (before : State) : State :=
  let s := r.st
  let now : Bool := (a.cls == 1 && a.opcode == 7) || (a.cls == 14 && a.opcode == 3) || (a.cls == 13 && a.opcode == 3)
  if r.status = .ok ∧ mutator ∧ pairActive before ∧ pairActive s ∧ !now then
    let s1 := setTwin { s.twin with changed := s.twin.changed ++ streams } s
    setYel { s1.yel with held := s1.yel.held ++ [{ gen := s1.twin.gen + 1, since := s1.cyc, cls := a.cls, opcode := a.opcode, msg := a.msg, result := r.reply }] } s1
  else if a.cls = 1 ∧ a.opcode = 3 then
    sendReply a.msg.via true (replyBytes a.cls a.opcode a.msg r.status r.reply false (commandKey (transportOf a.msg.via) before)) s
  else replyTo a.cls a.opcode a.msg true r.status r.reply false s

/-- A command runs and is answered (R312). -/
def finish (a : Accepted) (s : State) : State :=
  match cmdOf a.cls a.opcode with
  | none => replyTo a.cls a.opcode a.msg true .badOpcode [] false s
  | some c =>
    let p := paramsOf a.msg
    let r := runCmd c a.msg.via p s
    refreshKeys (sendResult a r (if r.status = .ok then streamOf c p r.reply else []) c.mutator s)

/-- What a waiting command waits for has come (R209, R286, R384, R451). -/
def waitOver (w : WaitFor) (s : State) : Bool :=
  match w with
  | .frame l => (getLink l s).inFrame
  | .access d => !(domainStuck d s)
  | .ack => s.twin.granting.isNone
  | .lane => decide (inFlight 0 s < 64)

/-- Begin a command that passed check 9: checks 10 to 12, an access into a stopped domain (R384, R385), what it has to wait for (R324), else its effect. -/
def execute (a : Accepted) (s : State) : State :=
  match cmdOf a.cls a.opcode with
  | none => replyTo a.cls a.opcode a.msg true .badOpcode [] false s
  | some c =>
    let p := paramsOf a.msg
    let say (e : Status) : State := replyTo a.cls a.opcode a.msg true e [] false s
    if !(allowed c p s) then say .notInState
    else if !(c.len p) then say .lenRange
    else
      match (c.domains p).find? (fun d => s.plk.stopped.getLsbD d || domainStuck d s) with
      | some d =>
        if s.plk.stopped.getLsbD d then say .timeout
        else setYel { s.yel with waiting := some (a, .access d, s.cyc + s.pwr.keeperTimeout * usCyc) } s
      | none =>
        match c.waits p s with
        | some (w, ends) =>
          let s1 := c.start p s
          if waitOver w s1 then finish a s1 else setYel { s1.yel with waiting := some (a, w, ends) } s1
        | none => finish a s

/-- A command is accepted (R311, R324, R336): it executes at once unless one before it still waits. -/
def accept (a : Accepted) (s : State) : State :=
  let t := transportOf a.msg.via
  let x := getTrans t s
  let s1 := bump .kprCmdAccepted (transportIx t) (setTrans t { x with outstanding := x.outstanding + 1 } s)
  if s1.yel.waiting.isSome ∨ !s1.yel.queue.isEmpty then setYel { s1.yel with queue := s1.yel.queue ++ [a] } s1 else execute a s1

/-- Check 7 takes a token; check 9 of a message with a trailer then asks for the transport's key (R266, R315, R323). -/
def tokenTaken (a : Received) (s : State) : State :=
  let s1 := spendToken (transportOf a.msg.via) s
  if hdrBit a.msg 2 then askKey (transportOf a.msg.via) s1 else s1

/-- Checks 7 to 9 (R315-R318, R322, R323). -/
def admitMsg (a : Received) (s : State) : State :=
  let t := transportOf a.msg.via
  let i := transportIx t
  if !(hasToken t s) then refuseMsg a .busy (bump .kprCmdRate i s)
  else
    let s1 := tokenTaken a s
    if (getTrans t s1).outstanding ≥ 64 then refuseMsg a .busy (bump .kprCmdBusy i s1)
    else
      match authenticate a s1 with
      | .badTrailer => refuseMsg a .denied (noteFailure false t s1)
      | .badSequence => refuseMsg a .denied (noteFailure true t s1)
      | .pass sequenced => accept a (if sequenced then takeSequence a.msg.seq.toNat t s1 else s1)

/-- Checks 2 to 6 (R311). -/
def checkMsg (a : Received) (s : State) : State :=
  let m := a.msg
  let t := transportOf m.via
  let i := transportIx t
  if hdrBit m 3 ∨ hdrBit m 0 then bump .kprCmdStray i s
  else if m.b0.toNat / 16 ≠ 1 ∨ hdrBit m 1 ∨ m.stat ≠ 0 ∨ m.res ≠ 0 then refuseMsg a .badOpcode s
  else if m.plen.toNat > 4096 then refuseMsg a .lenRange s
  else if m.body.length ≠ m.plen.toNat + (if hdrBit m 2 then 16 else 0) then refuseMsg a .lenRange s
  else if locked t s ∧ !(exemptNow a s) then bump .kprCmdLockoutDrop i s
  else admitMsg a s

/-- The bytes of a message as its transport carried them. -/
def messageBytes (a : Received) : List Byte :=
  let m := a.msg
  natBytes 1 m.b0.toNat ++ natBytes 1 a.cls ++ natBytes 2 a.opcode ++ natBytes 2 m.tag.toNat ++ natBytes 2 m.plen.toNat ++ natBytes 4 m.seq.toNat
    ++ natBytes 2 m.stat.toNat ++ natBytes 2 m.res.toNat ++ m.body

/-- A message that its transport keeps until the service can take it (R320, R322, R333): MSPI holds one, and refuses the next. -/
def parkMsg (v : Via) (bs : List Byte) (s : State) : State :=
  if v = .mspi ∧ s.yel.parked.any (fun e => decide (e.1 = .mspi)) then bump .kprCmdBusy 2 s
  else setYel { s.yel with parked := s.yel.parked ++ [(v, bs)] } s

/-- Whether a message with a trailer must wait for room in pipeline 0, where the trailer is computed (R286, R302). -/
def laneFull (a : Received) (s : State) : Bool := hdrBit a.msg 2 && decide (inFlight 0 s ≥ 64)

/-- Whether a transport's next message must wait: in the pause of a firmware switch, and on the Placket while 64 commands are outstanding (R322, R333). -/
def mustWait (v : Via) (s : State) : Bool := s.yel.pauseUntil.isSome || (transportOf v == .placket && decide ((getTrans .placket s).outstanding ≥ 64))

/-- A message of a known class and opcode reaches the module. With the Keeper pair in reset nothing takes it; recovery serves MSPI alone (R488); in DOZE a frame is lost and the other transports wake the module (R392). -/
def receiveMsg (a : Received) (s : State) : State :=
  let t := transportOf a.msg.via
  if s.pwr.state = .doze ∧ t = .vlan then leaveDoze (match a.msg.via with | .vlan p _ _ _ => bump .pwrDozeRxDrop p.val s | _ => s)
  else
    let s1 := leaveDoze s
    if !(keeperRuns s1) ∨ (s1.kpr.recovery ∧ t ≠ .mspi) then s1
    else if mustWait a.msg.via s1 ∨ laneFull a s1 then parkMsg a.msg.via (messageBytes a) s1
    else checkMsg a s1

/-- Bytes of a transport: fewer than 16 are no message (check 1 of R311). -/
def receiveRaw (v : Via) (bs : List Byte) (s : State) : State :=
  if bs.length < 16 then (if !(keeperRuns s) then s else bump .kprCmdRunt (transportIx (transportOf v)) s)
  else
    let m : Msg := { via := v, b0 := bs.getD 0 0, tag := BitVec.ofNat 16 (numAt bs 4 2), plen := BitVec.ofNat 16 (numAt bs 6 2), seq := BitVec.ofNat 32 (numAt bs 8 4),
                     stat := BitVec.ofNat 16 (numAt bs 12 2), res := BitVec.ofNat 16 (numAt bs 14 2), body := bs.drop 16 }
    receiveMsg { cls := numAt bs 1 1, opcode := numAt bs 2 2, msg := m } s

/-- MSPI WRITE: discarded and counted while STATUS says that none can be taken (R320). -/
def writeMspi (bs : List Byte) (s : State) : State :=
  if s.pwr.state = .deep ∨ s.pwr.state = .off then s
  else if !(mspiReady s) then bump .kprCmdBusy 2 s
  else receiveRaw .mspi bs s

/-- Queued commands execute while none waits (R324). -/
def drainQueue : Nat → State → State
  | 0, s => s
  | n + 1, s =>
    match s.yel.waiting, s.yel.queue with
    | none, a :: rest => drainQueue n (execute a (setYel { s.yel with queue := rest } s))
    | _, _ => s

/-- A waiting command whose wait is over runs, and those behind it follow (R324). -/
def serveWaiting (s : State) : State :=
  match s.yel.waiting with
  | none => if s.yel.queue.isEmpty then s else afterPause (drainQueue s.yel.queue.length s)
  | some (a, w, _) =>
    if waitOver w s then
      let s1 := finish a (setYel { s.yel with waiting := none } s)
      afterPause (drainQueue s1.yel.queue.length s1)
    else s

/-- Messages that waited are taken up in their order (R320, R333). -/
def serveParked (s : State) : State :=
  if s.yel.parked.isEmpty ∨ s.yel.pauseUntil.isSome ∨ !(keeperRuns s) then s
  else forEach s.yel.parked (fun e t => receiveRaw e.1 e.2 t) (setYel { s.yel with parked := [] } s)

/-- A waiting command ends with TIMEOUT (R324, R384). -/
def endWaiting (s : State) : State :=
  match s.yel.waiting with
  | some (a, _, _) => afterPause (replyTo a.cls a.opcode a.msg true .timeout [] false (setYel { s.yel with waiting := none } s))
  | none => s

/-- MUTATOR_TIMEOUT: 1 s for a partner (R324). -/
def mutatorTimeout (s : State) : State :=
  match s.yel.waiting with
  | some (_, .access _, _) => s
  | some (_, w, ends) => if s.cyc ≥ ends ∧ !(waitOver w s) then endWaiting s else s
  | none => s

/-- Doorbells that a stopped Keeper domain could not take: each is counted and its host write logged (R341). -/
def lostDoorbells (s : State) : State :=
  forUpTo 4 (fun c t => if (getPair c t).cmdProd ≠ (getPair c t).handed then logInbound 6 false (0x100 + 16 * c) 4 (bump .plkInboundAbort 0 t) else t) s

/-- INITIATOR_TIMEOUT: the Keeper's access ends its command; the domain is latched as stopped (R368, R384). -/
def initiatorTimeout (placket : Bool) (d : Nat) (s : State) : State :=
  if !(domainStuck d s) then s
  else if placket then latchStopped 1 d (if d = 1 then lostDoorbells s else s)
  else
    match s.yel.waiting with
    | some (_, .access e, ends) => if e = d ∧ s.cyc ≥ ends then endWaiting (latchStopped 0 d s) else s
    | _ => s

/-- CMD_LOCKOUT_END: a lockout ends 1 s after it began (R318). -/
def lockoutEnd (t : Transport) (s : State) : State :=
  let x := getTrans t s
  if x.lockedUntil ≠ 0 ∧ s.cyc ≥ x.lockedUntil then setTrans t { x with lockedUntil := 0 } s else s

/-- The events of a command take their parameters (R326). -/
def stampEvents (s : State) : State :=
  if s.raised.isEmpty then s
  else { s with raised := [], events := s.events ++ s.raised.map (fun e => (e.1, eventParams e.1 e.2.1 e.2.2 s)) }

/-- The events that wait with a property do what it lets them do, in their order. -/
def releaseEvents (p : Ev → Bool) (act : Ev × List Byte → State → State) (s : State) : State :=
  forEach (s.events.filter (fun e => p e.1)) act { s with events := s.events.filter (fun e => !(p e.1)) }

/-- The events of a command leave: those of the data plane as event frames, once the packet core runs; those of the Keeper to its event service, while it runs (R15, R20, R326; log entries 28 and 77). -/
def deliverAll (s : State) : State :=
  let s1 := stampEvents s
  let s2 := if coreRuns s1 then releaseEvents Ev.viaFabric postEvent s1 else s1
  if keeperRuns s2 && s2.yel.pauseUntil.isNone then releaseEvents (fun e => !e.viaFabric) takeEvent s2 else s2

/-- The detections of a command are reacted to (R417, R432; log entry 28). -/
def reactFaults (s : State) : State := if s.faults.isEmpty then s else reactAll s

/-- The end of every command: detections, commands that could not run before, detections of those, the twin's own consequences, events. -/
def settle (s : State) : State :=
  deliverAll (statusTx 0 (leaveRelinquished (reactFaults (serveParked (serveWaiting (reactFaults s))))))

/-- The slots that the Keeper has been handed and has not read: one command of the next ring in turn (R324, R351). -/
def serveRing (s : State) : Option State :=
  let waits (k : Nat) : Bool := decide ((getPair k s).cmdCons ≠ (getPair k s).handed)
  match ((List.range 4).map (fun i => (s.yel.turn + i) % 4)).find? waits with
  | none => none
  | some k =>
    let p := getPair k s
    let r := readSlot k p.cmdCons s
    let s1 := setYel { s.yel with turn := (k + 1) % 4 } (setPair k { p with cmdCons := (p.cmdCons + 1) % 32 } s)
    let bs := if r.1 < 16 then r.2.take r.1 else if r.1 > 4128 then r.2 ++ [0] else r.2
    some (receiveRaw (.ring (BitVec.ofNat 2 k).toFin) bs s1)

/-- The command rings are served while the service can accept their commands (R321, R322, R351). -/
def serveRings : Nat → State → State
  | 0, s => s
  | n + 1, s =>
    if !(keeperRuns s) ∨ s.kpr.recovery ∨ s.yel.pauseUntil.isSome ∨ (getTrans .placket s).outstanding ≥ 64 ∨ !(domainRuns 14 s) then s
    else
      match serveRing s with
      | none => s
      | some s1 => serveRings n s1

end Sys2Proof.Machine
end

