-- ==== Sys2Proof/Machine/Deliver.lean ====
section
/-! DEFINITION. Machine/Deliver.lean: what becomes of a frame that has left an internal egress port: the Keeper's share of port 27, the gateway, the Bodkin and recirculation (R16, R148, R170, R285, R444). -/

namespace Sys2Proof.Machine

/-- A frame as the Keeper sees it behind its addresses and tags: EtherType, whether a VLAN tag stood before it, its VID, and the bytes after it without FCS. -/
structure Payload where
  etype : Nat
  tagged : Bool
  vid : Nat
  bytes : List Byte
  deriving DecidableEq, Repr

/-- Read an Ethernet frame for the Keeper; an untagged frame is on its port's default VLAN (R132). -/
def payloadOf (tci : Nat) (b : List Byte) : Payload :=
  let rec skip : Nat → Nat → Bool → Nat → Nat × Bool × Nat
    | 0, o, t, v => (o, t, v)
    | n + 1, o, t, v =>
      let e := numAt b o 2
      if e = 0x8100 ∨ e = 0x88A8 then skip n (o + 4) true (numAt b (o + 2) 2 % 4096) else (o, t, v)
  let r := skip 2 12 false (tci % 4096)
  { etype := numAt b r.1 2, tagged := r.2.1, vid := r.2.2, bytes := (b.take (b.length - 4)).drop (r.1 + 2) }

/-- A message in a frame: in one of 64 bytes what follows the message is padding (R319). -/
def unpadMessage (frameLen : Nat) (b : List Byte) : List Byte :=
  if frameLen ≠ 64 ∨ b.length < 16 then b else b.take (16 + numAt b 6 2 + (if (b.getD 0 0).getLsbD 2 then 16 else 0))

/-- Records of a twin part (R445, R483); none where they break the format. -/
def readRecords : Nat → List Byte → Option (List ImageRec)
  | 0, b => if b.isEmpty then some [] else none
  | n + 1, b =>
    if b.isEmpty then some []
    else
      let len := numAt b 4 2
      let step := 8 + (len + 3) / 4 * 4
      if b.length < step ∨ numAt b 3 1 > 1 ∨ numAt b 6 2 ≠ 0 ∨ len > (if numAt b 0 1 = 0 then 8176 else 4096) then none
      else (readRecords n (b.drop step)).map (fun rs => { cls := numAt b 0 1, opcode := numAt b 1 2, wakeFirst := false, body := (b.drop 8).take len } :: rs)

/-- TWIN_FRAME_BAD (R444, R445). -/
def twinBad (s : State) : State := bump .twinFrameBad 0 s

/-- A body whose length differs from its type's is bad (R445). -/
def needLen (ok : Bool) (f : State → State) (s : State) : State := if ok then f s else twinBad s

/-- A twin frame by its TYPE (R445). -/
def twinDispatch (kind : Nat) (gen : BitVec 32) (b : List Byte) (s : State) : State :=
  let n := b.length
  let parts (full : Bool) (t : State) : State :=
    match readRecords 2048 (b.drop 8) with
    | some rs => partRx full gen (numAt b 0 2) (numAt b 2 2) rs t
    | none => twinBad t
  match kind with
  | 1 => needLen (n == 52) (helloRx { serial := BitVec.ofNat 64 (numAt b 0 8), fwVersion := BitVec.ofNat 32 (numAt b 8 4), snapFormat := BitVec.ofNat 16 (numAt b 12 2),
                                      state := numAt b 14 1, digest := (b.drop 16).take 32 }) s
  | 2 => needLen (decide (8 ≤ n)) (parts true) s
  | 3 => needLen (decide (8 ≤ n)) (parts false) s
  | 4 => needLen (n == 0) (ackRx gen) s
  | 5 => needLen (decide (4 ≤ n)) (relayUp (numAt b 0 1) (numAt b 1 1) (b.drop 4)) s
  | 6 => needLen (decide (4 ≤ n)) (relayDown (numAt b 0 1) (numAt b 1 1) (b.drop 4)) s
  | 7 => needLen (n == 0) relinquishRx s
  | 8 => needLen (n == 0) takebackReq s
  | 9 => needLen (n == 0) takebackGrant s
  | 10 => needLen (n == 0) leaveRx s
  | 11 => needLen (n == 4) (lightsOutRx (numAt b 0 1)) s
  | 12 => statusRx b s
  | _ => twinBad s

/-- A twin frame as received: on T0 only, its LENGTH that of its body (R444). -/
def twinFrame (p frameLen : Nat) (b : List Byte) (s : State) : State :=
  let len := numAt b 2 2
  let rest := b.drop 16
  let body := if frameLen = 64 then rest.take len else rest
  if p ≠ 26 ∨ b.length < 16 ∨ len > 8192 ∨ body.length ≠ len then twinBad s else twinDispatch (numAt b 1 1) (BitVec.ofNat 32 (numAt b 8 4)) body s

/-- A standby sends up what its twin agent does not handle itself (R445). -/
def relayRaw (kind inst : Nat) (msg : List Byte) (s : State) : State :=
  if !(twinRuns s) ∨ !s.twin.st.standing then s
  else if msg.length > 8188 then bump .twinRelayDrop 0 s
  else sendTwin 5 0 (natBytes 1 kind ++ natBytes 1 inst ++ natBytes 2 0 ++ msg) s

/-- An NM message, or an address claim or request, that reaches the Keeper as a message of a CAN channel (R188, R396). -/
def keeperCan (b : List Byte) (s : State) : State :=
  let ch := numAt b 1 1
  let m := canOfPseudo b
  if standbyRule s ∧ s.twin.mode = 1 then relayRaw 1 ch b s
  else if ch ≥ 32 then s
  else if (netOf (fun x => x.hasCan ch) s).any (fun n => m.format == .classicBase && m.ident == bits (getNet n s).record 26 16) then nmDispatch ch m s
  else addressClaim ch m s

/-- A frame that the Keeper has drained from port 27 (R16, R18, R20, R217, R238, R309, R444): event frames, Yelom and twin messages, Selvage messages of a tributary, LLDP, and messages of CAN channels. What has a command of its own besides, gPTP and MKA, is taken by that command (log entry 46). -/
def toKeeper (h : Handoff) (s : State) : State :=
  let p := h.frame.keyPort
  if !(keeperRuns s) then s
  else
  match h.frame.event with
  | some e => takeEvent e s
  | none =>
  if h.frame.ek = .can then keeperCan h.bytes s
  else if h.frame.ek = .lin then s
  else
    let x := payloadOf (defaultTci p s) h.bytes
    if x.etype = 0x88B5 then
      if !x.tagged ∧ numAt x.bytes 0 1 / 16 = 15 then twinFrame p h.bytes.length x.bytes s
      else receiveRaw (.vlan (BitVec.ofNat 5 p).toFin (BitVec.ofNat 48 (numAt h.bytes 6 6)) (BitVec.ofNat 48 (numAt h.bytes 0 6)) (BitVec.ofNat 12 x.vid)) (unpadMessage h.bytes.length x.bytes) s
    else if x.etype = 0x88B6 then (if p = 24 ∨ p = 25 then selMessage (p - 24) 2 (x.bytes.take (4 + numAt x.bytes 2 2)) s else s)
    else if x.etype = 0x88CC then (if p < 27 ∧ numAt h.bytes 0 6 = 0x0180C200000E then lldpReceive p x.bytes s else s)
    else if x.etype = 0x88F7 ∨ x.etype = 0x888E then s
    else relayRaw 0 p h.bytes s

/-- A recirculated frame enters again through port 30 with the layer at which parsing resumes (R148), which lies behind an R-TAG that the cell builder has inserted or removed (R95, R96). One that a PORT_MASK brought to port 30 without a RECIRC leaf is parsed again from byte 0 with tag 0: the spec allows the bit and says no more (DESIGN CHOICE, log entry 94). -/
def recirculate (h : Handoff) (s : State) : State :=
  let f := h.frame
  match f.verdict.recirc with
  | none => enterWhole 30 f.keyPort f.ek (some { key := f.key }) f.epoch f.arrived h.bytes s
  | some (skip, tag) =>
    let move (o : Nat) : Nat := (Int.ofNat o + tagShift f).toNat
    let l := f.key.layers.getD skip (0, 0)
    let key := { f.key with claim := f.key.claim.map move }
    enterWhole 30 f.keyPort f.ek (some { start := if l.1 < 3 then l.2 else move l.2, kind := l.1, key := key, tag := tag }) f.epoch f.arrived h.bytes s

/-- A frame that has left an internal port goes to the block behind it (R1). -/
def deliver (h : Option Handoff) (s : State) : State :=
  match h with
  | none => s
  | some x =>
    let f := x.frame
    match x.port with
    | 27 => toKeeper x s
    | 28 => { s with edge := { s.edge with inbox := s.edge.inbox ++ [{ bytes := x.bytes, ek := f.ek, keyPort := f.keyPort, route := f.verdict.route, epoch := f.epoch, stamp := f.arrived }] } }
    | 29 => { s with bod := { s.bod with items := s.bod.items ++ [{ frame := f, bytes := x.bytes, lane := x.lane }] } }
    | 30 => recirculate x s
    | _ => s

end Sys2Proof.Machine
end

