-- ==== Sys2Proof/Machine/ExecBase.lean ====
section
/-! DEFINITION. Machine/ExecBase.lean: the shape that the meanings of all commands share. A command takes its effect, and the module then settles: the faults it detected are reacted to, waiting work that can now run is served, and the events it raised are delivered (log entry 28). -/

namespace Sys2Proof.Machine

/-- The outcomes of a command. -/
abbrev Out := Host.Outcome State Fault Refusal

/-- A command ends in the settled state. -/
def ends (s : State) : Out := .next (settle s)

/-- A command that occurs at an elapsed time: Beacon time and credits run up to it first (log entry 2). -/
def endsAt (t : Nat) (act : State → State) (s : State) : Out := ends (act (advanceTo t s))

/-- A Yelom command received as a message of its class and opcode (R309, R311, R327). -/
def yelom (cls opcode : Nat) (m : Msg) (s : State) : Out := ends (receiveMsg ⟨cls, opcode, m⟩ s)

end Sys2Proof.Machine
end

