-- ==== Sys2Proof/Machine/ExecFabric.lean ====
section
/-! DEFINITION. Machine/ExecFabric.lean: the meanings of the fabric's own events: frames received, parsed, admitted, moved by the Shuttles, sent, aged and preempted (R29-R74). -/

namespace Sys2Proof.Machine

/-- CORE and BANK do their work while they run (R383, R392). -/
def atCore (act : State → State) (s : State) : State := if coreRuns s then act s else s

/-- A frame step at a port in DOZE: the MAC discards and counts the frame, and the module wakes; the rest of that frame is discarded too (R392). -/
def frameInDoze (p : Nat) (fin : FrameEnd) (s : State) : State :=
  if p ≥ 27 ∨ !(linkUpNow p s) then s
  else
    let s1 := leaveDoze (bump .pwrDozeRxDrop p s)
    if fin = .more ∧ (receiving p s1).isNone then swallow p s1.fab.nextIdent true 0 s1 else s1

/-- FRAME_RECEIVE: bytes of a frame arrive at a port, with what ends them (R10, R102, R234, R392). -/
def execFrameReceive (port : Port) (bytes : List Byte) (fin : FrameEnd) (s : State) : Out :=
  ends (if s.pwr.state = .doze then frameInDoze port.val fin s else atCore (receiveAt port.val bytes fin) s)

/-- A lookup completes, and the receive FIFOs of the CAN controllers empty into the room that it leaves (R141, R248). -/
def lookupDone (port : Nat) (late : Bool) (ecc : Ecc) (s : State) : State :=
  let s1 := completeLookup port late ecc s
  if edgeOn s1 then drainFifos 512 s1 else s1

/-- LOOKUP_COMPLETE (R141). -/
def execLookupComplete (port : Port) (late : Bool) (ecc : Ecc) (s : State) : Out := ends (atCore (lookupDone port.val late ecc) s)

/-- ADMISSION (R37, R49): while lights-out goes on, the Bolt takes frames of the Keeper alone (R403). -/
def execAdmission (port : Port) (s : State) : Out := ends (if lightsGoing s ∧ port ≠ 27 then s else atCore (admitNext port.val) s)

/-- SHUTTLE_SLOT (R34). -/
def execShuttleSlot (s : State) : Out := ends (atCore shuttleTurn s)

/-- TREADLE_ROTATION (R53). -/
def execTreadleRotation (s : State) : Out := ends (atCore rotate s)

/-- COMPETING_TIMEOUT (R52). -/
def execCompetingTimeout (port : Port) (cls : Cls) (ingress : Port) (s : State) : Out :=
  ends (atCore (stopCompeting (8 * port.val + cls.val) ingress.val) s)

/-- Whether the block behind an egress port takes frames: the Keeper while it runs and does not switch firmware, the edge gateway, the Bodkin and the Placket while powered (R19, R333, R391). -/
def portTakes (p : Nat) (s : State) : Bool :=
  if p = 27 then keeperRuns s && s.yel.pauseUntil.isNone
  else if p = 28 then edgeOn s
  else if p = 29 then domainRuns 7 s
  else if p = 31 then domainRuns 14 s
  else true

/-- EGRESS_SELECT (R67): at port 31 the frame goes to a receive ring (R354). -/
def execEgressSelect (port : Port) (s : State) : Out :=
  ends (if portTakes port.val s then atCore (if port = 31 then selectHost else selectAt port.val) s else s)

/-- CELL_READ (R42). -/
def execCellRead (port : Port) (ecc : Ecc) (s : State) : Out := ends (atCore (if port = 31 then readHostCell ecc else readCell port.val ecc) s)

/-- A transmission ends, and the frame is with what the port leads to (R69, R354). -/
def transmitted (p : Nat) (s : State) : State :=
  if p = 31 then endHostFrame s
  else
    let r := transmitEnd p s
    deliver r.2 r.1

/-- FRAME_TRANSMIT_END (R69). -/
def execFrameTransmitEnd (port : Port) (s : State) : Out := ends (atCore (transmitted port.val) s)

/-- PREEMPTION (R72). -/
def execPreemption (port : ExtPort) (s : State) : Out := ends (atCore (preemptAt port.val) s)

/-- PREEMPT_VERIFY (R71). -/
def execPreemptVerify (port : ExtPort) (addFrag : Fin 4) (s : State) : Out := ends (verifyPreempt port.val addFrag.val s)

/-- FRAME_AGED (R56). -/
def execFrameAged (at_ : Nat) (port : Port) (cls : Cls) (s : State) : Out := endsAt at_ (atCore (ageQueue (8 * port.val + cls.val))) s

/-- QUADRANT_DRAINED (R58). -/
def execQuadrantDrained (quad : Quad) (s : State) : Out := ends (quadDrained quad.val s)

/-- BANK_CLEAR_DONE (R59). -/
def execBankClearDone (quad : Quad) (s : State) : Out := ends (bankCleared quad.val s)

end Sys2Proof.Machine
end

