-- ==== Sys2Proof/Machine/ExecTime.lean ====
section
/-! DEFINITION. Machine/ExecTime.lean: the meanings of the events of gPTP, stitch bases, event keys and marks (R99-R129), and those of the Pattern's epochs, zones and fragments (R147-R162). -/

namespace Sys2Proof.Machine

/-- The Keeper's protocols run while the pair runs (R24, R105); a frame that reaches the module in DOZE is lost and wakes it (R392). -/
def atKeeper (act : State → State) (s : State) : State :=
  if s.pwr.state = .doze then leaveDoze s else if keeperRuns s ∧ mechanismsOn s then act s else s

/-- GPTP_SYNC_RECEIVED (R108). -/
def execGptpSyncReceived (inst : Fin 2) (gm : BitVec 64) (offset rateRatio : Int) (s : State) : Out :=
  ends (atKeeper (gptpSync inst.val gm offset rateRatio) s)

/-- SYNC_RECEIPT_TIMEOUT (R107). -/
def execSyncReceiptTimeout (at_ : Nat) (inst : Fin 2) (s : State) : Out := endsAt at_ (fun t => if keeperRuns t then syncTimeout inst.val t else t) s

/-- GRANDMASTER_SELECTION (R107, R108). -/
def execGrandmasterSelection (isSelf : Bool) (gm : BitVec 64) (s : State) : Out := ends (if keeperRuns s then gmSelect isSelf gm s else s)

/-- The stitch bases and keys run on the Beacon clock (R112, R392). -/
def atBeacon (act : State → State) (s : State) : State := if domainRuns 15 s then act s else s

/-- STITCH_EDGE (R112, R113). -/
def execStitchEdge (at_ : Nat) (base : Fin 4) (a b : Bool) (heldNs : Nat) (s : State) : Out := endsAt at_ (atBeacon (stitchEdge base.val a b heldNs)) s

/-- STANDSTILL_TIMEOUT (R115). -/
def execStandstillTimeout (at_ : Nat) (base : Fin 4) (s : State) : Out := endsAt at_ (atBeacon (standstill base.val)) s

/-- Firings of gates, CAN slots, threads and discretes that fall within DOZE are not performed; their occurrences are past (R392). -/
def keysPassOver (c : Nat) (s : State) : State := forEach (dueKeys c s) (fun k t => takeOccurrence k.1 k.2.1 k.2.2 t) s

/-- A key of a consumer comes due (R118, R392). -/
def keyDueNow (key : KeyRef) (s : State) : State :=
  match key with
  | .mark _ _ => keyFires (KeyRef.consumer key) (KeyRef.id key) s
  | _ => if s.pwr.state = .doze then keysPassOver (KeyRef.consumer key) s else keyFires (KeyRef.consumer key) (KeyRef.id key) s

/-- KEY_FIRE (R118, R123). -/
def execKeyFire (at_ : Nat) (key : KeyRef) (s : State) : Out := endsAt at_ (atBeacon (keyDueNow key)) s

/-- MARK_PULSE_END (R127). -/
def execMarkPulseEnd (at_ : Nat) (out : Fin 8) (s : State) : Out := endsAt at_ (atBeacon (markEnd out.val)) s

/-- EPOCH_FREE (R147). -/
def execEpochFree (s : State) : Out := ends (atCore freeEpoch s)

/-- ZONE_SWAP_RETRY (R162). -/
def execZoneSwapRetry (at_ : Nat) (s : State) : Out := endsAt at_ (fun t => if keeperRuns t then retryZones t else t) s

/-- A RESOLVED fragment entry is freed when its timer has run out (R151, R153). -/
def fragExpire (slot : Nat) (s : State) : State :=
  setFrags (s.pat.frags.filter (fun e => !(e.slot == slot && !e.early && decide (s.cyc ≥ e.since + s.pat.fragMs * msCyc)))) s

/-- FRAG_RESOLVED_EXPIRY (R153). -/
def execFragResolvedExpiry (at_ : Nat) (entry : Nat) (s : State) : Out := endsAt at_ (atCore (fragExpire entry)) s

/-- An EARLY entry that 2 ms have not resolved: its held fragments are dropped, each counted, and it is freed (R154). -/
def earlyExpire (slot : Nat) (s : State) : State :=
  match s.pat.frags.find? (fun e => e.slot == slot) with
  | none => s
  | some e =>
    if !e.early ∨ s.cyc < e.since + 2 * msCyc then s
    else forEach e.held (fun h t => bump .patFragEarlyDrop h.keyPort t) (setFrags (s.pat.frags.filter (fun x => x.slot != slot)) s)

/-- FRAG_EARLY_EXPIRY (R154). -/
def execFragEarlyExpiry (at_ : Nat) (entry : Nat) (s : State) : Out := endsAt at_ (atCore (earlyExpire entry)) s

end Sys2Proof.Machine
end

