-- ==== Sys2Proof/Machine/ExecEdge.lean ====
section
/-! DEFINITION. Machine/ExecEdge.lean: the meanings of the events of the edge gateway, the CAN and LIN channels and the ISO 11783 proxy (R170-R190, R243-R262). -/

namespace Sys2Proof.Machine

/-- The networks' sleeping CAN channel: nothing is received or sent there (R401). -/
def canAsleep (ch : Nat) (s : State) : Bool := asleepMember (fun x => x.hasCan ch) s

/-- The networks' sleeping LIN channel (R401). -/
def linAsleep (ch : Nat) (s : State) : Bool := asleepMember (fun x => x.hasLin ch) s

/-- GATEWAY_DELIVER (R171). -/
def execGatewayDeliver (s : State) : Out := ends (if edgeOn s then atCore gatewayDeliver s else s)

/-- CONTAINER_FLUSH (R178). -/
def execContainerFlush (at_ : Nat) (container : Fin 256) (s : State) : Out := endsAt at_ (fun t => if edgeOn t then flushContainer container.val t else t) s

/-- CAN_TX_TIMEOUT (R175). -/
def execCanTxTimeout (at_ : Nat) (ch : CanCh) (s : State) : Out := endsAt at_ (canTimeout ch.val) s

/-- A frame on a CAN channel: on a channel of a sleeping network it may wake it (R407); in DOZE its start of frame wakes the module (R392). -/
def frameOnCan (ch ago : Nat) (m : CanMsg) (s : State) : State :=
  if canAsleep ch s ∧ !(endsFrame ch ago s) then (if running s then sleepingCan ch m false s else s) else canReceive ch ago m (leaveDoze s)

/-- CAN_FRAME_RX: the frame ends `ago` BCN cycles after the sample point of its start-of-frame bit (R104, R248). -/
def execCanFrameRx (ch : PhysCh) (ago : Nat) (msg : CanMsg) (s : State) : Out := ends (frameOnCan ch.val ago msg s)

/-- CAN_BUS_IDLE (R249): in DOZE, and in a sleeping network, a channel sends nothing (R392, R401). -/
def execCanBusIdle (ch : PhysCh) (s : State) : Out := ends (if s.pwr.state = .doze ∨ canAsleep ch.val s then s else canIdle ch.val s)

/-- CAN_TX_COMPLETE (R249, R250). -/
def execCanTxComplete (ch : PhysCh) (result : TxResult) (s : State) : Out := ends (restAfterFrame ch.val (canTxEnd ch.val result s))

/-- A message with no content, for an error frame. -/
def noMsg : CanMsg := { format := .classicBase, rtr := false, brs := false, esi := false, ident := 0, dlc := 0, data := [] }

/-- An error on a CAN bus: on a channel of a sleeping network it counts towards its wake (R255, R407). -/
def errorOnCan (ch : Nat) (err : CanErr) (dataPhase transmitter : Bool) (s : State) : State :=
  if canAsleep ch s ∧ (getCan ch s).sending.isNone then (if running s then sleepingCan ch noMsg true s else s) else restAfterFrame ch (canError ch err dataPhase transmitter s)

/-- CAN_ERROR_DETECTED (R250, R251). -/
def execCanErrorDetected (ch : PhysCh) (err : CanErr) (dataPhase transmitter : Bool) (s : State) : Out :=
  ends (errorOnCan ch.val err dataPhase transmitter s)

/-- BUS_OFF_RECOVERY_DONE (R250). -/
def execBusOffRecoveryDone (ch : PhysCh) (s : State) : Out := ends (canRecovered ch.val s)

/-- BUS_INTEGRATION_DONE (R245, R247). -/
def execBusIntegrationDone (ch : PhysCh) (s : State) : Out := ends (setTransceiver ch.val (canIntegrated ch.val s))

/-- 50 µs after its transceiver went to normal, a controller may drive the bus (R247). -/
def transceiverReady (ch : Nat) (s : State) : State :=
  match (getCan ch s).waitUntil with
  | some t => if s.cyc ≥ t then setCan ch { getCan ch s with waitUntil := none } s else s
  | none => s

/-- TRANSCEIVER_WAKE_WAIT (R247). -/
def execTransceiverWakeWait (at_ : Nat) (ch : PhysCh) (s : State) : Out := endsAt at_ (transceiverReady ch.val) s

/-- RATE_DWELL_EXPIRY (R253). -/
def execRateDwellExpiry (at_ : Nat) (ch : PhysCh) (s : State) : Out := endsAt at_ (canDwell ch.val) s

/-- LIN_SCHEDULE_SLOT (R258): schedules rest in DOZE and in a sleeping network (R392, R401). -/
def execLinScheduleSlot (at_ : Nat) (ch : LinCh) (s : State) : Out :=
  endsAt at_ (fun t => if t.pwr.state = .doze ∨ linAsleep ch.val t then t else linSlot ch.val t) s

/-- A header on a LIN channel: its break wakes a sleeping network (R260, R407), and DOZE (R392). -/
def headerOnLin (ch bitrate : Nat) (pid : Byte) (readbackFail : Bool) (s : State) : State :=
  if linAsleep ch s then linWakeRx ch s else linHeader ch bitrate pid readbackFail (leaveDoze s)

/-- LIN_HEADER_RX (R259). -/
def execLinHeaderRx (ch : LinCh) (bitrate : Nat) (pid : Byte) (readbackFail : Bool) (s : State) : Out :=
  ends (headerOnLin ch.val bitrate pid readbackFail s)

/-- LIN_RESPONSE_RX (R183, R261). -/
def execLinResponseRx (ch : LinCh) (data : List Byte) (checksum : Byte) (badStop : Bool) (s : State) : Out :=
  ends (linSleepNow ch.val (linResponse ch.val data checksum badStop s))

/-- LIN_RESPONSE_TIMEOUT (R258). -/
def execLinResponseTimeout (at_ : Nat) (ch : LinCh) (got : Nat) (s : State) : Out := endsAt at_ (fun t => linSleepNow ch.val (linTimeout ch.val got t)) s

/-- LIN_WAKE_RX (R407). -/
def execLinWakeRx (ch : LinCh) (s : State) : Out := ends (linWakeRx ch.val s)

/-- A CAN message for the Keeper: on the standby it is relayed to the active module (R442, R443). -/
def keeperMessage (ch : Nat) (m : CanMsg) (act : State → State) (s : State) : State :=
  atKeeper (fun t => if standbyRule t ∧ t.twin.mode = 1 then relayRaw 1 ch (canPseudo ch ((canRecord ch t).getLsbD 124) m) t else act t) s

/-- ADDRESS_CLAIM_RX (R188). -/
def execAddressClaimRx (ch : CanCh) (msg : CanMsg) (s : State) : Out := ends (keeperMessage ch.val msg (addressClaim ch.val msg) s)

/-- ISO_NETWORK_MESSAGE (R186). -/
def execIsoNetworkMessage (ch : CanCh) (msg : CanMsg) (s : State) : Out := ends (keeperMessage ch.val msg (isoNetwork ch.val) s)

end Sys2Proof.Machine
end

