-- ==== Sys2Proof/Machine/ExecHost.lean ====
section
/-! DEFINITION. Machine/ExecHost.lean: the meanings of the commands at the module's command ports: the MSPI instructions (R320), the test port (R464), host register accesses (R346, R363-R375) and the Placket's own events (R339-R360). -/

namespace Sys2Proof.Machine

/-! MSPI -/

/-- An MSPI instruction wakes DOZE by its chip-select (R392); with the KEEP domain off, nothing answers (R472). -/
def atMspi (act : State → State) (s : State) : State := if mechanismsOn s then act (leaveDoze s) else s

/-- MSPI_WRITE (R320). -/
def execMspiWrite (bytes : List Byte) (s : State) : Out := ends (atMspi (writeMspi bytes) s)

/-- MSPI_STATUS (R320). -/
def execMspiStatus (s : State) : Out := ends (atMspi statusMspi s)

/-- MSPI_READ (R320). -/
def execMspiRead (s : State) : Out := ends (atMspi readMspi s)

/-! Test port -/

/-- The value of the IDCODE register: version 0xB, part 0x7140, the maker's identity, and 1 (R464). -/
def idcodeValue : Nat := 0xB * 2 ^ 28 + 0x7140 * 2 ^ 12 + Config.jedec.toNat * 2 + 1

/-- A data register of 32 bits shifted out, while the test port is powered (R464, R466). -/
def shiftOut (v : Nat) (s : State) : State := if mechanismsOn s then emit (.testData (natBytes 4 v)) s else s

/-- Whether the instruction with a code may be loaded, for the codes that R464 lists. -/
def irPermitted (code : Nat) (s : State) : Option Bool :=
  if code = 0 ∨ code = 3 ∨ code = 4 then some (pinsPermitted s)
  else if code = 1 ∨ code = 2 ∨ code = 0x10 ∨ code = 0xFF then some true
  else if code = 0x11 then some (decide (lcState s ≠ 0))
  else if code = 0x12 then some (debugOpen s)
  else if 0x20 ≤ code ∧ code ≤ 0x2F then some (decide (lcState s = 0))
  else none

/-- A code loaded at Update-IR: one that R464 does not list loads as BYPASS and is not counted. -/
def loadCode (code : Nat) (s : State) : State :=
  match irPermitted code s with
  | some ok => loadIr (BitVec.ofNat 8 code) ok s
  | none => loadIr 0xFF true s

/-- EXTEST (R464, R465). -/
def execExtest (s : State) : Out := ends (loadCode 0x00 s)

/-- IDCODE: its register is selected and shifted out (R464). -/
def execIdcode (s : State) : Out := ends (shiftOut idcodeValue (loadCode 0x01 s))

/-- SAMPLE/PRELOAD (R464). -/
def execSamplePreload (s : State) : Out := ends (loadCode 0x02 s)

/-- CLAMP (R464, R465). -/
def execClamp (s : State) : Out := ends (loadCode 0x03 s)

/-- HIGHZ (R464, R465). -/
def execHighz (s : State) : Out := ends (loadCode 0x04 s)

/-- DBG_STATUS: its register is selected and shifted out (R464, R466). -/
def execDbgStatus (s : State) : Out := ends (shiftOut (dbgStatus s) (loadCode 0x10 s))

/-- DBG_LOCK: an Authenticated-open state returns to Closed (R461, R464). -/
def execDbgLock (s : State) : Out := ends (debugLock s)

/-- DBG_ACCESS (R431, R464). -/
def execDbgAccess (s : State) : Out := ends (loadCode 0x12 s)

/-- FACTORY 0x20-0x2F: in BLANK alone (R464). -/
def execFactory (code : Fin 16) (s : State) : Out := ends (loadCode (0x20 + code.val) s)

/-- BYPASS, and any other code loaded as it (R464). -/
def execBypass (code : Byte) (s : State) : Out := ends (loadCode code.toNat s)

/-- DEBUG_ACTION: a debugger action under DBG_ACCESS (R431). -/
def execDebugAction (a : DebugAct) (s : State) : Out := ends (debugAct a s)

/-- TEST_LOGIC_RESET: the test port alone is reset, which selects IDCODE as IEEE 1149.1 states (R475). -/
def execTestLogicReset (s : State) : Out := ends (loadIr 0x01 true s)

/-! Host registers -/

/-- A host access meets the Placket while its domain is powered (R341, R363). -/
def atHost (act : State → State) (s : State) : State := if domainRuns 14 s then act s else s

/-- PLK_POLL_PERIOD_WRITE (R356, R366). -/
def execPlkPollPeriodWrite (v : BitVec 32) (s : State) : Out := ends (atHost (writePeriod v) s)

/-- PLK_INT_CAUSE_CLEAR (R367). -/
def execPlkIntCauseClear (v : BitVec 32) (s : State) : Out := ends (atHost (clearCauses v) s)

/-- PLK_INT_ENABLE_WRITE (R367). -/
def execPlkIntEnableWrite (v : BitVec 32) (s : State) : Out := ends (atHost (writeEnable v) s)

/-- PWR_DOMAIN_STOPPED_CLEAR (R368). -/
def execPwrDomainStoppedClear (v : BitVec 32) (s : State) : Out := ends (atHost (clearStopped v) s)

/-- PLK_MB_CMD_PROD: the doorbell of a command ring, which also wakes DOZE (R350, R392). -/
def execPlkMbCmdProd (pair : Fin 4) (v : BitVec 32) (s : State) : Out :=
  ends (atHost (fun t => ringDoorbell pair.val v (leaveDoze t)) s)

/-- PLK_MB_CPL_CONS (R350). -/
def execPlkMbCplCons (pair : Fin 4) (v : BitVec 32) (s : State) : Out := ends (atHost (advanceCplCons pair.val v) s)

/-- PLK_ERRLOG_READ (R370). -/
def execPlkErrlogRead (v : BitVec 32) (s : State) : Out := ends (atHost (advanceErrRead v) s)

/-- PLK_ERRLOG_OVERFLOW: the read returns the count and clears it (R348, R370). -/
def execPlkErrlogOverflow (s : State) : Out := ends (atHost readErrOverflow s)

/-- WINDOW_STAGE_WRITE (R372). -/
def execWindowStageWrite (win : Fin 16) (word : Fin 3) (v : BitVec 32) (s : State) : Out := ends (atHost (stageWindow win.val word.val v) s)

/-- WINDOW_COMMIT (R342, R372). -/
def execWindowCommit (win : Fin 16) (v : BitVec 32) (s : State) : Out := ends (atHost (commitWindow win.val v) s)

/-- WINDOW_DISABLE: the word-3 write that clears ENABLE alone (R342, R343, R372). -/
def execWindowDisable (win : Fin 16) (v : BitVec 32) (s : State) : Out := ends (atHost (commitWindow win.val v) s)

/-- RING_RUN (R354, R373). -/
def execRingRun (ring : Fin 16) (v : BitVec 32) (s : State) : Out := ends (atHost (writeRingCtrl ring.val v) s)

/-- RING_STOP (R354, R373). -/
def execRingStop (ring : Fin 16) (v : BitVec 32) (s : State) : Out := ends (atHost (writeRingCtrl ring.val v) s)

/-- RING_SIZE_SET (R373). -/
def execRingSizeSet (ring : Fin 16) (v : BitVec 32) (s : State) : Out := ends (atHost (writeRingCtrl ring.val v) s)

/-- PLK_RING_PROD (R373). -/
def execPlkRingProd (ring : Fin 16) (v : BitVec 32) (s : State) : Out := ends (atHost (writeRingProd ring.val v) s)

/-- Whether a host write rings a mailbox doorbell (R364). -/
def isDoorbell (bar : Bar) (off : Nat) : Bool := bar == .bar0 && decide (0x100 ≤ off ∧ off < 0x140 ∧ off % 16 = 0)

/-- HOST_REGISTER_WRITE: any host write to BAR0 or BAR2 (R338, R346, R349, R351). -/
def execHostRegisterWrite (bar : Bar) (offset : Nat) (bytes : List (Byte × Bool)) (s : State) : Out :=
  ends (atHost (fun t => hostWrite bar offset bytes (if isDoorbell bar offset then leaveDoze t else t)) s)

/-! Placket -/

/-- The copies of other domains' state that host registers show, as a poll refreshes them (R363, R365, R368). -/
def hostCopies (s : State) : HostCopies :=
  { lc := lcState s, safe := s.lamp.safe, role := twinRole s, booted := s.boot.booted, bank := decide (s.boot.bank = 1),
    bootCount := s.boot.count, powered := s.pwr.powered }

/-- A poll: doorbells are handed over, causes sampled, copies refreshed and a new period taken; the Keeper serves what it was handed (R351, R356, R363). -/
def pollNow (s : State) : State :=
  if !(domainRuns 14 s) ∨ s.cyc < s.plk.pollAt then s
  else
    let s1 := pollCauses (handRings (if domainStuck 1 s then s else handMailbox s))
    let p := s1.plk.nextPeriod
    serveRings 64 (setPlk { s1.plk with period := p, pollAt := s1.cyc + p * usCyc, copies := hostCopies s1 } s1)

/-- REPLY_WRITE: the oldest reply that waits for a completion ring is written once the ring has room (R351), and the command rings are served again (R322). -/
def execReplyWrite (pair : Fin 4) (s : State) : Out := ends (serveRings 64 (writeReply pair.val s))

/-- PLACKET_POLL (R356). -/
def execPlacketPoll (at_ : Nat) (s : State) : Out := endsAt at_ pollNow s

/-- DMA_TX_DESCRIPTOR (R354). -/
def execDmaTxDescriptor (ring : Fin 8) (s : State) : Out := ends (atHost (takeTxDesc ring.val) s)

/-- DMA_RX_DESCRIPTOR (R354): the head frame of a queue of port 31 is read while the core runs. -/
def execDmaRxDescriptor (ring : Fin 8) (s : State) : Out := ends (if coreRuns s then atHost (takeRxDesc ring.val) s else s)

/-- PCIE_COMPLETION (R340). -/
def execPcieCompletion (tag : Nat) (status : CplStatus) (data : List Byte) (s : State) : Out := ends (atHost (completion tag status data) s)

/-- CPL_TIMEOUT (R340). -/
def execCplTimeout (at_ : Nat) (tag : Nat) (s : State) : Out := endsAt at_ (atHost (cplExpire tag)) s

/-- FC_STALL (R347): the receive ring's write has had no posted credit for 1 ms. -/
def execFcStall (at_ : Nat) (ring : Fin 16) (s : State) : Out := endsAt at_ (atHost (stallWrite ring.val)) s

/-- PCIE_LINK_STATE_CHANGE (R347). -/
def execPcieLinkStateChange (state : PcieLink) (s : State) : Out := ends (linkState state s)

/-- PCIE_CONFIG_WRITE (R340, R346). -/
def execPcieConfigWrite (cfg : PcieCfg) (s : State) : Out := ends (atHost (configWrite cfg) s)

/-- PCIE_FUNDAMENTAL_RESET: PERST# or a hot reset (R360, R475). -/
def execPcieFundamentalReset (s : State) : Out := ends (atHost resetPlacket s)

/-- FUNCTION_LEVEL_RESET (R352, R360). -/
def execFunctionLevelReset (s : State) : Out := ends (atHost functionReset s)

end Sys2Proof.Machine
end

