-- ==== Sys2Proof/Machine/ExecPort.lean ====
section
/-! DEFINITION. Machine/ExecPort.lean: the meanings of the events of the Ethernet ports and their partners (R227-R242), of keys, the Bodkin and the Yelom service (R263-R336). -/

namespace Sys2Proof.Machine

/-! Ports and partners -/

/-- LINK_UP (R229, R231-R233, R237): a port of a sleeping network stays down (R401). -/
def execLinkUp (port : ExtPort) (mode : Fin 8) (role : Fin 4) (fast : Bool) (s : State) : Out :=
  ends (if asleepMember (fun x => x.hasPort port.val) s then s else linkComesUp port.val mode.val role.val fast s)

/-- A link goes down: on T0 that is also the loss of the twin link (R439, R453). -/
def linkGoesDown (p : Nat) (s : State) : State := if p = 26 ∧ (getPort p s).up then twinLinkLost (portDown p s) else portDown p s

/-- LINK_DOWN (R62, R237). -/
def execLinkDown (port : ExtPort) (s : State) : Out := ends (linkGoesDown port.val s)

/-- TRAINING_FAIL (R230). -/
def execTrainingFail (port : ExtPort) (s : State) : Out := ends (trainingFails port.val s)

/-- PHY_POWER_GOOD (R233). -/
def execPhyPowerGood (port : ExtPort) (s : State) : Out := ends (phyPowerGood port.val s)

/-- FASTLINK_FALLBACK (R233). -/
def execFastlinkFallback (at_ : Nat) (port : ExtPort) (s : State) : Out := endsAt at_ (fastFallback port.val) s

/-- A frame for the Keeper on a port: in DOZE it is counted at that port as it is lost (R392). -/
def frameForKeeper (p : Nat) (act : State → State) (s : State) : State :=
  if s.pwr.state = .doze then frameInDoze p .good s else atKeeper act s

/-- LLDP_RX (R238, R239). -/
def execLldpRx (port : ExtPort) (pdu : List Byte) (s : State) : Out := ends (frameForKeeper port.val (lldpReceive port.val pdu) s)

/-- What the Keeper does at a time, while it runs and the module is not in DOZE (R24, R392). -/
def keeperAt (t : Nat) (act : State → State) (s : State) : Out :=
  endsAt t (fun x => if keeperRuns x ∧ x.pwr.state ≠ .doze then act x else x) s

/-- LLDP_TX (R238). -/
def execLldpTx (at_ : Nat) (port : ExtPort) (s : State) : Out := keeperAt at_ (lldpSend port.val) s

/-- LLDP_TTL_EXPIRY (R239). -/
def execLldpTtlExpiry (at_ : Nat) (port : ExtPort) (s : State) : Out := keeperAt at_ (lldpTtlExpire port.val) s

/-- LLDP_WAIT_EXPIRY (R239). -/
def execLldpWaitExpiry (at_ : Nat) (port : ExtPort) (s : State) : Out := keeperAt at_ (lldpWaitExpire port.val) s

/-- ABSENT_HOLD_EXPIRY (R239). -/
def execAbsentHoldExpiry (at_ : Nat) (port : ExtPort) (s : State) : Out := keeperAt at_ (absentHoldExpire port.val) s

/-! Keys and the Bodkin -/

/-- KEY_FETCH (R266, R269). -/
def execKeyFetch (slot : Fin 64) (gen : BitVec 32) (master : Master) (world : World) (use : KeyUse) (s : State) : Out :=
  ends (if mechanismsOn s then keyFetch slot.val gen.toNat master world use s else s)

/-- RNG_HEALTH_FAIL (R267). -/
def execRngHealthFail (s : State) : Out := ends (if mechanismsOn s then rngFail s else s)

/-- LC_NONCE_EXPIRY (R279). -/
def execLcNonceExpiry (at_ : Nat) (s : State) : Out := endsAt at_ lcNonceExpire s

/-- DEBUG_NONCE_EXPIRY (R462). -/
def execDebugNonceExpiry (at_ : Nat) (s : State) : Out := endsAt at_ debugNonceExpire s

/-- BODKIN_PIPELINE_ENTER (R286). -/
def execBodkinPipelineEnter (s : State) : Out := ends (if domainRuns 7 s then atCore pipelineEnter s else s)

/-- BODKIN_PIPELINE_EXIT (R287). -/
def execBodkinPipelineExit (pipe : Fin 4) (s : State) : Out := ends (if domainRuns 7 s then atCore (pipelineExit pipe.val) s else s)

/-- KEEPER_CRYPTO_REQUEST (R302). -/
def execKeeperCryptoRequest (req : CryptoReq) (s : State) : Out := ends (if keeperRuns s then keeperCrypto req s else s)

/-- A command that the Keeper gives itself, with the effect of its opcode; whether it was carried out (R292). -/
def keeperCommand (cls opcode : Nat) (m : Msg) (s : State) : Bool × State :=
  match cmdOf cls opcode with
  | none => (false, s)
  | some c =>
    let p := paramsOf m
    if !(c.len p) ∨ !(allowed c p s) then (false, s)
    else
      let r := runCmd c m.via p s
      if r.status = .ok then (true, if pairActive r.st then setTwin { r.st.twin with changed := r.st.twin.changed ++ streamOf c p r.reply } r.st else r.st)
      else (false, r.st)

/-- The SA writes of an MKA exchange, in order. -/
def installSas (ws : List Msg) (s : State) : State := forEach ws (fun w t => (keeperCommand 10 3 w t).2) s

/-- An MKA frame's outcome: a SAK reaches its slot by import, and SA entries are written; without the SAK none is (R292, R295). -/
def mkaOutcome (sak : Option Msg) (ws : List Msg) (s : State) : State :=
  match sak with
  | none => installSas ws s
  | some k =>
    let r := keeperCommand 9 1 k s
    if r.1 then installSas ws r.2 else r.2

/-- MKA_PDU_RX (R292). -/
def execMkaPduRx (port : ExtPort) (sak : Option Msg) (saWrites : List Msg) (s : State) : Out :=
  ends (frameForKeeper port.val (mkaOutcome sak saWrites) s)

/-! The Yelom service -/

/-- CMD_LOCKOUT_END (R318). -/
def execCmdLockoutEnd (at_ : Nat) (tr : Transport) (s : State) : Out := endsAt at_ (lockoutEnd tr) s

/-- MUTATOR_TIMEOUT (R324). -/
def execMutatorTimeout (at_ : Nat) (s : State) : Out := endsAt at_ mutatorTimeout s

end Sys2Proof.Machine
end

