-- ==== Sys2Proof/Machine/ExecPower.lean ====
section
/-! DEFINITION. Machine/ExecPower.lean: the meanings of the events of clocks, power domains, networks and wake sources (R376-R412), and of the safety mechanisms (R413-R433). -/

namespace Sys2Proof.Machine

/-! Clocks and domains -/

/-- PLL_LOCK (R377). -/
def execPllLock (dom : Domain) (s : State) : Out := ends (pllLocks dom.val s)

/-- CLOCK_FAULT (R378). -/
def execClockFault (clock : Fin 8) (s : State) : Out := ends (clockFails clock.val s)

/-- REF32_TIMEOUT: the 32.768 kHz reference has shown no edge for 100 µs (R378). -/
def execRef32Timeout (at_ : Nat) (s : State) : Out := endsAt at_ (clockFails 1) s

/-- INITIATOR_TIMEOUT (R341, R384). -/
def execInitiatorTimeout (at_ : Nat) (placket : Bool) (dom : Domain) (s : State) : Out := endsAt at_ (initiatorTimeout placket dom.val) s

/-- RESYNC_COMPLETE (R386). -/
def execResyncComplete (dom : Domain) (discarded lostPulses : Nat) (s : State) : Out := ends (resyncDone dom.val discarded lostPulses s)

/-- DOMAIN_SWITCHED (R391, R403). -/
def execDomainSwitched (dom : Domain) (s : State) : Out := ends (switched dom.val s)

/-- DOZE_WAKE: a frame that wakes the module is lost and counted (R392). -/
def execDozeWake (source : DozeWake) (s : State) : Out :=
  ends (if s.pwr.state = .doze then (match source with
    | .frame p => frameInDoze p.val .good s
    | _ => leaveDoze s) else s)

/-! Networks -/

/-- NM_SLEEP_WAIT_EXPIRY (R398). -/
def execNmSleepWaitExpiry (at_ : Nat) (net : Fin 16) (s : State) : Out := endsAt at_ (sleepExpire net.val) s

/-- NM_FALSE_WAKE_EXPIRY (R398). -/
def execNmFalseWakeExpiry (at_ : Nat) (net : Fin 16) (s : State) : Out := endsAt at_ (falseWakeExpire net.val) s

/-- A standby module reads its KA_RULE counters too, and tells the active one which rose (R443, R445). -/
def standbyKa (s : State) : State :=
  if s.cyc < s.pwr.kaPollAt then s
  else
    let rose (n : Nat) : Bool := (getNet n s).enabled && decide (kaCount (getNet n s) s > (getNet n s).kaSeen)
    let mask : BitVec 16 := (List.range 16).foldl (fun m n => if rose n then m ||| BitVec.twoPow 16 n else m) 0
    let s1 := forUpTo 16 (fun n t => setNet n { getNet n t with kaSeen := kaCount (getNet n t) t } t) s
    statusTx mask (setPwr { s1.pwr with kaPollAt := s.cyc + 10 * msCyc } s1)

/-- NM_KA_POLL (R395). -/
def execNmKaPoll (at_ : Nat) (s : State) : Out :=
  endsAt at_ (fun t => if twinRuns t ∧ t.twin.st.standing then standbyKa t else kaPoll t) s

/-- NM_KEEPALIVE_TX (R395). -/
def execNmKeepaliveTx (at_ : Nat) (net : Fin 16) (s : State) : Out := endsAt at_ (kaSend net.val) s

/-- NM_KEEP_ALIVE_RX (R395, R396). -/
def execNmKeepAliveRx (ch : CanCh) (msg : CanMsg) (s : State) : Out := ends (keeperMessage ch.val msg (keepAliveRx ch.val msg) s)

/-- NM_READY_TO_SLEEP_RX (R396). -/
def execNmReadyToSleepRx (ch : CanCh) (msg : CanMsg) (s : State) : Out := ends (keeperMessage ch.val msg (readyToSleepRx ch.val msg) s)

/-- NM_CONSENT_RX (R399). -/
def execNmConsentRx (ch : CanCh) (msg : CanMsg) (s : State) : Out := ends (keeperMessage ch.val msg (consentRx ch.val msg) s)

/-- NM_REFUSE_RX (R399). -/
def execNmRefuseRx (ch : CanCh) (msg : CanMsg) (s : State) : Out := ends (keeperMessage ch.val msg (refuseRx ch.val msg) s)

/-- A TC10 event at a port of a standby module is relayed to the active one, and an acknowledge puts the port to sleep (R399, R443, R445). -/
def tc10Event (kind p : Nat) (act : State → State) (s : State) : State :=
  if twinRuns s ∧ s.twin.st.standing then
    relayTc10 kind p (if kind = 2 then portDown p (setPwr { s.pwr with asleepPorts := s.pwr.asleepPorts ||| BitVec.twoPow 27 p } s) else s)
  else act s

/-- TC10_SLEEP_ACK (R399). -/
def execTc10SleepAck (port : ExtPort) (s : State) : Out := ends (tc10Event 2 port.val (sleepAck port.val) s)

/-- NM_CONSENT_TIMEOUT (R399, R400). -/
def execNmConsentTimeout (at_ : Nat) (net : Fin 16) (s : State) : Out := endsAt at_ (consentTimeout net.val) s

/-- TC10_WAKE_RX (R407). -/
def execTc10WakeRx (port : ExtPort) (s : State) : Out := ends (tc10Event 3 port.val (tc10WakeRx port.val) s)

/-! Wake sources -/

/-- WAKE_PIN (R392, R395, R404, R407, R475). -/
def execWakePin (pin : Fin 2) (s : State) : Out := ends (wakePinEdge pin.val s)

/-- WAKE_PIN_RELEASE (R395). -/
def execWakePinRelease (pin : Fin 2) (s : State) : Out := ends (wakePinOff pin.val s)

/-- SELECTIVE_WAKE_FRAME (R255). -/
def execSelectiveWakeFrame (ch : PhysCh) (msg : CanMsg) (error : Bool) (s : State) : Out := ends (selectiveFrame ch.val msg error s)

/-- WUP_PATTERN (R255). -/
def execWupPattern (ch : PhysCh) (s : State) : Out := ends (wupWake ch.val s)

/-- STANDBY_RXD_WAKE (R255). -/
def execStandbyRxdWake (ch : PhysCh) (s : State) : Out := ends (standbyWake ch.val s)

/-- LIN_DEEP_WAKE (R260). -/
def execLinDeepWake (ch : LinCh) (s : State) : Out := ends (linWake ch.val s)

/-- A TC10 wake-up request on a T1 port that is a member of an enabled network (R404). -/
def tc10Deep (p : Nat) (s : State) : State :=
  if isT1 p ∧ (netOf (fun x => x.hasPort p) s).isSome then registerWake { channel := p, cause := 8 } s else s

/-- TC10_DEEP_WAKE (R404). -/
def execTc10DeepWake (port : ExtPort) (s : State) : Out := ends (tc10Deep port.val s)

/-- WAKE_OSC_STOP (R254). -/
def execWakeOscStop (at_ : Nat) (s : State) : Out := endsAt at_ oscStop s

/-- DEEP_WAKE_SEQUENCE (R405-R407). -/
def execDeepWakeSequence (at_ : Nat) (s : State) : Out := endsAt at_ deepWake s

/-! Safety mechanisms -/

/-- LOCKSTEP_MISMATCH (R420, R423). -/
def execLockstepMismatch (s : State) : Out := ends (keeperFault 1 s)

/-- COMPARATOR_FAULT (R420, R425). -/
def execComparatorFault (s : State) : Out := ends (keeperFault 2 s)

/-- DELAY_PARITY_ERROR (R420, R426). -/
def execDelayParityError (s : State) : Out := ends (keeperFault 3 s)

/-- INPUT_DISAGREEMENT (R420, R424). -/
def execInputDisagreement (s : State) : Out := ends (keeperFault 4 s)

/-- TCM_ECC_ERROR (R420). -/
def execTcmEccError (double : Bool) (s : State) : Out := ends (tcmEcc double s)

/-- MEMORY_SCRUB (R420, R422). -/
def execMemoryScrub (at_ : Nat) (tcm tables : Ecc) (s : State) : Out := endsAt at_ (scrub tcm tables) s

/-- TABLE_ECC_ERROR (R420). -/
def execTableEccError (s : State) : Out := ends (blockFault 0x0C 0 s)

/-- WATCHDOG_SERVICE (R429). -/
def execWatchdogService (management : Bool) (s : State) : Out := ends (watchdogService management s)

/-- WATCHDOG_EXPIRY (R429). -/
def execWatchdogExpiry (at_ : Nat) (s : State) : Out := endsAt at_ watchdogExpire s

/-- RAIL_FAULT (R420). -/
def execRailFault (dom : Domain) (s : State) : Out := ends (railFault dom.val s)

/-- TEMPERATURE_THRESHOLD (R420). -/
def execTemperatureThreshold (sensor : Fin 4) (celsius : Int) (s : State) : Out := ends (temperature sensor.val celsius s)

/-- GATE_OUTPUT_MISMATCH (R420). -/
def execGateOutputMismatch (port : ExtPort) (s : State) : Out := ends (coreCheck 0x0A port.val s)

/-- TIME_COPY_MISMATCH (R420). -/
def execTimeCopyMismatch (s : State) : Out := ends (coreCheck 0x0B 0 s)

/-- GATE_TOKEN_TIMEOUT (R430). -/
def execGateTokenTimeout (s : State) : Out := ends (tokenTimeout s)

/-- LAMP_HEARTBEAT_MISSING (R430). -/
def execLampHeartbeatMissing (at_ : Nat) (s : State) : Out := endsAt at_ (blockFault 0x0F 0) s

/-- LAMP_SELF_CHECK_FAULT (R430). -/
def execLampSelfCheckFault (s : State) : Out := ends (blockFault 0x0F 0 s)

/-- FAULT_N_READBACK_FAIL (R420). -/
def execFaultNReadbackFail (s : State) : Out := ends (blockFault 0x10 0 s)

/-- KEEPER_SELF_TEST_DONE (R428, R481). -/
def execKeeperSelfTestDone (pass : Bool) (s : State) : Out := ends (keeperTested pass s)

end Sys2Proof.Machine
end

