-- ==== Sys2Proof/Machine/ExecSched.lean ====
section
/-! DEFINITION. Machine/ExecSched.lean: the meanings of the time-driven events of gate lists, stream gates and FRER (R74-R98). -/

namespace Sys2Proof.Machine

/-- GATE_ENTRY_START (R74). -/
def execGateEntryStart (at_ : Nat) (port : ExtPort) (s : State) : Out := endsAt at_ (atCore (refreshGates port.val)) s

/-- GATE_CYCLE_START (R74). -/
def execGateCycleStart (at_ : Nat) (port : ExtPort) (s : State) : Out := endsAt at_ (atCore (refreshGates port.val)) s

/-- The list that waits for CT is taken once Beacon time has reached CT (R79). -/
def takeDueList (p : Nat) (s : State) : State :=
  match (getGates p s).pend with
  | some c => if Int.ofNat (nowNs s) ≥ c then takeList p s else s
  | none => s

/-- GCL_CT_REACHED (R79). -/
def execGclCtReached (at_ : Nat) (port : ExtPort) (s : State) : Out := endsAt at_ (atCore (takeDueList port.val)) s

/-- STITCH_OVERRIDE_END (R76). -/
def execStitchOverrideEnd (at_ : Nat) (port : ExtPort) (s : State) : Out := endsAt at_ (atCore (overrideEnd port.val)) s

/-- SGATE_ENTRY_START (R91). -/
def execSgateEntryStart (at_ : Nat) (gate : Fin 256) (s : State) : Out := endsAt at_ (atCore (refreshSGate gate.val)) s

/-- No frame has passed a recovery function for its reset time: it returns to take-any (R96). -/
def recovReset (fn : Nat) (s : State) : State :=
  let r := getRecov fn s
  if r.present ∧ !r.takeAny ∧ s.cyc ≥ r.passedAt + r.resetMs * msCyc then bump .seamFrerReset fn (setRecov fn { r with takeAny := true } s) else s

/-- FRER_RESET_TIMEOUT (R96). -/
def execFrerResetTimeout (at_ : Nat) (fn : Fin 2048) (s : State) : Out := endsAt at_ (atCore (recovReset fn.val)) s

/-- The latent error test at the end of a period: |passed × (paths − 1) − discarded| above the difference is a latent error (R97). -/
def latentTest (fn : Nat) (s : State) : State :=
  let r := getRecov fn s
  if !r.present ∨ s.cyc < r.testAt + r.testMs * msCyc then s
  else
    let d : Int := Int.ofNat r.passed * (Int.ofNat r.paths - 1) - Int.ofNat r.discarded
    let s1 := setRecov fn { r with testAt := s.cyc } s
    if d.natAbs > r.diff then raiseEv .frerLatent fn [] (bump .seamFrerLatent fn s1) else s1

/-- FRER_LATENT_TEST (R97). -/
def execFrerLatentTest (at_ : Nat) (fn : Fin 2048) (s : State) : Out := endsAt at_ (atCore (latentTest fn.val)) s

/-- The latent error counts restart at the end of a reset period (R97). -/
def latentReset (fn : Nat) (s : State) : State :=
  let r := getRecov fn s
  if !r.present ∨ s.cyc < r.latResetAt + r.latResetMs * msCyc then s
  else setRecov fn { r with passed := 0, discarded := 0, latResetAt := s.cyc } s

/-- FRER_LATENT_RESET (R97). -/
def execFrerLatentReset (at_ : Nat) (fn : Fin 2048) (s : State) : Out := endsAt at_ (atCore (latentReset fn.val)) s

end Sys2Proof.Machine
end

