-- ==== Sys2Proof/Machine/ExecSel.lean ====
section
/-! DEFINITION. Machine/ExecSel.lean: the meanings of the events of the Selvage hitch links (R191-R226). -/

namespace Sys2Proof.Machine

/-- The Selvage links run while the SEL domain is powered (R391). -/
def atSel (act : State → State) (s : State) : State := if domainRuns 12 s then act s else s

/-- SEL_SUPERFRAME_TX (R195). -/
def execSelSuperframeTx (link : SelLink) (s : State) : Out := ends (atSel (superframeTx link.val) s)

/-- SEL_SIGHTING (R196). -/
def execSelSighting (link : SelLink) (pos : Nat) (hdr : List Byte) (s : State) : Out := ends (atSel (selSighting link.val pos hdr) s)

/-- SEL_CANDIDATE_CHECK (R197). -/
def execSelCandidateCheck (link : SelLink) (pos : Nat) (hdr : List Byte) (s : State) : Out := ends (atSel (selCheck link.val pos hdr) s)

/-- SEL_HEADER_RX (R198). -/
def execSelHeaderRx (link : SelLink) (hdr : List Byte) (s : State) : Out := ends (atSel (selHeader link.val hdr) s)

/-- SEL_BLOCK_LOCK_LOSS (R198). -/
def execSelBlockLockLoss (link : SelLink) (s : State) : Out := ends (atSel (lockLost link.val) s)

/-- SEL_BLOCK_LOCK_ACQUIRED (R198). -/
def execSelBlockLockAcquired (link : SelLink) (s : State) : Out := ends (atSel (lockGained link.val) s)

/-- SEL_THREAD_BLOCK_RX (R200). -/
def execSelThreadBlockRx (link : SelLink) (thread : Fin 9) (block : List Byte) (s : State) : Out :=
  ends (atSel (threadBlockRx (fun ch m t => if running t then sleepingCan ch m false t else t) link.val thread.val block) s)

/-- SEL_THREAD_IDLE (R203). -/
def execSelThreadIdle (link : SelLink) (thread : Fin 9) (s : State) : Out := ends (atSel (threadIdle link.val thread.val) s)

/-- SEL_DISC_BLOCK_RX (R205). -/
def execSelDiscBlockRx (link : SelLink) (block : List Byte) (s : State) : Out := ends (atSel (discRx link.val block) s)

/-- SDCC_BURST (R210). -/
def execSdccBurst (link : SelLink) (dccB : Bool) (dataIn : Byte) (validIn : Bool) (s : State) : Out :=
  ends (atSel (sdccBurst link.val dccB dataIn validIn) s)

/-- SEL_LOS_SET (R213). -/
def execSelLosSet (at_ : Nat) (link : SelLink) (s : State) : Out := endsAt at_ (atSel (losSet link.val)) s

/-- SEL_LOS_CLEAR (R213). -/
def execSelLosClear (at_ : Nat) (link : SelLink) (s : State) : Out := endsAt at_ (atSel (losClear link.val)) s

/-- SEL_PLUG_IN (R215). -/
def execSelPlugIn (at_ : Nat) (link : SelLink) (s : State) : Out := endsAt at_ (atSel (plugIn link.val)) s

/-- SEL_RATE_DWELL_END (R215). -/
def execSelRateDwellEnd (at_ : Nat) (link : SelLink) (s : State) : Out := endsAt at_ (atSel (dwellEnd link.val)) s

/-- SEL_QUALIFY_END (R216). -/
def execSelQualifyEnd (at_ : Nat) (link : SelLink) (badSync : Nat) (s : State) : Out := endsAt at_ (atSel (qualifyEnd link.val badSync)) s

/-- SEL_QUAL_RDI_END (R212). -/
def execSelQualRdiEnd (at_ : Nat) (link : SelLink) (s : State) : Out := endsAt at_ (atSel (qualRdiEnd link.val)) s

/-- SEL_IDENT_RX (R218, R219). -/
def execSelIdentRx (link : SelLink) (body : List Byte) (s : State) : Out := ends (atSel (identRx link.val 0 body) s)

/-- SEL_IDENT_ACK_RX (R219). -/
def execSelIdentAckRx (link : SelLink) (s : State) : Out := ends (atSel (identAckRx link.val) s)

/-- SEL_IDENT_RESEND (R219). -/
def execSelIdentResend (at_ : Nat) (link : SelLink) (s : State) : Out := endsAt at_ (atSel (identResend link.val)) s

/-- SEL_IDENT_TIMEOUT (R219). -/
def execSelIdentTimeout (at_ : Nat) (link : SelLink) (s : State) : Out := endsAt at_ (atSel (phaseTimeout link.val .ident)) s

/-- SEL_MAP_SET_RX (R220). -/
def execSelMapSetRx (link : SelLink) (body : List Byte) (s : State) : Out := ends (atSel (mapSetRx link.val 0 body) s)

/-- SEL_MAP_ACK_RX (R220). -/
def execSelMapAckRx (link : SelLink) (body : List Byte) (s : State) : Out := ends (atSel (mapAckRx link.val 0 body) s)

/-- SEL_MAP_SET_RESEND (R220). -/
def execSelMapSetResend (at_ : Nat) (link : SelLink) (s : State) : Out := endsAt at_ (atSel (mapSetResend link.val)) s

/-- SEL_SFN_SWITCH (R220). -/
def execSelSfnSwitch (link : SelLink) (s : State) : Out := ends (atSel (sfnSwitch link.val) s)

/-- SEL_MAP_REVERT (R220). -/
def execSelMapRevert (link : SelLink) (s : State) : Out := ends (atSel (mapRevert link.val) s)

/-- SEL_MAP_TIMEOUT (R220). -/
def execSelMapTimeout (at_ : Nat) (link : SelLink) (s : State) : Out := endsAt at_ (atSel (phaseTimeout link.val .map)) s

/-- SEL_UNHITCH_RX: a received UNHITCH declares an unhitch (R223). -/
def execSelUnhitchRx (link : SelLink) (s : State) : Out :=
  ends (atSel (fun t => if (getLink link.val t).enabled then unhitchOnce link.val t else t) s)

/-- SEL_UNPLUG_TIMEOUT (R223). -/
def execSelUnplugTimeout (at_ : Nat) (link : SelLink) (s : State) : Out := endsAt at_ (atSel (unplugTimeout link.val)) s

end Sys2Proof.Machine
end

