-- ==== Sys2Proof/Machine/ExecTwin.lean ====
section
/-! DEFINITION. Machine/ExecTwin.lean: the meanings of the events of twin-light redundancy (R434-R459), resets, boot, update and supply (R475-R508). -/

namespace Sys2Proof.Machine

/-! Twin frames and timers -/

/-- A twin frame reaches the Keeper over T0; in DOZE it is lost as any frame is (R392, R444). -/
def fromTwin (act : State → State) (s : State) : State := frameForKeeper 26 act s

/-- TWIN_HELLO_TX (R445). -/
def execTwinHelloTx (at_ : Nat) (s : State) : Out := endsAt at_ helloTx s

/-- TWIN_HELLO_RX (R441, R456). -/
def execTwinHelloRx (_hdr : TwinHdr) (body : Hello) (s : State) : Out := ends (fromTwin (helloRx body) s)

/-- TWIN_WAIT_TIMEOUT (R441). -/
def execTwinWaitTimeout (at_ : Nat) (s : State) : Out := endsAt at_ waitTimeout s

/-- TWIN_HB_TOGGLE (R439). -/
def execTwinHbToggle (at_ : Nat) (s : State) : Out := endsAt at_ hbToggle s

/-- TWIN_HB_LOSS (R439). -/
def execTwinHbLoss (at_ : Nat) (s : State) : Out := endsAt at_ hbLoss s

/-- TWIN_SILENCE_TIMEOUT (R453). -/
def execTwinSilenceTimeout (at_ : Nat) (s : State) : Out := endsAt at_ silence s

/-- TWIN_SUPERVISOR_READY (R454). -/
def execTwinSupervisorReady (at_ : Nat) (s : State) : Out := endsAt at_ supervisorReady s

/-- TWIN_FULL_PART_RX (R450). -/
def execTwinFullPartRx (hdr : TwinHdr) (part parts : Nat) (recs : List ImageRec) (s : State) : Out :=
  ends (fromTwin (partRx true hdr.gen part parts recs) s)

/-- TWIN_DELTA_RX (R450). -/
def execTwinDeltaRx (hdr : TwinHdr) (part parts : Nat) (recs : List ImageRec) (s : State) : Out :=
  ends (fromTwin (partRx false hdr.gen part parts recs) s)

/-- TWIN_ACK_RX (R449). -/
def execTwinAckRx (hdr : TwinHdr) (s : State) : Out := ends (fromTwin (ackRx hdr.gen) s)

/-- TWIN_ACK_TIMEOUT (R449). -/
def execTwinAckTimeout (at_ : Nat) (s : State) : Out := endsAt at_ ackTimeout s

/-- TWIN_DELTA_TX (R449). -/
def execTwinDeltaTx (at_ : Nat) (s : State) : Out := endsAt at_ deltaTx s

/-- TWIN_FULL_SNAPSHOT_TX (R449). -/
def execTwinFullSnapshotTx (at_ : Nat) (s : State) : Out := endsAt at_ fullTx s

/-- TWIN_RELAY_UP_RX (R443, R445). -/
def execTwinRelayUpRx (_hdr : TwinHdr) (kind inst : Nat) (msg : List Byte) (s : State) : Out := ends (fromTwin (relayUp kind inst msg) s)

/-- TWIN_RELAY_DOWN_RX (R443, R445). -/
def execTwinRelayDownRx (_hdr : TwinHdr) (kind inst : Nat) (msg : List Byte) (s : State) : Out := ends (fromTwin (relayDown kind inst msg) s)

/-- TWIN_RELINQUISH_RX (R453). -/
def execTwinRelinquishRx (_hdr : TwinHdr) (s : State) : Out := ends (fromTwin relinquishRx s)

/-- TWIN_TAKEBACK_REQ_RX (R455). -/
def execTwinTakebackReqRx (_hdr : TwinHdr) (s : State) : Out := ends (fromTwin takebackReq s)

/-- TWIN_TAKEBACK_GRANT_RX (R455). -/
def execTwinTakebackGrantRx (_hdr : TwinHdr) (s : State) : Out := ends (fromTwin takebackGrant s)

/-- TWIN_LEAVE_RX (R435). -/
def execTwinLeaveRx (_hdr : TwinHdr) (s : State) : Out := ends (fromTwin leaveRx s)

/-- TWIN_LIGHTS_OUT_RX (R410). -/
def execTwinLightsOutRx (_hdr : TwinHdr) (target : Nat) (s : State) : Out := ends (fromTwin (lightsOutRx target) s)

/-- TWIN_STATUS_RX (R443). -/
def execTwinStatusRx (_hdr : TwinHdr) (body : List Byte) (s : State) : Out := ends (fromTwin (statusRx body) s)

/-- TWIN_HOLD_OFF_EXPIRY (R455). -/
def execTwinHoldOffExpiry (at_ : Nat) (s : State) : Out := endsAt at_ holdOffExpire s

/-- TWIN_GRANT_TIMEOUT (R455). -/
def execTwinGrantTimeout (at_ : Nat) (s : State) : Out := endsAt at_ grantTimeout s

/-- TWIN_DEFERRED_APPLY (R450). -/
def execTwinDeferredApply (at_ : Nat) (s : State) : Out := endsAt at_ applyDeferred s

/-- TWIN_EPOCH_SWAP_RETRY (R450). -/
def execTwinEpochSwapRetry (at_ : Nat) (s : State) : Out := endsAt at_ swapRetry s

/-! Resets, boot, update and supply -/

/-- POWER_ON_RESET (R475, R476). -/
def execPowerOnReset (mspiStrap : Bool) (s : State) : Out := ends (powerOn mspiStrap s)

/-- RST_N_RESET (R475). -/
def execRstNReset (heldNs : Nat) (mspiStrap : Bool) (s : State) : Out := ends (rstN heldNs mspiStrap s)

/-- MODULE_RESET (R331, R475). -/
def execModuleReset (at_ : Nat) (s : State) : Out := endsAt at_ moduleResetDue s

/-- KEEPER_RESET (R331, R428). -/
def execKeeperReset (at_ : Nat) (s : State) : Out := endsAt at_ keeperResetDue s

/-- CONFIG_LOAD_COMPLETE (R303, R481). -/
def execConfigLoadComplete (at_ : Nat) (s : State) : Out := endsAt at_ loadComplete s

/-- The new firmware runs once the pause of a switch is over, and takes up what waited (R333, R455, R480). -/
def resumeSwitch (s : State) : State :=
  match s.yel.pauseUntil with
  | some t => if s.cyc ≥ t then afterPause (switchBank s) else s
  | none => s

/-- FW_SWITCH_RESUME (R333, R480). -/
def execFwSwitchResume (at_ : Nat) (s : State) : Out := endsAt at_ resumeSwitch s

/-- VIN_BROWNOUT (R495). -/
def execVinBrownout (s : State) : Out := ends (brownOut s)

/-- VIN_CRANK (R494). -/
def execVinCrank (at_ : Nat) (s : State) : Out := endsAt at_ crank s

/-- VIN_CRANK_TIMEOUT (R494). -/
def execVinCrankTimeout (at_ : Nat) (s : State) : Out := endsAt at_ crankTimeout s

/-- VIN_OVERVOLT (R508). -/
def execVinOvervolt (s : State) : Out := ends (bump .pwrOvervolt 0 s)

/-- VIN_ABOVE_START_THRESHOLD (R496). -/
def execVinAboveStartThreshold (at_ : Nat) (s : State) : Out := endsAt at_ vinRises s

end Sys2Proof.Machine
end

