-- ==== Sys2Proof/Machine/ExecYelom.lean ====
section
/-! DEFINITION. Machine/ExecYelom.lean: the meanings of the Yelom commands. Each is a message of its class and opcode (R327) taken through the checks of R311 and, when it passes them, executed as its opcode states (CmdTable.lean and the Cmd files). -/

namespace Sys2Proof.Machine

/-- DEVICE_INFO: class 0x01, opcode 0x0001 (R327, R4). -/
def execDeviceInfo (m : Msg) (s : State) : Out := yelom 1 1 m s

/-- SEQ_FLOOR: class 0x01, opcode 0x0002 (R327, R317). -/
def execSeqFloor (m : Msg) (s : State) : Out := yelom 1 2 m s

/-- SET_CMD_KEY: class 0x01, opcode 0x0003 (R327, R316). -/
def execSetCmdKey (m : Msg) (s : State) : Out := yelom 1 3 m s

/-- SET_LIMITS: class 0x01, opcode 0x0004 (R327, R323). -/
def execSetLimits (m : Msg) (s : State) : Out := yelom 1 4 m s

/-- EVENT_SUBSCRIBE: class 0x01, opcode 0x0005 (R327, R326). -/
def execEventSubscribe (m : Msg) (s : State) : Out := yelom 1 5 m s

/-- CONFIG_SAVE: class 0x01, opcode 0x0006 (R327, R485). -/
def execConfigSave (m : Msg) (s : State) : Out := yelom 1 6 m s

/-- RESET: class 0x01, opcode 0x0007 (R327, R331). -/
def execReset (m : Msg) (s : State) : Out := yelom 1 7 m s

/-- ECHO: class 0x01, opcode 0x0008 (R327). -/
def execEcho (m : Msg) (s : State) : Out := yelom 1 8 m s

/-- PORT_SET: class 0x02, opcode 0x0001 (R327, R228). -/
def execPortSet (m : Msg) (s : State) : Out := yelom 2 1 m s

/-- PORT_GET: class 0x02, opcode 0x0002 (R327, R228). -/
def execPortGet (m : Msg) (s : State) : Out := yelom 2 2 m s

/-- PORT_STATUS: class 0x02, opcode 0x0003 (R327, R330). -/
def execPortStatus (m : Msg) (s : State) : Out := yelom 2 3 m s

/-- LLDP_SET: class 0x02, opcode 0x0004 (R327, R238). -/
def execLldpSet (m : Msg) (s : State) : Out := yelom 2 4 m s

/-- PARTNER_ZONES: class 0x02, opcode 0x0005 (R327, R240). -/
def execPartnerZones (m : Msg) (s : State) : Out := yelom 2 5 m s

/-- FASTLINK_CLEAR: class 0x02, opcode 0x0006 (R327, R232). -/
def execFastlinkClear (m : Msg) (s : State) : Out := yelom 2 6 m s

/-- QUEUE_SET: class 0x03, opcode 0x0001 (R327, R65). -/
def execQueueSet (m : Msg) (s : State) : Out := yelom 3 1 m s

/-- BUFFER_SET: class 0x03, opcode 0x0002 (R327, R47). -/
def execBufferSet (m : Msg) (s : State) : Out := yelom 3 2 m s

/-- QUEUE_STATUS: class 0x03, opcode 0x0003 (R327). -/
def execQueueStatus (m : Msg) (s : State) : Out := yelom 3 3 m s

/-- BOLT_STATUS: class 0x03, opcode 0x0004 (R327). -/
def execBoltStatus (m : Msg) (s : State) : Out := yelom 3 4 m s

/-- GCL_WRITE: class 0x04, opcode 0x0001 (R327, R73). -/
def execGclWrite (m : Msg) (s : State) : Out := yelom 4 1 m s

/-- GCL_PARAMS: class 0x04, opcode 0x0002 (R327, R73). -/
def execGclParams (m : Msg) (s : State) : Out := yelom 4 2 m s

/-- GCL_COMMIT: class 0x04, opcode 0x0003 (R327, R77). -/
def execGclCommit (m : Msg) (s : State) : Out := yelom 4 3 m s

/-- GCL_CANCEL: class 0x04, opcode 0x0004 (R327, R80). -/
def execGclCancel (m : Msg) (s : State) : Out := yelom 4 4 m s

/-- GCL_READ: class 0x04, opcode 0x0005 (R327). -/
def execGclRead (m : Msg) (s : State) : Out := yelom 4 5 m s

/-- GCL_STATUS: class 0x04, opcode 0x0006 (R327, R330). -/
def execGclStatus (m : Msg) (s : State) : Out := yelom 4 6 m s

/-- SGATE_WRITE: class 0x04, opcode 0x0007 (R327, R91). -/
def execSgateWrite (m : Msg) (s : State) : Out := yelom 4 7 m s

/-- SGATE_COMMIT: class 0x04, opcode 0x0008 (R327, R91). -/
def execSgateCommit (m : Msg) (s : State) : Out := yelom 4 8 m s

/-- SGATE_CANCEL: class 0x04, opcode 0x0009 (R327, R80). -/
def execSgateCancel (m : Msg) (s : State) : Out := yelom 4 9 m s

/-- SGATE_UNLOCK: class 0x04, opcode 0x000A (R327, R91). -/
def execSgateUnlock (m : Msg) (s : State) : Out := yelom 4 10 m s

/-- TIME_GET: class 0x05, opcode 0x0001 (R327, R107). -/
def execTimeGet (m : Msg) (s : State) : Out := yelom 5 1 m s

/-- SET_TIME: class 0x05, opcode 0x0002 (R327, R109). -/
def execSetTime (m : Msg) (s : State) : Out := yelom 5 2 m s

/-- GM_SET_TIME: class 0x05, opcode 0x0003 (R327, R109). -/
def execGmSetTime (m : Msg) (s : State) : Out := yelom 5 3 m s

/-- ACCEPT_STEP: class 0x05, opcode 0x0004 (R327, R109). -/
def execAcceptStep (m : Msg) (s : State) : Out := yelom 5 4 m s

/-- SERVO_SET: class 0x05, opcode 0x0005 (R327, R108). -/
def execServoSet (m : Msg) (s : State) : Out := yelom 5 5 m s

/-- GPTP_SET: class 0x05, opcode 0x0006 (R327, R105). -/
def execGptpSet (m : Msg) (s : State) : Out := yelom 5 6 m s

/-- RATE_SET: class 0x05, opcode 0x0007 (R327, R100). -/
def execRateSet (m : Msg) (s : State) : Out := yelom 5 7 m s

/-- DOMAIN_CONVERT: class 0x05, opcode 0x0008 (R327, R106). -/
def execDomainConvert (m : Msg) (s : State) : Out := yelom 5 8 m s

/-- PORT_TRIM: class 0x05, opcode 0x0009 (R327, R103). -/
def execPortTrim (m : Msg) (s : State) : Out := yelom 5 9 m s

/-- STB_CONFIG: class 0x05, opcode 0x000A (R327, R111). -/
def execStbConfig (m : Msg) (s : State) : Out := yelom 5 10 m s

/-- STB_READ: class 0x05, opcode 0x000B (R327, R114). -/
def execStbRead (m : Msg) (s : State) : Out := yelom 5 11 m s

/-- STB_SAMPLE: class 0x05, opcode 0x000C (R327, R117). -/
def execStbSample (m : Msg) (s : State) : Out := yelom 5 12 m s

/-- STB_DIR: class 0x05, opcode 0x000D (R327, R116). -/
def execStbDir (m : Msg) (s : State) : Out := yelom 5 13 m s

/-- MARK_SET: class 0x05, opcode 0x000E (R327, R127). -/
def execMarkSet (m : Msg) (s : State) : Out := yelom 5 14 m s

/-- NODE_LOAD: class 0x06, opcode 0x0001 (R327, R142). -/
def execNodeLoad (m : Msg) (s : State) : Out := yelom 6 1 m s

/-- ROOT_SET: class 0x06, opcode 0x0002 (R327, R138). -/
def execRootSet (m : Msg) (s : State) : Out := yelom 6 2 m s

/-- ZONE_MAP_SET: class 0x06, opcode 0x0003 (R327, R161). -/
def execZoneMapSet (m : Msg) (s : State) : Out := yelom 6 3 m s

/-- MATRIX_SET: class 0x06, opcode 0x0004 (R327, R163). -/
def execMatrixSet (m : Msg) (s : State) : Out := yelom 6 4 m s

/-- GROUP_SET: class 0x06, opcode 0x0005 (R327, R158). -/
def execGroupSet (m : Msg) (s : State) : Out := yelom 6 5 m s

/-- EPOCH_SWAP: class 0x06, opcode 0x0006 (R327, R328). -/
def execEpochSwap (m : Msg) (s : State) : Out := yelom 6 6 m s

/-- EPOCH_DISCARD: class 0x06, opcode 0x0007 (R327, R328). -/
def execEpochDiscard (m : Msg) (s : State) : Out := yelom 6 7 m s

/-- EPOCH_STATUS: class 0x06, opcode 0x0008 (R327). -/
def execEpochStatus (m : Msg) (s : State) : Out := yelom 6 8 m s

/-- PAT_OPTIONS: class 0x06, opcode 0x0009 (R327, R159). -/
def execPatOptions (m : Msg) (s : State) : Out := yelom 6 9 m s

/-- SF_SET: class 0x06, opcode 0x000A (R327, R88). -/
def execSfSet (m : Msg) (s : State) : Out := yelom 6 10 m s

/-- SF_UNBLOCK: class 0x06, opcode 0x000B (R327, R90). -/
def execSfUnblock (m : Msg) (s : State) : Out := yelom 6 11 m s

/-- POLICER_SET: class 0x06, opcode 0x000C (R327, R92). -/
def execPolicerSet (m : Msg) (s : State) : Out := yelom 6 12 m s

/-- POLICER_UNLATCH: class 0x06, opcode 0x000D (R327, R93). -/
def execPolicerUnlatch (m : Msg) (s : State) : Out := yelom 6 13 m s

/-- FRER_GEN_SET: class 0x06, opcode 0x000E (R327, R95). -/
def execFrerGenSet (m : Msg) (s : State) : Out := yelom 6 14 m s

/-- FRER_REC_SET: class 0x06, opcode 0x000F (R327, R96). -/
def execFrerRecSet (m : Msg) (s : State) : Out := yelom 6 15 m s

/-- CAN_SET: class 0x07, opcode 0x0001 (R327, R245). -/
def execCanSet (m : Msg) (s : State) : Out := yelom 7 1 m s

/-- LIN_SET: class 0x07, opcode 0x0002 (R327, R257). -/
def execLinSet (m : Msg) (s : State) : Out := yelom 7 2 m s

/-- ROUTE_WRITE: class 0x07, opcode 0x0003 (R327, R170). -/
def execRouteWrite (m : Msg) (s : State) : Out := yelom 7 3 m s

/-- CONTAINER_SET: class 0x07, opcode 0x0004 (R327, R178). -/
def execContainerSet (m : Msg) (s : State) : Out := yelom 7 4 m s

/-- LIN_FRAMES: class 0x07, opcode 0x0005 (R327, R183). -/
def execLinFrames (m : Msg) (s : State) : Out := yelom 7 5 m s

/-- LIN_SCHEDULE: class 0x07, opcode 0x0006 (R327, R184). -/
def execLinSchedule (m : Msg) (s : State) : Out := yelom 7 6 m s

/-- LIN_SELECT: class 0x07, opcode 0x0007 (R327, R184). -/
def execLinSelect (m : Msg) (s : State) : Out := yelom 7 7 m s

/-- SLOT_TABLE: class 0x07, opcode 0x0008 (R327, R176). -/
def execSlotTable (m : Msg) (s : State) : Out := yelom 7 8 m s

/-- BUS_RECOVER: class 0x07, opcode 0x0009 (R327, R250). -/
def execBusRecover (m : Msg) (s : State) : Out := yelom 7 9 m s

/-- RATE_CAND: class 0x07, opcode 0x000A (R327, R252). -/
def execRateCand (m : Msg) (s : State) : Out := yelom 7 10 m s

/-- ISO_INSTANCE: class 0x07, opcode 0x000B (R327, R186). -/
def execIsoInstance (m : Msg) (s : State) : Out := yelom 7 11 m s

/-- CHANNEL_STATUS: class 0x07, opcode 0x000C (R327, R330). -/
def execChannelStatus (m : Msg) (s : State) : Out := yelom 7 12 m s

/-- LINK_SET: class 0x08, opcode 0x0001 (R327, R214). -/
def execLinkSet (m : Msg) (s : State) : Out := yelom 8 1 m s

/-- LINK_STATUS: class 0x08, opcode 0x0002 (R327, R330). -/
def execLinkStatus (m : Msg) (s : State) : Out := yelom 8 2 m s

/-- LINK_REDETECT: class 0x08, opcode 0x0003 (R327, R215). -/
def execLinkRedetect (m : Msg) (s : State) : Out := yelom 8 3 m s

/-- UNHITCH: class 0x08, opcode 0x0004 (R327, R223). -/
def execUnhitch (m : Msg) (s : State) : Out := yelom 8 4 m s

/-- DISC_CONFIG: class 0x08, opcode 0x0005 (R327, R205). -/
def execDiscConfig (m : Msg) (s : State) : Out := yelom 8 5 m s

/-- DISC_WRITE: class 0x08, opcode 0x0006 (R327, R206). -/
def execDiscWrite (m : Msg) (s : State) : Out := yelom 8 6 m s

/-- DISC_TABLE: class 0x08, opcode 0x0007 (R327, R206). -/
def execDiscTable (m : Msg) (s : State) : Out := yelom 8 7 m s

/-- DCCB_SEND: class 0x08, opcode 0x0008 (R327, R209). -/
def execDccbSend (m : Msg) (s : State) : Out := yelom 8 8 m s

/-- DCCB_RECV: class 0x08, opcode 0x0009 (R327, R209). -/
def execDccbRecv (m : Msg) (s : State) : Out := yelom 8 9 m s

/-- ZONE_TABLE: class 0x08, opcode 0x000A (R327, R222). -/
def execZoneTable (m : Msg) (s : State) : Out := yelom 8 10 m s

/-- TT_READ: class 0x08, opcode 0x000B (R327, R211). -/
def execTtRead (m : Msg) (s : State) : Out := yelom 8 11 m s

/-- IMPORT: class 0x09, opcode 0x0001 (R327, R270). -/
def execImportKey (m : Msg) (s : State) : Out := yelom 9 1 m s

/-- GENERATE: class 0x09, opcode 0x0002 (R327, R271). -/
def execGenerate (m : Msg) (s : State) : Out := yelom 9 2 m s

/-- DERIVE: class 0x09, opcode 0x0003 (R327, R271). -/
def execDerive (m : Msg) (s : State) : Out := yelom 9 3 m s

/-- DESTROY: class 0x09, opcode 0x0004 (R327, R274). -/
def execDestroy (m : Msg) (s : State) : Out := yelom 9 4 m s

/-- READ_ATTR: class 0x09, opcode 0x0005 (R327, R268). -/
def execReadAttr (m : Msg) (s : State) : Out := yelom 9 5 m s

/-- LC_CHALLENGE: class 0x09, opcode 0x0006 (R327, R279). -/
def execLcChallenge (m : Msg) (s : State) : Out := yelom 9 6 m s

/-- LC_TRANSITION: class 0x09, opcode 0x0007 (R327, R280). -/
def execLcTransition (m : Msg) (s : State) : Out := yelom 9 7 m s

/-- ATTEST: class 0x09, opcode 0x0008 (R327, R281). -/
def execAttest (m : Msg) (s : State) : Out := yelom 9 8 m s

/-- LC_STATUS: class 0x09, opcode 0x0009 (R327, R277). -/
def execLcStatus (m : Msg) (s : State) : Out := yelom 9 9 m s

/-- CTX_WRITE: class 0x0A, opcode 0x0001 (R327, R291). -/
def execCtxWrite (m : Msg) (s : State) : Out := yelom 10 1 m s

/-- CTX_READ: class 0x0A, opcode 0x0002 (R327, R290). -/
def execCtxRead (m : Msg) (s : State) : Out := yelom 10 2 m s

/-- SA_WRITE: class 0x0A, opcode 0x0003 (R327, R295). -/
def execSaWrite (m : Msg) (s : State) : Out := yelom 10 3 m s

/-- SA_READ: class 0x0A, opcode 0x0004 (R327, R295). -/
def execSaRead (m : Msg) (s : State) : Out := yelom 10 4 m s

/-- STAGE: class 0x0A, opcode 0x0005 (R327, R329). -/
def execStage (m : Msg) (s : State) : Out := yelom 10 5 m s

/-- STAGE_CLEAR: class 0x0A, opcode 0x0006 (R327, R329). -/
def execStageClear (m : Msg) (s : State) : Out := yelom 10 6 m s

/-- STAGE_READ: class 0x0A, opcode 0x0007 (R327, R329). -/
def execStageRead (m : Msg) (s : State) : Out := yelom 10 7 m s

/-- HMAC: class 0x0A, opcode 0x0008 (R327, R302). -/
def execHmac (m : Msg) (s : State) : Out := yelom 10 8 m s

/-- CMAC: class 0x0A, opcode 0x0009 (R327, R302). -/
def execCmac (m : Msg) (s : State) : Out := yelom 10 9 m s

/-- GCM_SEAL: class 0x0A, opcode 0x000A (R327, R305). -/
def execGcmSeal (m : Msg) (s : State) : Out := yelom 10 10 m s

/-- GCM_OPEN: class 0x0A, opcode 0x000B (R327, R302). -/
def execGcmOpen (m : Msg) (s : State) : Out := yelom 10 11 m s

/-- MODE_SET: class 0x0A, opcode 0x000C (R327, R303). -/
def execModeSet (m : Msg) (s : State) : Out := yelom 10 12 m s

/-- KAT_RUN: class 0x0A, opcode 0x000D (R327, R303). -/
def execKatRun (m : Msg) (s : State) : Out := yelom 10 13 m s

/-- POWER_REQ: class 0x0B, opcode 0x0001 (R327, R390). -/
def execPowerReq (m : Msg) (s : State) : Out := yelom 11 1 m s

/-- POWER_STATUS: class 0x0B, opcode 0x0002 (R327, R330). -/
def execPowerStatus (m : Msg) (s : State) : Out := yelom 11 2 m s

/-- NM_SET: class 0x0B, opcode 0x0003 (R327, R393). -/
def execNmSet (m : Msg) (s : State) : Out := yelom 11 3 m s

/-- NM_REQUEST: class 0x0B, opcode 0x0004 (R327, R395). -/
def execNmRequest (m : Msg) (s : State) : Out := yelom 11 4 m s

/-- WAKE_SET: class 0x0B, opcode 0x0005 (R327, R254). -/
def execWakeSet (m : Msg) (s : State) : Out := yelom 11 5 m s

/-- WAKE_CAUSE: class 0x0B, opcode 0x0006 (R327, R256). -/
def execWakeCause (m : Msg) (s : State) : Out := yelom 11 6 m s

/-- LAMP_STATUS: class 0x0C, opcode 0x0001 (R327, R421). -/
def execLampStatus (m : Msg) (s : State) : Out := yelom 12 1 m s

/-- SAFE_RELEASE: class 0x0C, opcode 0x0002 (R327, R419). -/
def execSafeRelease (m : Msg) (s : State) : Out := yelom 12 2 m s

/-- SAFE_OPEN_SET: class 0x0C, opcode 0x0003 (R327, R416). -/
def execSafeOpenSet (m : Msg) (s : State) : Out := yelom 12 3 m s

/-- FAULT_INJECT: class 0x0C, opcode 0x0004 (R327, R422). -/
def execFaultInject (m : Msg) (s : State) : Out := yelom 12 4 m s

/-- DEBUG_CHALLENGE: class 0x0C, opcode 0x0005 (R327, R462). -/
def execDebugChallenge (m : Msg) (s : State) : Out := yelom 12 5 m s

/-- DEBUG_UNLOCK: class 0x0C, opcode 0x0006 (R327, R463). -/
def execDebugUnlock (m : Msg) (s : State) : Out := yelom 12 6 m s

/-- TWIN_SET: class 0x0D, opcode 0x0001 (R327, R435). -/
def execTwinSet (m : Msg) (s : State) : Out := yelom 13 1 m s

/-- TWIN_STATUS: class 0x0D, opcode 0x0002 (R327, R330). -/
def execTwinStatus (m : Msg) (s : State) : Out := yelom 13 2 m s

/-- RELINQUISH: class 0x0D, opcode 0x0003 (R327, R451). -/
def execRelinquish (m : Msg) (s : State) : Out := yelom 13 3 m s

/-- FW_WRITE: class 0x0E, opcode 0x0001 (R327, R478). -/
def execFwWrite (m : Msg) (s : State) : Out := yelom 14 1 m s

/-- FW_VERIFY: class 0x0E, opcode 0x0002 (R327, R479). -/
def execFwVerify (m : Msg) (s : State) : Out := yelom 14 2 m s

/-- FW_SWITCH: class 0x0E, opcode 0x0003 (R327, R333). -/
def execFwSwitch (m : Msg) (s : State) : Out := yelom 14 3 m s

/-- FW_STATUS: class 0x0E, opcode 0x0004 (R327, R330). -/
def execFwStatus (m : Msg) (s : State) : Out := yelom 14 4 m s

/-- COUNTER_CATALOG: class 0x0F, opcode 0x0001 (R327, R330). -/
def execCounterCatalog (m : Msg) (s : State) : Out := yelom 15 1 m s

/-- COUNTER_READ: class 0x0F, opcode 0x0002 (R327). -/
def execCounterRead (m : Msg) (s : State) : Out := yelom 15 2 m s

/-- STATUS_READ: class 0x0F, opcode 0x0003 (R327, R330). -/
def execStatusRead (m : Msg) (s : State) : Out := yelom 15 3 m s

/-- DESC_READ: class 0x0F, opcode 0x0004 (R327). -/
def execDescRead (m : Msg) (s : State) : Out := yelom 15 4 m s

/-- MC_LINK_READ: class 0x0F, opcode 0x0005 (R327). -/
def execMcLinkRead (m : Msg) (s : State) : Out := yelom 15 5 m s

/-- KEY_TRACE: class 0x0F, opcode 0x0006 (R327). -/
def execKeyTrace (m : Msg) (s : State) : Out := yelom 15 6 m s

/-- EVENT_LOG_READ: class 0x0F, opcode 0x0007 (R327, R326). -/
def execEventLogRead (m : Msg) (s : State) : Out := yelom 15 7 m s

/-- EVENT_CATALOG: class 0x0F, opcode 0x0008 (R327, R330). -/
def execEventCatalog (m : Msg) (s : State) : Out := yelom 15 8 m s

end Sys2Proof.Machine
end

