-- ==== Sys2Proof/Machine/Dispatch.lean ====
section
/-! DEFINITION. Machine/Dispatch.lean: what each command does, one arm per constructor of Instr, each a call of its meaning. -/

namespace Sys2Proof.Machine

/-- The effect of a command on everything but the queue of waiting commands. -/
def exec (i : Instr) (s : State) : Host.Outcome State Fault Refusal :=
  match i with
  | .deviceInfo m => Sys2Proof.Machine.execDeviceInfo m s
  | .seqFloor m => Sys2Proof.Machine.execSeqFloor m s
  | .setCmdKey m => Sys2Proof.Machine.execSetCmdKey m s
  | .setLimits m => Sys2Proof.Machine.execSetLimits m s
  | .eventSubscribe m => Sys2Proof.Machine.execEventSubscribe m s
  | .configSave m => Sys2Proof.Machine.execConfigSave m s
  | .reset m => Sys2Proof.Machine.execReset m s
  | .echo m => Sys2Proof.Machine.execEcho m s
  | .portSet m => Sys2Proof.Machine.execPortSet m s
  | .portGet m => Sys2Proof.Machine.execPortGet m s
  | .portStatus m => Sys2Proof.Machine.execPortStatus m s
  | .lldpSet m => Sys2Proof.Machine.execLldpSet m s
  | .partnerZones m => Sys2Proof.Machine.execPartnerZones m s
  | .fastlinkClear m => Sys2Proof.Machine.execFastlinkClear m s
  | .queueSet m => Sys2Proof.Machine.execQueueSet m s
  | .bufferSet m => Sys2Proof.Machine.execBufferSet m s
  | .queueStatus m => Sys2Proof.Machine.execQueueStatus m s
  | .boltStatus m => Sys2Proof.Machine.execBoltStatus m s
  | .gclWrite m => Sys2Proof.Machine.execGclWrite m s
  | .gclParams m => Sys2Proof.Machine.execGclParams m s
  | .gclCommit m => Sys2Proof.Machine.execGclCommit m s
  | .gclCancel m => Sys2Proof.Machine.execGclCancel m s
  | .gclRead m => Sys2Proof.Machine.execGclRead m s
  | .gclStatus m => Sys2Proof.Machine.execGclStatus m s
  | .sgateWrite m => Sys2Proof.Machine.execSgateWrite m s
  | .sgateCommit m => Sys2Proof.Machine.execSgateCommit m s
  | .sgateCancel m => Sys2Proof.Machine.execSgateCancel m s
  | .sgateUnlock m => Sys2Proof.Machine.execSgateUnlock m s
  | .timeGet m => Sys2Proof.Machine.execTimeGet m s
  | .setTime m => Sys2Proof.Machine.execSetTime m s
  | .gmSetTime m => Sys2Proof.Machine.execGmSetTime m s
  | .acceptStep m => Sys2Proof.Machine.execAcceptStep m s
  | .servoSet m => Sys2Proof.Machine.execServoSet m s
  | .gptpSet m => Sys2Proof.Machine.execGptpSet m s
  | .rateSet m => Sys2Proof.Machine.execRateSet m s
  | .domainConvert m => Sys2Proof.Machine.execDomainConvert m s
  | .portTrim m => Sys2Proof.Machine.execPortTrim m s
  | .stbConfig m => Sys2Proof.Machine.execStbConfig m s
  | .stbRead m => Sys2Proof.Machine.execStbRead m s
  | .stbSample m => Sys2Proof.Machine.execStbSample m s
  | .stbDir m => Sys2Proof.Machine.execStbDir m s
  | .markSet m => Sys2Proof.Machine.execMarkSet m s
  | .nodeLoad m => Sys2Proof.Machine.execNodeLoad m s
  | .rootSet m => Sys2Proof.Machine.execRootSet m s
  | .zoneMapSet m => Sys2Proof.Machine.execZoneMapSet m s
  | .matrixSet m => Sys2Proof.Machine.execMatrixSet m s
  | .groupSet m => Sys2Proof.Machine.execGroupSet m s
  | .epochSwap m => Sys2Proof.Machine.execEpochSwap m s
  | .epochDiscard m => Sys2Proof.Machine.execEpochDiscard m s
  | .epochStatus m => Sys2Proof.Machine.execEpochStatus m s
  | .patOptions m => Sys2Proof.Machine.execPatOptions m s
  | .sfSet m => Sys2Proof.Machine.execSfSet m s
  | .sfUnblock m => Sys2Proof.Machine.execSfUnblock m s
  | .policerSet m => Sys2Proof.Machine.execPolicerSet m s
  | .policerUnlatch m => Sys2Proof.Machine.execPolicerUnlatch m s
  | .frerGenSet m => Sys2Proof.Machine.execFrerGenSet m s
  | .frerRecSet m => Sys2Proof.Machine.execFrerRecSet m s
  | .canSet m => Sys2Proof.Machine.execCanSet m s
  | .linSet m => Sys2Proof.Machine.execLinSet m s
  | .routeWrite m => Sys2Proof.Machine.execRouteWrite m s
  | .containerSet m => Sys2Proof.Machine.execContainerSet m s
  | .linFrames m => Sys2Proof.Machine.execLinFrames m s
  | .linSchedule m => Sys2Proof.Machine.execLinSchedule m s
  | .linSelect m => Sys2Proof.Machine.execLinSelect m s
  | .slotTable m => Sys2Proof.Machine.execSlotTable m s
  | .busRecover m => Sys2Proof.Machine.execBusRecover m s
  | .rateCand m => Sys2Proof.Machine.execRateCand m s
  | .isoInstance m => Sys2Proof.Machine.execIsoInstance m s
  | .channelStatus m => Sys2Proof.Machine.execChannelStatus m s
  | .linkSet m => Sys2Proof.Machine.execLinkSet m s
  | .linkStatus m => Sys2Proof.Machine.execLinkStatus m s
  | .linkRedetect m => Sys2Proof.Machine.execLinkRedetect m s
  | .unhitch m => Sys2Proof.Machine.execUnhitch m s
  | .discConfig m => Sys2Proof.Machine.execDiscConfig m s
  | .discWrite m => Sys2Proof.Machine.execDiscWrite m s
  | .discTable m => Sys2Proof.Machine.execDiscTable m s
  | .dccbSend m => Sys2Proof.Machine.execDccbSend m s
  | .dccbRecv m => Sys2Proof.Machine.execDccbRecv m s
  | .zoneTable m => Sys2Proof.Machine.execZoneTable m s
  | .ttRead m => Sys2Proof.Machine.execTtRead m s
  | .importKey m => Sys2Proof.Machine.execImportKey m s
  | .generate m => Sys2Proof.Machine.execGenerate m s
  | .derive m => Sys2Proof.Machine.execDerive m s
  | .destroy m => Sys2Proof.Machine.execDestroy m s
  | .readAttr m => Sys2Proof.Machine.execReadAttr m s
  | .lcChallenge m => Sys2Proof.Machine.execLcChallenge m s
  | .lcTransition m => Sys2Proof.Machine.execLcTransition m s
  | .attest m => Sys2Proof.Machine.execAttest m s
  | .lcStatus m => Sys2Proof.Machine.execLcStatus m s
  | .ctxWrite m => Sys2Proof.Machine.execCtxWrite m s
  | .ctxRead m => Sys2Proof.Machine.execCtxRead m s
  | .saWrite m => Sys2Proof.Machine.execSaWrite m s
  | .saRead m => Sys2Proof.Machine.execSaRead m s
  | .stage m => Sys2Proof.Machine.execStage m s
  | .stageClear m => Sys2Proof.Machine.execStageClear m s
  | .stageRead m => Sys2Proof.Machine.execStageRead m s
  | .hmac m => Sys2Proof.Machine.execHmac m s
  | .cmac m => Sys2Proof.Machine.execCmac m s
  | .gcmSeal m => Sys2Proof.Machine.execGcmSeal m s
  | .gcmOpen m => Sys2Proof.Machine.execGcmOpen m s
  | .modeSet m => Sys2Proof.Machine.execModeSet m s
  | .katRun m => Sys2Proof.Machine.execKatRun m s
  | .powerReq m => Sys2Proof.Machine.execPowerReq m s
  | .powerStatus m => Sys2Proof.Machine.execPowerStatus m s
  | .nmSet m => Sys2Proof.Machine.execNmSet m s
  | .nmRequest m => Sys2Proof.Machine.execNmRequest m s
  | .wakeSet m => Sys2Proof.Machine.execWakeSet m s
  | .wakeCause m => Sys2Proof.Machine.execWakeCause m s
  | .lampStatus m => Sys2Proof.Machine.execLampStatus m s
  | .safeRelease m => Sys2Proof.Machine.execSafeRelease m s
  | .safeOpenSet m => Sys2Proof.Machine.execSafeOpenSet m s
  | .faultInject m => Sys2Proof.Machine.execFaultInject m s
  | .debugChallenge m => Sys2Proof.Machine.execDebugChallenge m s
  | .debugUnlock m => Sys2Proof.Machine.execDebugUnlock m s
  | .twinSet m => Sys2Proof.Machine.execTwinSet m s
  | .twinStatus m => Sys2Proof.Machine.execTwinStatus m s
  | .relinquish m => Sys2Proof.Machine.execRelinquish m s
  | .fwWrite m => Sys2Proof.Machine.execFwWrite m s
  | .fwVerify m => Sys2Proof.Machine.execFwVerify m s
  | .fwSwitch m => Sys2Proof.Machine.execFwSwitch m s
  | .fwStatus m => Sys2Proof.Machine.execFwStatus m s
  | .counterCatalog m => Sys2Proof.Machine.execCounterCatalog m s
  | .counterRead m => Sys2Proof.Machine.execCounterRead m s
  | .statusRead m => Sys2Proof.Machine.execStatusRead m s
  | .descRead m => Sys2Proof.Machine.execDescRead m s
  | .mcLinkRead m => Sys2Proof.Machine.execMcLinkRead m s
  | .keyTrace m => Sys2Proof.Machine.execKeyTrace m s
  | .eventLogRead m => Sys2Proof.Machine.execEventLogRead m s
  | .eventCatalog m => Sys2Proof.Machine.execEventCatalog m s
  | .mspiWrite bytes => Sys2Proof.Machine.execMspiWrite bytes s
  | .mspiStatus => Sys2Proof.Machine.execMspiStatus s
  | .mspiRead => Sys2Proof.Machine.execMspiRead s
  | .extest => Sys2Proof.Machine.execExtest s
  | .idcode => Sys2Proof.Machine.execIdcode s
  | .samplePreload => Sys2Proof.Machine.execSamplePreload s
  | .clamp => Sys2Proof.Machine.execClamp s
  | .highz => Sys2Proof.Machine.execHighz s
  | .dbgStatus => Sys2Proof.Machine.execDbgStatus s
  | .dbgLock => Sys2Proof.Machine.execDbgLock s
  | .dbgAccess => Sys2Proof.Machine.execDbgAccess s
  | .factory code => Sys2Proof.Machine.execFactory code s
  | .bypass code => Sys2Proof.Machine.execBypass code s
  | .debugAction act => Sys2Proof.Machine.execDebugAction act s
  | .testLogicReset => Sys2Proof.Machine.execTestLogicReset s
  | .plkPollPeriodWrite v => Sys2Proof.Machine.execPlkPollPeriodWrite v s
  | .plkIntCauseClear v => Sys2Proof.Machine.execPlkIntCauseClear v s
  | .plkIntEnableWrite v => Sys2Proof.Machine.execPlkIntEnableWrite v s
  | .pwrDomainStoppedClear v => Sys2Proof.Machine.execPwrDomainStoppedClear v s
  | .plkMbCmdProd pair v => Sys2Proof.Machine.execPlkMbCmdProd pair v s
  | .plkMbCplCons pair v => Sys2Proof.Machine.execPlkMbCplCons pair v s
  | .plkErrlogRead v => Sys2Proof.Machine.execPlkErrlogRead v s
  | .plkErrlogOverflow => Sys2Proof.Machine.execPlkErrlogOverflow s
  | .windowStageWrite win word v => Sys2Proof.Machine.execWindowStageWrite win word v s
  | .windowCommit win v => Sys2Proof.Machine.execWindowCommit win v s
  | .windowDisable win v => Sys2Proof.Machine.execWindowDisable win v s
  | .ringRun ring v => Sys2Proof.Machine.execRingRun ring v s
  | .ringStop ring v => Sys2Proof.Machine.execRingStop ring v s
  | .ringSizeSet ring v => Sys2Proof.Machine.execRingSizeSet ring v s
  | .plkRingProd ring v => Sys2Proof.Machine.execPlkRingProd ring v s
  | .hostRegisterWrite bar offset bytes => Sys2Proof.Machine.execHostRegisterWrite bar offset bytes s
  | .frameReceive port bytes fin => Sys2Proof.Machine.execFrameReceive port bytes fin s
  | .lookupComplete port late ecc => Sys2Proof.Machine.execLookupComplete port late ecc s
  | .admission port => Sys2Proof.Machine.execAdmission port s
  | .shuttleSlot => Sys2Proof.Machine.execShuttleSlot s
  | .treadleRotation => Sys2Proof.Machine.execTreadleRotation s
  | .competingTimeout port cls ingress => Sys2Proof.Machine.execCompetingTimeout port cls ingress s
  | .egressSelect port => Sys2Proof.Machine.execEgressSelect port s
  | .cellRead port ecc => Sys2Proof.Machine.execCellRead port ecc s
  | .frameTransmitEnd port => Sys2Proof.Machine.execFrameTransmitEnd port s
  | .preemption port => Sys2Proof.Machine.execPreemption port s
  | .preemptVerify port addFrag => Sys2Proof.Machine.execPreemptVerify port addFrag s
  | .frameAged at_ port cls => Sys2Proof.Machine.execFrameAged at_ port cls s
  | .quadrantDrained quad => Sys2Proof.Machine.execQuadrantDrained quad s
  | .bankClearDone quad => Sys2Proof.Machine.execBankClearDone quad s
  | .gateEntryStart at_ port => Sys2Proof.Machine.execGateEntryStart at_ port s
  | .gateCycleStart at_ port => Sys2Proof.Machine.execGateCycleStart at_ port s
  | .gclCtReached at_ port => Sys2Proof.Machine.execGclCtReached at_ port s
  | .stitchOverrideEnd at_ port => Sys2Proof.Machine.execStitchOverrideEnd at_ port s
  | .sgateEntryStart at_ gate => Sys2Proof.Machine.execSgateEntryStart at_ gate s
  | .frerResetTimeout at_ fn => Sys2Proof.Machine.execFrerResetTimeout at_ fn s
  | .frerLatentTest at_ fn => Sys2Proof.Machine.execFrerLatentTest at_ fn s
  | .frerLatentReset at_ fn => Sys2Proof.Machine.execFrerLatentReset at_ fn s
  | .gptpSyncReceived inst gm offset rateRatio => Sys2Proof.Machine.execGptpSyncReceived inst gm offset rateRatio s
  | .syncReceiptTimeout at_ inst => Sys2Proof.Machine.execSyncReceiptTimeout at_ inst s
  | .stitchEdge at_ base a b heldNs => Sys2Proof.Machine.execStitchEdge at_ base a b heldNs s
  | .standstillTimeout at_ base => Sys2Proof.Machine.execStandstillTimeout at_ base s
  | .keyFire at_ key => Sys2Proof.Machine.execKeyFire at_ key s
  | .markPulseEnd at_ out => Sys2Proof.Machine.execMarkPulseEnd at_ out s
  | .epochFree => Sys2Proof.Machine.execEpochFree s
  | .zoneSwapRetry at_ => Sys2Proof.Machine.execZoneSwapRetry at_ s
  | .fragResolvedExpiry at_ entry => Sys2Proof.Machine.execFragResolvedExpiry at_ entry s
  | .fragEarlyExpiry at_ entry => Sys2Proof.Machine.execFragEarlyExpiry at_ entry s
  | .gatewayDeliver => Sys2Proof.Machine.execGatewayDeliver s
  | .containerFlush at_ container => Sys2Proof.Machine.execContainerFlush at_ container s
  | .canTxTimeout at_ ch => Sys2Proof.Machine.execCanTxTimeout at_ ch s
  | .canFrameRx ch ago msg => Sys2Proof.Machine.execCanFrameRx ch ago msg s
  | .canBusIdle ch => Sys2Proof.Machine.execCanBusIdle ch s
  | .canTxComplete ch result => Sys2Proof.Machine.execCanTxComplete ch result s
  | .canErrorDetected ch err dataPhase transmitter => Sys2Proof.Machine.execCanErrorDetected ch err dataPhase transmitter s
  | .busOffRecoveryDone ch => Sys2Proof.Machine.execBusOffRecoveryDone ch s
  | .busIntegrationDone ch => Sys2Proof.Machine.execBusIntegrationDone ch s
  | .transceiverWakeWait at_ ch => Sys2Proof.Machine.execTransceiverWakeWait at_ ch s
  | .rateDwellExpiry at_ ch => Sys2Proof.Machine.execRateDwellExpiry at_ ch s
  | .linScheduleSlot at_ ch => Sys2Proof.Machine.execLinScheduleSlot at_ ch s
  | .linHeaderRx ch bitrate pid readbackFail => Sys2Proof.Machine.execLinHeaderRx ch bitrate pid readbackFail s
  | .linResponseRx ch data checksum badStop => Sys2Proof.Machine.execLinResponseRx ch data checksum badStop s
  | .linResponseTimeout at_ ch got => Sys2Proof.Machine.execLinResponseTimeout at_ ch got s
  | .addressClaimRx ch msg => Sys2Proof.Machine.execAddressClaimRx ch msg s
  | .isoNetworkMessage ch msg => Sys2Proof.Machine.execIsoNetworkMessage ch msg s
  | .selSuperframeTx link => Sys2Proof.Machine.execSelSuperframeTx link s
  | .selSighting link pos hdr => Sys2Proof.Machine.execSelSighting link pos hdr s
  | .selCandidateCheck link pos hdr => Sys2Proof.Machine.execSelCandidateCheck link pos hdr s
  | .selHeaderRx link hdr => Sys2Proof.Machine.execSelHeaderRx link hdr s
  | .selBlockLockLoss link => Sys2Proof.Machine.execSelBlockLockLoss link s
  | .selThreadBlockRx link thread block => Sys2Proof.Machine.execSelThreadBlockRx link thread block s
  | .selThreadIdle link thread => Sys2Proof.Machine.execSelThreadIdle link thread s
  | .selDiscBlockRx link block => Sys2Proof.Machine.execSelDiscBlockRx link block s
  | .sdccBurst link dccB dataIn validIn => Sys2Proof.Machine.execSdccBurst link dccB dataIn validIn s
  | .selLosSet at_ link => Sys2Proof.Machine.execSelLosSet at_ link s
  | .selLosClear at_ link => Sys2Proof.Machine.execSelLosClear at_ link s
  | .selPlugIn at_ link => Sys2Proof.Machine.execSelPlugIn at_ link s
  | .selRateDwellEnd at_ link => Sys2Proof.Machine.execSelRateDwellEnd at_ link s
  | .selQualifyEnd at_ link badSync => Sys2Proof.Machine.execSelQualifyEnd at_ link badSync s
  | .selQualRdiEnd at_ link => Sys2Proof.Machine.execSelQualRdiEnd at_ link s
  | .selIdentRx link body => Sys2Proof.Machine.execSelIdentRx link body s
  | .selIdentAckRx link => Sys2Proof.Machine.execSelIdentAckRx link s
  | .selIdentResend at_ link => Sys2Proof.Machine.execSelIdentResend at_ link s
  | .selIdentTimeout at_ link => Sys2Proof.Machine.execSelIdentTimeout at_ link s
  | .selMapSetRx link body => Sys2Proof.Machine.execSelMapSetRx link body s
  | .selMapAckRx link body => Sys2Proof.Machine.execSelMapAckRx link body s
  | .selMapSetResend at_ link => Sys2Proof.Machine.execSelMapSetResend at_ link s
  | .selSfnSwitch link => Sys2Proof.Machine.execSelSfnSwitch link s
  | .selMapRevert link => Sys2Proof.Machine.execSelMapRevert link s
  | .selMapTimeout at_ link => Sys2Proof.Machine.execSelMapTimeout at_ link s
  | .selUnhitchRx link => Sys2Proof.Machine.execSelUnhitchRx link s
  | .selUnplugTimeout at_ link => Sys2Proof.Machine.execSelUnplugTimeout at_ link s
  | .linkUp port mode role fast => Sys2Proof.Machine.execLinkUp port mode role fast s
  | .linkDown port => Sys2Proof.Machine.execLinkDown port s
  | .trainingFail port => Sys2Proof.Machine.execTrainingFail port s
  | .phyPowerGood port => Sys2Proof.Machine.execPhyPowerGood port s
  | .fastlinkFallback at_ port => Sys2Proof.Machine.execFastlinkFallback at_ port s
  | .lldpRx port pdu => Sys2Proof.Machine.execLldpRx port pdu s
  | .lldpTx at_ port => Sys2Proof.Machine.execLldpTx at_ port s
  | .lldpTtlExpiry at_ port => Sys2Proof.Machine.execLldpTtlExpiry at_ port s
  | .lldpWaitExpiry at_ port => Sys2Proof.Machine.execLldpWaitExpiry at_ port s
  | .absentHoldExpiry at_ port => Sys2Proof.Machine.execAbsentHoldExpiry at_ port s
  | .keyFetch slot gen master world use => Sys2Proof.Machine.execKeyFetch slot gen master world use s
  | .rngHealthFail => Sys2Proof.Machine.execRngHealthFail s
  | .lcNonceExpiry at_ => Sys2Proof.Machine.execLcNonceExpiry at_ s
  | .debugNonceExpiry at_ => Sys2Proof.Machine.execDebugNonceExpiry at_ s
  | .bodkinPipelineEnter => Sys2Proof.Machine.execBodkinPipelineEnter s
  | .bodkinPipelineExit pipe => Sys2Proof.Machine.execBodkinPipelineExit pipe s
  | .keeperCryptoRequest req => Sys2Proof.Machine.execKeeperCryptoRequest req s
  | .cmdLockoutEnd at_ tr => Sys2Proof.Machine.execCmdLockoutEnd at_ tr s
  | .mutatorTimeout at_ => Sys2Proof.Machine.execMutatorTimeout at_ s
  | .replyWrite pair => Sys2Proof.Machine.execReplyWrite pair s
  | .placketPoll at_ => Sys2Proof.Machine.execPlacketPoll at_ s
  | .dmaTxDescriptor ring => Sys2Proof.Machine.execDmaTxDescriptor ring s
  | .dmaRxDescriptor ring => Sys2Proof.Machine.execDmaRxDescriptor ring s
  | .pcieCompletion tag status data => Sys2Proof.Machine.execPcieCompletion tag status data s
  | .cplTimeout at_ tag => Sys2Proof.Machine.execCplTimeout at_ tag s
  | .fcStall at_ ring => Sys2Proof.Machine.execFcStall at_ ring s
  | .pllLock dom => Sys2Proof.Machine.execPllLock dom s
  | .clockFault clock => Sys2Proof.Machine.execClockFault clock s
  | .ref32Timeout at_ => Sys2Proof.Machine.execRef32Timeout at_ s
  | .initiatorTimeout at_ placket dom => Sys2Proof.Machine.execInitiatorTimeout at_ placket dom s
  | .resyncComplete dom discarded lostPulses => Sys2Proof.Machine.execResyncComplete dom discarded lostPulses s
  | .domainSwitched dom => Sys2Proof.Machine.execDomainSwitched dom s
  | .dozeWake source => Sys2Proof.Machine.execDozeWake source s
  | .nmSleepWaitExpiry at_ net => Sys2Proof.Machine.execNmSleepWaitExpiry at_ net s
  | .nmFalseWakeExpiry at_ net => Sys2Proof.Machine.execNmFalseWakeExpiry at_ net s
  | .nmKaPoll at_ => Sys2Proof.Machine.execNmKaPoll at_ s
  | .nmKeepaliveTx at_ net => Sys2Proof.Machine.execNmKeepaliveTx at_ net s
  | .nmKeepAliveRx ch msg => Sys2Proof.Machine.execNmKeepAliveRx ch msg s
  | .nmReadyToSleepRx ch msg => Sys2Proof.Machine.execNmReadyToSleepRx ch msg s
  | .nmConsentRx ch msg => Sys2Proof.Machine.execNmConsentRx ch msg s
  | .nmRefuseRx ch msg => Sys2Proof.Machine.execNmRefuseRx ch msg s
  | .tc10SleepAck port => Sys2Proof.Machine.execTc10SleepAck port s
  | .nmConsentTimeout at_ net => Sys2Proof.Machine.execNmConsentTimeout at_ net s
  | .tc10WakeRx port => Sys2Proof.Machine.execTc10WakeRx port s
  | .wakePin pin => Sys2Proof.Machine.execWakePin pin s
  | .selectiveWakeFrame ch msg error => Sys2Proof.Machine.execSelectiveWakeFrame ch msg error s
  | .wupPattern ch => Sys2Proof.Machine.execWupPattern ch s
  | .standbyRxdWake ch => Sys2Proof.Machine.execStandbyRxdWake ch s
  | .linDeepWake ch => Sys2Proof.Machine.execLinDeepWake ch s
  | .tc10DeepWake port => Sys2Proof.Machine.execTc10DeepWake port s
  | .wakeOscStop at_ => Sys2Proof.Machine.execWakeOscStop at_ s
  | .deepWakeSequence at_ => Sys2Proof.Machine.execDeepWakeSequence at_ s
  | .lockstepMismatch => Sys2Proof.Machine.execLockstepMismatch s
  | .comparatorFault => Sys2Proof.Machine.execComparatorFault s
  | .delayParityError => Sys2Proof.Machine.execDelayParityError s
  | .inputDisagreement => Sys2Proof.Machine.execInputDisagreement s
  | .tcmEccError double => Sys2Proof.Machine.execTcmEccError double s
  | .memoryScrub at_ tcm tables => Sys2Proof.Machine.execMemoryScrub at_ tcm tables s
  | .tableEccError => Sys2Proof.Machine.execTableEccError s
  | .watchdogService management => Sys2Proof.Machine.execWatchdogService management s
  | .watchdogExpiry at_ => Sys2Proof.Machine.execWatchdogExpiry at_ s
  | .railFault dom => Sys2Proof.Machine.execRailFault dom s
  | .temperatureThreshold sensor celsius => Sys2Proof.Machine.execTemperatureThreshold sensor celsius s
  | .gateOutputMismatch port => Sys2Proof.Machine.execGateOutputMismatch port s
  | .timeCopyMismatch => Sys2Proof.Machine.execTimeCopyMismatch s
  | .gateTokenTimeout => Sys2Proof.Machine.execGateTokenTimeout s
  | .lampHeartbeatMissing at_ => Sys2Proof.Machine.execLampHeartbeatMissing at_ s
  | .faultNReadbackFail => Sys2Proof.Machine.execFaultNReadbackFail s
  | .keeperSelfTestDone pass => Sys2Proof.Machine.execKeeperSelfTestDone pass s
  | .twinHelloTx at_ => Sys2Proof.Machine.execTwinHelloTx at_ s
  | .twinHelloRx hdr body => Sys2Proof.Machine.execTwinHelloRx hdr body s
  | .twinWaitTimeout at_ => Sys2Proof.Machine.execTwinWaitTimeout at_ s
  | .twinHbToggle at_ => Sys2Proof.Machine.execTwinHbToggle at_ s
  | .twinHbLoss at_ => Sys2Proof.Machine.execTwinHbLoss at_ s
  | .twinSilenceTimeout at_ => Sys2Proof.Machine.execTwinSilenceTimeout at_ s
  | .twinSupervisorReady at_ => Sys2Proof.Machine.execTwinSupervisorReady at_ s
  | .twinFullPartRx hdr part parts recs => Sys2Proof.Machine.execTwinFullPartRx hdr part parts recs s
  | .twinDeltaRx hdr part parts recs => Sys2Proof.Machine.execTwinDeltaRx hdr part parts recs s
  | .twinAckRx hdr => Sys2Proof.Machine.execTwinAckRx hdr s
  | .twinAckTimeout at_ => Sys2Proof.Machine.execTwinAckTimeout at_ s
  | .twinDeltaTx at_ => Sys2Proof.Machine.execTwinDeltaTx at_ s
  | .twinFullSnapshotTx at_ => Sys2Proof.Machine.execTwinFullSnapshotTx at_ s
  | .twinRelayUpRx hdr kind inst msg => Sys2Proof.Machine.execTwinRelayUpRx hdr kind inst msg s
  | .twinRelayDownRx hdr kind inst msg => Sys2Proof.Machine.execTwinRelayDownRx hdr kind inst msg s
  | .twinRelinquishRx hdr => Sys2Proof.Machine.execTwinRelinquishRx hdr s
  | .twinTakebackReqRx hdr => Sys2Proof.Machine.execTwinTakebackReqRx hdr s
  | .twinTakebackGrantRx hdr => Sys2Proof.Machine.execTwinTakebackGrantRx hdr s
  | .twinLeaveRx hdr => Sys2Proof.Machine.execTwinLeaveRx hdr s
  | .twinLightsOutRx hdr target => Sys2Proof.Machine.execTwinLightsOutRx hdr target s
  | .twinStatusRx hdr body => Sys2Proof.Machine.execTwinStatusRx hdr body s
  | .twinHoldOffExpiry at_ => Sys2Proof.Machine.execTwinHoldOffExpiry at_ s
  | .twinGrantTimeout at_ => Sys2Proof.Machine.execTwinGrantTimeout at_ s
  | .twinDeferredApply at_ => Sys2Proof.Machine.execTwinDeferredApply at_ s
  | .twinEpochSwapRetry at_ => Sys2Proof.Machine.execTwinEpochSwapRetry at_ s
  | .powerOnReset mspiStrap => Sys2Proof.Machine.execPowerOnReset mspiStrap s
  | .rstNReset heldNs mspiStrap => Sys2Proof.Machine.execRstNReset heldNs mspiStrap s
  | .moduleReset at_ => Sys2Proof.Machine.execModuleReset at_ s
  | .keeperReset at_ => Sys2Proof.Machine.execKeeperReset at_ s
  | .pcieFundamentalReset => Sys2Proof.Machine.execPcieFundamentalReset s
  | .functionLevelReset => Sys2Proof.Machine.execFunctionLevelReset s
  | .configLoadComplete at_ => Sys2Proof.Machine.execConfigLoadComplete at_ s
  | .fwSwitchResume at_ => Sys2Proof.Machine.execFwSwitchResume at_ s
  | .vinBrownout => Sys2Proof.Machine.execVinBrownout s
  | .vinCrank at_ => Sys2Proof.Machine.execVinCrank at_ s
  | .vinCrankTimeout at_ => Sys2Proof.Machine.execVinCrankTimeout at_ s
  | .vinOvervolt => Sys2Proof.Machine.execVinOvervolt s
  | .selBlockLockAcquired link => Sys2Proof.Machine.execSelBlockLockAcquired link s
  | .pcieLinkStateChange state => Sys2Proof.Machine.execPcieLinkStateChange state s
  | .pcieConfigWrite cfg => Sys2Proof.Machine.execPcieConfigWrite cfg s
  | .grandmasterSelection isSelf gm => Sys2Proof.Machine.execGrandmasterSelection isSelf gm s
  | .mkaPduRx port sak saWrites => Sys2Proof.Machine.execMkaPduRx port sak saWrites s
  | .linWakeRx ch => Sys2Proof.Machine.execLinWakeRx ch s
  | .wakePinRelease pin => Sys2Proof.Machine.execWakePinRelease pin s
  | .vinAboveStartThreshold at_ => Sys2Proof.Machine.execVinAboveStartThreshold at_ s
  | .lampSelfCheckFault => Sys2Proof.Machine.execLampSelfCheckFault s

end Sys2Proof.Machine
end

