-- ==== Sys2Proof/Safety.lean ====
section
/-! DEFINITION. Safety.lean: what counts as a safe run of the block: every command that is taken is carried out, so no step ends in a fault or a refusal; and the words in which the statements say where a command completes. -/

namespace Sys2Proof

open Sys2Proof.Machine

/-- A step that answers a next state. -/
def Advances (s : State) : Prop := ∃ t, step s = .next t

/-- A safe run of `n` steps from a state. -/
def SafeRun : Nat → State → Prop
  | 0, _ => True
  | n + 1, s => ∃ t, step s = .next t ∧ SafeRun n t

/-- The state after `n` steps of a block whose steps all advance (a step that did not would leave it where it is). -/
def runSteps : Nat → State → State
  | 0, s => s
  | n + 1, s => match step s with
    | .next t => runSteps n t
    | _ => s

/-- The block's byte memories are in canonical form. -/
def memoriesOk (s : State) : Bool := s.plk.ringMem.wf && s.plk.descMem.wf

end Sys2Proof

namespace Sys2Proof.Claims

open Sys2Proof.Machine

/-- Command `c` at state `s` answers a next state: `t`, after the faults it detected have been reacted to and the events it raised delivered. -/
def Completes (c : Instr) (s t : State) : Prop := exec c s = .next (settle t)

/-- Nothing is left for the end of a command to do: no detection, no event, no waiting or parked message, no whole-unit twin mode. -/
def quiet (s : State) : Bool :=
  s.faults.isEmpty && s.raised.isEmpty && s.events.isEmpty && s.yel.waiting.isNone && s.yel.queue.isEmpty && s.yel.parked.isEmpty && s.twin.mode != 1

/-- As `quiet`, but for events that wait for delivery. -/
def quietButEvents (s : State) : Bool := quiet { s with raised := [], events := [] }

/-- No transport subscribes to any class of events. -/
def unsubscribed (s : State) : Bool := s.yel.placket.eventMask == 0 && s.yel.vlan.eventMask == 0 && s.yel.mspi.eventMask == 0

/-- The state in which a message's command executes, when checks 1 to 9 of R311 pass: a token is taken, its sequence is the transport's last where it was checked, and it is counted as accepted and outstanding. -/
def admitted (a : Accepted) (sequenced : Bool) (s1 : State) : State :=
  let t := transportOf a.msg.via
  let s2 := if sequenced then takeSequence a.msg.seq.toNat t s1 else s1
  let x := getTrans t s2
  bump .kprCmdAccepted (transportIx t) (setTrans t { x with outstanding := x.outstanding + 1 } s2)

/-- Checks 1 to 9 of R311 pass for a message, in a module that is not in DOZE, whose service runs, has nothing waiting and has room in pipeline 0 for a trailer; `u` is the state in which the command executes. -/
def admits (a : Accepted) (s u : State) : Prop :=
  let m := a.msg
  let t := transportOf m.via
  s.pwr.state ≠ .doze ∧ keeperRuns s = true ∧ (s.kpr.recovery = false ∨ t = .mspi) ∧ mustWait m.via s = false ∧ laneFull a s = false
  ∧ s.yel.waiting = none ∧ s.yel.queue = []
  ∧ m.b0.toNat / 16 = 1 ∧ hdrBit m 3 = false ∧ hdrBit m 1 = false ∧ hdrBit m 0 = false ∧ m.stat = 0 ∧ m.res = 0
  ∧ m.plen.toNat ≤ 4096 ∧ m.body.length = m.plen.toNat + (if hdrBit m 2 then 16 else 0)
  ∧ (locked t s = false ∨ exemptNow a s = true)
  ∧ hasToken t s = true ∧ (getTrans t s).outstanding < 64 ∧ ∃ b, authenticate a (tokenTaken a s) = .pass b ∧ u = admitted a b (tokenTaken a s)

/-- Check 11 passes, no block that the command acts on has a stopped or stuck clock, and what the command waits for, if anything, is there (R311, R324, R325, R384). -/
def runnable (c : Cmd) (p : List Byte) (u : State) : Prop :=
  allowed c p u = true ∧ (∀ d ∈ c.domains p, u.plk.stopped.getLsbD d = false ∧ domainStuck d u = false)
  ∧ ∀ w, c.waits p u = some w → c.start p u = u ∧ waitOver w.1 u = true

/-- An executed command's reply with status OK, sent back the way the command came (R312). -/
def answered (a : Accepted) (reply : List Byte) (t : State) : State := refreshKeys (replyTo a.cls a.opcode a.msg true .ok reply false t)

/-- The opcode of `c`, carried by the command `mk`: with its checks passed, outside a whole-unit pair, and with parameters and state that meet `ok`, it executes as `eff` says (the state after it and its reply's result) and is answered with OK. -/
def Runs (mk : Msg → Instr) (c : Cmd) (ok : Via → List Byte → State → Prop) (eff : Via → List Byte → State → State × List Byte) : Prop :=
  ∀ (m : Msg) (s u : State), admits ⟨c.cls, c.opcode, m⟩ s u → runnable c (paramsOf m) u → pairActive u = false → ok m.via (paramsOf m) u →
    Completes (mk m) s (answered ⟨c.cls, c.opcode, m⟩ (eff m.via (paramsOf m) u).2 (eff m.via (paramsOf m) u).1)

/-- An executed command that its opcode refuses is answered with a status; `t` is the state that it leaves (R312). -/
def declined (a : Accepted) (e : Status) (t : State) : State := refreshKeys (replyTo a.cls a.opcode a.msg true e [] false t)

/-- The opcode of `c`, carried by the command `mk`: with its checks passed and with parameters and state that meet `ok`, it is refused with status `e` and leaves the state that `eff` says. -/
def Declines (mk : Msg → Instr) (c : Cmd) (e : Status) (ok : Via → List Byte → State → Prop) (eff : List Byte → State → State) : Prop :=
  ∀ (m : Msg) (s u : State), admits ⟨c.cls, c.opcode, m⟩ s u → runnable c (paramsOf m) u → ok m.via (paramsOf m) u →
    Completes (mk m) s (declined ⟨c.cls, c.opcode, m⟩ e (eff (paramsOf m) u))

/-- The reserved bytes `off` to `off + n - 1` of the parameters are 0. -/
abbrev zeros (off n : Nat) (p : List Byte) : Prop := numAt p off n = 0

/-- A configuration command's parameters become its object's record in the active configuration (R484): the first `k` bytes name the object. -/
def recorded (c : Cmd) (k : Nat) (p : List Byte) (t : State) : State :=
  setBoot { t.boot with records := (putRecord { cls := c.cls, opcode := c.opcode, wakeFirst := false, body := p } k t.boot.records).filter (fun x => !(passRecord t x)) } t

/-- The parameters of a command that writes the pending epoch become its object's record in the pending epoch's part of the active configuration (R328, R484); a pending epoch that the command opens starts from the current epoch's records but those of its tree. -/
def epochRecorded (c : Cmd) (k : Nat) (p : List Byte) (before t : State) : State :=
  let base := if before.pat.pending.isNone then t.boot.epochRecords.filter (fun x => !(isTreeRec x)) else t.boot.pendingRecords
  setBoot { t.boot with pendingRecords := putRecord { cls := c.cls, opcode := c.opcode, wakeFirst := false, body := p } k base } t

/-- A command that writes the pending epoch executes as `f` on its tables, which are opened where they are not open (R146). -/
def inPending (c : Cmd) (k : Nat) (p : List Byte) (f : EpochTables → EpochTables) (u : State) : State := epochRecorded c k p u (writePending f u)

/-- `n` records of a table write, `w` bytes each from byte `off` of the parameters on, go to consecutive entries from `first`. -/
def consecutive (α : Type) [DecidableEq α] (d : α) (f : List Byte → α) (off w n first : Nat) (p : List Byte) (m : SMap α) : SMap α :=
  (List.range n).foldl (fun a i => mapSet d a (first + i) (f ((p.drop (off + w * i)).take w))) m

/-- The input of an operation on request: the bytes the command carries, or with STAGED 1 the transport's staging buffer (R329). -/
def operand (v : Via) (staged : Nat) (carried : List Byte) (u : State) : List Byte := if staged = 0 then carried else (getTrans (transportOf v) u).staged

/-- The outcome of an operation on request: its output in the reply, or with STAGED 1 in the staging buffer, with its length in the reply (R329; log entry 38). -/
def operated (v : Via) (staged : Nat) (output : List Byte) (t : State) : State × List Byte :=
  if staged = 0 then (t, output) else (setStaged (transportOf v) output t, natBytes 4 output.length)

/-- A key slot may be used and is not stale (R269). -/
abbrev usable (n : Nat) (m : Master) (w : World) (use : KeyUse) (u : State) : Prop := n < 64 ∧ mayUse n m w use u = true ∧ isStale n none u = false

/-- A key use has drawn the fresh mask under which the key leaves the Thimble (R266). -/
def masked (n : Nat) (u : State) : State := (drawBytes (slotValue n u).length u).2

/-- The message that a Yelom command is: its class and opcode in the opcode tables of R327, with what its sender set. No other command is a message. -/
def carried : Instr → Option Received
  | .deviceInfo m => some ⟨1, 1, m⟩
  | .seqFloor m => some ⟨1, 2, m⟩
  | .setCmdKey m => some ⟨1, 3, m⟩
  | .setLimits m => some ⟨1, 4, m⟩
  | .eventSubscribe m => some ⟨1, 5, m⟩
  | .configSave m => some ⟨1, 6, m⟩
  | .reset m => some ⟨1, 7, m⟩
  | .echo m => some ⟨1, 8, m⟩
  | .portSet m => some ⟨2, 1, m⟩
  | .portGet m => some ⟨2, 2, m⟩
  | .portStatus m => some ⟨2, 3, m⟩
  | .lldpSet m => some ⟨2, 4, m⟩
  | .partnerZones m => some ⟨2, 5, m⟩
  | .fastlinkClear m => some ⟨2, 6, m⟩
  | .queueSet m => some ⟨3, 1, m⟩
  | .bufferSet m => some ⟨3, 2, m⟩
  | .queueStatus m => some ⟨3, 3, m⟩
  | .boltStatus m => some ⟨3, 4, m⟩
  | .gclWrite m => some ⟨4, 1, m⟩
  | .gclParams m => some ⟨4, 2, m⟩
  | .gclCommit m => some ⟨4, 3, m⟩
  | .gclCancel m => some ⟨4, 4, m⟩
  | .gclRead m => some ⟨4, 5, m⟩
  | .gclStatus m => some ⟨4, 6, m⟩
  | .sgateWrite m => some ⟨4, 7, m⟩
  | .sgateCommit m => some ⟨4, 8, m⟩
  | .sgateCancel m => some ⟨4, 9, m⟩
  | .sgateUnlock m => some ⟨4, 10, m⟩
  | .timeGet m => some ⟨5, 1, m⟩
  | .setTime m => some ⟨5, 2, m⟩
  | .gmSetTime m => some ⟨5, 3, m⟩
  | .acceptStep m => some ⟨5, 4, m⟩
  | .servoSet m => some ⟨5, 5, m⟩
  | .gptpSet m => some ⟨5, 6, m⟩
  | .rateSet m => some ⟨5, 7, m⟩
  | .domainConvert m => some ⟨5, 8, m⟩
  | .portTrim m => some ⟨5, 9, m⟩
  | .stbConfig m => some ⟨5, 10, m⟩
  | .stbRead m => some ⟨5, 11, m⟩
  | .stbSample m => some ⟨5, 12, m⟩
  | .stbDir m => some ⟨5, 13, m⟩
  | .markSet m => some ⟨5, 14, m⟩
  | .nodeLoad m => some ⟨6, 1, m⟩
  | .rootSet m => some ⟨6, 2, m⟩
  | .zoneMapSet m => some ⟨6, 3, m⟩
  | .matrixSet m => some ⟨6, 4, m⟩
  | .groupSet m => some ⟨6, 5, m⟩
  | .epochSwap m => some ⟨6, 6, m⟩
  | .epochDiscard m => some ⟨6, 7, m⟩
  | .epochStatus m => some ⟨6, 8, m⟩
  | .patOptions m => some ⟨6, 9, m⟩
  | .sfSet m => some ⟨6, 10, m⟩
  | .sfUnblock m => some ⟨6, 11, m⟩
  | .policerSet m => some ⟨6, 12, m⟩
  | .policerUnlatch m => some ⟨6, 13, m⟩
  | .frerGenSet m => some ⟨6, 14, m⟩
  | .frerRecSet m => some ⟨6, 15, m⟩
  | .canSet m => some ⟨7, 1, m⟩
  | .linSet m => some ⟨7, 2, m⟩
  | .routeWrite m => some ⟨7, 3, m⟩
  | .containerSet m => some ⟨7, 4, m⟩
  | .linFrames m => some ⟨7, 5, m⟩
  | .linSchedule m => some ⟨7, 6, m⟩
  | .linSelect m => some ⟨7, 7, m⟩
  | .slotTable m => some ⟨7, 8, m⟩
  | .busRecover m => some ⟨7, 9, m⟩
  | .rateCand m => some ⟨7, 10, m⟩
  | .isoInstance m => some ⟨7, 11, m⟩
  | .channelStatus m => some ⟨7, 12, m⟩
  | .linkSet m => some ⟨8, 1, m⟩
  | .linkStatus m => some ⟨8, 2, m⟩
  | .linkRedetect m => some ⟨8, 3, m⟩
  | .unhitch m => some ⟨8, 4, m⟩
  | .discConfig m => some ⟨8, 5, m⟩
  | .discWrite m => some ⟨8, 6, m⟩
  | .discTable m => some ⟨8, 7, m⟩
  | .dccbSend m => some ⟨8, 8, m⟩
  | .dccbRecv m => some ⟨8, 9, m⟩
  | .zoneTable m => some ⟨8, 10, m⟩
  | .ttRead m => some ⟨8, 11, m⟩
  | .importKey m => some ⟨9, 1, m⟩
  | .generate m => some ⟨9, 2, m⟩
  | .derive m => some ⟨9, 3, m⟩
  | .destroy m => some ⟨9, 4, m⟩
  | .readAttr m => some ⟨9, 5, m⟩
  | .lcChallenge m => some ⟨9, 6, m⟩
  | .lcTransition m => some ⟨9, 7, m⟩
  | .attest m => some ⟨9, 8, m⟩
  | .lcStatus m => some ⟨9, 9, m⟩
  | .ctxWrite m => some ⟨10, 1, m⟩
  | .ctxRead m => some ⟨10, 2, m⟩
  | .saWrite m => some ⟨10, 3, m⟩
  | .saRead m => some ⟨10, 4, m⟩
  | .stage m => some ⟨10, 5, m⟩
  | .stageClear m => some ⟨10, 6, m⟩
  | .stageRead m => some ⟨10, 7, m⟩
  | .hmac m => some ⟨10, 8, m⟩
  | .cmac m => some ⟨10, 9, m⟩
  | .gcmSeal m => some ⟨10, 10, m⟩
  | .gcmOpen m => some ⟨10, 11, m⟩
  | .modeSet m => some ⟨10, 12, m⟩
  | .katRun m => some ⟨10, 13, m⟩
  | .powerReq m => some ⟨11, 1, m⟩
  | .powerStatus m => some ⟨11, 2, m⟩
  | .nmSet m => some ⟨11, 3, m⟩
  | .nmRequest m => some ⟨11, 4, m⟩
  | .wakeSet m => some ⟨11, 5, m⟩
  | .wakeCause m => some ⟨11, 6, m⟩
  | .lampStatus m => some ⟨12, 1, m⟩
  | .safeRelease m => some ⟨12, 2, m⟩
  | .safeOpenSet m => some ⟨12, 3, m⟩
  | .faultInject m => some ⟨12, 4, m⟩
  | .debugChallenge m => some ⟨12, 5, m⟩
  | .debugUnlock m => some ⟨12, 6, m⟩
  | .twinSet m => some ⟨13, 1, m⟩
  | .twinStatus m => some ⟨13, 2, m⟩
  | .relinquish m => some ⟨13, 3, m⟩
  | .fwWrite m => some ⟨14, 1, m⟩
  | .fwVerify m => some ⟨14, 2, m⟩
  | .fwSwitch m => some ⟨14, 3, m⟩
  | .fwStatus m => some ⟨14, 4, m⟩
  | .counterCatalog m => some ⟨15, 1, m⟩
  | .counterRead m => some ⟨15, 2, m⟩
  | .statusRead m => some ⟨15, 3, m⟩
  | .descRead m => some ⟨15, 4, m⟩
  | .mcLinkRead m => some ⟨15, 5, m⟩
  | .keyTrace m => some ⟨15, 6, m⟩
  | .eventLogRead m => some ⟨15, 7, m⟩
  | .eventCatalog m => some ⟨15, 8, m⟩
  | _ => none

end Sys2Proof.Claims
end

