-- ==== Sys2Proof/Certificates/Slice0/Obligations.lean ====
section
/-! DEFINITION. Certificates/Slice0/Obligations.lean: the statements about the model that are to be proved. A statement says where a command completes in the form `Completes c s t`: exec answers the next state that settling `t` gives; the statements SettleLeavesQuietStateAlone and SettleOnlyLogsEvents say what settling does. -/

open Sys2Proof Sys2Proof.Machine Sys2Proof.Claims

/-! ## The machine as a whole -/

/-- A step takes the command at the front of the queue and executes it on the state with the rest of the queue. -/
def Obligations.StepExecutesFrontCommand : Prop :=
  ∀ (c : Instr) (rest : List Instr) (s : State), step { s with pending := c :: rest } = exec c { s with pending := rest }

/-- With no command waiting, one BCN cycle of 2 ns passes (log entry 2: the model's own choice): only elapsed time, Beacon time while the Beacon is powered and clocked (R25, R377), and the credits of CBS queues change. -/
def Obligations.IdleStepLetsOneCyclePass : Prop :=
  ∀ s : State, s.pending = [] →
    step s = .next { s with cyc := s.cyc + 1, bcn := if clockRuns 15 s then { s.bcn with total := ((Int.ofNat s.bcn.total + (2 ^ 40 + s.bcn.rate)) % Int.ofNat beaconWrap).toNat } else s.bcn, sch := { s.sch with credit := creditsAfter 1 s } }

/-- Every step answers a next state: the manual gives every command an effect, so none ends in a fault or a refusal. -/
def Obligations.EveryStepAdvances : Prop := ∀ s : State, Advances s

/-- What the manual says of the module right after a power-on reset: no safe state (R416), the last reset is a power-on (R475), gate control, windows and rings inactive, every port disabled (R228), Beacon time 0 and FREE (R99, R107), all counters 0 (R7), pool and queues empty, no epoch (R145), Bodkin in START (R303). -/
def Obligations.ResetStateAsStated : Prop :=
  State.reset.pending = [] ∧ State.reset.counters = [] ∧ State.reset.lamp.safe = false ∧ State.reset.boot.last = 0
  ∧ (∀ p < 27, (getPort p State.reset).record.getLsbD 63 = false ∧ (getPort p State.reset).up = false)
  ∧ (∀ p < 27, (getGates p State.reset).live = false)
  ∧ (∀ q < 256, queueOf q State.reset = [])
  ∧ State.reset.pat.current = none ∧ State.reset.bcn.total = 0 ∧ State.reset.bcn.mode = .free ∧ State.reset.bcn.rate = 0
  ∧ (∀ w < 16, (getWindow w State.reset).active.getLsbD 127 = false) ∧ (∀ r < 16, (getRing r State.reset).run = false)
  ∧ (∀ c < 4, getPair c State.reset = {}) ∧ State.reset.bod.mode = .start

/-- Settling a state in which nothing is left to do changes nothing. -/
def Obligations.SettleLeavesQuietStateAlone : Prop := ∀ s : State, quiet s = true → settle s = s

/-- Settling a state whose only unfinished work is events of the Keeper's own blocks, with the Keeper running and no transport subscribed, writes each to the MRAM event log and changes nothing else (R326). -/
def Obligations.SettleOnlyLogsEvents : Prop :=
  ∀ s : State, quietButEvents s = true → keeperRuns s = true → s.yel.pauseUntil = none → unsubscribed s = true →
    (∀ e ∈ s.raised, e.1.viaFabric = false) → (∀ e ∈ s.events, e.1.viaFabric = false) → s.boot.events.length ≤ 19114 →
    (settle s).raised = [] ∧ (settle s).events = [] ∧ (settle s).boot.eventTotal = s.boot.eventTotal + s.events.length + s.raised.length
    ∧ (settle s).boot.events.length = min 19114 (s.boot.events.length + s.events.length + s.raised.length)
    ∧ { settle s with raised := s.raised, events := s.events, boot := { (settle s).boot with events := s.boot.events, eventTotal := s.boot.eventTotal } } = s

/-- Ring memory and descriptor memory list nothing at reset, which is their canonical form. -/
def Obligations.MemoriesCanonicalAtReset : Prop := memoriesOk State.reset = true

/-- Every step keeps the canonical form of the ring and the descriptor memory: addresses strictly rising and no listed byte equal to 0, so that equal memories are equal data. -/
def Obligations.MemoriesStayCanonical : Prop := ∀ s t : State, memoriesOk s = true → step s = .next t → memoriesOk t = true

/-- A counter counts up and stops at its 48-bit all-ones value, where it stays until it is cleared, and no other counter changes; only the counters change (R13). -/
def Obligations.CountersSaturateAndStayApart : Prop :=
  ∀ (n i j : Nat) (c d : Ctr) (s : State), i < 65536 → j < 65536 →
    count d j (bumpBy n c i s) = (if c = d ∧ i = j then min (2 ^ 48 - 1) (count c i s + n) else count d j s)
    ∧ count d j (clearCount c i s) = (if c = d ∧ i = j then 0 else count d j s)
    ∧ { bumpBy n c i s with counters := s.counters } = s ∧ { clearCount c i s with counters := s.counters } = s

/-! ## Yelom commands (R309-R336): the effects of the opcodes -/

/-- The Device class (0x01): the queries answer what the manual lists (R4, R317, R327); SET_LIMITS, EVENT_SUBSCRIBE and RESET write their own state (R323, R326, R331). CONFIG_SAVE replaces the invalid or older image copy by the active configuration, with a generation above that of the valid image, and answers its digest (R485, R487). SET_CMD_KEY has a statement of its own. -/
def Obligations.DeviceClassRuns : Prop :=
  Runs .deviceInfo cmdDeviceInfo (fun _ p _ => p = [])
    (fun _ _ u => (u, natBytes 4 Config.partCode ++ [Config.revision] ++ natBytes 1 (lcState u) ++ natBytes 1 u.boot.bank ++ natBytes 1 (twinRole u)
      ++ natBytes 4 (if u.boot.bank ≤ 1 then bankVersion u.boot.bank u else 0) ++ natBytes 4 u.boot.count ++ natBytes 8 Config.serial.toNat ++ natBytes 1 u.boot.last ++ natBytes 7 0))
  ∧ Runs .seqFloor cmdSeqFloor (fun _ p _ => p = [])
    (fun v _ u => (u, natBytes 4 (getTrans (transportOf v) u).lastSeq ++ natBytes 4 (getTrans (transportOf v) u).reserved ++ natBytes 4 (keyGeneration (transportOf v) u)))
  ∧ Runs .setLimits cmdSetLimits
    (fun _ p _ => p.length = 8 ∧ numAt p 0 1 ≤ 2 ∧ zeros 1 1 p ∧ 100 ≤ numAt p 2 2 ∧ numAt p 2 2 ≤ 50000 ∧ 1 ≤ numAt p 4 2 ∧ numAt p 4 2 ≤ 64 ∧ zeros 6 2 p)
    (fun _ p u =>
      let t := transportNo (numAt p 0 1)
      let x := getTrans t u
      (recorded cmdSetLimits 1 p (setTrans t { x with rate := numAt p 2 2, depth := numAt p 4 2, tokens := min (numAt p 4 2 * 500000000) (tokensNow x u), tokensAt := u.cyc } u), []))
  ∧ Runs .eventSubscribe cmdEventSubscribe (fun _ p _ => p.length = 4 ∧ numAt p 0 2 % 2 = 0 ∧ zeros 2 2 p)
    (fun v p u => (setTrans (transportOf v) { getTrans (transportOf v) u with eventMask := BitVec.ofNat 16 (numAt p 0 2), eventTo := some v } u, []))
  ∧ Runs .reset cmdReset (fun _ p _ => p.length = 4 ∧ numAt p 0 1 ≤ 1 ∧ zeros 1 3 p)
    (fun _ p u => (setYel { u.yel with resetTaken := some (numAt p 0 1, u.cyc + msCyc) } u, []))
  ∧ Runs .echo cmdEcho (fun _ p _ => p.length ≤ 4096) (fun _ p u => (u, p))
  ∧ Runs .configSave cmdConfigSave (fun _ p u => p = [] ∧ imageFits (activeRecords u) = true)
    (fun _ _ u =>
      let older := match getCopy 0 u, getCopy 1 u with
        | some a, some b => if a.gen ≤ b.gen then 0 else 1
        | some _, none => 1
        | none, _ => 0
      let gen := (match bestCopy u with | some i => i.gen | none => 0) + 1
      (setBoot { u.boot with copies := mapSet none u.boot.copies older (some { format := snapFormat u, gen := gen, recs := activeRecords u, digest := digestOf (activeRecords u) }) } u, configDigest u))

/-- SET_CMD_KEY: naming another slot restarts the transport's sequence and reservation at 0 (R317); its reply is still authenticated with the key in force when the command was received (R313). -/
def Obligations.SetCmdKeyRestartsSequence : Prop :=
  ∀ (m : Msg) (s u : State), admits ⟨1, 3, m⟩ s u → runnable cmdSetCmdKey (paramsOf m) u → pairActive u = false →
    (paramsOf m).length = 4 → numAt (paramsOf m) 0 1 ≤ 2 → (numAt (paramsOf m) 1 1 < 64 ∨ numAt (paramsOf m) 1 1 = 255) → zeros 2 2 (paramsOf m) →
    let t := transportNo (numAt (paramsOf m) 0 1)
    let slot : Option Nat := if numAt (paramsOf m) 1 1 = 255 then none else some (numAt (paramsOf m) 1 1)
    let v : State := if (getTrans t u).keySlot = slot then u else setTrans t { getTrans t u with keySlot := slot, lastSeq := 0, reserved := 0 } u
    Completes (.setCmdKey m) s
      (refreshKeys (sendReply m.via true (replyBytes 1 3 m .ok [] false (commandKey (transportOf m.via) u)) (recorded cmdSetCmdKey 1 (paramsOf m) v)))

/-- The Port and Fabric/queue classes (0x02, 0x03): PORT_SET writes a record that keeps the table of R228, PORT_GET and the status opcodes answer, LLDP_SET, FASTLINK_CLEAR, QUEUE_SET and BUFFER_SET write their fields (R47, R62, R65, R66, R228, R232, R238, R330). -/
def Obligations.PortAndQueueClassesRun : Prop :=
  Runs .portSet cmdPortSet
    (fun _ p u => p.length = 12 ∧ numAt p 0 1 ≤ 26 ∧ zeros 1 3 p ∧ portRecordBad (numAt p 0 1) (BitVec.ofNat 64 (numAt p 4 8)) = false
      ∧ 0 ≤ poolSize (setPort (numAt p 0 1) { getPort (numAt p 0 1) u with record := BitVec.ofNat 64 (numAt p 4 8) } u))
    (fun _ p u => (recorded cmdPortSet 1 p (portSet (numAt p 0 1) (BitVec.ofNat 64 (numAt p 4 8)) u), []))
  ∧ Runs .portGet cmdPortGet (fun _ p _ => p.length = 4 ∧ numAt p 0 1 ≤ 26 ∧ zeros 1 3 p) (fun _ p u => (u, natBytes 8 (getPort (numAt p 0 1) u).record.toNat))
  ∧ Runs .portStatus cmdPortStatus (fun _ p u => p.length = 4 ∧ numAt p 0 1 ≤ 26 ∧ zeros 1 3 p ∧ (getPort (numAt p 0 1) u).up = true ∧ (getPort (numAt p 0 1) u).partner ≠ 2)
    (fun _ p u =>
      let i := numAt p 0 1
      let q := getPort i u
      (u, natBytes 1 q.mode ++ natBytes 1 (if isT1 i then q.role else 0) ++ natBytes 1 q.training
        ++ natBytes 1 ((if q.fast then 8 else 0) + (if q.stored.isSome then 4 else 0) + (if (preemptA i u).isSome then 2 else 0) + 1)
        ++ natBytes 1 q.partner ++ natBytes 2 0 ++ natBytes 1 ((preemptA i u).getD 0) ++ List.replicate 56 0))
  ∧ Runs .lldpSet cmdLldpSet
    (fun _ p _ => p.length = 12 ∧ numAt p 0 1 ≤ 26 ∧ zeros 1 1 p ∧ 1 ≤ numAt p 2 2 ∧ numAt p 2 2 ≤ 3600 ∧ numAt p 4 2 ≤ 10000 ∧ numAt p 6 2 ≤ 10000 ∧ zeros 8 4 p)
    (fun _ p u => (recorded cmdLldpSet 1 p (setPort (numAt p 0 1)
      { getPort (numAt p 0 1) u with lldpInterval := numAt p 2 2, lldpWait := numAt p 4 2, absentHold := numAt p 6 2 } u), []))
  ∧ Runs .partnerZones cmdPartnerZones
    (fun _ p _ => p.length = 8 ∧ numAt p 0 1 ≤ 26 ∧ numAt p 1 1 = 0 ∧ numAt p 2 1 ≤ 15 ∧ numAt p 3 1 ≤ 15 ∧ numAt p 4 1 ≤ 15 ∧ zeros 5 3 p)
    (fun _ p u => (recorded cmdPartnerZones 1 p (chooseZone (numAt p 0 1) (setPort (numAt p 0 1)
      { getPort (numAt p 0 1) u with zones := some { absent := numAt p 2 1, unident := numAt p 3 1, unlisted := numAt p 4 1, ents := [] } } u)), []))
  ∧ Runs .fastlinkClear cmdFastlinkClear (fun _ p _ => p.length = 4 ∧ numAt p 0 1 ≤ 26 ∧ zeros 1 3 p)
    (fun _ p u => (setPort (numAt p 0 1) { getPort (numAt p 0 1) u with stored := none } u, []))
  ∧ Runs .queueSet cmdQueueSet
    (fun _ p u => p.length = 12 ∧ numAt p 0 1 ≤ 31 ∧ numAt p 1 1 ≤ 7 ∧ numAt p 2 1 = 0 ∧ numAt p 3 1 = 0 ∧ 1 ≤ numAt p 4 1 ∧ zeros 5 1 p ∧ 64 ≤ numAt p 6 2 ∧ numAt p 6 2 ≤ 9216
      ∧ dwrrOk (numAt p 0 1) (setQueueParam (8 * numAt p 0 1 + numAt p 1 1)
          { sel := 0, preemptable := false, weight := numAt p 4 1, maxSdu := numAt p 6 2, idle := numAt p 8 4 } u) = true)
    (fun _ p u => (recorded cmdQueueSet 2 p (setQueueParam (8 * numAt p 0 1 + numAt p 1 1)
          { sel := 0, preemptable := false, weight := numAt p 4 1, maxSdu := numAt p 6 2, idle := numAt p 8 4 } u), []))
  ∧ Runs .bufferSet cmdBufferSet
    (fun _ p u => p.length = 8 ∧ numAt p 0 1 ≤ 31 ∧ numAt p 1 1 ≤ 7 ∧ numAt p 2 1 ≤ 9 ∧ numAt p 3 1 ≤ 1 ∧ 1 ≤ numAt p 4 2 ∧ numAt p 4 2 ≤ 8192 ∧ 1 ≤ numAt p 6 2 ∧ numAt p 6 2 ≤ 1000
      ∧ 0 ≤ poolSize (setBuf (8 * numAt p 0 1 + numAt p 1 1) { k := numAt p 2 1, headDrop := numAt p 3 1 == 1, reserve := numAt p 4 2, limitMs := numAt p 6 2 } u))
    (fun _ p u => (recorded cmdBufferSet 2 p (endContention (setBuf (8 * numAt p 0 1 + numAt p 1 1)
      { k := numAt p 2 1, headDrop := numAt p 3 1 == 1, reserve := numAt p 4 2, limitMs := numAt p 6 2 } (flushPort (numAt p 0 1) u))), []))
  ∧ Runs .queueStatus cmdQueueStatus (fun _ p _ => p.length = 4 ∧ numAt p 0 1 ≤ 31 ∧ numAt p 1 1 ≤ 7 ∧ zeros 2 2 p)
    (fun _ p u =>
      let q := 8 * numAt p 0 1 + numAt p 1 1
      (u, natBytes 4 (occOf q u) ++ natBytes 4 (useOf q u) ++ natBytes 1 (if contendedNow q u then 1 else 0) ++ natBytes 1 (if mapGet false u.sch.overrate q then 1 else 0)
        ++ natBytes 2 0 ++ intBytes 4 (mapGet 0 u.sch.deficit q) ++ intBytes 8 (mapGet 0 u.sch.credit q * 256 / 1000000)))
  ∧ Runs .boltStatus cmdBoltStatus (fun _ p _ => p = [])
    (fun _ _ u => (u, natBytes 4 (sFree u) ++ natBytes 4 (poolSize u).toNat ++ (List.range 4).flatMap (fun q => natBytes 4 (quadOcc q u))
      ++ (List.range 32).flatMap (fun p => natBytes 2 (mapGet 0 u.fab.headroom p))))

/-- The Schedule class (0x04): writes go to shadow lists that no commit locks, a valid commit sets CT, a cancel before the lead withdraws it, and the reads answer (R73, R77-R80, R91, R330). -/
def Obligations.ScheduleClassRuns : Prop :=
  Runs .gclWrite cmdGclWrite
    (fun _ p u => numAt p 4 2 = 1 ∧ p.length = 24 ∧ numAt p 0 1 ≤ 26 ∧ zeros 1 1 p ∧ numAt p 2 2 ≤ 1023 ∧ zeros 6 2 p
      ∧ entryBad (BitVec.ofNat 128 (beNat (p.drop 8))) = false ∧ (getGates (numAt p 0 1) u).pend = none)
    (fun _ p u =>
      let g := getGates (numAt p 0 1) u
      (setGates (numAt p 0 1) { g with shadow := { g.shadow with ents := mapSet 0 g.shadow.ents (numAt p 2 2) (BitVec.ofNat 128 (beNat (p.drop 8))) } } u, []))
  ∧ Runs .gclParams cmdGclParams
    (fun _ p u => p.length = 24 ∧ numAt p 0 1 ≤ 26 ∧ zeros 1 1 p ∧ 1 ≤ numAt p 2 2 ∧ numAt p 2 2 ≤ 1024 ∧ 100 ≤ numAt p 4 4 ∧ numAt p 4 4 ≤ 1000000000 ∧ numAt p 8 4 ≤ 1000000000
      ∧ numAt p 18 4 < 1000000000 ∧ numAt p 23 1 ≤ 1 ∧ (getGates (numAt p 0 1) u).pend = none)
    (fun _ p u =>
      let g := getGates (numAt p 0 1) u
      (setGates (numAt p 0 1) { g with shadow := { g.shadow with
        len := numAt p 2 2, cycle := numAt p 4 4, ext := numAt p 8 4, base := numAt p 12 6 * 1000000000 + numAt p 18 4, shut := BitVec.ofNat 8 (numAt p 22 1), enable := numAt p 23 1 == 1 } } u, []))
  ∧ Runs .gclCommit cmdGclCommit
    (fun _ p u => p.length = 4 ∧ numAt p 0 1 ≤ 26 ∧ zeros 1 3 p ∧ (getGates (numAt p 0 1) u).pend = none ∧ listBad (getGates (numAt p 0 1) u).shadow = false
      ∧ classChecks (numAt p 0 1) (getGates (numAt p 0 1) u).shadow u = true ∧ tooManyKeys (numAt p 0 1) u = false)
    (fun _ p u =>
      let g := getGates (numAt p 0 1) u
      let ct := commitTime g.shadow.base g.shadow.cycle u
      (setGates (numAt p 0 1) { g with pend := some ct } u, timeBytes (ct.toNat * 65536)))
  ∧ (∀ ct : Int, Runs .gclCancel cmdGclCancel
      (fun _ p u => p.length = 4 ∧ numAt p 0 1 ≤ 26 ∧ zeros 1 3 p ∧ (getGates (numAt p 0 1) u).pend = some ct ∧ Int.ofNat (nowNs u + (commitLead u).2) ≤ ct)
      (fun _ p u => (setGates (numAt p 0 1) { getGates (numAt p 0 1) u with pend := none } u, [])))
  ∧ Runs .gclRead cmdGclRead
    (fun _ p _ => p.length = 8 ∧ numAt p 0 1 ≤ 26 ∧ numAt p 1 1 ≤ 1 ∧ 1 ≤ numAt p 4 2 ∧ numAt p 4 2 ≤ 255 ∧ numAt p 2 2 + numAt p 4 2 ≤ 1024 ∧ zeros 6 2 p)
    (fun _ p u =>
      let g := getGates (numAt p 0 1) u
      (u, (List.range (numAt p 4 2)).flatMap (fun i => natBytes 16 (mapGet 0 (if numAt p 1 1 = 0 then g.act else g.shadow).ents (numAt p 2 2 + i)).toNat)))
  ∧ Runs .gclStatus cmdGclStatus (fun _ p _ => p.length = 4 ∧ numAt p 0 1 ≤ 26 ∧ zeros 1 3 p) (fun _ p u => (u, gclStatusReply (numAt p 0 1) u))
  ∧ Runs .sgateWrite cmdSgateWrite
    (fun _ p u => 1 ≤ numAt p 1 1 ∧ numAt p 1 1 ≤ 64 ∧ p.length = 24 + 8 * numAt p 1 1 ∧ sgateOk p = true ∧ (getSGate (numAt p 0 1) u).pend = none)
    (fun _ p u => (setSGate (numAt p 0 1) { getSGate (numAt p 0 1) u with shadow := sgListOf p } u, []))
  ∧ Runs .sgateCommit cmdSgateCommit
    (fun _ p u => p.length = 4 ∧ zeros 1 3 p ∧ (getSGate (numAt p 0 1) u).pend = none ∧ (getSGate (numAt p 0 1) u).shadow.ents ≠ [])
    (fun _ p u =>
      let g := getSGate (numAt p 0 1) u
      let ct := commitTime g.shadow.base g.shadow.cycle u
      (setSGate (numAt p 0 1) { g with pend := some ct } u, timeBytes (ct.toNat * 65536)))
  ∧ (∀ ct : Int, Runs .sgateCancel cmdSgateCancel
      (fun _ p u => p.length = 4 ∧ zeros 1 3 p ∧ (getSGate (numAt p 0 1) u).pend = some ct ∧ Int.ofNat (nowNs u + (commitLead u).2) ≤ ct)
      (fun _ p u => (setSGate (numAt p 0 1) { getSGate (numAt p 0 1) u with pend := none } u, [])))
  ∧ Runs .sgateUnlock cmdSgateUnlock (fun _ p _ => p.length = 4 ∧ zeros 1 3 p)
    (fun _ p u => (setSGate (numAt p 0 1) { getSGate (numAt p 0 1) u with locked := false } u, []))

/-- The Time/stitch class (0x05): reads of time and stitch bases, steps of Beacon time in the states that allow them, the servo's and gPTP's configuration, trims, stitch samples and directions, and marks (R99-R117, R127). -/
def Obligations.TimeClassRuns : Prop :=
  Runs .timeGet cmdTimeGet (fun _ p _ => p = [])
    (fun _ _ u => (u, timeBytes (nowFrac u) ++ natBytes 1 u.bcn.mode.ctorIdx ++ natBytes 1 ((if u.bcn.stepPending then 1 else 0) + (if u.bcn.provisional then 2 else 0)) ++ natBytes 2 0))
  ∧ Runs .setTime cmdSetTime (fun _ p _ => p.length = 12 ∧ numAt p 6 4 < 1000000000) (fun _ p u => (stepBeacon (Int.ofNat (timeAt p 0) - Int.ofNat (nowFrac u)) u, []))
  ∧ Runs .gmSetTime cmdGmSetTime (fun _ p _ => p.length = 12 ∧ numAt p 6 4 < 1000000000) (fun _ p u => (stepBeacon (Int.ofNat (timeAt p 0) - Int.ofNat (nowFrac u)) u, []))
  ∧ Runs .acceptStep cmdAcceptStep (fun _ p u => p = [] ∧ u.bcn.stepPending = true ∧ u.bcn.refusedAt ≠ some u.cyc)
    (fun _ _ u =>
      let v := stepBeacon u.bcn.pendOffset u
      (setBcn { v.bcn with stepPending := false, provisional := false, mode := .acquire, good := 0, far := 0 } v,
       intBytes 6 (u.bcn.pendOffset / 65536 / 1000000000) ++ natBytes 4 (u.bcn.pendOffset / 65536 % 1000000000).toNat ++ natBytes 2 0))
  ∧ Runs .servoSet cmdServoSet
    (fun _ p _ => p.length = 12 ∧ 1 ≤ numAt p 0 4 ∧ numAt p 0 4 ≤ 1000000000 ∧ 1 ≤ numAt p 4 2 ∧ numAt p 4 2 ≤ 1000 ∧ numAt p 6 1 ≤ 1 ∧ zeros 7 1 p ∧ 1000 ≤ numAt p 8 4 ∧ numAt p 8 4 ≤ 1000000000)
    (fun _ p u => (recorded cmdServoSet 0 p (setBcn { u.bcn with threshold := numAt p 0 4, slewPpm := numAt p 4 2, autoAcquire := numAt p 6 1 == 1, wakeLimit := numAt p 8 4 } u), []))
  ∧ Runs .gptpSet cmdGptpSet
    (fun _ p _ => p.length = 44 ∧ numAt p 0 1 ≤ 1 ∧ numAt p 1 1 ≤ 127 ∧ numAt p 2 1 ≤ 1 ∧ numAt p 3 1 = 0 ∧ zeros 6 2 p ∧ zeros 10 2 p ∧ numAt p 12 4 < 2 ^ 27
      ∧ ((p.drop 16).take 27).all (fun r => decide (r.toNat ≤ 3)) = true ∧ zeros 43 1 p)
    (fun _ p u => (recorded cmdGptpSet 1 p (setInst (numAt p 0 1) { getInst (numAt p 0 1) u with
      domain := numAt p 1 1, external := numAt p 2 1 == 1, prio1 := numAt p 4 1, prio2 := numAt p 5 1, logSync := BitVec.ofNat 8 (numAt p 8 1), logPdelay := BitVec.ofNat 8 (numAt p 9 1),
      portMask := BitVec.ofNat 32 (numAt p 12 4), roles := (p.drop 16).take 27 } u), []))
  ∧ Runs .rateSet cmdRateSet (fun _ p _ => p.length = 4) (fun _ p u => (setBcn { u.bcn with rate := intAt p 0 4 } u, []))
  ∧ Runs .domainConvert cmdDomainConvert (fun _ p _ => p.length = 16 ∧ numAt p 0 1 = 0 ∧ zeros 1 3 p ∧ numAt p 10 4 < 1000000000)
    (fun _ p u => (u, timeBytes (wrapFrac (toTracked (getInst (1 - u.bcn.primary) u) (Int.ofNat (timeAt p 4)) u))))
  ∧ Runs .portTrim cmdPortTrim (fun _ p _ => p.length = 8 ∧ numAt p 0 1 ≤ 26 ∧ zeros 1 1 p ∧ zeros 6 2 p)
    (fun _ p u => (recorded cmdPortTrim 1 p (setBcn { u.bcn with trims := mapSet (0, 0) u.bcn.trims (numAt p 0 1) (intAt p 2 2, intAt p 4 2) } u), []))
  ∧ Runs .stbConfig cmdStbConfig
    (fun _ p u => p.length = 20 ∧ numAt p 0 1 ≤ 3 ∧ zeros 1 3 p ∧ baseBad (BitVec.ofNat 128 (numAt p 4 16)) = false ∧ (stitchKeys (committedKeys u)).any (fun k => keyBase k.2 == numAt p 0 1) = false)
    (fun _ p u =>
      let b := getBase (numAt p 0 1) u
      (recorded cmdStbConfig 1 p (setBase (numAt p 0 1)
        { record := BitVec.ofNat 128 (numAt p 4 16), pinA := b.pinA, pinB := b.pinB, edgeCyc := b.edgeCyc, heard := u.cyc } u), []))
  ∧ Runs .stbRead cmdStbRead (fun _ p _ => p.length = 4 ∧ numAt p 0 1 ≤ 3 ∧ zeros 1 3 p) (fun _ p u => (u, stbReadReply (numAt p 0 1) u))
  ∧ Runs .stbSample cmdStbSample (fun _ p _ => p.length = 32 ∧ numAt p 0 1 ≤ 3 ∧ zeros 1 3 p ∧ numAt p 26 4 < 1000000000)
    (fun _ p u => (stbSample (numAt p 0 1) (intAt p 4 8) (intAt p 12 8) (timeAt p 20) u, []))
  ∧ Runs .stbDir cmdStbDir (fun _ p _ => p.length = 4 ∧ numAt p 0 1 ≤ 3 ∧ numAt p 1 1 ≤ 1 ∧ zeros 2 2 p)
    (fun _ p u => (setBase (numAt p 0 1) { getBase (numAt p 0 1) u with cmdFwd := numAt p 1 1 == 0 } u, []))
  ∧ Runs .markSet cmdMarkSet
    (fun _ p u =>
      let r := BitVec.ofNat 64 (numAt p 4 8)
      p.length = 12 ∧ bits r 61 57 = 0 ∧ numAt p 0 1 ≤ 7 ∧ zeros 1 3 p ∧ bits r 56 32 = 0 ∧ 8 ≤ bits r 31 0 ∧ bits r 31 0 ≤ 1000000000
        ∧ tracksTooMany (epochKeys (curTables (markSet (numAt p 0 1) r [] u))) (markSet (numAt p 0 1) r [] u) = false)
    (fun _ p u => (recorded cmdMarkSet 1 p (markSet (numAt p 0 1) (BitVec.ofNat 64 (numAt p 4 8)) [] u), []))


/-- The Pattern class (0x06), epochs: writes go to the pending epoch alone, a swap makes it current, or is refused for a wrong number or for a check that fails, which it then names, a discard drops it (R137, R138, R142, R145, R146, R158, R161, R163, R328). A load into a node that a live epoch owns is refused. -/
def Obligations.EpochCommandsRun : Prop :=
  Runs .nodeLoad cmdNodeLoad
    (fun _ p u => 1 ≤ numAt p 2 2 ∧ numAt p 2 2 ≤ 63 ∧ numAt p 0 2 + numAt p 2 2 ≤ 65536 ∧ p.length = 4 + 64 * numAt p 2 2
      ∧ ∀ i ∈ ownedNodes u, i < numAt p 0 2 ∨ numAt p 0 2 + numAt p 2 2 ≤ i)
    (fun _ p u =>
      let mine := (List.range (numAt p 2 2)).map (fun i => numAt p 0 2 + i)
      let mem := consecutive (BitVec 512) 0 (fun e => BitVec.ofNat 512 (numAt e 0 64)) 4 64 (numAt p 2 2) (numAt p 0 2) p u.pat.nodeMem
      (epochRecorded cmdNodeLoad 4 p u (writePending (fun t => { t with nodes := t.nodes.filter (fun i => !(mine.contains i)) ++ mine, ownTree := true })
        (setPat { u.pat with nodeMem := mem } u)), []))
  ∧ Declines .nodeLoad cmdNodeLoad .denied
    (fun _ p u => 1 ≤ numAt p 2 2 ∧ numAt p 2 2 ≤ 63 ∧ numAt p 0 2 + numAt p 2 2 ≤ 65536 ∧ p.length = 4 + 64 * numAt p 2 2
      ∧ ∃ i ∈ ownedNodes u, numAt p 0 2 ≤ i ∧ i < numAt p 0 2 + numAt p 2 2)
    (fun _ u => u)
  ∧ Runs .rootSet cmdRootSet (fun _ p _ => p.length = 240 ∧ ∀ i < 80, numAt p (3 * i) 1 ≤ 1)
    (fun _ p u => (inPending cmdRootSet 0 p (fun t => { t with ownTree := true, roots := (List.range 80).foldl (fun m i => mapSet none m i (if numAt p (3 * i) 1 = 1 then some (numAt p (3 * i + 1) 2) else none)) [] }) u, []))
  ∧ Runs .zoneMapSet cmdZoneMapSet (fun _ p _ => p.length = 36)
    (fun _ p u => (inPending cmdZoneMapSet 0 p (fun t => { t with zoneMap := (List.range 72).foldl (fun m i => mapSet 0 m i (if i % 2 = 0 then numAt p (i / 2) 1 / 16 else numAt p (i / 2) 1 % 16)) [] }) u, []))
  ∧ Runs .matrixSet cmdMatrixSet (fun _ p _ => p.length = 256 ∧ ∀ e ∈ p, bits e 7 6 ≠ 3 ∧ bits e 3 0 = 0)
    (fun _ p u => (inPending cmdMatrixSet 0 p (fun t => { t with matrix := (List.range 256).foldl (fun m i => mapSet 0 m i (p.getD i 0)) [] }) u, []))
  ∧ Runs .groupSet cmdGroupSet
    (fun _ p _ => p.length = 24 ∧ numAt p 0 1 ≤ 63 ∧ 1 ≤ numAt p 1 1 ∧ numAt p 1 1 ≤ 16 ∧ zeros 2 2 p ∧ (∀ b ∈ (p.drop 8).take (numAt p 1 1), b.toNat ≤ 26)
      ∧ ∀ b ∈ p.drop (8 + numAt p 1 1), b = 0)
    (fun _ p u => (inPending cmdGroupSet 1 p (fun t => { t with groups := mapSet {} t.groups (numAt p 0 1) { members := ((p.drop 8).take (numAt p 1 1)).map (fun b => b.toNat), seed := numAt p 4 4 } }) u, []))
  ∧ (∀ t : EpochTables, Runs .epochSwap cmdEpochSwap
      (fun _ p u => p.length = 4 ∧ zeros 1 3 p ∧ numAt p 0 1 = u.pat.nextNumber ∧ u.pat.draining = none ∧ u.pat.pending = some t
        ∧ epochChecks (swapTables (numAt p 0 1) t u) u = true)
      (fun _ p u => (swapIn (numAt p 0 1) t u, natBytes 1 (numAt p 0 1) ++ natBytes 3 0)))
  ∧ (∀ t : EpochTables, Declines .epochSwap cmdEpochSwap .denied
      (fun _ p u => p.length = 4 ∧ zeros 1 3 p ∧ numAt p 0 1 = u.pat.nextNumber ∧ u.pat.draining = none ∧ u.pat.pending = some t
        ∧ epochChecks (swapTables (numAt p 0 1) t u) u = false)
      (fun p u => nameFault (swapTables (numAt p 0 1) t u) u))
  ∧ Declines .epochSwap cmdEpochSwap .staleEpoch
      (fun _ p u => p.length = 4 ∧ zeros 1 3 p ∧ u.pat.draining = none ∧ numAt p 0 1 ≠ u.pat.nextNumber)
      (fun _ u => u)
  ∧ Runs .epochDiscard cmdEpochDiscard (fun _ p _ => p = []) (fun _ _ u => (setPat { u.pat with pending := none } (setBoot { u.boot with pendingRecords := [] } u), []))
  ∧ Runs .epochStatus cmdEpochStatus (fun _ p _ => p = []) (fun _ _ u => (u, epochStatusReply u))

/-- The Pattern class (0x06), streams: options, stream filters, policers and FRER functions take their records; a filter that blocks stays blocked until SF_UNBLOCK, a policer starts with full buckets, a sequence generator at 0 (R88, R90, R92, R93, R95-R97, R143). -/
def Obligations.StreamCommandsRun : Prop :=
  Runs .patOptions cmdPatOptions
    (fun _ p _ =>
      let marks := (List.range 32).filter (fun i => (BitVec.ofNat 32 (numAt p 0 4)).getLsbD i)
      p.length = 28 ∧ (∀ i ∈ marks, i ≤ 26) ∧ marks.length ≤ 4 ∧ (∀ a ∈ (p.drop 4).take 16, a.toNat ≤ 3) ∧ 1 ≤ numAt p 20 2 ∧ numAt p 20 2 ≤ 1000
        ∧ 1 ≤ numAt p 22 1 ∧ numAt p 22 1 ≤ 8 ∧ zeros 23 1 p)
    (fun _ p u => (recorded cmdPatOptions 0 p (setPat { u.pat with expressMask := BitVec.ofNat 32 (numAt p 0 4), depthAction := (List.range 16).foldl (fun m z => mapSet 0 m z (numAt p (4 + z) 1)) [], fragMs := numAt p 20 2, workers := numAt p 22 1, workerSeed := numAt p 24 4 } u), []))
  ∧ Runs .sfSet cmdSfSet
    (fun _ p _ => p.length = 16 ∧ 1 ≤ numAt p 0 2 ∧ numAt p 0 2 ≤ 4095 ∧ (numAt p 2 1 ≤ 7 ∨ numAt p 2 1 = 255) ∧ numAt p 3 1 ≤ 1
      ∧ (numAt p 4 2 = 0 ∨ (64 ≤ numAt p 4 2 ∧ numAt p 4 2 ≤ 9216)) ∧ (numAt p 6 2 < 256 ∨ numAt p 6 2 = 65535) ∧ (numAt p 8 2 < 4096 ∨ numAt p 8 2 = 65535)
      ∧ (numAt p 10 2 < 2048 ∨ numAt p 10 2 = 65535) ∧ (numAt p 12 2 < 2048 ∨ numAt p 12 2 = 65535) ∧ zeros 14 2 p)
    (fun _ p u => (recorded cmdSfSet 2 p (setFilter (numAt p 0 2)
      { prio := numAt p 2 1, blockOver := numAt p 3 1 == 1, maxSdu := numAt p 4 2, gate := numAt p 6 2, policer := numAt p 8 2, gen := numAt p 10 2, recov := numAt p 12 2, blocked := (getFilter (numAt p 0 2) u).blocked } u), []))
  ∧ Runs .sfUnblock cmdSfUnblock (fun _ p _ => p.length = 4 ∧ 1 ≤ numAt p 0 2 ∧ numAt p 0 2 ≤ 4095 ∧ zeros 2 2 p)
    (fun _ p u => (setFilter (numAt p 0 2) { getFilter (numAt p 0 2) u with blocked := false } u, []))
  ∧ Runs .policerSet cmdPolicerSet
    (fun _ p _ => p.length = 20 ∧ numAt p 0 2 ≤ 4095 ∧ numAt p 2 1 < 16 ∧ zeros 3 1 p ∧ numAt p 4 4 ≤ 25000000 ∧ numAt p 8 4 ≤ 25000000 ∧ zeros 18 2 p)
    (fun _ p u =>
      let fl := numAt p 2 1
      (recorded cmdPolicerSet 2 p (forgetCharges (numAt p 0 2) (setPolicer (numAt p 0 2)
        { present := true, cf := fl / 8 % 2 = 1, cm := fl / 4 % 2 = 1, dropYellow := fl / 2 % 2 = 1, markRed := fl % 2 = 1, cir := numAt p 4 4, eir := numAt p 8 4, cbs := numAt p 12 3, ebs := numAt p 15 3, cTok := numAt p 12 3 * tokUnit, eTok := numAt p 15 3 * tokUnit, at_ := u.cyc, red := decide (fl % 2 = 1) && (getPolicer (numAt p 0 2) u).red } u)), []))
  ∧ Runs .policerUnlatch cmdPolicerUnlatch (fun _ p _ => p.length = 4 ∧ numAt p 0 2 ≤ 4095 ∧ zeros 2 2 p)
    (fun _ p u => (setPolicer (numAt p 0 2) { getPolicer (numAt p 0 2) u with red := false } u, []))
  ∧ Runs .frerGenSet cmdFrerGenSet (fun _ p _ => p.length = 4 ∧ numAt p 0 2 ≤ 2047 ∧ zeros 2 2 p)
    (fun _ p u => (recorded cmdFrerGenSet 2 p { u with sch := { u.sch with gens := mapSet none u.sch.gens (numAt p 0 2) (some 0) } }, []))
  ∧ Runs .frerRecSet cmdFrerRecSet
    (fun _ p _ => p.length = 16 ∧ numAt p 0 2 ≤ 2047 ∧ numAt p 2 1 ≤ 1 ∧ numAt p 3 1 ≤ 3 ∧ (numAt p 2 1 = 1 ∨ (2 ≤ numAt p 4 1 ∧ numAt p 4 1 ≤ 64)) ∧ zeros 5 1 p
      ∧ 1 ≤ numAt p 6 2 ∧ 2 ≤ numAt p 8 1 ∧ numAt p 8 1 ≤ 8 ∧ zeros 9 1 p ∧ 1 ≤ numAt p 12 2 ∧ 1 ≤ numAt p 14 2)
    (fun _ p u => (recorded cmdFrerRecSet 2 p (setRecov (numAt p 0 2)
      { present := true, isMatch := numAt p 2 1 == 1, takeNoSeq := numAt p 3 1 / 2 % 2 = 1, strip := numAt p 3 1 % 2 = 1, histLen := numAt p 4 1, resetMs := numAt p 6 2, paths := numAt p 8 1, diff := numAt p 10 2, testMs := numAt p 12 2, latResetMs := numAt p 14 2, passedAt := u.cyc, testAt := u.cyc, latResetAt := u.cyc } u), []))

/-- The Gateway class (0x07): channel records, routes, containers, LIN frames and tables, slot keys, rate candidates and ISO instances take their values; BUS_RECOVER starts recovery of a bus-off channel (R170, R176, R178, R183, R184, R186, R243-R246, R250, R252, R257, R330). -/
def Obligations.GatewayCommandsRun : Prop :=
  Runs .canSet cmdCanSet
    (fun _ p _ => p.length = 20 ∧ numAt p 0 1 ≤ 31 ∧ zeros 1 3 p
      ∧ (if numAt p 0 1 < 16 then canRecordBad (numAt p 0 1) (BitVec.ofNat 128 (numAt p 4 16)) = false else vcRecordBad (BitVec.ofNat 128 (numAt p 4 16)) = false))
    (fun _ p u => (recorded cmdCanSet 1 p (
      if numAt p 0 1 < 16 then applyCanRecord (numAt p 0 1) (BitVec.ofNat 128 (numAt p 4 16)) u
      else { u with edge := { u.edge with vc := mapSet vcReset u.edge.vc (numAt p 0 1) { record := BitVec.ofNat 128 (numAt p 4 16) } } }), []))
  ∧ Runs .linSet cmdLinSet
    (fun _ p u =>
      let r := BitVec.ofNat 64 (numAt p 4 8)
      let old := (getLin (numAt p 0 1) u).record
      p.length = 12 ∧ numAt p 0 1 ≤ 7 ∧ zeros 1 3 p ∧ linRecordBad r = false ∧ (old.getLsbD 63 = false ∨ r = old &&& ~~~(BitVec.twoPow 64 63)))
    (fun _ p u => (recorded cmdLinSet 1 p (setLin (numAt p 0 1)
      { getLin (numAt p 0 1) u with record := BitVec.ofNat 64 (numAt p 4 8), running := false, waiting := none, echo := none, sleepDue := false, current := [], pos := 0 } u), []))
  ∧ Runs .routeWrite cmdRouteWrite
    (fun _ p _ => 1 ≤ numAt p 2 2 ∧ numAt p 2 2 ≤ 255 ∧ numAt p 0 2 + numAt p 2 2 ≤ 8192 ∧ p.length = 4 + 16 * numAt p 2 2
      ∧ ∀ i < numAt p 2 2, routeBad (BitVec.ofNat 128 (beNat ((p.drop (4 + 16 * i)).take 16))) = false)
    (fun _ p u => (inPending cmdRouteWrite 4 p
      (fun t => { t with routes := consecutive (BitVec 128) 0 (fun e => BitVec.ofNat 128 (beNat e)) 4 16 (numAt p 2 2) (numAt p 0 2) p t.routes }) u, []))
  ∧ Runs .containerSet cmdContainerSet
    (fun _ p _ => p.length = 32 ∧ (numAt p 1 1 = 0x82 ∨ numAt p 1 1 = 5) ∧ numAt p 2 1 ≤ 2 ∧ zeros 3 1 p ∧ 64 ≤ numAt p 26 2 ∧ numAt p 26 2 ≤ 1456 ∧ numAt p 28 2 ≤ 10000 ∧ zeros 30 2 p)
    (fun _ p u => (inPending cmdContainerSet 1 p (fun t => { t with containers := mapSet {} t.containers (numAt p 0 1) { subtype := numAt p 1 1, recType := numAt p 2 1, da := BitVec.ofNat 48 (numAt p 4 6), sa := BitVec.ofNat 48 (numAt p 10 6), tci := BitVec.ofNat 16 (numAt p 16 2), stream := BitVec.ofNat 64 (numAt p 18 8), maxData := numAt p 26 2, flush := numAt p 28 2 } }) u, []))
  ∧ Runs .linFrames cmdLinFrames
    (fun _ p _ => 1 ≤ numAt p 2 1 ∧ numAt p 2 1 ≤ 64 ∧ numAt p 1 1 + numAt p 2 1 ≤ 64 ∧ p.length = 4 + 12 * numAt p 2 1 ∧ numAt p 0 1 ≤ 7 ∧ zeros 3 1 p
      ∧ ∀ i < numAt p 2 1, let e := (p.drop (4 + 12 * i)).take 12
        1 ≤ numAt e 0 1 ∧ numAt e 0 1 ≤ 8 ∧ numAt e 1 1 ≤ 1 ∧ numAt e 2 1 ≤ 2 ∧ zeros 3 1 e)
    (fun _ p u => (inPending cmdLinFrames 3 p (fun t => { t with linFrames := consecutive LinFrameDef {} (fun e => { len := numAt e 0 1, enhanced := numAt e 1 1 == 1, role := numAt e 2 1, init := (e.drop 4).take 8 }) 4 12 (numAt p 2 1) (numAt p 0 1 * 64 + numAt p 1 1) p t.linFrames }) u, []))
  ∧ Runs .linSchedule cmdLinSchedule
    (fun _ p _ => 1 ≤ numAt p 2 1 ∧ numAt p 2 1 ≤ 64 ∧ p.length = 4 + 4 * numAt p 2 1 ∧ numAt p 0 1 ≤ 7 ∧ numAt p 1 1 ≤ 3 ∧ zeros 3 1 p
      ∧ ∀ i < numAt p 2 1, let e := BitVec.ofNat 32 (beNat ((p.drop (4 + 4 * i)).take 4))
        bits e 31 24 ≤ 63 ∧ bits e 23 16 ≤ 2 ∧ 1 ≤ bits e 15 0)
    (fun _ p u => (inPending cmdLinSchedule 2 p (fun t => { t with linTables := mapSet [] t.linTables (numAt p 0 1 * 4 + numAt p 1 1) ((List.range (numAt p 2 1)).map (fun i => BitVec.ofNat 32 (beNat ((p.drop (4 + 4 * i)).take 4)))) }) u, []))
  ∧ Runs .linSelect cmdLinSelect (fun _ p _ => p.length = 4 ∧ numAt p 0 1 ≤ 7 ∧ numAt p 1 1 ≤ 3 ∧ zeros 2 2 p)
    (fun _ p u => (recorded cmdLinSelect 1 p (setLin (numAt p 0 1) { getLin (numAt p 0 1) u with wanted := some (numAt p 1 1) } u), []))
  ∧ Runs .slotTable cmdSlotTable
    (fun _ p u => 1 ≤ numAt p 2 1 ∧ numAt p 2 1 ≤ 64 ∧ numAt p 1 1 + numAt p 2 1 ≤ 64 ∧ p.length = 4 + 20 * numAt p 2 1 ∧ numAt p 0 1 ≤ 31 ∧ zeros 3 1 p
      ∧ ∀ i < numAt p 2 1, let e := (p.drop (4 + 20 * i)).take 20
        numAt e 16 1 ≤ 1 ∧ zeros 17 3 e ∧ keyBad (BitVec.ofNat 128 (numAt e 0 16)) u = false)
    (fun _ p u => (inPending cmdSlotTable 3 p (fun t => { t with slots := consecutive SlotDef {} (fun e => { key := BitVec.ofNat 128 (numAt e 0 16), repeating := numAt e 16 1 == 1 }) 4 20 (numAt p 2 1) (numAt p 0 1 * 64 + numAt p 1 1) p t.slots }) u, []))
  ∧ Runs .busRecover cmdBusRecover (fun _ p u => p.length = 4 ∧ numAt p 0 1 < 16 ∧ zeros 1 3 p ∧ (getCan (numAt p 0 1) u).bus = .busOff)
    (fun _ p u => (setCan (numAt p 0 1) { getCan (numAt p 0 1) u with bus := .recovering } u, []))
  ∧ Runs .rateCand cmdRateCand
    (fun _ p u => 1 ≤ numAt p 2 1 ∧ numAt p 2 1 ≤ 8 ∧ p.length = 8 + 8 * numAt p 2 1 ∧ numAt p 0 1 ≤ 15 ∧ zeros 1 1 p ∧ 1 ≤ numAt p 3 1 ∧ numAt p 3 1 ≤ 15
      ∧ 10 ≤ numAt p 4 2 ∧ numAt p 4 2 ≤ 10000 ∧ numAt p 7 1 ≤ 1
      ∧ ∀ i < numAt p 2 1, let e := BitVec.ofNat 64 (beNat ((p.drop (8 + 8 * i)).take 8))
        bits e 7 0 = 0 ∧ timingBad (applyCandidate (getCan (numAt p 0 1) u).record e) = false)
    (fun _ p u => (recorded cmdRateCand 1 p (setCan (numAt p 0 1) { getCan (numAt p 0 1) u with cands := (List.range (numAt p 2 1)).map (fun i => BitVec.ofNat 64 (beNat ((p.drop (8 + 8 * i)).take 8))), confirm := numAt p 3 1, dwell := numAt p 4 2, rounds := numAt p 6 1, commitAuto := numAt p 7 1 == 0 } u), []))
  ∧ Runs .isoInstance cmdIsoInstance
    (fun _ p u =>
      let tr := BitVec.ofNat 32 (numAt p 2 4)
      let im := BitVec.ofNat 32 (numAt p 6 4)
      p.length = 32 ∧ numAt p 0 1 ≤ 7 ∧ numAt p 1 1 ≤ 1 ∧ zeros 10 2 p ∧ zeros 30 2 p ∧ tr &&& im = 0 ∧ (numAt p 1 1 = 0 ∨ (numAt p 20 1 ≤ 253 ∧ numAt p 29 1 ≤ 253))
        ∧ ∀ e ∈ (pendingTables u).isos, e.1 = numAt p 0 1 ∨ (e.2.tractor ||| e.2.implement) &&& (tr ||| im) = 0)
    (fun _ p u => (inPending cmdIsoInstance 1 p (fun t => { t with isos := mapSet {} t.isos (numAt p 0 1) { own := numAt p 1 1 == 1, tractor := BitVec.ofNat 32 (numAt p 2 4), implement := BitVec.ofNat 32 (numAt p 6 4), tName := BitVec.ofNat 64 (numAt p 12 8), tAddr := numAt p 20 1, iName := BitVec.ofNat 64 (numAt p 21 8), iAddr := numAt p 29 1 } }) u, []))
  ∧ Runs .channelStatus cmdChannelStatus (fun _ p _ => p.length = 4 ∧ numAt p 0 1 ≤ 31 ∧ zeros 1 3 p) (fun _ p u => (u, channelStatusReply (numAt p 0 1) u))

/-- The Selvage class (0x08): link records, re-detection, unhitching, DISC masks, writes and tables, DCC-B messages, zone tables and TT pairs; re-detection and unhitching act on an enabled link (R205, R206, R209, R211, R214, R215, R222, R223, R330). -/
def Obligations.SelvageCommandsRun : Prop :=
  Runs .linkSet cmdLinkSet
    (fun _ p u =>
      let r := BitVec.ofNat 64 (numAt p 4 8)
      let old := (getLink (numAt p 0 1) u).record
      p.length = 12 ∧ numAt p 0 1 ≤ 1 ∧ zeros 1 3 p ∧ linkRecordBad r = false ∧ (old.getLsbD 63 = false ∨ r = old &&& ~~~(BitVec.twoPow 64 63))
        ∧ 0 ≤ poolSize (setLink (numAt p 0 1) { getLink (numAt p 0 1) u with record := r } u))
    (fun _ p u => (recorded cmdLinkSet 1 p (linkSet (numAt p 0 1) (BitVec.ofNat 64 (numAt p 4 8)) u), []))
  ∧ Runs .linkStatus cmdLinkStatus (fun _ p _ => p.length = 4 ∧ numAt p 0 1 ≤ 1 ∧ zeros 1 3 p) (fun _ p u => (u, linkStatusReply (numAt p 0 1) u))
  ∧ Runs .linkRedetect cmdLinkRedetect (fun _ p u => p.length = 4 ∧ numAt p 0 1 ≤ 1 ∧ zeros 1 3 p ∧ (getLink (numAt p 0 1) u).enabled = true)
    (fun _ p u => (toDetect (numAt p 0 1) u, []))
  ∧ Runs .unhitch cmdUnhitch (fun _ p u => p.length = 4 ∧ numAt p 0 1 ≤ 1 ∧ zeros 1 3 p ∧ (getLink (numAt p 0 1) u).enabled = true)
    (fun _ p u => (unhitchLink (numAt p 0 1) (sendMsg (numAt p 0 1) 5 [] u), []))
  ∧ Runs .discConfig cmdDiscConfig (fun _ p _ => p.length = 12 ∧ numAt p 0 1 ≤ 1 ∧ zeros 1 3 p)
    (fun _ p u => (recorded cmdDiscConfig 1 p (setLink (numAt p 0 1) { getLink (numAt p 0 1) u with discMask := BitVec.ofNat 32 (numAt p 4 4), discEvents := BitVec.ofNat 32 (numAt p 8 4) } u), []))
  ∧ Runs .discWrite cmdDiscWrite (fun _ p _ => p.length = 12 ∧ numAt p 0 1 ≤ 1 ∧ zeros 1 3 p)
    (fun _ p u =>
      let x := getLink (numAt p 0 1) u
      let mask := BitVec.ofNat 32 (numAt p 8 4)
      let w := (x.discOut &&& ~~~mask) ||| (BitVec.ofNat 32 (numAt p 4 4) &&& mask)
      (setLink (numAt p 0 1) { x with discOut := match x.discFired with
        | some (c, v, m) => if c = u.cyc then (w &&& ~~~m) ||| (v &&& m) else w
        | none => w } u, []))
  ∧ Runs .discTable cmdDiscTable
    (fun _ p u => 1 ≤ numAt p 2 1 ∧ numAt p 2 1 ≤ 16 ∧ numAt p 1 1 + numAt p 2 1 ≤ 16 ∧ p.length = 4 + 24 * numAt p 2 1 ∧ numAt p 0 1 ≤ 1 ∧ zeros 3 1 p
      ∧ ∀ i < numAt p 2 1, keyBad (BitVec.ofNat 128 (numAt ((p.drop (4 + 24 * i)).take 24) 0 16)) u = false)
    (fun _ p u => (inPending cmdDiscTable 3 p (fun t => { t with discs := consecutive DiscDef {} (fun e => { key := BitVec.ofNat 128 (numAt e 0 16), value := BitVec.ofNat 32 (numAt e 16 4), mask := BitVec.ofNat 32 (numAt e 20 4) }) 4 24 (numAt p 2 1) (numAt p 0 1 * 16 + numAt p 1 1) p t.discs }) u, []))
  ∧ Runs .dccbSend cmdDccbSend
    (fun _ p _ => 8 ≤ p.length ∧ p.length ≤ 520 ∧ numAt p 6 2 = p.length - 8 ∧ numAt p 0 1 ≤ 1 ∧ zeros 1 3 p ∧ numAt p 4 1 = 1)
    (fun _ p u =>
      let x := getLink (numAt p 0 1) u
      (setLink (numAt p 0 1) { x with dccB := { x.dccB with tx := x.dccB.tx ++ dccFrame (p.drop 4) } } u, []))
  ∧ Runs .dccbRecv cmdDccbRecv (fun _ p _ => p.length = 4 ∧ numAt p 0 1 ≤ 1 ∧ zeros 1 3 p)
    (fun _ p u =>
      let x := getLink (numAt p 0 1) u
      (if x.dccB.inbox = [] then u else setLink (numAt p 0 1) { x with dccB := { x.dccB with inbox := x.dccB.inbox.tail } } u, x.dccB.inbox.headD []))
  ∧ Runs .zoneTable cmdZoneTable
    (fun _ p _ => numAt p 1 1 ≤ 16 ∧ p.length = 8 + 4 * numAt p 1 1 ∧ numAt p 0 1 ≤ 1 ∧ zeros 6 2 p ∧ numAt p 2 1 ≤ 15 ∧ numAt p 3 1 ≤ 15 ∧ numAt p 4 1 ≤ 15 ∧ numAt p 5 1 ≤ 15
      ∧ ∀ i < numAt p 1 1, let e := (p.drop (8 + 4 * i)).take 4
        numAt e 1 1 ≤ 15 ∧ numAt e 2 1 ≤ 15 ∧ zeros 3 1 e)
    (fun _ p u => (recorded cmdZoneTable 1 p (chooseLinkZones (numAt p 0 1) (setLink (numAt p 0 1) { getLink (numAt p 0 1) u with zones := some { ents := (List.range (numAt p 1 1)).map (fun i => let e := (p.drop (8 + 4 * i)).take 4; (numAt e 0 1, numAt e 1 1, numAt e 2 1)), defTrib := numAt p 2 1, defVc := numAt p 3 1, unTrib := numAt p 4 1, unVc := numAt p 5 1 } } u)), []))
  ∧ Runs .ttRead cmdTtRead (fun _ p _ => p.length = 4 ∧ numAt p 0 1 ≤ 1 ∧ zeros 1 3 p)
    (fun _ p u => (u, match (getLink (numAt p 0 1) u).ttPair with
      | some (t, stamp) => natBytes 8 t ++ timeBytes stamp ++ natBytes 4 0
      | none => natBytes 24 0))

/-- The Keys class (0x09): a load, a derivation and a destruction are the slot's journal update; reads show a slot's attributes and the lifecycle, never a key; while a lifecycle transition runs, all but READ_ATTR is BUSY; a record that does not read back as written leaves the key as it was, and INTERNAL; ATTEST is refused while debug is open (R467) (R263, R264, R267, R268, R270-R272, R274, R277-R281). -/
def Obligations.KeyCommandsRun : Prop :=
  (∀ (key value : List Byte) (t t' : State), Runs .importKey cmdImport
    (fun v p u =>
      let a := BitVec.ofNat 128 (beNat ((p.drop 4).take 16))
      u.thm.lcUntil ≤ u.cyc ∧ t.thm.worn.getLsbD (numAt p 0 1) = false ∧ p.length = 48 + typeLen a ∧ zeros 2 2 p ∧ numAt p 0 1 < 64 ∧ attrBad false a = false ∧ wrapKey (numAt p 1 1) v u = (.ok key, t)
        ∧ openBlob key (numAt p 0 1) ((p.drop 4).take 16) (p.drop 20) = some value ∧ updateSlot (numAt p 0 1) (some (value, storedAttr 0 0 a)) t = some t')
    (fun _ _ _ => (t', [])))
  ∧ (∀ (key value : List Byte) (t : State), Runs .importKey cmdImport
    (fun v p u =>
      u.thm.lcUntil ≤ u.cyc ∧ p.length = 80 ∧ zeros 2 2 p ∧ (numAt p 0 1 = 0x42 ∨ numAt p 0 1 = 0x43) ∧ numAt p 1 1 = 0xFD ∧ lcState u = 1 ∧ u.thm.programmed.getLsbD (numAt p 0 1 - 64) = false
        ∧ wrapKey 0xFD v u = (.ok key, t) ∧ openBlob key (numAt p 0 1) ((p.drop 4).take 16) (p.drop 20) = some value)
    (fun _ p _ => ({ t with thm := { t.thm with programmed := t.thm.programmed ||| BitVec.ofNat 4 (2 ^ (numAt p 0 1 - 64)), roots := mapSet (List.replicate 32 0) t.thm.roots (numAt p 0 1 - 64) value } }, [])))
  ∧ (∀ t' : State, Runs .generate cmdGenerate
    (fun _ p u =>
      let a := BitVec.ofNat 128 (beNat (p.drop 4))
      u.thm.lcUntil ≤ u.cyc ∧ u.thm.worn.getLsbD (numAt p 0 1) = false ∧ p.length = 20 ∧ zeros 1 3 p ∧ numAt p 0 1 < 64 ∧ attrBad false a = false ∧ u.thm.rngFault = false
        ∧ updateSlot (numAt p 0 1) (some ((drawBytes (typeLen a) u).1, storedAttr 1 0 a)) (drawBytes (typeLen a) u).2 = some t')
    (fun _ _ _ => (t', [])))
  ∧ (∀ t' : State, Runs .derive cmdDerive
    (fun v p u =>
      let a := BitVec.ofNat 128 (beNat (p.drop 4))
      let parent := bits a 108 102
      let label := natBytes 1 (numAt p 0 1) ++ natBytes 4 (bits a 69 38)
      u.thm.lcUntil ≤ u.cyc ∧ u.thm.worn.getLsbD (numAt p 0 1) = false ∧ p.length = 20 ∧ zeros 1 3 p ∧ numAt p 0 1 < 64 ∧ attrBad true a = false
        ∧ ((parent = 66 ∧ rootAlive 2 u = true ∧ (lcState u = 1 ∨ lcState u = 2)
              ∧ updateSlot (numAt p 0 1) (some (kdf (rootValue 2 u) "THMSLOT" label (typeLen a), storedAttr 2 1 a)) u = some t')
          ∨ (usable parent (viaMaster v) (viaWorld v) .derive u ∧ bits (slotAttr parent u) 124 123 ≠ 2
              ∧ updateSlot (numAt p 0 1) (some (kdf (slotValue parent u) "THMSLOT" label (typeLen a), storedAttr 2 (slotGen parent u) a)) (masked parent u) = some t')))
    (fun _ _ _ => (t', [])))
  ∧ (∀ t' : State, Runs .destroy cmdDestroy (fun _ p u => u.thm.lcUntil ≤ u.cyc ∧ u.thm.worn.getLsbD (numAt p 0 1) = false ∧ p.length = 4 ∧ zeros 1 3 p ∧ numAt p 0 1 < 64 ∧ updateSlot (numAt p 0 1) none u = some t') (fun _ _ _ => (t', [])))
  ∧ Runs .readAttr cmdReadAttr (fun _ p _ => p.length = 4 ∧ zeros 1 3 p ∧ numAt p 0 1 < 64)
    (fun _ p u => (u, natBytes 4 (slotGen (numAt p 0 1) u) ++ natBytes 1 (if slotEmpty (numAt p 0 1) u then 1 else 0) ++ natBytes 3 0 ++ natBytes 16 (slotAttr (numAt p 0 1) u).toNat))
  ∧ Runs .lcChallenge cmdLcChallenge (fun _ p u => u.thm.lcUntil ≤ u.cyc ∧ p = [] ∧ u.thm.rngFault = false)
    (fun _ _ u =>
      let d := drawBytes 32 u
      ({ d.2 with thm := { d.2.thm with lcNonce := some (d.1, u.cyc + 60000 * msCyc) } }, d.1))
  ∧ (∀ (row : LcRow) (nonce : List Byte) (ends root : Nat), Runs .lcTransition cmdLcTransition
    (fun _ p u => u.thm.lcUntil ≤ u.cyc ∧ p.length = 36 ∧ zeros 1 3 p ∧ lcRow (lcState u) (numAt p 0 1) = some row ∧ (lcState u = 2 → numAt p 0 1 = 3 → 2 ≤ freeEntries u)
      ∧ u.thm.lcNonce = some (nonce, ends) ∧ u.cyc < ends ∧ root ∈ row.roots ∧ rootAlive root u = true ∧ p.drop 4 = lcToken root nonce (lcState u) (numAt p 0 1) u)
    (fun _ p u =>
      let d := drawBelow (100 * msCyc) (lcRun row (lcState u) (numAt p 0 1) { u with thm := { u.thm with lcNonce := none } })
      ({ d.2 with thm := { d.2.thm with lcUntil := u.cyc + d.1 } }, [])))
  ∧ Runs .attest cmdAttest (fun _ p u => u.thm.lcUntil ≤ u.cyc ∧ p.length = 36 ∧ zeros 1 3 p ∧ numAt p 0 1 = 255 ∧ rootAlive 0 u = true ∧ lcState u ≠ 0)
    (fun _ p u => (u, attestMessage 255 (p.drop 4) u ++ hmacSha256 (attestKey u) (attestMessage 255 (p.drop 4) u)))
  ∧ Runs .attest cmdAttest (fun _ p u => u.thm.lcUntil ≤ u.cyc ∧ p.length = 36 ∧ zeros 1 3 p ∧ usable (numAt p 0 1) .keeper .trusted .hmac u)
    (fun _ p u => (masked (numAt p 0 1) u, attestMessage (numAt p 0 1) (p.drop 4) u ++ hmacSha256 (slotValue (numAt p 0 1) u) (attestMessage (numAt p 0 1) (p.drop 4) u)))
  ∧ (∀ (m : Msg) (s u : State), admits ⟨9, 8, m⟩ s u → u.dbg.state ≠ .closed → Completes (.attest m) s (replyTo 9 8 m true .notInState [] false u))
  ∧ Runs .lcStatus cmdLcStatus (fun _ p u => u.thm.lcUntil ≤ u.cyc ∧ p = [])
    (fun _ _ u => (u, natBytes 1 (lcState u) ++ natBytes 1 (freeEntries u) ++ natBytes 1 u.thm.programmed.toNat ++ natBytes 1 u.thm.killed.toNat
      ++ natBytes 1 (if u.thm.rngFault then 1 else 0) ++ natBytes 3 0))
  ∧ (∀ x ∈ [(Instr.importKey, cmdImport), (.generate, cmdGenerate), (.derive, cmdDerive), (.destroy, cmdDestroy), (.lcChallenge, cmdLcChallenge), (.lcTransition, cmdLcTransition), (.attest, cmdAttest), (.lcStatus, cmdLcStatus)],
      Declines x.1 x.2 .busy (fun _ p u => x.2.len p = true ∧ u.cyc < u.thm.lcUntil) (fun _ u => u))
  ∧ (∀ t' : State, Declines .destroy cmdDestroy .internal
      (fun _ p u => u.thm.lcUntil ≤ u.cyc ∧ u.thm.worn.getLsbD (numAt p 0 1) = true ∧ p.length = 4 ∧ zeros 1 3 p ∧ numAt p 0 1 < 64 ∧ updateSlot (numAt p 0 1) none u = some t')
      (fun p u => raiseEv .journalVerify (numAt p 0 1) [] (bump .thmJournalVerifyFail (numAt p 0 1) u)))

/-- A slot's update raises its generation by one and makes its commit record name the new record, whose value and attributes are those loaded; a destroyed slot is empty; every other slot is as it was (R272, R274). -/
def Obligations.SlotUpdateRaisesGeneration : Prop :=
  ∀ (n : Nat) (new : Option (List Byte × BitVec 128)) (s t : State), updateSlot n new s = some t →
    slotGen n t = slotGen n s + 1 ∧ slotEmpty n t = new.isNone ∧ (∀ k, k ≠ n → getSlot k t = getSlot k s)
    ∧ ∀ v a, new = some (v, a) → v.length = typeLen a → slotAttr n t = a ∧ slotValue n t = v

/-- The Cipher class (0x0A): contexts and secure associations take their records, and the operations on request compute the standards' functions with a key that may be used (R290-R293, R295, R302, R303, R305, R329). -/
def Obligations.CipherCommandsRun : Prop :=
  Runs .ctxWrite cmdCtxWrite
    (fun _ p u => p.length = 36 ∧ zeros 2 2 p ∧ numAt p 0 2 < 2048 ∧ ctxBad (BitVec.ofNat 256 (numAt p 4 32)) u = false ∧ bits (BitVec.ofNat 256 (numAt p 4 32)) 255 254 ≠ 3)
    (fun v p u => (recorded cmdCtxWrite 2 p (forUpTo 4 (fun an t => softSa (numAt p 0 2) an t)
      (setCtx (numAt p 0 2) { getCtx (numAt p 0 2) u with record := putField (BitVec.ofNat 256 (numAt p 4 32)) 250 250 (if viaWorld v = .openW then 1 else 0) } u)), []))
  ∧ Runs .ctxRead cmdCtxRead (fun _ p _ => p.length = 4 ∧ numAt p 0 2 < 2048 ∧ zeros 2 2 p) (fun _ p u => (u, natBytes 32 (getCtx (numAt p 0 2) u).record.toNat))
  ∧ Runs .saWrite cmdSaWrite
    (fun _ p u =>
      let r := (getCtx (numAt p 0 2) u).record
      let e := BitVec.ofNat 256 (numAt p 4 32)
      let o := getSa (4 * numAt p 0 2 + numAt p 2 1) u
      p.length = 36 ∧ zeros 3 1 p ∧ numAt p 0 2 < 2048 ∧ numAt p 2 1 < 4 ∧ (bits r 255 254 = 1 ∨ bits r 255 254 = 2) ∧ saBad r e = false ∧ passTypeOk r (bits e 254 249) u = true
        ∧ mayUse (bits e 254 249) .bodkin (ctxWorld r) .cipher u = true
        ∧ (bits o 254 249 ≠ bits e 254 249 ∨ bits o 216 201 ≠ bits e 216 201 ∨ bits o 199 72 ≠ bits e 199 72 ∨ bits o 248 217 ≠ slotGen (bits e 254 249) u))
    (fun _ p u =>
      let e := BitVec.ofNat 256 (numAt p 4 32)
      (recorded cmdSaWrite 3 p (softSa (numAt p 0 2) (numAt p 2 1) (setSa (4 * numAt p 0 2 + numAt p 2 1) (putField (putField e 248 217 (slotGen (bits e 254 249) u)) 1 0 0) u)), []))
  ∧ Runs .saRead cmdSaRead (fun _ p _ => p.length = 4 ∧ numAt p 0 2 < 2048 ∧ numAt p 2 1 < 4 ∧ zeros 3 1 p)
    (fun _ p u => (u, natBytes 32 (getSa (4 * numAt p 0 2 + numAt p 2 1) u).toNat))
  ∧ Runs .stage cmdStage (fun v p u => 1 ≤ p.length ∧ p.length ≤ 4096 ∧ (getTrans (transportOf v) u).staged.length + p.length ≤ 8192)
    (fun v p u => (setTrans (transportOf v) { getTrans (transportOf v) u with staged := (getTrans (transportOf v) u).staged ++ p } u, []))
  ∧ Runs .stageClear cmdStageClear (fun _ p _ => p = []) (fun v _ u => (setTrans (transportOf v) { getTrans (transportOf v) u with staged := [] } u, []))
  ∧ Runs .stageRead cmdStageRead
    (fun v p u => p.length = 4 ∧ 1 ≤ numAt p 2 2 ∧ numAt p 2 2 ≤ 4096 ∧ numAt p 0 2 + numAt p 2 2 ≤ (getTrans (transportOf v) u).staged.length)
    (fun v p u => (u, ((getTrans (transportOf v) u).staged.drop (numAt p 0 2)).take (numAt p 2 2)))
  ∧ Runs .hmac cmdHmac
    (fun v p u => 4 ≤ p.length ∧ numAt p 2 1 ≤ 1 ∧ (numAt p 2 1 = 1 → p.length = 4) ∧ zeros 3 1 p ∧ (operand v (numAt p 2 1) (p.drop 4) u).length ≤ 8192
      ∧ (numAt p 1 1 = 16 ∨ numAt p 1 1 = 32) ∧ usable (numAt p 0 1) (viaMaster v) (viaWorld v) .hmac u)
    (fun v p u => operated v (numAt p 2 1) ((hmacSha256 (slotValue (numAt p 0 1) u) (operand v (numAt p 2 1) (p.drop 4) u)).take (numAt p 1 1)) (masked (numAt p 0 1) u))
  ∧ Runs .cmac cmdCmac
    (fun v p u => 4 ≤ p.length ∧ numAt p 2 1 ≤ 1 ∧ (numAt p 2 1 = 1 → p.length = 4) ∧ zeros 3 1 p ∧ (operand v (numAt p 2 1) (p.drop 4) u).length ≤ 8192
      ∧ 4 ≤ numAt p 1 1 ∧ numAt p 1 1 ≤ 16 ∧ usable (numAt p 0 1) (viaMaster v) (viaWorld v) .cipher u)
    (fun v p u => operated v (numAt p 2 1) ((cmacAes (slotValue (numAt p 0 1) u) (operand v (numAt p 2 1) (p.drop 4) u)).take (numAt p 1 1)) (masked (numAt p 0 1) u))
  ∧ Runs .gcmSeal cmdGcmSeal
    (fun v p u => 8 ≤ p.length ∧ numAt p 2 1 ≤ 1 ∧ (numAt p 2 1 = 1 → p.length = 8) ∧ zeros 3 1 p ∧ zeros 6 2 p ∧ (operand v (numAt p 2 1) (p.drop 8) u).length ≤ 8192
      ∧ numAt p 4 2 ≤ (operand v (numAt p 2 1) (p.drop 8) u).length ∧ 4 ≤ numAt p 1 1 ∧ numAt p 1 1 ≤ 16 ∧ usable (numAt p 0 1) (viaMaster v) (viaWorld v) .cipher u
      ∧ invocation (numAt p 0 1) u ≠ 2 ^ 32 - 1 ∧ u.boot.count ≠ 2 ^ 32 - 1)
    (fun v p u =>
      let n := numAt p 0 1
      let m := operand v (numAt p 2 1) (p.drop 8) u
      let iv := natBytes 4 n ++ natBytes 4 u.boot.count ++ natBytes 4 (invocation n u)
      let ct := gcmText (slotValue n u) iv (m.drop (numAt p 4 2))
      let t := masked n u
      operated v (numAt p 2 1) (iv ++ ct ++ (gcmTag (slotValue n u) iv (m.take (numAt p 4 2)) ct).take (numAt p 1 1))
        { t with bod := { t.bod with invocation := mapSet 1 t.bod.invocation n (invocation n u + 1) } })
  ∧ Runs .gcmOpen cmdGcmOpen
    (fun v p u =>
      let m := operand v (numAt p 2 1) (p.drop 20) u
      let c := m.drop (numAt p 4 2)
      let tag := numAt p 1 1
      20 ≤ p.length ∧ numAt p 2 1 ≤ 1 ∧ (numAt p 2 1 = 1 → p.length = 20) ∧ zeros 3 1 p ∧ zeros 6 2 p ∧ m.length ≤ 8192 ∧ numAt p 4 2 + tag ≤ m.length ∧ 4 ≤ tag ∧ tag ≤ 16
        ∧ usable (numAt p 0 1) (viaMaster v) (viaWorld v) .cipher u
        ∧ (gcmTag (slotValue (numAt p 0 1) u) ((p.drop 8).take 12) (m.take (numAt p 4 2)) (c.take (c.length - tag))).take tag = c.drop (c.length - tag))
    (fun v p u =>
      let c := (operand v (numAt p 2 1) (p.drop 20) u).drop (numAt p 4 2)
      operated v (numAt p 2 1) (gcmText (slotValue (numAt p 0 1) u) ((p.drop 8).take 12) (c.take (c.length - numAt p 1 1))) (masked (numAt p 0 1) u))
  ∧ Runs .modeSet cmdModeSet
    (fun _ p u => p.length = 4 ∧ zeros 1 3 p ∧ ((numAt p 0 1 = 2 ∧ u.bod.mode = .service) ∨ (numAt p 0 1 = 1 ∧ (u.bod.mode = .service ∨ u.bod.mode = .test))))
    (fun _ p u => ({ u with bod := { u.bod with mode := if numAt p 0 1 = 2 then .test else .service } }, []))
  ∧ Runs .katRun cmdKatRun (fun _ p _ => p.length = 4 ∧ zeros 1 3 p ∧ numAt p 0 1 < 64) (fun _ p u => (u, natBytes 1 (numAt p 0 1) ++ natBytes 3 0))

/-- The Power/network management and Safety classes (0x0B, 0x0C): a TRIM without BOD in FIELD or SERVICE and a DOZE under open debug are DENIED (R469, R470); power requests, network records and requests, wake configuration, and the Lamp room's and the debug unit's commands (R254, R256, R390, R393, R395, R416, R419, R421, R422, R462, R463). -/
def Obligations.PowerAndSafetyCommandsRun : Prop :=
  (∀ (m : Msg) (s u : State), admits ⟨11, 1, m⟩ s u → runnable cmdPowerReq (paramsOf m) u → (paramsOf m).length = 4 → zeros 1 1 (paramsOf m) →
      let denied := Completes (.powerReq m) s (refreshKeys (replyTo 11 1 m true .denied [] false u))
      (numAt (paramsOf m) 0 1 = 1 → (BitVec.ofNat 16 (numAt (paramsOf m) 2 2)).getLsbD 7 = false → lcState u = 2 ∨ lcState u = 3 ∨ contextsInUse u = true → denied)
      ∧ (numAt (paramsOf m) 0 1 = 2 → u.dbg.state ≠ .closed → denied) ∧ (5 ≤ numAt (paramsOf m) 0 1 → denied))
  ∧ Runs .powerReq cmdPowerReq
    (fun _ p u => p.length = 4 ∧ zeros 1 1 p ∧ u.pwr.transition = none ∧ numAt p 0 1 = 2 ∧ numAt p 2 2 = 0 ∧ (u.pwr.state = .run ∨ u.pwr.state = .trim) ∧ u.dbg.state = .closed)
    (fun _ _ u => (enterDoze u, []))
  ∧ Runs .powerReq cmdPowerReq
    (fun _ p u => p.length = 4 ∧ zeros 1 1 p ∧ u.pwr.transition = none ∧ numAt p 0 1 = 0 ∧ numAt p 2 2 = 0 ∧ ¬ (u.pwr.state = .run ∧ u.pwr.trimMask = 0))
    (fun _ _ u => (beginTransition .run 0xFFFF false u, []))
  ∧ Runs .powerReq cmdPowerReq
    (fun _ p u =>
      let mask := BitVec.ofNat 16 (numAt p 2 2)
      p.length = 4 ∧ zeros 1 1 p ∧ u.pwr.transition = none ∧ numAt p 0 1 = 1 ∧ powerAllowed .trim mask u = true ∧ ¬ (u.pwr.state = .trim ∧ u.pwr.trimMask = mask))
    (fun _ p u => (beginTransition .trim (BitVec.ofNat 16 (numAt p 2 2)) false u, []))
  ∧ Runs .powerReq cmdPowerReq
    (fun _ p u => p.length = 4 ∧ zeros 1 1 p ∧ u.pwr.transition = none ∧ (numAt p 0 1 = 3 ∨ numAt p 0 1 = 4) ∧ numAt p 2 2 = 0 ∧ (∀ n ∈ u.pwr.nets, n.2.record.getLsbD 123 = false)
      ∧ u.pwr.state ≠ .deep ∧ u.pwr.state ≠ .off)
    (fun _ p u => (goLightsOut (if numAt p 0 1 = 3 then .deep else .off) u, []))
  ∧ Runs .powerStatus cmdPowerStatus (fun _ p _ => p = []) (fun _ _ u => (u, powerStatusReply u))
  ∧ Runs .nmSet cmdNmSet
    (fun _ p u =>
      let r := BitVec.ofNat 128 (numAt p 0 16)
      let x := getNet (bits r 127 124) u
      p.length = 16 ∧ nmBad (bits r 127 124) r u = false ∧ ¬ (x.enabled = true ∧ x.mode = .consent) ∧ ¬ (x.enabled = true ∧ x.mode = .asleep))
    (fun _ p u =>
      let r := BitVec.ofNat 128 (numAt p 0 16)
      let x := { getNet (bits r 127 124) u with record := r }
      (recorded cmdNmSet 1 p (setNet (bits r 127 124)
        { x with mode := .awake, since := u.cyc, kaSeen := kaCount x u, kaNext := u.cyc, answered := [], portsAnswered := [] } u), []))
  ∧ Runs .nmRequest cmdNmRequest (fun _ p _ => p.length = 4 ∧ numAt p 2 1 = 0 ∧ zeros 3 1 p)
    (fun _ p u => (forUpTo 16 (fun n t => if (BitVec.ofNat 16 (numAt p 0 2)).getLsbD n then setNet n { getNet n t with hold := false } t else t) u, []))
  ∧ Runs .wakeSet cmdWakeSet (fun _ p _ => p.length = 28 ∧ numAt p 0 1 < 16 ∧ zeros 1 3 p ∧ wakeBad (BitVec.ofNat 192 (numAt p 4 24)) = false)
    (fun _ p u => (recorded cmdWakeSet 1 p (setWake (numAt p 0 1) { getWake (numAt p 0 1) u with record := BitVec.ofNat 192 (numAt p 4 24) } u), []))
  ∧ Runs .wakeCause cmdWakeCause (fun _ p _ => p = []) (fun _ _ u => (u, wakeCauseReply u))
  ∧ Runs .lampStatus cmdLampStatus (fun _ p _ => p = []) (fun _ _ u => (u, lampReply u))
  ∧ Runs .safeRelease cmdSafeRelease
    (fun _ p u => p.length = 4 ∧ zeros 0 4 p ∧ u.lamp.safe = true ∧ (∀ i < 4, mapGet 0 u.pwr.temps i < 120) ∧ (∀ t, u.lamp.lastS = some t → t + 10 * msCyc ≤ u.cyc)
      ∧ u.dbg.ir ≠ 0 ∧ u.dbg.ir ≠ 3 ∧ u.dbg.ir ≠ 4 ∧ u.pwr.unlocked &&& u.pwr.powered = 0 ∧ u.kpr.testPassed = true ∧ u.faults = [])
    (fun _ _ u =>
      let detail := u.lamp.codes.flatMap (fun (c : BitVec 16) => natBytes 2 c.toNat)
      let t := driveFault false (setLamp { u.lamp with safe := false, codes := [], firstTime := [], restarted := false, tokenLost := false } u)
      (raiseEv .safeRelease 0 detail (sideCause 5 (bump .lampRelease 0 (reopenGates t))), []))
  ∧ Runs .safeOpenSet cmdSafeOpen (fun _ p u => p.length = 4 ∧ numAt p 0 4 < 2 ^ 27 ∧ u.lamp.safe = false ∧ u.lamp.tokenLost = false)
    (fun _ p u => (recorded cmdSafeOpen 0 p (setLamp { u.lamp with safeOpen := BitVec.ofNat 32 (numAt p 0 4) } u), []))
  ∧ Runs .faultInject cmdFaultInject (fun _ p u => p.length = 4 ∧ zeros 2 2 p ∧ (lcState u = 1 ∨ lcState u = 3) ∧ (numAt p 0 2 = 0x0500 ∨ numAt p 0 2 = 0x0C00))
    (fun _ p u => (setLamp { u.lamp with planted := u.lamp.planted ||| (if numAt p 0 2 = 0x0500 then 1 else 2) } u, []))
  ∧ Runs .faultInject cmdFaultInject (fun _ p u => p.length = 4 ∧ zeros 2 2 p ∧ (lcState u = 1 ∨ lcState u = 3) ∧ codeOk (numAt p 0 2 / 256) (numAt p 0 2 % 256) = true ∧ numAt p 0 2 / 256 ≠ 5 ∧ numAt p 0 2 / 256 ≠ 0x0C)
    (fun _ p u => (detectFault (numAt p 0 2 / 256) (numAt p 0 2 % 256) (setLamp { u.lamp with injected := true } u), []))
  ∧ Runs .debugChallenge cmdDebugChallenge (fun _ p u => p = [] ∧ u.thm.rngFault = false)
    (fun _ _ u =>
      let d := drawBytes 32 u
      ({ d.2 with thm := { d.2.thm with dbgNonce := some (d.1, u.cyc + 60000 * msCyc) } }, d.1))
  ∧ (∀ (nonce : List Byte) (ends root : Nat), Runs .debugUnlock cmdDebugUnlock
    (fun _ p u =>
      p.length = 36 ∧ zeros 1 3 p ∧ lcState u ≠ 0 ∧ lcState u ≠ 4 ∧ 1 ≤ numAt p 0 1 ∧ numAt p 0 1 ≤ 2 ∧ u.thm.dbgNonce = some (nonce, ends) ∧ u.cyc < ends
        ∧ (debugRoots (lcState u) (numAt p 0 1)).find? (fun r => rootAlive r u && decide (p.drop 4 = debugToken r nonce (numAt p 0 1) u)) = some root)
    (fun _ p u =>
      (raiseEv .debugOpened 0 [BitVec.ofNat 8 (numAt p 0 1), BitVec.ofNat 8 root] (bump .thmDbgOpen 0
        { u with thm := { u.thm with dbgNonce := none }, dbg := { u.dbg with state := .auth (numAt p 0 1) (decide (root = 1)) } }), [])))

/-- The Twin and Update classes (0x0D, 0x0E): TWIN_SET outside a change of a running pair, the status opcodes, and writes, verification and switching of the inactive firmware bank (R327, R330, R333, R435, R478-R480); RELINQUISH, with an active pair and its partner in STANDBY, sends the final delta and waits for its acknowledgement (R451). -/
def Obligations.TwinAndUpdateCommandsRun : Prop :=
  Runs .twinSet cmdTwinSet (fun _ p u => p.length = 8 ∧ numAt p 0 1 ≤ 2 ∧ zeros 1 1 p ∧ 1 ≤ numAt p 2 2 ∧ numAt p 2 2 ≤ 3600 ∧ zeros 4 4 p ∧ numAt p 0 1 = u.twin.mode)
    (fun _ p u => (recorded cmdTwinSet 0 p (setTwin { u.twin with holdOff := numAt p 2 2, suppressed := false, relinquishes := [] } u), []))
  ∧ Runs .twinSet cmdTwinSet (fun _ p u => p.length = 8 ∧ numAt p 0 1 = 1 ∧ zeros 1 1 p ∧ 1 ≤ numAt p 2 2 ∧ numAt p 2 2 ≤ 3600 ∧ zeros 4 4 p ∧ u.twin.mode ≠ 1)
    (fun _ p u =>
      let t := setTwin { u.twin with holdOff := numAt p 2 2, suppressed := false, relinquishes := [], mode := 1, st := .wait, since := u.cyc, partner := none } u
      (recorded cmdTwinSet 0 p (forUpTo 16 setTransceiver (if twinRole t ≠ twinRole u then sideCause 6 t else t)), []))
  ∧ Runs .twinStatus cmdTwinStatus (fun _ p _ => p = []) (fun _ _ u => (u, twinStatusReply u))
  ∧ Runs .fwWrite cmdFwWrite (fun _ p _ => 5 ≤ p.length ∧ p.length ≤ 4096 ∧ numAt p 0 4 % 4 = 0 ∧ numAt p 0 4 + (p.length - 4) ≤ 2097152)
    (fun _ p u =>
      let b := inactiveBank u
      (setBank b { getBank b u with cells := (List.range (p.drop 4).length).foldl (fun m i => mapSet none m (numAt p 0 4 + i) (some ((p.drop 4).getD i 0))) (getBank b u).cells, intact := false, verified := false } u, []))
  ∧ Runs .fwVerify cmdFwVerify (fun _ p u => p = [] ∧ bankAuthentic (inactiveBank u) u = true)
    (fun _ _ u => (setBank (inactiveBank u) { getBank (inactiveBank u) u with verified := true } u, bankMeasure (inactiveBank u) u))
  ∧ Runs .fwSwitch cmdFwSwitch (fun _ p u => p.length = 4 ∧ zeros 0 4 p ∧ (getBank (inactiveBank u) u).verified = true ∧ u.boot.bank ≤ 1)
    (fun _ _ u => (abortQueued (setYel { u.yel with pauseUntil := some (u.cyc + 2 * msCyc) } (setBoot { u.boot with preferred := inactiveBank u } u)), []))
  ∧ Runs .fwSwitch cmdFwSwitch (fun _ p u => p.length = 4 ∧ zeros 0 4 p ∧ (getBank (inactiveBank u) u).verified = true ∧ 1 < u.boot.bank)
    (fun _ _ u => (setYel { u.yel with resetTaken := some (0, u.cyc + msCyc) } (setBoot { u.boot with preferred := inactiveBank u } u), []))
  ∧ Runs .fwStatus cmdFwStatus (fun _ p _ => p = []) (fun _ _ u => (u, fwStatusReply u))
  ∧ ∀ (m : Msg) (s u : State), admits ⟨13, 3, m⟩ s u → allowed cmdRelinquish (paramsOf m) u = true → (paramsOf m).length = 4 → zeros 0 4 (paramsOf m) →
    let t := finalDelta false u
    pairActive u = true ∧ u.twin.partner = some .standby
    ∧ Completes (.relinquish m) s (setYel { t.yel with waiting := some (⟨13, 3, m⟩, .ack, u.cyc + 1000 * msCyc) } t)

/-- The Diagnostics class (0x0F): counters are read with or without clearing them, a status item that the manual names is read as State holds it, any other as the implementation has it (log entry 4), and descriptors, link words, multicast links, the key of a sample, the event log and the catalogues are read (R7, R41-R43, R326, R330). -/
def Obligations.DiagnosticCommandsRun : Prop :=
  Runs .counterCatalog cmdCounterCatalog (fun _ p _ => p.length = 4 ∧ 1 ≤ numAt p 2 2 ∧ numAt p 2 2 ≤ 127)
    (fun _ p u => (u, (List.range (numAt p 2 2)).flatMap (fun i => catalogEntry (numAt p 0 2 + i))))
  ∧ (∀ c : Ctr, Runs .counterRead cmdCounterRead
      (fun _ p _ => p.length = 8 ∧ 1 ≤ numAt p 4 2 ∧ numAt p 4 2 ≤ 255 ∧ counterOf (numAt p 0 2) = some c ∧ numAt p 2 2 + numAt p 4 2 ≤ c.instances ∧ numAt p 6 1 ≤ 1 ∧ zeros 7 1 p)
      (fun _ p u =>
        let t := settleCount c u
        (if numAt p 6 1 = 1 then t else forUpTo (numAt p 4 2) (fun i x => clearRead c (numAt p 2 2 + i) x) t,
         (List.range (numAt p 4 2)).flatMap (fun i => natBytes 8 (count c (numAt p 2 2 + i) t)))))
  ∧ (∀ (x : StatusItem), Runs .statusRead cmdStatusRead
      (fun _ p _ => p.length = 4 ∧ statusItemOf (numAt p 0 2) = some x ∧ numAt p 2 2 < x.instances)
      (fun _ p u =>
        let v := x.value (numAt p 2 2) u
        (v.2, p ++ natBytes 2 (min 56 v.1.length) ++ natBytes 1 (x.format % 256) ++ natBytes 1 0 ++ padTo 56 (v.1.take 56))))
  ∧ (∀ (fmt : BitVec 8), Runs .statusRead cmdStatusRead
      (fun _ p _ => p.length = 4 ∧ (statusItemOf (numAt p 0 2)).isNone ∧ counterOf (numAt p 0 2) = none ∧ Config.statusItem (BitVec.ofNat 16 (numAt p 0 2)) (BitVec.ofNat 16 (numAt p 2 2)) = some fmt)
      (fun _ p u =>
        let v := Config.statusValue (BitVec.ofNat 16 (numAt p 0 2)) (BitVec.ofNat 16 (numAt p 2 2)) u.draws
        let value := (v.1 :: v.2).take 56
        ({ u with draws := u.draws + 1 }, p ++ natBytes 2 value.length ++ natBytes 1 fmt.toNat ++ natBytes 1 0 ++ padTo 56 value)))
  ∧ Runs .descRead cmdDescRead (fun _ p _ => p.length = 4 ∧ numAt p 0 4 ≤ 131071)
    (fun _ p u => (u, natBytes 16 (mapGet 0 u.fab.descs (numAt p 0 4)).toNat ++ natBytes 4 (mapGet 0 u.fab.linkWords (numAt p 0 4)).toNat))
  ∧ Runs .mcLinkRead cmdMcLinkRead (fun _ p _ => p.length = 4 ∧ numAt p 0 4 ≤ 16383) (fun _ p u => (u, natBytes 8 (mapGet 0 u.fab.mcLinks (numAt p 0 4)).toNat))
  ∧ (∀ (k : PKey) (z root leaf : Nat), Runs .keyTrace cmdKeyTrace
      (fun _ p u =>
        let t := curTables u
        5 ≤ p.length ∧ p.length ≤ 260 ∧ numAt p 0 1 ≤ 26 ∧ zeros 1 3 p ∧ sampleKey (numAt p 0 1) (p.drop 4) u = some (k, z)
          ∧ mapGet none t.roots (z * 5 + keyType k) = some root ∧ walkTree u.pat.nodeMem t.nodes (keyBytes (numAt p 0 1) z false false 0 k) 24 root = some leaf)
      (fun _ p u => (u, keyBytes (numAt p 0 1) z false false 0 k ++ natBytes 2 (hash16 (seedFor (some leaf) u) k) ++ natBytes 2 leaf ++ natBytes 4 0)))
  ∧ Runs .eventLogRead cmdEventLogRead (fun _ p u => p.length = 8 ∧ 1 ≤ numAt p 4 2 ∧ numAt p 4 2 ≤ 42 ∧ zeros 6 2 p ∧ numAt p 0 4 + numAt p 4 2 ≤ u.boot.events.length)
    (fun _ p u => (u, (List.range (numAt p 4 2)).flatMap (fun i => (u.boot.events[numAt p 0 4 + i]?).getD [])))
  ∧ Runs .eventCatalog cmdEventCatalog (fun _ p _ => p.length = 4 ∧ 1 ≤ numAt p 2 2 ∧ numAt p 2 2 ≤ 127)
    (fun _ p u => (u, (List.range (numAt p 2 2)).flatMap (fun i =>
      natBytes 2 (Config.eventBlock (numAt p 0 2 + i)).toNat ++ natBytes 2 (Config.eventCode (numAt p 0 2 + i)).toNat ++ padTo 28 (Config.eventName (numAt p 0 2 + i)))))

/-! ## The message protocol (R309-R336) -/

/-- A command that is a Yelom message has the effect of that message's class and opcode on the command service, whatever it carries. -/
def Obligations.MessagesReachTheService : Prop := ∀ (c : Instr) (a : Received) (s : State), carried c = some a → Completes c s (receiveMsg a s)

/-- The bytes of a message, taken as a transport delivers them, are read as that message: no field of its header is dropped or shifted, at any value (R310). -/
def Obligations.MessageBytesReadBack : Prop :=
  ∀ (a : Received) (s : State), a.cls < 256 → a.opcode < 65536 → (messageBytes a).length = 16 + a.msg.body.length ∧ receiveRaw a.msg.via (messageBytes a) s = receiveMsg a s

/-- Checks 1 to 5 of R311 in their order, with the Keeper running outside DOZE: fewer than 16 bytes are counted as a runt and not answered; a message that must wait, in the pause of a firmware switch, behind 64 commands outstanding on the Placket or, with a trailer, for room in pipeline 0, stays with its transport (R286, R322, R333); of the others, one that claims to be a reply or an event is counted and dropped; one with a wrong version, flag, STATUS or reserved field is answered BAD_OPCODE; one whose payload length exceeds 4,096 or does not match its bytes is answered LEN_RANGE. -/
def Obligations.HeaderChecksInOrder : Prop :=
  (∀ (v : Via) (bs : List Byte) (s : State), bs.length < 16 → keeperRuns s = true → receiveRaw v bs s = bump .kprCmdRunt (transportIx (transportOf v)) s)
  ∧ ∀ (c : Instr) (a : Received) (s : State), carried c = some a → keeperRuns s = true → (s.kpr.recovery = false ∨ transportOf a.msg.via = .mspi) →
    let m := a.msg
    let waits := mustWait m.via s = true ∨ laneFull a s = true
    let stray := hdrBit m 3 = true ∨ hdrBit m 0 = true
    let bad := m.b0.toNat / 16 ≠ 1 ∨ hdrBit m 1 = true ∨ m.stat ≠ 0 ∨ m.res ≠ 0
    let long := 4096 < m.plen.toNat ∨ m.body.length ≠ m.plen.toNat + (if hdrBit m 2 then 16 else 0)
    (waits → Completes c s (parkMsg m.via (messageBytes a) s))
    ∧ (¬ waits → stray → Completes c s (bump .kprCmdStray (transportIx (transportOf m.via)) s))
    ∧ (¬ waits → ¬ stray → bad → Completes c s (refuseMsg a .badOpcode s))
    ∧ (¬ waits → ¬ stray → ¬ bad → long → Completes c s (refuseMsg a .lenRange s))

/-- Checks 6 to 9 of R311 in their order: a message in a lockout is dropped and counted; one that finds no token, or 64 commands outstanding, is answered BUSY and counted; one whose trailer or sequence fails is answered DENIED and counted (R315-R318, R322, R323). -/
def Obligations.AdmissionChecksInOrder : Prop :=
  ∀ (c : Instr) (a : Received) (s : State), carried c = some a → keeperRuns s = true → (s.kpr.recovery = false ∨ transportOf a.msg.via = .mspi) →
    mustWait a.msg.via s = false → laneFull a s = false →
    a.msg.b0.toNat / 16 = 1 → hdrBit a.msg 3 = false → hdrBit a.msg 1 = false → hdrBit a.msg 0 = false → a.msg.stat = 0 → a.msg.res = 0 → a.msg.plen.toNat ≤ 4096 →
    a.msg.body.length = a.msg.plen.toNat + (if hdrBit a.msg 2 then 16 else 0) →
    let t := transportOf a.msg.via
    let i := transportIx t
    let u := tokenTaken a s
    let dropped := locked t s = true ∧ exemptNow a s = false
    (dropped → Completes c s (bump .kprCmdLockoutDrop i s))
    ∧ (¬ dropped → hasToken t s = false → Completes c s (refuseMsg a .busy (bump .kprCmdRate i s)))
    ∧ (¬ dropped → hasToken t s = true → 64 ≤ (getTrans t s).outstanding → Completes c s (refuseMsg a .busy (bump .kprCmdBusy i u)))
    ∧ (¬ dropped → hasToken t s = true → (getTrans t s).outstanding < 64 → authenticate a u = .badTrailer → Completes c s (refuseMsg a .denied (noteFailure false t u)))
    ∧ (¬ dropped → hasToken t s = true → (getTrans t s).outstanding < 64 → authenticate a u = .badSequence → Completes c s (refuseMsg a .denied (noteFailure true t u)))

/-- Checks 10 to 13 of R311 at execution: an opcode of no table is answered BAD_OPCODE, one that lifecycle, mode, role or power state forbids NOT_IN_STATE, a wrong parameter length LEN_RANGE; what executes is answered with its own status (R324, R325, R327). -/
def Obligations.ExecutionChecksInOrder : Prop :=
  ∀ (a : Accepted) (u : State),
    (cmdOf a.cls a.opcode = none → execute a u = replyTo a.cls a.opcode a.msg true .badOpcode [] false u)
    ∧ ∀ c : Cmd, cmdOf a.cls a.opcode = some c →
      (allowed c (paramsOf a.msg) u = false → execute a u = replyTo a.cls a.opcode a.msg true .notInState [] false u)
      ∧ (allowed c (paramsOf a.msg) u = true → c.len (paramsOf a.msg) = false → execute a u = replyTo a.cls a.opcode a.msg true .lenRange [] false u)
      ∧ (runnable c (paramsOf a.msg) u → c.len (paramsOf a.msg) = true → execute a u = finish a u)
      ∧ (runnable c (paramsOf a.msg) u → c.len (paramsOf a.msg) = true → pairActive u = false → ¬ (a.cls = 1 ∧ a.opcode = 3) →
          let r := runCmd c a.msg.via (paramsOf a.msg) u
          execute a u = refreshKeys (replyTo a.cls a.opcode a.msg true r.status r.reply false r.st))

/-- A reply repeats its command's class, opcode, tag and sequence, marks itself as a reply, carries its status and its result's length, and ends with a trailer of 16 bytes when its transport has a command key (R310, R312, R313). -/
def Obligations.ReplyRepeatsItsCommand : Prop :=
  ∀ (cls opcode : Nat) (m : Msg) (st : Status) (result : List Byte) (key : Option (List Byte)), cls < 256 → opcode < 65536 → result.length < 65536 →
    let b := replyBytes cls opcode m st result false key
    numAt b 0 1 = (if key.isSome then 0x1C else 0x18) ∧ numAt b 1 1 = cls ∧ numAt b 2 2 = opcode ∧ numAt b 4 2 = m.tag.toNat ∧ numAt b 6 2 = result.length
    ∧ numAt b 8 4 = m.seq.toNat ∧ numAt b 12 2 = st.code ∧ numAt b 14 2 = 0 ∧ (b.drop 16).take result.length = result
    ∧ b.length = 16 + result.length + (if key.isSome then 16 else 0)

/-- R318: a command that fails check 9 is answered DENIED and counted in CMD_AUTH_FAIL, a sequence failure also in CMD_REPLAY; the sixteenth failure within 1 s locks the transport out for 1 s, which a failure in it does not extend; the last accepted sequence stays. -/
def Obligations.SixteenFailuresLockOut : Prop :=
  (∀ (a : Received) (s : State),
    let t := transportOf a.msg.via
    hasToken t s = true → (getTrans t s).outstanding < 64 →
      (authenticate a (tokenTaken a s) = .badTrailer → admitMsg a s = replyTo a.cls a.opcode a.msg false .denied [] false (noteFailure false t (tokenTaken a s)))
      ∧ (authenticate a (tokenTaken a s) = .badSequence → admitMsg a s = replyTo a.cls a.opcode a.msg false .denied [] false (noteFailure true t (tokenTaken a s))))
  ∧ ∀ (seq : Bool) (t : Transport) (s : State),
    let u := noteFailure seq t s
    let recent := (s.cyc :: (getTrans t s).fails).filter (fun c => decide (s.cyc < c + 1000 * msCyc))
    u.counters = (bump .kprCmdAuthFail (transportIx t) (if seq then bump .kprCmdReplay (transportIx t) s else s)).counters
    ∧ (getTrans t u).lastSeq = (getTrans t s).lastSeq ∧ (∀ t', t' ≠ t → getTrans t' u = getTrans t' s)
    ∧ (s.cyc < (getTrans t s).lockedUntil → getTrans t u = getTrans t s)
    ∧ ((getTrans t s).lockedUntil ≤ s.cyc →
        (getTrans t u).lockedUntil = (if 16 ≤ recent.length then s.cyc + 1000 * msCyc else (getTrans t s).lockedUntil)
        ∧ (getTrans t u).fails = (if 16 ≤ recent.length then [] else recent))

/-- CMD_LOCKOUT_END opens a transport whose lockout's time has come (R318); MUTATOR_TIMEOUT answers TIMEOUT to a command that has waited for a partner as long as it may, and a takeback request that waited for it follows (R324, R455); at other times both rows only let time pass. -/
def Obligations.ServiceTimersRun : Prop :=
  (∀ (at_ : Nat) (tr : Transport) (s : State),
    let u := advanceTo at_ s
    let x := getTrans tr u
    Completes (.cmdLockoutEnd at_ tr) s (if x.lockedUntil ≠ 0 ∧ x.lockedUntil ≤ u.cyc then setTrans tr { x with lockedUntil := 0 } u else u))
  ∧ (∀ (at_ ends : Nat) (a : Accepted) (w : WaitFor) (s : State),
      let u := advanceTo at_ s
      u.yel.waiting = some (a, w, ends) → (∀ d, w ≠ .access d) → ends ≤ u.cyc → waitOver w u = false →
      Completes (.mutatorTimeout at_) s (afterPause (replyTo a.cls a.opcode a.msg true .timeout [] false (setYel { u.yel with waiting := none } u))))
  ∧ ∀ (at_ : Nat) (s : State),
      let u := advanceTo at_ s
      (∀ a w ends, u.yel.waiting = some (a, w, ends) → (∃ d, w = .access d) ∨ u.cyc < ends ∨ waitOver w u = true) → Completes (.mutatorTimeout at_) s u

/-! ## The command ports: MSPI (R320), the test port (R464), the host's registers (R337-R375) -/

/-- MSPI: STATUS shows whether a WRITE is taken, a reply and an event wait; READ takes the oldest reply, else the oldest event, else sixteen bytes of 0; a WRITE that can be taken is a message, one that cannot is counted and discarded; any of them wakes DOZE, and with KEEP off nothing answers (R320, R392, R472). -/
def Obligations.MspiInstructionsRun : Prop :=
  (∀ s : State, mechanismsOn s = true →
    let u := leaveDoze s
    let x := u.yel.mspi
    Completes .mspiStatus s (emit (.mspi [BitVec.ofNat 8 ((if mspiReady u then 1 else 0) + (if x.replies = [] then 0 else 2) + (if x.events = [] then 0 else 4))]) u)
    ∧ (∀ via counted bs rest, x.replies = (via, counted, bs) :: rest →
        Completes .mspiRead s (emit (.mspi bs) (setTrans .mspi { x with replies := rest, outstanding := if counted then x.outstanding - 1 else x.outstanding } u)))
    ∧ (∀ bs rest, x.replies = [] → x.events = bs :: rest → Completes .mspiRead s (emit (.mspi bs) (setTrans .mspi { x with events := rest } u)))
    ∧ (x.replies = [] → x.events = [] → Completes .mspiRead s (emit (.mspi (List.replicate 16 0)) u))
    ∧ (mspiReady u = false → ∀ bs, Completes (.mspiWrite bs) s (bump .kprCmdBusy 2 u))
    ∧ (mspiReady u = true → ∀ a : Received, a.cls < 256 → a.opcode < 65536 → a.msg.via = .mspi → Completes (.mspiWrite (messageBytes a)) s (receiveMsg a u)))
  ∧ ∀ s : State, mechanismsOn s = false → Completes .mspiStatus s s ∧ Completes .mspiRead s s ∧ ∀ bs, Completes (.mspiWrite bs) s s

/-- The test port loads an instruction where its condition holds and else BYPASS, counted; codes of no instruction load BYPASS uncounted; with KEEP off it is unpowered (R464, R465, R472). EXTEST, CLAMP and HIGHZ need BLANK, or the safe state with debug level 2; DBG_ACCESS needs open debug; FACTORY needs BLANK. -/
def Obligations.TestPortLoadsPermittedInstructions : Prop :=
  ∀ s : State, mechanismsOn s = true →
    let load (code : Byte) (ok : Bool) : State := if ok then { s with dbg := { s.dbg with ir := code } } else bump .thmDbgRefused 0 { s with dbg := { s.dbg with ir := 0xFF } }
    let pins := decide (lcState s = 0) || (s.lamp.safe && (match s.dbg.state with | .auth 2 _ => true | _ => false))
    Completes .extest s (load 0x00 pins) ∧ Completes .clamp s (load 0x03 pins) ∧ Completes .highz s (load 0x04 pins)
    ∧ Completes .samplePreload s (load 0x02 true) ∧ Completes .dbgAccess s (load 0x12 (decide (lcState s = 0) || decide (s.dbg.state ≠ .closed)))
    ∧ (∀ c : Fin 16, Completes (.factory c) s (load (BitVec.ofNat 8 (0x20 + c.val)) (decide (lcState s = 0))))
    ∧ (∀ c : Byte, c = 0xFF ∨ (0x05 ≤ c.toNat ∧ c.toNat ≤ 0x0F) ∨ (0x13 ≤ c.toNat ∧ c.toNat ≤ 0x1F) ∨ 0x30 ≤ c.toNat → Completes (.bypass c) s (load 0xFF true))
    ∧ Completes .testLogicReset s (load 0x01 true)

/-- IDCODE and DBG_STATUS select their registers and shift them out; DBG_LOCK closes an open debug state; a debugger's actions act on the running main core under DBG_ACCESS with open debug (R431, R461, R464, R466). That the registers are shifted out by the same row is log entry 47's convention. -/
def Obligations.DebugInstructionsRun : Prop :=
  ∀ s : State, mechanismsOn s = true →
    let load (code : Byte) : State := { s with dbg := { s.dbg with ir := code } }
    Completes .idcode s (emit (.testData (natBytes 4 (0xB * 2 ^ 28 + 0x7140 * 2 ^ 12 + Config.jedec.toNat * 2 + 1))) (load 0x01))
    ∧ Completes .dbgStatus s (emit (.testData (natBytes 4 (lcState s * 32 + (match s.dbg.state with | .closed => 0 | .auth l v => 8 + l * 2 + (if v then 1 else 0) | .opened => 20)))) (load 0x10))
    ∧ (∀ l v, lcState s ≠ 0 → s.dbg.state = .auth l v → Completes .dbgLock s (raiseEv .debugClosed 0 [] { s with dbg := { s.dbg with ir := 0x11, state := .closed } }))
    ∧ (s.dbg.ir = 0x12 → debugOpen s = true → s.kpr.up = true →
        let t : State := { s with dbg := { s.dbg with busy := false } }
        let k := s.kpr
        Completes (.debugAction .halt) s (setKpr { k with dbgHalt := true } t) ∧ Completes (.debugAction .resume) s (setKpr { k with dbgHalt := false } t)
        ∧ Completes (.debugAction .step) s t
        ∧ (∀ r v, Completes (.debugAction (.writeReg r v)) s (setKpr { k with regs := mapSet 0 k.regs r v } t))
        ∧ (∀ i v, Completes (.debugAction (.writeTcm i v)) s (setKpr { k with tcm := mapSet 0 k.tcm i v } t))
        ∧ (∀ r, Completes (.debugAction (.readReg r)) s (emit (.testData (natBytes 4 (mapGet 0 k.regs r).toNat)) t))
        ∧ (∀ i, Completes (.debugAction (.readTcm i)) s (emit (.testData (natBytes 4 (mapGet 0 k.tcm i).toNat)) t))
        ∧ ∀ i, Completes (.debugAction (.breakpoint i)) s (setKpr { k with breakpoints := k.breakpoints ++ [i] } t))
    ∧ (s.dbg.ir ≠ 0x12 → ∀ a, Completes (.debugAction a) s s)

/-- Writes to the host registers: the poll period takes 1 to 64 and refuses other values; causes clear where 1 is written, but for the Keeper-restart cause of a Keeper that is halted for good (R428), and so do domains that run again; an enabled cause that is set counts as new; an index moves forward within its ring and is refused otherwise (R12, R350, R353, R366-R373). -/
def Obligations.HostRegisterWritesRun : Prop :=
  ∀ s : State, domainRuns 14 s = true →
    let k := s.plk
    (∀ v : BitVec 32, Completes (.plkPollPeriodWrite v) s
      (if bits v 6 0 = 0 ∨ 64 < bits v 6 0 then logInbound 8 false 0x10 4 s else setPlk { k with nextPeriod := bits v 6 0 } s))
    ∧ (∀ v : BitVec 32, Completes (.plkIntCauseClear v) s 
        (let w : BitVec 32 := if s.kpr.halted then v &&& ~~~32 else v; setPlk { k with cause := k.cause &&& ~~~w, fresh := k.fresh &&& ~~~w } s))
    ∧ (∀ v : BitVec 32, Completes (.plkIntEnableWrite v) s
        (setPlk { k with enable := v &&& 0xFFFF01FF, fresh := k.fresh ||| (v &&& 0xFFFF01FF &&& ~~~k.enable &&& k.cause) } s))
    ∧ (∀ v : BitVec 32, ∃ m : BitVec 16, Completes (.pwrDomainStoppedClear v) s (setPlk { k with stopped := m } s)
        ∧ ∀ d < 16, m.getLsbD d = (k.stopped.getLsbD d && !(v.getLsbD d && domainRuns d s)))
    ∧ (∀ (c : Fin 4) (v : BitVec 32), s.pwr.state ≠ .doze →
        let p := getPair c.val s
        Completes (.plkMbCmdProd c v) s (if indexOk 32 16 p.cmdCons p.cmdProd (bits v 4 0) then setPair c.val { p with cmdProd := bits v 4 0 } s else logInbound 8 false (0x100 + 16 * c.val) 4 s))
    ∧ (∀ (c : Fin 4) (v : BitVec 32),
        let p := getPair c.val s
        Completes (.plkMbCplCons c v) s (if (bits v 4 0 + 32 - p.cplCons) % 32 ≤ (p.cplProd + 32 - p.cplCons) % 32 then setPair c.val { p with cplCons := bits v 4 0 } s
          else logInbound 8 false (0x10C + 16 * c.val) 4 s))
    ∧ (∀ v : BitVec 32, Completes (.plkErrlogRead v) s
        (if (bits v 5 0 + 64 - k.errR) % 64 ≤ (k.errW + 64 - k.errR) % 64 then setPlk { k with errR := bits v 5 0 } s else logInbound 8 false 0x204 4 s))
    ∧ Completes .plkErrlogOverflow s (emit (.hostCompletion k.errOvf) (setPlk { k with errOvf := 0 } s))
    ∧ (∀ (r : Fin 16) (v : BitVec 32),
        let x := getRing r.val s
        Completes (.plkRingProd r v) s (if x.run = true ∧ indexOk 8192 (2 ^ x.sizeLog) x.cons x.prod (bits v 12 0) = true then setRing r.val { x with prod := bits v 12 0 } s
          else logInbound 8 false (0x2004 + 16 * r.val) 4 s))

/-- Windows (R342, R343, R372): words 0 to 2 are staged; the write of word 3 that clears ENABLE alone disables the window; any other commits the staged record when it is in order, overlaps no enabled window and replaces none, and is refused and logged otherwise, the staging copy discarded; reads return the active record. -/
def Obligations.WindowWritesRun : Prop :=
  ∀ (s : State) (w : Fin 16) (v : BitVec 32), domainRuns 14 s = true →
    let x := getWindow w.val s
    let off := x.active &&& ~~~(BitVec.twoPow 128 127)
    let r := windowFields (putWord x.staged 3 v)
    let disables := x.active.getLsbD 127 = true ∧ bits (windowFields (BitVec.ofNat 128 (v.toNat * 2 ^ 96))) 127 96 = bits off 127 96
    (∀ k : Fin 3, Completes (.windowStageWrite w k v) s (setWindow w.val { x with staged := putWord x.staged k.val v } s))
    ∧ (disables → Completes (.windowDisable w v) s (checkWindows (setWindow w.val { active := off, staged := off } s)))
    ∧ (¬ disables → windowFits w.val r s = true → Completes (.windowCommit w v) s (setWindow w.val { active := r, staged := r } s))
    ∧ (¬ disables → windowFits w.val r s = false → Completes (.windowCommit w v) s (logInbound 8 false (0x1000 + 16 * w.val + 12) 4 (setWindow w.val { x with staged := x.active } s)))
    ∧ ∀ k : Fin 4, hostReg (0x1000 + 16 * w.val + 4 * k.val) s = bits x.active (32 * k.val + 31) (32 * k.val)

/-- Ring control (R354, R373): setting RUN on a stopped ring returns its indices to 0; clearing it ends every descriptor not started with ABORTED; SIZE_LOG2 is 4 to 12 and changes only while the ring is stopped; any other write is refused and logged. -/
def Obligations.RingControlRuns : Prop :=
  ∀ (s : State) (r : Fin 16) (v : BitVec 32), domainRuns 14 s = true →
    let x := getRing r.val s
    let size := bits v 3 0
    let refused := size < 4 ∨ 12 < size ∨ (size ≠ x.sizeLog ∧ x.stopped = false)
    (refused → Completes (.ringSizeSet r v) s (logInbound 8 false (0x2000 + 16 * r.val) 4 s))
    ∧ (¬ refused → v.getLsbD 31 = true → x.run = false → Completes (.ringRun r v) s (setRing r.val { x with run := true, sizeLog := size, prod := 0, cons := 0, handed := 0 } s))
    ∧ (¬ refused → v.getLsbD 31 = false → x.run = true → Completes (.ringStop r v) s (abortRest r.val (setRing r.val { x with run := false, sizeLog := size } s)))
    ∧ (¬ refused → v.getLsbD 31 = x.run → Completes (.ringSizeSet r v) s (setRing r.val { x with sizeLog := size } s))

/-- The general host write of four aligned, enabled bytes is the row of the register at its offset (R346, R364). -/
def Obligations.HostWriteIsItsRegistersRow : Prop :=
  ∀ (v : BitVec 32) (s : State),
    let word : List (Byte × Bool) := ((natBytes 4 v.toNat).reverse).map (fun b => (b, true))
    let write (off : Nat) := exec (.hostRegisterWrite .bar0 off word) s
    write 0x10 = exec (.plkPollPeriodWrite v) s ∧ write 0x20 = exec (.plkIntCauseClear v) s ∧ write 0x24 = exec (.plkIntEnableWrite v) s
    ∧ write 0x34 = exec (.pwrDomainStoppedClear v) s ∧ write 0x204 = exec (.plkErrlogRead v) s
    ∧ (∀ c : Fin 4, write (0x100 + 16 * c.val) = exec (.plkMbCmdProd c v) s ∧ write (0x10C + 16 * c.val) = exec (.plkMbCplCons c v) s)
    ∧ (∀ w : Fin 16, (∀ k : Fin 3, write (0x1000 + 16 * w.val + 4 * k.val) = exec (.windowStageWrite w k v) s)
        ∧ write (0x1000 + 16 * w.val + 12) = exec (.windowCommit w v) s ∧ write (0x1000 + 16 * w.val + 12) = exec (.windowDisable w v) s)
    ∧ (∀ r : Fin 16, write (0x2000 + 16 * r.val) = exec (.ringRun r v) s ∧ write (0x2000 + 16 * r.val) = exec (.ringStop r v) s
        ∧ write (0x2000 + 16 * r.val) = exec (.ringSizeSet r v) s ∧ write (0x2004 + 16 * r.val) = exec (.plkRingProd r v) s)

/-- A host write that is no aligned whole word of a register is refused and logged, at a reserved offset it has no owner and is logged; a write to ring or descriptor memory stores exactly its enabled bytes where the module owns none of them, but for reserved bytes, which ignore it (R8, R338, R346, R349, R350, R353). -/
def Obligations.HostWritesReachMemoryOrAreLogged : Prop :=
  ∀ (s : State) (off : Nat) (bs : List (Byte × Bool)), domainRuns 14 s = true → s.pwr.state ≠ .doze → 1 ≤ bs.length → bs.length ≤ 256 →
    (off < 0x100000 → (bs.length ≠ 4 ∨ off % 4 ≠ 0 ∨ ∃ b ∈ bs, b.2 = false) → Completes (.hostRegisterWrite .bar0 off bs) s (logInbound 8 false off bs.length s))
    ∧ ((0x142000 ≤ off ∧ off < 0x200000) ∨ 0x242000 ≤ off → Completes (.hostRegisterWrite .bar0 off bs) s (logInbound 7 false off bs.length s))
    ∧ ((0x100000 ≤ off ∧ off + bs.length ≤ 0x142000) ∨ (0x200000 ≤ off ∧ off + bs.length ≤ 0x242000) → (∀ k < bs.length, ringByteOwned (off + k) s = false) →
        ∃ m, Completes (.hostRegisterWrite .bar0 off bs) s (setPlk { s.plk with ringMem := m } s)
          ∧ ∀ a : Nat,
              mapGet 0 m a = (match bs[a - off]? with | some (b, true) => if off ≤ a ∧ ringReserved a = false then b else mapGet 0 s.plk.ringMem a | _ => mapGet 0 s.plk.ringMem a))
    ∧ (off / 0x400000 < 16 → off % 0x400000 + bs.length ≤ 0x20000 → (∀ k < bs.length, descOwned ((off + k) / 0x400000) ((off + k) % 0x400000 / 32) s = false) →
        ∃ m, Completes (.hostRegisterWrite .bar2 off bs) s (setPlk { s.plk with descMem := m } s)
          ∧ ∀ a : Nat,
              mapGet 0 m a = (match bs[a - off]? with
                | some (b, true) => if off ≤ a then b &&& BitVec.ofNat 8 (descWordMask (a % 32 / 4) / 256 ^ (a % 4)) else mapGet 0 s.plk.descMem a
                | _ => mapGet 0 s.plk.descMem a))

/-- The error log (R347, R348): an entry with the time now goes to the next of 32 places; with 32 entries held it is only counted, up to the counter's end; either way the cause of vector 4 sets and an event is raised. -/
def Obligations.ErrorLogHoldsThirtyTwo : Prop :=
  ∀ (e : ErrEntry) (s : State), s.plk.errW < 64 → s.plk.errR < 64 →
    let t := logError e s
    t.plk.cause.getLsbD 4 = true ∧ t.raised = s.raised ++ [(.plkError, 0, [])]
    ∧ (if (s.plk.errW + 64 - s.plk.errR) % 64 = 32 then t.plk.errs = s.plk.errs ∧ t.plk.errW = s.plk.errW ∧ t.plk.errOvf = min (2 ^ 32 - 1) (s.plk.errOvf + 1)
       else t.plk.errs = mapSet {} s.plk.errs (s.plk.errW % 32) { e with time := nowNs s % 2 ^ 64 } ∧ t.plk.errW = (s.plk.errW + 1) % 64 ∧ t.plk.errOvf = s.plk.errOvf)
    ∧ t.counters = s.counters ∧ t.fab = s.fab ∧ t.plk.windows = s.plk.windows ∧ t.plk.rings = s.plk.rings ∧ t.plk.pairs = s.plk.pairs
    ∧ t.plk.ringMem = s.plk.ringMem ∧ t.plk.descMem = s.plk.descMem

/-- The Placket's own events: the poll hands doorbells over, samples causes, refreshes the copies and takes the new period, and the Keeper serves the commands it was handed; a completion ring with room takes the oldest waiting reply; a transmit or receive descriptor in order starts its transfer, one out of order or without a window completes with its STATUS (R339, R351, R353, R354, R356, R363). -/
def Obligations.PlacketEventsRun : Prop :=
  (∀ (at_ : Nat) (s : State),
    let u := advanceTo at_ s
    (domainRuns 14 u = false ∨ u.cyc < u.plk.pollAt → Completes (.placketPoll at_) s u)
    ∧ (domainRuns 14 u = true → u.plk.pollAt ≤ u.cyc →
        let x := pollCauses (handRings (if domainStuck 1 u then u else handMailbox u))
        Completes (.placketPoll at_) s (serveRings 64 (setPlk { x.plk with period := x.plk.nextPeriod, pollAt := x.cyc + x.plk.nextPeriod * usCyc, copies := hostCopies x } x))))
  ∧ (∀ (c : Fin 4) (s : State) (via : Via) (counted : Bool) (bs : List Byte),
      let x := s.yel.placket
      let t := writeCompletion c.val bs (setTrans .placket { x with replies := x.replies.erase (via, counted, bs), outstanding := if counted then x.outstanding - 1 else x.outstanding } s)
      x.replies.find? (fun e => match e.1 with | .ring k => decide (k.val = c.val) | _ => false) = some (via, counted, bs) → cplFull c.val s = false → domainRuns 14 s = true →
        Completes (.replyWrite c) s (serveRings 64 t))
  ∧ (∀ (r : Fin 8) (s : State) (d : BitVec 256), domainRuns 14 s = true → nextDesc r.val s = some d →
      let len := bits d 250 237
      let bad := len = 0 ∨ 9216 < len ∨ bits d 236 232 ≠ 0 ∨ bits d 231 229 ≠ 0 ∨ bits d 191 96 ≠ 0
      (bad → Completes (.dmaTxDescriptor r) s (completeDesc r.val d 6 (bump .plkBadDesc r.val s)))
      ∧ (¬ bad → windowFor false (bits d 63 0) len s = none → Completes (.dmaTxDescriptor r) s (completeDesc r.val d 3 (bump .plkNoWindow r.val s)))
      ∧ ∀ w, ¬ bad → windowFor false (bits d 63 0) len s = some w →
          Completes (.dmaTxDescriptor r) s (issueWaiting (setRing r.val { getRing r.val s with active := some { desc := d, window := w, serial := s.plk.serial, len := len, index := (getRing r.val s).cons, todo := cutTlps (min 256 s.plk.maxRead) 9217 (bits d 63 0) 0 len } }
            (setPlk { s.plk with serial := s.plk.serial + 1 } s))))
  ∧ ∀ (c : Fin 8) (s : State) (d : BitVec 256), coreRuns s = true → domainRuns 14 s = true → nextDesc (8 + c.val) s = some d → mapGet none s.fab.tx 31 = none →
      eligible (8 * 31 + c.val) s = true →
      let len := bits d 250 237
      (len < 64 ∨ 9216 < len → Completes (.dmaRxDescriptor c) s (completeDesc (8 + c.val) d 6 (bump .plkBadDesc (8 + c.val) s)))
      ∧ (64 ≤ len → len ≤ 9216 → windowFor true (bits d 63 0) len s = none → Completes (.dmaRxDescriptor c) s (completeDesc (8 + c.val) d 3 (bump .plkNoWindow (8 + c.val) s)))
      ∧ ∀ w, 64 ≤ len → len ≤ 9216 → windowFor true (bits d 63 0) len s = some w → ∃ n,
          Completes (.dmaRxDescriptor c) s (startHead (8 * 31 + c.val) (setRing (8 + c.val) { getRing (8 + c.val) s with active := some { desc := d, window := w, serial := s.plk.serial, len := n, index := (getRing (8 + c.val) s).cons } } (setPlk { s.plk with serial := s.plk.serial + 1 } s)))

/-- PCI Express: a completion for no outstanding request, or for one whose timeout has been reached, is discarded; one with an error status ends its request, counted; one with part of the data is kept; a completion timeout ends its request, counted and reported; a stalled posted write is dropped and logged; link state and configuration writes take their values, where the configuration field can hold them (R12, R339, R340, R344, R346, R347, R361); both resets do what R352 and R360 say. -/
def Obligations.PcieEventsRun : Prop :=
  (∀ (tag : Nat) (st : CplStatus) (data : List Byte) (s : State), domainRuns 14 s = true →
    (s.plk.outs.find? (fun o => o.tag == tag) = none → Completes (.pcieCompletion tag st data) s s)
    ∧ (∀ o, s.plk.outs.find? (fun o => o.tag == tag) = some o → o.deadline ≤ s.cyc → Completes (.pcieCompletion tag st data) s s)
    ∧ ∀ o, s.plk.outs.find? (fun o => o.tag == tag) = some o → s.cyc < o.deadline →
        let others := setPlk { s.plk with outs := s.plk.outs.filter (fun x => x.tag != tag) } s
        let got := (o.got ++ data).take o.len
        (st ≠ .ok → Completes (.pcieCompletion tag st data) s (issueWaiting (failRequest o (bump .plkCplError 0 others))))
        ∧ (st = .ok → got.length < o.len → Completes (.pcieCompletion tag st data) s
            (setPlk { s.plk with outs := replaceIf (fun x => x.tag == tag) (fun _ => { o with got := got }) s.plk.outs } s))
        ∧ (st = .ok → o.len ≤ got.length → Completes (.pcieCompletion tag st data) s (issueWaiting (finishRequest { o with got := got } others))))
  ∧ (∀ (at_ tag : Nat) (o : Outbound) (s : State),
      let u := advanceTo at_ s
      domainRuns 14 u = true → u.plk.outs.find? (fun o => o.tag == tag) = some o → o.deadline ≤ u.cyc → Completes (.cplTimeout at_ tag) s
        (issueWaiting (failRequest o (raiseEv .pcieAer 0 [] (bump .plkCplTimeout 0 (setPlk { u.plk with outs := u.plk.outs.filter (fun x => x.tag != tag) } u))))))
  ∧ (∀ (at_ : Nat) (r : Fin 16) (d : Dma) (a n o : Nat) (s : State),
      let u := advanceTo at_ s
      domainRuns 14 u = true → 8 ≤ r.val → (getRing r.val u).active = some d → d.flushing = false → (rxTlps d d.len u)[d.tlps]? = some (a, n, o) → Completes (.fcStall at_ r) s
        (logError { reason := 5, window := d.window, initiator := r.val, length := n, addr := a } (updDma r.val (fun d => { d with tlps := d.tlps + 1 }) u)))
  ∧ (∀ (l : PcieLink) (s : State), domainRuns 14 s = true → Completes (.pcieLinkStateChange l) s (setPlk { s.plk with link := l } s))
  ∧ ∀ (s : State), domainRuns 14 s = true →
      (∀ on, Completes (.pcieConfigWrite (.busMaster on)) s (setPlk { s.plk with bme := on } s))
      ∧ (∀ n, Completes (.pcieConfigWrite (.maxPayload n)) s (if n = 128 ∨ n = 256 then setPlk { s.plk with maxPayload := n } s else s))
      ∧ (∀ n, Completes (.pcieConfigWrite (.maxReadRequest n)) s (if n ∈ [128, 256, 512, 1024, 2048, 4096] then setPlk { s.plk with maxRead := n } s else s))
      ∧ (∀ ns, Completes (.pcieConfigWrite (.cplTimeout ns)) s (if 50000 ≤ ns ∧ ns ≤ 250000000 then setPlk { s.plk with cplNs := ns } s else s))
      ∧ Completes .functionLevelReset s (functionReset s) ∧ Completes .pcieFundamentalReset s (resetPlacket s)

/-- After a function-level reset the mailbox rings and the error log are at their start, every DMA ring is stopped with its indices at 0 and its size kept, every window is disabled, and slot contents stay; after a fundamental reset windows, rings and causes have their reset values (R352, R360). -/
def Obligations.PlacketResetsClear : Prop :=
  ∀ s : State,
    ((functionReset s).plk.pairs = [] ∧ (∀ r : Fin 16, getRing r.val (functionReset s) = { sizeLog := (getRing r.val s).sizeLog }) ∧ (functionReset s).plk.outs = [] ∧ (functionReset s).plk.errW = 0 ∧ (functionReset s).plk.errR = 0
      ∧ (functionReset s).plk.errOvf = 0 ∧ (functionReset s).plk.ringMem = s.plk.ringMem ∧ (functionReset s).plk.descMem = s.plk.descMem
      ∧ ∀ w, (getWindow w (functionReset s)).active.getLsbD 127 = false)
    ∧ (resetPlacket s).plk.windows = [] ∧ (resetPlacket s).plk.rings = [] ∧ (resetPlacket s).plk.pairs = [] ∧ (resetPlacket s).plk.cause = 0 ∧ (resetPlacket s).plk.enable = 0
    ∧ (resetPlacket s).plk.ringMem = s.plk.ringMem ∧ (resetPlacket s).plk.descMem = s.plk.descMem

/-! ## The fabric (R29-R74) -/

/-- Frames come in (R36-R39, R49-R53, R58, R59, R130, R137-R145, R199, R234, R248, R392): first bytes at a port whose link is up start a frame under the current epoch, unless its Selvage link decodes them as error blocks, at a port whose link is down nothing is received, in DOZE the frame is counted and lost; a lookup that a walker has taken ends at the leaf that its tree's walk finds, waiting requests take the free walkers, and the FIFOs of the CAN controllers empty into the room that is left; a frame that tests 1 and 2 refuse leaves, one that they admit is queued at its queue's tail; a cell slot turns the Shuttles and changes no queue and no charge; the Treadle turns; a port idle for 16 rotations stops competing; a cleared quadrant takes cells, and a drained one goes off. -/
def Obligations.FrameArrivalEventsRun : Prop :=
  ∀ (s : State) (port : Port),
    let p := port.val
    let emptied (x : State) : State := if edgeOn x then drainFifos 512 x else x
    (∀ bs fin, coreRuns s = true → linkUpNow p s = false → Completes (.frameReceive port bs fin) s s)
    ∧ (∀ bs, coreRuns s = true → p < 27 → linkUpNow p s = true → tribSpoiled p s = false → receiving p s = none → bs.length < 14 → bs.length ≤ bits (getPort p s).record 46 33 →
        (∀ f ∈ s.fab.frames, f.ident < s.fab.nextIdent) →
        Completes (.frameReceive port bs .more) s (setFab { s.fab with nextIdent := s.fab.nextIdent + 1, frames := s.fab.frames ++ [{ ident := s.fab.nextIdent, entry := p, keyPort := p, bytes := bs, epoch := currentEpoch s, arrived := rxStamp p s }] } s))
    ∧ (∀ bs, s.pwr.state = .doze → p < 27 → linkUpNow p s = true → Completes (.frameReceive port bs .good) s (leaveDoze (bump .pwrDozeRxDrop p s)))
    ∧ (∀ late ecc, coreRuns s = true → walkedNext p s = none → Completes (.lookupComplete port late ecc) s (emptied s))
    ∧ (∀ late ecc f, coreRuns s = true → walkedNext p s = some f → f.second = none →
        let v := if ecc = .corrected then bump .patNodeEccCorr 0 s else s
        (frameTables f s = none → Completes (.lookupComplete port late ecc) s (emptied (startWalks (refuse f.ident .patNoTree f.keyPort v))))
        ∧ ∀ tb, frameTables f s = some tb → (f.key.isFrag = false ∨ f.key.firstFrag = true) →
            let z := frameZone tb f
            let kb := keyBytes f.keyPort z false false 0 f.key
            let at_ := mapGet none tb.roots (z * 5 + keyType f.key)
            (at_ = none → Completes (.lookupComplete port late ecc) s (emptied (startWalks (refuse f.ident .patNoTree f.keyPort v))))
            ∧ ∀ root, at_ = some root →
              ((ecc = .uncorrectable ∨ walkTree s.pat.nodeMem tb.nodes kb 24 root = none) →
                Completes (.lookupComplete port late ecc) s (emptied (startWalks (detectFault 0x0E 0 (refuse f.ident .patTreeFault f.keyPort v)))))
              ∧ ∀ leaf, ecc ≠ .uncorrectable → walkTree s.pat.nodeMem tb.nodes kb 24 root = some leaf →
                  Completes (.lookupComplete port late ecc) s (emptied (startWalks
                    (applyLeaf f.ident leaf none (late && !(verdictSure f tb kb root leaf s)) (if f.key.isFrag then firstFragment f leaf v else v)))))
    ∧ (∀ f, coreRuns s = true → lightsGoing s = false → nextForAdmission p s = some f → f.stage ≠ .ready → Completes (.admission port) s s)
    ∧ (∀ f (o : Nat), coreRuns s = true → lightsGoing s = false → nextForAdmission p s = some f → getFrame f.ident s = some f → f.stage = .ready → f.verdict.ports = [o] → f.entry = p →
        expressFits f s = false → firstCellDone f false = true →
        let q := 8 * o + f.verdict.cls
        let u := noteArrival q p (endContention s)
        (hasCredit q p u = false ∨ (admitTest q u = none ∧ (getBuf q u).headDrop = false) →
          Completes (.admission port) s (dropFrame f.ident (bump .boltAdmitDrop q (noteRefused q p u))))
        ∧ ∀ r, hasCredit q p u = true → admitTest q u = some r → f.verdict.strip = false → f.verdict.gen = none → f.bytes.length ≤ 9216 →
            ∃ t, Completes (.admission port) s t ∧ queueOf q t = queueOf q s ++ [{ frame := f.ident }] ∧ (∀ q', q' ≠ q → queueOf q' t = queueOf q' s)
              ∧ (getFrame f.ident t).map (fun g => (g.stage, g.bytes, g.queues, g.refs)) = some (.admitted, f.bytes, [(q, r)], 1))
    ∧ (coreRuns s = true → ∃ t, Completes .shuttleSlot s t ∧ t.fab.slot = (s.fab.slot + 1) % 4 ∧ t.fab.queues = s.fab.queues ∧ t.fab.occ = s.fab.occ ∧ t.fab.use = s.fab.use
        ∧ t.fab.pool = s.fab.pool ∧ t.fab.headroom = s.fab.headroom ∧ t.fab.tracked = s.fab.tracked)
    ∧ (coreRuns s = true → Completes .treadleRotation s (let u := endContention s; setFab { u.fab with tracked := u.fab.tracked.map rotateQueue } u))
    ∧ (∀ (cls : Cls) (i : Port), coreRuns s = true → ∃ l, Completes (.competingTimeout port cls i) s (setFab { s.fab with tracked := l } s)
        ∧ l.map (fun t => t.queue) = s.fab.tracked.map (fun t => t.queue)
        ∧ ∀ t ∈ l, ∀ r ∈ t.rivals, t.queue = 8 * p + cls.val → r.port = i.val → r.idle < 16)
    ∧ (∀ q : Quad, (quadState q.val s = .clearing → Completes (.bankClearDone q) s (endContention (setFab { s.fab with quads := mapSet .off s.fab.quads q.val .on } s)))
        ∧ (quadState q.val s = .draining → quadOcc q.val s = 0 → Completes (.quadrantDrained q) s (setFab { s.fab with quads := mapSet .off s.fab.quads q.val .off } s)))

/-- Frames go out (R42-R45, R56, R66-R72, R242): an idle port starts the head frame of the highest eligible class outside the DWRR group, a preempted frame resumes where nothing protected is eligible; a delivered cell of a unicast frame, once a read or the bypass has brought it, is freed; a good frame that has all gone is emitted and counted; a preemptable frame gives way at a point that R72 permits, which one being a free value (log entry 6); the verify exchange enables preemption; an aged frame leaves the head of its queue, and the next stays where it is not aged. -/
def Obligations.FrameTransmissionEventsRun : Prop :=
  (∀ (s : State) (port : Port), coreRuns s = true → portTakes port.val s = true → port.val ≠ 31 →
    let p := port.val
    (∀ t, mapGet none s.fab.tx p = some t → Completes (.egressSelect port) s s)
    ∧ (mapGet none s.fab.tx p = none → (∀ c < 8, eligible (8 * p + c) s = false) → mapGet none s.fab.preempted p = none → Completes (.egressSelect port) s s)
    ∧ (∀ c < 8, mapGet none s.fab.tx p = none → mapGet none s.fab.preempted p = none → (getQP (8 * p + c) s).sel ≠ 2 → eligible (8 * p + c) s = true →
        (∀ d < 8, c < d → (getQP (8 * p + d) s).sel ≠ 2 → eligible (8 * p + d) s = false) →
        ∃ e rest, queueOf (8 * p + c) s = e :: rest ∧ Completes (.egressSelect port) s
          (setTx p (some { frame := e.frame, cls := c, link := e.link, lane := if p = 29 then ((getFrame e.frame s).map (fun f => pipeOf f s)).getD 0 else 0 }) (updFrame e.frame (fun g => { g with started := true }) (syncLinks (8 * p + c) (setQueue (8 * p + c) rest s)))))
    ∧ (∀ t, mapGet none s.fab.tx p = none → mapGet none s.fab.preempted p = some t → (∀ c < 8, (getQP (8 * p + c) s).preemptable = false → eligible (8 * p + c) s = false) →
        resumable t p s = true → Completes (.egressSelect port) s (bump .aMACMergeFragCountTx p (setPreempted p none (setTx p (some t) s)))))
  ∧ (∀ (s : State) (port : Port) (t : Tx) (f : Frame) (c : Nat), coreRuns s = true → port.val ≠ 31 →
      let p := port.val
      mapGet none s.fab.tx p = some t → getFrame t.frame s = some f → f.cells[t.done]? = some c → t.cut = none → (t.returned.contains c = true ∨ f.express = true) →
      let t1 : Tx := { t with done := t.done + 1, returned := t.returned.filter (fun x => x != c) }
      let u := if f.multicast then setTx p (some t1) s else freeCell t.frame (setTx p (some t1) s)
      (f.ended = false ∨ t.done + 1 ≠ f.formed → Completes (.cellRead port .clean) s u)
      ∧ (f.ended = true → t.done + 1 = f.formed → Completes (.cellRead port .clean) s (finishRead p { t1 with bad := t.bad || f.badTail } u)))
  ∧ (∀ (s : State) (port : ExtPort), coreRuns s = true →
      let p := port.val
      let at_ : Port := ⟨p, by omega⟩
      (mapGet none s.fab.tx p = none → Completes (.frameTransmitEnd at_) s s ∧ Completes (.preemption port) s s)
      ∧ ∀ t f, mapGet none s.fab.tx p = some t → getFrame t.frame s = some f →
          (t.cut = none → f.ended = false → Completes (.frameTransmitEnd at_) s s)
          ∧ (t.cut = none → f.ended = true → t.done = f.formed → t.bad = false → f.badTail = false →
              Completes (.frameTransmitEnd at_) s (sendFrame p (egressBytes f p) false (bumpBy (f.bytes.length - 18) .aOctetsTransmittedOK p
                (bump .aFramesTransmittedOK p (boundary p (chargeDwrr (8 * p + t.cls) f.bytes.length (leaveFrame t (setTx p none s))))))))
          ∧ ∀ a, (getQP (8 * p + t.cls) s).preemptable = true → preemptA p s = some a → mapGet none s.fab.preempted p = none → t.cut = none →
              (∃ c < 8, (getQP (8 * p + c) s).preemptable = false ∧ eligible (8 * p + c) s = true) ∨ (getGates p s).hold = true ∨ (gateOut p s).getLsbD t.cls = false →
              let first := t.fragFrom + 64 * (1 + a) - 4
              let last := min (f.bytesIn t.done) (f.bytes.length - 64)
              first ≤ last → ∃ n u, first ≤ n ∧ n ≤ last ∧ { u with draws := s.draws } = s
                ∧ Completes (.preemption port) s (setPreempted p (some { t with fragFrom := n }) (setTx p none u)))
  ∧ (∀ (s : State) (port : ExtPort) (a : Fin 4),
      let r := getPort port.val s
      let active := r.up = true ∧ r.record.getLsbD 49 = true ∧ ¬ (16 ≤ port.val ∧ port.val ≤ 23 ∧ r.mode = 4)
      (active → ∃ t, Completes (.preemptVerify port a) s t ∧ preemptA port.val t = some a.val ∧ t.fab = s.fab ∧ t.ports = s.ports)
      ∧ (¬ active → Completes (.preemptVerify port a) s s))
  ∧ ∀ (s : State) (at_ : Nat) (port : Port) (cls : Cls), coreRuns (advanceTo at_ s) = true →
      let u := advanceTo at_ s
      let q := 8 * port.val + cls.val
      (headAged q u = false → Completes (.frameAged at_ port cls) s u)
      ∧ ∀ e rest, queueOf q u = e :: rest → headAged q u = true →
          let v := bump .boltAged q (dropCopy e.frame e.link (syncLinks q (setQueue q rest u)))
          headAged q v = false → Completes (.frameAged at_ port cls) s v

/-! ## Gates, stream gates, recovery functions, the Beacon, keys and the Pattern's timers (R74-R162) -/

/-- The events of gate lists, stream gates and FRER (R74, R76, R79, R91, R96, R97): the entry in force at Beacon time drives the gates, and the Bolt stays as it is but for the mark of a frame that its gate's closing overtakes (R83); a pending list takes over at its CT; an override ends with its interval; a recovery function that passed nothing for its reset time takes any number; the latent error test raises an event above its difference; the counts restart. -/
def Obligations.GateAndRecoveryEventsRun : Prop :=
  ∀ (s : State) (at_ : Nat), coreRuns (advanceTo at_ s) = true →
    let u := advanceTo at_ s
    (∀ port : ExtPort,
      let p := port.val
      let g := getGates p u
      (g.live = false ∨ g.act.enable = false → Completes (.gateEntryStart at_ port) s u ∧ Completes (.gateCycleStart at_ port) s u)
      ∧ (g.live = true → g.act.enable = true →
          let q := g.seqState (nowNs u)
          ∃ t, Completes (.gateEntryStart at_ port) s t ∧ Completes (.gateCycleStart at_ port) s t ∧ (getGates p t).cur = q.1 ∧ (getGates p t).gates = q.2.1
            ∧ (getGates p t).cycleStart = q.2.2.2 ∧ (getGates p t).act = g.act ∧ (∀ p', p' ≠ p → getGates p' t = getGates p' u) ∧ { t.fab with tx := u.fab.tx } = u.fab ∧ t.bcn = u.bcn)
      ∧ (g.pend = none → Completes (.gclCtReached at_ port) s u)
      ∧ (∀ c, g.pend = some c → Int.ofNat (nowNs u) < c → Completes (.gclCtReached at_ port) s u)
      ∧ (∀ c, g.pend = some c → c ≤ Int.ofNat (nowNs u) → ∃ t, Completes (.gclCtReached at_ port) s t ∧ (getGates p t).act = g.shadow ∧ (getGates p t).live = true
          ∧ (getGates p t).ct = c ∧ (getGates p t).pend = none ∧ (getGates p t).ovr = none ∧ (getGates p t).infeasible = false ∧ (∀ p', p' ≠ p → getGates p' t = getGates p' u) ∧ { t.fab with tx := u.fab.tx } = u.fab)
      ∧ ∀ o, g.ovr = some o → g.live = true →
          (Int.ofNat (nowNs u) < o.stop → Completes (.stitchOverrideEnd at_ port) s u)
          ∧ (o.stop ≤ Int.ofNat (nowNs u) → ∃ t, Completes (.stitchOverrideEnd at_ port) s t ∧ (getGates p t).ovr = none ∧ (getGates p t).act = g.act ∧ { t.fab with tx := u.fab.tx } = u.fab))
    ∧ (∀ gate : Fin 256,
        let g := getSGate gate.val u
        let now := Int.ofNat (nowNs u)
        (g.pend = none → g.live = true → Completes (.sgateEntryStart at_ gate) s (setSGate gate.val { g with cur := g.place now } u))
        ∧ ∀ c, g.pend = some c → c ≤ now →
            let h : StreamGate := { g with act := g.shadow, live := true, ct := c, pend := none }
            Completes (.sgateEntryStart at_ gate) s (setSGate gate.val { h with cur := h.place now } u))
    ∧ ∀ fn : Fin 2048,
        let r := getRecov fn.val u
        let d : Int := Int.ofNat r.passed * (Int.ofNat r.paths - 1) - Int.ofNat r.discarded
        let tested := setRecov fn.val { r with testAt := u.cyc } u
        r.present = true →
          (r.takeAny = false → r.passedAt + r.resetMs * msCyc ≤ u.cyc → Completes (.frerResetTimeout at_ fn) s (bump .seamFrerReset fn.val (setRecov fn.val { r with takeAny := true } u)))
          ∧ (r.takeAny = true ∨ u.cyc < r.passedAt + r.resetMs * msCyc → Completes (.frerResetTimeout at_ fn) s u)
          ∧ (u.cyc < r.testAt + r.testMs * msCyc → Completes (.frerLatentTest at_ fn) s u)
          ∧ (r.testAt + r.testMs * msCyc ≤ u.cyc → d.natAbs ≤ r.diff → Completes (.frerLatentTest at_ fn) s tested)
          ∧ (r.testAt + r.testMs * msCyc ≤ u.cyc → r.diff < d.natAbs → Completes (.frerLatentTest at_ fn) s (raiseEv .frerLatent fn.val [] (bump .seamFrerLatent fn.val tested)))
          ∧ (r.latResetAt + r.latResetMs * msCyc ≤ u.cyc → Completes (.frerLatentReset at_ fn) s (setRecov fn.val { r with passed := 0, discarded := 0, latResetAt := u.cyc } u))
          ∧ (u.cyc < r.latResetAt + r.latResetMs * msCyc → Completes (.frerLatentReset at_ fn) s u)

/-- Time from gPTP (R105-R108): a Sync of the other domain is only noted; in LOCKED, within the limits, RATE moves to within the slew limit of the measured ratio (the law within it is the servo's own, log entry 11) and no step occurs; a new grandmaster's Sync beyond the step threshold is refused, in HOLDOVER; the receipt timeout enters HOLDOVER at the mean of the history; as grandmaster the module follows no Sync. -/
def Obligations.BeaconEventsRun : Prop :=
  (∀ (s : State) (i : Fin 2) (gm : BitVec 64) (offset ratio : Int), keeperRuns s = true → mechanismsOn s = true →
    let g := getInst i.val s
    let noted := setInst i.val { g with gm := some gm, offset := offset, ratio := ratio, lastSync := s.cyc, changed := false } s
    let same := g.changed = false ∧ (g.gm = none ∨ g.gm = some gm)
    (i.val ≠ s.bcn.primary ∨ s.bcn.mode = .grandmaster → Completes (.gptpSyncReceived i gm offset ratio) s noted)
    ∧ (i.val = s.bcn.primary → s.bcn.mode ≠ .grandmaster → s.bcn.stepPending = true → same →
        Completes (.gptpSyncReceived i gm offset ratio) s (setBcn { noted.bcn with pendOffset := offset } noted))
    ∧ (i.val = s.bcn.primary → s.bcn.mode = .locked → s.bcn.stepPending = false → same → offset.natAbs ≤ 1000 * 65536 →
        ratio.natAbs + (ppmRate s.bcn.slewPpm).toNat < 2 ^ 31 →
        ∃ t, Completes (.gptpSyncReceived i gm offset ratio) s t ∧ t.bcn.mode = .locked ∧ (t.bcn.rate - ratio).natAbs ≤ (ppmRate s.bcn.slewPpm).toNat
          ∧ t.bcn.total = s.bcn.total ∧ t.bcn.history = (t.bcn.rate :: s.bcn.history).take 16 ∧ t.stb = s.stb ∧ t.sch = s.sch ∧ t.fab = s.fab ∧ t.counters = s.counters)
    ∧ (i.val = s.bcn.primary → s.bcn.mode = .locked → s.bcn.stepPending = false → ¬ same → s.bcn.threshold * 65536 < offset.natAbs →
        ∃ t, Completes (.gptpSyncReceived i gm offset ratio) s t ∧ t.bcn.mode = .holdover ∧ t.bcn.stepPending = true ∧ t.bcn.pendOffset = offset ∧ t.bcn.total = s.bcn.total
          ∧ t.raised = s.raised ++ [(.stepRefused, 0, [])] ∧ t.stb = s.stb ∧ t.sch = s.sch ∧ t.fab = s.fab))
  ∧ (∀ (s : State) (at_ : Nat) (i : Fin 2), keeperRuns (advanceTo at_ s) = true →
      let u := advanceTo at_ s
      let noted := bump .bcnSyncTimeout i.val u
      let h := u.bcn.history
      (i.val ≠ u.bcn.primary → Completes (.syncReceiptTimeout at_ i) s noted)
      ∧ (i.val = u.bcn.primary → u.bcn.mode = .locked → h ≠ [] → Completes (.syncReceiptTimeout at_ i) s
          (setBcn { noted.bcn with mode := .holdover, good := 0, far := 0, rate := h.foldl (· + ·) 0 / Int.ofNat h.length } noted)))
  ∧ ∀ (s : State) (gm : BitVec 64), keeperRuns s = true → s.bcn.primary < 2 →
      (∃ t, Completes (.grandmasterSelection true gm) s t ∧ t.bcn.mode = .grandmaster ∧ t.bcn.stepPending = false ∧ t.bcn.total = s.bcn.total ∧ t.bcn.rate = s.bcn.rate ∧ t.stb = s.stb ∧ t.fab = s.fab)
      ∧ (s.bcn.mode = .grandmaster → ∃ t, Completes (.grandmasterSelection false gm) s t ∧ t.bcn.mode = .holdover ∧ t.bcn.total = s.bcn.total
          ∧ (s.bcn.history = [] → t.bcn.rate = s.bcn.rate) ∧ (s.bcn.history ≠ [] → t.bcn.rate = s.bcn.history.foldl (· + ·) 0 / Int.ofNat s.bcn.history.length) ∧ t.stb = s.stb ∧ t.fab = s.fab)

/-- Stitch bases, keys, marks and the Pattern's timers (R76, R112-R118, R123, R127, R147, R151-R154, R162): a level held shorter than the filter is a glitch; a count moves the position by the scale; its high-water mark is the furthest position reached, interpolated ones among them; a base that heard nothing for its standstill time stands; a due key of a mark starts its pulse, of a gate entry its override, and one too soon after its consumer's last coalesces; a pulse, an epoch without references and a fragment entry end; a zone swap, before which an epoch without references is freed (R160), waits on while an epoch drains. How pin levels count is PRESUMED (log entry 10). -/
def Obligations.StitchAndPatternEventsRun : Prop :=
  ∀ (s : State) (at_ : Nat),
    let u := advanceTo at_ s
    (domainRuns 15 u = true →
      (∀ (base : Fin 4) (a b : Bool) (held : Nat),
        let x := getBase base.val u
        let filter := 10 * bits x.record 115 104
        let moved (fwd : Bool) : Int := if fwd != x.record.getLsbD 122 then x.pos + Int.ofNat x.scale else x.pos - Int.ofNat x.scale
        let d := (quadQuarter a b + 4 - quadQuarter x.pinA x.pinB) % 4
        (a = x.pinA → b = x.pinB → Completes (.stitchEdge at_ base a b held) s u)
        ∧ (x.mode = 0 ∨ 4 ≤ x.mode → (a ≠ x.pinA ∨ b ≠ x.pinB) → Completes (.stitchEdge at_ base a b held) s (setBase base.val { x with pinA := a, pinB := b } u))
        ∧ (1 ≤ x.mode → x.mode ≤ 3 → (a ≠ x.pinA ∨ b ≠ x.pinB) → held < filter → Completes (.stitchEdge at_ base a b held) s (bump .stbGlitch base.val u))
        ∧ (x.mode = 2 ∨ x.mode = 3 → a = true → x.pinA = false → filter ≤ held → ∃ t, Completes (.stitchEdge at_ base a b held) s t
            ∧ (getBase base.val t).pos = moved (if x.mode = 2 then !b else x.cmdFwd) ∧ (getBase base.val t).moving = true ∧ (getBase base.val t).hwm = max (x.topAt (nowFrac u)) (getBase base.val t).pos ∧ t.fab = u.fab ∧ t.sch = u.sch)
        ∧ (x.mode = 1 → 2 ≤ bits x.record 124 123 → (d = 1 ∨ d = 3) → filter ≤ held → ∃ t, Completes (.stitchEdge at_ base a b held) s t
            ∧ (getBase base.val t).pos = moved (d == 1) ∧ (getBase base.val t).moving = true ∧ (getBase base.val t).hwm = max (x.topAt (nowFrac u)) (getBase base.val t).pos ∧ t.fab = u.fab ∧ t.sch = u.sch)
        ∧ (x.moving = false ∨ u.cyc < x.heard + x.standstill → Completes (.standstillTimeout at_ base) s u)
        ∧ (x.moving = true → x.heard + x.standstill ≤ u.cyc →
            let v := catchUp base.val u
            let y := getBase base.val v
            Completes (.standstillTimeout at_ base) s (bump .stbStandstill base.val (setBase base.val { y with pos := if y.mode = 4 then y.posAt (nowFrac u) else y.pos, moving := false, stamps := [], speed := 0 } v))))
      ∧ (∀ key, dueKeys (KeyRef.consumer key) u = [] → Completes (.keyFire at_ key) s u)
      ∧ (∀ (o : Fin 8) (k : Nat) (kk : BitVec 128) (x : Int), k < 16 → dueKeys (27 + o.val) u = [(27648 + o.val * 16 + k, kk, x)] → mapGet none u.stb.lastFire (27 + o.val) = none →
          let stop := Int.ofNat (nowNs u) + Int.ofNat (bits (getMark o.val u).record 31 0)
          ∃ t, Completes (.keyFire at_ (.mark o k)) s t ∧ (getMark o.val t).pulseEnd = some stop ∧ t.out = u.out ++ [.markPulse o.val stop (!(getMark o.val u).record.getLsbD 62)] ∧ t.fab = u.fab ∧ t.sch = u.sch)
      ∧ (∀ (p : ExtPort) (e : Nat) (kk : BitVec 128) (x : Int), u.pwr.state ≠ .doze → e < 1024 → dueKeys p.val u = [(p.val * 1024 + e, kk, x)] → mapGet none u.stb.lastFire p.val = none →
          let g := getGates p.val u
          let ent := mapGet 0 g.act.ents e
          ∃ t, Completes (.keyFire at_ (.gate p e)) s t ∧ (getGates p.val t).ovr = some { gates := entryGates ent, stop := Int.ofNat (nowNs u) + Int.ofNat (entryInterval ent), pos := e } ∧ { t.fab with tx := u.fab.tx } = u.fab)
      ∧ (∀ key x, u.pwr.state ≠ .doze → (dueKeys (KeyRef.consumer key) u).any (fun k => k.1 == KeyRef.id key) = true → mapGet none u.stb.lastFire (KeyRef.consumer key) = some x → Int.ofNat u.cyc < x + 100 →
          ∃ t, Completes (.keyFire at_ key) s t ∧ t.stb.marks = u.stb.marks ∧ t.sch = u.sch ∧ t.edge = u.edge ∧ t.sel = u.sel ∧ t.out = u.out)
      ∧ ∀ o : Fin 8,
          let m := getMark o.val u
          (m.pulseEnd = none → Completes (.markPulseEnd at_ o) s u)
          ∧ ∀ stop, m.pulseEnd = some stop → stop ≤ Int.ofNat (nowNs u) → Completes (.markPulseEnd at_ o) s (emit (.markIdle o.val (m.record.getLsbD 62)) (setMark o.val { m with pulseEnd := none } u)))
    ∧ (coreRuns s = true →
        (s.pat.draining = none → Completes .epochFree s s)
        ∧ ∀ tb, s.pat.draining = some tb → (epochRefs tb.number s ≠ 0 → Completes .epochFree s s)
            ∧ (epochRefs tb.number s = 0 → Completes .epochFree s (raiseEv .epochFreed tb.number [] (setPat { s.pat with draining := none } s))))
    ∧ (keeperRuns u = true →
        (u.seam.swapWaits = false ∨ u.cyc < u.seam.swapAt → Completes (.zoneSwapRetry at_) s u)
        ∧ ∀ tb, u.seam.swapWaits = true → u.seam.swapAt ≤ u.cyc → u.pat.current = some tb → keeperMap u.seam.keeperZones tb.zoneMap ≠ tb.zoneMap →
            let v := freeEpoch u
            (v.pat.draining.isSome = true → Completes (.zoneSwapRetry at_) s { v with seam := { v.seam with swapWaits := true, swapAt := v.cyc + msCyc } })
            ∧ (v.pat.draining = none → Completes (.zoneSwapRetry at_) s (setPat { v.pat with current := some { tb with number := v.pat.nextNumber, zoneMap := keeperMap v.seam.keeperZones tb.zoneMap, ownTree := false }, draining := some tb, nextNumber := (v.pat.nextNumber + 1) % 256 } { v with seam := { v.seam with swapWaits := false } })))
    ∧ (coreRuns u = true → ∀ slot : Nat,
        let l := u.pat.frags
        Completes (.fragResolvedExpiry at_ slot) s (setFrags (l.filter (fun e => !(e.slot == slot && !e.early && decide (u.cyc ≥ e.since + u.pat.fragMs * msCyc)))) u)
        ∧ ∀ e, l.find? (fun e => e.slot == slot) = some e →
            (e.early = false ∨ u.cyc < e.since + 2 * msCyc → Completes (.fragEarlyExpiry at_ slot) s u)
            ∧ (e.early = true → e.since + 2 * msCyc ≤ u.cyc → ∃ c, Completes (.fragEarlyExpiry at_ slot) s { u with pat := { u.pat with frags := l.filter (fun x => x.slot != slot) }, counters := c }))

/-! ## The edge gateway, CAN and LIN (R170-R190, R243-R262) -/

/-- The gateway and the CAN channels (R172-R178, R245-R253): the oldest message takes its chain, a FORWARD entry queues what it converts and counts what it cannot; a container's frame enters the fabric after FLUSH; a frame received without error joins the FIFO with its stamp, a full FIFO counts it; an idle bus takes the oldest handed slot message, else the head of the queue; a sent frame lowers TEC, one that is not sent returns to its queue ahead of equal ones; a receive error raises REC by 1, a dominant bit read back recessive by 8, a transmit error TEC by 8, an error of a data phase with no error frame (TMS_EN) neither and above 255 the controller goes bus-off; recovery clears both. The error rules of ISO 11898-1 are log entry 12. -/
def Obligations.CanAndGatewayEventsRun : Prop :=
  (∀ s : State, edgeOn s = true → coreRuns s = true →
    (s.edge.inbox = [] → Completes .gatewayDeliver s (drainFifos 512 s))
    ∧ ∀ it rest, s.edge.inbox = it :: rest →
        let u : State := { s with edge := { s.edge with inbox := rest } }
        let tb := it.epoch.bind (fun n => tablesOf n s)
        (tb = none → Completes .gatewayDeliver s (drainFifos 512 u))
        ∧ (tb.isSome = true → it.ek = .ethernet → it.keyPort = 28 → Completes .gatewayDeliver s (drainFifos 512 (bump .edgeLoopDrop 0 u)))
        ∧ ∀ t i r, tb = some t → it.ek = .can → routeChain t 16 it.route = [(i, r)] → routeKind r = 0 → bits r 110 105 < 32 →
            let ch := bits r 110 105
            (convert (canProtocol ch s) r false (canOfPseudo it.bytes) = none → Completes .gatewayDeliver s (drainFifos 512 (bump .edgeFormatDrop ch u)))
            ∧ ∀ m, convert (canProtocol ch s) r false (canOfPseudo it.bytes) = some m →
                (r.getLsbD 99 = false → Completes .gatewayDeliver s (drainFifos 512 (enqueueTx ch { msg := m, since := s.cyc } u)))
                ∧ (r.getLsbD 99 = true → Completes .gatewayDeliver s (drainFifos 512 (writeSlot ch (bits r 98 93) m u))))
  ∧ (∀ (s : State) (at_ : Nat) (c : Fin 256), edgeOn (advanceTo at_ s) = true →
      let u := advanceTo at_ s
      (u.edge.acf.filter (fun e => e.1 % 256 == c.val) = [] → Completes (.containerFlush at_ c) s u)
      ∧ ∀ e, u.edge.acf.filter (fun e => e.1 % 256 == c.val) = [e] → e.2.recs ≠ [] →
          (u.cyc < e.2.since + e.2.cont.flush * usCyc → Completes (.containerFlush at_ c) s u)
          ∧ (e.2.since + e.2.cont.flush * usCyc ≤ u.cyc →
              let n := mapGet 0 u.edge.acfSeq c.val
              Completes (.containerFlush at_ c) s (enterWhole 28 28 .ethernet none (currentEpoch u) (nowFrac u) (acfFrame e.2.cont n e.2.recs)
                (bump .edgeAcfSent c.val { u with edge := { u.edge with acf := mapSet {} u.edge.acf e.1 {}, acfSeq := mapSet 0 u.edge.acfSeq c.val ((n + 1) % 256) } }))))
  ∧ (∀ (s : State) (at_ : Nat) (ch : CanCh),
      let u := advanceTo at_ s
      let late (t : TxMsg) : Bool := decide (u.cyc ≥ t.since + txTimeout ch.val u)
      handedOf ch.val u = [] → Completes (.canTxTimeout at_ ch) s
        (bumpBy ((txq ch.val u).filter late).length .edgeTxTimeout ch.val (setTxq ch.val ((txq ch.val u).filter (fun t => !(late t))) u)))
  ∧ (∀ (s : State) (ch : PhysCh),
      let c := getCan ch.val s
      let i := ch.val
      c.record.getLsbD 127 = true → c.bus = .on → c.tail = none → edgeOn s = true → busesHeld s = false → canAsleep i s = false → s.pwr.state ≠ .doze → bits c.record 123 122 = 0 →
        (∀ (m : CanMsg) (ago : Nat), (m.format = .classicBase ∨ m.format = .classicExt ∨ 1 ≤ bits c.record 126 125) → (m.format = .xl → bits c.record 126 125 = 2) → c.recv ≤ 127 →
          (c.fifo.length < 32 → Completes (.canFrameRx ch ago m) s (drainFifos 512 (setCan i { c with recv := c.recv - 1, fifo := c.fifo ++ [(m, fracAgo ago s)] } s)))
          ∧ (32 ≤ c.fifo.length → Completes (.canFrameRx ch ago m) s (drainFifos 512 (bump .edgeRxOverflow i (setCan i { c with recv := c.recv - 1 } s)))))
        ∧ (c.sending = none → c.waitUntil = none → c.stbN = true → c.en = true →
            (∀ h rest, handedOf i s = h :: rest → Completes (.canBusIdle ch) s
              (emit (.can i h.msg) (setCan i { c with sending := some ({ msg := h.msg, since := h.since }, some h.slot) } (setHanded i rest s))))
            ∧ (∀ t rest, handedOf i s = [] → txq i s = t :: rest → Completes (.canBusIdle ch) s (emit (.can i t.msg) (setCan i { c with sending := some (t, none) } (setTxq i rest s))))
            ∧ (handedOf i s = [] → txq i s = [] → Completes (.canBusIdle ch) s s)
            ∧ (∀ e phase, (phase = false ∨ c.record.getLsbD 120 = false) →
                (c.recv < 127 → e ≠ .bit0 → Completes (.canErrorDetected ch e phase false) s
                  (bump (errCounter e) i (setCan i { c with lastErr := errCode e, lastPhase := phase, recv := c.recv + 1 } s)))
                ∧ (c.recv < 120 → e = .bit0 → Completes (.canErrorDetected ch e phase false) s
                  (bump (errCounter e) i (setCan i { c with lastErr := errCode e, lastPhase := phase, recv := c.recv + 8 } s))))
            ∧ (∀ e tx, c.record.getLsbD 120 = true → Completes (.canErrorDetected ch e true tx) s
                (bump (errCounter e) i (setCan i { c with lastErr := errCode e, lastPhase := true } s)))
            ∧ (∀ e phase, (phase = false ∨ c.record.getLsbD 120 = false) → c.tec < 120 → (e ≠ .ack ∨ c.recv < 128) → Completes (.canErrorDetected ch e phase true) s
                (bump (errCounter e) i (setCan i { c with lastErr := errCode e, lastPhase := phase, tec := c.tec + 8 } s)))
            ∧ (∀ e phase, (phase = false ∨ c.record.getLsbD 120 = false) → e ≠ .ack → 248 ≤ c.tec → c.tec ≤ 255 → ∃ t, Completes (.canErrorDetected ch e phase true) s t
                ∧ getCan i t = { c with lastErr := errCode e, lastPhase := phase, tec := c.tec + 8, bus := if c.record.getLsbD 121 then .recovering else .busOff, offAt := some s.cyc }
                ∧ t.raised = s.raised ++ [(.busState, i, natBytes 1 2)] ∧ t.fab = s.fab))
        ∧ (∀ x, c.sending = some x → c.tec ≤ 127 → Completes (.canTxComplete ch .success) s (setCan i { c with sending := none, tec := c.tec - 1 } s))
        ∧ (∀ t r, c.sending = some (t, none) → r ≠ .success → Completes (.canTxComplete ch r) s (limitTxq i (queueReturn t (txq i s)) (setCan i { c with sending := none } s))))
  ∧ (∀ (s : State) (ch : PhysCh),
      let c := getCan ch.val s
      let i := ch.val
      (c.bus = .recovering → Completes (.busOffRecoveryDone ch) s (raiseEv .busState i (natBytes 1 0) (bump .edgeErrActive i (setCan i { c with bus := .on, tec := 0, recv := 0 } s))))
      ∧ (c.bus ≠ .recovering → Completes (.busOffRecoveryDone ch) s s)
      ∧ (c.record.getLsbD 127 = true → c.bus = .integrating → edgeOn s = true → Completes (.busIntegrationDone ch) s (setTransceiver i (setCan i { c with record := if c.rateState = 2 then BitVec.ofNat 128 (c.record.toNat - (bits c.record 123 122 <<< 122)) else c.record, bus := .on, candAt := s.cyc, tail := none } s))))
  ∧ ∀ (s : State) (at_ : Nat) (ch : PhysCh),
      let u := advanceTo at_ s
      let c := getCan ch.val u
      let i := ch.val
      (c.waitUntil = none → Completes (.transceiverWakeWait at_ ch) s u)
      ∧ (∀ t, c.waitUntil = some t → t ≤ u.cyc → Completes (.transceiverWakeWait at_ ch) s (setCan i { c with waitUntil := none } u))
      ∧ (u.cyc < c.candAt + c.dwell * msCyc → Completes (.rateDwellExpiry at_ ch) s u)
      ∧ (detecting c = true → c.candAt + c.dwell * msCyc ≤ u.cyc →
          (c.cand + 1 < c.cands.length → Completes (.rateDwellExpiry at_ ch) s (setCan i { c with cand := c.cand + 1, goodRun := 0, dataSeen := false, bus := .integrating, candAt := u.cyc } u))
          ∧ (c.cand + 1 = c.cands.length → c.rounds = c.roundsDone + 1 → Completes (.rateDwellExpiry at_ ch) s
              (raiseEv .rateFailed i [] (bump .edgeRateFail i (setCan i { c with rateState := 4, roundsDone := c.roundsDone + 1, goodRun := 0, dataSeen := false } u)))))

/-- The LIN channels and the address-claim proxy (R183-R188, R257-R260, R407): at a slot a commander sends its entry's header, break, delimiter, sync byte and PID, and answers it where it publishes the frame, to read it back; a header off by more than 15 % or with a wrong parity is counted; a subscribed response with a good checksum enters the fabric; a late or partial response is counted; a wake on a sleeping network's channel wakes it; a first claim of an address is kept and forwarded to the other side. The answer to a filter-database message is free (log entry 14), the LIN layouts are log entries 12 and 16. -/
def Obligations.LinAndIsoEventsRun : Prop :=
  (∀ (s : State) (at_ : Nat) (ch : LinCh) (e : BitVec 32),
    let u := advanceTo at_ s
    let i := ch.val
    let c := getLin i u
    u.pwr.state ≠ .doze → linAsleep i u = false → c.record.getLsbD 63 = true → c.record.getLsbD 62 = true → busesHeld u = false → edgeOn u = true → c.running = true → c.wanted = none → c.swapped = false →
      (u.cyc < c.entryEnds → Completes (.linScheduleSlot at_ ch) s u)
      ∧ (c.entryEnds ≤ u.cyc → c.current[c.pos]? = some e →
          let f := linEntryFrame e
          let d := linFrame (curTables u) i f
          let next : LinChan := { c with pos := (c.pos + 1) % c.current.length, entryEnds := u.cyc + bits e 15 0 * 100 * usCyc, waiting := none, echo := none }
          let rate := max 1 (bits c.record 61 47)
          let brk := bits c.record 46 42
          let delim := bits c.record 41 40 + 1
          let header : State := emit (.linHeader i brk delim [0x55, linPid f]) (setLin i next u)
          (d.role ≠ 1 → Completes (.linScheduleSlot at_ ch) s (setLin i
            { next with waiting := some (f, u.cyc + linBits (10 * (brk + delim + 20)) rate + linBits (14 * 10 * (d.len + 1)) rate), seenPid := linPid f, syncStamp := fracIn (linBits (10 * (brk + delim) + 5) rate) u } header))
          ∧ (d.role = 1 →
              let data := linPublished i f d u
              let resp := data ++ [linChecksum (linEnhanced d f) (linPid f) data]
              Completes (.linScheduleSlot at_ ch) s (setLin i { next with echo := some resp } (linCompleted i f (linEnhanced d f) data (emit (.linResponse i resp) header)))))
      ∧ (c.entryEnds ≤ u.cyc → c.current[c.pos]? = none → Completes (.linScheduleSlot at_ ch) s (setLin i { c with running := false, current := [], pos := 0 } u)))
  ∧ (∀ (s : State) (ch : LinCh) (rate : Nat) (pid : Byte) (fail : Bool),
      let i := ch.val
      let c := getLin i s
      let set := bits c.record 61 47
      let f := pid.toNat % 64
      let d := linFrame (curTables s) i f
      let data := linPublished i f d s
      let off := 100 * rate < 85 * set ∨ 115 * set < 100 * rate
      s.pwr.state ≠ .doze → linAsleep i s = false → c.record.getLsbD 63 = true → busesHeld s = false → edgeOn s = true →
        (off → Completes (.linHeaderRx ch rate pid fail) s (bump .edgeLinSync i s))
        ∧ (¬ off → pid ≠ linPid f → Completes (.linHeaderRx ch rate pid fail) s (bump .edgeLinPid i s))
        ∧ (¬ off → pid = linPid f → d.role = 1 → Completes (.linHeaderRx ch rate pid true) s (bump .edgeLinBit i s)
            ∧ Completes (.linHeaderRx ch rate pid false) s (linCompleted i f (linEnhanced d f) data (emit (.linResponse i (data ++ [linChecksum (linEnhanced d f) pid data])) s)))
        ∧ (¬ off → pid = linPid f → d.role ≠ 1 → Completes (.linHeaderRx ch rate pid fail) s
            (setLin i { c with waiting := some (f, s.cyc + linBits (14 * 10 * (d.len + 1)) (max 1 set)), seenPid := pid, syncStamp := fracAgo (linBits 195 rate) s } s)))
  ∧ (∀ (s : State) (ch : LinCh) (f stop : Nat),
      let i := ch.val
      let c := getLin i s
      let d := linFrame (curTables s) i f
      let ended := setLin i { c with waiting := none } s
      c.record.getLsbD 63 = true →
      (∀ data sum bad e, c.waiting = none → c.sleepDue = false → c.echo = some e →
        let ended := setLin i { c with echo := none } s
        Completes (.linResponseRx ch data sum bad) s (if e = data ++ [sum] then ended else bump .edgeLinBit i ended))
      ∧ (c.waiting = some (f, stop) → c.sleepDue = false → edgeOn s = true → busesHeld s = false →
        (∀ data sum, Completes (.linResponseRx ch data sum true) s (bump .edgeLinFraming i ended))
        ∧ (∀ data sum, d.role = 2 → data.length = d.len →
            let good := sum = linChecksum (linEnhanced d f) c.seenPid data
            (¬ good → Completes (.linResponseRx ch data sum false) s (bump .edgeLinChecksum i ended))
            ∧ (good → Completes (.linResponseRx ch data sum false) s
                (enterMessage .lin c.syncStamp (linPseudo i f (linEnhanced d f) (c.record.getLsbD 62) data) (linCompleted i f (linEnhanced d f) data ended))))))
  ∧ (∀ (s : State) (at_ got : Nat) (ch : LinCh) (f stop : Nat),
      let u := advanceTo at_ s
      let i := ch.val
      let c := getLin i u
      let d := linFrame (curTables u) i f
      let ended := setLin i { c with waiting := none } u
      c.record.getLsbD 63 = true → c.waiting = some (f, stop) → c.sleepDue = false →
        (u.cyc < stop → Completes (.linResponseTimeout at_ ch got) s u)
        ∧ (stop ≤ u.cyc → 0 < got → Completes (.linResponseTimeout at_ ch got) s (bump .edgeLinIncomplete i ended))
        ∧ (stop ≤ u.cyc → d.role = 2 → c.record.getLsbD 62 = true → Completes (.linResponseTimeout at_ ch 0) s (bump .edgeLinNoResponse i ended)))
  ∧ (∀ (s : State) (ch : LinCh), running s = true →
      (netOf (fun x => x.hasLin ch.val) s = none → Completes (.linWakeRx ch) s s)
      ∧ ∀ n, netOf (fun x => x.hasLin ch.val) s = some n →
          ((getNet n s).mode = .asleep → Completes (.linWakeRx ch) s (wakeNet n (some ch.val) s))
          ∧ ((getNet n s).mode = .awake ∨ (getNet n s).mode = .wakeCheck → Completes (.linWakeRx ch) s s))
  ∧ ∀ (s : State) (ch : CanCh) (m : CanMsg), keeperRuns s = true → mechanismsOn s = true → standbyRule s = false →
      (isoOf ch.val s = none → Completes (.addressClaimRx ch m) s s ∧ Completes (.isoNetworkMessage ch m) s s)
      ∧ ∀ n d impl, isoOf ch.val s = some (n, d, impl) →
          (let u : State := { s with draws := s.draws + 1 }
           Completes (.isoNetworkMessage ch m) s (emit (.isoReply ch.val true n 0 0) u) ∨ Completes (.isoNetworkMessage ch m) s (emit (.isoReply ch.val false n d.tractor.toNat d.implement.toNat) u))
          ∧ (let k := n * 256 + m.ident % 256
             let fwd := isoSend d (!impl) m s
             msgPgn m = 0xEE00 → m.ident % 256 < 254 → mapGet none s.edge.isoAddrs k = none →
               Completes (.addressClaimRx ch m) s { fwd with edge := { fwd.edge with isoAddrs := mapSet none fwd.edge.isoAddrs k (some { name := claimName m, implement := impl }) } })
          ∧ (msgPgn m ≠ 0xEE00 → msgPgn m ≠ 0xEA00 → Completes (.addressClaimRx ch m) s s)

/-! ## The Selvage links (R191-R226) -/

/-- A link's transmitter, aligner, threads, discretes and overhead (R193-R213): a superframe goes out with a valid header and the next SFN, its 1,024 blocks scrambled; sightings become up to four candidates; a third pass in a row enters FRAME; a good header resynchronises, the fourth bad one in a row leaves FRAME; a record's bytes collect on its thread; discretes are latched; signal and block lock set and clear their defects with events. -/
def Obligations.SelvageLinkEventsRun : Prop :=
  ∀ (s : State) (link : SelLink), domainRuns 12 s = true →
    let l := link.val
    let x := getLink l s
    let defect (d : Defects) (t : State) : State := raiseEv .selDefect l (natBytes 2 d.bits) t
    (x.enabled = false → Completes (.selSuperframeTx link) s s ∧ (∀ pos h, Completes (.selSighting link pos h) s s ∧ Completes (.selCandidateCheck link pos h) s s) ∧ ∀ h, Completes (.selHeaderRx link h) s s)
    ∧ (x.enabled = true → x.hitch ≠ .map → ∃ t b0 b1 rest, Completes (.selSuperframeTx link) s t
        ∧ t.out = s.out ++ [.superframe l ([b0, b1] ++ rest) (scrambleLine (superframeBlocks ([b0, b1] ++ rest) x.trib) x.scrambler).1] ∧ rest.length = 10 ∧ (getLink l t).trib = x.trib.drop 1008
        ∧ headerOk (b0 ++ b1) = true ∧ headerSfn (b0 ++ b1) = x.txSfn % 65536 ∧ (getLink l t).txSfn = (x.txSfn + 1) % 65536)
    ∧ (∀ pos h, x.enabled = true → x.blockLock = true → x.inFrame = false → headerOk h = true → x.cands.any (fun c => c.pos == pos) = false →
        (x.cands.length < 4 → Completes (.selSighting link pos h) s (setLink l { x with cands := x.cands ++ [{ pos := pos, sfn := headerSfn h }] } s))
        ∧ (4 ≤ x.cands.length → Completes (.selSighting link pos h) s (bump .selCandFull l s)))
    ∧ (∀ h (c : Cand), x.enabled = true → x.blockLock = true → x.inFrame = false → x.cands = [c] →
        let pass := headerOk h = true ∧ headerSfn h = (c.sfn + 1) % 65536
        (¬ pass → Completes (.selCandidateCheck link c.pos h) s (setLink l { x with cands := [] } s))
        ∧ (pass → c.passes < 2 → Completes (.selCandidateCheck link c.pos h) s (setLink l { x with cands := [{ c with sfn := headerSfn h, passes := c.passes + 1 }] } s))
        ∧ (pass → c.passes = 2 → x.hitch ≠ .up → (getPort (24 + l) s).up = false → (getPort (24 + l) s).sends = false → ∃ t, Completes (.selCandidateCheck link c.pos h) s t
            ∧ (getLink l t).inFrame = true ∧ (getLink l t).rxSfn = headerSfn h ∧ (getLink l t).elapsed = 0 ∧ (getLink l t).badRun = 0 ∧ (getLink l t).defects.lof = false ∧ t.fab = s.fab))
    ∧ (∀ h, x.enabled = true → x.inFrame = true →
        let ok := headerOk h = true ∧ headerSfn h = (x.rxSfn + (x.elapsed + 1)) % 65536
        (¬ ok → x.badRun < 3 → x.switchSfn = none → Completes (.selHeaderRx link h) s (bump .selHdrBad l (setLink l { x with elapsed := x.elapsed + 1, badRun := x.badRun + 1, hdrGood := false, dropThreads := false, ttHalf := none, qualErr := x.qualErr + 1, dccA := { x.dccA with lastContent := false }, dccB := { x.dccB with lastContent := false } } s)))
        ∧ (¬ ok → x.badRun = 3 → x.hitch = .detect → (getPort (24 + l) s).up = false → (getPort (24 + l) s).sends = false → ∃ t, Completes (.selHeaderRx link h) s t
            ∧ (getLink l t).inFrame = false ∧ (getLink l t).cands = [] ∧ (getLink l t).defects.lof = true ∧ (getLink l t).defects.discStale = true ∧ t.fab = s.fab)
        ∧ (ok → (h.getD 8 0).getLsbD 0 = false → (h.getD 8 0).getLsbD 1 = false →
            (x.hitch = .up → ∃ t, Completes (.selHeaderRx link h) s t ∧ (getLink l t).rxSfn = headerSfn h ∧ (getLink l t).elapsed = 0 ∧ (getLink l t).badRun = 0 ∧ (getLink l t).hdrGood = true
                ∧ (getLink l t).hitch = .up ∧ (getLink l t).defects.mapMis = (if numAt h 8 1 / 16 ≠ x.agreed then true else if x.agreed ≠ 0 then false else x.defects.mapMis)
                ∧ (getLink l t).dropThreads = decide (numAt h 8 1 / 16 ≠ x.agreed) ∧ (numAt h 8 1 / 16 = x.agreed ∨ receiving (24 + l) s = none → t.fab = s.fab))
            ∧ (x.hitch = .detect → x.plugged = true → x.qualRdi = none → (h.getD 8 0).getLsbD 3 = false → x.rate < 3 → numAt h 11 1 / 64 = x.rate → ∃ t, Completes (.selHeaderRx link h) s t
                ∧ (getLink l t).hitch = .qualify ∧ (getLink l t).qualEnds = s.cyc + 10 * msCyc ∧ (getLink l t).qualErr = 0 ∧ t.fab = s.fab)))
    ∧ (x.enabled = true → x.blockLock = true → x.inFrame = false → x.defects.lob = false →
        Completes (.selBlockLockLoss link) s (bump .selLob l (defect { x.defects with lob := true } (setLink l { x with blockLock := false, cands := [], defects := { x.defects with lob := true } } s))))
    ∧ (x.enabled = true → x.blockLock = false → x.defects.lob = true →
        Completes (.selBlockLockAcquired link) s (defect { x.defects with lob := false } (setLink l { x with blockLock := true, defects := { x.defects with lob := false } } s)))
    ∧ (∀ (th : Fin 9) (block : List Byte),
        let i := th.val
        let t := mapGet {} x.threads i
        let data := (block.drop 1).take 7
        (x.hitch ≠ .up → Completes (.selThreadBlockRx link th block) s s ∧ Completes (.selThreadIdle link th) s s)
        ∧ (x.hitch = .up → x.inFrame = true → x.dropThreads = false → 8 ≤ numAt block 0 1 →
            Completes (.selThreadBlockRx link th block) s (bump .selRecBad (16 * l + i) (setThread l i { t with rx := [], skip := true } s)))
        ∧ (x.enabled = true → x.hitch = .up → x.inFrame = true → x.dropThreads = false → numAt block 0 1 = 1 → t.skip = false → t.rx = [] → block.length = 8 → block[1]? ≠ some 0 →
            (∀ k, 1 ≤ k → k ≤ 7 → recordLen (i == 8) (data.take k) = some none ∨ ∃ n, recordLen (i == 8) (data.take k) = some (some n) ∧ k < n) →
            Completes (.selThreadBlockRx link th block) s (setThread l i { t with rx := data, rxStamp := nowFrac s } s))
        ∧ (x.hitch = .up → x.enabled = true → t.tx = [] → i = 8 → ∀ f e d rest, x.linQueue = (f, e, d) :: rest →
            Completes (.selThreadIdle link th) s (setLink l { x with linQueue := rest, threads := mapSet {} x.threads i { t with tx := linRecordBytes f e d, fresh := true } } s))
        ∧ (x.hitch = .up → t.tx = [] → i < 8 → (canRecord (16 + 8 * l + i) s).getLsbD 127 = true → edgeOn s = true → asleepMember (fun n => n.hasCan (16 + 8 * l + i)) s = false → handedOf (16 + 8 * l + i) s = [] → ∀ q rest, txq (16 + 8 * l + i) s = q :: rest →
            Completes (.selThreadIdle link th) s (setThread l i { t with tx := canRecordBytes q.msg, fresh := true } (setTxq (16 + 8 * l + i) rest s))))
    ∧ (∀ block,
        let v := BitVec.ofNat 32 (numAt block 4 4)
        let d := BitVec.ofNat 32 (numAt block 0 4) &&& v
        let u := setLink l { x with discIn := d, discInValid := v } s
        x.inFrame = true → x.hdrGood = true → x.dropThreads = false →
          Completes (.selDiscBlockRx link block) s (if (x.discIn ^^^ d) &&& x.discEvents ≠ 0 then raiseEv .selDiscChange l (natBytes 4 d.toNat) u else u))
    ∧ (∀ b v valid, x.enabled = true →
        let d := getDcc l b s
        Completes (.sdccBurst link b v valid) s (emit (.sdcc l b d.lastByte d.lastContent) (setDcc l b { d with sdccByte := v, sdccValid := valid, lastContent := false } s)))
    ∧ ∀ at_ : Nat,
        let u := advanceTo at_ s
        (x.enabled = true → x.defects.los = false → Completes (.selLosSet at_ link) s (bump .selLos l (defect { x.defects with los := true } (setLink l { x with losAt := u.cyc, losTold := false, defects := { x.defects with los := true } } u))))
        ∧ (x.enabled = true → x.defects.los = true → Completes (.selLosClear at_ link) s (defect { x.defects with los := false } (setLink l { x with defects := { x.defects with los := false } } u)))

/-- The hitch sequence (R213-R223): plug-in after signal, cycling over the open rates, qualification, IDENT and MAP with their messages, resends and timeouts, the switch at SFN_SWITCH and its reversal, and the unhitch that a message or the unplug timeout declares, one in a superframe and one for each LOS. -/
def Obligations.HitchSequenceEventsRun : Prop :=
  ∀ (s : State) (link : SelLink), domainRuns 12 s = true →
    let l := link.val
    let x := getLink l s
    let fails (t : State) : State := raiseEv .selDefect l (natBytes 2 { x.defects with hitchFail := true }.bits) (setLink l { x with hitch := .fail, switched := false, agreed := 0, defects := { x.defects with hitchFail := true } } t)
    let mapSet_ (y : SelLinkSt) (t : State) : State :=
      let w := (sendingSfn y + 64) % 65536
      sendMsg l 3 ([1, 0] ++ natBytes 2 w) (setLink l { y with switchSfn := some w, ackOk := false, switched := false, agreed := 0, sinceSwitch := 0, resendAt := t.cyc + 10 * msCyc } t)
    let unhitched (t : State) : Prop := (getLink l t).hitch = .detect ∧ (getLink l t).plugged = false ∧ (getLink l t).excluded = [] ∧ (getLink l t).defects.unhitch = true ∧ (getLink l t).defects.discStale = true
    x.enabled = true →
      (∀ body, body.length = 24 → numAt body 8 1 ≤ 1 → numAt body 16 2 % 2 = 0 →
          (x.hitch = .detect ∨ x.hitch = .qualify ∨ x.hitch = .fail → Completes (.selIdentRx link body) s s)
          ∧ (x.hitch = .map ∨ x.hitch = .up → Completes (.selIdentRx link body) s (sendMsg l 2 [] s))
          ∧ (x.hitch = .ident → x.identAcked = false → numAt body 8 1 ≠ (if x.follower then 1 else 0) →
              Completes (.selIdentRx link body) s (raiseEv .selIdent l body (sendMsg l 2 [] (setLink l { x with ident := some body } s)))))
      ∧ (∀ body, body.length ≠ 24 → Completes (.selIdentRx link body) s (bump .selMsgBad (3 * l) s))
      ∧ (x.hitch ≠ .ident → Completes (.selIdentAckRx link) s s)
      ∧ (x.hitch = .ident → x.ident = none → Completes (.selIdentAckRx link) s (setLink l { x with identAcked := true } s))
      ∧ (x.hitch = .ident → x.ident.isSome = true → numAt (x.ident.getD []) 16 2 / 2 % 2 = 1 → x.follower = true → Completes (.selIdentAckRx link) s
          (setLink l { x with identAcked := true, hitch := .map, phaseAt := s.cyc, switchSfn := none, switched := false, ackOk := false, accepted := none, agreed := 0 } s))
      ∧ (∀ body, (body.length ≠ 4 → Completes (.selMapSetRx link body) s (bump .selMsgBad (3 * l) s) ∧ Completes (.selMapAckRx link body) s (bump .selMsgBad (3 * l) s))
          ∧ (body.length = 4 → numAt body 0 1 = 1 → numAt body 1 1 = 0 →
              let w := numAt body 2 2
              let ahead := (w + 65536 - (x.rxSfn + x.elapsed) % 65536) % 65536
              (x.follower = true → x.hitch = .map → x.accepted ≠ some body →
                (16 ≤ ahead → ahead ≤ 1024 → Completes (.selMapSetRx link body) s (sendMsg l 4 body (setLink l { x with accepted := some body, switchSfn := some w, switched := false, agreed := 0, sinceSwitch := 0 } s)))
                ∧ (ahead < 16 ∨ 1024 < ahead → Completes (.selMapSetRx link body) s (sendMsg l 4 ([0, 0] ++ natBytes 2 w) s)))
              ∧ (x.follower = false → Completes (.selMapSetRx link body) s s)
              ∧ (x.follower = false → x.hitch = .map → x.switched = false → x.switchSfn = some w → 8 < (w + 65536 - sendingSfn x) % 65536 → (w + 65536 - sendingSfn x) % 65536 ≤ 64 →
                  Completes (.selMapAckRx link body) s (setLink l { x with ackOk := true } s)))
          ∧ (body.length = 4 → numAt body 0 1 = 0 → numAt body 1 1 = 0 → x.follower = false → x.hitch = .map → x.switched = false → x.switchSfn.isSome = true → Completes (.selMapAckRx link body) s (mapSet_ x s)))
      ∧ (∀ w, x.switchSfn = some w → x.hitch = .map → x.switched = false →
          let now := if x.follower then x.rxSfn + x.elapsed else x.txSfn
          let reached := (now % 65536 + 65536 - w) % 65536 < 32768
          (¬ reached → Completes (.selSfnSwitch link) s s)
          ∧ (reached → x.follower = true ∨ x.ackOk = true → Completes (.selSfnSwitch link) s (setLink l { x with switched := true, agreed := 1, sinceSwitch := 0 } s))
          ∧ (reached → x.follower = false → x.ackOk = false → Completes (.selSfnSwitch link) s (mapSet_ x s)))
      ∧ (x.hitch = .map → x.switched = true →
          (x.sinceSwitch < 16 → Completes (.selMapRevert link) s s)
          ∧ (16 ≤ x.sinceSwitch → x.follower = true → Completes (.selMapRevert link) s (setLink l { x with switched := false, agreed := 0, switchSfn := none, accepted := none, sinceSwitch := 0 } s))
          ∧ (16 ≤ x.sinceSwitch → x.follower = false → Completes (.selMapRevert link) s (mapSet_ { x with accepted := none } s)))
      ∧ (x.unhitched = false → ∃ t, Completes (.selUnhitchRx link) s t ∧ unhitched t)
      ∧ (x.unhitched = true → Completes (.selUnhitchRx link) s s)
      ∧ ∀ at_ : Nat,
          let u := advanceTo at_ s
          (x.hitch = .detect → x.plugged = false → x.defects.unhitch = false → Completes (.selPlugIn at_ link) s
            (raiseEv .selHitch l (natBytes 1 0) (bump .selHitch l (setLink l { x with plugged := true, dwellEnds := u.cyc + rateDwell x } u))))
          ∧ (u.cyc < x.dwellEnds → Completes (.selRateDwellEnd at_ link) s u)
          ∧ (∀ c, x.hitch = .detect → x.plugged = true → x.qualRdi = none → x.dwellEnds ≤ u.cyc → ((openRates x).filter (fun r => decide (r > x.rate)) ++ openRates x).head? = some c →
              Completes (.selRateDwellEnd at_ link) s (setLink l { x with rate := c, dwellEnds := u.cyc + rateDwell x } u))
          ∧ (∀ bad, x.hitch = .qualify → x.qualEnds ≤ u.cyc →
              (bad + x.qualErr ≤ bits x.record 42 35 → x.inFrame = true → Completes (.selQualifyEnd at_ link bad) s
                (sendMsg l 1 (identBody l u) (setLink l { x with hitch := .ident, phaseAt := u.cyc, resendAt := u.cyc + 10 * msCyc, ident := none, identAcked := false } u)))
              ∧ (bits x.record 42 35 < bad + x.qualErr → ∃ t, Completes (.selQualifyEnd at_ link bad) s t ∧ (getLink l t).excluded = x.excluded ++ [x.rate] ∧ (getLink l t).qualRdi = some (u.cyc + msCyc)
                  ∧ (getLink l t).hitch = (if openRates { x with excluded := x.excluded ++ [x.rate] } = [] then .fail else .detect) ∧ (getLink l t).defects.qualFail = true))
          ∧ (∀ stop, x.qualRdi = some stop →
              (u.cyc < stop → Completes (.selQualRdiEnd at_ link) s u)
              ∧ (stop ≤ u.cyc → x.hitch ≠ .detect → Completes (.selQualRdiEnd at_ link) s (setLink l { x with qualRdi := none } u)))
          ∧ (x.hitch = .ident → x.identAcked = false → x.resendAt ≤ u.cyc → Completes (.selIdentResend at_ link) s (sendMsg l 1 (identBody l u) (setLink l { x with resendAt := u.cyc + 10 * msCyc } u)))
          ∧ (x.hitch = .ident → x.defects.hitchFail = false → x.phaseAt + 1000 * msCyc ≤ u.cyc → Completes (.selIdentTimeout at_ link) s (fails u))
          ∧ (x.hitch = .map → x.defects.hitchFail = false → x.phaseAt + 1000 * msCyc ≤ u.cyc → Completes (.selMapTimeout at_ link) s (fails u))
          ∧ (u.cyc < x.phaseAt + 1000 * msCyc → Completes (.selIdentTimeout at_ link) s u ∧ Completes (.selMapTimeout at_ link) s u)
          ∧ (x.follower = false → x.hitch = .map → x.ackOk = false → x.switched = false → x.resendAt ≤ u.cyc → Completes (.selMapSetResend at_ link) s (mapSet_ x u))
          ∧ (x.defects.los = true → x.losTold = false → x.unhitched = false → x.losAt + bits x.record 52 43 * msCyc ≤ u.cyc → ∃ t, Completes (.selUnplugTimeout at_ link) s t ∧ unhitched t)
          ∧ (u.cyc < x.losAt + bits x.record 52 43 * msCyc ∨ x.losTold = true → Completes (.selUnplugTimeout at_ link) s u)

/-! ## Ports, partners, keys and the Bodkin's pipelines (R227-R242, R266-R304, R462) -/

/-- Links and partners (R228-R241): a link comes up in a mode and role its record allows, and else stays down; it goes down at the time of its loss; training, power-good and the fall-back from a fast link-up; an LLDPDU makes its sender the partner or refreshes it, a malformed one is counted; partners become UNIDENTIFIED by their time to live and by silence, and ABSENT after the hold; LLDPDUs are sent in a burst, then at their interval. LLDPDU contents are log entry 25. -/
def Obligations.PortAndPartnerEventsRun : Prop :=
  ∀ (s : State) (port : ExtPort),
    let p := port.val
    let q := getPort p s
    (∀ (mode : Fin 8) (role : Fin 4) (fast : Bool), asleepMember (fun x => x.hasPort p) s = false →
      (roleOf p q.record role.val = none ∨ portRuns p s = false ∨ q.up = true ∨ modeAllowed p q.record mode.val = false → Completes (.linkUp port mode role fast) s s)
      ∧ ∀ ro, roleOf p q.record role.val = some ro → portRuns p s = true → q.up = false → modeAllowed p q.record mode.val = true →
          let stored := if fast = true ∧ q.powerGood.isSome = true then q.stored else none
          let m := (stored.map (·.mode)).getD mode.val
          let r := (stored.map (·.role)).getD ro
          ∃ t, Completes (.linkUp port mode role fast) s t ∧ (getPort p t).up = true ∧ (getPort p t).mode = m ∧ (getPort p t).role = r ∧ (getPort p t).fast = stored.isSome
            ∧ (getPort p t).upAt = s.cyc ∧ (getPort p t).heard = false
            ∧ (.linkUp, p, [BitVec.ofNat 8 m, BitVec.ofNat 8 r]) ∈ t.raised ∧ t.fab = s.fab ∧ ∀ p', p' ≠ p → getPort p' t = getPort p' s)
    ∧ (q.up = false → q.sends = false → Completes (.linkDown port) s s)
    ∧ (q.up = true → q.record.getLsbD 63 = true → p ≠ 26 → ∃ t, Completes (.linkDown port) s t ∧ (getPort p t).up = false ∧ (getPort p t).downAt = s.cyc ∧ (getPort p t).record = q.record
        ∧ mapGet none t.fab.tx p = none ∧ (.linkDown, p, []) ∈ t.raised ∧ ∀ p', p' ≠ p → getPort p' t = getPort p' s)
    ∧ (portRuns p s = true → q.up = false →
        let quick := q.stored.isSome && q.record.getLsbD 47
        (trains p q.record = true → q.powerGood = none → Completes (.trainingFail port) s (setPort p { q with training := 3 } s))
        ∧ (trains p q.record = false ∨ q.powerGood.isSome = true → Completes (.trainingFail port) s s)
        ∧ Completes (.phyPowerGood port) s (setPort p { q with powerGood := if quick then some s.cyc else none, training := if !quick && trains p q.record then 2 else 0 } s))
    ∧ (keeperRuns s = true → mechanismsOn s = true →
        (∀ pdu, q.up = false ∨ q.record.getLsbD 17 = false → Completes (.lldpRx port pdu) s s)
        ∧ (∀ pdu, q.up = true → q.record.getLsbD 17 = true → readLldp pdu = none → Completes (.lldpRx port pdu) s (bump .kprLldpBad p s))
        ∧ ∀ pdu ct ci pt pi ttl, q.up = true → q.record.getLsbD 17 = true → readLldp pdu = some (ct, ci, pt, pi, ttl) →
            let r := { q with heard := true, ttlEnds := s.cyc + ttl * 1000 * msCyc }
            let known := { r with partner := 2, chassisType := ct, chassis := ci, portType := pt, portId := pi }
            (ttl ≠ 0 → q.partner = 2 → q.chassisType = ct → q.chassis = ci → q.portType = pt → q.portId = pi → Completes (.lldpRx port pdu) s (setPort p r s))
            ∧ (ttl = 0 → q.partner = 1 → Completes (.lldpRx port pdu) s (setPort p r s))
            ∧ (ttl ≠ 0 → q.partner ≠ 2 → q.stored = none → q.zones = none → Completes (.lldpRx port pdu) s (raiseEv .partnerArrive p (partnerDetail 2 known) (bump .kprPartnerArrive p (setPort p known s)))))
    ∧ ∀ at_ : Nat,
        let u := advanceTo at_ s
        let gone (st : Nat) : PortSt := { q with partner := st, chassisType := 0, chassis := [], portType := 0, portId := [] }
        (∀ t, q.powerGood = some t → q.up = false → t + 10 * msCyc ≤ u.cyc →
          Completes (.fastlinkFallback at_ port) s (raiseEv .fastlinkFallback p [] (bump .pwrFastlinkFallback p (setPort p { q with powerGood := none, stored := none, training := if trains p q.record then 2 else 0 } u))))
        ∧ (q.powerGood = none → Completes (.fastlinkFallback at_ port) s u)
        ∧ (keeperRuns u = true →
            (q.up = false ∨ q.record.getLsbD 17 = false ∨ u.cyc < q.lldpNext → Completes (.lldpTx at_ port) s u)
            ∧ (q.up = true → q.record.getLsbD 17 = true → q.lldpNext ≤ u.cyc → Completes (.lldpTx at_ port) s
                (keeperSend p 7 (plainFrame 0x0180C200000E (Config.portMac p) 0x88CC (lldpPdu p (min 65535 (4 * q.lldpInterval))))
                  (setPort p { q with lldpNext := u.cyc + (if 1 < q.lldpBurst then 1000 * msCyc else q.lldpInterval * 1000 * msCyc), lldpBurst := q.lldpBurst - 1 } u)))
            ∧ (u.cyc < q.ttlEnds → Completes (.lldpTtlExpiry at_ port) s u)
            ∧ (q.up = true → q.partner = 2 → q.zones = none → q.ttlEnds ≤ u.cyc → Completes (.lldpTtlExpiry at_ port) s
                (setPort p (gone 1) (raiseEv .partnerDepart p (partnerDetail 1 q) (bump .kprPartnerDepart p u))))
            ∧ (q.heard = true → Completes (.lldpWaitExpiry at_ port) s u)
            ∧ (q.up = true → q.heard = false → q.partner = 0 → q.zones = none → q.upAt + q.lldpWait * msCyc ≤ u.cyc → Completes (.lldpWaitExpiry at_ port) s (setPort p (gone 1) u))
            ∧ (q.partner = 0 → Completes (.absentHoldExpiry at_ port) s u)
            ∧ (q.up = false → q.partner = 1 → q.zones = none → q.record.getLsbD 63 = true → q.downAt + q.absentHold * msCyc ≤ u.cyc → Completes (.absentHoldExpiry at_ port) s (setPort p (gone 0) u)))

/-- Keys, nonces and the Bodkin's pipelines (R266-R269, R279, R286-R302, R462): a key fetch passes the checks of a use and delivers shares under a fresh mask, or is refused and counted; a failed health test sets its flag; nonces expire; a MACsec frame is protected under its SA's key and takes the next PN; a processed packet leaves for its egress queues or for its second crossing, with the key schedule cleared; a Keeper request leaves its outcome, or waits while pipeline 0 is full; without a SAK an MKA exchange installs none. The formats of IEEE 802.1AE and the ciphers are log entry 3. -/
def Obligations.KeyAndCipherEventsRun : Prop :=
  (∀ (s : State) (slot : Fin 64) (gen : BitVec 32) (m : Master) (w : World) (use : KeyUse), mechanismsOn s = true →
    let n := slot.val
    let none_ (t : State) : State := { t with bod := { t.bod with fetched := none } }
    let d := drawBytes (slotValue n s).length s
    (mayUse n m w use s = false → Completes (.keyFetch slot gen m w use) s (none_ (bump .thmAccessDenied n s)))
    ∧ (mayUse n m w use s = true → isStale n (some gen.toNat) s = true → Completes (.keyFetch slot gen m w use) s (none_ (bump .thmKeyStale n s)))
    ∧ (mayUse n m w use s = true → isStale n (some gen.toNat) s = false → Completes (.keyFetch slot gen m w use) s
        { d.2 with bod := { d.2.bod with fetched := some { slot := n, masked := xorBytes (slotValue n s) d.1, mask := d.1 } } }))
  ∧ (∀ s : State, mechanismsOn s = true → Completes .rngHealthFail s (detectFault 0x11 0 (raiseEv .rngFault 0 [] { s with thm := { s.thm with rngFault := true } })))
  ∧ (∀ (s : State) (at_ : Nat) (v : List Byte) (stop : Nat),
      let u := advanceTo at_ s
      (s.thm.lcNonce = some (v, stop) → (stop ≤ u.cyc → Completes (.lcNonceExpiry at_) s { u with thm := { u.thm with lcNonce := none } }) ∧ (u.cyc < stop → Completes (.lcNonceExpiry at_) s u))
      ∧ (s.thm.dbgNonce = some (v, stop) → (stop ≤ u.cyc → Completes (.debugNonceExpiry at_) s { u with thm := { u.thm with dbgNonce := none } }) ∧ (u.cyc < stop → Completes (.debugNonceExpiry at_) s u)))
  ∧ (∀ s : State, domainRuns 7 s = true → coreRuns s = true →
      (s.bod.items = [] → Completes .bodkinPipelineEnter s s)
      ∧ ∀ it rest j, s.bod.items = it :: rest → it.frame.verdict.job = some j →
          let u : State := { s with bod := { s.bod with items := rest } }
          let r := (getCtx j.ctx u).record
          let an := bits r 226 225
          let i := 4 * j.ctx + an
          let sa := getSa i u
          let pn := bits sa 71 8
          let slot := bits sa 254 249
          (s.bod.mode ≠ .service → Completes .bodkinPipelineEnter s (bump .bodModeDrop 0 u))
          ∧ (s.bod.mode = .service → bits r 255 254 = 1 → j.dir = false → it.frame.ek = .ethernet →
              (sa.getLsbD 255 = false → Completes .bodkinPipelineEnter s (bump .bodTxNoSa j.ctx u))
              ∧ (sa.getLsbD 255 = true → sa.getLsbD 1 = false → it.bytes.length + 32 ≤ 9216 → pn < (if suiteXpn r then 2 ^ 64 - 1 else 2 ^ 32 - 1) →
                  softReached r pn (if suiteXpn r then 2 ^ 64 - 1 else 2 ^ 32 - 1) = false →
                  mayUse slot .bodkin (ctxWorld r) .cipher u = true → isStale slot (some (bits sa 248 217)) u = false →
                  Completes .bodkinPipelineEnter s (toPipe it.lane { frame := it.frame, bytes := macsecProtect r sa an pn (macsecKey r sa an (slotValue slot u)) it.bytes }
                    (bump (if r.getLsbD 230 then .bodTxEncrypted else .bodTxProtected) j.ctx (setSa i (putField sa 71 8 (pn + 1)) (masked slot u)))))))
  ∧ (∀ (s : State) (pipe : Fin 4), domainRuns 7 s = true → coreRuns s = true →
      (mapGet [] s.bod.pipes pipe.val = [] → Completes (.bodkinPipelineExit pipe) s (serveAsked s))
      ∧ ∀ o rest j, mapGet [] s.bod.pipes pipe.val = o :: rest → o.frame.verdict.job = some j →
          let u : State := { s with bod := { s.bod with pipes := mapSet [] s.bod.pipes pipe.val rest, fetched := none } }
          (j.dir = false → Completes (.bodkinPipelineExit pipe) s (serveAsked (enterDirect o j.outs u)))
          ∧ (j.dir = true → Completes (.bodkinPipelineExit pipe) s (serveAsked (enterWhole 29 o.frame.keyPort o.frame.ek (some { viaBodkin := true, verified := o.verified, fv := o.fv, fresh := o.fresh }) o.frame.epoch o.frame.arrived o.bytes u))))
  ∧ (∀ (s : State) (slot n : Nat) (msg : List Byte), keeperRuns s = true → domainRuns 7 s = true → s.bod.asked = [] → msg.length ≤ 8192 →
      let t := masked slot s
      let answer (out : List Byte) : State := { t with bod := { t.bod with reply := some (.ok, out) } }
      (∀ q : CryptoReq, 64 ≤ inFlight 0 s → Completes (.keeperCryptoRequest q) s { s with bod := { s.bod with asked := [q] } })
      ∧ (inFlight 0 s < 64 → usable slot .keeper .trusted .hmac s → n = 16 ∨ n = 32 → Completes (.keeperCryptoRequest (.hmac slot n msg)) s (answer ((hmacSha256 (slotValue slot s) msg).take n)))
      ∧ (inFlight 0 s < 64 → usable slot .keeper .trusted .cipher s → 4 ≤ n → n ≤ 16 → Completes (.keeperCryptoRequest (.cmac slot n msg)) s (answer ((cmacAes (slotValue slot s) msg).take n))))
  ∧ ∀ (s : State) (port : ExtPort), keeperRuns s = true → mechanismsOn s = true →
      Completes (.mkaPduRx port none []) s s
      ∧ (∀ (w : Msg) (c : Cmd), cmdOf 10 3 = some c → c.len (paramsOf w) = true → allowed c (paramsOf w) s = true → (runCmd c w.via (paramsOf w) s).status = .ok →
          pairActive (runCmd c w.via (paramsOf w) s).st = false → Completes (.mkaPduRx port none [w]) s (runCmd c w.via (paramsOf w) s).st)
      ∧ ∀ (k : Msg) (ws : List Msg) (c : Cmd), cmdOf 9 1 = some c → c.len (paramsOf k) = true → allowed c (paramsOf k) s = true → (runCmd c k.via (paramsOf k) s).status ≠ .ok →
          Completes (.mkaPduRx port (some k) ws) s (runCmd c k.via (paramsOf k) s).st

/-! ## Clocks, power domains and wake sources (R254-R256, R377-R411) -/

/-- Clocks, domains and wake sources (R254-R256, R260, R377, R378, R384-R386, R391, R392, R395, R403-R411): a clock fault is counted, announced, reported and holds its domains' clocks off until a PLL locks; the crossings then resynchronise, once the clocks of both sides run; a domain switches off or on, and the last of a lights-out ends in DEEP or OFF; a frame wakes DOZE, lost; a WAKE pin holds networks, wakes DOZE and DEEP and starts OFF; the selective wake decoder, patterns, LIN and TC10 are recorded as the wake's cause; a wake ends in a running Keeper. Log entries 39, 45 and 48 state the model's own conventions. -/
def Obligations.ClockPowerAndWakeEventsRun : Prop :=
  ∀ s : State,
    let w := s.pwr
    (∀ dom : Domain,
      let d := dom.val
      let bit : BitVec 16 := BitVec.twoPow 16 d
      let settled := ∀ n < 16, (getNet n s).mode ≠ .consent
      let locked_ := setPwr { w with unlocked := w.unlocked &&& ~~~bit, resync := w.resync ||| bit } s
      (poweredNow d s = false ∨ w.unlocked.getLsbD d = false → Completes (.pllLock dom) s s)
      ∧ (poweredNow d s = true → w.unlocked.getLsbD d = true → (d ≠ 1 ∨ s.lamp.safe = true ∨ s.lamp.tokenLost = false) → Completes (.pllLock dom) s locked_)
      ∧ (poweredNow d s = true → w.unlocked.getLsbD d = true → d = 1 → s.lamp.safe = false → s.lamp.tokenLost = true → ∃ t, Completes (.pllLock dom) s t ∧ t.lamp.tokenLost = false ∧ t.pwr = locked_.pwr ∧ { t.fab with tx := s.fab.tx } = s.fab)
      ∧ (clockRuns d s = false → ∀ n lost, Completes (.resyncComplete dom n lost) s s)
      ∧ (clockRuns d s = true → ∀ n, (n = 0 ∨ ∀ p < 27, portDomain p = d → receiving p s = none) → ∀ lost, Completes (.resyncComplete dom n lost) s
          (bumpBy n .pwrCdcResync d (setPwr { w with resync := w.resync &&& ~~~bit, overflow := if lost = 0 then w.overflow else mapSet false w.overflow d true } s)))
      ∧ (w.transition = none → Completes (.domainSwitched dom) s s)
      ∧ (∀ x, w.transition = some x → x.lights = false → (x.offs ||| x.ons).getLsbD d = false → Completes (.domainSwitched dom) s s)
      ∧ (∀ x, w.transition = some x → x.lights = false → x.offs.getLsbD d = true →
          (2 ≤ d → d ≤ 5 → quadState (d - 2) s ≠ .off → Completes (.domainSwitched dom) s s)
          ∧ (settled → d ≠ 0 → (d < 2 ∨ 5 < d ∨ quadState (d - 2) s = .off) → (x.offs &&& ~~~bit ≠ 0 ∨ x.ons ≠ 0) →
              let t := domainOff d s
              Completes (.domainSwitched dom) s (setPwr { t.pwr with transition := some { x with offs := x.offs &&& ~~~bit }, powered := t.pwr.powered &&& ~~~bit, closed := t.pwr.closed ||| bit, unlocked := t.pwr.unlocked &&& ~~~bit, resync := t.pwr.resync &&& ~~~bit, overflow := mapSet false t.pwr.overflow d false } t)))
      ∧ (8 ≤ d → d ≤ 11 → domainOff d s = forUpTo 27 (fun p t => if portDomain p = d then flushPort p (portDown p t) else t) s)
      ∧ (d = 7 → domainOff d s = { s with bod := { s.bod with items := [], pipes := [], ctx := [], sas := [], fetched := none, asked := [] } })
      ∧ (d = 14 → domainOff d s = resetPlacket (emit .pcieDown s))
      ∧ (∀ x, w.transition = some x → x.lights = false → x.offs.getLsbD d = false → x.ons.getLsbD d = true →
          (settled → (d < 2 ∨ 5 < d) → d ≠ 13 → (x.offs ≠ 0 ∨ x.ons &&& ~~~bit ≠ 0) → Completes (.domainSwitched dom) s
            (setPwr { w with transition := some { x with ons := x.ons &&& ~~~bit }, powered := w.powered ||| bit, closed := w.closed &&& ~~~bit, unlocked := w.unlocked &&& ~~~bit, resync := w.resync &&& ~~~bit } s))
          ∧ (settled → x.offs = 0 → x.ons = bit → ∃ t, Completes (.domainSwitched dom) s t ∧ t.pwr.transition = none ∧ t.pwr.state = x.target ∧ t.pwr.powered = w.powered ||| bit
              ∧ (2 ≤ d → d ≤ 5 → quadState (d - 2) t = .on)))
      ∧ (∀ x, w.transition = some x → x.lights = true → x.ons = 0 → x.offs = bit →
          (x.target = .deep → d ≠ 0 → ∃ t, Completes (.domainSwitched dom) s t ∧ t.pwr.state = .deep ∧ t.pwr.powered = 1 ∧ t.pwr.transition = none ∧ t.pwr.wakePending = (domainOff d s).pwr.wakeLatched ∧ t.lamp.faultN = false)
          ∧ (x.target = .off → d = 0 → w.pinsHigh.getLsbD 0 = false → ∃ t, Completes (.domainSwitched dom) s t ∧ t.pwr.state = .off ∧ t.pwr.powered = 0 ∧ t.pwr.transition = none ∧ t.lamp.faultN = false)))
    ∧ (∀ clock : Fin 8,
        let k := clock.val
        let hit := (3 ≤ k → clockDomains k &&& w.powered ≠ 0) ∧ (k = 4 → w.state ≠ .doze)
        (mechanismsOn s = false ∨ ¬ hit → Completes (.clockFault clock) s s)
        ∧ (mechanismsOn s = true → hit → ∃ t, Completes (.clockFault clock) s t ∧ t.faults = s.faults ++ [(7, k)] ∧ t.raised = s.raised ++ (.clockFault, k, []) :: (if k = 2 then [(.clockFault, 0, [])] else [])
            ∧ t.pwr = { w with unlocked := w.unlocked ||| (clockDomains k &&& w.powered) } ∧ t.fab = s.fab ∧ (k ≠ 2 → t.counters = (bump .pwrClkFault k s).counters) ∧ (k = 2 → t.counters = (bump .pwrClkFault 0 (bump .pwrClkFault k s)).counters)))
    ∧ (∀ at_ : Nat,
        let u := advanceTo at_ s
        (mechanismsOn u = true → Completes (.ref32Timeout at_) s (detectFault 7 1 (raiseEv .clockFault 1 [] (bump .pwrClkFault 1 (setPwr { u.pwr with unlocked := u.pwr.unlocked ||| 0 } u)))))
        ∧ (mechanismsOn u = false → Completes (.ref32Timeout at_) s u)
        ∧ (∀ dom : Domain,
            let d := dom.val
            let latched (i : Nat) (v : State) : State := detectFault 0x13 d (raiseEv .domainStopped d [] (sideCause 8 (bump .pwrInitTimeout i (setPlk { v.plk with stopped := v.plk.stopped ||| BitVec.twoPow 16 d } v))))
            (∀ plk, domainStuck d u = false → Completes (.initiatorTimeout at_ plk dom) s u)
            ∧ (domainStuck d u = true → Completes (.initiatorTimeout at_ true dom) s (latched 1 (if d = 1 then lostDoorbells u else u)))
            ∧ (u.yel.waiting = none → Completes (.initiatorTimeout at_ false dom) s u)
            ∧ ∀ a stop, domainStuck d u = true → u.yel.waiting = some (a, .access d, stop) → stop ≤ u.cyc → Completes (.initiatorTimeout at_ false dom) s
                (afterPause (replyTo a.cls a.opcode a.msg true .timeout [] false (setYel { u.yel with waiting := none } (latched 0 u)))))
        ∧ (∀ o, u.edge.oscillator = some o → o + 2 * msCyc ≤ u.cyc → Completes (.wakeOscStop at_) s { u with edge := { u.edge with oscillator := none } })
        ∧ (u.edge.oscillator = none → Completes (.wakeOscStop at_) s u)
        ∧ (u.pwr.state ≠ .deep ∨ u.pwr.wakePending = false ∨ u.pwr.vinLow = true → Completes (.deepWakeSequence at_) s u)
        ∧ (u.pwr.state = .deep → u.pwr.wakePending = true → u.pwr.vinLow = false → ∃ t, Completes (.deepWakeSequence at_) s t ∧ t.kpr.up = true ∧ t.kpr.wdActive = true ∧ (t.boot.booted = true ∨ t.kpr.recovery = true)))
    ∧ (s.pwr.state ≠ .doze → ∀ src, Completes (.dozeWake src) s s)
    ∧ (s.pwr.state = .doze →
        (∀ p : ExtPort, (getPort p.val s).up = true → Completes (.dozeWake (.frame p)) s (leaveDoze (bump .pwrDozeRxDrop p.val s)))
        ∧ (∀ p : ExtPort, (getPort p.val s).up = false → Completes (.dozeWake (.frame p)) s s)
        ∧ (∀ src, (∀ p, src ≠ .frame p) → Completes (.dozeWake src) s (leaveDoze s))
        ∧ (leaveDoze s).pwr.state = w.before ∧ (leaveDoze s).kpr.wdFrom = s.cyc ∧ (leaveDoze s).kpr.mgmtBit = false ∧ (leaveDoze s).kpr.ctrlBit = false ∧ { (leaveDoze s).fab with tx := s.fab.tx } = s.fab ∧ (leaveDoze s).bcn = s.bcn)
    ∧ (∀ pin : Fin 2,
        let high := setPwr { w with pinsHigh := w.pinsHigh ||| BitVec.twoPow 2 pin.val } s
        Completes (.wakePinRelease pin) s (setPwr { w with pinsHigh := w.pinsHigh &&& ~~~(BitVec.twoPow 2 pin.val) } s)
        ∧ (w.state = .doze → Completes (.wakePin pin) s (leaveDoze high))
        ∧ (w.state = .off → (pin.val = 1 ∨ w.vinLow = true) → Completes (.wakePin pin) s high)
        ∧ (w.state = .off → pin.val = 0 → w.vinLow = false → ∃ t, Completes (.wakePin pin) s t ∧ t.boot.booted = false ∧ t.boot.count = s.boot.count + 1 ∧ t.boot.last = 0 ∧ t.pwr.state = .run ∧ t.kpr.up = false)
        ∧ (w.state = .run ∨ w.state = .trim → lightsGoing s = false → startsUp s = false →
            ((∀ n < 16, (getNet n s).record.getLsbD (121 - pin.val) = false) → Completes (.wakePin pin) s high)
            ∧ ∃ t, Completes (.wakePin pin) s t ∧ ∀ n < 16, (getNet n s).record.getLsbD (121 - pin.val) = true → (getNet n s).enabled = true →
                (getNet n t).mode = .awake ∧ (getNet n t).since = s.cyc ∧ (getNet n t).record = (getNet n s).record)
        ∧ (startsUp s = true → lightsGoing s = false → ∃ t, Completes (.wakePin pin) s t ∧ t.pwr.pinsHigh = high.pwr.pinsHigh ∧ t.pwr.state = w.state ∧ (s.edge.wakeRec.cause = 0 → t.edge.wakeRec.cause = 5 + pin.val)))
    ∧ (let asleep := lightsGoing s = true ∨ w.state = .deep
       let recorded_ (c : Instr) (r : WakeRecord) : Prop := ∃ t, Completes c s t ∧ (s.edge.wakeRec.cause = 0 → t.edge.wakeRec = r ∧ t.pwr.causeNow = r.cause ∧ t.pwr.instNow = r.channel)
         ∧ (lightsGoing s = true → t.pwr.wakeLatched = true) ∧ (lightsGoing s = false → w.state = .deep → t.pwr.wakePending = true) ∧ t.fab = s.fab ∧ t.pwr.nets = w.nets
       (∀ pin : Fin 2, w.state = .deep → ∃ t, Completes (.wakePin pin) s t ∧ (s.edge.wakeRec.cause = 0 → t.edge.wakeRec.cause = 5 + pin.val) ∧ (t.pwr.wakeLatched = true ∨ t.pwr.wakePending = true) ∧ t.pwr.pinsHigh.getLsbD pin.val = true)
       ∧ (∀ (ch : PhysCh) (m : CanMsg) (e : Bool),
          let c := ch.val
          let r := wakeRecord c s
          let n := wakeCount r (getWake c s).errors m e
          (decoderOn c s = false → Completes (.selectiveWakeFrame ch m e) s s ∧ Completes (.wupPattern ch) s s)
          ∧ (decoderOn c s = true → bits r 191 190 ≠ 2 → Completes (.selectiveWakeFrame ch m e) s (oscillates s))
          ∧ (decoderOn c s = true → bits r 191 190 = 2 → (e = true ∨ wufMatches r m = false) → n < 32 → Completes (.selectiveWakeFrame ch m e) s (oscillates (setWake c { getWake c s with errors := n } s)))
          ∧ (decoderOn c s = true → bits r 191 190 = 2 → e = false → wufMatches r m = true → recorded_ (.selectiveWakeFrame ch m e) { channel := c, cause := 1, dlc := m.dlc, ident := m.ident, data := m.data, aoCount := aoCount s })
          ∧ (decoderOn c s = true → bits r 191 190 = 2 → (e = true ∨ wufMatches r m = false) → 32 ≤ n → recorded_ (.selectiveWakeFrame ch m e) { channel := c, cause := 2 })
          ∧ (decoderOn c s = true → bits r 191 190 ≠ 1 → Completes (.wupPattern ch) s (oscillates s))
          ∧ (decoderOn c s = true → bits r 191 190 = 1 → recorded_ (.wupPattern ch) { channel := c, cause := 3 })
          ∧ (¬ asleep ∨ bits (getCan c s).record 119 118 ≠ 0 → Completes (.standbyRxdWake ch) s s)
          ∧ (asleep → bits (getCan c s).record 119 118 = 0 → recorded_ (.standbyRxdWake ch) { channel := c, cause := 4 }))
       ∧ (∀ ch : LinCh, ((¬ asleep ∧ startsUp s = false) ∨ (getLin ch.val s).record.getLsbD 36 = false → Completes (.linDeepWake ch) s s)
          ∧ (asleep ∨ startsUp s = true → (getLin ch.val s).record.getLsbD 36 = true → recorded_ (.linDeepWake ch) { channel := ch.val, cause := 7 }))
       ∧ ∀ p : ExtPort,
          let member := isT1 p.val = true ∧ (netOf (fun x => x.hasPort p.val) s).isSome = true
          ((¬ asleep ∧ startsUp s = false) ∨ ¬ member → Completes (.tc10DeepWake p) s s) ∧ (asleep ∨ startsUp s = true → member → recorded_ (.tc10DeepWake p) { channel := p.val, cause := 8 }))

/-! ## Network management (R393-R402, R407) -/

/-- Network management (R395-R402, R407): SLEEP_WAIT and FALSE_WAKE start a consent round unless the snapshot cannot be written or the network is held; keep-alives are polled and sent; NM messages that break the table are counted, and the others keep the network awake, are answered, consent or fail the round; the last consent of a phase moves the round on, to sleep of the network at its end and lights-out at the last network's; silence fails the round and the third in a row leaves its participant out; wake requests wake a sleeping network. A standby relays TC10 events, and its port sleeps on an acknowledge (R445); in a pair a round also awaits the partner's linked ports (R399, R443). That NM messages join the channel's transmit queue is log entry 40. -/
def Obligations.NetworkManagementEventsRun : Prop :=
  (∀ (s : State) (at_ : Nat) (net : Fin 16),
    let u := advanceTo at_ s
    let n := net.val
    let x := getNet n u
    let fresh := { x with mode := .consent, phase := 1, since := u.cyc, answered := [], portsAnswered := [] }
    let expires (c : Instr) (mode : NetMode) (wait : Nat) (counted : State → State) : Prop :=
      let due := nmRuns u = true ∧ x.enabled = true ∧ x.mode = mode ∧ x.since + wait ≤ u.cyc ∧ netHeld n u = false
      (¬ due → Completes c s u)
      ∧ (due → snapshotFor u = none → Completes c s (raiseEv .nmSaveFail n [] (bump .pwrNmSaveFail 0 (setNet n { x with mode := .awake, since := u.cyc } u))))
      ∧ (due → ∀ v, snapshotFor u = some v →
          (silentNodes n (setNet n fresh u) ≠ [] → Completes c s (nmSendAll n 2 (bump .pwrNmRound n (setNet n fresh (counted v)))))
          ∧ (silentNodes n (setNet n fresh u) = [] → silentPorts n (setNet n fresh u) = [] → silentPairPorts n (setNet n fresh u) = [] → ∃ t, Completes c s t ∧ (getNet n t).mode = .asleep ∧ (getNet n t).since = u.cyc
              ∧ ((∃ k < 16, k ≠ n ∧ (getNet k u).enabled = true ∧ (getNet k u).mode ≠ .asleep) → t.pwr.transition = u.pwr.transition)
              ∧ ((∀ k < 16, k ≠ n → (getNet k u).enabled = true → (getNet k u).mode = .asleep) → u.pwr.transition = none → lightsGoing t = true)))
    expires (.nmSleepWaitExpiry at_ net) .awake x.sleepWait id
    ∧ expires (.nmFalseWakeExpiry at_ net) .wakeCheck x.falseWake (bump .pwrNmFalseWake n)
    ∧ (let sends := nmRuns u = true ∧ x.enabled = true ∧ netHeld n u = true ∧ x.kaNext ≤ u.cyc
       (¬ sends → Completes (.nmKeepaliveTx at_ net) s u) ∧ (sends → Completes (.nmKeepaliveTx at_ net) s (nmSendAll n 1 (setNet n { x with kaNext := u.cyc + x.keepEvery } u))))
    ∧ (u.cyc < u.pwr.kaPollAt → Completes (.nmKaPoll at_) s u)
    ∧ (u.pwr.kaPollAt ≤ u.cyc → twinRuns u = false ∨ u.twin.st.standing = false → nmRuns u = true → ∃ t, Completes (.nmKaPoll at_) s t ∧ t.pwr.kaPollAt = u.cyc + 10 * msCyc
        ∧ (x.enabled = true → let c := kaCount x u
            (c ≤ x.kaSeen ∨ x.mode = .asleep → getNet n t = { x with kaSeen := c }) ∧ (x.kaSeen < c → x.mode ≠ .asleep → (getNet n t).mode = .awake ∧ (getNet n t).since = u.cyc ∧ (getNet n t).kaSeen = c))
        ∧ t.fab = u.fab)
    ∧ (let due := nmRuns u = true ∧ x.enabled = true ∧ x.mode = .consent ∧ x.since + x.consentTime ≤ u.cyc
       (¬ due → Completes (.nmConsentTimeout at_ net) s u)
       ∧ (due → x.phase = 1 → silentNodes n u ≠ [] → ∃ t, Completes (.nmConsentTimeout at_ net) s t ∧ (getNet n t).mode = .awake ∧ (getNet n t).since = u.cyc
           ∧ ∀ e ∈ silentNodes n u, let k := mapGet 0 (getNmChan e.1 u).silent e.2
               (k < 2 → mapGet 0 (getNmChan e.1 t).silent e.2 = k + 1) ∧ (2 ≤ k → (getNmChan e.1 t).nodes.getLsbD e.2 = false))
       ∧ (due → x.phase = 2 → silentPorts n u ≠ [] → ∃ t, Completes (.nmConsentTimeout at_ net) s t ∧ (getNet n t).mode = .awake ∧ (getNet n t).since = u.cyc
           ∧ ∀ p ∈ silentPorts n u, let k := mapGet 0 u.pwr.portSilent p
               (k < 2 → mapGet 0 t.pwr.portSilent p = k + 1) ∧ (2 ≤ k → t.pwr.portExcluded.getLsbD p = true))))
  ∧ (∀ (s : State) (ch : CanCh) (m : CanMsg), keeperRuns s = true → mechanismsOn s = true → (standbyRule s = false ∨ s.twin.mode ≠ 1) →
      let row : Nat → Instr := fun op => if op = 1 then .nmKeepAliveRx ch m else if op = 2 then .nmReadyToSleepRx ch m else if op = 3 then .nmConsentRx ch m else .nmRefuseRx ch m
      (netOf (fun x => x.hasCan ch.val) s = none → ∀ op, Completes (row op) s s)
      ∧ ∀ n, netOf (fun x => x.hasCan ch.val) s = some n →
          let x := getNet n s
          let node := numAt m.data 1 1
          let c := getNmChan ch.val s
          let valid (op : Nat) : Prop := m.format = .classicBase ∧ m.rtr = false ∧ m.ident = bits x.record 26 16 ∧ m.dlc = 2 ∧ m.data.length = 2 ∧ numAt m.data 0 1 = op ∧ (node < 64 ∨ node = 0xFE)
          let heard : State := if node < 64 then setNmChan ch.val { c with nodes := c.nodes ||| BitVec.twoPow 64 node } s else s
          let fails : State := forEach x.portsAnswered wakePort (bump .pwrNmRoundFail n (setNet n { x with mode := .awake, since := s.cyc, answered := [], portsAnswered := [] } heard))
          let answered_ : State := setNet n { x with answered := x.answered ++ [(ch.val, node)] } (setNmChan ch.val { getNmChan ch.val heard with silent := mapSet 0 c.silent node 0 } heard)
          let phase2 : State := setNet n { x with answered := x.answered ++ [(ch.val, node)], phase := 2, since := s.cyc } answered_
          (nmRuns s = false ∨ x.mode = .asleep → ∀ op, Completes (row op) s s)
          ∧ (nmRuns s = true → x.mode ≠ .asleep →
              (∀ op, 1 ≤ op → op ≤ 4 → ¬ valid op → Completes (row op) s (bump .pwrNmBad ch.val s))
              ∧ (valid 1 → x.mode ≠ .consent → Completes (.nmKeepAliveRx ch m) s (setNet n { x with mode := .awake, since := s.cyc } heard))
              ∧ (valid 1 → x.mode = .consent → Completes (.nmKeepAliveRx ch m) s fails)
              ∧ (valid 2 → Completes (.nmReadyToSleepRx ch m) s (nmSend n (if netHeld n s = true then 4 else 3) ch.val heard))
              ∧ (valid 3 → (64 ≤ node ∨ x.mode ≠ .consent ∨ x.phase ≠ 1) → Completes (.nmConsentRx ch m) s heard)
              ∧ (valid 3 → node < 64 → x.mode = .consent → x.phase = 1 → silentNodes n answered_ ≠ [] → Completes (.nmConsentRx ch m) s answered_)
              ∧ (valid 3 → node < 64 → x.mode = .consent → x.phase = 1 → silentNodes n answered_ = [] → (silentPorts n answered_ ≠ [] ∨ silentPairPorts n answered_ ≠ []) →
                  Completes (.nmConsentRx ch m) s (forEach (silentPairPorts n answered_) (fun p t => relayTo 2 p [] t) (forEach (silentPorts n answered_) (fun p t => emit (.tc10 p false) t) phase2)))
              ∧ (valid 4 → x.mode = .consent → Completes (.nmRefuseRx ch m) s fails)
              ∧ (valid 4 → x.mode ≠ .consent → Completes (.nmRefuseRx ch m) s heard)))
  ∧ ∀ (s : State) (port : ExtPort),
      let p := port.val
      let cleared := setPwr { s.pwr with portExcluded := s.pwr.portExcluded &&& ~~~(BitVec.twoPow 27 p), portSilent := mapSet 0 s.pwr.portSilent p 0 } s
      (twinRuns s = true → s.twin.st.standing = true → Completes (.tc10SleepAck port) s (sendTwin 5 0 (natBytes 1 2 ++ natBytes 1 p ++ natBytes 2 0) (portDown p (setPwr { s.pwr with asleepPorts := s.pwr.asleepPorts ||| BitVec.twoPow 27 p } s))) ∧ Completes (.tc10WakeRx port) s (sendTwin 5 0 (natBytes 1 3 ++ natBytes 1 p ++ natBytes 2 0) s))
      ∧ (twinRuns s = false ∨ s.twin.st.standing = false →
          (netOf (fun x => x.hasPort p) s = none → Completes (.tc10SleepAck port) s cleared ∧ Completes (.tc10WakeRx port) s s)
          ∧ ∀ n, netOf (fun x => x.hasPort p) s = some n →
              let x := getNet n s
              let sleeps := nmRuns s = true ∧ isT1 p = true ∧ x.mode = .consent ∧ x.phase = 2 ∧ (getPort p s).up = true
              (¬ sleeps → Completes (.tc10SleepAck port) s cleared)
              ∧ (sleeps → ((∃ q ∈ silentPorts n s, q ≠ p) ∨ silentPairPorts n s ≠ []) → ∃ t, Completes (.tc10SleepAck port) s t ∧ t.pwr.asleepPorts.getLsbD p = true ∧ getNet n t = { x with portsAnswered := x.portsAnswered ++ [p] })
              ∧ (sleeps → (∀ q ∈ silentPorts n s, q = p) → silentPairPorts n s = [] → ∃ t, Completes (.tc10SleepAck port) s t ∧ t.pwr.asleepPorts.getLsbD p = true ∧ (getNet n t).mode = .asleep)
              ∧ (running s = false ∨ x.mode = .awake ∨ x.mode = .wakeCheck → Completes (.tc10WakeRx port) s s)
              ∧ (running s = true → x.mode = .asleep → Completes (.tc10WakeRx port) s (wakeNet n none s) ∧ (getNet n (wakeNet n none s)).mode = .wakeCheck ∧ (getNet n (wakeNet n none s)).since = s.cyc)
              ∧ (running s = true → x.mode = .consent → Completes (.tc10WakeRx port) s
                  (forEach x.portsAnswered wakePort (bump .pwrNmRoundFail n (setNet n { x with mode := .awake, since := s.cyc, answered := [], portsAnswered := [] } s)))))

/-! ## The safety mechanisms and the Lamp room (R413-R433, R480-R482) -/

/-- The safety mechanisms (R417, R420-R430, R481): a mechanism that is powered detects a fault of its block, those of the Keeper pair while it runs; errors that the ECC corrects, and 125 °C, are reports only; the scrubber finds what an injection planted; both planes together restart the watchdog's period and its end is a detection; without its token the gate logic closes the gates. The Lamp room counts a detection and, unless it only reports, latches its code and enters the safe state with FAULT_N low and the gates closed; one of the Keeper pair resets the pair. The self-test restarts the Keeper from its bank, halts it, or leaves it in recovery. -/
def Obligations.SafetyMechanismsRun : Prop :=
  (∀ s : State,
    let on := mechanismsOn s = true
    let pair (c : Instr) (k : Nat) : Prop := (s.kpr.up = true → on → Completes c s (detectFault k 0 s)) ∧ (s.kpr.up = false ∨ ¬ on → Completes c s s)
    let block (c : Instr) (k i : Nat) : Prop := (on → Completes c s (detectFault k i s)) ∧ (¬ on → Completes c s s)
    let report (k i : Nat) (v : State) : State := raiseEv .safetyReport i [BitVec.ofNat 8 k, if v.lamp.injected then 1 else 0] (bump .lampDetect k v)
    pair .lockstepMismatch 1 ∧ pair .comparatorFault 2 ∧ pair .delayParityError 3 ∧ pair .inputDisagreement 4
    ∧ block .tableEccError 0x0C 0 ∧ block .lampSelfCheckFault 0x0F 0 ∧ block .faultNReadbackFail 0x10 0
    ∧ (∀ dom : Domain, (poweredNow dom.val s = true → block (.railFault dom) 8 dom.val) ∧ (poweredNow dom.val s = false → Completes (.railFault dom) s s))
    ∧ (s.pwr.state ≠ .doze → block .timeCopyMismatch 0x0B 0 ∧ ∀ p : ExtPort, block (.gateOutputMismatch p) 0x0A p.val)
    ∧ (s.pwr.state = .doze → Completes .timeCopyMismatch s s ∧ ∀ p, Completes (.gateOutputMismatch p) s s)
    ∧ (on → Completes (.tcmEccError true) s (detectFault 5 0 s) ∧ Completes (.tcmEccError false) s (report 5 0 (bump .lampEccCorr 0 s)))
    ∧ (¬ on → ∀ d, Completes (.tcmEccError d) s s)
    ∧ (∀ (i : Fin 4) (c : Int),
        let warm := setPwr { s.pwr with temps := mapSet 0 s.pwr.temps i.val c } s
        (¬ on ∨ c < 125 → Completes (.temperatureThreshold i c) s warm) ∧ (on → 125 ≤ c → c < 130 → Completes (.temperatureThreshold i c) s (report 9 i.val warm)) ∧ (on → 130 ≤ c → Completes (.temperatureThreshold i c) s (detectFault 9 i.val warm)))
    ∧ (∀ m : Bool,
        (keeperRuns s = false → Completes (.watchdogService m) s s)
        ∧ (keeperRuns s = true →
            ((if m then s.kpr.ctrlBit else s.kpr.mgmtBit) = true → Completes (.watchdogService m) s (setKpr { s.kpr with mgmtBit := false, ctrlBit := false, wdFrom := s.cyc } s))
            ∧ ((if m then s.kpr.ctrlBit else s.kpr.mgmtBit) = false → Completes (.watchdogService m) s (setKpr { s.kpr with mgmtBit := m, ctrlBit := !m } s))))
    ∧ (¬ on ∨ s.pwr.state = .doze → Completes .gateTokenTimeout s s)
    ∧ (on → s.pwr.state ≠ .doze → ∃ t, Completes .gateTokenTimeout s t ∧ t.lamp = { s.lamp with tokenLost := true } ∧ ∀ p < 27, s.lamp.safeOpen.getLsbD p = false → gateOut p t = 0)
    ∧ (s.kpr.up = true ∨ s.kpr.halted = true ∨ s.boot.booted = false → ∀ b, Completes (.keeperSelfTestDone b) s s)
    ∧ (s.kpr.up = false → s.kpr.halted = false → s.boot.booted = true →
        Completes (.keeperSelfTestDone false) s (setKpr { s.kpr with halted := true } s)
        ∧ (bootBank s = none → ∃ t, Completes (.keeperSelfTestDone true) s t ∧ t.boot.bank = 255 ∧ t.kpr.up = true ∧ t.kpr.recovery = true ∧ t.bod.mode = .recovery)
        ∧ ∀ b, bootBank s = some b → ∃ t, Completes (.keeperSelfTestDone true) s t ∧ t.boot.bank = b ∧ t.kpr.up = true ∧ t.kpr.testPassed = true ∧ t.kpr.wdActive = true ∧ t.kpr.wdFrom = s.cyc
            ∧ (s.boot.last = 4 → t.kpr.restartAt = some s.cyc) ∧ t.lamp.restarted = !s.lamp.codes.isEmpty ∧ (.keeperRestart, 0, []) ∈ t.raised ∧ t.fab = s.fab
            ∧ (b ≠ s.boot.preferred → t.boot.preferred = b ∧ (.bootFallback, 0, []) ∈ t.raised)))
  ∧ (∀ (s : State) (at_ : Nat),
      let u := advanceTo at_ s
      let on := mechanismsOn u = true
      let due := match u.yel.pauseUntil with | some t => t + msCyc ≤ u.cyc | none => u.kpr.wdFrom + msCyc ≤ u.cyc
      (on → Completes (.lampHeartbeatMissing at_) s (detectFault 0x0F 0 u)) ∧ (¬ on → Completes (.lampHeartbeatMissing at_) s u ∧ ∀ a b, Completes (.memoryScrub at_ a b) s u)
      ∧ (u.kpr.wdActive = true → u.pwr.state ≠ .doze → due → u.kpr.up = true → on → Completes (.watchdogExpiry at_) s (detectFault 6 0 u))
      ∧ (u.kpr.wdActive = false ∨ u.pwr.state = .doze ∨ ¬ due ∨ u.kpr.up = false ∨ ¬ on → Completes (.watchdogExpiry at_) s u)
      ∧ (on → ∀ a b : Ecc,
          let p := u.lamp.planted
          let v := if p = 0 then u else setLamp { u.lamp with planted := 0, injected := true } u
          let x := if p.getLsbD 0 = true ∨ a = .uncorrectable then detectFault 5 0 v
            else if a = .corrected then raiseEv .safetyReport 0 [5, if v.lamp.injected then 1 else 0] (bump .lampDetect 5 (bump .lampEccCorr 0 v)) else v
          Completes (.memoryScrub at_ a b) s (if p.getLsbD 1 = true ∨ b = .uncorrectable then detectFault 0x0C 0 x else if b = .corrected then bump .lampEccCorr 1 x else x)))
  ∧ ∀ (s : State) (k i : Nat), s.faults = [(k, i)] →
      let t := reactFaults s
      t.faults = [] ∧ t.lamp.injected = false
      ∧ (reactionOf k = .report → t.lamp = { s.lamp with injected := false } ∧ t.kpr = s.kpr ∧ t.fab = s.fab ∧ t.raised = s.raised ++ [(.safetyReport, i, [BitVec.ofNat 8 k, if s.lamp.injected then 1 else 0])])
      ∧ (reactionOf k ≠ .report → t.lamp.safe = true ∧ t.lamp.lastS = some s.cyc ∧ t.lamp.safeOpen = s.lamp.safeOpen ∧ (s.lamp.codes.length < 8 → BitVec.ofNat 16 (k * 256 + i) ∈ t.lamp.codes)
          ∧ (s.lamp.safe = false → s.boot.booted = true ∨ s.kpr.up = true → t.lamp.faultN = true ∧ ∀ p < 27, s.lamp.safeOpen.getLsbD p = false → gateOut p t = 0))
      ∧ (reactionOf k = .safeKeeper → s.kpr.halted = false → t.kpr.up = false ∧ t.boot.last = 4 ∧ t.boot.count = s.boot.count + 1 ∧ t.yel.waiting = none ∧ t.yel.queue = []
          ∧ (∀ r, s.kpr.restartAt = some r → s.cyc < r + 1000 * msCyc → t.kpr.halted = true))

/-! ## The twin pair (R410, R434-R459) -/

/-- Twin-light redundancy (R334, R410, R435, R439-R458): HELLO and the heartbeat are sent and supervised; a HELLO moves the module through its twin states and ends a split in favour of the home module; loss of the heartbeat with RELINQUISH, T0 or the frames makes a standby take over, degraded without a current image; the parts of a generation are received in order, applied and acknowledged, any other sequence makes the standby STALE; deltas and snapshots are sent, and replies held for them leave with their acknowledgement or without it after 12 ms; takeback is asked for, granted after a final delta once the commands before it are executed, or times out; relays, lights-out and STATUS reach the supervisor. Layouts of the stream are log entry 41, deferred changes log entry 44. -/
def Obligations.TwinEventsRun : Prop :=
  let takes (c : Instr) (s v : State) : Prop := ∃ t, Completes c s t ∧ t.twin.st = .solo ∧ t.twin.superAt = some (v.cyc + 80 * msCyc) ∧ t.twin.busAt = v.cyc + msCyc ∧ t.twin.partner = none ∧ t.twin.askedAt = none
    ∧ (v.twin.st = .sync ∨ v.twin.st = .stale ∨ v.twin.st = .incompatible → (.twinTakeover, 0, []) ∈ t.raised)
  (∀ (s : State) (at_ : Nat),
    let u := advanceTo at_ s
    let x := u.twin
    let runs := twinRuns u = true
    let lost := x.st.standing = true ∧ x.partner.isSome = true ∧ (x.relinquishSeen = true ∨ (getPort 26 u).up = false ∨ x.frameAt + 5 * msCyc ≤ u.cyc)
    (¬ runs ∨ u.cyc < x.helloNext → Completes (.twinHelloTx at_) s u)
    ∧ (runs → x.helloNext ≤ u.cyc → Completes (.twinHelloTx at_) s (sendTwin 1 0 (helloBody u) (setTwin { x with helloNext := u.cyc + msCyc } u)))
    ∧ (let due := runs ∧ x.st = .wait ∧ x.partner = none ∧ x.since + 100 * msCyc ≤ u.cyc
       (¬ due → Completes (.twinWaitTimeout at_) s u) ∧ (due → Completes (.twinWaitTimeout at_) s (enterTwin .solo u)))
    ∧ (let due := x.mode = 1 ∧ x.st ≠ .relinquished ∧ mechanismsOn u = true ∧ x.hbNext ≤ u.cyc
       (¬ due → Completes (.twinHbToggle at_) s u) ∧ (due → Completes (.twinHbToggle at_) s (emit (.pin .twinHbOut (!x.hbOut)) (setTwin { x with hbOut := !x.hbOut, hbNext := u.cyc + 50 * usCyc } u))))
    ∧ (x.mode ≠ 1 ∨ x.hbSeen = false → Completes (.twinHbLoss at_) s u)
    ∧ (x.mode = 1 → x.hbSeen = true → (lost → takes (.twinHbLoss at_) s u) ∧ (¬ lost → Completes (.twinHbLoss at_) s (setTwin { x with hbSeen := false } u)))
    ∧ (x.mode ≠ 1 → Completes (.twinSilenceTimeout at_) s u)
    ∧ (x.mode = 1 → x.hbSeen = false → lost → takes (.twinSilenceTimeout at_) s u)
    ∧ (x.mode = 1 → x.hbSeen = true ∨ ¬ lost →
        (∀ d, x.takeAt = some d → (d ≤ u.cyc → x.st.standing = true → takes (.twinSilenceTimeout at_) s u) ∧ (u.cyc < d ∨ x.st.standing = false → Completes (.twinSilenceTimeout at_) s u))
        ∧ (x.takeAt = none → let gone := inControl u = true ∧ x.partner.isSome = true ∧ x.hbSeen = false ∧ x.helloAt + 5 * msCyc ≤ u.cyc
            (¬ gone → Completes (.twinSilenceTimeout at_) s u) ∧ (gone → ∃ t, Completes (.twinSilenceTimeout at_) s t ∧ t.twin.partner = none ∧ t.twin.st = .solo ∧ t.twin.sent = [] ∧ t.yel.held = [])))
    ∧ (∀ d, x.superAt = some d → (d ≤ u.cyc → Completes (.twinSupervisorReady at_) s (setTwin { x with superAt := none } u)) ∧ (u.cyc < d → Completes (.twinSupervisorReady at_) s u))
    ∧ (x.superAt = none → Completes (.twinSupervisorReady at_) s u)
    ∧ (x.granting = none → let late (d : Nat) : Bool := decide (d + 12 * msCyc ≤ u.cyc)
        Completes (.twinAckTimeout at_) s (releaseHeld (fun h => late h.since) false (bumpBy (x.sent.filter (fun e => late e.2)).length .twinDeltaLate 0 (setTwin { x with sent := x.sent.filter (fun e => !(late e.2)) } u))))
    ∧ (let ready := x.changed ≠ [] ∨ ∃ h ∈ u.yel.held, h.gen = x.gen + 1
       let due := runs ∧ x.st = .active ∧ x.partner ≠ some .incompatible ∧ x.granting = none ∧ ((ready ∧ x.deltaNext ≤ u.cyc) ∨ (superRecs u ≠ x.sentSuper ∧ x.deltaNext + 9 * msCyc ≤ u.cyc))
       (¬ due → Completes (.twinDeltaTx at_) s u)
       ∧ (due → ∃ t, Completes (.twinDeltaTx at_) s t ∧ t.twin.gen = x.gen + 1 ∧ t.twin.changed = [] ∧ t.twin.sentSuper = superRecs u ∧ t.twin.sent = x.sent ++ [(x.gen + 1, u.cyc)] ∧ t.twin.deltaNext = u.cyc + msCyc ∧ t.boot = u.boot))
    ∧ (let due := runs ∧ x.st = .active ∧ x.fullNext ≤ u.cyc ∧ x.partner ≠ some .incompatible
       (¬ due → Completes (.twinFullSnapshotTx at_) s u)
       ∧ (due → ∃ t, Completes (.twinFullSnapshotTx at_) s t ∧ t.twin.gen = x.gen + 1 ∧ t.twin.changed = [] ∧ t.twin.sent = x.sent ∧ t.twin.sentSuper = superRecs u ∧ t.twin.fullNext = u.cyc + 1000 * msCyc ∧ t.boot = u.boot))
    ∧ (let due := runs ∧ x.st = .standby ∧ x.partner.isSome = true ∧ isHome u = true ∧ x.suppressed = false ∧ x.askedAt = none ∧ x.homeTimer ≤ u.cyc
       (¬ due → Completes (.twinHoldOffExpiry at_) s u) ∧ (due → Completes (.twinHoldOffExpiry at_) s (sendTwin 8 0 [] (setTwin { x with askedAt := some u.cyc } u))))
    ∧ (∀ d, x.askedAt = some d → (d + 50 * msCyc ≤ u.cyc → Completes (.twinGrantTimeout at_) s (setTwin { x with askedAt := none, homeTimer := u.cyc + x.holdOff * 1000 * msCyc } u)) ∧ (u.cyc < d + 50 * msCyc → Completes (.twinGrantTimeout at_) s u))
    ∧ (x.askedAt = none → Completes (.twinGrantTimeout at_) s u)
    ∧ ((∀ d ∈ x.deferred, u.cyc < d.due) → Completes (.twinDeferredApply at_) s u)
    ∧ (∀ d, x.deferred = [d] → d.due ≤ u.cyc → Completes (.twinDeferredApply at_) s (if d.gone = true then forgetObject d.item (setTwin { x with deferred := [] } u) else applyCmd d.item (setTwin { x with deferred := [] } u)))
    ∧ (x.swapWaits = none → Completes (.twinEpochSwapRetry at_) s u)
    ∧ (∀ n d, x.swapWaits = some (n, d) →
        (u.cyc < d → Completes (.twinEpochSwapRetry at_) s u)
        ∧ (d ≤ u.cyc → (freeEpoch u).pat.draining.isSome = true → ∃ t, Completes (.twinEpochSwapRetry at_) s t ∧ t.twin.swapWaits = some (n, u.cyc + msCyc) ∧ t.pat.current = u.pat.current)))
  ∧ ∀ (s : State) (hdr : TwinHdr),
      let x := s.twin
      let heard := setTwin { x with frameAt := s.cyc } s
      (twinRuns s = false → s.pwr.state ≠ .doze → (∀ h, Completes (.twinHelloRx hdr h) s s) ∧ (∀ a b r, Completes (.twinFullPartRx hdr a b r) s s ∧ Completes (.twinDeltaRx hdr a b r) s s) ∧ Completes (.twinAckRx hdr) s s
        ∧ (∀ k i b, Completes (.twinRelayUpRx hdr k i b) s s ∧ Completes (.twinRelayDownRx hdr k i b) s s) ∧ Completes (.twinRelinquishRx hdr) s s ∧ Completes (.twinTakebackReqRx hdr) s s ∧ Completes (.twinTakebackGrantRx hdr) s s
        ∧ Completes (.twinLeaveRx hdr) s s ∧ (∀ k, Completes (.twinLightsOutRx hdr k) s s) ∧ ∀ b, Completes (.twinStatusRx hdr b) s s)
      ∧ (twinRuns s = true →
        (∀ h : Hello,
          (twinOfCode h.state = none → Completes (.twinHelloRx hdr h) s (bump .twinFrameBad 0 s))
          ∧ ∀ m, twinOfCode h.state = some m →
              let met := setTwin { x with partner := some m, partnerSerial := h.serial, partnerFw := h.fwVersion, partnerFormat := h.snapFormat.toNat, hbSeen := true, helloAt := s.cyc, frameAt := s.cyc } s
              let met' := if x.st.standing = true ∧ m.controls = true ∧ x.partner.isSome = true ∧ x.hbSeen = false then bump .twinHbFault 0 met else met
              let home := Config.serial.toNat < h.serial.toNat
              let fits := h.snapFormat.toNat = snapFormat s
              let split := ∃ t, Completes (.twinHelloRx hdr h) s t ∧ t.twin.st = .sync ∧ t.yel.waiting = none ∧ t.yel.queue = [] ∧ (.twinSplit, 0, []) ∈ t.raised
              (x.st = .wait → (m.controls = true → Completes (.twinHelloRx hdr h) s (enterTwin .sync met)) ∧ (m = .wait → home → Completes (.twinHelloRx hdr h) s (enterTwin .solo met))
                ∧ (m.controls = false → (m ≠ .wait ∨ ¬ home) → Completes (.twinHelloRx hdr h) s met))
              ∧ (x.st = .solo → (m.controls = true → home → Completes (.twinHelloRx hdr h) s met) ∧ (m.controls = true → ¬ home → split)
                ∧ (m.standing = true → ∃ t, Completes (.twinHelloRx hdr h) s t ∧ t.twin.st = .active ∧ t.twin.fullNext = s.cyc) ∧ (m.controls = false → m.standing = false → Completes (.twinHelloRx hdr h) s met))
              ∧ (x.st = .active → (m.controls = true → home → Completes (.twinHelloRx hdr h) s met) ∧ (m.controls = true → ¬ home → split)
                ∧ (m.controls = false → m.standing = false → ∃ t, Completes (.twinHelloRx hdr h) s t ∧ t.twin.st = .solo ∧ t.yel.held = [])
                ∧ (m.standing = true → Completes (.twinHelloRx hdr h) s (if m = .sync ∧ x.partner ≠ some .sync then setTwin { met.twin with fullNext := s.cyc } met else met)))
              ∧ (x.st = .relinquished → Completes (.twinHelloRx hdr h) s met)
              ∧ (x.st = .incompatible → Completes (.twinHelloRx hdr h) s (if m.controls = true ∧ fits then enterTwin .sync met' else met'))
              ∧ (x.st = .sync ∨ x.st = .standby ∨ x.st = .stale → Completes (.twinHelloRx hdr h) s (if m.controls = true ∧ ¬ fits then enterTwin .incompatible met' else met')))
        ∧ (∀ (full : Bool) (part parts : Nat) (recs : List ImageRec),
            let c := if full then Instr.twinFullPartRx hdr part parts recs else .twinDeltaRx hdr part parts recs
            let bad := parts < 1 ∨ 512 < parts ∨ parts ≤ part ∨ 8184 < recordBytes recs
            let takes_ := x.st = .sync ∨ x.st = .standby ∨ x.st = .stale
            let follows (i : Incoming) : Prop := i.gen = hdr.gen ∧ i.part + 1 = part ∧ i.parts = parts ∧ i.full = full
            (bad → Completes c s (bump .twinFrameBad 0 s))
            ∧ (¬ bad → ¬ takes_ → Completes c s heard)
            ∧ (¬ bad → takes_ → part = 0 → 1 < parts → Completes c s (setTwin { heard.twin with incoming := some { gen := hdr.gen, part := 0, parts := parts, recs := recs, full := full } } heard))
            ∧ (¬ bad → takes_ → ∀ i, x.incoming = some i → part ≠ 0 → follows i → part + 1 < parts → Completes c s (setTwin { heard.twin with incoming := some { gen := hdr.gen, part := part, parts := parts, recs := i.recs ++ recs, full := full } } heard))
            ∧ (¬ bad → takes_ → part ≠ 0 → (∀ i, x.incoming = some i → ¬ follows i) → Completes c s
                (let d := setTwin { heard.twin with incoming := none } heard
                 if x.st = .standby then enterTwin .stale d else d))
            ∧ (¬ bad → takes_ → part = 0 → parts = 1 →
                (full = true → ∃ t, Completes c s t ∧ t.twin.gen = hdr.gen ∧ t.twin.incoming = none ∧ ((applyFull recs heard).twin.st = .sync ∨ (applyFull recs heard).twin.st = .stale → t.twin.st = .standby))
                ∧ (full = false → x.st = .standby → hdr.gen = x.gen + 1 → ∃ t, Completes c s t ∧ t.twin.gen = hdr.gen ∧ t.twin.incoming = none)
                ∧ (full = false → x.st = .standby → hdr.gen ≠ x.gen + 1 → Completes c s (enterTwin .stale (setTwin { heard.twin with incoming := none } heard)))
                ∧ (full = false → x.st ≠ .standby → Completes c s (setTwin { heard.twin with incoming := none } heard))))
        ∧ (x.st ≠ .active → Completes (.twinAckRx hdr) s s)
        ∧ (x.st = .active →
            let acked := setTwin { heard.twin with sent := x.sent.filter (fun e => decide (e.1 ≠ hdr.gen)) } heard
            (x.granting = none → Completes (.twinAckRx hdr) s (releaseHeld (fun h => decide (h.gen.toNat ≤ hdr.gen.toNat)) true acked))
            ∧ (x.granting = some (false, hdr.gen) → ∃ t, Completes (.twinAckRx hdr) s t ∧ t.twin.granting = none ∧ t.twin.st = .active)
            ∧ (x.granting = some (true, hdr.gen) → ∃ t, Completes (.twinAckRx hdr) s t ∧ t.twin.granting = none ∧ t.twin.st = .standby ∧ t.yel.waiting = none ∧ t.yel.queue = [] ∧ t.yel.held = []))
        ∧ (∀ (k i : Nat) (b : List Byte),
            (inControl s = false → Completes (.twinRelayUpRx hdr k i b) s heard) ∧ (inControl s = true → Completes (.twinRelayDownRx hdr k i b) s heard)
            ∧ (inControl s = true → (k = 3 → Completes (.twinRelayUpRx hdr k i b) s (tc10WakeRx i heard)) ∧ (k = 2 → Completes (.twinRelayUpRx hdr k i b) s (pairAck i heard)) ∧ (k = 0 ∨ 4 ≤ k → Completes (.twinRelayUpRx hdr k i b) s heard)
                ∧ (k = 1 → i < 16 ∨ 32 ≤ i → Completes (.twinRelayUpRx hdr k i b) s heard)
                ∧ (k = 1 → 16 ≤ i → i < 32 →
                  let m := canOfPseudo b
                  (netOf (fun y => y.hasCan i) s = none → Completes (.twinRelayUpRx hdr k i b) s (addressClaim i m heard))
                  ∧ ∀ n, netOf (fun y => y.hasCan i) s = some n → Completes (.twinRelayUpRx hdr k i b) s (if m.format = .classicBase ∧ m.ident = bits (getNet n s).record 26 16 then nmDispatch i m heard else addressClaim i m heard)))
            ∧ (inControl s = false →
                (k = 0 → i < 27 → Completes (.twinRelayDownRx hdr k i b) s (keeperSend i 6 b heard))
                ∧ (k = 1 → 16 ≤ i → i < 32 → Completes (.twinRelayDownRx hdr k i b) s (enqueueTx i { msg := canOfPseudo b, since := s.cyc } heard))
                ∧ (k = 2 → i < 27 → isT1 i = true → Completes (.twinRelayDownRx hdr k i b) s (emit (.tc10 i false) heard))
                ∧ (k = 3 → i < 27 → isT1 i = true → Completes (.twinRelayDownRx hdr k i b) s (wakePort i heard))
                ∧ (4 ≤ k → Completes (.twinRelayDownRx hdr k i b) s heard)))
        ∧ (x.st.standing = false → Completes (.twinRelinquishRx hdr) s heard)
        ∧ (x.st.standing = true →
            (x.hbSeen = true → Completes (.twinRelinquishRx hdr) s (setTwin { heard.twin with relinquishSeen := true, askedAt := none, takeAt := some (s.cyc + msCyc) } heard))
            ∧ (x.hbSeen = false → x.partner.isSome = true → takes (.twinRelinquishRx hdr) s s))
        ∧ (x.st ≠ .active ∨ x.granting.isSome = true → Completes (.twinTakebackReqRx hdr) s heard)
        ∧ (x.st = .active → x.granting = none →
            (s.yel.pauseUntil.isSome = true ∨ s.yel.waiting.isSome = true ∨ s.yel.queue ≠ [] → Completes (.twinTakebackReqRx hdr) s (setTwin { heard.twin with askedInPause := true } heard))
            ∧ (s.yel.pauseUntil = none → s.yel.waiting = none → s.yel.queue = [] → ∃ t, Completes (.twinTakebackReqRx hdr) s t ∧ t.twin.granting = some (true, x.gen + 1) ∧ t.twin.gen = x.gen + 1 ∧ t.twin.changed = [] ∧ t.twin.st = .active))
        ∧ (x.askedAt = none ∨ x.st ≠ .standby → Completes (.twinTakebackGrantRx hdr) s heard)
        ∧ (∀ d, x.askedAt = some d → x.st = .standby →
            (s.cyc < d + 50 * msCyc → takes (.twinTakebackGrantRx hdr) s s) ∧ (d + 50 * msCyc ≤ s.cyc → Completes (.twinTakebackGrantRx hdr) s heard))
        ∧ (∃ t, Completes (.twinLeaveRx hdr) s t ∧ t.twin.partner = none ∧ t.twin.sent = [] ∧ t.twin.changed = [] ∧ t.twin.granting = none ∧ t.yel.held = [] ∧ t.twin.st = (if x.st = .active then .solo else x.st))
        ∧ (∀ k, (inControl s = true ∨ s.pwr.transition.isSome = true ∨ (k ≠ 3 ∧ k ≠ 4) → Completes (.twinLightsOutRx hdr k) s heard)
            ∧ (inControl s = false → s.pwr.transition = none → k = 3 ∨ k = 4 → ∃ t, Completes (.twinLightsOutRx hdr k) s t ∧ lightsGoing t = true ∧ t.pwr.transition.map (·.target) = some (if k = 3 then .deep else .off) ∧ t.bod.ctx = []))
        ∧ (∀ b : List Byte,
            let bad := b.length < 8 ∨ b.length % 40 ≠ 8 ∨ 1088 < b.length
            (bad → Completes (.twinStatusRx hdr b) s (bump .twinFrameBad 0 s))
            ∧ (¬ bad → inControl s = false → Completes (.twinStatusRx hdr b) s heard)
            ∧ (¬ bad → inControl s = true → ∃ t, Completes (.twinStatusRx hdr b) s t ∧ t.twin.partnerStatus = b
                ∧ ∀ n < 16, (BitVec.ofNat 16 (numAt b 0 2)).getLsbD n = true → (getNet n s).enabled = true → (getNet n s).mode ≠ .asleep → (getNet n t).mode = .awake ∧ (getNet n t).since = s.cyc)))

/-! ## Resets, the boot and the supply (R331, R333, R352, R418, R475-R496, R508) -/

/-- Resets, boot and supply (R24, R331, R333, R418, R428, R475-R482, R486, R488, R494-R496, R508): a power-on reset leaves what MRAM, OTP and the pins hold; RST_N, held for 10 us, and a module reset keep AO's state, RATE and the host bridge's memories besides; a Keeper reset leaves the data plane alone; the load of the image ends in SERVICE with FAULT_N as the safe state, or in recovery; a firmware switch resumes in the other bank, and a takeback asked for meanwhile is taken up; a brown-out, or a crank longer than 50 ms, ends every domain, and VIN's rise starts the module again. -/
def Obligations.ResetAndSupplyEventsRun : Prop :=
  let fresh (v t : State) (last : Nat) (strap : Bool) : Prop := t.pending = v.pending ∧ t.boot.booted = false ∧ t.boot.count = v.boot.count + 1 ∧ t.boot.last = last ∧ t.boot.strap = strap ∧ t.boot.banks = v.boot.banks ∧ t.boot.copies = v.boot.copies
    ∧ t.pwr.state = .run ∧ t.pwr.powered = 0x4003 ∧ t.pwr.transition = none ∧ t.kpr.up = false ∧ t.yel.waiting = none ∧ t.yel.queue = [] ∧ t.lamp.faultN = true ∧ t.fab = State.reset.fab ∧ t.sch = State.reset.sch ∧ t.pat = State.reset.pat
    ∧ t.sel = State.reset.sel ∧ t.twin = State.reset.twin ∧ ∀ p < 27, (getPort p t).up = false ∧ (getPort p t).record = portRecordReset p
  let ao (v t : State) : Prop := t.lamp.safe = v.lamp.safe ∧ t.lamp.codes = v.lamp.codes ∧ t.edge.wakeRec = v.edge.wakeRec ∧ t.bcn.rate = v.bcn.rate ∧ t.plk.ringMem = v.plk.ringMem ∧ t.plk.descMem = v.plk.descMem
  let dark (v t : State) : Prop := t.pwr.state = .off ∧ t.pwr.powered = 0 ∧ t.pwr.closed = 0xFFFF ∧ t.pwr.vinLow = true ∧ t.pwr.crankAt = none ∧ t.kpr.up = false ∧ t.lamp.faultN = true ∧ t.lamp.safe = false ∧ t.fab = State.reset.fab
    ∧ t.boot.copies = v.boot.copies ∧ count .pwrBrownout 0 t = Nat.min (2 ^ 48 - 1) (count .pwrBrownout 0 v + 1)
  (∀ s : State,
    (∀ strap, ∃ t, Completes (.powerOnReset strap) s t ∧ fresh s t 0 strap ∧ t.lamp.safe = false ∧ t.plk = State.reset.plk ∧ t.bcn = State.reset.bcn)
    ∧ (∀ held strap, (held < 10000 ∨ s.pwr.state = .off → Completes (.rstNReset held strap) s s)
        ∧ (10000 ≤ held → s.pwr.state ≠ .off → ∃ t, Completes (.rstNReset held strap) s t ∧ fresh s t 1 strap ∧ ao s t))
    ∧ (∃ t, Completes .vinBrownout s t ∧ dark s t)
    ∧ Completes .vinOvervolt s (bump .pwrOvervolt 0 s))
  ∧ ∀ (s : State) (at_ : Nat),
      let u := advanceTo at_ s
      let recovered (c : Instr) : Prop := ∃ t, Completes c s t ∧ t.boot.bank = 255 ∧ t.kpr.up = true ∧ t.kpr.recovery = true ∧ t.bod.mode = .recovery ∧ t.pwr.powered = 0x00C7 ∧ (u.boot.strap = false → (.recoveryBoot, 0, []) ∈ t.raised)
      (∀ k d, u.yel.resetTaken = some (k, d) →
        (u.cyc < d → Completes (.moduleReset at_) s u ∧ Completes (.keeperReset at_) s u)
        ∧ (k ≠ 0 → Completes (.moduleReset at_) s u) ∧ (k ≠ 1 → Completes (.keeperReset at_) s u)
        ∧ (k = 0 → d ≤ u.cyc → ∃ t, Completes (.moduleReset at_) s t ∧ fresh u t 2 false ∧ ao u t)
        ∧ (k = 1 → d ≤ u.cyc → ∃ t, Completes (.keeperReset at_) s t ∧ t.kpr.up = false ∧ t.boot.last = 3 ∧ t.boot.count = u.boot.count + 1 ∧ t.boot.booted = u.boot.booted ∧ t.yel.waiting = none ∧ t.yel.queue = [] ∧ t.plk.pairs = []
            ∧ t.fab = u.fab ∧ t.sch = u.sch ∧ t.pat = u.pat ∧ t.bcn = u.bcn ∧ (u.twin.mode = 1 → u.twin.st ≠ .relinquished → t.twin.st = .wait)))
      ∧ (u.yel.resetTaken = none → Completes (.moduleReset at_) s u ∧ Completes (.keeperReset at_) s u)
      ∧ (u.boot.booted = true ∨ u.kpr.up = true ∨ u.pwr.state = .off ∨ u.pwr.state = .deep → Completes (.configLoadComplete at_) s u)
      ∧ (u.boot.booted = false → u.kpr.up = false → u.pwr.state ≠ .off → u.pwr.state ≠ .deep →
          (u.boot.strap = true ∨ bootBank u = none → recovered (.configLoadComplete at_))
          ∧ ∀ b, u.boot.strap = false → bootBank u = some b → ∃ t, Completes (.configLoadComplete at_) s t ∧ t.boot.booted = true ∧ t.kpr.up = true ∧ t.kpr.testPassed = true ∧ t.kpr.wdActive = true ∧ t.bod.mode = .service ∧ t.lamp.faultN = t.lamp.safe
              ∧ (bestCopy u = none → t.boot.bank = b ∧ t.boot.defaulted = true ∧ t.pwr.powered = 0xFFFF ∧ (.configLoadFail, 0, []) ∈ t.raised))
      ∧ (u.yel.pauseUntil = none → Completes (.fwSwitchResume at_) s u)
      ∧ (∀ d, u.yel.pauseUntil = some d →
          (u.cyc < d → Completes (.fwSwitchResume at_) s u)
          ∧ (let v := setKpr { u.kpr with wdFrom := u.cyc } (setBoot { u.boot with bank := u.boot.preferred } (setYel { u.yel with pauseUntil := none } u))
             d ≤ u.cyc → (u.twin.askedInPause = false ∨ u.yel.waiting.isSome = true ∨ u.yel.queue ≠ [] → Completes (.fwSwitchResume at_) s v)
               ∧ (u.twin.askedInPause = true → u.yel.waiting = none → u.yel.queue = [] → pairActive u = true → u.twin.granting = none → ∃ t, Completes (.fwSwitchResume at_) s t ∧ t.twin.granting = some (true, u.twin.gen + 1) ∧ t.twin.askedInPause = false ∧ t.boot = v.boot)))
      ∧ (u.pwr.state = .deep → Completes (.vinCrank at_) s (setPwr { u.pwr with vinLow := true } u))
      ∧ (u.pwr.state = .off ∨ (u.pwr.state ≠ .deep ∧ u.pwr.crankAt.isSome = true) → Completes (.vinCrank at_) s u)
      ∧ (u.pwr.state ≠ .deep → u.pwr.state ≠ .off → u.pwr.crankAt = none → Completes (.vinCrank at_) s (bump .pwrCrank 0 (setPwr { u.pwr with vinLow := true, crankAt := some u.cyc } u)))
      ∧ (u.pwr.crankAt = none ∨ u.pwr.state = .deep ∨ u.pwr.state = .off → Completes (.vinCrankTimeout at_) s u)
      ∧ (∀ d, u.pwr.crankAt = some d → u.pwr.state ≠ .deep → u.pwr.state ≠ .off →
          (u.cyc < d + 50 * msCyc → Completes (.vinCrankTimeout at_) s u) ∧ (d + 50 * msCyc ≤ u.cyc → ∃ t, Completes (.vinCrankTimeout at_) s t ∧ dark u t))
      ∧ (u.pwr.vinLow = false → Completes (.vinAboveStartThreshold at_) s u)
      ∧ (u.pwr.vinLow = true →
          (u.pwr.state = .off → ∃ t, Completes (.vinAboveStartThreshold at_) s t ∧ fresh u t 0 false ∧ t.pwr.vinLow = false)
          ∧ (u.pwr.state ≠ .off → (u.pwr.state ≠ .deep ∨ u.pwr.wakePending = false) → Completes (.vinAboveStartThreshold at_) s (setPwr { u.pwr with vinLow := false, crankAt := none } u))
          ∧ (u.pwr.state = .deep → u.pwr.wakePending = true → ∃ t, Completes (.vinAboveStartThreshold at_) s t ∧ t.kpr.up = true ∧ (t.boot.booted = true ∨ t.kpr.recovery = true)))
end

