-- ==== Sys2Proof/Laws/Maps.lean ====
section
/-! SUPPORT. Laws/Maps.lean: reading a table after a write, and the canonical form that every write keeps; the same for a run of bytes of a byte memory. -/

namespace Sys2Proof.Machine

section Tables

variable {α : Type}

theorem risingFrom_mono {b c : Nat} (h : c ≤ b) {m : SMap α} (hm : risingFrom b m = true) : risingFrom c m = true := by
  cases m with
  | nil => rfl
  | cons p t => simp [risingFrom] at hm ⊢; exact ⟨by omega, hm.2⟩

theorem mapGet_mapPut_same (d : α) (m : SMap α) (k : Nat) (x : α) : mapGet d (mapPut m k x) k = x := by
  induction m with
  | nil => simp [mapPut, mapGet]
  | cons p t ih =>
    simp only [mapPut]
    split
    · simp [mapGet]
    · split
      · simp [mapGet]
      · next h _ => simp [mapGet, Ne.symm h, ih]

theorem mapGet_mapPut_other (d : α) (m : SMap α) {k j : Nat} (x : α) (h : j ≠ k) : mapGet d (mapPut m k x) j = mapGet d m j := by
  induction m with
  | nil => simp [mapPut, mapGet, Ne.symm h]
  | cons p t ih =>
    simp only [mapPut]
    split
    · next e => simp [mapGet, ← e, Ne.symm h]
    · split
      · simp [mapGet, Ne.symm h]
      · simp [mapGet, ih]

theorem mapGet_mapErase_other (d : α) (m : SMap α) {k j : Nat} (h : j ≠ k) : mapGet d (mapErase m k) j = mapGet d m j := by
  induction m with
  | nil => rfl
  | cons p t ih =>
    simp only [mapErase]
    split
    · next e => simp [mapGet, ← e, Ne.symm h, ih]
    · simp [mapGet, ih]

theorem mapGet_mapErase_same (d : α) (m : SMap α) (k : Nat) : mapGet d (mapErase m k) k = d := by
  induction m with
  | nil => rfl
  | cons p t ih =>
    simp only [mapErase]
    split
    · exact ih
    · next h => simp [mapGet, Ne.symm h, ih]

variable [DecidableEq α]

/-- Reading an index other than the one written. -/
theorem mapGet_mapSet_other (d : α) (m : SMap α) {k j : Nat} (x : α) (h : j ≠ k) : mapGet d (mapSet d m k x) j = mapGet d m j := by
  unfold mapSet
  split
  · exact mapGet_mapErase_other d m h
  · exact mapGet_mapPut_other d m x h

/-- Reading the index written. -/
theorem mapGet_mapSet_same (d : α) (m : SMap α) (k : Nat) (x : α) : mapGet d (mapSet d m k x) k = x := by
  unfold mapSet
  split
  · next e => rw [e]; exact mapGet_mapErase_same d m k
  · exact mapGet_mapPut_same d m k x

omit [DecidableEq α] in
theorem risingFrom_mapPut {b : Nat} {m : SMap α} (hm : risingFrom b m = true) {k : Nat} (hk : b ≤ k) (x : α) : risingFrom b (mapPut m k x) = true := by
  induction m generalizing b with
  | nil => simp [mapPut, risingFrom, hk]
  | cons p t ih =>
    simp [risingFrom] at hm
    simp only [mapPut]
    split
    · next e => simp [risingFrom, hk]; rw [e]; exact hm.2
    · split
      · next h => simp [risingFrom, hk]; exact ⟨by omega, hm.2⟩
      · next h h' => simp [risingFrom, hm.1]; exact ih hm.2 (by omega)

omit [DecidableEq α] in
theorem risingFrom_mapErase {b : Nat} {m : SMap α} (hm : risingFrom b m = true) (k : Nat) : risingFrom b (mapErase m k) = true := by
  induction m generalizing b with
  | nil => rfl
  | cons p t ih =>
    simp only [mapErase]
    simp [risingFrom] at hm
    split
    · exact ih (risingFrom_mono (by omega) hm.2)
    · simp [risingFrom, hm.1]; exact ih hm.2

omit [DecidableEq α] in
theorem mem_mapErase {m : SMap α} {k : Nat} {p : Nat × α} (h : p ∈ mapErase m k) : p ∈ m := by
  induction m with
  | nil => exact h
  | cons q t ih =>
    simp only [mapErase] at h
    split at h
    · exact List.mem_cons_of_mem _ (ih h)
    · rcases List.mem_cons.mp h with h | h
      · exact h ▸ List.mem_cons_self
      · exact List.mem_cons_of_mem _ (ih h)

omit [DecidableEq α] in
theorem mem_mapPut {m : SMap α} {k : Nat} {x : α} {p : Nat × α} (h : p ∈ mapPut m k x) : p = (k, x) ∨ p ∈ m := by
  induction m with
  | nil => simpa [mapPut] using h
  | cons q t ih =>
    simp only [mapPut] at h
    split at h
    · rcases List.mem_cons.mp h with h | h
      · exact .inl h
      · exact .inr (List.mem_cons_of_mem _ h)
    · split at h
      · rcases List.mem_cons.mp h with h | h
        · exact .inl h
        · exact .inr h
      · rcases List.mem_cons.mp h with h | h
        · exact .inr (h ▸ List.mem_cons_self)
        · exact (ih h).imp id (List.mem_cons_of_mem _)

/-- Every write keeps the canonical form of a table. -/
theorem mapWf_mapSet (d : α) {m : SMap α} (hm : mapWf d m = true) (k : Nat) (x : α) : mapWf d (mapSet d m k x) = true := by
  simp [mapWf] at hm ⊢
  unfold mapSet
  split
  · exact ⟨risingFrom_mapErase hm.1 k, fun a b h => hm.2 a b (mem_mapErase h)⟩
  · next hx =>
    refine ⟨risingFrom_mapPut hm.1 (Nat.zero_le k) x, fun a b h => ?_⟩
    rcases mem_mapPut h with h | h
    · simp at h; rw [h.2]; exact hx
    · exact hm.2 a b h

end Tables

/-- Writing a byte keeps the canonical form of a memory. -/
theorem memory_wf_mapSet {m : Memory} (hm : m.wf = true) (a : Nat) (b : BitVec 8) : Memory.wf (mapSet 0 m a b) = true := mapWf_mapSet 0 hm a b

/-- Writing a run of bytes keeps the canonical form of a memory. -/
theorem memory_wf_memWrite {m : Memory} (hm : m.wf = true) (a : Nat) (bs : List (BitVec 8)) : (memWrite m a bs).wf = true := by
  induction bs generalizing m a with
  | nil => exact hm
  | cons b t ih => exact ih (memory_wf_mapSet hm a b) (a + 1)

/-- A byte outside the run written reads as before. -/
theorem mapGet_memWrite_other (m : Memory) (a j : Nat) (bs : List (BitVec 8)) (h : j < a ∨ a + bs.length ≤ j) :
    mapGet 0 (memWrite m a bs) j = mapGet 0 m j := by
  induction bs generalizing m a with
  | nil => rfl
  | cons b t ih =>
    simp only [memWrite]
    simp at h
    rw [ih _ _ (by omega), mapGet_mapSet_other]
    omega

/-- A byte of the run written reads as written. -/
theorem mapGet_memWrite_in (m : Memory) (a i : Nat) (bs : List (BitVec 8)) (h : i < bs.length) :
    mapGet 0 (memWrite m a bs) (a + i) = bs[i] := by
  induction bs generalizing m a i with
  | nil => simp at h
  | cons b t ih =>
    simp only [memWrite]
    cases i with
    | zero => rw [mapGet_memWrite_other _ _ _ _ (by omega)]; simpa using mapGet_mapSet_same 0 m a b
    | succ n =>
      have := ih (mapSet 0 m a b) (a + 1) n (by simpa using h)
      simpa [Nat.add_assoc, Nat.add_comm 1 n] using this

/-- A run of bytes written is read back. -/
theorem memRead_memWrite (m : Memory) (a : Nat) (bs : List (BitVec 8)) : memRead (memWrite m a bs) a bs.length = bs := by
  suffices h : ∀ (ys : List (BitVec 8)) (c : Nat), (∀ i (hi : i < ys.length), mapGet 0 (memWrite m a bs) (c + i) = ys[i]) →
      memRead (memWrite m a bs) c ys.length = ys from h bs a (fun i hi => mapGet_memWrite_in m a i bs hi)
  intro ys
  induction ys with
  | nil => intro c _; rfl
  | cons y t ih =>
    intro c hc
    simp only [List.length_cons, memRead]
    have h0 := hc 0 (by simp)
    simp only [Nat.add_zero, List.getElem_cons_zero] at h0
    have h1 := ih (c + 1) (fun i hi => by
      have := hc (i + 1) (by simpa using hi)
      simpa [Nat.add_assoc, Nat.add_comm 1 i] using this)
    rw [h0, h1]

end Sys2Proof.Machine
end

