-- ==== Sys2Proof/Laws/State.lean ====
section
/-! SUPPORT. Laws/State.lean: what each update of the state leaves unchanged and what it writes, field by field, so that no proof unfolds a record update. -/

namespace Sys2Proof.Machine

/-- `setFab` changes `fab` alone. -/
@[simp] theorem setFab_frame (x : Fabric) (s : State) :
    (setFab x s).pending = s.pending ∧ (setFab x s).cyc = s.cyc ∧ (setFab x s).out = s.out ∧ (setFab x s).draws = s.draws ∧ (setFab x s).counters = s.counters ∧
    (setFab x s).raised = s.raised ∧ (setFab x s).events = s.events ∧ (setFab x s).faults = s.faults ∧ (setFab x s).yel = s.yel ∧ (setFab x s).ports = s.ports ∧
    (setFab x s).sch = s.sch ∧ (setFab x s).pat = s.pat ∧ (setFab x s).seam = s.seam ∧ (setFab x s).bcn = s.bcn ∧ (setFab x s).stb = s.stb ∧ (setFab x s).edge = s.edge ∧
    (setFab x s).sel = s.sel ∧ (setFab x s).bod = s.bod ∧ (setFab x s).thm = s.thm ∧ (setFab x s).plk = s.plk ∧ (setFab x s).pwr = s.pwr ∧ (setFab x s).lamp = s.lamp ∧
    (setFab x s).kpr = s.kpr ∧ (setFab x s).dbg = s.dbg ∧ (setFab x s).twin = s.twin ∧ (setFab x s).boot = s.boot := by
  exact ⟨rfl, rfl, rfl, rfl, rfl, rfl, rfl, rfl, rfl, rfl, rfl, rfl, rfl, rfl, rfl, rfl, rfl, rfl, rfl, rfl, rfl, rfl, rfl, rfl, rfl, rfl⟩

@[simp] theorem setFab_fab (x : Fabric) (s : State) : (setFab x s).fab = x := rfl

/-- `setYel` changes `yel` alone. -/
@[simp] theorem setYel_frame (x : Yelom) (s : State) :
    (setYel x s).pending = s.pending ∧ (setYel x s).cyc = s.cyc ∧ (setYel x s).out = s.out ∧ (setYel x s).draws = s.draws ∧ (setYel x s).counters = s.counters ∧
    (setYel x s).raised = s.raised ∧ (setYel x s).events = s.events ∧ (setYel x s).faults = s.faults ∧ (setYel x s).ports = s.ports ∧ (setYel x s).fab = s.fab ∧
    (setYel x s).sch = s.sch ∧ (setYel x s).pat = s.pat ∧ (setYel x s).seam = s.seam ∧ (setYel x s).bcn = s.bcn ∧ (setYel x s).stb = s.stb ∧ (setYel x s).edge = s.edge ∧
    (setYel x s).sel = s.sel ∧ (setYel x s).bod = s.bod ∧ (setYel x s).thm = s.thm ∧ (setYel x s).plk = s.plk ∧ (setYel x s).pwr = s.pwr ∧ (setYel x s).lamp = s.lamp ∧
    (setYel x s).kpr = s.kpr ∧ (setYel x s).dbg = s.dbg ∧ (setYel x s).twin = s.twin ∧ (setYel x s).boot = s.boot := by
  exact ⟨rfl, rfl, rfl, rfl, rfl, rfl, rfl, rfl, rfl, rfl, rfl, rfl, rfl, rfl, rfl, rfl, rfl, rfl, rfl, rfl, rfl, rfl, rfl, rfl, rfl, rfl⟩

@[simp] theorem setYel_yel (x : Yelom) (s : State) : (setYel x s).yel = x := rfl

/-- `setPat` changes `pat` alone. -/
@[simp] theorem setPat_frame (x : Pattern) (s : State) :
    (setPat x s).pending = s.pending ∧ (setPat x s).cyc = s.cyc ∧ (setPat x s).out = s.out ∧ (setPat x s).draws = s.draws ∧ (setPat x s).counters = s.counters ∧
    (setPat x s).raised = s.raised ∧ (setPat x s).events = s.events ∧ (setPat x s).faults = s.faults ∧ (setPat x s).yel = s.yel ∧ (setPat x s).ports = s.ports ∧
    (setPat x s).fab = s.fab ∧ (setPat x s).sch = s.sch ∧ (setPat x s).seam = s.seam ∧ (setPat x s).bcn = s.bcn ∧ (setPat x s).stb = s.stb ∧ (setPat x s).edge = s.edge ∧
    (setPat x s).sel = s.sel ∧ (setPat x s).bod = s.bod ∧ (setPat x s).thm = s.thm ∧ (setPat x s).plk = s.plk ∧ (setPat x s).pwr = s.pwr ∧ (setPat x s).lamp = s.lamp ∧
    (setPat x s).kpr = s.kpr ∧ (setPat x s).dbg = s.dbg ∧ (setPat x s).twin = s.twin ∧ (setPat x s).boot = s.boot := by
  exact ⟨rfl, rfl, rfl, rfl, rfl, rfl, rfl, rfl, rfl, rfl, rfl, rfl, rfl, rfl, rfl, rfl, rfl, rfl, rfl, rfl, rfl, rfl, rfl, rfl, rfl, rfl⟩

@[simp] theorem setPat_pat (x : Pattern) (s : State) : (setPat x s).pat = x := rfl

/-- `setBcn` changes `bcn` alone. -/
@[simp] theorem setBcn_frame (x : Beacon) (s : State) :
    (setBcn x s).pending = s.pending ∧ (setBcn x s).cyc = s.cyc ∧ (setBcn x s).out = s.out ∧ (setBcn x s).draws = s.draws ∧ (setBcn x s).counters = s.counters ∧
    (setBcn x s).raised = s.raised ∧ (setBcn x s).events = s.events ∧ (setBcn x s).faults = s.faults ∧ (setBcn x s).yel = s.yel ∧ (setBcn x s).ports = s.ports ∧
    (setBcn x s).fab = s.fab ∧ (setBcn x s).sch = s.sch ∧ (setBcn x s).pat = s.pat ∧ (setBcn x s).seam = s.seam ∧ (setBcn x s).stb = s.stb ∧ (setBcn x s).edge = s.edge ∧
    (setBcn x s).sel = s.sel ∧ (setBcn x s).bod = s.bod ∧ (setBcn x s).thm = s.thm ∧ (setBcn x s).plk = s.plk ∧ (setBcn x s).pwr = s.pwr ∧ (setBcn x s).lamp = s.lamp ∧
    (setBcn x s).kpr = s.kpr ∧ (setBcn x s).dbg = s.dbg ∧ (setBcn x s).twin = s.twin ∧ (setBcn x s).boot = s.boot := by
  exact ⟨rfl, rfl, rfl, rfl, rfl, rfl, rfl, rfl, rfl, rfl, rfl, rfl, rfl, rfl, rfl, rfl, rfl, rfl, rfl, rfl, rfl, rfl, rfl, rfl, rfl, rfl⟩

@[simp] theorem setBcn_bcn (x : Beacon) (s : State) : (setBcn x s).bcn = x := rfl

/-- `setPlk` changes `plk` alone. -/
@[simp] theorem setPlk_frame (x : Placket) (s : State) :
    (setPlk x s).pending = s.pending ∧ (setPlk x s).cyc = s.cyc ∧ (setPlk x s).out = s.out ∧ (setPlk x s).draws = s.draws ∧ (setPlk x s).counters = s.counters ∧
    (setPlk x s).raised = s.raised ∧ (setPlk x s).events = s.events ∧ (setPlk x s).faults = s.faults ∧ (setPlk x s).yel = s.yel ∧ (setPlk x s).ports = s.ports ∧
    (setPlk x s).fab = s.fab ∧ (setPlk x s).sch = s.sch ∧ (setPlk x s).pat = s.pat ∧ (setPlk x s).seam = s.seam ∧ (setPlk x s).bcn = s.bcn ∧ (setPlk x s).stb = s.stb ∧
    (setPlk x s).edge = s.edge ∧ (setPlk x s).sel = s.sel ∧ (setPlk x s).bod = s.bod ∧ (setPlk x s).thm = s.thm ∧ (setPlk x s).pwr = s.pwr ∧ (setPlk x s).lamp = s.lamp ∧
    (setPlk x s).kpr = s.kpr ∧ (setPlk x s).dbg = s.dbg ∧ (setPlk x s).twin = s.twin ∧ (setPlk x s).boot = s.boot := by
  exact ⟨rfl, rfl, rfl, rfl, rfl, rfl, rfl, rfl, rfl, rfl, rfl, rfl, rfl, rfl, rfl, rfl, rfl, rfl, rfl, rfl, rfl, rfl, rfl, rfl, rfl, rfl⟩

@[simp] theorem setPlk_plk (x : Placket) (s : State) : (setPlk x s).plk = x := rfl

/-- `setPwr` changes `pwr` alone. -/
@[simp] theorem setPwr_frame (x : Power) (s : State) :
    (setPwr x s).pending = s.pending ∧ (setPwr x s).cyc = s.cyc ∧ (setPwr x s).out = s.out ∧ (setPwr x s).draws = s.draws ∧ (setPwr x s).counters = s.counters ∧
    (setPwr x s).raised = s.raised ∧ (setPwr x s).events = s.events ∧ (setPwr x s).faults = s.faults ∧ (setPwr x s).yel = s.yel ∧ (setPwr x s).ports = s.ports ∧
    (setPwr x s).fab = s.fab ∧ (setPwr x s).sch = s.sch ∧ (setPwr x s).pat = s.pat ∧ (setPwr x s).seam = s.seam ∧ (setPwr x s).bcn = s.bcn ∧ (setPwr x s).stb = s.stb ∧
    (setPwr x s).edge = s.edge ∧ (setPwr x s).sel = s.sel ∧ (setPwr x s).bod = s.bod ∧ (setPwr x s).thm = s.thm ∧ (setPwr x s).plk = s.plk ∧ (setPwr x s).lamp = s.lamp ∧
    (setPwr x s).kpr = s.kpr ∧ (setPwr x s).dbg = s.dbg ∧ (setPwr x s).twin = s.twin ∧ (setPwr x s).boot = s.boot := by
  exact ⟨rfl, rfl, rfl, rfl, rfl, rfl, rfl, rfl, rfl, rfl, rfl, rfl, rfl, rfl, rfl, rfl, rfl, rfl, rfl, rfl, rfl, rfl, rfl, rfl, rfl, rfl⟩

@[simp] theorem setPwr_pwr (x : Power) (s : State) : (setPwr x s).pwr = x := rfl

/-- `setLamp` changes `lamp` alone. -/
@[simp] theorem setLamp_frame (x : Lamp) (s : State) :
    (setLamp x s).pending = s.pending ∧ (setLamp x s).cyc = s.cyc ∧ (setLamp x s).out = s.out ∧ (setLamp x s).draws = s.draws ∧ (setLamp x s).counters = s.counters ∧
    (setLamp x s).raised = s.raised ∧ (setLamp x s).events = s.events ∧ (setLamp x s).faults = s.faults ∧ (setLamp x s).yel = s.yel ∧ (setLamp x s).ports = s.ports ∧
    (setLamp x s).fab = s.fab ∧ (setLamp x s).sch = s.sch ∧ (setLamp x s).pat = s.pat ∧ (setLamp x s).seam = s.seam ∧ (setLamp x s).bcn = s.bcn ∧ (setLamp x s).stb = s.stb ∧
    (setLamp x s).edge = s.edge ∧ (setLamp x s).sel = s.sel ∧ (setLamp x s).bod = s.bod ∧ (setLamp x s).thm = s.thm ∧ (setLamp x s).plk = s.plk ∧ (setLamp x s).pwr = s.pwr ∧
    (setLamp x s).kpr = s.kpr ∧ (setLamp x s).dbg = s.dbg ∧ (setLamp x s).twin = s.twin ∧ (setLamp x s).boot = s.boot := by
  exact ⟨rfl, rfl, rfl, rfl, rfl, rfl, rfl, rfl, rfl, rfl, rfl, rfl, rfl, rfl, rfl, rfl, rfl, rfl, rfl, rfl, rfl, rfl, rfl, rfl, rfl, rfl⟩

@[simp] theorem setLamp_lamp (x : Lamp) (s : State) : (setLamp x s).lamp = x := rfl

/-- `setKpr` changes `kpr` alone. -/
@[simp] theorem setKpr_frame (x : Keeper) (s : State) :
    (setKpr x s).pending = s.pending ∧ (setKpr x s).cyc = s.cyc ∧ (setKpr x s).out = s.out ∧ (setKpr x s).draws = s.draws ∧ (setKpr x s).counters = s.counters ∧
    (setKpr x s).raised = s.raised ∧ (setKpr x s).events = s.events ∧ (setKpr x s).faults = s.faults ∧ (setKpr x s).yel = s.yel ∧ (setKpr x s).ports = s.ports ∧
    (setKpr x s).fab = s.fab ∧ (setKpr x s).sch = s.sch ∧ (setKpr x s).pat = s.pat ∧ (setKpr x s).seam = s.seam ∧ (setKpr x s).bcn = s.bcn ∧ (setKpr x s).stb = s.stb ∧
    (setKpr x s).edge = s.edge ∧ (setKpr x s).sel = s.sel ∧ (setKpr x s).bod = s.bod ∧ (setKpr x s).thm = s.thm ∧ (setKpr x s).plk = s.plk ∧ (setKpr x s).pwr = s.pwr ∧
    (setKpr x s).lamp = s.lamp ∧ (setKpr x s).dbg = s.dbg ∧ (setKpr x s).twin = s.twin ∧ (setKpr x s).boot = s.boot := by
  exact ⟨rfl, rfl, rfl, rfl, rfl, rfl, rfl, rfl, rfl, rfl, rfl, rfl, rfl, rfl, rfl, rfl, rfl, rfl, rfl, rfl, rfl, rfl, rfl, rfl, rfl, rfl⟩

@[simp] theorem setKpr_kpr (x : Keeper) (s : State) : (setKpr x s).kpr = x := rfl

/-- `setTwin` changes `twin` alone. -/
@[simp] theorem setTwin_frame (x : Twin) (s : State) :
    (setTwin x s).pending = s.pending ∧ (setTwin x s).cyc = s.cyc ∧ (setTwin x s).out = s.out ∧ (setTwin x s).draws = s.draws ∧ (setTwin x s).counters = s.counters ∧
    (setTwin x s).raised = s.raised ∧ (setTwin x s).events = s.events ∧ (setTwin x s).faults = s.faults ∧ (setTwin x s).yel = s.yel ∧ (setTwin x s).ports = s.ports ∧
    (setTwin x s).fab = s.fab ∧ (setTwin x s).sch = s.sch ∧ (setTwin x s).pat = s.pat ∧ (setTwin x s).seam = s.seam ∧ (setTwin x s).bcn = s.bcn ∧ (setTwin x s).stb = s.stb ∧
    (setTwin x s).edge = s.edge ∧ (setTwin x s).sel = s.sel ∧ (setTwin x s).bod = s.bod ∧ (setTwin x s).thm = s.thm ∧ (setTwin x s).plk = s.plk ∧ (setTwin x s).pwr = s.pwr ∧
    (setTwin x s).lamp = s.lamp ∧ (setTwin x s).kpr = s.kpr ∧ (setTwin x s).dbg = s.dbg ∧ (setTwin x s).boot = s.boot := by
  exact ⟨rfl, rfl, rfl, rfl, rfl, rfl, rfl, rfl, rfl, rfl, rfl, rfl, rfl, rfl, rfl, rfl, rfl, rfl, rfl, rfl, rfl, rfl, rfl, rfl, rfl, rfl⟩

@[simp] theorem setTwin_twin (x : Twin) (s : State) : (setTwin x s).twin = x := rfl

/-- `setBoot` changes `boot` alone. -/
@[simp] theorem setBoot_frame (x : Boot) (s : State) :
    (setBoot x s).pending = s.pending ∧ (setBoot x s).cyc = s.cyc ∧ (setBoot x s).out = s.out ∧ (setBoot x s).draws = s.draws ∧ (setBoot x s).counters = s.counters ∧
    (setBoot x s).raised = s.raised ∧ (setBoot x s).events = s.events ∧ (setBoot x s).faults = s.faults ∧ (setBoot x s).yel = s.yel ∧ (setBoot x s).ports = s.ports ∧
    (setBoot x s).fab = s.fab ∧ (setBoot x s).sch = s.sch ∧ (setBoot x s).pat = s.pat ∧ (setBoot x s).seam = s.seam ∧ (setBoot x s).bcn = s.bcn ∧ (setBoot x s).stb = s.stb ∧
    (setBoot x s).edge = s.edge ∧ (setBoot x s).sel = s.sel ∧ (setBoot x s).bod = s.bod ∧ (setBoot x s).thm = s.thm ∧ (setBoot x s).plk = s.plk ∧ (setBoot x s).pwr = s.pwr ∧
    (setBoot x s).lamp = s.lamp ∧ (setBoot x s).kpr = s.kpr ∧ (setBoot x s).dbg = s.dbg ∧ (setBoot x s).twin = s.twin := by
  exact ⟨rfl, rfl, rfl, rfl, rfl, rfl, rfl, rfl, rfl, rfl, rfl, rfl, rfl, rfl, rfl, rfl, rfl, rfl, rfl, rfl, rfl, rfl, rfl, rfl, rfl, rfl⟩

@[simp] theorem setBoot_boot (x : Boot) (s : State) : (setBoot x s).boot = x := rfl

/-- `bumpBy` changes `counters` alone. -/
@[simp] theorem bumpBy_frame (n : Nat) (c : Ctr) (i : Nat) (s : State) :
    (bumpBy n c i s).pending = s.pending ∧ (bumpBy n c i s).cyc = s.cyc ∧ (bumpBy n c i s).out = s.out ∧ (bumpBy n c i s).draws = s.draws ∧ (bumpBy n c i s).raised = s.raised ∧
    (bumpBy n c i s).events = s.events ∧ (bumpBy n c i s).faults = s.faults ∧ (bumpBy n c i s).yel = s.yel ∧ (bumpBy n c i s).ports = s.ports ∧ (bumpBy n c i s).fab = s.fab ∧
    (bumpBy n c i s).sch = s.sch ∧ (bumpBy n c i s).pat = s.pat ∧ (bumpBy n c i s).seam = s.seam ∧ (bumpBy n c i s).bcn = s.bcn ∧ (bumpBy n c i s).stb = s.stb ∧
    (bumpBy n c i s).edge = s.edge ∧ (bumpBy n c i s).sel = s.sel ∧ (bumpBy n c i s).bod = s.bod ∧ (bumpBy n c i s).thm = s.thm ∧ (bumpBy n c i s).plk = s.plk ∧
    (bumpBy n c i s).pwr = s.pwr ∧ (bumpBy n c i s).lamp = s.lamp ∧ (bumpBy n c i s).kpr = s.kpr ∧ (bumpBy n c i s).dbg = s.dbg ∧ (bumpBy n c i s).twin = s.twin ∧
    (bumpBy n c i s).boot = s.boot := by
  exact ⟨rfl, rfl, rfl, rfl, rfl, rfl, rfl, rfl, rfl, rfl, rfl, rfl, rfl, rfl, rfl, rfl, rfl, rfl, rfl, rfl, rfl, rfl, rfl, rfl, rfl, rfl⟩

/-- `bump` changes `counters` alone. -/
@[simp] theorem bump_frame (c : Ctr) (i : Nat) (s : State) :
    (bump c i s).pending = s.pending ∧ (bump c i s).cyc = s.cyc ∧ (bump c i s).out = s.out ∧ (bump c i s).draws = s.draws ∧ (bump c i s).raised = s.raised ∧
    (bump c i s).events = s.events ∧ (bump c i s).faults = s.faults ∧ (bump c i s).yel = s.yel ∧ (bump c i s).ports = s.ports ∧ (bump c i s).fab = s.fab ∧
    (bump c i s).sch = s.sch ∧ (bump c i s).pat = s.pat ∧ (bump c i s).seam = s.seam ∧ (bump c i s).bcn = s.bcn ∧ (bump c i s).stb = s.stb ∧ (bump c i s).edge = s.edge ∧
    (bump c i s).sel = s.sel ∧ (bump c i s).bod = s.bod ∧ (bump c i s).thm = s.thm ∧ (bump c i s).plk = s.plk ∧ (bump c i s).pwr = s.pwr ∧ (bump c i s).lamp = s.lamp ∧
    (bump c i s).kpr = s.kpr ∧ (bump c i s).dbg = s.dbg ∧ (bump c i s).twin = s.twin ∧ (bump c i s).boot = s.boot := by
  exact ⟨rfl, rfl, rfl, rfl, rfl, rfl, rfl, rfl, rfl, rfl, rfl, rfl, rfl, rfl, rfl, rfl, rfl, rfl, rfl, rfl, rfl, rfl, rfl, rfl, rfl, rfl⟩

/-- `clearCount` changes `counters` alone. -/
@[simp] theorem clearCount_frame (c : Ctr) (i : Nat) (s : State) :
    (clearCount c i s).pending = s.pending ∧ (clearCount c i s).cyc = s.cyc ∧ (clearCount c i s).out = s.out ∧ (clearCount c i s).draws = s.draws ∧
    (clearCount c i s).raised = s.raised ∧ (clearCount c i s).events = s.events ∧ (clearCount c i s).faults = s.faults ∧ (clearCount c i s).yel = s.yel ∧
    (clearCount c i s).ports = s.ports ∧ (clearCount c i s).fab = s.fab ∧ (clearCount c i s).sch = s.sch ∧ (clearCount c i s).pat = s.pat ∧ (clearCount c i s).seam = s.seam ∧
    (clearCount c i s).bcn = s.bcn ∧ (clearCount c i s).stb = s.stb ∧ (clearCount c i s).edge = s.edge ∧ (clearCount c i s).sel = s.sel ∧ (clearCount c i s).bod = s.bod ∧
    (clearCount c i s).thm = s.thm ∧ (clearCount c i s).plk = s.plk ∧ (clearCount c i s).pwr = s.pwr ∧ (clearCount c i s).lamp = s.lamp ∧ (clearCount c i s).kpr = s.kpr ∧
    (clearCount c i s).dbg = s.dbg ∧ (clearCount c i s).twin = s.twin ∧ (clearCount c i s).boot = s.boot := by
  exact ⟨rfl, rfl, rfl, rfl, rfl, rfl, rfl, rfl, rfl, rfl, rfl, rfl, rfl, rfl, rfl, rfl, rfl, rfl, rfl, rfl, rfl, rfl, rfl, rfl, rfl, rfl⟩

/-- `emit` changes `out` alone. -/
@[simp] theorem emit_frame (e : Emission) (s : State) :
    (emit e s).pending = s.pending ∧ (emit e s).cyc = s.cyc ∧ (emit e s).draws = s.draws ∧ (emit e s).counters = s.counters ∧ (emit e s).raised = s.raised ∧
    (emit e s).events = s.events ∧ (emit e s).faults = s.faults ∧ (emit e s).yel = s.yel ∧ (emit e s).ports = s.ports ∧ (emit e s).fab = s.fab ∧ (emit e s).sch = s.sch ∧
    (emit e s).pat = s.pat ∧ (emit e s).seam = s.seam ∧ (emit e s).bcn = s.bcn ∧ (emit e s).stb = s.stb ∧ (emit e s).edge = s.edge ∧ (emit e s).sel = s.sel ∧
    (emit e s).bod = s.bod ∧ (emit e s).thm = s.thm ∧ (emit e s).plk = s.plk ∧ (emit e s).pwr = s.pwr ∧ (emit e s).lamp = s.lamp ∧ (emit e s).kpr = s.kpr ∧
    (emit e s).dbg = s.dbg ∧ (emit e s).twin = s.twin ∧ (emit e s).boot = s.boot := by
  exact ⟨rfl, rfl, rfl, rfl, rfl, rfl, rfl, rfl, rfl, rfl, rfl, rfl, rfl, rfl, rfl, rfl, rfl, rfl, rfl, rfl, rfl, rfl, rfl, rfl, rfl, rfl⟩

@[simp] theorem emit_out (e : Emission) (s : State) : (emit e s).out = s.out ++ [e] := rfl

/-- `raiseEv` changes `raised` alone. -/
@[simp] theorem raiseEv_frame (e : Ev) (i : Nat) (d : List Byte) (s : State) :
    (raiseEv e i d s).pending = s.pending ∧ (raiseEv e i d s).cyc = s.cyc ∧ (raiseEv e i d s).out = s.out ∧ (raiseEv e i d s).draws = s.draws ∧
    (raiseEv e i d s).counters = s.counters ∧ (raiseEv e i d s).events = s.events ∧ (raiseEv e i d s).faults = s.faults ∧ (raiseEv e i d s).yel = s.yel ∧
    (raiseEv e i d s).ports = s.ports ∧ (raiseEv e i d s).fab = s.fab ∧ (raiseEv e i d s).sch = s.sch ∧ (raiseEv e i d s).pat = s.pat ∧ (raiseEv e i d s).seam = s.seam ∧
    (raiseEv e i d s).bcn = s.bcn ∧ (raiseEv e i d s).stb = s.stb ∧ (raiseEv e i d s).edge = s.edge ∧ (raiseEv e i d s).sel = s.sel ∧ (raiseEv e i d s).bod = s.bod ∧
    (raiseEv e i d s).thm = s.thm ∧ (raiseEv e i d s).plk = s.plk ∧ (raiseEv e i d s).pwr = s.pwr ∧ (raiseEv e i d s).lamp = s.lamp ∧ (raiseEv e i d s).kpr = s.kpr ∧
    (raiseEv e i d s).dbg = s.dbg ∧ (raiseEv e i d s).twin = s.twin ∧ (raiseEv e i d s).boot = s.boot := by
  exact ⟨rfl, rfl, rfl, rfl, rfl, rfl, rfl, rfl, rfl, rfl, rfl, rfl, rfl, rfl, rfl, rfl, rfl, rfl, rfl, rfl, rfl, rfl, rfl, rfl, rfl, rfl⟩

@[simp] theorem raiseEv_raised (e : Ev) (i : Nat) (d : List Byte) (s : State) : (raiseEv e i d s).raised = s.raised ++ [(e, i, d)] := rfl

/-- `detectFault` changes `faults` alone. -/
@[simp] theorem detectFault_frame (m i : Nat) (s : State) :
    (detectFault m i s).pending = s.pending ∧ (detectFault m i s).cyc = s.cyc ∧ (detectFault m i s).out = s.out ∧ (detectFault m i s).draws = s.draws ∧
    (detectFault m i s).counters = s.counters ∧ (detectFault m i s).raised = s.raised ∧ (detectFault m i s).events = s.events ∧ (detectFault m i s).yel = s.yel ∧
    (detectFault m i s).ports = s.ports ∧ (detectFault m i s).fab = s.fab ∧ (detectFault m i s).sch = s.sch ∧ (detectFault m i s).pat = s.pat ∧ (detectFault m i s).seam = s.seam ∧
    (detectFault m i s).bcn = s.bcn ∧ (detectFault m i s).stb = s.stb ∧ (detectFault m i s).edge = s.edge ∧ (detectFault m i s).sel = s.sel ∧ (detectFault m i s).bod = s.bod ∧
    (detectFault m i s).thm = s.thm ∧ (detectFault m i s).plk = s.plk ∧ (detectFault m i s).pwr = s.pwr ∧ (detectFault m i s).lamp = s.lamp ∧ (detectFault m i s).kpr = s.kpr ∧
    (detectFault m i s).dbg = s.dbg ∧ (detectFault m i s).twin = s.twin ∧ (detectFault m i s).boot = s.boot := by
  exact ⟨rfl, rfl, rfl, rfl, rfl, rfl, rfl, rfl, rfl, rfl, rfl, rfl, rfl, rfl, rfl, rfl, rfl, rfl, rfl, rfl, rfl, rfl, rfl, rfl, rfl, rfl⟩

@[simp] theorem detectFault_faults (m i : Nat) (s : State) : (detectFault m i s).faults = s.faults ++ [(m, i)] := rfl

/-- `setPort` changes `ports` alone. -/
@[simp] theorem setPort_frame (p : Nat) (v : PortSt) (s : State) :
    (setPort p v s).pending = s.pending ∧ (setPort p v s).cyc = s.cyc ∧ (setPort p v s).out = s.out ∧ (setPort p v s).draws = s.draws ∧ (setPort p v s).counters = s.counters ∧
    (setPort p v s).raised = s.raised ∧ (setPort p v s).events = s.events ∧ (setPort p v s).faults = s.faults ∧ (setPort p v s).yel = s.yel ∧ (setPort p v s).fab = s.fab ∧
    (setPort p v s).sch = s.sch ∧ (setPort p v s).pat = s.pat ∧ (setPort p v s).seam = s.seam ∧ (setPort p v s).bcn = s.bcn ∧ (setPort p v s).stb = s.stb ∧
    (setPort p v s).edge = s.edge ∧ (setPort p v s).sel = s.sel ∧ (setPort p v s).bod = s.bod ∧ (setPort p v s).thm = s.thm ∧ (setPort p v s).plk = s.plk ∧
    (setPort p v s).pwr = s.pwr ∧ (setPort p v s).lamp = s.lamp ∧ (setPort p v s).kpr = s.kpr ∧ (setPort p v s).dbg = s.dbg ∧ (setPort p v s).twin = s.twin ∧
    (setPort p v s).boot = s.boot := by
  exact ⟨rfl, rfl, rfl, rfl, rfl, rfl, rfl, rfl, rfl, rfl, rfl, rfl, rfl, rfl, rfl, rfl, rfl, rfl, rfl, rfl, rfl, rfl, rfl, rfl, rfl, rfl⟩

@[simp] theorem setPort_ports (p : Nat) (v : PortSt) (s : State) : (setPort p v s).ports = mapSet (portReset p) s.ports p v := rfl

/-- `setCtx` changes `bod` alone. -/
@[simp] theorem setCtx_frame (c : Nat) (v : Ctx) (s : State) :
    (setCtx c v s).pending = s.pending ∧ (setCtx c v s).cyc = s.cyc ∧ (setCtx c v s).out = s.out ∧ (setCtx c v s).draws = s.draws ∧ (setCtx c v s).counters = s.counters ∧
    (setCtx c v s).raised = s.raised ∧ (setCtx c v s).events = s.events ∧ (setCtx c v s).faults = s.faults ∧ (setCtx c v s).yel = s.yel ∧ (setCtx c v s).ports = s.ports ∧
    (setCtx c v s).fab = s.fab ∧ (setCtx c v s).sch = s.sch ∧ (setCtx c v s).pat = s.pat ∧ (setCtx c v s).seam = s.seam ∧ (setCtx c v s).bcn = s.bcn ∧ (setCtx c v s).stb = s.stb ∧
    (setCtx c v s).edge = s.edge ∧ (setCtx c v s).sel = s.sel ∧ (setCtx c v s).thm = s.thm ∧ (setCtx c v s).plk = s.plk ∧ (setCtx c v s).pwr = s.pwr ∧
    (setCtx c v s).lamp = s.lamp ∧ (setCtx c v s).kpr = s.kpr ∧ (setCtx c v s).dbg = s.dbg ∧ (setCtx c v s).twin = s.twin ∧ (setCtx c v s).boot = s.boot := by
  exact ⟨rfl, rfl, rfl, rfl, rfl, rfl, rfl, rfl, rfl, rfl, rfl, rfl, rfl, rfl, rfl, rfl, rfl, rfl, rfl, rfl, rfl, rfl, rfl, rfl, rfl, rfl⟩

/-- `setSa` changes `bod` alone. -/
@[simp] theorem setSa_frame (i : Nat) (v : BitVec 256) (s : State) :
    (setSa i v s).pending = s.pending ∧ (setSa i v s).cyc = s.cyc ∧ (setSa i v s).out = s.out ∧ (setSa i v s).draws = s.draws ∧ (setSa i v s).counters = s.counters ∧
    (setSa i v s).raised = s.raised ∧ (setSa i v s).events = s.events ∧ (setSa i v s).faults = s.faults ∧ (setSa i v s).yel = s.yel ∧ (setSa i v s).ports = s.ports ∧
    (setSa i v s).fab = s.fab ∧ (setSa i v s).sch = s.sch ∧ (setSa i v s).pat = s.pat ∧ (setSa i v s).seam = s.seam ∧ (setSa i v s).bcn = s.bcn ∧ (setSa i v s).stb = s.stb ∧
    (setSa i v s).edge = s.edge ∧ (setSa i v s).sel = s.sel ∧ (setSa i v s).thm = s.thm ∧ (setSa i v s).plk = s.plk ∧ (setSa i v s).pwr = s.pwr ∧ (setSa i v s).lamp = s.lamp ∧
    (setSa i v s).kpr = s.kpr ∧ (setSa i v s).dbg = s.dbg ∧ (setSa i v s).twin = s.twin ∧ (setSa i v s).boot = s.boot := by
  exact ⟨rfl, rfl, rfl, rfl, rfl, rfl, rfl, rfl, rfl, rfl, rfl, rfl, rfl, rfl, rfl, rfl, rfl, rfl, rfl, rfl, rfl, rfl, rfl, rfl, rfl, rfl⟩

/-- `setQueue` changes `fab` alone. -/
@[simp] theorem setQueue_frame (q : Nat) (l : List QEnt) (s : State) :
    (setQueue q l s).pending = s.pending ∧ (setQueue q l s).cyc = s.cyc ∧ (setQueue q l s).out = s.out ∧ (setQueue q l s).draws = s.draws ∧
    (setQueue q l s).counters = s.counters ∧ (setQueue q l s).raised = s.raised ∧ (setQueue q l s).events = s.events ∧ (setQueue q l s).faults = s.faults ∧
    (setQueue q l s).yel = s.yel ∧ (setQueue q l s).ports = s.ports ∧ (setQueue q l s).sch = s.sch ∧ (setQueue q l s).pat = s.pat ∧ (setQueue q l s).seam = s.seam ∧
    (setQueue q l s).bcn = s.bcn ∧ (setQueue q l s).stb = s.stb ∧ (setQueue q l s).edge = s.edge ∧ (setQueue q l s).sel = s.sel ∧ (setQueue q l s).bod = s.bod ∧
    (setQueue q l s).thm = s.thm ∧ (setQueue q l s).plk = s.plk ∧ (setQueue q l s).pwr = s.pwr ∧ (setQueue q l s).lamp = s.lamp ∧ (setQueue q l s).kpr = s.kpr ∧
    (setQueue q l s).dbg = s.dbg ∧ (setQueue q l s).twin = s.twin ∧ (setQueue q l s).boot = s.boot := by
  exact ⟨rfl, rfl, rfl, rfl, rfl, rfl, rfl, rfl, rfl, rfl, rfl, rfl, rfl, rfl, rfl, rfl, rfl, rfl, rfl, rfl, rfl, rfl, rfl, rfl, rfl, rfl⟩

/-- `setTx` changes `fab` alone. -/
@[simp] theorem setTx_frame (p : Nat) (t : Option Tx) (s : State) :
    (setTx p t s).pending = s.pending ∧ (setTx p t s).cyc = s.cyc ∧ (setTx p t s).out = s.out ∧ (setTx p t s).draws = s.draws ∧ (setTx p t s).counters = s.counters ∧
    (setTx p t s).raised = s.raised ∧ (setTx p t s).events = s.events ∧ (setTx p t s).faults = s.faults ∧ (setTx p t s).yel = s.yel ∧ (setTx p t s).ports = s.ports ∧
    (setTx p t s).sch = s.sch ∧ (setTx p t s).pat = s.pat ∧ (setTx p t s).seam = s.seam ∧ (setTx p t s).bcn = s.bcn ∧ (setTx p t s).stb = s.stb ∧ (setTx p t s).edge = s.edge ∧
    (setTx p t s).sel = s.sel ∧ (setTx p t s).bod = s.bod ∧ (setTx p t s).thm = s.thm ∧ (setTx p t s).plk = s.plk ∧ (setTx p t s).pwr = s.pwr ∧ (setTx p t s).lamp = s.lamp ∧
    (setTx p t s).kpr = s.kpr ∧ (setTx p t s).dbg = s.dbg ∧ (setTx p t s).twin = s.twin ∧ (setTx p t s).boot = s.boot := by
  exact ⟨rfl, rfl, rfl, rfl, rfl, rfl, rfl, rfl, rfl, rfl, rfl, rfl, rfl, rfl, rfl, rfl, rfl, rfl, rfl, rfl, rfl, rfl, rfl, rfl, rfl, rfl⟩

/-- `setPreempted` changes `fab` alone. -/
@[simp] theorem setPreempted_frame (p : Nat) (t : Option Tx) (s : State) :
    (setPreempted p t s).pending = s.pending ∧ (setPreempted p t s).cyc = s.cyc ∧ (setPreempted p t s).out = s.out ∧ (setPreempted p t s).draws = s.draws ∧
    (setPreempted p t s).counters = s.counters ∧ (setPreempted p t s).raised = s.raised ∧ (setPreempted p t s).events = s.events ∧ (setPreempted p t s).faults = s.faults ∧
    (setPreempted p t s).yel = s.yel ∧ (setPreempted p t s).ports = s.ports ∧ (setPreempted p t s).sch = s.sch ∧ (setPreempted p t s).pat = s.pat ∧
    (setPreempted p t s).seam = s.seam ∧ (setPreempted p t s).bcn = s.bcn ∧ (setPreempted p t s).stb = s.stb ∧ (setPreempted p t s).edge = s.edge ∧
    (setPreempted p t s).sel = s.sel ∧ (setPreempted p t s).bod = s.bod ∧ (setPreempted p t s).thm = s.thm ∧ (setPreempted p t s).plk = s.plk ∧ (setPreempted p t s).pwr = s.pwr ∧
    (setPreempted p t s).lamp = s.lamp ∧ (setPreempted p t s).kpr = s.kpr ∧ (setPreempted p t s).dbg = s.dbg ∧ (setPreempted p t s).twin = s.twin ∧
    (setPreempted p t s).boot = s.boot := by
  exact ⟨rfl, rfl, rfl, rfl, rfl, rfl, rfl, rfl, rfl, rfl, rfl, rfl, rfl, rfl, rfl, rfl, rfl, rfl, rfl, rfl, rfl, rfl, rfl, rfl, rfl, rfl⟩

/-- `setQuad` changes `fab` alone. -/
@[simp] theorem setQuad_frame (q : Nat) (x : QuadState) (s : State) :
    (setQuad q x s).pending = s.pending ∧ (setQuad q x s).cyc = s.cyc ∧ (setQuad q x s).out = s.out ∧ (setQuad q x s).draws = s.draws ∧ (setQuad q x s).counters = s.counters ∧
    (setQuad q x s).raised = s.raised ∧ (setQuad q x s).events = s.events ∧ (setQuad q x s).faults = s.faults ∧ (setQuad q x s).yel = s.yel ∧ (setQuad q x s).ports = s.ports ∧
    (setQuad q x s).sch = s.sch ∧ (setQuad q x s).pat = s.pat ∧ (setQuad q x s).seam = s.seam ∧ (setQuad q x s).bcn = s.bcn ∧ (setQuad q x s).stb = s.stb ∧
    (setQuad q x s).edge = s.edge ∧ (setQuad q x s).sel = s.sel ∧ (setQuad q x s).bod = s.bod ∧ (setQuad q x s).thm = s.thm ∧ (setQuad q x s).plk = s.plk ∧
    (setQuad q x s).pwr = s.pwr ∧ (setQuad q x s).lamp = s.lamp ∧ (setQuad q x s).kpr = s.kpr ∧ (setQuad q x s).dbg = s.dbg ∧ (setQuad q x s).twin = s.twin ∧
    (setQuad q x s).boot = s.boot := by
  exact ⟨rfl, rfl, rfl, rfl, rfl, rfl, rfl, rfl, rfl, rfl, rfl, rfl, rfl, rfl, rfl, rfl, rfl, rfl, rfl, rfl, rfl, rfl, rfl, rfl, rfl, rfl⟩

/-- `setBank` changes `boot` alone. -/
@[simp] theorem setBank_frame (b : Nat) (x : Bank) (s : State) :
    (setBank b x s).pending = s.pending ∧ (setBank b x s).cyc = s.cyc ∧ (setBank b x s).out = s.out ∧ (setBank b x s).draws = s.draws ∧ (setBank b x s).counters = s.counters ∧
    (setBank b x s).raised = s.raised ∧ (setBank b x s).events = s.events ∧ (setBank b x s).faults = s.faults ∧ (setBank b x s).yel = s.yel ∧ (setBank b x s).ports = s.ports ∧
    (setBank b x s).fab = s.fab ∧ (setBank b x s).sch = s.sch ∧ (setBank b x s).pat = s.pat ∧ (setBank b x s).seam = s.seam ∧ (setBank b x s).bcn = s.bcn ∧
    (setBank b x s).stb = s.stb ∧ (setBank b x s).edge = s.edge ∧ (setBank b x s).sel = s.sel ∧ (setBank b x s).bod = s.bod ∧ (setBank b x s).thm = s.thm ∧
    (setBank b x s).plk = s.plk ∧ (setBank b x s).pwr = s.pwr ∧ (setBank b x s).lamp = s.lamp ∧ (setBank b x s).kpr = s.kpr ∧ (setBank b x s).dbg = s.dbg ∧
    (setBank b x s).twin = s.twin := by
  exact ⟨rfl, rfl, rfl, rfl, rfl, rfl, rfl, rfl, rfl, rfl, rfl, rfl, rfl, rfl, rfl, rfl, rfl, rfl, rfl, rfl, rfl, rfl, rfl, rfl, rfl, rfl⟩

/-- `setCan` changes `edge` alone. -/
@[simp] theorem setCan_frame (ch : Nat) (c : CanChan) (s : State) :
    (setCan ch c s).pending = s.pending ∧ (setCan ch c s).cyc = s.cyc ∧ (setCan ch c s).out = s.out ∧ (setCan ch c s).draws = s.draws ∧ (setCan ch c s).counters = s.counters ∧
    (setCan ch c s).raised = s.raised ∧ (setCan ch c s).events = s.events ∧ (setCan ch c s).faults = s.faults ∧ (setCan ch c s).yel = s.yel ∧ (setCan ch c s).ports = s.ports ∧
    (setCan ch c s).fab = s.fab ∧ (setCan ch c s).sch = s.sch ∧ (setCan ch c s).pat = s.pat ∧ (setCan ch c s).seam = s.seam ∧ (setCan ch c s).bcn = s.bcn ∧
    (setCan ch c s).stb = s.stb ∧ (setCan ch c s).sel = s.sel ∧ (setCan ch c s).bod = s.bod ∧ (setCan ch c s).thm = s.thm ∧ (setCan ch c s).plk = s.plk ∧
    (setCan ch c s).pwr = s.pwr ∧ (setCan ch c s).lamp = s.lamp ∧ (setCan ch c s).kpr = s.kpr ∧ (setCan ch c s).dbg = s.dbg ∧ (setCan ch c s).twin = s.twin ∧
    (setCan ch c s).boot = s.boot := by
  exact ⟨rfl, rfl, rfl, rfl, rfl, rfl, rfl, rfl, rfl, rfl, rfl, rfl, rfl, rfl, rfl, rfl, rfl, rfl, rfl, rfl, rfl, rfl, rfl, rfl, rfl, rfl⟩

/-- `setLin` changes `edge` alone. -/
@[simp] theorem setLin_frame (ch : Nat) (c : LinChan) (s : State) :
    (setLin ch c s).pending = s.pending ∧ (setLin ch c s).cyc = s.cyc ∧ (setLin ch c s).out = s.out ∧ (setLin ch c s).draws = s.draws ∧ (setLin ch c s).counters = s.counters ∧
    (setLin ch c s).raised = s.raised ∧ (setLin ch c s).events = s.events ∧ (setLin ch c s).faults = s.faults ∧ (setLin ch c s).yel = s.yel ∧ (setLin ch c s).ports = s.ports ∧
    (setLin ch c s).fab = s.fab ∧ (setLin ch c s).sch = s.sch ∧ (setLin ch c s).pat = s.pat ∧ (setLin ch c s).seam = s.seam ∧ (setLin ch c s).bcn = s.bcn ∧
    (setLin ch c s).stb = s.stb ∧ (setLin ch c s).sel = s.sel ∧ (setLin ch c s).bod = s.bod ∧ (setLin ch c s).thm = s.thm ∧ (setLin ch c s).plk = s.plk ∧
    (setLin ch c s).pwr = s.pwr ∧ (setLin ch c s).lamp = s.lamp ∧ (setLin ch c s).kpr = s.kpr ∧ (setLin ch c s).dbg = s.dbg ∧ (setLin ch c s).twin = s.twin ∧
    (setLin ch c s).boot = s.boot := by
  exact ⟨rfl, rfl, rfl, rfl, rfl, rfl, rfl, rfl, rfl, rfl, rfl, rfl, rfl, rfl, rfl, rfl, rfl, rfl, rfl, rfl, rfl, rfl, rfl, rfl, rfl, rfl⟩

/-- `setTxq` changes `edge` alone. -/
@[simp] theorem setTxq_frame (ch : Nat) (q : List TxMsg) (s : State) :
    (setTxq ch q s).pending = s.pending ∧ (setTxq ch q s).cyc = s.cyc ∧ (setTxq ch q s).out = s.out ∧ (setTxq ch q s).draws = s.draws ∧ (setTxq ch q s).counters = s.counters ∧
    (setTxq ch q s).raised = s.raised ∧ (setTxq ch q s).events = s.events ∧ (setTxq ch q s).faults = s.faults ∧ (setTxq ch q s).yel = s.yel ∧ (setTxq ch q s).ports = s.ports ∧
    (setTxq ch q s).fab = s.fab ∧ (setTxq ch q s).sch = s.sch ∧ (setTxq ch q s).pat = s.pat ∧ (setTxq ch q s).seam = s.seam ∧ (setTxq ch q s).bcn = s.bcn ∧
    (setTxq ch q s).stb = s.stb ∧ (setTxq ch q s).sel = s.sel ∧ (setTxq ch q s).bod = s.bod ∧ (setTxq ch q s).thm = s.thm ∧ (setTxq ch q s).plk = s.plk ∧
    (setTxq ch q s).pwr = s.pwr ∧ (setTxq ch q s).lamp = s.lamp ∧ (setTxq ch q s).kpr = s.kpr ∧ (setTxq ch q s).dbg = s.dbg ∧ (setTxq ch q s).twin = s.twin ∧
    (setTxq ch q s).boot = s.boot := by
  exact ⟨rfl, rfl, rfl, rfl, rfl, rfl, rfl, rfl, rfl, rfl, rfl, rfl, rfl, rfl, rfl, rfl, rfl, rfl, rfl, rfl, rfl, rfl, rfl, rfl, rfl, rfl⟩

/-- `setWake` changes `edge` alone. -/
@[simp] theorem setWake_frame (ch : Nat) (w : WakeCfg) (s : State) :
    (setWake ch w s).pending = s.pending ∧ (setWake ch w s).cyc = s.cyc ∧ (setWake ch w s).out = s.out ∧ (setWake ch w s).draws = s.draws ∧
    (setWake ch w s).counters = s.counters ∧ (setWake ch w s).raised = s.raised ∧ (setWake ch w s).events = s.events ∧ (setWake ch w s).faults = s.faults ∧
    (setWake ch w s).yel = s.yel ∧ (setWake ch w s).ports = s.ports ∧ (setWake ch w s).fab = s.fab ∧ (setWake ch w s).sch = s.sch ∧ (setWake ch w s).pat = s.pat ∧
    (setWake ch w s).seam = s.seam ∧ (setWake ch w s).bcn = s.bcn ∧ (setWake ch w s).stb = s.stb ∧ (setWake ch w s).sel = s.sel ∧ (setWake ch w s).bod = s.bod ∧
    (setWake ch w s).thm = s.thm ∧ (setWake ch w s).plk = s.plk ∧ (setWake ch w s).pwr = s.pwr ∧ (setWake ch w s).lamp = s.lamp ∧ (setWake ch w s).kpr = s.kpr ∧
    (setWake ch w s).dbg = s.dbg ∧ (setWake ch w s).twin = s.twin ∧ (setWake ch w s).boot = s.boot := by
  exact ⟨rfl, rfl, rfl, rfl, rfl, rfl, rfl, rfl, rfl, rfl, rfl, rfl, rfl, rfl, rfl, rfl, rfl, rfl, rfl, rfl, rfl, rfl, rfl, rfl, rfl, rfl⟩

/-- `setNet` changes `pwr` alone. -/
@[simp] theorem setNet_frame (n : Nat) (x : Net) (s : State) :
    (setNet n x s).pending = s.pending ∧ (setNet n x s).cyc = s.cyc ∧ (setNet n x s).out = s.out ∧ (setNet n x s).draws = s.draws ∧ (setNet n x s).counters = s.counters ∧
    (setNet n x s).raised = s.raised ∧ (setNet n x s).events = s.events ∧ (setNet n x s).faults = s.faults ∧ (setNet n x s).yel = s.yel ∧ (setNet n x s).ports = s.ports ∧
    (setNet n x s).fab = s.fab ∧ (setNet n x s).sch = s.sch ∧ (setNet n x s).pat = s.pat ∧ (setNet n x s).seam = s.seam ∧ (setNet n x s).bcn = s.bcn ∧ (setNet n x s).stb = s.stb ∧
    (setNet n x s).edge = s.edge ∧ (setNet n x s).sel = s.sel ∧ (setNet n x s).bod = s.bod ∧ (setNet n x s).thm = s.thm ∧ (setNet n x s).plk = s.plk ∧
    (setNet n x s).lamp = s.lamp ∧ (setNet n x s).kpr = s.kpr ∧ (setNet n x s).dbg = s.dbg ∧ (setNet n x s).twin = s.twin ∧ (setNet n x s).boot = s.boot := by
  exact ⟨rfl, rfl, rfl, rfl, rfl, rfl, rfl, rfl, rfl, rfl, rfl, rfl, rfl, rfl, rfl, rfl, rfl, rfl, rfl, rfl, rfl, rfl, rfl, rfl, rfl, rfl⟩

/-- `setNmChan` changes `pwr` alone. -/
@[simp] theorem setNmChan_frame (ch : Nat) (x : NmChan) (s : State) :
    (setNmChan ch x s).pending = s.pending ∧ (setNmChan ch x s).cyc = s.cyc ∧ (setNmChan ch x s).out = s.out ∧ (setNmChan ch x s).draws = s.draws ∧
    (setNmChan ch x s).counters = s.counters ∧ (setNmChan ch x s).raised = s.raised ∧ (setNmChan ch x s).events = s.events ∧ (setNmChan ch x s).faults = s.faults ∧
    (setNmChan ch x s).yel = s.yel ∧ (setNmChan ch x s).ports = s.ports ∧ (setNmChan ch x s).fab = s.fab ∧ (setNmChan ch x s).sch = s.sch ∧ (setNmChan ch x s).pat = s.pat ∧
    (setNmChan ch x s).seam = s.seam ∧ (setNmChan ch x s).bcn = s.bcn ∧ (setNmChan ch x s).stb = s.stb ∧ (setNmChan ch x s).edge = s.edge ∧ (setNmChan ch x s).sel = s.sel ∧
    (setNmChan ch x s).bod = s.bod ∧ (setNmChan ch x s).thm = s.thm ∧ (setNmChan ch x s).plk = s.plk ∧ (setNmChan ch x s).lamp = s.lamp ∧ (setNmChan ch x s).kpr = s.kpr ∧
    (setNmChan ch x s).dbg = s.dbg ∧ (setNmChan ch x s).twin = s.twin ∧ (setNmChan ch x s).boot = s.boot := by
  exact ⟨rfl, rfl, rfl, rfl, rfl, rfl, rfl, rfl, rfl, rfl, rfl, rfl, rfl, rfl, rfl, rfl, rfl, rfl, rfl, rfl, rfl, rfl, rfl, rfl, rfl, rfl⟩

/-- `setLink` changes `sel` alone. -/
@[simp] theorem setLink_frame (l : Nat) (x : SelLinkSt) (s : State) :
    (setLink l x s).pending = s.pending ∧ (setLink l x s).cyc = s.cyc ∧ (setLink l x s).out = s.out ∧ (setLink l x s).draws = s.draws ∧ (setLink l x s).counters = s.counters ∧
    (setLink l x s).raised = s.raised ∧ (setLink l x s).events = s.events ∧ (setLink l x s).faults = s.faults ∧ (setLink l x s).yel = s.yel ∧ (setLink l x s).ports = s.ports ∧
    (setLink l x s).fab = s.fab ∧ (setLink l x s).sch = s.sch ∧ (setLink l x s).pat = s.pat ∧ (setLink l x s).seam = s.seam ∧ (setLink l x s).bcn = s.bcn ∧
    (setLink l x s).stb = s.stb ∧ (setLink l x s).edge = s.edge ∧ (setLink l x s).bod = s.bod ∧ (setLink l x s).thm = s.thm ∧ (setLink l x s).plk = s.plk ∧
    (setLink l x s).pwr = s.pwr ∧ (setLink l x s).lamp = s.lamp ∧ (setLink l x s).kpr = s.kpr ∧ (setLink l x s).dbg = s.dbg ∧ (setLink l x s).twin = s.twin ∧
    (setLink l x s).boot = s.boot := by
  exact ⟨rfl, rfl, rfl, rfl, rfl, rfl, rfl, rfl, rfl, rfl, rfl, rfl, rfl, rfl, rfl, rfl, rfl, rfl, rfl, rfl, rfl, rfl, rfl, rfl, rfl, rfl⟩

@[simp] theorem setLink_sel (l : Nat) (x : SelLinkSt) (s : State) : (setLink l x s).sel = mapSet linkReset s.sel l x := rfl

/-- `setPair` changes `plk` alone. -/
@[simp] theorem setPair_frame (c : Nat) (p : MbPair) (s : State) :
    (setPair c p s).pending = s.pending ∧ (setPair c p s).cyc = s.cyc ∧ (setPair c p s).out = s.out ∧ (setPair c p s).draws = s.draws ∧ (setPair c p s).counters = s.counters ∧
    (setPair c p s).raised = s.raised ∧ (setPair c p s).events = s.events ∧ (setPair c p s).faults = s.faults ∧ (setPair c p s).yel = s.yel ∧ (setPair c p s).ports = s.ports ∧
    (setPair c p s).fab = s.fab ∧ (setPair c p s).sch = s.sch ∧ (setPair c p s).pat = s.pat ∧ (setPair c p s).seam = s.seam ∧ (setPair c p s).bcn = s.bcn ∧
    (setPair c p s).stb = s.stb ∧ (setPair c p s).edge = s.edge ∧ (setPair c p s).sel = s.sel ∧ (setPair c p s).bod = s.bod ∧ (setPair c p s).thm = s.thm ∧
    (setPair c p s).pwr = s.pwr ∧ (setPair c p s).lamp = s.lamp ∧ (setPair c p s).kpr = s.kpr ∧ (setPair c p s).dbg = s.dbg ∧ (setPair c p s).twin = s.twin ∧
    (setPair c p s).boot = s.boot := by
  exact ⟨rfl, rfl, rfl, rfl, rfl, rfl, rfl, rfl, rfl, rfl, rfl, rfl, rfl, rfl, rfl, rfl, rfl, rfl, rfl, rfl, rfl, rfl, rfl, rfl, rfl, rfl⟩

/-- `setWindow` changes `plk` alone. -/
@[simp] theorem setWindow_frame (w : Nat) (x : Window) (s : State) :
    (setWindow w x s).pending = s.pending ∧ (setWindow w x s).cyc = s.cyc ∧ (setWindow w x s).out = s.out ∧ (setWindow w x s).draws = s.draws ∧
    (setWindow w x s).counters = s.counters ∧ (setWindow w x s).raised = s.raised ∧ (setWindow w x s).events = s.events ∧ (setWindow w x s).faults = s.faults ∧
    (setWindow w x s).yel = s.yel ∧ (setWindow w x s).ports = s.ports ∧ (setWindow w x s).fab = s.fab ∧ (setWindow w x s).sch = s.sch ∧ (setWindow w x s).pat = s.pat ∧
    (setWindow w x s).seam = s.seam ∧ (setWindow w x s).bcn = s.bcn ∧ (setWindow w x s).stb = s.stb ∧ (setWindow w x s).edge = s.edge ∧ (setWindow w x s).sel = s.sel ∧
    (setWindow w x s).bod = s.bod ∧ (setWindow w x s).thm = s.thm ∧ (setWindow w x s).pwr = s.pwr ∧ (setWindow w x s).lamp = s.lamp ∧ (setWindow w x s).kpr = s.kpr ∧
    (setWindow w x s).dbg = s.dbg ∧ (setWindow w x s).twin = s.twin ∧ (setWindow w x s).boot = s.boot := by
  exact ⟨rfl, rfl, rfl, rfl, rfl, rfl, rfl, rfl, rfl, rfl, rfl, rfl, rfl, rfl, rfl, rfl, rfl, rfl, rfl, rfl, rfl, rfl, rfl, rfl, rfl, rfl⟩

/-- `setRing` changes `plk` alone. -/
@[simp] theorem setRing_frame (r : Nat) (x : DmaRing) (s : State) :
    (setRing r x s).pending = s.pending ∧ (setRing r x s).cyc = s.cyc ∧ (setRing r x s).out = s.out ∧ (setRing r x s).draws = s.draws ∧ (setRing r x s).counters = s.counters ∧
    (setRing r x s).raised = s.raised ∧ (setRing r x s).events = s.events ∧ (setRing r x s).faults = s.faults ∧ (setRing r x s).yel = s.yel ∧ (setRing r x s).ports = s.ports ∧
    (setRing r x s).fab = s.fab ∧ (setRing r x s).sch = s.sch ∧ (setRing r x s).pat = s.pat ∧ (setRing r x s).seam = s.seam ∧ (setRing r x s).bcn = s.bcn ∧
    (setRing r x s).stb = s.stb ∧ (setRing r x s).edge = s.edge ∧ (setRing r x s).sel = s.sel ∧ (setRing r x s).bod = s.bod ∧ (setRing r x s).thm = s.thm ∧
    (setRing r x s).pwr = s.pwr ∧ (setRing r x s).lamp = s.lamp ∧ (setRing r x s).kpr = s.kpr ∧ (setRing r x s).dbg = s.dbg ∧ (setRing r x s).twin = s.twin ∧
    (setRing r x s).boot = s.boot := by
  exact ⟨rfl, rfl, rfl, rfl, rfl, rfl, rfl, rfl, rfl, rfl, rfl, rfl, rfl, rfl, rfl, rfl, rfl, rfl, rfl, rfl, rfl, rfl, rfl, rfl, rfl, rfl⟩

/-- `setBase` changes `stb` alone. -/
@[simp] theorem setBase_frame (i : Nat) (b : StitchBase) (s : State) :
    (setBase i b s).pending = s.pending ∧ (setBase i b s).cyc = s.cyc ∧ (setBase i b s).out = s.out ∧ (setBase i b s).draws = s.draws ∧ (setBase i b s).counters = s.counters ∧
    (setBase i b s).raised = s.raised ∧ (setBase i b s).events = s.events ∧ (setBase i b s).faults = s.faults ∧ (setBase i b s).yel = s.yel ∧ (setBase i b s).ports = s.ports ∧
    (setBase i b s).fab = s.fab ∧ (setBase i b s).sch = s.sch ∧ (setBase i b s).pat = s.pat ∧ (setBase i b s).seam = s.seam ∧ (setBase i b s).bcn = s.bcn ∧
    (setBase i b s).edge = s.edge ∧ (setBase i b s).sel = s.sel ∧ (setBase i b s).bod = s.bod ∧ (setBase i b s).thm = s.thm ∧ (setBase i b s).plk = s.plk ∧
    (setBase i b s).pwr = s.pwr ∧ (setBase i b s).lamp = s.lamp ∧ (setBase i b s).kpr = s.kpr ∧ (setBase i b s).dbg = s.dbg ∧ (setBase i b s).twin = s.twin ∧
    (setBase i b s).boot = s.boot := by
  exact ⟨rfl, rfl, rfl, rfl, rfl, rfl, rfl, rfl, rfl, rfl, rfl, rfl, rfl, rfl, rfl, rfl, rfl, rfl, rfl, rfl, rfl, rfl, rfl, rfl, rfl, rfl⟩

/-- `setKeySt` changes `stb` alone. -/
@[simp] theorem setKeySt_frame (i : Nat) (k : KeyState) (s : State) :
    (setKeySt i k s).pending = s.pending ∧ (setKeySt i k s).cyc = s.cyc ∧ (setKeySt i k s).out = s.out ∧ (setKeySt i k s).draws = s.draws ∧
    (setKeySt i k s).counters = s.counters ∧ (setKeySt i k s).raised = s.raised ∧ (setKeySt i k s).events = s.events ∧ (setKeySt i k s).faults = s.faults ∧
    (setKeySt i k s).yel = s.yel ∧ (setKeySt i k s).ports = s.ports ∧ (setKeySt i k s).fab = s.fab ∧ (setKeySt i k s).sch = s.sch ∧ (setKeySt i k s).pat = s.pat ∧
    (setKeySt i k s).seam = s.seam ∧ (setKeySt i k s).bcn = s.bcn ∧ (setKeySt i k s).edge = s.edge ∧ (setKeySt i k s).sel = s.sel ∧ (setKeySt i k s).bod = s.bod ∧
    (setKeySt i k s).thm = s.thm ∧ (setKeySt i k s).plk = s.plk ∧ (setKeySt i k s).pwr = s.pwr ∧ (setKeySt i k s).lamp = s.lamp ∧ (setKeySt i k s).kpr = s.kpr ∧
    (setKeySt i k s).dbg = s.dbg ∧ (setKeySt i k s).twin = s.twin ∧ (setKeySt i k s).boot = s.boot := by
  exact ⟨rfl, rfl, rfl, rfl, rfl, rfl, rfl, rfl, rfl, rfl, rfl, rfl, rfl, rfl, rfl, rfl, rfl, rfl, rfl, rfl, rfl, rfl, rfl, rfl, rfl, rfl⟩

/-- `setMark` changes `stb` alone. -/
@[simp] theorem setMark_frame (o : Nat) (m : Mark) (s : State) :
    (setMark o m s).pending = s.pending ∧ (setMark o m s).cyc = s.cyc ∧ (setMark o m s).out = s.out ∧ (setMark o m s).draws = s.draws ∧ (setMark o m s).counters = s.counters ∧
    (setMark o m s).raised = s.raised ∧ (setMark o m s).events = s.events ∧ (setMark o m s).faults = s.faults ∧ (setMark o m s).yel = s.yel ∧ (setMark o m s).ports = s.ports ∧
    (setMark o m s).fab = s.fab ∧ (setMark o m s).sch = s.sch ∧ (setMark o m s).pat = s.pat ∧ (setMark o m s).seam = s.seam ∧ (setMark o m s).bcn = s.bcn ∧
    (setMark o m s).edge = s.edge ∧ (setMark o m s).sel = s.sel ∧ (setMark o m s).bod = s.bod ∧ (setMark o m s).thm = s.thm ∧ (setMark o m s).plk = s.plk ∧
    (setMark o m s).pwr = s.pwr ∧ (setMark o m s).lamp = s.lamp ∧ (setMark o m s).kpr = s.kpr ∧ (setMark o m s).dbg = s.dbg ∧ (setMark o m s).twin = s.twin ∧
    (setMark o m s).boot = s.boot := by
  exact ⟨rfl, rfl, rfl, rfl, rfl, rfl, rfl, rfl, rfl, rfl, rfl, rfl, rfl, rfl, rfl, rfl, rfl, rfl, rfl, rfl, rfl, rfl, rfl, rfl, rfl, rfl⟩

/-- `setGates` changes `sch` alone. -/
@[simp] theorem setGates_frame (p : Nat) (g : PortGates) (s : State) :
    (setGates p g s).pending = s.pending ∧ (setGates p g s).cyc = s.cyc ∧ (setGates p g s).out = s.out ∧ (setGates p g s).draws = s.draws ∧
    (setGates p g s).counters = s.counters ∧ (setGates p g s).raised = s.raised ∧ (setGates p g s).events = s.events ∧ (setGates p g s).faults = s.faults ∧
    (setGates p g s).yel = s.yel ∧ (setGates p g s).ports = s.ports ∧ (setGates p g s).fab = s.fab ∧ (setGates p g s).pat = s.pat ∧ (setGates p g s).seam = s.seam ∧
    (setGates p g s).bcn = s.bcn ∧ (setGates p g s).stb = s.stb ∧ (setGates p g s).edge = s.edge ∧ (setGates p g s).sel = s.sel ∧ (setGates p g s).bod = s.bod ∧
    (setGates p g s).thm = s.thm ∧ (setGates p g s).plk = s.plk ∧ (setGates p g s).pwr = s.pwr ∧ (setGates p g s).lamp = s.lamp ∧ (setGates p g s).kpr = s.kpr ∧
    (setGates p g s).dbg = s.dbg ∧ (setGates p g s).twin = s.twin ∧ (setGates p g s).boot = s.boot := by
  exact ⟨rfl, rfl, rfl, rfl, rfl, rfl, rfl, rfl, rfl, rfl, rfl, rfl, rfl, rfl, rfl, rfl, rfl, rfl, rfl, rfl, rfl, rfl, rfl, rfl, rfl, rfl⟩

/-- `setFilter` changes `sch` alone. -/
@[simp] theorem setFilter_frame (i : Nat) (v : StreamFilter) (s : State) :
    (setFilter i v s).pending = s.pending ∧ (setFilter i v s).cyc = s.cyc ∧ (setFilter i v s).out = s.out ∧ (setFilter i v s).draws = s.draws ∧
    (setFilter i v s).counters = s.counters ∧ (setFilter i v s).raised = s.raised ∧ (setFilter i v s).events = s.events ∧ (setFilter i v s).faults = s.faults ∧
    (setFilter i v s).yel = s.yel ∧ (setFilter i v s).ports = s.ports ∧ (setFilter i v s).fab = s.fab ∧ (setFilter i v s).pat = s.pat ∧ (setFilter i v s).seam = s.seam ∧
    (setFilter i v s).bcn = s.bcn ∧ (setFilter i v s).stb = s.stb ∧ (setFilter i v s).edge = s.edge ∧ (setFilter i v s).sel = s.sel ∧ (setFilter i v s).bod = s.bod ∧
    (setFilter i v s).thm = s.thm ∧ (setFilter i v s).plk = s.plk ∧ (setFilter i v s).pwr = s.pwr ∧ (setFilter i v s).lamp = s.lamp ∧ (setFilter i v s).kpr = s.kpr ∧
    (setFilter i v s).dbg = s.dbg ∧ (setFilter i v s).twin = s.twin ∧ (setFilter i v s).boot = s.boot := by
  exact ⟨rfl, rfl, rfl, rfl, rfl, rfl, rfl, rfl, rfl, rfl, rfl, rfl, rfl, rfl, rfl, rfl, rfl, rfl, rfl, rfl, rfl, rfl, rfl, rfl, rfl, rfl⟩

/-- `setPolicer` changes `sch` alone. -/
@[simp] theorem setPolicer_frame (i : Nat) (v : Policer) (s : State) :
    (setPolicer i v s).pending = s.pending ∧ (setPolicer i v s).cyc = s.cyc ∧ (setPolicer i v s).out = s.out ∧ (setPolicer i v s).draws = s.draws ∧
    (setPolicer i v s).counters = s.counters ∧ (setPolicer i v s).raised = s.raised ∧ (setPolicer i v s).events = s.events ∧ (setPolicer i v s).faults = s.faults ∧
    (setPolicer i v s).yel = s.yel ∧ (setPolicer i v s).ports = s.ports ∧ (setPolicer i v s).fab = s.fab ∧ (setPolicer i v s).pat = s.pat ∧ (setPolicer i v s).seam = s.seam ∧
    (setPolicer i v s).bcn = s.bcn ∧ (setPolicer i v s).stb = s.stb ∧ (setPolicer i v s).edge = s.edge ∧ (setPolicer i v s).sel = s.sel ∧ (setPolicer i v s).bod = s.bod ∧
    (setPolicer i v s).thm = s.thm ∧ (setPolicer i v s).plk = s.plk ∧ (setPolicer i v s).pwr = s.pwr ∧ (setPolicer i v s).lamp = s.lamp ∧ (setPolicer i v s).kpr = s.kpr ∧
    (setPolicer i v s).dbg = s.dbg ∧ (setPolicer i v s).twin = s.twin ∧ (setPolicer i v s).boot = s.boot := by
  exact ⟨rfl, rfl, rfl, rfl, rfl, rfl, rfl, rfl, rfl, rfl, rfl, rfl, rfl, rfl, rfl, rfl, rfl, rfl, rfl, rfl, rfl, rfl, rfl, rfl, rfl, rfl⟩

/-- `setRecov` changes `sch` alone. -/
@[simp] theorem setRecov_frame (i : Nat) (v : Recov) (s : State) :
    (setRecov i v s).pending = s.pending ∧ (setRecov i v s).cyc = s.cyc ∧ (setRecov i v s).out = s.out ∧ (setRecov i v s).draws = s.draws ∧
    (setRecov i v s).counters = s.counters ∧ (setRecov i v s).raised = s.raised ∧ (setRecov i v s).events = s.events ∧ (setRecov i v s).faults = s.faults ∧
    (setRecov i v s).yel = s.yel ∧ (setRecov i v s).ports = s.ports ∧ (setRecov i v s).fab = s.fab ∧ (setRecov i v s).pat = s.pat ∧ (setRecov i v s).seam = s.seam ∧
    (setRecov i v s).bcn = s.bcn ∧ (setRecov i v s).stb = s.stb ∧ (setRecov i v s).edge = s.edge ∧ (setRecov i v s).sel = s.sel ∧ (setRecov i v s).bod = s.bod ∧
    (setRecov i v s).thm = s.thm ∧ (setRecov i v s).plk = s.plk ∧ (setRecov i v s).pwr = s.pwr ∧ (setRecov i v s).lamp = s.lamp ∧ (setRecov i v s).kpr = s.kpr ∧
    (setRecov i v s).dbg = s.dbg ∧ (setRecov i v s).twin = s.twin ∧ (setRecov i v s).boot = s.boot := by
  exact ⟨rfl, rfl, rfl, rfl, rfl, rfl, rfl, rfl, rfl, rfl, rfl, rfl, rfl, rfl, rfl, rfl, rfl, rfl, rfl, rfl, rfl, rfl, rfl, rfl, rfl, rfl⟩

/-- `setSGate` changes `sch` alone. -/
@[simp] theorem setSGate_frame (i : Nat) (v : StreamGate) (s : State) :
    (setSGate i v s).pending = s.pending ∧ (setSGate i v s).cyc = s.cyc ∧ (setSGate i v s).out = s.out ∧ (setSGate i v s).draws = s.draws ∧
    (setSGate i v s).counters = s.counters ∧ (setSGate i v s).raised = s.raised ∧ (setSGate i v s).events = s.events ∧ (setSGate i v s).faults = s.faults ∧
    (setSGate i v s).yel = s.yel ∧ (setSGate i v s).ports = s.ports ∧ (setSGate i v s).fab = s.fab ∧ (setSGate i v s).pat = s.pat ∧ (setSGate i v s).seam = s.seam ∧
    (setSGate i v s).bcn = s.bcn ∧ (setSGate i v s).stb = s.stb ∧ (setSGate i v s).edge = s.edge ∧ (setSGate i v s).sel = s.sel ∧ (setSGate i v s).bod = s.bod ∧
    (setSGate i v s).thm = s.thm ∧ (setSGate i v s).plk = s.plk ∧ (setSGate i v s).pwr = s.pwr ∧ (setSGate i v s).lamp = s.lamp ∧ (setSGate i v s).kpr = s.kpr ∧
    (setSGate i v s).dbg = s.dbg ∧ (setSGate i v s).twin = s.twin ∧ (setSGate i v s).boot = s.boot := by
  exact ⟨rfl, rfl, rfl, rfl, rfl, rfl, rfl, rfl, rfl, rfl, rfl, rfl, rfl, rfl, rfl, rfl, rfl, rfl, rfl, rfl, rfl, rfl, rfl, rfl, rfl, rfl⟩

/-- `setSlot` changes `thm` alone. -/
@[simp] theorem setSlot_frame (n : Nat) (v : SlotSt) (s : State) :
    (setSlot n v s).pending = s.pending ∧ (setSlot n v s).cyc = s.cyc ∧ (setSlot n v s).out = s.out ∧ (setSlot n v s).draws = s.draws ∧ (setSlot n v s).counters = s.counters ∧
    (setSlot n v s).raised = s.raised ∧ (setSlot n v s).events = s.events ∧ (setSlot n v s).faults = s.faults ∧ (setSlot n v s).yel = s.yel ∧ (setSlot n v s).ports = s.ports ∧
    (setSlot n v s).fab = s.fab ∧ (setSlot n v s).sch = s.sch ∧ (setSlot n v s).pat = s.pat ∧ (setSlot n v s).seam = s.seam ∧ (setSlot n v s).bcn = s.bcn ∧
    (setSlot n v s).stb = s.stb ∧ (setSlot n v s).edge = s.edge ∧ (setSlot n v s).sel = s.sel ∧ (setSlot n v s).bod = s.bod ∧ (setSlot n v s).plk = s.plk ∧
    (setSlot n v s).pwr = s.pwr ∧ (setSlot n v s).lamp = s.lamp ∧ (setSlot n v s).kpr = s.kpr ∧ (setSlot n v s).dbg = s.dbg ∧ (setSlot n v s).twin = s.twin ∧
    (setSlot n v s).boot = s.boot := by
  exact ⟨rfl, rfl, rfl, rfl, rfl, rfl, rfl, rfl, rfl, rfl, rfl, rfl, rfl, rfl, rfl, rfl, rfl, rfl, rfl, rfl, rfl, rfl, rfl, rfl, rfl, rfl⟩

/-- `setFresh` changes `seam` alone. -/
@[simp] theorem setFresh_frame (i : Nat) (v : Fresh) (s : State) :
    (setFresh i v s).pending = s.pending ∧ (setFresh i v s).cyc = s.cyc ∧ (setFresh i v s).out = s.out ∧ (setFresh i v s).draws = s.draws ∧
    (setFresh i v s).counters = s.counters ∧ (setFresh i v s).raised = s.raised ∧ (setFresh i v s).events = s.events ∧ (setFresh i v s).faults = s.faults ∧
    (setFresh i v s).yel = s.yel ∧ (setFresh i v s).ports = s.ports ∧ (setFresh i v s).fab = s.fab ∧ (setFresh i v s).sch = s.sch ∧ (setFresh i v s).pat = s.pat ∧
    (setFresh i v s).bcn = s.bcn ∧ (setFresh i v s).stb = s.stb ∧ (setFresh i v s).edge = s.edge ∧ (setFresh i v s).sel = s.sel ∧ (setFresh i v s).bod = s.bod ∧
    (setFresh i v s).thm = s.thm ∧ (setFresh i v s).plk = s.plk ∧ (setFresh i v s).pwr = s.pwr ∧ (setFresh i v s).lamp = s.lamp ∧ (setFresh i v s).kpr = s.kpr ∧
    (setFresh i v s).dbg = s.dbg ∧ (setFresh i v s).twin = s.twin ∧ (setFresh i v s).boot = s.boot := by
  exact ⟨rfl, rfl, rfl, rfl, rfl, rfl, rfl, rfl, rfl, rfl, rfl, rfl, rfl, rfl, rfl, rfl, rfl, rfl, rfl, rfl, rfl, rfl, rfl, rfl, rfl, rfl⟩

/-- `setFrags` changes `pat` alone. -/
@[simp] theorem setFrags_frame (l : List Frag) (s : State) :
    (setFrags l s).pending = s.pending ∧ (setFrags l s).cyc = s.cyc ∧ (setFrags l s).out = s.out ∧ (setFrags l s).draws = s.draws ∧ (setFrags l s).counters = s.counters ∧
    (setFrags l s).raised = s.raised ∧ (setFrags l s).events = s.events ∧ (setFrags l s).faults = s.faults ∧ (setFrags l s).yel = s.yel ∧ (setFrags l s).ports = s.ports ∧
    (setFrags l s).fab = s.fab ∧ (setFrags l s).sch = s.sch ∧ (setFrags l s).seam = s.seam ∧ (setFrags l s).bcn = s.bcn ∧ (setFrags l s).stb = s.stb ∧
    (setFrags l s).edge = s.edge ∧ (setFrags l s).sel = s.sel ∧ (setFrags l s).bod = s.bod ∧ (setFrags l s).thm = s.thm ∧ (setFrags l s).plk = s.plk ∧ (setFrags l s).pwr = s.pwr ∧
    (setFrags l s).lamp = s.lamp ∧ (setFrags l s).kpr = s.kpr ∧ (setFrags l s).dbg = s.dbg ∧ (setFrags l s).twin = s.twin ∧ (setFrags l s).boot = s.boot := by
  exact ⟨rfl, rfl, rfl, rfl, rfl, rfl, rfl, rfl, rfl, rfl, rfl, rfl, rfl, rfl, rfl, rfl, rfl, rfl, rfl, rfl, rfl, rfl, rfl, rfl, rfl, rfl⟩

/-- `setInst` changes `bcn` alone. -/
@[simp] theorem setInst_frame (i : Nat) (g : Gptp) (s : State) :
    (setInst i g s).pending = s.pending ∧ (setInst i g s).cyc = s.cyc ∧ (setInst i g s).out = s.out ∧ (setInst i g s).draws = s.draws ∧ (setInst i g s).counters = s.counters ∧
    (setInst i g s).raised = s.raised ∧ (setInst i g s).events = s.events ∧ (setInst i g s).faults = s.faults ∧ (setInst i g s).yel = s.yel ∧ (setInst i g s).ports = s.ports ∧
    (setInst i g s).fab = s.fab ∧ (setInst i g s).sch = s.sch ∧ (setInst i g s).pat = s.pat ∧ (setInst i g s).seam = s.seam ∧ (setInst i g s).stb = s.stb ∧
    (setInst i g s).edge = s.edge ∧ (setInst i g s).sel = s.sel ∧ (setInst i g s).bod = s.bod ∧ (setInst i g s).thm = s.thm ∧ (setInst i g s).plk = s.plk ∧
    (setInst i g s).pwr = s.pwr ∧ (setInst i g s).lamp = s.lamp ∧ (setInst i g s).kpr = s.kpr ∧ (setInst i g s).dbg = s.dbg ∧ (setInst i g s).twin = s.twin ∧
    (setInst i g s).boot = s.boot := by
  exact ⟨rfl, rfl, rfl, rfl, rfl, rfl, rfl, rfl, rfl, rfl, rfl, rfl, rfl, rfl, rfl, rfl, rfl, rfl, rfl, rfl, rfl, rfl, rfl, rfl, rfl, rfl⟩

/-- `setTrans` changes `yel` alone. -/
@[simp] theorem setTrans_frame (t : Transport) (x : Trans) (s : State) :
    (setTrans t x s).pending = s.pending ∧ (setTrans t x s).cyc = s.cyc ∧ (setTrans t x s).out = s.out ∧ (setTrans t x s).draws = s.draws ∧
    (setTrans t x s).counters = s.counters ∧ (setTrans t x s).raised = s.raised ∧ (setTrans t x s).events = s.events ∧ (setTrans t x s).faults = s.faults ∧
    (setTrans t x s).ports = s.ports ∧ (setTrans t x s).fab = s.fab ∧ (setTrans t x s).sch = s.sch ∧ (setTrans t x s).pat = s.pat ∧ (setTrans t x s).seam = s.seam ∧
    (setTrans t x s).bcn = s.bcn ∧ (setTrans t x s).stb = s.stb ∧ (setTrans t x s).edge = s.edge ∧ (setTrans t x s).sel = s.sel ∧ (setTrans t x s).bod = s.bod ∧
    (setTrans t x s).thm = s.thm ∧ (setTrans t x s).plk = s.plk ∧ (setTrans t x s).pwr = s.pwr ∧ (setTrans t x s).lamp = s.lamp ∧ (setTrans t x s).kpr = s.kpr ∧
    (setTrans t x s).dbg = s.dbg ∧ (setTrans t x s).twin = s.twin ∧ (setTrans t x s).boot = s.boot := by
  cases t <;> exact ⟨rfl, rfl, rfl, rfl, rfl, rfl, rfl, rfl, rfl, rfl, rfl, rfl, rfl, rfl, rfl, rfl, rfl, rfl, rfl, rfl, rfl, rfl, rfl, rfl, rfl, rfl⟩

end Sys2Proof.Machine
end

