-- ==== Sys2Proof/Laws/Memory.lean ====
section
/-! SUPPORT. Laws/Memory.lean: every operation that writes the ring or the descriptor memory keeps its canonical form; reset has it. -/

namespace Sys2Proof.Machine

theorem memory_wf_putBytes (f : Nat → Byte → Option Byte) (bs : List (Byte × Bool)) (a : Nat) {m : Memory} (hm : m.wf = true) :
    (putBytes f a bs m).wf = true := by
  induction bs generalizing a m with
  | nil => exact hm
  | cons x t ih =>
    obtain ⟨b, en⟩ := x
    simp only [putBytes]
    apply ih
    split
    · split
      · exact memory_wf_mapSet hm _ _
      · exact hm
    · exact hm

@[simp] theorem setCause_ringMem (v : Nat) (s : State) : (setCause v s).plk.ringMem = s.plk.ringMem := by
  simp only [setCause]; split <;> rfl

@[simp] theorem setCause_descMem (v : Nat) (s : State) : (setCause v s).plk.descMem = s.plk.descMem := by
  simp only [setCause]; split <;> rfl

@[simp] theorem logInbound_ringMem (r : Nat) (b : Bool) (o n : Nat) (s : State) : (logInbound r b o n s).plk.ringMem = s.plk.ringMem := by
  simp only [logInbound, logError]; split <;> simp [setPlk]

@[simp] theorem logInbound_descMem (r : Nat) (b : Bool) (o n : Nat) (s : State) : (logInbound r b o n s).plk.descMem = s.plk.descMem := by
  simp only [logInbound, logError]; split <;> simp [setPlk]

theorem memoriesOk_writeRingMem (off : Nat) (bs : List (Byte × Bool)) {s : State} (h : memoriesOk s = true) : memoriesOk (writeRingMem off bs s) = true := by
  simp only [memoriesOk, Bool.and_eq_true] at h ⊢
  simp only [writeRingMem]
  split <;> simp [setPlk] <;> exact ⟨memory_wf_putBytes _ _ _ h.1, h.2⟩

theorem memoriesOk_writeDescMem (off : Nat) (bs : List (Byte × Bool)) {s : State} (h : memoriesOk s = true) : memoriesOk (writeDescMem off bs s) = true := by
  simp only [memoriesOk, Bool.and_eq_true] at h ⊢
  simp only [writeDescMem]
  split <;> simp [setPlk] <;> exact ⟨h.1, memory_wf_putBytes _ _ _ h.2⟩

theorem memoriesOk_writeDesc (r i : Nat) (d : BitVec 256) {s : State} (h : memoriesOk s = true) : memoriesOk (writeDesc r i d s) = true := by
  simp only [memoriesOk, Bool.and_eq_true] at h ⊢
  exact ⟨h.1, memory_wf_memWrite h.2 _ _⟩

theorem memoriesOk_writeCompletion (c : Nat) (b : List Byte) {s : State} (h : memoriesOk s = true) : memoriesOk (writeCompletion c b s) = true := by
  simp only [memoriesOk, Bool.and_eq_true] at h ⊢
  simp only [writeCompletion, setCause_ringMem, setCause_descMem]
  exact ⟨memory_wf_memWrite (memory_wf_memWrite h.1 _ _) _ _, h.2⟩

/-- Nothing is listed at reset, which is the canonical form of a memory that reads 0 everywhere. -/
theorem reset_memories_empty : State.reset.plk.ringMem = [] ∧ State.reset.plk.descMem = [] := ⟨rfl, rfl⟩

end Sys2Proof.Machine
end

