-- ==== Sys2Proof/Laws/Service.lean ====
section
/-! SUPPORT. Laws/Service.lean: a message that passes the checks of R311 executes its opcode, and how a statement about an opcode follows from what its body does. -/

namespace Sys2Proof.Machine

open Sys2Proof.Claims

theorem setTrans_keeps (t : Transport) (x : Trans) (s : State) :
    (setTrans t x s).yel.waiting = s.yel.waiting ∧ (setTrans t x s).yel.queue = s.yel.queue := by
  cases t <;> exact ⟨rfl, rfl⟩

theorem takeSequence_keeps (n : Nat) (t : Transport) (s : State) :
    (takeSequence n t s).yel.waiting = s.yel.waiting ∧ (takeSequence n t s).yel.queue = s.yel.queue := by
  unfold takeSequence; exact setTrans_keeps _ _ _

theorem admitted_keeps (a : Accepted) (b : Bool) (s : State) :
    (admitted a b s).yel.waiting = s.yel.waiting ∧ (admitted a b s).yel.queue = s.yel.queue := by
  unfold admitted
  simp only [bump, bumpBy]
  rw [(setTrans_keeps _ _ _).1, (setTrans_keeps _ _ _).2]
  cases b
  · exact ⟨rfl, rfl⟩
  · exact takeSequence_keeps _ _ _

/-- With nothing waiting, an accepted command executes at once (R324). -/
theorem accept_quiet (a : Accepted) (b : Bool) (s1 : State) (h1 : (admitted a b s1).yel.waiting = none) (h2 : (admitted a b s1).yel.queue = []) :
    accept a (if b = true then takeSequence a.msg.seq.toNat (transportOf a.msg.via) s1 else s1) = execute a (admitted a b s1) := by
  unfold admitted at h1 h2 ⊢
  unfold accept
  simp only at h1 h2 ⊢
  rw [if_neg]
  simp only [h1, h2]; simp

theorem execute_runs (a : Accepted) (u : State) (c : Cmd) (hc : cmdOf a.cls a.opcode = some c)
    (hr : runnable c (paramsOf a.msg) u) (hl : c.len (paramsOf a.msg) = true) : execute a u = finish a u := by
  unfold execute
  obtain ⟨r1, r2, r3⟩ := hr
  simp only [hc, r1, hl, Bool.not_true, Bool.false_eq_true, ↓reduceIte]
  rw [List.find?_eq_none.mpr (fun d hd => by simp [r2 d hd])]
  cases hw : c.waits (paramsOf a.msg) u with
  | none => rfl
  | some w => simp [r3 w hw]

theorem spendToken_keeps (t : Transport) (s : State) :
    (spendToken t s).yel.waiting = s.yel.waiting ∧ (spendToken t s).yel.queue = s.yel.queue := by
  unfold spendToken; exact setTrans_keeps _ _ _

theorem getTrans_setTrans (t : Transport) (x : Trans) (s : State) : getTrans t (setTrans t x s) = x := by cases t <;> rfl

/-- What drawing bytes leaves unchanged: all but the count of draws (log entry 5). -/
theorem drawBytes_yel (n : Nat) (s : State) : (drawBytes n s).2.yel = s.yel := by
  induction n generalizing s with
  | zero => rfl
  | succ n ih => exact ih _

/-- A key use touches no transport (R266, R269). -/
theorem fetchKey_yel (n : Nat) (g : Option Nat) (m : Master) (w : World) (k : KeyUse) (s : State) : (fetchKey n g m w k s).2.yel = s.yel := by
  unfold fetchKey checkUse
  split
  · rename_i h; split at h <;> (try split at h) <;> cases h <;> rfl
  · rename_i h; split at h <;> (try split at h) <;> cases h
    exact drawBytes_yel _ _

/-- A key request touches no transport (R266). -/
theorem askKey_yel (t : Transport) (s : State) : (askKey t s).yel = s.yel := by
  unfold askKey
  split
  · split
    · exact fetchKey_yel _ _ _ _ _ _
    · rfl
  · rfl

theorem getTrans_congr (t : Transport) {s u : State} (h : s.yel = u.yel) : getTrans t s = getTrans t u := by cases t <;> simp [getTrans, h]

theorem tokenTaken_keeps (a : Received) (s : State) :
    (tokenTaken a s).yel.waiting = s.yel.waiting ∧ (tokenTaken a s).yel.queue = s.yel.queue := by
  unfold tokenTaken
  simp only
  split
  · rw [askKey_yel]; exact spendToken_keeps _ _
  · exact spendToken_keeps _ _

theorem tokenTaken_outstanding (a : Received) (s : State) :
    (getTrans (transportOf a.msg.via) (tokenTaken a s)).outstanding = (getTrans (transportOf a.msg.via) s).outstanding := by
  unfold tokenTaken
  simp only
  split
  · rw [getTrans_congr _ (askKey_yel _ _)]; unfold spendToken; generalize (500000000 : Nat) = k; simp only [getTrans_setTrans]
  · unfold spendToken; generalize (500000000 : Nat) = k; simp only [getTrans_setTrans]

/-- A message that passes checks 1 to 7 reaches the checks that count it (R311). -/
theorem admits_reaches (a : Accepted) (s u : State) (h : admits a s u) : receiveMsg a s = admitMsg a s := by
  obtain ⟨h1, h2, h3, h4, h4', h5, h6, h7, h8, h9, h10, h11, h12, h13, h14, h15, -⟩ := h
  have hld : leaveDoze s = s := by unfold leaveDoze; simp [h1]
  unfold receiveMsg
  simp only [h1, false_and, ↓reduceIte, hld, h2, Bool.not_true]
  rw [if_neg (by rcases h3 with h | h <;> simp [h]), h4, h4']
  simp only [Bool.false_eq_true]
  unfold checkMsg
  have h13' := Nat.not_lt.mpr h13
  generalize (4096 : Nat) = n at *
  simp only [h7, h8, h9, h10, h11, h12, h14, Bool.false_eq_true, or_self, ↓reduceIte, ne_eq, not_true_eq_false, h13']
  rw [if_neg (by rcases h15 with h | h <;> simp [h])]

/-- A message that passes checks 8 to 10 is accepted (R311). -/
theorem admits_accepts (a : Accepted) (s : State) (b : Bool) (h16 : hasToken (transportOf a.msg.via) s = true)
    (h17 : (getTrans (transportOf a.msg.via) s).outstanding < 64) (h18 : authenticate a (tokenTaken a s) = .pass b) :
    admitMsg a s = accept a (if b = true then takeSequence a.msg.seq.toNat (transportOf a.msg.via) (tokenTaken a s) else tokenTaken a s) := by
  have h17' : ¬ (getTrans (transportOf a.msg.via) (tokenTaken a s)).outstanding ≥ 64 := by
    rw [tokenTaken_outstanding]; exact Nat.not_le.mpr h17
  unfold admitMsg
  generalize accept = f, refuseMsg = g
  simp only [h16, Bool.not_true, Bool.false_eq_true, ↓reduceIte]
  rw [if_neg h17', h18]

/-- A message that passes checks 1 to 10, and whose command can run, is executed (R311). -/
theorem receive_executes (a : Accepted) (s u : State) (h : admits a s u) (c : Cmd) (hc : cmdOf a.cls a.opcode = some c)
    (hr : runnable c (paramsOf a.msg) u) (hl : c.len (paramsOf a.msg) = true) : receiveMsg a s = finish a u := by
  rw [admits_reaches a s u h]
  obtain ⟨-, -, -, -, -, h5, h6, -, -, -, -, -, -, -, -, -, h16, h17, b, h18, rfl⟩ := h
  have hs := tokenTaken_keeps a s
  have hu := admitted_keeps a b (tokenTaken a s)
  rw [hs.1, hs.2, h5, h6] at hu
  rw [admits_accepts a s b h16 h17 h18, accept_quiet a b _ hu.1 hu.2, execute_runs a _ c hc hr hl]

/-- What an opcode's body answers with OK, with the record it leaves, is what its command does. -/
theorem runs_of (mk : Msg → Instr) (c : Cmd) (ok : Via → List Byte → State → Prop) (eff : Via → List Byte → State → State × List Byte)
    (hmk : ∀ m s, exec (mk m) s = ends (receiveMsg ⟨c.cls, c.opcode, m⟩ s)) (hc : cmdOf c.cls c.opcode = some c)
    (hk : ¬ (c.cls = 1 ∧ c.opcode = 3))
    (h : ∀ v p u, ok v p u → c.len p = true ∧ runCmd c v p u = done (eff v p u).2 (eff v p u).1) : Runs mk c ok eff := by
  intro m s u ha hr hp hok
  obtain ⟨hl, hb⟩ := h _ _ _ hok
  unfold Completes
  rw [hmk, receive_executes _ s u ha c hc hr hl]
  unfold ends finish answered
  simp only [hc, hb, done, ↓reduceIte]
  unfold sendResult
  simp only [hp, Bool.false_eq_true, false_and, and_false, ↓reduceIte, hk]

/-- What an opcode's body refuses, its command is answered with. -/
theorem declines_of (mk : Msg → Instr) (c : Cmd) (e : Status) (ok : Via → List Byte → State → Prop) (eff : List Byte → State → State)
    (hmk : ∀ m s, exec (mk m) s = ends (receiveMsg ⟨c.cls, c.opcode, m⟩ s)) (hc : cmdOf c.cls c.opcode = some c)
    (hk : ¬ (c.cls = 1 ∧ c.opcode = 3)) (he : e ≠ .ok)
    (h : ∀ v p u, ok v p u → c.len p = true ∧ c.body v p u = failed e (eff p u)) : Declines mk c e ok eff := by
  intro m s u ha hr hok
  obtain ⟨hl, hb⟩ := h _ _ _ hok
  unfold Completes
  rw [hmk, receive_executes _ s u ha c hc hr hl]
  unfold ends finish declined
  simp only [hc, runCmd, hb, failed, he, ↓reduceIte]
  unfold sendResult
  simp only [he, false_and, ↓reduceIte, hk]

/-- An opcode whose body answers OK leaves its record (R484). -/
theorem runCmd_done (c : Cmd) (v : Via) (p r : List Byte) (s t : State) (h : c.body v p s = done r t) : runCmd c v p s = done r (noteRecord c p s t) := by
  unfold runCmd; rw [h]; rfl

/-- A body's parameters are in range, so the body runs (check 13 of R311). -/
theorem whenOk_true (ok : Bool) (r : CmdResult) (s : State) (h : ok = true) : whenOk ok r s = r := by unfold whenOk; rw [if_pos h]

/-- What every sliced element meets, every element of a list parameter meets. -/
theorem elements_all (q : List Byte → Bool) (off w n : Nat) (p : List Byte) (h : ∀ i < n, q ((p.drop (off + w * i)).take w) = true) :
    (elements off w n p).all q = true := by
  unfold elements; rw [List.all_map, List.all_eq_true]; intro i hi; exact h i (List.mem_range.mp hi)

theorem foldl_same {α β : Type} (f g : β → α → β) : ∀ (l : List α) (b : β), (∀ x a, x ∈ l → f a x = g a x) → l.foldl f b = l.foldl g b
  | [], _, _ => rfl
  | x :: t, b, h => by
    rw [List.foldl_cons, List.foldl_cons, h x b List.mem_cons_self]
    exact foldl_same f g t _ (fun y a hy => h y a (List.mem_cons_of_mem _ hy))

/-- Writing the elements of a list parameter one after another is `consecutive`. -/
theorem elements_consecutive {α : Type} [DecidableEq α] (d : α) (f : List Byte → α) (off w n first : Nat) (p : List Byte) (m : SMap α) :
    (List.range (elements off w n p).length).foldl (fun m i => mapSet d m (first + i) (f ((elements off w n p).getD i []))) m
      = consecutive α d f off w n first p m := by
  unfold consecutive
  rw [show (elements off w n p).length = n from by simp [elements]]
  refine foldl_same _ _ _ _ (fun i a hi => ?_)
  have hi' := List.mem_range.mp hi
  simp [elements, List.getD, hi']

/-- The common shape: a body that runs when its parameters are in range, and the record it leaves. -/
theorem runs_when (mk : Msg → Instr) (c : Cmd) (ok : Via → List Byte → State → Prop) (eff : Via → List Byte → State → State × List Byte)
    (hmk : ∀ m s, exec (mk m) s = ends (receiveMsg ⟨c.cls, c.opcode, m⟩ s)) (hc : cmdOf c.cls c.opcode = some c) (hk : ¬ (c.cls = 1 ∧ c.opcode = 3))
    (guard : Via → List Byte → State → Bool) (r : Via → List Byte → State → List Byte) (f : Via → List Byte → State → State)
    (hbody : ∀ v p u, c.body v p u = whenOk (guard v p u) (done (r v p u) (f v p u)) u) (hlen : ∀ v p u, ok v p u → c.len p = true)
    (hg : ∀ v p u, ok v p u → guard v p u = true) (he : ∀ v p u, ok v p u → eff v p u = (noteRecord c p u (f v p u), r v p u)) : Runs mk c ok eff :=
  runs_of mk c ok eff hmk hc hk (fun v p u h => ⟨hlen v p u h, by
    rw [runCmd_done c v p _ u _ ((hbody v p u).trans (whenOk_true _ _ _ (hg v p u h))), he v p u h]⟩)

end Sys2Proof.Machine
end

