-- ==== Sys2Proof/WellFormed.lean ====
section
/-! DEFINITION. WellFormed.lean: what a command's operands hold when the command is one that can reach the module: lengths and ranges that the wire, the bus or the pin fixes. The meanings are total and never rely on it. -/

namespace Sys2Proof

/-- A Yelom message: PARAM_LEN and the bytes after the header are the transport's to bound; no transport carries more than 4,128 bytes (R309, R310, R349). -/
def Msg.wf (m : Msg) : Bool := decide (m.body.length ≤ 4112)

/-- The data length that an FD data length code names (ISO 11898-1). -/
def fdLength (dlc : Nat) : Nat := if dlc ≤ 8 then dlc else [12, 16, 20, 24, 32, 48, 64].getD (dlc - 9) 64

/-- A CAN message whose identifier, length code and data agree with its format (R134). -/
def CanMsg.wf (m : CanMsg) : Bool :=
  match m.format with
  | .classicBase => decide (m.ident < 2048 ∧ m.dlc ≤ 15 ∧ !m.brs ∧ !m.esi ∧ m.data.length = if m.rtr then 0 else min m.dlc 8)
  | .classicExt => decide (m.ident < 536870912 ∧ m.dlc ≤ 15 ∧ !m.brs ∧ !m.esi ∧ m.data.length = if m.rtr then 0 else min m.dlc 8)
  | .fdBase => decide (m.ident < 2048 ∧ m.dlc ≤ 15 ∧ !m.rtr ∧ m.data.length = fdLength m.dlc)
  | .fdExt => decide (m.ident < 536870912 ∧ m.dlc ≤ 15 ∧ !m.rtr ∧ m.data.length = fdLength m.dlc)
  | .xl => decide (m.ident < 2048 ∧ m.dlc ≤ 2047 ∧ !m.rtr ∧ m.data.length = m.dlc + 1)

/-- A key's place in its consumer's table (R123). -/
def KeyRef.wf : KeyRef → Bool
  | .gate _ e => decide (e < 1024)
  | .mark _ k => decide (k < 16)
  | .slot _ n => decide (n < 64)
  | .disc _ e => decide (e < 16)

/-- A host write of 1 to 256 bytes within its BAR (R338, R346). -/
def hostWriteWf (bar : Bar) (offset : Nat) (bytes : List (Byte × Bool)) : Bool :=
  decide (0 < bytes.length ∧ bytes.length ≤ 256 ∧ offset + bytes.length ≤ match bar with | .bar0 => 0x400000 | .bar2 => 0x4000000)

/-- An image record's class and opcode (R483). -/
def ImageRec.wf (r : ImageRec) : Bool := decide (r.cls < 256 ∧ r.opcode < 65536 ∧ r.body.length ≤ 65535)

/-- A HELLO's state code and digest (R445). -/
def Hello.wf (h : Hello) : Bool := decide (h.state < 256 ∧ h.digest.length = 32)

/-- A part of a full snapshot or delta (R445). -/
def partWf (part parts : Nat) (recs : List ImageRec) : Bool := decide (part < 65536 ∧ parts < 65536) && recs.all ImageRec.wf

/-- A relayed message's KIND, INSTANCE and length (R445). -/
def relayWf (kind inst : Nat) (msg : List Byte) : Bool := decide (kind < 256 ∧ inst < 256 ∧ msg.length ≤ 8188)

/-- A cryptographic request's key number (R302). -/
def CryptoReq.wf : CryptoReq → Bool
  | .hmac k n _ => decide ((k < 64 ∨ k = 255) ∧ n ≤ 32)
  | .cmac k n _ => decide (k < 64 ∧ n ≤ 16)
  | .gcmSeal k n _ _ => decide (k < 64 ∧ n ≤ 16)
  | .gcmOpen k n iv _ _ t => decide (k < 64 ∧ n ≤ 16 ∧ iv.length = 12 ∧ t.length = n)

/-- A command that can reach the module. -/
def Instr.wf : Instr → Bool
  | .deviceInfo m => m.wf
  | .seqFloor m => m.wf
  | .setCmdKey m => m.wf
  | .setLimits m => m.wf
  | .eventSubscribe m => m.wf
  | .configSave m => m.wf
  | .reset m => m.wf
  | .echo m => m.wf
  | .portSet m => m.wf
  | .portGet m => m.wf
  | .portStatus m => m.wf
  | .lldpSet m => m.wf
  | .partnerZones m => m.wf
  | .fastlinkClear m => m.wf
  | .queueSet m => m.wf
  | .bufferSet m => m.wf
  | .queueStatus m => m.wf
  | .boltStatus m => m.wf
  | .gclWrite m => m.wf
  | .gclParams m => m.wf
  | .gclCommit m => m.wf
  | .gclCancel m => m.wf
  | .gclRead m => m.wf
  | .gclStatus m => m.wf
  | .sgateWrite m => m.wf
  | .sgateCommit m => m.wf
  | .sgateCancel m => m.wf
  | .sgateUnlock m => m.wf
  | .timeGet m => m.wf
  | .setTime m => m.wf
  | .gmSetTime m => m.wf
  | .acceptStep m => m.wf
  | .servoSet m => m.wf
  | .gptpSet m => m.wf
  | .rateSet m => m.wf
  | .domainConvert m => m.wf
  | .portTrim m => m.wf
  | .stbConfig m => m.wf
  | .stbRead m => m.wf
  | .stbSample m => m.wf
  | .stbDir m => m.wf
  | .markSet m => m.wf
  | .nodeLoad m => m.wf
  | .rootSet m => m.wf
  | .zoneMapSet m => m.wf
  | .matrixSet m => m.wf
  | .groupSet m => m.wf
  | .epochSwap m => m.wf
  | .epochDiscard m => m.wf
  | .epochStatus m => m.wf
  | .patOptions m => m.wf
  | .sfSet m => m.wf
  | .sfUnblock m => m.wf
  | .policerSet m => m.wf
  | .policerUnlatch m => m.wf
  | .frerGenSet m => m.wf
  | .frerRecSet m => m.wf
  | .canSet m => m.wf
  | .linSet m => m.wf
  | .routeWrite m => m.wf
  | .containerSet m => m.wf
  | .linFrames m => m.wf
  | .linSchedule m => m.wf
  | .linSelect m => m.wf
  | .slotTable m => m.wf
  | .busRecover m => m.wf
  | .rateCand m => m.wf
  | .isoInstance m => m.wf
  | .channelStatus m => m.wf
  | .linkSet m => m.wf
  | .linkStatus m => m.wf
  | .linkRedetect m => m.wf
  | .unhitch m => m.wf
  | .discConfig m => m.wf
  | .discWrite m => m.wf
  | .discTable m => m.wf
  | .dccbSend m => m.wf
  | .dccbRecv m => m.wf
  | .zoneTable m => m.wf
  | .ttRead m => m.wf
  | .importKey m => m.wf
  | .generate m => m.wf
  | .derive m => m.wf
  | .destroy m => m.wf
  | .readAttr m => m.wf
  | .lcChallenge m => m.wf
  | .lcTransition m => m.wf
  | .attest m => m.wf
  | .lcStatus m => m.wf
  | .ctxWrite m => m.wf
  | .ctxRead m => m.wf
  | .saWrite m => m.wf
  | .saRead m => m.wf
  | .stage m => m.wf
  | .stageClear m => m.wf
  | .stageRead m => m.wf
  | .hmac m => m.wf
  | .cmac m => m.wf
  | .gcmSeal m => m.wf
  | .gcmOpen m => m.wf
  | .modeSet m => m.wf
  | .katRun m => m.wf
  | .powerReq m => m.wf
  | .powerStatus m => m.wf
  | .nmSet m => m.wf
  | .nmRequest m => m.wf
  | .wakeSet m => m.wf
  | .wakeCause m => m.wf
  | .lampStatus m => m.wf
  | .safeRelease m => m.wf
  | .safeOpenSet m => m.wf
  | .faultInject m => m.wf
  | .debugChallenge m => m.wf
  | .debugUnlock m => m.wf
  | .twinSet m => m.wf
  | .twinStatus m => m.wf
  | .relinquish m => m.wf
  | .fwWrite m => m.wf
  | .fwVerify m => m.wf
  | .fwSwitch m => m.wf
  | .fwStatus m => m.wf
  | .counterCatalog m => m.wf
  | .counterRead m => m.wf
  | .statusRead m => m.wf
  | .descRead m => m.wf
  | .mcLinkRead m => m.wf
  | .keyTrace m => m.wf
  | .eventLogRead m => m.wf
  | .eventCatalog m => m.wf
  | .mspiWrite b => decide (b.length ≤ 4128)
  | .mspiStatus => true
  | .mspiRead => true
  | .extest => true
  | .idcode => true
  | .samplePreload => true
  | .clamp => true
  | .highz => true
  | .dbgStatus => true
  | .dbgLock => true
  | .dbgAccess => true
  | .factory _ => true
  | .bypass _ => true
  | .debugAction _ => true
  | .testLogicReset => true
  | .plkPollPeriodWrite _ => true
  | .plkIntCauseClear _ => true
  | .plkIntEnableWrite _ => true
  | .pwrDomainStoppedClear _ => true
  | .plkMbCmdProd _ _ => true
  | .plkMbCplCons _ _ => true
  | .plkErrlogRead _ => true
  | .plkErrlogOverflow => true
  | .windowStageWrite _ _ _ => true
  | .windowCommit _ _ => true
  | .windowDisable _ _ => true
  | .ringRun _ _ => true
  | .ringStop _ _ => true
  | .ringSizeSet _ _ => true
  | .plkRingProd _ _ => true
  | .hostRegisterWrite bar o b => hostWriteWf bar o b
  | .frameReceive _ b _ => decide (b.length ≤ 65535)
  | .lookupComplete _ _ _ => true
  | .admission _ => true
  | .shuttleSlot => true
  | .treadleRotation => true
  | .competingTimeout _ _ _ => true
  | .egressSelect _ => true
  | .cellRead _ _ => true
  | .frameTransmitEnd _ => true
  | .preemption _ => true
  | .preemptVerify _ _ => true
  | .frameAged _ _ _ => true
  | .quadrantDrained _ => true
  | .bankClearDone _ => true
  | .gateEntryStart _ _ => true
  | .gateCycleStart _ _ => true
  | .gclCtReached _ _ => true
  | .stitchOverrideEnd _ _ => true
  | .sgateEntryStart _ _ => true
  | .frerResetTimeout _ _ => true
  | .frerLatentTest _ _ => true
  | .frerLatentReset _ _ => true
  | .gptpSyncReceived _ _ _ _ => true
  | .syncReceiptTimeout _ _ => true
  | .stitchEdge _ _ _ _ _ => true
  | .standstillTimeout _ _ => true
  | .keyFire _ k => k.wf
  | .markPulseEnd _ _ => true
  | .epochFree => true
  | .zoneSwapRetry _ => true
  | .fragResolvedExpiry _ _ => true
  | .fragEarlyExpiry _ _ => true
  | .gatewayDeliver => true
  | .containerFlush _ _ => true
  | .canTxTimeout _ _ => true
  | .canFrameRx _ _ m => m.wf
  | .canBusIdle _ => true
  | .canTxComplete _ _ => true
  | .canErrorDetected _ _ _ _ => true
  | .busOffRecoveryDone _ => true
  | .busIntegrationDone _ => true
  | .transceiverWakeWait _ _ => true
  | .rateDwellExpiry _ _ => true
  | .linScheduleSlot _ _ => true
  | .linHeaderRx _ _ _ _ => true
  | .linResponseRx _ b _ _ => decide (1 ≤ b.length ∧ b.length ≤ 8)
  | .linResponseTimeout _ _ n => decide (n ≤ 9)
  | .addressClaimRx _ m => m.wf
  | .isoNetworkMessage _ m => m.wf
  | .selSuperframeTx _ => true
  | .selSighting _ _ h => h.length == 16
  | .selCandidateCheck _ _ h => h.length == 16
  | .selHeaderRx _ h => h.length == 16
  | .selBlockLockLoss _ => true
  | .selThreadBlockRx _ _ b => b.length == 8
  | .selThreadIdle _ _ => true
  | .selDiscBlockRx _ b => b.length == 8
  | .sdccBurst _ _ _ _ => true
  | .selLosSet _ _ => true
  | .selLosClear _ _ => true
  | .selPlugIn _ _ => true
  | .selRateDwellEnd _ _ => true
  | .selQualifyEnd _ _ _ => true
  | .selQualRdiEnd _ _ => true
  | .selIdentRx _ b => decide (b.length ≤ 512)
  | .selIdentAckRx _ => true
  | .selIdentResend _ _ => true
  | .selIdentTimeout _ _ => true
  | .selMapSetRx _ b => decide (b.length ≤ 512)
  | .selMapAckRx _ b => decide (b.length ≤ 512)
  | .selMapSetResend _ _ => true
  | .selSfnSwitch _ => true
  | .selMapRevert _ => true
  | .selMapTimeout _ _ => true
  | .selUnhitchRx _ => true
  | .selUnplugTimeout _ _ => true
  | .linkUp _ _ _ _ => true
  | .linkDown _ => true
  | .trainingFail _ => true
  | .phyPowerGood _ => true
  | .fastlinkFallback _ _ => true
  | .lldpRx _ b => decide (b.length ≤ 9216)
  | .lldpTx _ _ => true
  | .lldpTtlExpiry _ _ => true
  | .lldpWaitExpiry _ _ => true
  | .absentHoldExpiry _ _ => true
  | .keyFetch _ _ _ _ _ => true
  | .rngHealthFail => true
  | .lcNonceExpiry _ => true
  | .debugNonceExpiry _ => true
  | .bodkinPipelineEnter => true
  | .bodkinPipelineExit _ => true
  | .keeperCryptoRequest r => r.wf
  | .cmdLockoutEnd _ _ => true
  | .mutatorTimeout _ => true
  | .replyWrite _ => true
  | .placketPoll _ => true
  | .dmaTxDescriptor _ => true
  | .dmaRxDescriptor _ => true
  | .pcieCompletion t _ b => decide (t < 1024 ∧ b.length ≤ 4096)
  | .cplTimeout _ t => decide (t < 1024)
  | .fcStall _ _ => true
  | .pllLock _ => true
  | .clockFault _ => true
  | .ref32Timeout _ => true
  | .initiatorTimeout _ _ _ => true
  | .resyncComplete _ _ _ => true
  | .domainSwitched _ => true
  | .dozeWake _ => true
  | .nmSleepWaitExpiry _ _ => true
  | .nmFalseWakeExpiry _ _ => true
  | .nmKaPoll _ => true
  | .nmKeepaliveTx _ _ => true
  | .nmKeepAliveRx _ m => m.wf
  | .nmReadyToSleepRx _ m => m.wf
  | .nmConsentRx _ m => m.wf
  | .nmRefuseRx _ m => m.wf
  | .tc10SleepAck _ => true
  | .nmConsentTimeout _ _ => true
  | .tc10WakeRx _ => true
  | .wakePin _ => true
  | .selectiveWakeFrame _ m _ => m.wf
  | .wupPattern _ => true
  | .standbyRxdWake _ => true
  | .linDeepWake _ => true
  | .tc10DeepWake _ => true
  | .wakeOscStop _ => true
  | .deepWakeSequence _ => true
  | .lockstepMismatch => true
  | .comparatorFault => true
  | .delayParityError => true
  | .inputDisagreement => true
  | .tcmEccError _ => true
  | .memoryScrub _ _ _ => true
  | .tableEccError => true
  | .watchdogService _ => true
  | .watchdogExpiry _ => true
  | .railFault _ => true
  | .temperatureThreshold _ _ => true
  | .gateOutputMismatch _ => true
  | .timeCopyMismatch => true
  | .gateTokenTimeout => true
  | .lampHeartbeatMissing _ => true
  | .faultNReadbackFail => true
  | .keeperSelfTestDone _ => true
  | .twinHelloTx _ => true
  | .twinHelloRx _ b => b.wf
  | .twinWaitTimeout _ => true
  | .twinHbToggle _ => true
  | .twinHbLoss _ => true
  | .twinSilenceTimeout _ => true
  | .twinSupervisorReady _ => true
  | .twinFullPartRx _ p n r => partWf p n r
  | .twinDeltaRx _ p n r => partWf p n r
  | .twinAckRx _ => true
  | .twinAckTimeout _ => true
  | .twinDeltaTx _ => true
  | .twinFullSnapshotTx _ => true
  | .twinRelayUpRx _ k n b => relayWf k n b
  | .twinRelayDownRx _ k n b => relayWf k n b
  | .twinRelinquishRx _ => true
  | .twinTakebackReqRx _ => true
  | .twinTakebackGrantRx _ => true
  | .twinLeaveRx _ => true
  | .twinLightsOutRx _ t => decide (t < 256)
  | .twinStatusRx _ b => decide (b.length ≤ 8192)
  | .twinHoldOffExpiry _ => true
  | .twinGrantTimeout _ => true
  | .twinDeferredApply _ => true
  | .twinEpochSwapRetry _ => true
  | .powerOnReset _ => true
  | .rstNReset _ _ => true
  | .moduleReset _ => true
  | .keeperReset _ => true
  | .pcieFundamentalReset => true
  | .functionLevelReset => true
  | .configLoadComplete _ => true
  | .fwSwitchResume _ => true
  | .vinBrownout => true
  | .vinCrank _ => true
  | .vinCrankTimeout _ => true
  | .vinOvervolt => true
  | .selBlockLockAcquired _ => true
  | .pcieLinkStateChange _ => true
  | .pcieConfigWrite _ => true
  | .grandmasterSelection _ _ => true
  | .mkaPduRx _ k w => k.all Msg.wf && w.all Msg.wf
  | .linWakeRx _ => true
  | .wakePinRelease _ => true
  | .vinAboveStartThreshold _ => true
  | .lampSelfCheckFault => true

end Sys2Proof
end

