-- ==== Sys2Proof/Tests/Slice0.lean ====
section
/-! SUPPORT. Tests/Slice0.lean: the model's own tests: commands that WellFormed refuses, single steps on small states, and for every statement with hypotheses a witness: a concrete state and operands that meet all of them. -/

open Sys2Proof Sys2Proof.Machine Sys2Proof.Claims

-- The closed facts below are many: each is checked before the next, in one thread.
set_option Elab.async false

namespace Sys2Proof.Tests

/-! ## Helpers -/

/-- A closed decidable fact, evaluated by the kernel. -/
theorem sure {p : Prop} [Decidable p] (h : decide p = true := by decide +kernel) : p := of_decide_eq_true h

/-- `c` completes at `s`. In a witness this is shown through the statement: the proof meets every hypothesis of the clause that it names, at this state and with these operands. -/
def Fires (c : Instr) (s : State) : Prop := ∃ t, Completes c s t

/-- A message with parameters `p`, written by the MSPI controller; it carries no trailer. -/
def msg (p : List Byte) : Msg := { via := .mspi, b0 := 0x10, tag := 7, plen := BitVec.ofNat 16 p.length, seq := 1, stat := 0, res := 0, body := p }

/-- A module as delivered, in PROVISION, whose Keeper runs, with every domain powered and the Bodkin in SERVICE. -/
def ready : State :=
  { State.reset with kpr := { up := true }, bod := { mode := .service }, pwr := { powered := 0xFFFF, closed := 0 }, fab := { quads := [(0, .on), (1, .on), (2, .on), (3, .on)] }, yel := { mspi := { tokens := 1000000000 } }, boot := { count := 1, booted := true } }

/-- `ready` as a message from MSPI finds it: its token is taken and it is counted as accepted. -/
def after (s : State) : State := admitted ⟨0, 0, msg []⟩ false (spendToken .mspi s)

/-- Whether a message from MSPI without a trailer passes checks 1 to 9 of R311 at once. -/
def takes (s : State) : Bool :=
  decide (s.pwr.state ≠ .doze) && keeperRuns s && s.yel.pauseUntil.isNone && s.yel.waiting.isNone && decide (s.yel.queue = []) && !(locked .mspi s)
    && hasToken .mspi s && decide ((getTrans .mspi s).outstanding < 64) && decide (lcState (spendToken .mspi s) = 1)

theorem admits_of_takes {s : State} {cls op : Nat} {p : List Byte} (h : takes s = true) (hp : p.length ≤ 4096) : admits ⟨cls, op, msg p⟩ s (after s) := by
  simp only [takes, Bool.and_eq_true, decide_eq_true_eq, Bool.not_eq_true', Option.isNone_iff_eq_none] at h
  obtain ⟨⟨⟨⟨⟨⟨⟨⟨h1, h2⟩, h3⟩, h4⟩, h5⟩, h6⟩, h7⟩, h8⟩, h9⟩ := h
  have hl : (BitVec.ofNat 16 p.length).toNat = p.length := by simp [BitVec.toNat_ofNat]; omega
  refine ⟨h1, h2, .inr rfl, by simp [mustWait, h3, msg, transportOf], by simp [laneFull, hdrBit, msg], h4, h5, by simp [msg], by simp [hdrBit, msg], by simp [hdrBit, msg], by simp [hdrBit, msg], rfl, rfl, by simp [msg, hl, hp], by simp [msg, hl, hdrBit], .inl h6, h7, h8, false, ?_, by simp [tokenTaken, hdrBit, msg, transportOf, after, admitted]⟩
  have ht : tokenTaken ⟨cls, op, msg p⟩ s = spendToken .mspi s := by simp [tokenTaken, hdrBit, msg, transportOf]
  rw [ht]
  simp only [authenticate, h9, show hdrBit (msg p) 2 = false by simp [hdrBit, msg]]
  simp

/-- Check 11, as `runnable` asks it of a command that waits for nothing. -/
def mayRun (c : Cmd) (p : List Byte) (s : State) : Bool :=
  allowed c p s && (c.domains p).all (fun d => !(s.plk.stopped.getLsbD d) && !(domainStuck d s)) && (c.waits p s).isNone

theorem runnable_of_mayRun {c : Cmd} {p : List Byte} {s : State} (h : mayRun c p s = true) : runnable c p s := by
  simp only [mayRun, Bool.and_eq_true, List.all_eq_true, Bool.not_eq_true', Option.isNone_iff_eq_none] at h
  exact ⟨h.1.1, fun d hd => h.1.2 d hd, fun w hw => by rw [h.2] at hw; cases hw⟩

theorem paramsOf_msg {p : List Byte} (h : p.length ≤ 4096) : paramsOf (msg p) = p := by
  simp only [paramsOf, msg, BitVec.toNat_ofNat]
  rw [Nat.mod_eq_of_lt (by omega), List.take_length]

/-- The hypotheses of a `Runs` clause, all met by a message with parameters `p` at `s`. The clause is named by its place in the statement. -/
def Met {mk : Msg → Instr} {c : Cmd} {ok : Via → List Byte → State → Prop} {eff : Via → List Byte → State → State × List Byte} (_ : Runs mk c ok eff) (s : State) (p : List Byte) : Prop :=
  admits ⟨c.cls, c.opcode, msg p⟩ s (after s) ∧ runnable c (paramsOf (msg p)) (after s) ∧ pairActive (after s) = false ∧ ok (msg p).via (paramsOf (msg p)) (after s)

theorem met {mk : Msg → Instr} {c : Cmd} {ok : Via → List Byte → State → Prop} {eff : Via → List Byte → State → State × List Byte} {h : Runs mk c ok eff} {s : State} {p : List Byte}
    (h1 : takes s = true) (h2 : p.length ≤ 4096) (h3 : mayRun c p (after s) = true) (h4 : pairActive (after s) = false) (h5 : ok .mspi p (after s)) : Met h s p := by
  rw [Met, paramsOf_msg h2]
  exact ⟨admits_of_takes h1 h2, runnable_of_mayRun h3, h4, h5⟩

/-- As `met`, for a command that would wait for `w`, which is there. -/
theorem met_waited {mk : Msg → Instr} {c : Cmd} {ok : Via → List Byte → State → Prop} {eff : Via → List Byte → State → State × List Byte} {h : Runs mk c ok eff} {s : State} {p : List Byte} {w : WaitFor × Nat}
    (h1 : takes s = true) (h2 : p.length ≤ 4096) (h3 : mayRun { c with waits := fun _ _ => none } p (after s) = true) (hw : c.waits p (after s) = some w) (hs : c.start p (after s) = after s)
    (ho : waitOver w.1 (after s) = true) (h4 : pairActive (after s) = false) (h5 : ok .mspi p (after s)) : Met h s p := by
  rw [Met, paramsOf_msg h2]
  have hr := runnable_of_mayRun h3
  exact ⟨admits_of_takes h1 h2, ⟨hr.1, hr.2.1, fun x hx => by rw [hw] at hx; cases hx; exact ⟨hs, ho⟩⟩, h4, h5⟩


/-- As `Met`, for a `Declines` clause. -/
def MetBy {mk : Msg → Instr} {c : Cmd} {e : Status} {ok : Via → List Byte → State → Prop} {eff : List Byte → State → State} (_ : Declines mk c e ok eff) (s : State) (p : List Byte) : Prop :=
  admits ⟨c.cls, c.opcode, msg p⟩ s (after s) ∧ runnable c (paramsOf (msg p)) (after s) ∧ ok (msg p).via (paramsOf (msg p)) (after s)

theorem met_by {mk : Msg → Instr} {c : Cmd} {e : Status} {ok : Via → List Byte → State → Prop} {eff : List Byte → State → State} {h : Declines mk c e ok eff} {s : State} {p : List Byte}
    (h1 : takes s = true) (h2 : p.length ≤ 4096) (h3 : mayRun c p (after s) = true) (h5 : ok .mspi p (after s)) : MetBy h s p := by
  rw [MetBy, paramsOf_msg h2]
  exact ⟨admits_of_takes h1 h2, runnable_of_mayRun h3, h5⟩
/-- A list entry of 1 µs with every gate open. -/
def gateEntry : Nat := 0xFF <<< 112 ||| 1000 <<< 80

/-- A list of `gateEntry` alone, with a cycle of 1 µs. -/
def openList : GateList := { len := 1, cycle := 1000, enable := true, ents := [(0, BitVec.ofNat 128 gateEntry)] }

/-- A stream gate's list: open, with a cycle of 1 µs. -/
def sgOpen : SgList := { ents := [⟨true, 255, 1000⟩], cycle := 1000 }

/-- Shadow lists written at port 26 and stream gate 7. -/
def listed : State := setSGate 7 { shadow := sgOpen } (setGates 26 { shadow := openList } ready)

/-- Those lists committed for 1 ms of Beacon time. -/
def committed : State := setSGate 7 { shadow := sgOpen, pend := some 1000000 } (setGates 26 { shadow := openList, pend := some 1000000 } ready)

/-- Port 5 linked. -/
def linked : State := setPort 5 { getPort 5 ready with up := true, mode := 2, role := 1 } ready

/-- A grandmaster, and a Beacon with a step that waits to be accepted. -/
def grandmaster : State := setBcn { ready.bcn with mode := .grandmaster } ready
def stepping : State := setBcn { ready.bcn with mode := .holdover, stepPending := true, pendOffset := -70000 } ready

/-- A pending epoch that holds nothing. -/
def drafted : State := setPat { ready.pat with pending := some {} } ready

/-- Pending tables whose root names a node that they do not own; a pending epoch that holds them. -/
def badTree : EpochTables := { ownTree := true, roots := [(0, some 5)] }
def misdrafted : State := setPat { ready.pat with pending := some badTree } ready

/-- Channel C15 is bus-off. -/
def canDown : State := setCan 15 { getCan 15 ready with bus := .busOff } ready

/-- Link S1 enabled. -/
def hitched : State := setLink 1 { getLink 1 ready with record := linkRecordReset ||| BitVec.twoPow 64 63 } ready

/-- Stitch base 2 takes samples, base 3 takes its direction by command. -/
def based : State := setBase 2 { record := BitVec.ofNat 128 (4 <<< 125) } (setBase 3 { record := BitVec.ofNat 128 (3 <<< 125) } ready)

/-- Link S1 in FRAME. -/
def framed : State := setLink 1 { getLink 1 ready with record := linkRecordReset ||| BitVec.twoPow 64 63, inFrame := true } ready

/-- TRIM with every domain. -/
def trimmed : State := setPwr { ready.pwr with state := .trim, trimMask := 0xFFFF } ready
/-- Attributes of a key that every lifecycle state, master, world and use but WRAP admits, and of a wrap key. -/
def useAttr : Nat := 127 <<< 102 ||| 7 <<< 110 ||| 0xFF <<< 113 ||| 1 <<< 121 
def wrapAttr : Nat := 127 <<< 102 ||| 1 <<< 109 ||| 0xFF <<< 113 ||| 1 <<< 121 ||| 1 <<< 125

/-- Slot 63 holds a 16-byte key, slot 6 a wrap key. -/
def keyed : State :=
  let s := (updateSlot 63 (some (List.replicate 16 1, storedAttr 0 0 (BitVec.ofNat 128 useAttr))) ready).getD ready
  (updateSlot 6 (some (List.replicate 32 2, storedAttr 0 0 (BitVec.ofNat 128 wrapAttr))) s).getD s

/-- All four roots programmed, and nonces drawn that stand for another minute. -/
def challenged : State := { ready with thm := { programmed := 15, lcNonce := some (List.replicate 32 3, 1), dbgNonce := some (List.replicate 32 3, 1) } }

/-- A transmit MACsec context 2047 whose suite has 128-bit keys. -/
def secured : State := setCtx 2047 { record := BitVec.ofNat 256 (1 <<< 254) } keyed

/-- Three bytes staged at MSPI. -/
def staged : State := setTrans .mspi { getTrans .mspi keyed with staged := bytesOf [1, 2, 3] } keyed

/-- The Bodkin in TEST. -/
def testing : State := { ready with bod := { mode := .test } }

/-- A safe state with one code, whose conditions have ended. -/
def halted : State := { ready with cyc := 5000000, lamp := { safe := true, codes := [0x0700], lastS := some 0 }, kpr := { up := true, testPassed := true } }

/-- Bank B verified. -/
def updated : State := setBank 1 { factory := true, intact := true, verified := true } ready

/-- Boot ROM runs. -/
def rescued : State := setBank 1 { factory := true, intact := true, verified := true } { ready with boot := { ready.boot with bank := 2 } }

/-- An epoch whose tree sends untagged frames of zone 0 to leaf 9. -/
def rooted : State := setPat { ready.pat with current := some { roots := (List.range 80).map (fun i => (i, some 9)), nodes := [9] }, nodeMem := [(9, BitVec.ofNat 512 (1 <<< 510))] } ready

/-- A frame of 60 bytes. -/
def frame60 : List Byte := natBytes 6 0x0180C2000000 ++ natBytes 6 2 ++ natBytes 2 0x88B5 ++ List.replicate 46 0

/-- One event in the log. -/
def logged : State := setBoot { ready.boot with events := [List.replicate 96 0], eventTotal := 1 } ready

/-- In control of a whole-unit pair whose partner stands by. -/
def paired : State := setTwin { ready.twin with mode := 1, st := .active, partner := some .standby } ready

theorem openBlob_sealed {key : List Byte} {slot : Nat} {attr iv ct : List Byte} (hi : iv.length = 12) (ht : (gcmTag key iv (natBytes 1 slot ++ attr) ct).length = 16) :
    openBlob key slot attr (iv ++ ct ++ gcmTag key iv (natBytes 1 slot ++ attr) ct) = some (gcmText key iv ct) := by
  have h1 : (iv ++ ct ++ gcmTag key iv (natBytes 1 slot ++ attr) ct).length = 28 + ct.length := by simp [hi, ht]; omega
  have h2 : (iv ++ ct ++ gcmTag key iv (natBytes 1 slot ++ attr) ct).take 12 = iv := by rw [List.append_assoc, List.take_left' hi]
  have h3 : ((iv ++ ct ++ gcmTag key iv (natBytes 1 slot ++ attr) ct).drop 12).take ct.length = ct := by rw [List.append_assoc, List.drop_left' hi, List.take_left]
  have h4 : (iv ++ ct ++ gcmTag key iv (natBytes 1 slot ++ attr) ct).drop (12 + ct.length) = gcmTag key iv (natBytes 1 slot ++ attr) ct := by
    rw [List.drop_left' (by simp [hi])]
  simp only [openBlob, h1, h2, show 28 + ct.length - 28 = ct.length by omega, show 28 + ct.length - 16 = 12 + ct.length by omega, h3, h4, if_true]

/-- Debug opened at level 2 under the owner's root. -/
def unlocked : State := { ready with dbg := { state := .auth 2 false } }
/-- A state at a cycle, with a command port's service as `ready` has it. -/
def at_ (n : Nat) (s : State) : State := { s with cyc := n }

/-- An event waits for delivery; no transport subscribes. -/
def eventful : State := raiseEv .linkUp 3 [] ready

/-- The SECTAG-less ECHO message with another header byte, length field or body. -/
def headed (b : Byte) (plen : Nat) (body : List Byte) : Msg := { msg [] with b0 := b, plen := BitVec.ofNat 16 plen, body := body }

/-- MSPI in lockout, without a token, with 64 commands outstanding. -/
def lockedOut : State := setTrans .mspi { getTrans .mspi ready with lockedUntil := 1 } ready
def spent : State := setTrans .mspi { getTrans .mspi ready with tokens := 0 } ready
def crowded : State := setTrans .mspi { getTrans .mspi ready with outstanding := 64 } ready

/-- A module in FIELD. -/
def fielded : State := { ready with thm := { programmed := 15, log := [(0, 0xC8), (1, 0xD0)] } }

/-- A mutator that waits for FRAME on S0 until cycle 500. -/
def waitingFrame : State := setYel { ready.yel with waiting := some (⟨8, 8, msg []⟩, .frame 0, 500) } ready

/-- Replies and events that wait at MSPI. -/
def replying : State := setTrans .mspi { getTrans .mspi ready with replies := [(.mspi, true, [1])] } ready
def eventing : State := setTrans .mspi { getTrans .mspi ready with events := [[2]] } ready

/-- DBG_ACCESS loaded with open debug. -/
def debugging : State := { ready with dbg := { state := .auth 2 false, ir := 0x12 } }
/-- Window 0 maps 4 KiB at 0 for reads and writes. -/
def window4k : BitVec 128 := BitVec.ofNat 128 (7 <<< 125 ||| 12 <<< 112)
def mapped : State := setWindow 0 { active := window4k, staged := window4k } { ready with plk := { link := .l0, bme := true, maxRead := 512 } }

/-- A ring has one descriptor, of `len` bytes at host address 0. -/
def ringed (r len : Nat) (s : State) : State :=
  setRing r { run := true, prod := 1, handed := 1 } { s with plk := { s.plk with descMem := memWrite [] (r * 0x400000) (natBytes 32 (len <<< 237)).reverse } }

/-- A read request of 4 bytes of ring 0 is out. -/
def reading : State := { mapped with plk := { mapped.plk with outs := [{ tag := 0, ring := 0, serial := 0, addr := 0, len := 4, off := 0, deadline := 100 }] } }

/-- A reply waits for the completion ring of pair 0. -/
def answering : State := setTrans .placket { getTrans .placket ready with replies := [(.ring 0, true, List.replicate 16 0)], outstanding := 1 } ready

/-- A whole frame of 64 bytes that is admitted, with handle 0, at the head of a queue. -/
def frame64 : Frame := { ident := 0, entry := 27, keyPort := 27, bytes := List.replicate 64 0, ended := true, cells := [0], stage := .admitted, queues := [(255, false)], refs := 1 }
def queued (q : Nat) (s : State) : State := setQueue q [{ frame := 0 }] { s with fab := { s.fab with frames := [frame64] } }

/-- Ring 8 transfers a frame of 64 bytes to the host. -/
def transferring : State := setRing 8 { run := true, prod := 1, handed := 1, active := some { desc := 0, window := 0, serial := 0, len := 64 } } mapped

/-- `ready` with a frame in the fabric. -/
def holding (f : Frame) (s : State) : State := { s with fab := { s.fab with frames := [f], nextIdent := f.ident + 1 } }

/-- In DOZE, with port 5 linked. -/
def dozing : State := { linked with pwr := { linked.pwr with state := .doze } }

/-- A frame from port 5 whose lookup is asked for, under epoch 0; a frame whose verdict sends it to port 26. -/
def asked (ep : Option Nat) : Frame := { ident := 0, entry := 5, keyPort := 5, bytes := frame60, epoch := ep, stage := .asked, walker := some 4 }
def judged : Frame := { ident := 0, entry := 5, keyPort := 5, bytes := List.replicate 64 0, ended := true, stage := .ready, verdict := { ports := [26], cls := 7 } }

/-- A frame of 512 bytes in four cells, one of them sent from port 26. -/
def frame512 : Frame := { ident := 0, entry := 27, keyPort := 27, bytes := List.replicate 512 0, ended := true, cells := [0, 1, 2, 3], stage := .admitted, queues := [(208, false)], refs := 1, started := true }
def sending (done : Nat) : State := setTx 26 (some { frame := 0, cls := 0, done := done, returned := [done] }) (holding frame512 (setPort 26 { getPort 26 ready with up := true, mode := 5, record := (getPort 26 ready).record ||| BitVec.twoPow 64 49 } ready))

/-- Preemption active at port 26, with a hold of its gates. -/
def held : State := setGates 26 { hold := true } { sending 1 with sch := { preempt := [(26, 1)] } }

/-- The frame of port 26 has been preempted. -/
def preempted : State := setPreempted 26 (some { frame := 0, cls := 0, done := 1 }) (setTx 26 none { sending 1 with sch := { preempt := [(26, 1)] } })

/-- Quadrant 3 clearing or draining. -/
def quadIn (x : QuadState) : State := setQuad 3 x ready

/-- Lists in force at port 26 and stream gate 255; an override in force at port 26 until 500 ns. -/
def gated : State := setSGate 255 { act := sgOpen, live := true } (setGates 26 { act := openList, live := true, ovr := some { gates := 0, stop := 500, pos := 0 } } ready)

/-- A recovery function 2047 of two paths that has passed `n` frames. -/
def recovering (n : Nat) : State := setRecov 2047 { present := true, resetMs := 1, paths := 2, testMs := 1, latResetMs := 1, passed := n, takeAny := false } ready

/-- A Beacon in LOCKED with a history. -/
def following : State := setBcn { ready.bcn with mode := .locked, history := [5] } ready

/-- Stitch bases that count: QUAD, PULSE_DIR and PULSE_CMD, each with one stitch a count and a standstill time of 1 ms. -/
def counting : State :=
  let rec_ (m : Nat) : BitVec 128 := BitVec.ofNat 128 (m <<< 125 ||| 3 <<< 123 ||| 1 <<< 104 ||| 1 <<< 88 ||| 0x10000 <<< 56)
  setBase 0 { record := rec_ 1 } (setBase 1 { record := rec_ 2, moving := true, pos := 1 } (setBase 2 { record := rec_ 3, moving := true } ready))

/-- Mark 7 with a TIME_AT key that is due, and with a pulse that has run out. -/
def marking : State := setMark 7 { record := BitVec.ofNat 64 (1 <<< 63 ||| 50), keys := [0] } ready
def pulsing : State := setMark 7 { record := BitVec.ofNat 64 (1 <<< 63 ||| 50), pulseEnd := some 0 } ready

/-- Port 26 with a stitch entry 0 that base 1 has crossed. -/
def stitching : State :=
  setGates 26 { act := { len := 1, cycle := 1000, enable := true, ents := [(0, BitVec.ofNat 128 (1 <<< 126 ||| 0xFF <<< 112 ||| 1000 <<< 80 ||| 1 <<< 122 ||| 1 <<< 16))] }, live := true } counting

/-- A draining epoch 3, without and with a frame that refers to it. -/
def draining : State := setPat { rooted.pat with draining := some { number := 3 } } rooted
def referred : State := { draining with edge := { draining.edge with inbox := [{ bytes := frame60, ek := .ethernet, keyPort := 28, route := 0, epoch := some 3, stamp := 0 }] } }

/-- A zone swap that waits to be tried again. -/
def swapping (s : State) : State := { s with seam := { s.seam with swapWaits := true, keeperZones := [(4, some 2)] } }

/-- A fragment entry 9, RESOLVED or EARLY. -/
def fragmented (early : Bool) : State := setFrags [{ slot := 9, ident := [1], early := early, epoch := 0, since := 0 }] ready

/-- A classic message, and an FD message of 12 bytes. -/
def canMsg : CanMsg := { format := .classicBase, rtr := false, brs := false, esi := false, ident := 5, dlc := 2, data := [1, 2] }
def fdMsg : CanMsg := { canMsg with format := .fdBase, dlc := 9, data := List.replicate 12 0 }

/-- A message that the gateway has taken under epoch 0, whose route 0 forwards it to channel C0, at once or through slot 5. -/
def taken (ek : EdgeKind) (ep : Option Nat) (m : CanMsg) (s : State) : State :=
  { s with edge := { s.edge with inbox := [{ bytes := canPseudo 15 false m, ek := ek, keyPort := 28, route := 0, epoch := ep, stamp := 0 }] } }
def slotted : State := setPat { rooted.pat with current := some { routes := [(0, BitVec.ofNat 128 (1 <<< 99 ||| 5 <<< 93))] } } rooted

/-- Channel C0 on the bus. -/
def canOn : CanChan := { record := canRecordReset 0 ||| BitVec.twoPow 128 127, bus := .on, stbN := true, en := true }
def onBus (c : CanChan) : State := setCan 0 c ready

/-- A container 3 with one record. -/
def contained : State := { ready with edge := { ready.edge with acf := [(3, { cont := { flush := 100 }, recs := [[1]] })] } }

/-- Rate detection with two candidates. -/
def seeking (n : Nat) : CanChan := { record := canRecordReset 0 ||| BitVec.ofNat 128 (1 <<< 127 ||| 2 <<< 122), bus := .on, cands := [0, 0], rounds := 1, rateState := 1, cand := n }

/-- LIN channel 0 runs at 19200 bit/s: it publishes frame 1 and subscribes to frame 2, of 2 bytes each, and ignores frame 3. -/
def linOn (commander : Bool) : LinChan := { record := BitVec.ofNat 64 (1 <<< 63 ||| (if commander then 1 else 0) <<< 62 ||| 19200 <<< 47), running := true }
def onLin (c : LinChan) : State :=
  setLin 0 c (setPat { rooted.pat with current := some { linFrames := [(1, { len := 2, role := 1, init := [1, 2] }), (2, { len := 2, role := 2 }), (3, {})] } } rooted)
def linEntry (f : Nat) : BitVec 32 := BitVec.ofNat 32 (f <<< 24 ||| 100)

/-- Network 3 of LIN channel 0. -/
def networked (m : NetMode) : State := setNet 3 { record := BitVec.ofNat 128 (3 <<< 124 ||| 1 <<< 123 ||| 1 <<< 53 ||| 1 <<< 61 ||| 100 <<< 43 ||| 10 <<< 35 ||| 10 <<< 27), mode := m } ready

/-- An interconnect instance of channels C0 and C1; an address claim of 0x1D, and another message. -/
def interconnected : State := setPat { rooted.pat with current := some { isos := [(0, { tractor := 1, implement := 2 })] } } rooted
def claim : CanMsg := { canMsg with format := .classicExt, ident := 0x18EEFF1D, dlc := 8, data := List.replicate 8 7 }

/-- A Selvage header with an SFN, a first byte of block 1 and a rate and cause. -/
def selHeader (sfn b8 b11 : Nat) : List Byte :=
  let a := natBytes 4 0x5E1AC6F9 ++ natBytes 2 sfn
  let b := natBytes 1 b8 ++ [0, 0] ++ natBytes 1 b11 ++ List.replicate 4 0
  a ++ natBytes 2 (crc16 (a ++ b)) ++ b

/-- Link S0 in a state; enabled, its blocks locked; in FRAME. -/
def onLink (x : SelLinkSt) : State := setLink 0 x ready
def selOn : SelLinkSt := { record := linkRecordReset ||| BitVec.twoPow 64 63, blockLock := true }
def selFrame (h : Hitch) : SelLinkSt := { selOn with inFrame := true, hitch := h, hdrGood := true }

/-- A first block of a thread whose record goes on. -/
def firstBlock : List Byte := [1, 0x10, 8, 0, 0, 0, 5, 1]

theorem firstBlock_goes_on (k : Nat) (h1 : 1 ≤ k) (h2 : k ≤ 7) :
    recordLen false (((firstBlock.drop 1).take 7).take k) = some none ∨ ∃ n, recordLen false (((firstBlock.drop 1).take 7).take k) = some (some n) ∧ k < n := by
  rcases (by omega : k = 1 ∨ k = 2 ∨ k = 3 ∨ k = 4 ∨ k = 5 ∨ k = 6 ∨ k = 7) with rfl | rfl | rfl | rfl | rfl | rfl | rfl
  · exact .inl sure
  all_goals exact .inr ⟨16, sure, sure⟩

/-- An IDENT of a controller's peer; a follower in FRAME. -/
def identSelf : List Byte := List.replicate 8 1 ++ [1] ++ List.replicate 8 0 ++ [2] ++ List.replicate 6 0
def following_ : SelLinkSt := { selFrame .up with record := (selFrame .up).record ||| BitVec.twoPow 64 62 }

/-- Port 5 enabled; linked, with partners of each state; a fast link-up that waits. -/
def portOn (q : PortSt) : State := setPort 5 { q with record := (portReset 5).record ||| BitVec.twoPow 64 63 } ready
def lldpPdu : List Byte := natBytes 2 (1 <<< 9 ||| 2) ++ bytesOf [4, 7] ++ natBytes 2 (2 <<< 9 ||| 2) ++ bytesOf [3, 9] ++ natBytes 2 (3 <<< 9 ||| 2) ++ bytesOf [0, 120] ++ bytesOf [0, 0]
def shutdownPdu : List Byte := natBytes 2 (1 <<< 9 ||| 2) ++ bytesOf [4, 7] ++ natBytes 2 (2 <<< 9 ||| 2) ++ bytesOf [3, 9] ++ natBytes 2 (3 <<< 9 ||| 2) ++ bytesOf [0, 0] ++ bytesOf [0, 0]
def upPort (partner : Nat) : PortSt := { portReset 5 with up := true, mode := 0, role := 1, partner := partner }
def knownPort : PortSt := { upPort 2 with chassisType := 4, chassis := [7], portType := 3, portId := [9] }

/-- A packet for context 2047, at the lanes or processed. -/
def jobFrame (dir : Bool) : Frame := { frame64 with verdict := { ports := [29], job := some { ctx := 2047, dir := dir, outs := [26], fv := 0 } } }
def laned (s : State) : State := { s with bod := { s.bod with items := [{ frame := jobFrame false, bytes := frame60 }] } }
def piped (dir : Bool) : State := { secured with bod := { secured.bod with pipes := [(3, [{ frame := jobFrame dir, bytes := frame60 }])] } }

/-- The transmit SA of that context, with the key of slot 63. -/
def withSa : State := setSa 8188 (BitVec.ofNat 256 (1 <<< 255 ||| 63 <<< 249 ||| slotGen 63 keyed <<< 217 ||| 1 <<< 8)) secured

/-- Other clocks and powers of `ready`. -/
def powered (w : Power) : State := setPwr w ready
def noLock (d : Nat) : Power := { ready.pwr with unlocked := BitVec.twoPow 16 d }
def moving (x : Transition) : State := powered { ready.pwr with transition := some x }
def deep : State := powered { ready.pwr with state := .deep, powered := 1 }

/-- DEEP with C0's decoder on, its selective wake in mode 0, 1 or 2. -/
def decoding (mode errors : Nat) : State :=
  setWake 0 { record := BitVec.ofNat 192 (mode <<< 190), errors := errors } (setCan 0 { canReset with record := BitVec.ofNat 128 (1 <<< 118) } deep)

/-- A configuration of one record that no image copy can hold, when its body is that long. -/
def hugeRecord (l : List Byte) (b : Bool) : ImageRec := ⟨1, 3, b, l⟩
def overfull (l : List Byte) : State := setBoot { ready.boot with records := [hugeRecord l false] } (at_ 500000000 (networked .awake))

theorem overfull_records (l : List Byte) : ∃ b, activeRecords (overfull l) = [hugeRecord l b] := by
  have h1 : (List.range 27).flatMap (fun p => gateRecords p (overfull l)) = [] := by show (List.range 27).flatMap (fun p => gateRecords p ready) = []; exact sure
  have h2 : (List.range 256).flatMap (fun i => sgateRecords i (overfull l)) = [] := by show (List.range 256).flatMap (fun p => sgateRecords p ready) = []; exact sure
  simp only [activeRecords, h1, h2, List.append_nil, show (overfull l).boot.records = [hugeRecord l false] from rfl, show (overfull l).boot.epochRecords = [] from rfl,
    show sortBy recOrder [hugeRecord l false] = [hugeRecord l false] from rfl, List.map]
  generalize wakeFirstRec _ _ _ _ = b
  cases b
  · exact ⟨false, rfl⟩
  · exact ⟨true, rfl⟩

theorem overfull_unsaved (l : List Byte) (hl : 1015744 < l.length) : snapshotFor (overfull l) = none := by
  obtain ⟨b, h⟩ := overfull_records l
  have n : l.length ≤ (imageBytes (hugeRecord l b)).length := by simp only [imageBytes, pad4, hugeRecord, List.length_append]; omega
  have : imageFits (activeRecords (overfull l)) = false := by
    simp only [imageFits, h, recordBytes, List.map, List.foldl, Bool.and_eq_false_iff, decide_eq_false_iff_not]
    omega
  simp [snapshotFor, this]

/-- Network 3 of C0, LIN0 and port 5, at 1 s; with a participant on C0; with port 5 linked. -/
def net3 (m : NetMode) : Net := { record := BitVec.ofNat 128 (3 <<< 124 ||| 1 <<< 123 ||| 1 <<< 98 ||| 1 <<< 53 ||| 1 <<< 61 ||| 100 <<< 43 ||| 10 <<< 35 ||| 10 <<< 27 ||| 0x600 <<< 16), mode := m }
def inNet (x : Net) : State := at_ 500000000 (setNet 3 x ready)
def withNode (silent : Nat) (s : State) : State := setNmChan 0 { nodes := 1 <<< 9, silent := mapSet 0 [] 9 silent } s
def withPort (s : State) : State := setPort 5 (upPort 0) s
def consenting (phase : Nat) : Net := { net3 .consent with phase := phase }

/-- A network message of node 9, or of another node. -/
def nmMsgOf (op node : Nat) : CanMsg := { canMsg with ident := 0x600, data := natBytes 1 op ++ natBytes 1 node }

theorem saved {s : State} (h : imageFits (activeRecords s) = true) (hb : bestCopy s = none) : snapshotFor s = some (writeImage (activeRecords s) s) := by simp [snapshotFor, h, hb]

/-- The watchdog runs from cycle 0. -/
def guarded : State := { ready with kpr := { up := true, wdActive := true } }

/-- Right after a reset, with the chip select held or not; a reset taken; a firmware switch's pause; a supply that is low. -/
def starting (strap : Bool) : State := setBoot { State.reset.boot with strap := strap } State.reset
def taking (k d : Nat) : State := setYel { ready.yel with resetTaken := some (k, d) } ready
def pausing (s : State) : State := setYel { s.yel with pauseUntil := some 7 } s
def lowVin (w : Power) : State := powered { w with vinLow := true }
def off : Power := { ready.pwr with state := .off, powered := 0 }

/-- Whole-unit mode in a state; a partner that stands by, seen at cycle 0. -/
def tw (st : TwinMode) : Twin := { mode := 1, st := st }
def twPair (x : Twin) : State := { ready with twin := { x with partner := some .standby, hbSeen := true } }
def twin1 (x : Twin) : State := { ready with twin := x }
def hdr0 : TwinHdr := { seq := 1, gen := 1 }
def hello (state : Nat) (serial : BitVec 64) : Hello := { serial := serial, fwVersion := 1, snapFormat := 0, state := state, digest := List.replicate 32 0 }
def aRecord : ImageRec := { cls := 1, opcode := 4, wakeFirst := false, body := [] }
def partOf (i : Nat) (full : Bool) : Incoming := { gen := 1, part := i, parts := 3, recs := [], full := full }

theorem updateSlot_some {n : Nat} {new : Option (List Byte × BitVec 128)} {s : State} (h : slotGen n s ≠ 2 ^ 32 - 1) :
    updateSlot n new s = some ((updateSlot n new s).getD s) := by
  simp only [updateSlot, h, if_false, Option.getD_some]

theorem numAt_left {h r : List Byte} {off n : Nat} (hn : off + n ≤ h.length) : numAt (h ++ r) off n = numAt h off n := by
  have h1 : n - ((h ++ r).length - off) = 0 := by simp; omega
  have h2 : n - (h.length - off) = 0 := by omega
  have h3 : ((h ++ r).drop off).take n = (h.drop off).take n := by
    rw [List.drop_append_of_le_length (by omega), List.take_append_of_le_length (by simp; omega)]
  rw [numAt, numAt, h1, h2, h3]

theorem numAt_two {x : Nat} (hx : x < 65536) : numAt (natBytes 2 x) 0 2 = x := by
  have h1 : numAt (natBytes 2 x) 0 2 = x / 256 % 256 * 256 + x % 256 := by simp [numAt, natBytes, beNat]
  omega

/-- The key of slot 63 is MSPI's command key; an ECHO under it with a good trailer and sequence 0. -/
def commanded : State := setTrans .mspi { getTrans .mspi keyed with keySlot := some 63 } keyed
def sealedEcho : Msg :=
  let m : Msg := { msg [] with b0 := 0x14, seq := 0 }
  { m with body := trailer (some (List.replicate 16 1)) (signedBytes ⟨1, 8, m⟩) }

/-- 64 packets wait at lane 0 of the Bodkin. -/
def fullLane : State := { ready with bod := { ready.bod with items := List.replicate 64 { frame := frame64, bytes := [] } } }

/-! ## WellFormed: one ill-formed term for each check, refused, and its neighbours that pass -/

theorem test_messages_too_long_refused : (Instr.echo (headed 0x10 0 (List.replicate 4113 0))).wf = false ∧ (Instr.echo (headed 0x10 0 (List.replicate 4112 0))).wf = true
    ∧ (Instr.mspiWrite (List.replicate 4129 0)).wf = false ∧ (Instr.mkaPduRx 0 (some (headed 0x10 0 (List.replicate 4113 0))) []).wf = false ∧ (Instr.mkaPduRx 0 none [headed 0x10 0 (List.replicate 4113 0)]).wf = false := sure

theorem test_can_messages_refused :
    [{ canMsg with ident := 2048 }, { canMsg with dlc := 3 }, { canMsg with brs := true }, { canMsg with rtr := true }, { claim with ident := 536870912 }, { claim with esi := true }, { fdMsg with rtr := true }, { fdMsg with dlc := 10 },
      { canMsg with format := .fdExt, ident := 536870912 }, { canMsg with format := .xl }].all (fun m => !(Instr.canFrameRx 0 0 m).wf) = true
    ∧ [canMsg, fdMsg, claim, { canMsg with rtr := true, data := [] }, { canMsg with format := .xl, dlc := 1 }].all (fun m => (Instr.canFrameRx 0 0 m).wf) = true := sure

theorem test_key_places_refused : [KeyRef.gate 0 1024, .mark 0 16, .slot 0 64, .disc 0 16].all (fun k => !(Instr.keyFire 0 k).wf) = true
    ∧ [KeyRef.gate 26 1023, .mark 7 15, .slot 31 63, .disc 1 15].all (fun k => (Instr.keyFire 0 k).wf) = true := sure

theorem test_host_writes_refused : hostWriteWf .bar0 0 [] = false ∧ hostWriteWf .bar2 0 (List.replicate 257 (0, true)) = false ∧ hostWriteWf .bar0 0x3FFFFF [(0, true), (0, true)] = false ∧ hostWriteWf .bar2 0x3FFFFFE [(0, true), (0, true)] = true := sure

theorem test_twin_operands_refused : (Instr.twinHelloRx hdr0 (hello 256 0)).wf = false ∧ (Instr.twinHelloRx hdr0 { hello 0 0 with digest := [] }).wf = false ∧ (Instr.twinFullPartRx hdr0 65536 1 []).wf = false
    ∧ (Instr.twinDeltaRx hdr0 0 1 [{ aRecord with opcode := 65536 }]).wf = false ∧ (Instr.twinDeltaRx hdr0 0 1 [{ aRecord with cls := 256 }]).wf = false ∧ (Instr.twinRelayUpRx hdr0 256 0 []).wf = false
    ∧ (Instr.twinRelayDownRx hdr0 0 256 []).wf = false ∧ (Instr.twinLightsOutRx hdr0 256).wf = false ∧ (Instr.twinStatusRx hdr0 (List.replicate 8193 0)).wf = false ∧ (Instr.twinDeltaRx hdr0 0 1 [aRecord]).wf = true := sure

theorem test_crypto_requests_refused : [CryptoReq.hmac 64 32 [], .hmac 1 33 [], .cmac 64 16 [], .cmac 1 17 [], .gcmSeal 1 17 [] [], .gcmOpen 1 16 [] [] [] [], .gcmOpen 1 4 (List.replicate 12 0) [] [] []].all (fun r => !r.wf) = true
    ∧ CryptoReq.wf (.hmac 255 32 []) = true := sure

theorem test_lengths_refused : (Instr.linResponseRx 0 [] 0 false).wf = false ∧ (Instr.linResponseRx 0 (List.replicate 9 0) 0 false).wf = false ∧ (Instr.linResponseTimeout 0 0 10).wf = false ∧ (Instr.selSighting 0 0 []).wf = false
    ∧ (Instr.selCandidateCheck 0 0 []).wf = false ∧ (Instr.selHeaderRx 0 []).wf = false ∧ (Instr.selThreadBlockRx 0 0 []).wf = false ∧ (Instr.selDiscBlockRx 0 []).wf = false ∧ (Instr.selIdentRx 0 (List.replicate 513 0)).wf = false
    ∧ (Instr.selMapSetRx 0 (List.replicate 513 0)).wf = false ∧ (Instr.selMapAckRx 0 (List.replicate 513 0)).wf = false ∧ (Instr.lldpRx 0 (List.replicate 9217 0)).wf = false ∧ (Instr.pcieCompletion 1024 .ok []).wf = false
    ∧ (Instr.cplTimeout 0 1024).wf = false ∧ (Instr.keeperCryptoRequest (.cmac 64 0 [])).wf = false := sure

/-! ## Single steps and functions: the expected values are the manual's worked examples, or the test vectors of the standard that a rule names -/

/-- *Conformance and Conventions*: a PARAM_LEN of 0x1001 completes with LEN_RANGE (code 0x0002), its reply carrying no parameters. -/
theorem test_param_len_4097 : ∃ t, exec (.echo (headed 0x10 0x1001 [])) ready = .next t ∧ t.yel.mspi.replies.map (fun r => (r.2.2.length, (r.2.2.drop 12).take 2)) = [(16, [0, 2])] := ⟨_, rfl, sure⟩

/-- *Host Register Map*: step 4 of Window 2 set-up commits it, and word 3 reads back. -/
theorem test_window2_commits : ∃ t, exec (.hostRegisterWrite .bar0 0x102C ((bytesOf [0, 0, 0x1E, 0xB0]).map (·, true))) (setWindow 2 { staged := BitVec.ofNat 128 0x00000010_40000000 } { ready with plk := { link := .l0 } }) = .next t
    ∧ (getWindow 2 t).active = BitVec.ofNat 128 0xB01E0000_00000000_00000010_40000000 ∧ hostReg 0x102C t = 0xB01E0000 := ⟨_, rfl, sure⟩

/-- *Placket Host Bridge*: the data TLPs of the 1,000-byte frame. -/
theorem test_tlps_of_1000_bytes : (cutTlps 256 9217 0x0000001040000F80 0 1000).map (fun t => (t.1 % 0x10000, t.2.1)) = [(0x0F80, 128), (0x1000, 128), (0x1080, 256), (0x1180, 256), (0x1280, 232)] := sure

/-- *Bodkin Cipher Engine*: freshness reconstruction on VC1. -/
theorem test_freshness_vc1 : reconstructFv 1 0x12FF 0x00 = 0x1300 ∧ reconstructFv 1 0x1300 0x04 = 0x1304 ∧ reconstructFv 1 0x1304 0x00 = 0x1400 := sure

/-- *Beacon Time and Stitch Base*: the section 7 command of the sprayer. Pulses every 1.25 ms at 10 mm each; at 1,249,990 mm its time is predicted. -/
theorem test_section7_prediction :
    let ns (i : Nat) : Int := (7412602500000 - 1250000 * i) * 65536
    predictNs 27840 (BitVec.ofNat 128 (2 <<< 125 ||| (1250000 * 65536) <<< 48)) (setBase 0 { record := BitVec.ofNat 128 (3 <<< 125 ||| 7 <<< 116 ||| 500 <<< 88 ||| 0xA0000 <<< 56), pos := 1249990 * 65536, hwm := 1249990 * 65536, moving := true, stamps := (List.range 9).map ns, lastAt := ns 0 } ready)
      = some 7412603750000 := sure

/-- FIPS 180-4 "abc"; the S-box of FIPS 197; CRC-32 and CRC-16 of "123456789"; the protected identifier of LIN frame 1. -/
theorem test_sha256_abc : beNat (sha256 (bytesOf [97, 98, 99])) = 0xba7816bf8f01cfea414140de5dae2223b00361a396177a9cb410ff61f20015ad := sure
theorem test_sbox : (bytesOf [0, 0x53, 0xFF]).map sbox = [0x63, 0xED, 0x16] := sure
theorem test_crcs : beNat (fcs32 (bytesOf [49, 50, 51, 52, 53, 54, 55, 56, 57])).reverse = 0xCBF43926 ∧ crc16 (bytesOf [49, 50, 51, 52, 53, 54, 55, 56, 57]) = 0x29B1 ∧ linPid 1 = 0xC1 := sure
theorem witness_DeviceClassRuns (h : Obligations.DeviceClassRuns) :
    Met h.1 ready []
    ∧ Met h.2.1 ready []
    ∧ Met h.2.2.1 ready (bytesOf [2, 0, 0, 100, 0, 64, 0, 0])
    ∧ Met h.2.2.2.1 ready (bytesOf [255, 254, 0, 0])
    ∧ Met h.2.2.2.2.1 ready (bytesOf [1, 0, 0, 0])
    ∧ Met h.2.2.2.2.2.1 ready (bytesOf [1, 2])
    ∧ Met h.2.2.2.2.2.2 ready [] := by
  refine ⟨?_, ?_, ?_, ?_, ?_, ?_, ?_⟩
  · exact met sure sure sure sure sure
  · exact met sure sure sure sure sure
  · exact met sure sure sure sure sure
  · exact met sure sure sure sure sure
  · exact met sure sure sure sure sure
  · exact met sure sure sure sure sure
  · exact met sure sure sure sure sure

theorem witness_PortAndQueueClassesRun (h : Obligations.PortAndQueueClassesRun) :
    Met h.1 ready (bytesOf [23, 0, 0, 0] ++ natBytes 8 0x1809C80000060000)
    ∧ Met h.2.1 ready (bytesOf [26, 0, 0, 0])
    ∧ Met h.2.2.1 linked (bytesOf [5, 0, 0, 0])
    ∧ Met h.2.2.2.1 ready (bytesOf [26, 0] ++ natBytes 2 0xE10 ++ natBytes 2 0x2710 ++ natBytes 2 0x0 ++ natBytes 4 0)
    ∧ Met h.2.2.2.2.1 ready (bytesOf [26, 0, 15, 15, 15, 0, 0, 0])
    ∧ Met h.2.2.2.2.2.1 ready (bytesOf [0, 0, 0, 0])
    ∧ Met h.2.2.2.2.2.2.1 ready (bytesOf [31, 7, 0, 0, 1, 0] ++ natBytes 2 0x40 ++ natBytes 4 0x0)
    ∧ Met h.2.2.2.2.2.2.2.1 ready (bytesOf [31, 7, 9, 1] ++ natBytes 2 0x1 ++ natBytes 2 0x3E8)
    ∧ Met h.2.2.2.2.2.2.2.2.1 ready (bytesOf [31, 7, 0, 0])
    ∧ Met h.2.2.2.2.2.2.2.2.2 ready [] := by
  refine ⟨?_, ?_, ?_, ?_, ?_, ?_, ?_, ?_, ?_, ?_⟩
  · exact met sure sure sure sure sure
  · exact met sure sure sure sure sure
  · exact met sure sure sure sure sure
  · exact met sure sure sure sure sure
  · exact met sure sure sure sure sure
  · exact met sure sure sure sure sure
  · exact met sure sure sure sure sure
  · exact met sure sure sure sure sure
  · exact met sure sure sure sure sure
  · exact met sure sure sure sure sure

theorem witness_ScheduleClassRuns (h : Obligations.ScheduleClassRuns) :
    Met h.1 ready (bytesOf [26, 0] ++ natBytes 2 0x3FF ++ natBytes 2 0x1 ++ natBytes 2 0 ++ natBytes 16 gateEntry)
    ∧ Met h.2.1 ready (bytesOf [26, 0] ++ natBytes 2 0x400 ++ natBytes 4 0x64 ++ natBytes 4 0x3B9ACA00 ++ natBytes 6 0x0 ++ natBytes 4 0x3B9AC9FF ++ bytesOf [0, 1])
    ∧ Met h.2.2.1 listed (bytesOf [26, 0, 0, 0])
    ∧ Met (h.2.2.2.1 1000000) committed (bytesOf [26, 0, 0, 0])
    ∧ Met h.2.2.2.2.1 ready (bytesOf [0, 1] ++ natBytes 2 0x301 ++ natBytes 2 0xFF ++ natBytes 2 0)
    ∧ Met h.2.2.2.2.2.1 ready (bytesOf [0, 0, 0, 0])
    ∧ Met h.2.2.2.2.2.2.1 ready (bytesOf [255, 1, 1, 0] ++ natBytes 4 0x64 ++ natBytes 4 0x0 ++ natBytes 6 0x0 ++ natBytes 4 0x0 ++ natBytes 2 0 ++ bytesOf [1, 255, 0, 0] ++ natBytes 4 0x8)
    ∧ Met h.2.2.2.2.2.2.2.1 listed (bytesOf [7, 0, 0, 0])
    ∧ Met (h.2.2.2.2.2.2.2.2.1 1000000) committed (bytesOf [7, 0, 0, 0])
    ∧ Met h.2.2.2.2.2.2.2.2.2 ready (bytesOf [7, 0, 0, 0]) := by
  refine ⟨?_, ?_, ?_, ?_, ?_, ?_, ?_, ?_, ?_, ?_⟩
  · exact met sure sure sure sure sure
  · exact met sure sure sure sure sure
  · exact met sure sure sure sure sure
  · exact met sure sure sure sure sure
  · exact met sure sure sure sure sure
  · exact met sure sure sure sure sure
  · exact met sure sure sure sure sure
  · exact met sure sure sure sure sure
  · exact met sure sure sure sure sure
  · exact met sure sure sure sure sure

theorem witness_TimeClassRuns (h : Obligations.TimeClassRuns) :
    Met h.1 ready []
    ∧ Met h.2.1 ready (natBytes 6 0x0 ++ natBytes 4 0x3B9AC9FF ++ natBytes 2 0xFFFF)
    ∧ Met h.2.2.1 grandmaster (natBytes 6 0x0 ++ natBytes 4 0x3B9AC9FF ++ natBytes 2 0xFFFF)
    ∧ Met h.2.2.2.1 stepping []
    ∧ Met h.2.2.2.2.1 ready (natBytes 4 0x3B9ACA00 ++ natBytes 2 0x3E8 ++ bytesOf [1, 0] ++ natBytes 4 0x3E8)
    ∧ Met h.2.2.2.2.2.1 ready (bytesOf [1, 127, 1, 0, 255, 255, 0, 0, 128, 128, 0, 0] ++ natBytes 4 0x7FFFFFF ++ List.replicate 27 3 ++ bytesOf [0])
    ∧ Met h.2.2.2.2.2.2.1 grandmaster (natBytes 4 0xFFFFFFFF)
    ∧ Met h.2.2.2.2.2.2.2.1 ready (bytesOf [0, 0, 0, 0] ++ natBytes 6 0x0 ++ natBytes 4 0x3B9AC9FF ++ natBytes 2 0xFFFF)
    ∧ Met h.2.2.2.2.2.2.2.2.1 ready (bytesOf [26, 0, 255, 255, 0, 1, 0, 0])
    ∧ Met h.2.2.2.2.2.2.2.2.2.1 ready (bytesOf [3, 0, 0, 0] ++ natBytes 16 0x200010000000100000000000000)
    ∧ Met h.2.2.2.2.2.2.2.2.2.2.1 ready (bytesOf [3, 0, 0, 0])
    ∧ Met h.2.2.2.2.2.2.2.2.2.2.2.1 based (bytesOf [2, 0, 0, 0] ++ natBytes 8 0x1 ++ natBytes 8 0xFFFFFFFFFFFFFFFF ++ natBytes 6 0x0 ++ natBytes 4 0x3B9AC9FF ++ natBytes 2 0xFFFF)
    ∧ Met h.2.2.2.2.2.2.2.2.2.2.2.2.1 based (bytesOf [3, 1, 0, 0])
    ∧ Met h.2.2.2.2.2.2.2.2.2.2.2.2.2 ready (bytesOf [7, 0, 0, 0] ++ natBytes 8 0xC000000000000008) := by
  refine ⟨?_, ?_, ?_, ?_, ?_, ?_, ?_, ?_, ?_, ?_, ?_, ?_, ?_, ?_⟩
  · exact met sure sure sure sure sure
  · exact met sure sure sure sure sure
  · exact met sure sure sure sure sure
  · exact met sure sure sure sure sure
  · exact met sure sure sure sure sure
  · exact met sure sure sure sure sure
  · exact met sure sure sure sure sure
  · exact met sure sure sure sure sure
  · exact met sure sure sure sure sure
  · exact met sure sure sure sure sure
  · exact met sure sure sure sure sure
  · exact met sure sure sure sure sure
  · exact met sure sure sure sure sure
  · exact met sure sure sure sure sure

theorem witness_EpochCommandsRun (h : Obligations.EpochCommandsRun) :
    Met h.1 ready (natBytes 2 0xFFFF ++ natBytes 2 0x1 ++ List.replicate 64 0)
    ∧ MetBy h.2.1 rooted (natBytes 2 9 ++ natBytes 2 0x1 ++ List.replicate 64 0)
    ∧ Met h.2.2.1 ready (List.replicate 240 0)
    ∧ Met h.2.2.2.1 ready (List.replicate 36 0xFF)
    ∧ Met h.2.2.2.2.1 ready (List.replicate 256 0x80)
    ∧ Met h.2.2.2.2.2.1 ready (bytesOf [63, 16, 0, 0, 1, 2, 3, 4] ++ List.replicate 16 26)
    ∧ Met (h.2.2.2.2.2.2.1 {}) drafted (bytesOf [0, 0, 0, 0])
    ∧ MetBy (h.2.2.2.2.2.2.2.1 badTree) misdrafted (bytesOf [0, 0, 0, 0])
    ∧ MetBy h.2.2.2.2.2.2.2.2.1 drafted (bytesOf [1, 0, 0, 0])
    ∧ Met h.2.2.2.2.2.2.2.2.2.1 drafted []
    ∧ Met h.2.2.2.2.2.2.2.2.2.2 drafted [] := by
  refine ⟨?_, ?_, ?_, ?_, ?_, ?_, ?_, ?_, ?_, ?_, ?_⟩
  · exact met sure sure sure sure sure
  · exact met_by sure sure sure ⟨sure, sure, sure, sure, 9, sure, sure, sure⟩
  · exact met sure sure sure sure sure
  · exact met sure sure sure sure sure
  · exact met sure sure sure sure sure
  · exact met sure sure sure sure sure
  · exact met sure sure sure sure sure
  · exact met_by sure sure sure sure
  · exact met_by sure sure sure sure
  · exact met sure sure sure sure sure
  · exact met sure sure sure sure sure

theorem witness_StreamCommandsRun (h : Obligations.StreamCommandsRun) :
    Met h.1 ready (natBytes 4 0x4000007 ++ List.replicate 16 3 ++ natBytes 2 0x3E8 ++ bytesOf [8, 0] ++ natBytes 4 0xFFFFFFFF)
    ∧ Met h.2.1 ready (natBytes 2 0xFFF ++ bytesOf [255, 1] ++ natBytes 2 0x2400 ++ natBytes 2 0xFF ++ natBytes 2 0xFFF ++ natBytes 2 0xFFFF ++ natBytes 2 0x7FF ++ natBytes 2 0)
    ∧ Met h.2.2.1 ready (natBytes 2 0x1 ++ natBytes 2 0)
    ∧ Met h.2.2.2.1 ready (natBytes 2 0xFFF ++ bytesOf [15, 0] ++ natBytes 4 0x17D7840 ++ natBytes 4 0x0 ++ natBytes 3 0x1 ++ natBytes 3 0xFFFFFF ++ natBytes 2 0x0)
    ∧ Met h.2.2.2.2.1 ready (natBytes 2 0xFFF ++ natBytes 2 0)
    ∧ Met h.2.2.2.2.2.1 ready (natBytes 2 0x7FF ++ natBytes 2 0)
    ∧ Met h.2.2.2.2.2.2 ready (natBytes 2 0x7FF ++ bytesOf [0, 3, 64, 0] ++ natBytes 2 0x1 ++ bytesOf [8, 0] ++ natBytes 2 0x0 ++ natBytes 2 0x1 ++ natBytes 2 0xFFFF) := by
  refine ⟨?_, ?_, ?_, ?_, ?_, ?_, ?_⟩
  · exact met sure sure sure sure sure
  · exact met sure sure sure sure sure
  · exact met sure sure sure sure sure
  · exact met sure sure sure sure sure
  · exact met sure sure sure sure sure
  · exact met sure sure sure sure sure
  · exact met sure sure sure sure sure

theorem witness_GatewayCommandsRun (h : Obligations.GatewayCommandsRun) :
    Met h.1 ready (bytesOf [15, 0, 0, 0] ++ natBytes 16 0x80000F08800000000000000400000000)
    ∧ Met h.2.1 ready (bytesOf [7, 0, 0, 0] ++ natBytes 8 0xA710682FA0000000)
    ∧ Met h.2.2.1 ready (natBytes 2 0x1FFF ++ natBytes 2 0x1 ++ natBytes 16 0x20000000000000000000000000000000)
    ∧ Met h.2.2.2.1 ready (bytesOf [255, 130, 2, 0] ++ natBytes 6 0x1 ++ natBytes 6 0x2 ++ natBytes 2 0x3 ++ natBytes 8 0x4 ++ natBytes 2 0x5B0 ++ natBytes 2 0x2710 ++ natBytes 2 0)
    ∧ Met h.2.2.2.2.1 ready (bytesOf [7, 63, 1, 0, 8, 1, 2, 0] ++ natBytes 8 0)
    ∧ Met h.2.2.2.2.2.1 ready (bytesOf [7, 3, 1, 0] ++ natBytes 4 0x3F020001)
    ∧ Met h.2.2.2.2.2.2.1 ready (bytesOf [7, 3, 0, 0])
    ∧ Met h.2.2.2.2.2.2.2.1 ready (bytesOf [31, 63, 1, 0] ++ natBytes 16 0x0 ++ bytesOf [1, 0, 0, 0])
    ∧ Met h.2.2.2.2.2.2.2.2.1 canDown (bytesOf [15, 0, 0, 0])
    ∧ Met h.2.2.2.2.2.2.2.2.2.1 ready (bytesOf [15, 0, 1, 15] ++ natBytes 2 0x2710 ++ bytesOf [255, 1] ++ natBytes 8 0x3C220400000000)
    ∧ Met h.2.2.2.2.2.2.2.2.2.2.1 ready (bytesOf [7, 1] ++ natBytes 4 0x1 ++ natBytes 4 0x2 ++ natBytes 2 0 ++ natBytes 8 0x1 ++ bytesOf [253] ++ natBytes 8 0x2 ++ bytesOf [253] ++ natBytes 2 0)
    ∧ Met h.2.2.2.2.2.2.2.2.2.2.2 ready (bytesOf [31, 0, 0, 0]) := by
  refine ⟨?_, ?_, ?_, ?_, ?_, ?_, ?_, ?_, ?_, ?_, ?_, ?_⟩
  · exact met sure sure sure sure sure
  · exact met sure sure sure sure sure
  · exact met sure sure sure sure sure
  · exact met sure sure sure sure sure
  · exact met sure sure sure sure sure
  · exact met sure sure sure sure sure
  · exact met sure sure sure sure sure
  · exact met sure sure sure sure sure
  · exact met sure sure sure sure sure
  · exact met sure sure sure sure sure
  · exact met sure sure sure sure sure
  · exact met sure sure sure sure sure

theorem witness_SelvageCommandsRun (h : Obligations.SelvageCommandsRun) :
    Met h.1 ready (bytesOf [1, 0, 0, 0] ++ natBytes 8 0xB91F400000000000)
    ∧ Met h.2.1 ready (bytesOf [1, 0, 0, 0])
    ∧ Met h.2.2.1 hitched (bytesOf [1, 0, 0, 0])
    ∧ Met h.2.2.2.1 hitched (bytesOf [1, 0, 0, 0])
    ∧ Met h.2.2.2.2.1 ready (bytesOf [1, 0, 0, 0] ++ natBytes 4 0x1 ++ natBytes 4 0x2)
    ∧ Met h.2.2.2.2.2.1 ready (bytesOf [1, 0, 0, 0] ++ natBytes 4 0x1 ++ natBytes 4 0x2)
    ∧ Met h.2.2.2.2.2.2.1 ready (bytesOf [1, 15, 1, 0] ++ natBytes 16 0x0 ++ natBytes 4 0x1 ++ natBytes 4 0x2)
    ∧ Met h.2.2.2.2.2.2.2.1 framed (bytesOf [1, 0, 0, 0, 1, 0] ++ natBytes 2 0x200 ++ List.replicate 512 0xFF)
    ∧ Met h.2.2.2.2.2.2.2.2.1 ready (bytesOf [1, 0, 0, 0])
    ∧ Met h.2.2.2.2.2.2.2.2.2.1 ready (bytesOf [1, 1, 15, 15, 15, 15, 0, 0] ++ bytesOf [9, 15, 15, 0])
    ∧ Met h.2.2.2.2.2.2.2.2.2.2 ready (bytesOf [1, 0, 0, 0]) := by
  refine ⟨?_, ?_, ?_, ?_, ?_, ?_, ?_, ?_, ?_, ?_, ?_⟩
  · exact met sure sure sure sure sure
  · exact met sure sure sure sure sure
  · exact met sure sure sure sure sure
  · exact met sure sure sure sure sure
  · exact met sure sure sure sure sure
  · exact met sure sure sure sure sure
  · exact met sure sure sure sure sure
  · exact met_waited (w := (.frame 1, 1000 * msCyc)) (by decide) sure sure sure rfl (by decide) (by decide) sure
  · exact met sure sure sure sure sure
  · exact met sure sure sure sure sure
  · exact met sure sure sure sure sure

theorem witness_KeyCommandsRun (h : Obligations.KeyCommandsRun) :
    Met h.2.2.2.2.2.1 keyed (bytesOf [63, 0, 0, 0])
    ∧ Met h.2.2.2.2.2.2.1 ready []
    ∧ Met h.2.2.2.2.2.2.2.2.1 ready (bytesOf [255, 0, 0, 0] ++ List.replicate 32 0)
    ∧ Met h.2.2.2.2.2.2.2.2.2.1 keyed (bytesOf [63, 0, 0, 0] ++ List.replicate 32 0)
    ∧ Met h.2.2.2.2.2.2.2.2.2.2.2.1 ready [] := by
  refine ⟨?_, ?_, ?_, ?_, ?_⟩
  · exact met sure sure sure sure sure
  · exact met sure sure sure sure sure
  · exact met sure sure sure sure sure
  · exact met sure sure sure sure sure
  · exact met sure sure sure sure sure

theorem witness_CipherCommandsRun (h : Obligations.CipherCommandsRun) :
    Met h.1 ready (natBytes 2 0x7FF ++ natBytes 2 0 ++ natBytes 32 0x4100000000000000000000000000000000000000000000000000000000000000)
    ∧ Met h.2.1 secured (natBytes 2 0x7FF ++ natBytes 2 0)
    ∧ Met h.2.2.1 secured (natBytes 2 0x7FF ++ bytesOf [3, 0] ++ natBytes 32 0x7E00000000000000000000000000000000000000000000000000000000000100)
    ∧ Met h.2.2.2.1 secured (natBytes 2 0x7FF ++ bytesOf [3, 0])
    ∧ Met h.2.2.2.2.1 staged (bytesOf [9])
    ∧ Met h.2.2.2.2.2.1 staged []
    ∧ Met h.2.2.2.2.2.2.1 staged (natBytes 2 0x1 ++ natBytes 2 0x2)
    ∧ Met h.2.2.2.2.2.2.2.1 keyed (bytesOf [63, 32, 0, 0, 1, 2])
    ∧ Met h.2.2.2.2.2.2.2.2.1 staged (bytesOf [63, 16, 1, 0])
    ∧ Met h.2.2.2.2.2.2.2.2.2.1 keyed (bytesOf [63, 4, 0, 0] ++ natBytes 2 0x1 ++ natBytes 2 0 ++ bytesOf [1, 2])
    ∧ Met h.2.2.2.2.2.2.2.2.2.2.2.1 testing (bytesOf [1, 0, 0, 0])
    ∧ Met h.2.2.2.2.2.2.2.2.2.2.2.2 testing (bytesOf [63, 0, 0, 0]) := by
  refine ⟨?_, ?_, ?_, ?_, ?_, ?_, ?_, ?_, ?_, ?_, ?_, ?_⟩
  · exact met sure sure sure sure sure
  · exact met sure sure sure sure sure
  · exact met sure sure sure sure sure
  · exact met sure sure sure sure sure
  · exact met sure sure sure sure sure
  · exact met sure sure sure sure sure
  · exact met sure sure sure sure sure
  · exact met sure sure sure sure sure
  · exact met sure sure sure sure sure
  · exact met sure sure sure sure sure
  · exact met sure sure sure sure sure
  · exact met sure sure sure sure sure

theorem witness_PowerAndSafetyCommandsRun (h : Obligations.PowerAndSafetyCommandsRun) :
    Met h.2.1 ready (bytesOf [2, 0, 0, 0])
    ∧ Met h.2.2.1 trimmed (bytesOf [0, 0, 0, 0])
    ∧ Met h.2.2.2.1 ready (bytesOf [1, 0] ++ natBytes 2 0xFFFF)
    ∧ Met h.2.2.2.2.1 ready (bytesOf [4, 0, 0, 0])
    ∧ Met h.2.2.2.2.2.1 ready []
    ∧ Met h.2.2.2.2.2.2.1 ready (natBytes 16 0xF000000000000000001F47F808000000)
    ∧ Met h.2.2.2.2.2.2.2.1 ready (bytesOf [255, 255, 0, 0])
    ∧ Met h.2.2.2.2.2.2.2.2.1 ready (bytesOf [15, 0, 0, 0] ++ natBytes 24 0x2A0000000000000000000000000000000000000000000000)
    ∧ Met h.2.2.2.2.2.2.2.2.2.1 ready []
    ∧ Met h.2.2.2.2.2.2.2.2.2.2.1 ready []
    ∧ Met h.2.2.2.2.2.2.2.2.2.2.2.1 halted (bytesOf [0, 0, 0, 0])
    ∧ Met h.2.2.2.2.2.2.2.2.2.2.2.2.1 ready (natBytes 4 0x7FFFFFF)
    ∧ Met h.2.2.2.2.2.2.2.2.2.2.2.2.2.1 ready (bytesOf [5, 0, 0, 0])
    ∧ Met h.2.2.2.2.2.2.2.2.2.2.2.2.2.2.1 ready (bytesOf [10, 26, 0, 0])
    ∧ Met h.2.2.2.2.2.2.2.2.2.2.2.2.2.2.2.1 ready [] := by
  refine ⟨?_, ?_, ?_, ?_, ?_, ?_, ?_, ?_, ?_, ?_, ?_, ?_, ?_, ?_, ?_⟩
  · exact met sure sure sure sure sure
  · exact met sure sure sure sure sure
  · exact met sure sure sure sure sure
  · exact met sure sure sure sure sure
  · exact met sure sure sure sure sure
  · exact met sure sure sure sure sure
  · exact met sure sure sure sure sure
  · exact met sure sure sure sure sure
  · exact met sure sure sure sure sure
  · exact met sure sure sure sure sure
  · exact met sure sure sure sure ⟨by decide, by decide, by decide, by decide, fun t ht => by cases ht; decide, by decide⟩
  · exact met sure sure sure sure sure
  · exact met sure sure sure sure sure
  · exact met sure sure sure sure sure
  · exact met sure sure sure sure sure

theorem witness_TwinAndUpdateCommandsRun (h : Obligations.TwinAndUpdateCommandsRun) :
    Met h.1 ready (bytesOf [0, 0] ++ natBytes 2 0xE10 ++ natBytes 4 0)
    ∧ Met h.2.1 ready (bytesOf [1, 0] ++ natBytes 2 0x1 ++ natBytes 4 0)
    ∧ Met h.2.2.1 ready []
    ∧ Met h.2.2.2.1 ready (natBytes 4 0x1FFFFC ++ List.replicate 4 0)
    ∧ Met h.2.2.2.2.1 updated []
    ∧ Met h.2.2.2.2.2.1 updated (bytesOf [0, 0, 0, 0])
    ∧ Met h.2.2.2.2.2.2.1 rescued (bytesOf [0, 0, 0, 0])
    ∧ Met h.2.2.2.2.2.2.2.1 ready [] := by
  refine ⟨?_, ?_, ?_, ?_, ?_, ?_, ?_, ?_⟩
  · exact met sure sure sure sure sure
  · exact met sure sure sure sure sure
  · exact met sure sure sure sure sure
  · exact met sure sure sure sure sure
  · exact met sure sure sure sure sure
  · exact met sure sure sure sure sure
  · exact met sure sure sure sure sure
  · exact met sure sure sure sure sure

theorem witness_DiagnosticCommandsRun (h : Obligations.DiagnosticCommandsRun) :
    Met h.1 ready (natBytes 2 0xFFFF ++ natBytes 2 0x7F)
    ∧ Met h.2.2.2.2.1 ready (natBytes 4 0x1FFFF)
    ∧ Met h.2.2.2.2.2.1 ready (natBytes 4 0x3FFF)
    ∧ Met h.2.2.2.2.2.2.2.1 logged (natBytes 4 0x0 ++ natBytes 2 0x1 ++ natBytes 2 0)
    ∧ Met h.2.2.2.2.2.2.2.2 ready (natBytes 2 0xFFFF ++ natBytes 2 0x7F) := by
  refine ⟨?_, ?_, ?_, ?_, ?_⟩
  · exact met sure sure sure sure sure
  · exact met sure sure sure sure sure
  · exact met sure sure sure sure sure
  · exact met sure sure sure sure sure
  · exact met sure sure sure sure sure

theorem wrapKey_slot {w : Nat} {v : Via} {s : State} (hw : w < 64) (hm : mayUse w (viaMaster v) (viaWorld v) .wrap s = true) (hs : isStale w none s = false) :
    wrapKey w v s = (.ok (Shares.key { slot := w, masked := xorBytes (slotValue w s) (drawBytes (slotValue w s).length s).1, mask := (drawBytes (slotValue w s).length s).1 }), (drawBytes (slotValue w s).length s).2) := by
  simp [wrapKey, fetchKey, checkUse, hw, hm, hs]

/-- The parameters of an import into slot 63 under the wrap key of slot 6. -/
def importParams (key : List Byte) : List Byte :=
  bytesOf [63, 6, 0, 0] ++ natBytes 16 useAttr ++ (List.replicate 12 4 ++ List.replicate 16 5 ++ gcmTag key (List.replicate 12 4) (natBytes 1 63 ++ natBytes 16 useAttr) (List.replicate 16 5))

/-- The wrap key of slot 6, as the Thimble delivers it under a fresh mask. -/
def wrapping : List Byte :=
  Shares.key { slot := 6, masked := xorBytes (slotValue 6 (after keyed)) (drawBytes (slotValue 6 (after keyed)).length (after keyed)).1, mask := (drawBytes (slotValue 6 (after keyed)).length (after keyed)).1 }

/-- An import under the wrap key of slot 6: the blob is sealed under that key. -/
theorem witness_KeyCommandsRun_import (h : Obligations.KeyCommandsRun) : ∃ value t t', Met (h.1 wrapping value t t') keyed (importParams wrapping) := by
  have hw : wrapKey 6 .mspi (after keyed) = (.ok wrapping, (drawBytes (slotValue 6 (after keyed)).length (after keyed)).2) := wrapKey_slot (by decide) sure sure
  have ht : (gcmTag wrapping (List.replicate 12 4) (natBytes 1 63 ++ natBytes 16 useAttr) (List.replicate 16 5)).length = 16 := by decide +kernel
  have p1 : numAt (importParams wrapping) 0 1 = 63 := by rw [importParams, List.append_assoc, numAt_left (by decide)]; decide
  have p2 : numAt (importParams wrapping) 1 1 = 6 := by rw [importParams, List.append_assoc, numAt_left (by decide)]; decide
  have p3 : zeros 2 2 (importParams wrapping) := by rw [zeros, importParams, List.append_assoc, numAt_left (by decide)]; decide
  have p4 : ((importParams wrapping).drop 4).take 16 = natBytes 16 useAttr := by rfl
  have hl : (importParams wrapping).length = 64 := by simp only [importParams, List.length_append, ht]; decide
  refine ⟨_, (drawBytes (slotValue 6 (after keyed)).length (after keyed)).2, _, met sure (by omega) sure sure ⟨sure, by rw [p1]; exact sure, ?_, p3, by rw [p1]; decide, ?_, by rw [p2]; exact hw, by rw [p1, p4]; exact openBlob_sealed rfl ht, updateSlot_some (by rw [p1]; decide +kernel)⟩⟩
  · rw [hl, p4]; decide +kernel
  · rw [p4]; decide +kernel

theorem witness_KeyCommandsRun_derived (h : Obligations.KeyCommandsRun) :
    (∃ t', Met (h.2.2.1 t') ready (bytesOf [63, 0, 0, 0] ++ natBytes 16 useAttr))
    ∧ (∃ t', Met (h.2.2.2.1 t') keyed (bytesOf [5, 0, 0, 0] ++ natBytes 16 (useAttr - (64 <<< 102))))
    ∧ (∃ t', Met (h.2.2.2.2.1 t') keyed (bytesOf [63, 0, 0, 0])) := by
  refine ⟨⟨_, met sure sure sure sure ⟨sure, sure, sure, sure, sure, sure, sure, updateSlot_some sure⟩⟩, ?_, ?_⟩
  · exact ⟨_, met sure sure sure sure ⟨sure, sure, sure, sure, sure, sure, .inr ⟨sure, sure, updateSlot_some sure⟩⟩⟩
  · exact ⟨_, met sure sure sure sure ⟨sure, sure, sure, sure, sure, updateSlot_some sure⟩⟩

/-- A token under root 2 for FIELD, and one under root 1 for debug level 2. -/
def fieldToken : List Byte := bytesOf [2, 0, 0, 0] ++ lcToken 2 (List.replicate 32 3) 1 2 (after challenged)
def debugParams : List Byte := bytesOf [2, 0, 0, 0] ++ debugToken 1 (List.replicate 32 3) 2 (after challenged)

theorem witness_KeyCommandsRun_transition (h : Obligations.KeyCommandsRun) :
    Met (h.2.2.2.2.2.2.2.1 ⟨[2], some 1, []⟩ (List.replicate 32 3) 1 2) challenged fieldToken := by
  have h1 : lcState (after challenged) = 1 := by decide +kernel
  have h2 : numAt fieldToken 0 1 = 2 := by rw [fieldToken, numAt_left (by decide)]; decide
  exact met sure sure sure sure
    ⟨sure, sure, sure, by rw [h1, h2]; rfl, sure, sure, sure, sure, sure, by rw [h1, h2]; exact List.drop_left' (by rfl)⟩

theorem witness_PowerAndSafetyCommandsRun_unlock (h : Obligations.PowerAndSafetyCommandsRun) :
    Met (h.2.2.2.2.2.2.2.2.2.2.2.2.2.2.2.2 (List.replicate 32 3) 1 1) challenged debugParams := by
  have h1 : lcState (after challenged) = 1 := by decide +kernel
  have h2 : numAt debugParams 0 1 = 2 := by rw [debugParams, numAt_left (by decide)]; decide
  have h3 : debugParams.drop 4 = debugToken 1 (List.replicate 32 3) 2 (after challenged) := List.drop_left' (by rfl)
  have h4 : rootAlive 1 (after challenged) = true := by decide +kernel
  exact met sure sure sure sure
    ⟨sure, sure, sure, sure, sure, sure, sure, sure,
      by rw [h1, h2, h3]; simp [debugRoots, h4]⟩

theorem witness_PowerAndSafetyCommandsRun_denied (h : Obligations.PowerAndSafetyCommandsRun) :
    (∃ t, Completes (.powerReq (msg (bytesOf [2, 0, 0, 0]))) unlocked t) ∧ (∃ t, Completes (.powerReq (msg (bytesOf [1, 0, 0xFF, 0x7F]))) secured t) ∧ (∃ t, Completes (.powerReq (msg (bytesOf [5, 0, 0, 0]))) ready t) :=
  ⟨⟨_, (h.1 _ _ _ (admits_of_takes sure (by decide)) (runnable_of_mayRun sure) sure sure).2.1 sure sure⟩,
   ⟨_, (h.1 _ _ _ (admits_of_takes sure (by decide)) (runnable_of_mayRun sure) sure sure).1 sure sure sure⟩,
   ⟨_, (h.1 _ _ _ (admits_of_takes sure (by decide)) (runnable_of_mayRun sure) sure sure).2.2 sure⟩⟩

/-- A sealed message of two bytes, one of them additional data, with a tag of 4 bytes, under the key of slot 63. -/
def sealTag : List Byte := (gcmTag (slotValue 63 (after keyed)) (List.replicate 12 4) [9] [8]).take 4
def sealedParams : List Byte := bytesOf [63, 4, 0, 0, 0, 1, 0, 0] ++ List.replicate 12 4 ++ [9, 8] ++ sealTag

theorem sealTag_length : sealTag.length = 4 := by decide +kernel

theorem witness_CipherCommandsRun_open (h : Obligations.CipherCommandsRun) : Met h.2.2.2.2.2.2.2.2.2.2.1 keyed sealedParams := by
  have hl : sealedParams.length = 26 := by rw [sealedParams, List.length_append, sealTag_length]; decide
  have n0 : numAt sealedParams 0 1 = 63 := by rw [sealedParams, numAt_left (by decide)]; decide
  have n1 : numAt sealedParams 1 1 = 4 := by rw [sealedParams, numAt_left (by decide)]; decide
  have n2 : numAt sealedParams 2 1 = 0 := by rw [sealedParams, numAt_left (by decide)]; decide
  have n3 : numAt sealedParams 3 1 = 0 := by rw [sealedParams, numAt_left (by decide)]; decide
  have n4 : numAt sealedParams 4 2 = 1 := by rw [sealedParams, numAt_left (by decide)]; decide
  have n6 : numAt sealedParams 6 2 = 0 := by rw [sealedParams, numAt_left (by decide)]; decide
  have d20 : sealedParams.drop 20 = [9, 8] ++ sealTag := by rw [sealedParams, List.append_assoc, List.drop_left' (by decide)]
  have d8 : (sealedParams.drop 8).take 12 = List.replicate 12 4 := by
    rw [sealedParams, List.append_assoc, List.append_assoc, List.drop_left' (by decide), List.take_left' (by decide)]
  have ho : mayRun cmdGcmOpen sealedParams (after keyed) = true := by simp only [mayRun, allowed, cmdGcmOpen]; decide +kernel
  refine met sure (by omega) ho sure ?_
  simp only [n0, n1, n2, n4, zeros, n3, n6, d8, operand, d20, hl, if_true]
  refine ⟨by decide, by decide, by decide, trivial, trivial, ?_, ?_, by decide, by decide, sure, ?_⟩
  · simp [sealTag_length]
  · simp [sealTag_length]
  · simp [sealTag_length]; simp [sealTag]

theorem witness_TwinAndUpdateCommandsRun_relinquish (h : Obligations.TwinAndUpdateCommandsRun) : ∃ t, Completes (.relinquish (msg (bytesOf [0, 0, 0, 0]))) paired t :=
  ⟨_, (h.2.2.2.2.2.2.2.2 _ _ _ (admits_of_takes sure (by decide)) sure sure sure).2.2⟩

theorem witness_KeyCommandsRun_notInState (h : Obligations.KeyCommandsRun) : ∃ t, Completes (.attest (msg [])) unlocked t :=
  ⟨_, h.2.2.2.2.2.2.2.2.2.2.1 _ _ _ (admits_of_takes sure (by decide)) sure⟩

/-- The first counter of the catalogue, by whatever code the firmware gives it. -/
theorem witness_DiagnosticCommandsRun_counter (h : Obligations.DiagnosticCommandsRun) :
    Met (h.2.1 .boltOversize) ready (natBytes 2 (Config.counterCode 0).toNat ++ bytesOf [0, 31, 0, 1, 0, 0]) := by
  have hc : numAt (natBytes 2 (Config.counterCode 0).toNat ++ bytesOf [0, 31, 0, 1, 0, 0]) 0 2 = (Config.counterCode 0).toNat := by
    rw [numAt_left (by simp [natBytes]), numAt_two (Config.counterCode 0).isLt]
  have hf : counterOf (Config.counterCode 0).toNat = some .boltOversize := by
    rw [counterOf, show Ctr.all = .boltOversize :: Ctr.all.tail from rfl, List.find?_cons_of_pos (by simp [show Ctr.boltOversize.ctorIdx = 0 from rfl])]
  exact met sure sure sure sure ⟨sure, sure, sure, by rw [hc]; exact hf, sure, sure, sure⟩

/-- STATUS_READ of an item that the manual does not name, where the implementation has one under code 0. -/
theorem witness_DiagnosticCommandsRun_status (h : Obligations.DiagnosticCommandsRun) (fmt : BitVec 8) (hn : (statusItemOf 0).isNone) (hc : counterOf 0 = none) (hi : Config.statusItem 0 0 = some fmt) :
    Met (h.2.2.2.1 fmt) ready (bytesOf [0, 0, 0, 0]) :=
  met sure sure sure sure ⟨by decide, hn, hc, hi⟩

/-- The first named status item, by whatever code the firmware gives it. -/
theorem witness_DiagnosticCommandsRun_named (h : Obligations.DiagnosticCommandsRun) :
    Met (h.2.2.1 (statusItems[0]'sure)) ready (natBytes 2 (Config.statusCode 0).toNat ++ bytesOf [0, 255]) := by
  have hc : numAt (natBytes 2 (Config.statusCode 0).toNat ++ bytesOf [0, 255]) 0 2 = (Config.statusCode 0).toNat := by
    rw [numAt_left (by simp [natBytes]), numAt_two (Config.statusCode 0).isLt]
  have hf : statusItemOf (Config.statusCode 0).toNat = some (statusItems[0]'sure) := by
    rw [statusItemOf, show List.range statusItems.length = 0 :: (List.range statusItems.length).tail from rfl, List.find?_cons_of_pos (by simp)]
    rfl
  exact met sure sure sure sure ⟨sure, by rw [hc]; exact hf, sure⟩

theorem witness_DiagnosticCommandsRun_trace (h : Obligations.DiagnosticCommandsRun) :
    ∃ k z, Met (h.2.2.2.2.2.2.1 k z 9 9) rooted (bytesOf [0, 0, 0, 0] ++ frame60) :=
  ⟨((sampleKey 0 frame60 (after rooted)).getD ({}, 0)).1, ((sampleKey 0 frame60 (after rooted)).getD ({}, 0)).2,
    met sure sure sure sure sure⟩

theorem witness_SetCmdKeyRestartsSequence (h : Obligations.SetCmdKeyRestartsSequence) : ∃ t, Completes (.setCmdKey (msg (bytesOf [2, 63, 0, 0]))) ready t :=
  ⟨_, h _ _ _ (admits_of_takes sure (by decide)) (runnable_of_mayRun sure) sure sure sure sure sure⟩

theorem witness_SlotUpdateRaisesGeneration : updateSlot 63 none keyed = some ((updateSlot 63 none keyed).getD keyed) := updateSlot_some sure
theorem witness_EveryStepAdvances : quiet ready = true ∧ memoriesOk ready = true ∧ mapWf 0 ready.counters = true := ⟨sure, sure, sure⟩

theorem witness_IdleStep : ready.pending = [] := rfl

theorem witness_SettleOnlyLogsEvents :
    let s := raiseEv .debugClosed 0 [] { ready with events := [(.gmChange, [])] }
    quietButEvents s = true ∧ keeperRuns s = true ∧ s.yel.pauseUntil = none ∧ unsubscribed s = true ∧ (∀ e ∈ s.raised, e.1.viaFabric = false) ∧ (∀ e ∈ s.events, e.1.viaFabric = false) ∧ s.boot.events.length ≤ 19114 :=
  ⟨sure, sure, sure, sure, sure, sure, sure⟩

theorem witness_MemoriesStayCanonical (h : Obligations.EveryStepAdvances) : memoriesOk ready = true ∧ ∃ t, step ready = .next t := ⟨sure, h ready⟩

theorem witness_MessagesReachTheService : carried (.echo (msg [1])) = some ⟨1, 8, msg [1]⟩ := rfl

theorem witness_HeaderChecksInOrder (h : Obligations.HeaderChecksInOrder) :
    receiveRaw .mspi (List.replicate 15 0) ready = bump .kprCmdRunt 2 ready
    ∧ Fires (.echo (msg [])) (pausing ready) ∧ Fires (.echo (headed 0x14 0 (List.replicate 16 0))) fullLane
    ∧ Fires (.echo (headed 0x18 0 [])) ready ∧ Fires (.echo (headed 0x20 0 [])) ready ∧ Fires (.echo (headed 0x10 4097 (List.replicate 4097 0))) ready ∧ Fires (.echo (headed 0x14 1 [0])) ready :=
  ⟨h.1 _ _ _ (by decide) sure,
   ⟨_, (h.2 _ ⟨1, 8, _⟩ _ rfl sure sure).1 (.inl sure)⟩, ⟨_, (h.2 _ ⟨1, 8, _⟩ _ rfl sure sure).1 (.inr sure)⟩,
   ⟨_, (h.2 _ ⟨1, 8, _⟩ _ rfl sure sure).2.1 sure sure⟩, ⟨_, (h.2 _ ⟨1, 8, _⟩ _ rfl sure sure).2.2.1 sure sure sure⟩,
   ⟨_, (h.2 _ ⟨1, 8, _⟩ _ rfl sure sure).2.2.2 sure sure sure sure⟩, ⟨_, (h.2 _ ⟨1, 8, _⟩ _ rfl sure sure).2.2.2 sure sure sure sure⟩⟩

theorem witness_AdmissionChecksInOrder (h : Obligations.AdmissionChecksInOrder) :
    Fires (.echo (msg [])) lockedOut ∧ Fires (.echo (msg [])) spent ∧ Fires (.echo (msg [])) crowded ∧ Fires (.echo (msg [])) fielded
    ∧ Fires (.echo sealedEcho) commanded :=
  ⟨⟨_, (h _ ⟨1, 8, _⟩ _ rfl sure sure sure sure sure sure sure sure sure sure sure sure).1 sure⟩,
   ⟨_, (h _ ⟨1, 8, _⟩ _ rfl sure sure sure sure sure sure sure sure sure sure sure sure).2.1 sure sure⟩,
   ⟨_, (h _ ⟨1, 8, _⟩ _ rfl sure sure sure sure sure sure sure sure sure sure sure sure).2.2.1 sure sure sure⟩,
   ⟨_, (h _ ⟨1, 8, _⟩ _ rfl sure sure sure sure sure sure sure sure sure sure sure sure).2.2.2.1 sure sure sure sure⟩,
   ⟨_, (h _ ⟨1, 8, _⟩ _ rfl sure sure sure sure sure sure sure sure sure sure sure sure).2.2.2.2 sure sure sure sure⟩⟩

theorem witness_ExecutionChecksInOrder :
    cmdOf 1 99 = none ∧ (∃ c, cmdOf 5 3 = some c ∧ allowed c [] ready = false) ∧ ∃ c, cmdOf 1 1 = some c ∧ allowed c [0] ready = true ∧ c.len [0] = false ∧ runnable c [] ready ∧ c.len [] = true ∧ pairActive ready = false :=
  ⟨rfl, ⟨cmdGmSetTime, rfl, sure⟩, ⟨cmdDeviceInfo, rfl, sure, sure, runnable_of_mayRun sure, sure, sure⟩⟩

theorem witness_SixteenFailuresLockOut : hasToken .mspi fielded = true ∧ (getTrans .mspi fielded).outstanding < 64 ∧ authenticate ⟨1, 8, msg []⟩ (spendToken .mspi fielded) = .badTrailer
    ∧ (getTrans .mspi (setTrans .mspi { fails := List.replicate 15 0 } ready)).lockedUntil ≤ ready.cyc := ⟨sure, sure, sure, sure⟩

theorem witness_ServiceTimersRun (h : Obligations.ServiceTimersRun) : Fires (.cmdLockoutEnd 1 .mspi) lockedOut ∧ Fires (.mutatorTimeout 500) waitingFrame ∧ Fires (.mutatorTimeout 0) ready :=
  ⟨⟨_, h.1 _ _ _⟩, ⟨_, h.2.1 500 500 ⟨8, 8, msg []⟩ (.frame 0) _ sure nofun sure sure⟩, ⟨_, h.2.2 0 ready (fun _ _ _ e => by rw [show (advanceTo 0 ready).yel.waiting = none from sure] at e; cases e)⟩⟩

theorem witness_MspiInstructionsRun (h : Obligations.MspiInstructionsRun) :
    Fires .mspiStatus ready ∧ Fires .mspiRead replying ∧ Fires .mspiRead eventing ∧ Fires .mspiRead ready ∧ Fires (.mspiWrite [0]) { ready with kpr := {} }
    ∧ Fires (.mspiWrite (messageBytes ⟨1, 8, msg [1]⟩)) ready ∧ Fires .mspiStatus { ready with pwr := { powered := 1, state := .deep } } :=
  ⟨⟨_, (h.1 _ sure).1⟩, ⟨_, (h.1 _ sure).2.1 _ _ _ _ rfl⟩, ⟨_, (h.1 _ sure).2.2.1 _ _ rfl rfl⟩, ⟨_, (h.1 _ sure).2.2.2.1 rfl rfl⟩, ⟨_, (h.1 _ sure).2.2.2.2.1 sure _⟩,
   ⟨_, (h.1 _ sure).2.2.2.2.2 sure ⟨1, 8, msg [1]⟩ (by decide) (by decide) rfl⟩, ⟨_, (h.2 _ sure).1⟩⟩

theorem witness_TestPort (h : Obligations.TestPortLoadsPermittedInstructions) :
    Fires .extest ready ∧ Fires .clamp ready ∧ Fires .highz ready ∧ Fires .samplePreload ready ∧ Fires .dbgAccess ready ∧ Fires (.factory 15) ready ∧ Fires (.bypass 0x30) ready ∧ Fires .testLogicReset ready := by
  obtain ⟨a, b, c, d, e, f, g, i⟩ := h ready sure
  exact ⟨⟨_, a⟩, ⟨_, b⟩, ⟨_, c⟩, ⟨_, d⟩, ⟨_, e⟩, ⟨_, f _⟩, ⟨_, g _ (by decide)⟩, ⟨_, i⟩⟩

theorem witness_DebugInstructionsRun (h : Obligations.DebugInstructionsRun) :
    Fires .idcode ready ∧ Fires .dbgStatus ready ∧ Fires .dbgLock unlocked ∧ Fires (.debugAction .halt) debugging ∧ Fires (.debugAction .resume) debugging ∧ Fires (.debugAction .step) debugging
    ∧ Fires (.debugAction (.writeReg 1 2)) debugging ∧ Fires (.debugAction (.readTcm 4)) debugging ∧ Fires (.debugAction .halt) ready := by
  obtain ⟨a, b, -, -, e⟩ := h ready sure
  obtain ⟨-, -, c, -⟩ := h unlocked sure
  obtain ⟨-, -, -, d, -⟩ := h debugging sure
  obtain ⟨d1, d2, d3, d4, -, -, d7, -⟩ := d sure sure sure
  exact ⟨⟨_, a⟩, ⟨_, b⟩, ⟨_, c _ _ sure rfl⟩, ⟨_, d1⟩, ⟨_, d2⟩, ⟨_, d3⟩, ⟨_, d4 _ _⟩, ⟨_, d7 _⟩, ⟨_, e sure _⟩⟩
theorem witness_HostRegisterWritesRun (h : Obligations.HostRegisterWritesRun) :
    Fires (.plkPollPeriodWrite 64) ready ∧ Fires (.plkIntCauseClear 1) ready ∧ Fires (.plkIntEnableWrite 1) ready ∧ Fires (.pwrDomainStoppedClear 1) ready ∧ Fires (.plkMbCmdProd 3 16) ready
    ∧ Fires (.plkMbCplCons 3 0) ready ∧ Fires (.plkErrlogRead 0) ready ∧ Fires .plkErrlogOverflow ready ∧ Fires (.plkRingProd 0 1) (ringed 0 64 mapped) := by
  obtain ⟨a, b, c, d, e, f, g, i, -⟩ := h ready sure
  obtain ⟨_, d, -⟩ := d 1
  exact ⟨⟨_, a _⟩, ⟨_, b _⟩, ⟨_, c _⟩, ⟨_, d⟩, ⟨_, e _ _ sure⟩, ⟨_, f _ _⟩, ⟨_, g _⟩, ⟨_, i⟩, ⟨_, (h _ sure).2.2.2.2.2.2.2.2 _ _⟩⟩

theorem witness_WindowWritesRun (h : Obligations.WindowWritesRun) :
    Fires (.windowStageWrite 15 2 1) ready ∧ Fires (.windowDisable 0 0x600C0000) mapped ∧ Fires (.windowCommit 15 0xE00C0000) ready ∧ Fires (.windowCommit 1 0xE00C0000) mapped :=
  ⟨⟨_, (h _ _ _ sure).1 _⟩, ⟨_, (h _ _ _ sure).2.1 sure⟩, ⟨_, (h _ _ _ sure).2.2.1 sure sure⟩, ⟨_, (h _ _ _ sure).2.2.2.1 sure sure⟩⟩

theorem witness_RingControlRuns (h : Obligations.RingControlRuns) :
    Fires (.ringSizeSet 0 3) ready ∧ Fires (.ringRun 15 0x8000000C) ready ∧ Fires (.ringStop 0 4) (ringed 0 64 mapped) ∧ Fires (.ringSizeSet 0 12) ready :=
  ⟨⟨_, (h _ _ _ sure).1 sure⟩, ⟨_, (h _ _ _ sure).2.1 sure sure sure⟩, ⟨_, (h _ _ _ sure).2.2.1 sure sure sure⟩, ⟨_, (h _ _ _ sure).2.2.2 sure sure⟩⟩

theorem witness_HostWrites (h : Obligations.HostWritesReachMemoryOrAreLogged) :
    Fires (.hostRegisterWrite .bar0 0xFFFFF [(1, true)]) ready ∧ Fires (.hostRegisterWrite .bar0 0x142000 [(1, true)]) ready ∧ Fires (.hostRegisterWrite .bar0 0x100000 [(1, true), (2, false)]) ready
    ∧ Fires (.hostRegisterWrite .bar2 0x3C1FFFF [(1, true)]) ready := by
  obtain ⟨_, c, -⟩ := (h ready 0x100000 [(1, true), (2, false)] sure sure sure sure).2.2.1 sure sure
  obtain ⟨_, d, -⟩ := (h ready 0x3C1FFFF [(1, true)] sure sure sure sure).2.2.2 sure sure sure
  exact ⟨⟨_, (h _ _ _ sure sure sure sure).1 sure sure⟩, ⟨_, (h _ _ _ sure sure sure sure).2.1 sure⟩, ⟨_, c⟩, ⟨_, d⟩⟩

theorem witness_ErrorLogHoldsThirtyTwo : ready.plk.errW < 64 ∧ ready.plk.errR < 64 ∧ (({ ready.plk with errW := 32 }).errW + 64 - ready.plk.errR) % 64 = 32 := ⟨sure, sure, sure⟩

theorem witness_PlacketEventsRun (h : Obligations.PlacketEventsRun) :
    Fires (.placketPoll 0) ready ∧ Fires (.placketPoll 0) (setPlk { ready.plk with pollAt := 5 } ready) ∧ Fires (.replyWrite 0) answering
    ∧ Fires (.dmaTxDescriptor 0) (ringed 0 9217 mapped) ∧ Fires (.dmaTxDescriptor 0) (ringed 0 9216 mapped) ∧ Fires (.dmaTxDescriptor 0) (ringed 0 4096 mapped)
    ∧ Fires (.dmaRxDescriptor 7) (queued 255 (ringed 15 63 mapped)) ∧ Fires (.dmaRxDescriptor 7) (queued 255 (ringed 15 4097 mapped)) ∧ Fires (.dmaRxDescriptor 7) (queued 255 (ringed 15 4096 mapped)) := by
  obtain ⟨_, e⟩ := (h.2.2.2 7 (queued 255 (ringed 15 4096 mapped)) _ sure sure rfl sure sure).2.2 0 sure sure sure
  exact ⟨⟨_, (h.1 0 ready).2 sure sure⟩, ⟨_, (h.1 0 _).1 (.inr sure)⟩, ⟨_, h.2.1 0 answering (.ring 0) true _ rfl sure sure⟩, ⟨_, (h.2.2.1 _ _ _ sure rfl).1 sure⟩, ⟨_, (h.2.2.1 _ _ _ sure rfl).2.1 sure sure⟩,
    ⟨_, (h.2.2.1 _ _ _ sure rfl).2.2 0 sure sure⟩, ⟨_, (h.2.2.2 _ _ _ sure sure rfl sure sure).1 sure⟩, ⟨_, (h.2.2.2 _ _ _ sure sure rfl sure sure).2.1 sure sure sure⟩, ⟨_, e⟩⟩

theorem witness_PcieEventsRun (h : Obligations.PcieEventsRun) :
    Fires (.pcieCompletion 1 .ok []) reading ∧ Fires (.pcieCompletion 0 .ok [1]) (at_ 100 reading) ∧ Fires (.pcieCompletion 0 .ur []) reading ∧ Fires (.pcieCompletion 0 .ok [1, 2, 3]) reading ∧ Fires (.pcieCompletion 0 .ok [1, 2, 3, 4]) reading
    ∧ Fires (.cplTimeout 100 0) reading ∧ Fires (.fcStall 0 8) transferring ∧ Fires (.pcieLinkStateChange .l0) ready ∧ Fires (.pcieConfigWrite (.maxPayload 0)) ready
    ∧ Fires .functionLevelReset ready ∧ Fires .pcieFundamentalReset ready :=
  ⟨⟨_, (h.1 _ _ _ _ sure).1 sure⟩, ⟨_, (h.1 _ _ _ (at_ 100 reading) sure).2.1 _ rfl sure⟩, ⟨_, ((h.1 _ _ _ reading sure).2.2 _ rfl sure).1 sure⟩, ⟨_, ((h.1 _ _ _ reading sure).2.2 _ rfl sure).2.1 sure sure⟩, ⟨_, ((h.1 _ _ _ reading sure).2.2 _ rfl sure).2.2 sure sure⟩,
   ⟨_, h.2.1 _ _ _ _ sure rfl sure⟩, ⟨_, h.2.2.1 0 8 _ 0 64 0 transferring sure sure rfl sure sure⟩, ⟨_, h.2.2.2.1 _ _ sure⟩, ⟨_, (h.2.2.2.2 _ sure).2.1 _⟩,
   ⟨_, (h.2.2.2.2 _ sure).2.2.2.2.1⟩, ⟨_, (h.2.2.2.2 _ sure).2.2.2.2.2⟩⟩
/-- Epoch 0 without a tree; no quadrant for cells and no reservation of queue 215; the first frame of `sending` still arrives. -/
def bare : State := setPat { rooted.pat with current := some {} } rooted
def poor (s : State) : State := setBuf 215 { getBuf 215 s with reserve := 0 } { s with fab := { s.fab with quads := [] } }
def sendingOpen (done : Nat) : State := { sending done with fab := { (sending done).fab with frames := [{ frame512 with ended := false }] } }

theorem witness_FrameArrivalEventsRun (h : Obligations.FrameArrivalEventsRun) :
    Fires (.frameReceive 26 [] .more) ready ∧ Fires (.frameReceive 5 [1, 2] .more) linked ∧ Fires (.frameReceive 5 frame60 .good) dozing ∧ Fires (.lookupComplete 5 false .clean) ready
    ∧ Fires (.lookupComplete 5 false .clean) (holding (asked none) rooted) ∧ Fires (.lookupComplete 5 true .clean) (holding (asked (some 0)) rooted)
    ∧ Fires (.lookupComplete 5 false .uncorrectable) (holding (asked (some 0)) rooted) ∧ Fires (.lookupComplete 5 true .corrected) (holding (asked (some 0)) bare) ∧ Fires (.admission 5) (poor (holding judged ready)) ∧ Fires (.admission 5) (holding (asked none) ready)
    ∧ Fires (.admission 5) (holding judged ready) ∧ Fires .shuttleSlot ready ∧ Fires .treadleRotation ready ∧ Fires (.competingTimeout 26 7 5) ready ∧ Fires (.bankClearDone 3) (quadIn .clearing)
    ∧ Fires (.quadrantDrained 3) (quadIn .draining) := by
  obtain ⟨_, a, -⟩ := ((h (holding judged ready) 5).2.2.2.2.2.2.1 judged 26 sure sure sure sure rfl rfl rfl sure sure).2 true sure sure rfl rfl sure
  obtain ⟨_, b, -⟩ := (h ready 0).2.2.2.2.2.2.2.1 sure
  obtain ⟨_, c, -⟩ := (h ready 26).2.2.2.2.2.2.2.2.2.1 7 5 sure
  exact ⟨⟨_, (h ready 26).1 _ _ sure sure⟩, ⟨_, (h linked 5).2.1 _ sure sure sure sure sure sure sure sure⟩, ⟨_, (h dozing 5).2.2.1 _ sure sure sure⟩, ⟨_, (h ready 5).2.2.2.1 _ _ sure sure⟩,
    ⟨_, ((h (holding (asked none) rooted) 5).2.2.2.2.1 false .clean _ sure rfl rfl).1 sure⟩,
    ⟨_, ((((h (holding (asked (some 0)) rooted) 5).2.2.2.2.1 true .clean _ sure rfl rfl).2 _ rfl sure).2 9 sure).2 9 sure sure⟩,
    ⟨_, ((((h (holding (asked (some 0)) rooted) 5).2.2.2.2.1 false .uncorrectable _ sure rfl rfl).2 _ rfl sure).2 9 sure).1 sure⟩,
    ⟨_, (((h (holding (asked (some 0)) bare) 5).2.2.2.2.1 true .corrected _ sure rfl rfl).2 _ rfl sure).1 sure⟩,
    ⟨_, ((h (poor (holding judged ready)) 5).2.2.2.2.2.2.1 judged 26 sure sure sure sure rfl rfl rfl sure sure).1 sure⟩,
    ⟨_, (h (holding (asked none) ready) 5).2.2.2.2.2.1 _ sure sure rfl sure⟩, ⟨_, a⟩, ⟨_, b⟩, ⟨_, (h ready 0).2.2.2.2.2.2.2.2.1 sure⟩, ⟨_, c⟩,
    ⟨_, ((h (quadIn .clearing) 0).2.2.2.2.2.2.2.2.2.2 3).1 sure⟩, ⟨_, ((h (quadIn .draining) 0).2.2.2.2.2.2.2.2.2.2 3).2 sure sure⟩⟩

theorem witness_FrameTransmissionEventsRun (h : Obligations.FrameTransmissionEventsRun) :
    Fires (.egressSelect 26) (sending 0) ∧ Fires (.egressSelect 26) ready ∧ Fires (.egressSelect 30) (queued 247 ready) ∧ Fires (.egressSelect 26) preempted
    ∧ Fires (.cellRead 26 .clean) (sending 2) ∧ Fires (.cellRead 26 .clean) (sending 3) ∧ Fires (.frameTransmitEnd 26) (sending 4) ∧ Fires (.preemption 26) held ∧ Fires (.frameTransmitEnd 26) ready ∧ Fires (.preemption 26) ready ∧ Fires (.frameTransmitEnd 26) (sendingOpen 1)
    ∧ Fires (.preemptVerify 26 3) (sending 0) ∧ Fires (.preemptVerify 26 3) ready ∧ Fires (.frameAged 0 30 7) (queued 247 ready) ∧ Fires (.frameAged 50000000 30 7) (queued 247 ready) := by
  obtain ⟨_, _, -, c⟩ := (h.1 (queued 247 ready) 30 sure sure sure).2.2.1 7 sure sure sure sure sure sure
  obtain ⟨_, v, -⟩ := (h.2.2.2.1 (sending 0) 26 3).1 sure
  obtain ⟨_, _, -, -, -, w⟩ := ((h.2.2.1 held 26 sure).2 _ _ rfl rfl).2.2 0 sure sure sure rfl (.inr (.inl sure)) sure
  exact ⟨⟨_, (h.1 _ _ sure sure sure).1 _ rfl⟩, ⟨_, (h.1 _ _ sure sure sure).2.1 sure sure sure⟩, ⟨_, c⟩, ⟨_, (h.1 _ _ sure sure sure).2.2.2 _ sure rfl sure sure⟩,
    ⟨_, (h.2.1 _ _ _ _ _ sure sure rfl rfl rfl rfl sure).1 sure⟩, ⟨_, (h.2.1 _ _ _ _ _ sure sure rfl rfl rfl rfl sure).2 sure sure⟩,
    ⟨_, ((h.2.2.1 (sending 4) 26 sure).2 _ _ rfl rfl).2.1 rfl rfl sure rfl rfl⟩,
    ⟨_, w⟩, ⟨_, ((h.2.2.1 ready 26 sure).1 sure).1⟩, ⟨_, ((h.2.2.1 ready 26 sure).1 sure).2⟩, ⟨_, ((h.2.2.1 (sendingOpen 1) 26 sure).2 _ _ rfl rfl).1 rfl sure⟩,
    ⟨_, v⟩, ⟨_, (h.2.2.2.1 ready 26 3).2 sure⟩, ⟨_, (h.2.2.2.2 _ 0 30 7 sure).1 sure⟩, ⟨_, (h.2.2.2.2 _ 50000000 30 7 sure).2 _ _ rfl sure sure⟩⟩

theorem witness_GateAndRecoveryEventsRun (h : Obligations.GateAndRecoveryEventsRun) :
    Fires (.gateEntryStart 0 26) gated ∧ Fires (.gateCycleStart 0 26) gated ∧ Fires (.gateCycleStart 0 26) ready ∧ Fires (.gclCtReached 0 26) committed ∧ Fires (.gclCtReached 500000 26) committed
    ∧ Fires (.stitchOverrideEnd 249 26) gated ∧ Fires (.stitchOverrideEnd 250 26) gated ∧ Fires (.sgateEntryStart 0 255) gated ∧ Fires (.sgateEntryStart 500000 7) committed
    ∧ Fires (.frerResetTimeout 500000 2047) (recovering 1) ∧ Fires (.frerLatentTest 500000 2047) (recovering 0) ∧ Fires (.frerLatentTest 500000 2047) (recovering 1) ∧ Fires (.frerLatentReset 500000 2047) (recovering 1)
    ∧ Fires (.gclCtReached 0 26) ready ∧ Fires (.frerResetTimeout 499999 2047) (recovering 1) ∧ Fires (.frerLatentTest 499999 2047) (recovering 1) ∧ Fires (.frerLatentReset 499999 2047) (recovering 1) := by
  obtain ⟨_, a, b, -⟩ := ((h gated 0 sure).1 26).2.1 sure sure
  obtain ⟨_, c, -⟩ := ((h committed 500000 sure).1 26).2.2.2.2.1 _ rfl sure
  obtain ⟨_, d, -⟩ := (((h gated 250 sure).1 26).2.2.2.2.2 _ rfl sure).2 sure
  exact ⟨⟨_, a⟩, ⟨_, b⟩, ⟨_, (((h ready 0 sure).1 26).1 sure).2⟩, ⟨_, ((h committed 0 sure).1 26).2.2.2.1 _ rfl sure⟩, ⟨_, c⟩, ⟨_, (((h gated 249 sure).1 26).2.2.2.2.2 _ rfl sure).1 sure⟩, ⟨_, d⟩,
    ⟨_, ((h gated 0 sure).2.1 255).1 sure sure⟩, ⟨_, ((h committed 500000 sure).2.1 7).2 _ rfl sure⟩,
    ⟨_, ((h (recovering 1) 500000 sure).2.2 2047 sure).1 sure sure⟩, ⟨_, ((h (recovering 0) 500000 sure).2.2 2047 sure).2.2.2.1 sure sure⟩,
    ⟨_, ((h (recovering 1) 500000 sure).2.2 2047 sure).2.2.2.2.1 sure sure⟩, ⟨_, ((h (recovering 1) 500000 sure).2.2 2047 sure).2.2.2.2.2.1 sure⟩,
    ⟨_, ((h ready 0 sure).1 26).2.2.1 sure⟩, ⟨_, ((h (recovering 1) 499999 sure).2.2 2047 sure).2.1 (.inr sure)⟩, ⟨_, ((h (recovering 1) 499999 sure).2.2 2047 sure).2.2.1 sure⟩, ⟨_, ((h (recovering 1) 499999 sure).2.2 2047 sure).2.2.2.2.2.2 sure⟩⟩

theorem witness_BeaconEventsRun (h : Obligations.BeaconEventsRun) :
    Fires (.gptpSyncReceived 1 9 0 0) ready ∧ Fires (.gptpSyncReceived 0 9 0 0) stepping ∧ Fires (.gptpSyncReceived 0 9 (-65536000) 7) following
    ∧ Fires (.gptpSyncReceived 0 9 65536001 7) (setInst 0 { gm := some 8 } following) ∧ Fires (.syncReceiptTimeout 1 1) ready ∧ Fires (.syncReceiptTimeout 1 0) following
    ∧ Fires (.grandmasterSelection true 1) ready ∧ Fires (.grandmasterSelection false 1) grandmaster := by
  obtain ⟨_, a, -⟩ := (h.1 following 0 9 (-65536000) 7 sure sure).2.2.1 sure sure sure sure sure sure
  obtain ⟨_, b, -⟩ := (h.1 (setInst 0 { gm := some 8 } following) 0 9 65536001 7 sure sure).2.2.2 sure sure sure sure sure
  obtain ⟨_, c, -⟩ := (h.2.2 ready 1 sure sure).1
  obtain ⟨_, d, -⟩ := (h.2.2 grandmaster 1 sure sure).2 sure
  exact ⟨⟨_, (h.1 _ _ _ _ _ sure sure).1 sure⟩, ⟨_, (h.1 _ _ _ _ _ sure sure).2.1 sure sure sure sure⟩, ⟨_, a⟩, ⟨_, b⟩, ⟨_, (h.2.1 _ _ _ sure).1 sure⟩, ⟨_, (h.2.1 _ _ _ sure).2 sure sure sure⟩, ⟨_, c⟩, ⟨_, d⟩⟩

theorem witness_StitchAndPatternEventsRun (h : Obligations.StitchAndPatternEventsRun) :
    Fires (.stitchEdge 0 3 false false 0) counting ∧ Fires (.stitchEdge 0 3 true true 0) counting ∧ Fires (.stitchEdge 0 1 true false 9) counting ∧ Fires (.stitchEdge 0 1 true false 10) counting ∧ Fires (.stitchEdge 0 2 true false 10) counting
    ∧ Fires (.stitchEdge 0 0 true false 10) counting ∧ Fires (.standstillTimeout 0 1) counting ∧ Fires (.standstillTimeout 500000 1) counting ∧ Fires (.keyFire 0 (.mark 0 0)) ready
    ∧ Fires (.keyFire 0 (.mark 7 0)) marking ∧ Fires (.keyFire 0 (.gate 26 0)) stitching ∧ Fires (.keyFire 99 (.mark 7 0)) { marking with stb := { marking.stb with lastFire := [(34, some 0)] } }
    ∧ Fires (.markPulseEnd 0 7) ready ∧ Fires (.markPulseEnd 0 7) pulsing ∧ Fires .epochFree ready ∧ Fires .epochFree draining ∧ Fires .epochFree referred
    ∧ Fires (.zoneSwapRetry 0) ready ∧ Fires (.zoneSwapRetry 0) (swapping referred) ∧ Fires (.zoneSwapRetry 0) (swapping draining) ∧ Fires (.zoneSwapRetry 0) (swapping rooted)
    ∧ Fires (.fragResolvedExpiry 15000000 9) (fragmented false) ∧ Fires (.fragEarlyExpiry 1000000 9) (fragmented false) ∧ Fires (.fragEarlyExpiry 1000000 9) (fragmented true) := by
  obtain ⟨_, a, -⟩ := (((h counting 0).1 sure).1 1 true false 10).2.2.2.1 sure sure sure sure
  obtain ⟨_, b, -⟩ := (((h counting 0).1 sure).1 2 true false 10).2.2.2.1 sure sure sure sure
  obtain ⟨_, c, -⟩ := (((h counting 0).1 sure).1 0 true false 10).2.2.2.2.1 sure sure sure sure
  obtain ⟨_, d, -⟩ := ((h marking 0).1 sure).2.2.1 7 0 0 0 sure sure sure
  obtain ⟨_, e, -⟩ := ((h stitching 0).1 sure).2.2.2.1 26 0 (BitVec.ofNat 128 (2 <<< 125 ||| 1 <<< 123 ||| 1 <<< 48)) 1 sure sure sure sure
  obtain ⟨_, f, -⟩ := ((h { marking with stb := { marking.stb with lastFire := [(34, some 0)] } } 99).1 sure).2.2.2.2.1 (.mark 7 0) 0 sure sure sure sure
  obtain ⟨_, g⟩ := ((h (fragmented true) 1000000).2.2.2 sure 9).2 _ rfl |>.2 sure sure
  exact ⟨⟨_, (((h counting 0).1 sure).1 3 false false 0).1 sure sure⟩, ⟨_, (((h counting 0).1 sure).1 3 true true 0).2.1 sure sure⟩, ⟨_, (((h counting 0).1 sure).1 1 true false 9).2.2.1 sure sure sure sure⟩, ⟨_, a⟩, ⟨_, b⟩, ⟨_, c⟩,
    ⟨_, (((h counting 0).1 sure).1 1 true false 9).2.2.2.2.2.1 sure⟩, ⟨_, (((h counting 500000).1 sure).1 1 true false 9).2.2.2.2.2.2 sure sure⟩, ⟨_, ((h ready 0).1 sure).2.1 (.mark 0 0) sure⟩,
    ⟨_, d⟩, ⟨_, e⟩, ⟨_, f⟩, ⟨_, (((h ready 0).1 sure).2.2.2.2.2 7).1 sure⟩, ⟨_, (((h pulsing 0).1 sure).2.2.2.2.2 7).2 0 sure sure⟩,
    ⟨_, ((h ready 0).2.1 sure).1 sure⟩, ⟨_, (((h draining 0).2.1 sure).2 _ rfl).2 sure⟩, ⟨_, (((h referred 0).2.1 sure).2 _ rfl).1 sure⟩,
    ⟨_, ((h ready 0).2.2.1 sure).1 sure⟩, ⟨_, (((h (swapping referred) 0).2.2.1 sure).2 _ sure sure rfl sure).1 sure⟩, ⟨_, (((h (swapping draining) 0).2.2.1 sure).2 _ sure sure rfl sure).2 sure⟩, ⟨_, (((h (swapping rooted) 0).2.2.1 sure).2 _ sure sure rfl sure).2 sure⟩,
    ⟨_, ((h (fragmented false) 15000000).2.2.2 sure 9).1⟩, ⟨_, (((h (fragmented false) 1000000).2.2.2 sure 9).2 _ rfl).1 sure⟩, ⟨_, g⟩⟩

theorem witness_CanAndGatewayEventsRun (h : Obligations.CanAndGatewayEventsRun) :
    Fires .gatewayDeliver ready ∧ Fires .gatewayDeliver (taken .can none canMsg rooted) ∧ Fires .gatewayDeliver (taken .ethernet (some 0) canMsg rooted) ∧ Fires .gatewayDeliver (taken .can (some 0) fdMsg rooted)
    ∧ Fires .gatewayDeliver (taken .can (some 0) canMsg rooted) ∧ Fires .gatewayDeliver (taken .can (some 0) canMsg slotted) ∧ Fires (.containerFlush 0 4) contained ∧ Fires (.containerFlush 49 3) contained
    ∧ Fires (.containerFlush 50000 3) contained ∧ Fires (.canTxTimeout 50000000 31) (setTxq 31 [⟨canMsg, 0⟩] ready)
    ∧ Fires (.canFrameRx 0 0 canMsg) (onBus canOn) ∧ Fires (.canFrameRx 0 0 canMsg) (onBus { canOn with fifo := List.replicate 32 (canMsg, 0) })
    ∧ Fires (.canBusIdle 0) { onBus canOn with edge := { (onBus canOn).edge with handed := [(0, [⟨5, canMsg, 0⟩])] } } ∧ Fires (.canBusIdle 0) (setTxq 0 [⟨canMsg, 0⟩] (onBus canOn)) ∧ Fires (.canBusIdle 0) (onBus canOn)
    ∧ Fires (.canErrorDetected 0 .stuff true false) (onBus { canOn with recv := 126 }) ∧ Fires (.canErrorDetected 0 .bit0 false false) (onBus { canOn with recv := 119 })
    ∧ Fires (.canErrorDetected 0 .stuff true true) (onBus { canOn with record := canOn.record ||| BitVec.twoPow 128 120 }) ∧ Fires (.canErrorDetected 0 .ack true true) (onBus { canOn with recv := 127, tec := 119 })
    ∧ Fires (.canErrorDetected 0 .bit1 true true) (onBus { canOn with tec := 255 }) ∧ Fires (.canTxComplete 0 .success) (onBus { canOn with tec := 127, sending := some (⟨canMsg, 0⟩, none) })
    ∧ Fires (.canTxComplete 0 .lostArbitration) (onBus { canOn with sending := some (⟨canMsg, 0⟩, none) }) ∧ Fires (.busOffRecoveryDone 0) (onBus { canOn with bus := .recovering }) ∧ Fires (.busOffRecoveryDone 0) ready
    ∧ Fires (.busIntegrationDone 0) (onBus { canOn with bus := .integrating }) ∧ Fires (.transceiverWakeWait 0 15) ready ∧ Fires (.transceiverWakeWait 7 0) (onBus { canOn with waitUntil := some 7 })
    ∧ Fires (.rateDwellExpiry 49999999 0) (onBus (seeking 0)) ∧ Fires (.rateDwellExpiry 50000000 0) (onBus (seeking 0)) ∧ Fires (.rateDwellExpiry 50000000 0) (onBus (seeking 1)) := by
  obtain ⟨h1, h2, h3, h4, h5, h6⟩ := h
  have g1 := fun c => (h4 (onBus c) 0)
  obtain ⟨_, a, -⟩ := ((g1 { canOn with tec := 255 }) sure sure sure sure sure sure sure sure).2.1 sure sure sure sure |>.2.2.2.2.2.2 .bit1 true sure sure sure sure
  exact ⟨⟨_, (h1 _ sure sure).1 sure⟩, ⟨_, ((h1 (taken .can none canMsg rooted) sure sure).2 _ _ rfl).1 rfl⟩, ⟨_, ((h1 (taken .ethernet (some 0) canMsg rooted) sure sure).2 _ _ rfl).2.1 rfl rfl rfl⟩,
    ⟨_, (((h1 (taken .can (some 0) fdMsg rooted) sure sure).2 _ _ rfl).2.2 _ 0 0 rfl rfl sure sure sure).1 sure⟩,
    ⟨_, ((((h1 (taken .can (some 0) canMsg rooted) sure sure).2 _ _ rfl).2.2 _ 0 0 rfl rfl sure sure sure).2 canMsg sure).1 sure⟩,
    ⟨_, ((((h1 (taken .can (some 0) canMsg slotted) sure sure).2 _ _ rfl).2.2 _ 0 (BitVec.ofNat 128 (1 <<< 99 ||| 5 <<< 93)) rfl rfl sure sure sure).2 canMsg sure).2 sure⟩,
    ⟨_, (h2 contained 0 4 sure).1 sure⟩, ⟨_, ((h2 contained 49 3 sure).2 _ rfl sure).1 sure⟩, ⟨_, ((h2 contained 50000 3 sure).2 _ rfl sure).2 sure⟩,
    ⟨_, h3 _ _ _ sure⟩,
    ⟨_, ((g1 canOn sure sure sure sure sure sure sure sure).1 canMsg 0 sure sure sure).1 sure⟩, ⟨_, ((g1 { canOn with fifo := List.replicate 32 (canMsg, 0) } sure sure sure sure sure sure sure sure).1 canMsg 0 sure sure sure).2 sure⟩,
    ⟨_, ((h4 { onBus canOn with edge := { (onBus canOn).edge with handed := [(0, [⟨5, canMsg, 0⟩])] } } 0 sure sure sure sure sure sure sure sure).2.1 sure sure sure sure).1 _ _ rfl⟩,
    ⟨_, ((h4 (setTxq 0 [⟨canMsg, 0⟩] (onBus canOn)) 0 sure sure sure sure sure sure sure sure).2.1 sure sure sure sure).2.1 _ _ sure rfl⟩, ⟨_, ((g1 canOn sure sure sure sure sure sure sure sure).2.1 sure sure sure sure).2.2.1 sure sure⟩,
    ⟨_, ((g1 { canOn with recv := 126 } sure sure sure sure sure sure sure sure).2.1 sure sure sure sure).2.2.2.1 .stuff true sure |>.1 sure sure⟩, ⟨_, ((g1 { canOn with recv := 119 } sure sure sure sure sure sure sure sure).2.1 sure sure sure sure).2.2.2.1 .bit0 false sure |>.2 sure sure⟩,
    ⟨_, ((g1 { canOn with record := canOn.record ||| BitVec.twoPow 128 120 } sure sure sure sure sure sure sure sure).2.1 sure sure sure sure).2.2.2.2.1 .stuff true sure⟩,
    ⟨_, ((g1 { canOn with recv := 127, tec := 119 } sure sure sure sure sure sure sure sure).2.1 sure sure sure sure).2.2.2.2.2.1 .ack true sure sure sure⟩, ⟨_, a⟩,
    ⟨_, (g1 { canOn with tec := 127, sending := some (⟨canMsg, 0⟩, none) } sure sure sure sure sure sure sure sure).2.2.1 _ rfl sure⟩,
    ⟨_, (g1 { canOn with sending := some (⟨canMsg, 0⟩, none) } sure sure sure sure sure sure sure sure).2.2.2 _ .lostArbitration rfl sure⟩,
    ⟨_, (h5 (onBus { canOn with bus := .recovering }) 0).1 sure⟩, ⟨_, (h5 ready 0).2.1 sure⟩, ⟨_, (h5 (onBus { canOn with bus := .integrating }) 0).2.2 sure sure sure⟩,
    ⟨_, (h6 ready 0 15).1 sure⟩, ⟨_, (h6 (onBus { canOn with waitUntil := some 7 }) 7 0).2.1 7 sure sure⟩,
    ⟨_, (h6 (onBus (seeking 0)) 49999999 0).2.2.1 sure⟩, ⟨_, ((h6 (onBus (seeking 0)) 50000000 0).2.2.2 sure sure).1 sure⟩, ⟨_, ((h6 (onBus (seeking 1)) 50000000 0).2.2.2 sure sure).2 sure sure⟩⟩

theorem witness_LinAndIsoEventsRun (h : Obligations.LinAndIsoEventsRun) :
    Fires (.linScheduleSlot 0 0) (onLin { linOn true with entryEnds := 1, current := [linEntry 1] }) ∧ Fires (.linScheduleSlot 1 0) (onLin { linOn true with entryEnds := 1, current := [linEntry 2] })
    ∧ Fires (.linScheduleSlot 1 0) (onLin { linOn true with entryEnds := 1, current := [linEntry 1] }) ∧ Fires (.linScheduleSlot 1 0) (onLin { linOn true with entryEnds := 1 })
    ∧ Fires (.linHeaderRx 0 16319 (linPid 1) false) (onLin (linOn false)) ∧ Fires (.linHeaderRx 0 22080 1 false) (onLin (linOn false)) ∧ Fires (.linHeaderRx 0 16320 (linPid 1) true) (onLin (linOn false))
    ∧ Fires (.linHeaderRx 0 22080 (linPid 1) false) (onLin (linOn false)) ∧ Fires (.linHeaderRx 0 19200 (linPid 2) false) (onLin (linOn false))
    ∧ Fires (.linResponseRx 0 [1] 5 false) (onLin { linOn true with echo := some [1, 5] }) ∧ Fires (.linResponseRx 0 [1] 0 true) (onLin { linOn false with waiting := some (2, 900) }) ∧ Fires (.linResponseRx 0 [1, 2] 0 false) (onLin { linOn false with waiting := some (2, 900) })
    ∧ Fires (.linResponseRx 0 [1, 2] 0xFC false) (onLin { linOn false with waiting := some (2, 900) }) ∧ Fires (.linResponseTimeout 899 0 1) (onLin { linOn false with waiting := some (2, 900) })
    ∧ Fires (.linResponseTimeout 900 0 1) (onLin { linOn false with waiting := some (2, 900) }) ∧ Fires (.linResponseTimeout 900 0 0) (onLin { linOn true with waiting := some (2, 900) })
    ∧ Fires (.linWakeRx 7) (networked .asleep) ∧ Fires (.linWakeRx 0) (networked .asleep) ∧ Fires (.linWakeRx 0) (networked .awake)
    ∧ Fires (.addressClaimRx 2 claim) interconnected ∧ Fires (.isoNetworkMessage 2 claim) interconnected ∧ Fires (.isoNetworkMessage 0 canMsg) interconnected ∧ Fires (.addressClaimRx 0 claim) interconnected
    ∧ Fires (.addressClaimRx 0 canMsg) interconnected := by
  obtain ⟨h1, h2, h3, h4, h5, h6⟩ := h
  have n : Fires (.isoNetworkMessage 0 canMsg) interconnected := ((h6 interconnected 0 canMsg sure sure sure).2 _ _ _ rfl).1.elim (⟨_, ·⟩) (⟨_, ·⟩)
  exact ⟨⟨_, (h1 (onLin { linOn true with entryEnds := 1, current := [linEntry 1] }) 0 0 0 sure sure sure sure sure sure sure sure sure).1 sure⟩,
    ⟨_, ((h1 (onLin { linOn true with entryEnds := 1, current := [linEntry 2] }) 1 0 (linEntry 2) sure sure sure sure sure sure sure sure sure).2.1 sure sure).1 sure⟩,
    ⟨_, ((h1 (onLin { linOn true with entryEnds := 1, current := [linEntry 1] }) 1 0 (linEntry 1) sure sure sure sure sure sure sure sure sure).2.1 sure sure).2 sure⟩,
    ⟨_, (h1 (onLin { linOn true with entryEnds := 1 }) 1 0 0 sure sure sure sure sure sure sure sure sure).2.2 sure sure⟩,
    ⟨_, (h2 (onLin (linOn false)) 0 16319 (linPid 1) false sure sure sure sure sure).1 sure⟩, ⟨_, (h2 (onLin (linOn false)) 0 22080 1 false sure sure sure sure sure).2.1 sure sure⟩,
    ⟨_, ((h2 (onLin (linOn false)) 0 16320 (linPid 1) false sure sure sure sure sure).2.2.1 sure sure sure).1⟩, ⟨_, ((h2 (onLin (linOn false)) 0 22080 (linPid 1) false sure sure sure sure sure).2.2.1 sure sure sure).2⟩,
    ⟨_, (h2 (onLin (linOn false)) 0 19200 (linPid 2) false sure sure sure sure sure).2.2.2 sure sure sure⟩,
    ⟨_, (h3 (onLin { linOn true with echo := some [1, 5] }) 0 0 0 sure).1 _ _ _ _ sure sure rfl⟩,
    ⟨_, ((h3 (onLin { linOn false with waiting := some (2, 900) }) 0 2 900 sure).2 sure sure sure sure).1 _ _⟩, ⟨_, (((h3 (onLin { linOn false with waiting := some (2, 900) }) 0 2 900 sure).2 sure sure sure sure).2 [1, 2] 0 sure sure).1 sure⟩,
    ⟨_, (((h3 (onLin { linOn false with waiting := some (2, 900) }) 0 2 900 sure).2 sure sure sure sure).2 [1, 2] 0xFC sure sure).2 sure⟩,
    ⟨_, (h4 (onLin { linOn false with waiting := some (2, 900) }) 899 1 0 2 900 sure sure sure).1 sure⟩, ⟨_, (h4 (onLin { linOn false with waiting := some (2, 900) }) 900 1 0 2 900 sure sure sure).2.1 sure sure⟩,
    ⟨_, (h4 (onLin { linOn true with waiting := some (2, 900) }) 900 0 0 2 900 sure sure sure).2.2 sure sure sure⟩,
    ⟨_, (h5 (networked .asleep) 7 sure).1 sure⟩, ⟨_, ((h5 (networked .asleep) 0 sure).2 3 sure).1 sure⟩, ⟨_, ((h5 (networked .awake) 0 sure).2 3 sure).2 sure⟩,
    ⟨_, ((h6 interconnected 2 claim sure sure sure).1 sure).1⟩, ⟨_, ((h6 interconnected 2 claim sure sure sure).1 sure).2⟩, n,
    ⟨_, ((h6 interconnected 0 claim sure sure sure).2 _ _ _ rfl).2.1 sure sure sure⟩, ⟨_, ((h6 interconnected 0 canMsg sure sure sure).2 _ _ _ rfl).2.2 sure sure⟩⟩

theorem witness_SelvageLinkEventsRun (h : Obligations.SelvageLinkEventsRun) :
    (Fires (.selSuperframeTx 1) ready ∧ Fires (.selSighting 1 0 []) ready ∧ Fires (.selCandidateCheck 1 0 []) ready ∧ Fires (.selHeaderRx 1 []) ready ∧ Fires (.selSuperframeTx 0) (onLink selOn)
      ∧ Fires (.selSighting 0 9 (selHeader 7 0 0)) (onLink { selOn with cands := List.replicate 3 { pos := 1, sfn := 0 } }) ∧ Fires (.selSighting 0 9 (selHeader 7 0 0)) (onLink { selOn with cands := List.replicate 4 { pos := 1, sfn := 0 } })
      ∧ Fires (.selCandidateCheck 0 9 (selHeader 7 0 0)) (onLink { selOn with cands := [{ pos := 9, sfn := 7 }] }) ∧ Fires (.selCandidateCheck 0 9 (selHeader 8 0 0)) (onLink { selOn with cands := [{ pos := 9, sfn := 7, passes := 1 }] })
      ∧ Fires (.selCandidateCheck 0 9 (selHeader 0 0 0)) (onLink { selOn with cands := [{ pos := 9, sfn := 65535, passes := 2 }] }))
    ∧ (Fires (.selHeaderRx 0 (selHeader 7 0 0)) (onLink { selFrame .up with badRun := 2 }) ∧ Fires (.selHeaderRx 0 (selHeader 7 0 0)) (onLink { selFrame .detect with badRun := 3 })
      ∧ Fires (.selHeaderRx 0 (selHeader 1 0 0)) (onLink (selFrame .up)) ∧ Fires (.selHeaderRx 0 (selHeader 1 0 0)) (onLink { selFrame .detect with plugged := true })
      ∧ Fires (.selBlockLockLoss 0) (onLink selOn) ∧ Fires (.selBlockLockAcquired 0) (onLink { selOn with blockLock := false, defects := { lob := true } }))
    ∧ (Fires (.selThreadBlockRx 0 8 []) (onLink selOn) ∧ Fires (.selThreadIdle 0 8) (onLink selOn) ∧ Fires (.selThreadBlockRx 0 8 [8]) (onLink (selFrame .up)) ∧ Fires (.selThreadBlockRx 0 0 firstBlock) (onLink (selFrame .up))
      ∧ Fires (.selThreadIdle 0 8) (onLink { selFrame .up with linQueue := [(1, true, [2])] }) ∧ Fires (.selThreadIdle 0 7) (setTxq 23 [⟨canMsg, 0⟩] { onLink (selFrame .up) with edge := { vc := [(23, ⟨BitVec.twoPow 128 127⟩)] } }))
    ∧ (Fires (.selDiscBlockRx 0 [1, 2, 3, 4, 255, 255, 255, 255]) (onLink (selFrame .up)) ∧ Fires (.sdccBurst 0 true 0x7E true) (onLink selOn) ∧ Fires (.selLosSet 0 0) (onLink selOn) ∧ Fires (.selLosClear 0 0) (onLink { selOn with defects := { los := true } })) := by
  obtain ⟨_, _, _, _, a, -⟩ := (h (onLink selOn) 0 sure).2.1 sure sure
  obtain ⟨_, b, -⟩ := ((h (onLink { selOn with cands := [{ pos := 9, sfn := 65535, passes := 2 }] }) 0 sure).2.2.2.1 (selHeader 0 0 0) { pos := 9, sfn := 65535, passes := 2 } sure sure sure sure).2.2 sure sure sure sure sure
  obtain ⟨_, c, -⟩ := ((h (onLink { selFrame .detect with badRun := 3 }) 0 sure).2.2.2.2.1 (selHeader 7 0 0) sure sure).2.1 sure sure sure sure sure
  obtain ⟨_, d, -⟩ := (((h (onLink (selFrame .up)) 0 sure).2.2.2.2.1 (selHeader 1 0 0) sure sure).2.2 sure sure sure).1 sure
  obtain ⟨_, e, -⟩ := (((h (onLink { selFrame .detect with plugged := true }) 0 sure).2.2.2.2.1 (selHeader 1 0 0) sure sure).2.2 sure sure sure).2 sure sure sure sure sure sure
  have off := (h ready 1 sure).1 sure
  refine ⟨⟨⟨_, off.1⟩, ⟨_, (off.2.1 _ _).1⟩, ⟨_, (off.2.1 _ _).2⟩, ⟨_, off.2.2 _⟩, ⟨_, a⟩,
    ⟨_, ((h (onLink { selOn with cands := List.replicate 3 { pos := 1, sfn := 0 } }) 0 sure).2.2.1 9 (selHeader 7 0 0) sure sure sure sure sure).1 sure⟩,
    ⟨_, ((h (onLink { selOn with cands := List.replicate 4 { pos := 1, sfn := 0 } }) 0 sure).2.2.1 9 (selHeader 7 0 0) sure sure sure sure sure).2 sure⟩,
    ⟨_, ((h (onLink { selOn with cands := [{ pos := 9, sfn := 7 }] }) 0 sure).2.2.2.1 (selHeader 7 0 0) { pos := 9, sfn := 7 } sure sure sure sure).1 sure⟩,
    ⟨_, ((h (onLink { selOn with cands := [{ pos := 9, sfn := 7, passes := 1 }] }) 0 sure).2.2.2.1 (selHeader 8 0 0) { pos := 9, sfn := 7, passes := 1 } sure sure sure sure).2.1 sure sure⟩, ⟨_, b⟩⟩,
    ⟨⟨_, ((h (onLink { selFrame .up with badRun := 2 }) 0 sure).2.2.2.2.1 (selHeader 7 0 0) sure sure).1 sure sure sure⟩, ⟨_, c⟩, ⟨_, d⟩, ⟨_, e⟩,
      ⟨_, (h (onLink selOn) 0 sure).2.2.2.2.2.1 sure sure sure sure⟩, ⟨_, (h (onLink { selOn with blockLock := false, defects := { lob := true } }) 0 sure).2.2.2.2.2.2.1 sure sure sure⟩⟩,
    ⟨⟨_, (((h (onLink selOn) 0 sure).2.2.2.2.2.2.2.1 8 []).1 sure).1⟩, ⟨_, (((h (onLink selOn) 0 sure).2.2.2.2.2.2.2.1 8 []).1 sure).2⟩, ⟨_, ((h (onLink (selFrame .up)) 0 sure).2.2.2.2.2.2.2.1 8 [8]).2.1 sure sure sure sure⟩,
      ⟨_, ((h (onLink (selFrame .up)) 0 sure).2.2.2.2.2.2.2.1 0 firstBlock).2.2.1 sure sure sure sure sure sure sure sure sure firstBlock_goes_on⟩,
      ⟨_, ((h (onLink { selFrame .up with linQueue := [(1, true, [2])] }) 0 sure).2.2.2.2.2.2.2.1 8 []).2.2.2.1 sure sure sure sure _ _ _ _ rfl⟩,
      ⟨_, ((h (setTxq 23 [⟨canMsg, 0⟩] { onLink (selFrame .up) with edge := { vc := [(23, ⟨BitVec.twoPow 128 127⟩)] } }) 0 sure).2.2.2.2.2.2.2.1 7 []).2.2.2.2 sure sure sure sure sure sure sure _ _ rfl⟩⟩,
    ⟨⟨_, (h (onLink (selFrame .up)) 0 sure).2.2.2.2.2.2.2.2.1 [1, 2, 3, 4, 255, 255, 255, 255] sure sure sure⟩, ⟨_, (h (onLink selOn) 0 sure).2.2.2.2.2.2.2.2.2.1 _ _ _ sure⟩,
      ⟨_, ((h (onLink selOn) 0 sure).2.2.2.2.2.2.2.2.2.2 0).1 sure sure⟩, ⟨_, ((h (onLink { selOn with defects := { los := true } }) 0 sure).2.2.2.2.2.2.2.2.2.2 0).2 sure sure⟩⟩⟩

theorem witness_HitchSequenceEventsRun (h : Obligations.HitchSequenceEventsRun) :
    (Fires (.selIdentRx 0 identSelf) (onLink (selFrame .qualify)) ∧ Fires (.selIdentRx 0 identSelf) (onLink (selFrame .up)) ∧ Fires (.selIdentRx 0 identSelf) (onLink (selFrame .ident)) ∧ Fires (.selIdentRx 0 []) (onLink selOn)
      ∧ Fires (.selIdentAckRx 0) (onLink selOn) ∧ Fires (.selIdentAckRx 0) (onLink (selFrame .ident)) ∧ Fires (.selIdentAckRx 0) (onLink { following_ with hitch := .ident, ident := some identSelf }))
    ∧ (Fires (.selMapSetRx 0 []) (onLink selOn) ∧ Fires (.selMapAckRx 0 []) (onLink selOn) ∧ Fires (.selMapSetRx 0 [1, 0, 0, 16]) (onLink { following_ with hitch := .map }) ∧ Fires (.selMapSetRx 0 [1, 0, 4, 0]) (onLink { following_ with hitch := .map })
      ∧ Fires (.selMapSetRx 0 [1, 0, 0, 15]) (onLink { following_ with hitch := .map }) ∧ Fires (.selMapSetRx 0 [1, 0, 4, 1]) (onLink { following_ with hitch := .map }) ∧ Fires (.selMapSetRx 0 [1, 0, 0, 16]) (onLink selOn)
      ∧ Fires (.selMapAckRx 0 [1, 0, 0, 8]) (onLink { selFrame .map with switchSfn := some 8 }) ∧ Fires (.selMapAckRx 0 [1, 0, 0, 63]) (onLink { selFrame .map with switchSfn := some 63 }) ∧ Fires (.selMapAckRx 0 [0, 0, 0, 9]) (onLink { selFrame .map with switchSfn := some 9 }))
    ∧ (Fires (.selSfnSwitch 0) (onLink { selFrame .map with switchSfn := some 1 }) ∧ Fires (.selSfnSwitch 0) (onLink { selFrame .map with switchSfn := some 0, ackOk := true }) ∧ Fires (.selSfnSwitch 0) (onLink { selFrame .map with switchSfn := some 0 })
      ∧ Fires (.selMapRevert 0) (onLink { selFrame .map with switched := true, sinceSwitch := 15 }) ∧ Fires (.selMapRevert 0) (onLink { following_ with hitch := .map, switched := true, sinceSwitch := 16 })
      ∧ Fires (.selMapRevert 0) (onLink { selFrame .map with switched := true, sinceSwitch := 16 }) ∧ Fires (.selUnhitchRx 0) (onLink (selFrame .up)))
    ∧ (Fires (.selPlugIn 0 0) (onLink selOn) ∧ Fires (.selRateDwellEnd 0 0) (onLink { selOn with dwellEnds := 1 }) ∧ Fires (.selRateDwellEnd 1 0) (onLink { selOn with dwellEnds := 1, plugged := true })
      ∧ Fires (.selQualifyEnd 0 0 16) (onLink (selFrame .qualify)) ∧ Fires (.selQualifyEnd 0 0 17) (onLink (selFrame .qualify)) ∧ Fires (.selQualRdiEnd 0 0) (onLink { selFrame .qualify with qualRdi := some 1 })
      ∧ Fires (.selQualRdiEnd 1 0) (onLink { selFrame .qualify with qualRdi := some 1 }) ∧ Fires (.selIdentResend 0 0) (onLink (selFrame .ident)) ∧ Fires (.selIdentTimeout 500000000 0) (onLink (selFrame .ident))
      ∧ Fires (.selMapTimeout 500000000 0) (onLink (selFrame .map)) ∧ Fires (.selIdentTimeout 499999999 0) (onLink (selFrame .ident)) ∧ Fires (.selMapTimeout 499999999 0) (onLink (selFrame .map))
      ∧ Fires (.selMapSetResend 0 0) (onLink (selFrame .map)) ∧ Fires (.selUnplugTimeout 50000000 0) (onLink { selFrame .up with defects := { los := true } }) ∧ Fires (.selUnplugTimeout 49999999 0) (onLink selOn) ∧ Fires (.selUnhitchRx 0) (onLink { selOn with unhitched := true })) := by
  obtain ⟨_, a, -⟩ := (h (onLink (selFrame .up)) 0 sure sure).2.2.2.2.2.2.2.2.1 sure
  obtain ⟨_, b, -⟩ := ((h (onLink (selFrame .qualify)) 0 sure sure).2.2.2.2.2.2.2.2.2.2 0).2.2.2.1 17 sure sure |>.2 sure
  obtain ⟨_, c, -⟩ := ((h (onLink { selFrame .up with defects := { los := true } }) 0 sure sure).2.2.2.2.2.2.2.2.2.2 50000000).2.2.2.2.2.2.2.2.2.2.1 sure sure sure sure
  have f := h (onLink { following_ with hitch := .map }) 0 sure sure
  have m := h (onLink (selFrame .map)) 0 sure sure
  have n := h (onLink selOn) 0 sure sure
  refine ⟨⟨⟨_, ((h (onLink (selFrame .qualify)) 0 sure sure).1 identSelf sure sure sure).1 sure⟩, ⟨_, ((h (onLink (selFrame .up)) 0 sure sure).1 identSelf sure sure sure).2.1 sure⟩,
      ⟨_, ((h (onLink (selFrame .ident)) 0 sure sure).1 identSelf sure sure sure).2.2 sure sure sure⟩, ⟨_, n.2.1 [] sure⟩, ⟨_, n.2.2.1 sure⟩, ⟨_, (h (onLink (selFrame .ident)) 0 sure sure).2.2.2.1 sure sure⟩,
      ⟨_, (h (onLink { following_ with hitch := .ident, ident := some identSelf }) 0 sure sure).2.2.2.2.1 sure sure sure sure⟩⟩,
    ⟨⟨_, ((n.2.2.2.2.2.1 []).1 sure).1⟩, ⟨_, ((n.2.2.2.2.2.1 []).1 sure).2⟩, ⟨_, (((f.2.2.2.2.2.1 [1, 0, 0, 16]).2.1 sure sure sure).1 sure sure sure).1 sure sure⟩, ⟨_, (((f.2.2.2.2.2.1 [1, 0, 4, 0]).2.1 sure sure sure).1 sure sure sure).1 sure sure⟩,
      ⟨_, (((f.2.2.2.2.2.1 [1, 0, 0, 15]).2.1 sure sure sure).1 sure sure sure).2 sure⟩, ⟨_, (((f.2.2.2.2.2.1 [1, 0, 4, 1]).2.1 sure sure sure).1 sure sure sure).2 sure⟩, ⟨_, ((n.2.2.2.2.2.1 [1, 0, 0, 16]).2.1 sure sure sure).2.1 sure⟩,
      ⟨_, (((h (onLink { selFrame .map with switchSfn := some 8 }) 0 sure sure).2.2.2.2.2.1 [1, 0, 0, 8]).2.1 sure sure sure).2.2 sure sure sure sure sure sure⟩,
      ⟨_, (((h (onLink { selFrame .map with switchSfn := some 63 }) 0 sure sure).2.2.2.2.2.1 [1, 0, 0, 63]).2.1 sure sure sure).2.2 sure sure sure sure sure sure⟩,
      ⟨_, ((h (onLink { selFrame .map with switchSfn := some 9 }) 0 sure sure).2.2.2.2.2.1 [0, 0, 0, 9]).2.2 sure sure sure sure sure sure sure⟩⟩,
    ⟨⟨_, ((h (onLink { selFrame .map with switchSfn := some 1 }) 0 sure sure).2.2.2.2.2.2.1 1 sure sure sure).1 sure⟩, ⟨_, ((h (onLink { selFrame .map with switchSfn := some 0, ackOk := true }) 0 sure sure).2.2.2.2.2.2.1 0 sure sure sure).2.1 sure sure⟩,
      ⟨_, ((h (onLink { selFrame .map with switchSfn := some 0 }) 0 sure sure).2.2.2.2.2.2.1 0 sure sure sure).2.2 sure sure sure⟩, ⟨_, ((h (onLink { selFrame .map with switched := true, sinceSwitch := 15 }) 0 sure sure).2.2.2.2.2.2.2.1 sure sure).1 sure⟩,
      ⟨_, ((h (onLink { following_ with hitch := .map, switched := true, sinceSwitch := 16 }) 0 sure sure).2.2.2.2.2.2.2.1 sure sure).2.1 sure sure⟩,
      ⟨_, ((h (onLink { selFrame .map with switched := true, sinceSwitch := 16 }) 0 sure sure).2.2.2.2.2.2.2.1 sure sure).2.2 sure sure⟩, ⟨_, a⟩⟩,
    ⟨⟨_, (n.2.2.2.2.2.2.2.2.2.2 0).1 sure sure sure⟩, ⟨_, ((h (onLink { selOn with dwellEnds := 1 }) 0 sure sure).2.2.2.2.2.2.2.2.2.2 0).2.1 sure⟩,
      ⟨_, ((h (onLink { selOn with dwellEnds := 1, plugged := true }) 0 sure sure).2.2.2.2.2.2.2.2.2.2 1).2.2.1 1 sure sure sure sure sure⟩,
      ⟨_, ((h (onLink (selFrame .qualify)) 0 sure sure).2.2.2.2.2.2.2.2.2.2 0).2.2.2.1 16 sure sure |>.1 sure sure⟩, ⟨_, b⟩,
      ⟨_, (((h (onLink { selFrame .qualify with qualRdi := some 1 }) 0 sure sure).2.2.2.2.2.2.2.2.2.2 0).2.2.2.2.1 1 sure).1 sure⟩, ⟨_, (((h (onLink { selFrame .qualify with qualRdi := some 1 }) 0 sure sure).2.2.2.2.2.2.2.2.2.2 1).2.2.2.2.1 1 sure).2 sure sure⟩,
      ⟨_, ((h (onLink (selFrame .ident)) 0 sure sure).2.2.2.2.2.2.2.2.2.2 0).2.2.2.2.2.1 sure sure sure⟩, ⟨_, ((h (onLink (selFrame .ident)) 0 sure sure).2.2.2.2.2.2.2.2.2.2 500000000).2.2.2.2.2.2.1 sure sure sure⟩,
      ⟨_, (m.2.2.2.2.2.2.2.2.2.2 500000000).2.2.2.2.2.2.2.1 sure sure sure⟩, ⟨_, ((h (onLink (selFrame .ident)) 0 sure sure).2.2.2.2.2.2.2.2.2.2 499999999).2.2.2.2.2.2.2.2.1 sure |>.1⟩,
      ⟨_, (m.2.2.2.2.2.2.2.2.2.2 499999999).2.2.2.2.2.2.2.2.1 sure |>.2⟩, ⟨_, (m.2.2.2.2.2.2.2.2.2.2 0).2.2.2.2.2.2.2.2.2.1 sure sure sure sure sure⟩, ⟨_, c⟩, ⟨_, (n.2.2.2.2.2.2.2.2.2.2 49999999).2.2.2.2.2.2.2.2.2.2.2 (.inl sure)⟩,
      ⟨_, (h (onLink { selOn with unhitched := true }) 0 sure sure).2.2.2.2.2.2.2.2.2.1 sure⟩⟩⟩
/-- Port 5 starting fast, with a stored state. -/
def fastPort : PortSt := { portReset 5 with powerGood := some 0, stored := some { mode := 2, role := 2, coeffs := 0, chassis := [], portId := [] } }

theorem witness_PortAndPartnerEventsRun (h : Obligations.PortAndPartnerEventsRun) :
    (Fires (.linkUp 5 0 1 false) ready ∧ Fires (.linkUp 5 0 1 false) (portOn (portReset 5)) ∧ Fires (.linkDown 5) ready ∧ Fires (.linkDown 5) (portOn (upPort 0)) ∧ Fires (.trainingFail 5) (portOn (portReset 5)) ∧ Fires (.trainingFail 5) (portOn fastPort)
      ∧ Fires (.phyPowerGood 5) (portOn (portReset 5)) ∧ Fires (.linkUp 5 0 1 true) (portOn fastPort))
    ∧ (Fires (.lldpRx 5 lldpPdu) ready ∧ Fires (.lldpRx 5 [1]) (portOn (upPort 0)) ∧ Fires (.lldpRx 5 lldpPdu) (portOn knownPort) ∧ Fires (.lldpRx 5 shutdownPdu) (portOn (upPort 1)) ∧ Fires (.lldpRx 5 lldpPdu) (portOn (upPort 0)))
    ∧ (Fires (.fastlinkFallback 5000000 5) (portOn { portReset 5 with powerGood := some 0 }) ∧ Fires (.fastlinkFallback 0 5) ready ∧ Fires (.lldpTx 0 5) ready ∧ Fires (.lldpTx 0 5) (portOn (upPort 0))
      ∧ Fires (.lldpTtlExpiry 6 5) (portOn { knownPort with ttlEnds := 7 }) ∧ Fires (.lldpTtlExpiry 7 5) (portOn { knownPort with ttlEnds := 7 }) ∧ Fires (.lldpWaitExpiry 0 5) (portOn { knownPort with heard := true })
      ∧ Fires (.lldpWaitExpiry 1000000000 5) (portOn (upPort 0)) ∧ Fires (.absentHoldExpiry 0 5) ready ∧ Fires (.absentHoldExpiry 250000000 5) (portOn { portReset 5 with partner := 1 })) := by
  obtain ⟨_, a, -⟩ := ((h (portOn (portReset 5)) 5).1 0 1 false sure).2 1 sure sure sure sure
  obtain ⟨_, b, -⟩ := (h (portOn (upPort 0)) 5).2.2.1 sure sure sure
  obtain ⟨_, c, -⟩ := ((h (portOn fastPort) 5).1 0 1 true sure).2 1 sure sure sure sure
  exact ⟨⟨⟨_, ((h ready 5).1 0 1 false sure).1 sure⟩, ⟨_, a⟩, ⟨_, (h ready 5).2.1 sure sure⟩, ⟨_, b⟩, ⟨_, ((h (portOn (portReset 5)) 5).2.2.2.1 sure sure).1 sure sure⟩, ⟨_, ((h (portOn fastPort) 5).2.2.2.1 sure sure).2.1 (.inr sure)⟩, ⟨_, ((h (portOn (portReset 5)) 5).2.2.2.1 sure sure).2.2⟩, ⟨_, c⟩⟩,
    ⟨⟨_, ((h ready 5).2.2.2.2.1 sure sure).1 _ sure⟩, ⟨_, ((h (portOn (upPort 0)) 5).2.2.2.2.1 sure sure).2.1 [1] sure sure sure⟩,
      ⟨_, (((h (portOn knownPort) 5).2.2.2.2.1 sure sure).2.2 lldpPdu 4 [7] 3 [9] 120 sure sure sure).1 sure sure sure sure sure sure⟩,
      ⟨_, (((h (portOn (upPort 1)) 5).2.2.2.2.1 sure sure).2.2 shutdownPdu 4 [7] 3 [9] 0 sure sure sure).2.1 sure sure⟩,
      ⟨_, (((h (portOn (upPort 0)) 5).2.2.2.2.1 sure sure).2.2 lldpPdu 4 [7] 3 [9] 120 sure sure sure).2.2 sure sure sure sure⟩⟩,
    ⟨⟨_, ((h (portOn { portReset 5 with powerGood := some 0 }) 5).2.2.2.2.2 5000000).1 0 sure sure sure⟩, ⟨_, ((h ready 5).2.2.2.2.2 0).2.1 sure⟩, ⟨_, (((h ready 5).2.2.2.2.2 0).2.2 sure).1 sure⟩,
      ⟨_, (((h (portOn (upPort 0)) 5).2.2.2.2.2 0).2.2 sure).2.1 sure sure sure⟩, ⟨_, (((h (portOn { knownPort with ttlEnds := 7 }) 5).2.2.2.2.2 6).2.2 sure).2.2.1 sure⟩,
      ⟨_, (((h (portOn { knownPort with ttlEnds := 7 }) 5).2.2.2.2.2 7).2.2 sure).2.2.2.1 sure sure sure sure⟩, ⟨_, (((h (portOn { knownPort with heard := true }) 5).2.2.2.2.2 0).2.2 sure).2.2.2.2.1 sure⟩,
      ⟨_, (((h (portOn (upPort 0)) 5).2.2.2.2.2 1000000000).2.2 sure).2.2.2.2.2.1 sure sure sure sure sure⟩, ⟨_, (((h ready 5).2.2.2.2.2 0).2.2 sure).2.2.2.2.2.2.1 sure⟩,
      ⟨_, (((h (portOn { portReset 5 with partner := 1 }) 5).2.2.2.2.2 250000000).2.2 sure).2.2.2.2.2.2.2 sure sure sure sure sure⟩⟩⟩

theorem witness_KeyAndCipherEventsRun (h : Obligations.KeyAndCipherEventsRun) :
    (Fires (.keyFetch 62 0 .bodkin .trusted .cipher) keyed ∧ Fires (.keyFetch 63 77 .bodkin .trusted .cipher) keyed ∧ Fires (.keyFetch 63 (BitVec.ofNat 32 (slotGen 63 keyed)) .bodkin .trusted .cipher) keyed
      ∧ Fires .rngHealthFail ready ∧ Fires (.lcNonceExpiry 1) challenged ∧ Fires (.lcNonceExpiry 0) challenged ∧ Fires (.debugNonceExpiry 1) challenged ∧ Fires (.debugNonceExpiry 0) challenged)
    ∧ (Fires .bodkinPipelineEnter ready ∧ Fires .bodkinPipelineEnter (laned { ready with bod := { mode := .recovery } }) ∧ Fires .bodkinPipelineEnter (laned secured) ∧ Fires .bodkinPipelineEnter (laned withSa)
      ∧ Fires (.bodkinPipelineExit 0) ready ∧ Fires (.bodkinPipelineExit 3) (piped false) ∧ Fires (.bodkinPipelineExit 3) (piped true))
    ∧ (Fires (.keeperCryptoRequest (.hmac 63 16 [1])) fullLane ∧ Fires (.keeperCryptoRequest (.hmac 63 16 [1])) keyed ∧ Fires (.keeperCryptoRequest (.cmac 63 4 [1])) keyed ∧ Fires (.mkaPduRx 5 none []) ready
      ∧ Fires (.mkaPduRx 5 none [msg (natBytes 2 0x7FF ++ bytesOf [3, 0] ++ natBytes 32 0x7E00000000000000000000000000000000000000000000000000000000000100)]) secured
      ∧ Fires (.mkaPduRx 5 (some (msg (List.replicate 64 0))) [msg []]) ready) := by
  obtain ⟨h1, h2, h3, h4, h5, h6, h7⟩ := h
  have key := h6 keyed 63 16 [1] sure sure sure sure
  have cma := h6 keyed 63 4 [1] sure sure sure sure
  have mka := (h7 secured 5 sure sure).2.1 (msg (natBytes 2 0x7FF ++ bytesOf [3, 0] ++ natBytes 32 0x7E00000000000000000000000000000000000000000000000000000000000100)) _ rfl sure sure sure sure
  have imp := (h7 ready 5 sure sure).2.2 (msg (List.replicate 64 0)) [msg []] _ rfl sure sure sure
  exact ⟨⟨⟨_, (h1 keyed 62 0 .bodkin .trusted .cipher sure).1 sure⟩, ⟨_, (h1 keyed 63 77 .bodkin .trusted .cipher sure).2.1 sure sure⟩, ⟨_, (h1 keyed 63 (BitVec.ofNat 32 (slotGen 63 keyed)) .bodkin .trusted .cipher sure).2.2 sure sure⟩,
      ⟨_, h2 ready sure⟩, ⟨_, ((h3 challenged 1 _ _).1 rfl).1 sure⟩, ⟨_, ((h3 challenged 0 _ _).1 rfl).2 sure⟩, ⟨_, ((h3 challenged 1 _ _).2 rfl).1 sure⟩, ⟨_, ((h3 challenged 0 _ _).2 rfl).2 sure⟩⟩,
    ⟨⟨_, (h4 ready sure sure).1 sure⟩, ⟨_, ((h4 (laned { ready with bod := { mode := .recovery } }) sure sure).2 _ _ _ rfl rfl).1 sure⟩, ⟨_, (((h4 (laned secured) sure sure).2 _ _ _ rfl rfl).2 sure sure sure sure).1 sure⟩,
      ⟨_, (((h4 (laned withSa) sure sure).2 _ _ _ rfl rfl).2 sure sure sure sure).2 sure sure sure sure sure sure sure⟩,
      ⟨_, (h5 ready 0 sure sure).1 sure⟩, ⟨_, ((h5 (piped false) 3 sure sure).2 _ _ _ rfl rfl).1 sure⟩, ⟨_, ((h5 (piped true) 3 sure sure).2 _ _ _ rfl rfl).2 sure⟩⟩,
    ⟨⟨_, (h6 fullLane 63 16 [1] sure sure sure sure).1 _ sure⟩, ⟨_, key.2.1 sure sure sure⟩, ⟨_, cma.2.2 sure sure sure sure⟩, ⟨_, (h7 ready 5 sure sure).1⟩, ⟨_, mka⟩, ⟨_, imp⟩⟩⟩

theorem witness_ClockPowerAndWakeEventsRun (h : Obligations.ClockPowerAndWakeEventsRun) :
    (Fires (.pllLock 7) ready ∧ Fires (.pllLock 7) (powered (noLock 7)) ∧ Fires (.pllLock 1) { powered (noLock 1) with lamp := { tokenLost := true } } ∧ Fires (.resyncComplete 7 0 3) ready ∧ Fires (.resyncComplete 7 0 3) (powered (noLock 7))
      ∧ Fires (.domainSwitched 7) ready ∧ Fires (.domainSwitched 8) (moving { target := .trim, offs := 0x80, ons := 0x40 }) ∧ Fires (.domainSwitched 5) (moving { target := .trim, offs := 0x20, ons := 0 })
      ∧ Fires (.domainSwitched 7) (moving { target := .trim, offs := 0x80, ons := 0x40 }) ∧ Fires (.domainSwitched 7) (moving { target := .run, offs := 0, ons := 0xC0 }) ∧ Fires (.domainSwitched 5) (moving { target := .run, offs := 0, ons := 0x20 })
      ∧ Fires (.domainSwitched 15) (moving { target := .deep, offs := 0x8000, ons := 0, lights := true }) ∧ Fires (.domainSwitched 0) (moving { target := .off, offs := 1, ons := 0, lights := true }))
    ∧ (Fires (.clockFault 3) deep ∧ Fires (.clockFault 0) ready ∧ Fires (.ref32Timeout 0) ready ∧ Fires (.ref32Timeout 0) deep ∧ Fires (.initiatorTimeout 0 true 7) ready ∧ Fires (.initiatorTimeout 0 true 7) (powered (noLock 7)) ∧ Fires (.initiatorTimeout 0 true 1) (powered (noLock 1))
      ∧ Fires (.initiatorTimeout 0 false 7) ready ∧ Fires (.initiatorTimeout 9 false 7) (setYel { ready.yel with waiting := some (⟨1, 1, msg []⟩, .access 7, 9) } (powered (noLock 7)))
      ∧ Fires (.wakeOscStop 1000000) (oscillates ready) ∧ Fires (.wakeOscStop 0) ready ∧ Fires (.deepWakeSequence 0) ready ∧ Fires (.deepWakeSequence 0) (powered { deep.pwr with wakePending := true })
      ∧ Fires (.dozeWake .doorbell) ready ∧ Fires (.dozeWake (.frame 5)) dozing ∧ Fires (.dozeWake (.frame 6)) dozing ∧ Fires (.dozeWake .doorbell) dozing)
    ∧ (Fires (.wakePinRelease 1) ready ∧ Fires (.wakePin 0) dozing ∧ Fires (.wakePin 1) (powered { ready.pwr with state := .off }) ∧ Fires (.wakePin 0) (powered { ready.pwr with state := .off }) ∧ Fires (.wakePin 0) ready ∧ Fires (.wakePin 1) (starting false)
      ∧ Fires (.wakePin 0) deep ∧ Fires (.selectiveWakeFrame 0 canMsg false) ready ∧ Fires (.wupPattern 0) ready ∧ Fires (.selectiveWakeFrame 0 canMsg false) (decoding 0 0) ∧ Fires (.selectiveWakeFrame 0 fdMsg false) (decoding 2 30)
      ∧ Fires (.selectiveWakeFrame 0 { canMsg with ident := 0, dlc := 0, data := [] } false) (decoding 2 30) ∧ Fires (.selectiveWakeFrame 0 fdMsg false) (decoding 2 31) ∧ Fires (.wupPattern 0) (decoding 0 0) ∧ Fires (.wupPattern 0) (decoding 1 0)
      ∧ Fires (.standbyRxdWake 0) ready ∧ Fires (.standbyRxdWake 0) deep ∧ Fires (.linDeepWake 0) ready ∧ Fires (.linDeepWake 0) deep ∧ Fires (.tc10DeepWake 5) ready
      ∧ Fires (.tc10DeepWake 5) (setNet 3 { record := BitVec.ofNat 128 (3 <<< 124 ||| 1 <<< 123 ||| 1 <<< 98) } deep)) := by
  have hr := h ready
  have hd := h deep
  obtain ⟨_, a0, -⟩ := ((h (starting false)).2.2.2.2.2.1 1).2.2.2.2.2 sure sure
  obtain ⟨_, a1, -⟩ := ((h { powered (noLock 1) with lamp := { tokenLost := true } }).1 1).2.2.1 sure sure sure sure sure
  obtain ⟨_, a2, -⟩ := (((h (moving { target := .run, offs := 0, ons := 0x20 })).1 5).2.2.2.2.2.2.2.2.2.2.2.1 _ rfl sure sure sure).2 sure sure sure
  obtain ⟨_, a3, -⟩ := (((h (moving { target := .deep, offs := 0x8000, ons := 0, lights := true })).1 15).2.2.2.2.2.2.2.2.2.2.2.2 _ rfl sure sure sure).1 sure sure
  obtain ⟨_, a4, -⟩ := (((h (moving { target := .off, offs := 1, ons := 0, lights := true })).1 0).2.2.2.2.2.2.2.2.2.2.2.2 _ rfl sure sure sure).2 sure sure sure
  obtain ⟨_, a5, -⟩ := (hr.2.1 0).2 sure sure
  obtain ⟨_, a6, -⟩ := ((h (powered { deep.pwr with wakePending := true })).2.2.1 0).2.2.2.2.2.2 sure sure sure
  obtain ⟨_, a7, -⟩ := ((h (powered { ready.pwr with state := .off })).2.2.2.2.2.1 0).2.2.2.1 sure sure sure
  obtain ⟨_, a8, -⟩ := (hd.2.2.2.2.2.2).1 0 sure
  obtain ⟨_, a9, -⟩ := ((h (decoding 2 30)).2.2.2.2.2.2.2.1 0 { canMsg with ident := 0, dlc := 0, data := [] } false).2.2.2.1 sure sure sure sure
  obtain ⟨_, b1, -⟩ := ((h (decoding 2 31)).2.2.2.2.2.2.2.1 0 fdMsg false).2.2.2.2.1 sure sure sure sure
  obtain ⟨_, b2, -⟩ := ((h (decoding 1 0)).2.2.2.2.2.2.2.1 0 fdMsg false).2.2.2.2.2.2.1 sure sure
  obtain ⟨_, b3, -⟩ := (hd.2.2.2.2.2.2.2.1 0 fdMsg false).2.2.2.2.2.2.2.2 sure sure
  obtain ⟨_, b4, -⟩ := (hd.2.2.2.2.2.2.2.2.1 0).2 sure sure
  obtain ⟨_, b5, -⟩ := ((h (setNet 3 { record := BitVec.ofNat 128 (3 <<< 124 ||| 1 <<< 123 ||| 1 <<< 98) } deep)).2.2.2.2.2.2.2.2.2 5).2 sure sure
  refine ⟨⟨⟨_, (hr.1 7).1 sure⟩, ⟨_, ((h (powered (noLock 7))).1 7).2.1 sure sure sure⟩, ⟨_, a1⟩, ⟨_, (hr.1 7).2.2.2.2.1 sure 0 (.inl rfl) 3⟩, ⟨_, ((h (powered (noLock 7))).1 7).2.2.2.1 sure 0 3⟩, ⟨_, (hr.1 7).2.2.2.2.2.1 sure⟩,
      ⟨_, ((h (moving { target := .trim, offs := 0x80, ons := 0x40 })).1 8).2.2.2.2.2.2.1 _ rfl sure sure⟩, ⟨_, (((h (moving { target := .trim, offs := 0x20, ons := 0 })).1 5).2.2.2.2.2.2.2.1 _ rfl sure sure).1 sure sure sure⟩,
      ⟨_, (((h (moving { target := .trim, offs := 0x80, ons := 0x40 })).1 7).2.2.2.2.2.2.2.1 _ rfl sure sure).2 sure sure sure sure⟩,
      ⟨_, (((h (moving { target := .run, offs := 0, ons := 0xC0 })).1 7).2.2.2.2.2.2.2.2.2.2.2.1 _ rfl sure sure sure).1 sure sure sure sure⟩, ⟨_, a2⟩, ⟨_, a3⟩, ⟨_, a4⟩⟩,
    ⟨⟨_, (hd.2.1 3).1 sure⟩, ⟨_, a5⟩, ⟨_, (hr.2.2.1 0).1 sure⟩, ⟨_, (hd.2.2.1 0).2.1 sure⟩, ⟨_, ((hr.2.2.1 0).2.2.1 7).1 true sure⟩, ⟨_, (((h (powered (noLock 7))).2.2.1 0).2.2.1 7).2.1 sure⟩, ⟨_, (((h (powered (noLock 1))).2.2.1 0).2.2.1 1).2.1 sure⟩, ⟨_, ((hr.2.2.1 0).2.2.1 7).2.2.1 sure⟩,
      ⟨_, (((h (setYel { ready.yel with waiting := some (⟨1, 1, msg []⟩, .access 7, 9) } (powered (noLock 7)))).2.2.1 9).2.2.1 7).2.2.2 _ _ sure rfl sure⟩,
      ⟨_, ((h (oscillates ready)).2.2.1 1000000).2.2.2.1 0 sure sure⟩, ⟨_, (hr.2.2.1 0).2.2.2.2.1 sure⟩, ⟨_, (hr.2.2.1 0).2.2.2.2.2.1 sure⟩, ⟨_, a6⟩,
      ⟨_, hr.2.2.2.1 sure _⟩, ⟨_, ((h dozing).2.2.2.2.1 sure).1 5 sure⟩, ⟨_, ((h dozing).2.2.2.2.1 sure).2.1 6 sure⟩, ⟨_, ((h dozing).2.2.2.2.1 sure).2.2.1 .doorbell (fun _ => nofun)⟩⟩,
    ⟨⟨_, (hr.2.2.2.2.2.1 1).1⟩, ⟨_, ((h dozing).2.2.2.2.2.1 0).2.1 sure⟩, ⟨_, ((h (powered { ready.pwr with state := .off })).2.2.2.2.2.1 1).2.2.1 sure sure⟩, ⟨_, a7⟩, ⟨_, ((hr.2.2.2.2.2.1 0).2.2.2.2.1 sure sure sure).1 sure⟩, ⟨_, a0⟩,
      ⟨_, a8⟩, ⟨_, ((hr.2.2.2.2.2.2.2.1 0 canMsg false).1 sure).1⟩, ⟨_, ((hr.2.2.2.2.2.2.2.1 0 canMsg false).1 sure).2⟩, ⟨_, ((h (decoding 0 0)).2.2.2.2.2.2.2.1 0 canMsg false).2.1 sure sure⟩,
      ⟨_, ((h (decoding 2 30)).2.2.2.2.2.2.2.1 0 fdMsg false).2.2.1 sure sure sure sure⟩, ⟨_, a9⟩, ⟨_, b1⟩, ⟨_, ((h (decoding 0 0)).2.2.2.2.2.2.2.1 0 canMsg false).2.2.2.2.2.1 sure sure⟩, ⟨_, b2⟩,
      ⟨_, (hr.2.2.2.2.2.2.2.1 0 canMsg false).2.2.2.2.2.2.2.1 sure⟩, ⟨_, b3⟩, ⟨_, (hr.2.2.2.2.2.2.2.2.1 0).1 sure⟩, ⟨_, b4⟩, ⟨_, (hr.2.2.2.2.2.2.2.2.2 5).1 sure⟩, ⟨_, b5⟩⟩⟩
/-- The network in the second phase of consent with ports 4 and 5 linked. -/
def twoPorts : State := setPort 4 (upPort 0) (withPort (inNet { consenting 2 with record := (consenting 2).record ||| BitVec.twoPow 128 97 }))

theorem witness_NetworkManagementEventsRun (h : Obligations.NetworkManagementEventsRun) :
    (Fires (.nmSleepWaitExpiry 0 3) (inNet (net3 .asleep)) ∧ Fires (.nmSleepWaitExpiry 0 3) (overfull (List.replicate 1015745 0)) ∧ Fires (.nmSleepWaitExpiry 0 3) (withNode 0 (inNet (net3 .awake)))
      ∧ Fires (.nmSleepWaitExpiry 0 3) (inNet (net3 .awake)) ∧ Fires (.nmFalseWakeExpiry 0 3) (inNet (net3 .awake)) ∧ Fires (.nmFalseWakeExpiry 0 3) (withNode 0 (inNet (net3 .wakeCheck)))
      ∧ Fires (.nmKeepaliveTx 0 3) (inNet (net3 .awake)) ∧ Fires (.nmKeepaliveTx 0 3) (inNet { net3 .awake with hold := true }) ∧ Fires (.nmKaPoll 0) (powered { ready.pwr with kaPollAt := 1 }) ∧ Fires (.nmKaPoll 0) (inNet (net3 .awake))
      ∧ Fires (.nmConsentTimeout 0 3) (inNet (net3 .awake)) ∧ Fires (.nmConsentTimeout 0 3) (withNode 2 (inNet (consenting 1))) ∧ Fires (.nmConsentTimeout 0 3) (withPort (inNet (consenting 2))))
    ∧ (Fires (.nmKeepAliveRx 1 (nmMsgOf 1 9)) (inNet (net3 .awake)) ∧ Fires (.nmKeepAliveRx 0 (nmMsgOf 1 9)) (inNet (net3 .asleep)) ∧ Fires (.nmRefuseRx 0 (nmMsgOf 1 9)) (inNet (net3 .awake)) ∧ Fires (.nmKeepAliveRx 0 (nmMsgOf 1 63)) (inNet (net3 .awake))
      ∧ Fires (.nmKeepAliveRx 0 (nmMsgOf 1 0xFE)) (inNet (consenting 1)) ∧ Fires (.nmReadyToSleepRx 0 (nmMsgOf 2 9)) (inNet (net3 .awake)) ∧ Fires (.nmConsentRx 0 (nmMsgOf 3 0xFE)) (inNet (consenting 1))
      ∧ Fires (.nmConsentRx 0 (nmMsgOf 3 8)) (withNode 0 (inNet (consenting 1))) ∧ Fires (.nmConsentRx 0 (nmMsgOf 3 9)) (withPort (withNode 0 (inNet (consenting 1)))) ∧ Fires (.nmRefuseRx 0 (nmMsgOf 4 9)) (inNet (consenting 2)) ∧ Fires (.nmRefuseRx 0 (nmMsgOf 4 9)) (inNet (net3 .awake)))
    ∧ (Fires (.tc10SleepAck 5) { ready with twin := { mode := 1, st := .standby } } ∧ Fires (.tc10WakeRx 5) { ready with twin := { mode := 1, st := .standby } } ∧ Fires (.tc10SleepAck 4) (inNet (net3 .awake)) ∧ Fires (.tc10WakeRx 4) (inNet (net3 .awake))
      ∧ Fires (.tc10SleepAck 5) (inNet (net3 .awake)) ∧ Fires (.tc10SleepAck 5) (withPort (inNet (consenting 2))) ∧ Fires (.tc10SleepAck 5) twoPorts ∧ Fires (.tc10WakeRx 5) (inNet (net3 .awake)) ∧ Fires (.tc10WakeRx 5) (inNet (net3 .asleep)) ∧ Fires (.tc10WakeRx 5) (inNet (consenting 2))) := by
  obtain ⟨h1, h2, h3⟩ := h
  obtain ⟨_, a1, -⟩ := ((((h1 (inNet (net3 .awake)) 0 3).1).2.2 sure _ (saved sure sure)).2 sure sure sure)
  obtain ⟨_, a2, -⟩ := (h1 (inNet (net3 .awake)) 0 3).2.2.2.2.1 sure sure sure
  obtain ⟨_, a3, -⟩ := (h1 (withNode 2 (inNet (consenting 1))) 0 3).2.2.2.2.2.2.1 sure sure sure
  obtain ⟨_, a4, -⟩ := (h1 (withPort (inNet (consenting 2))) 0 3).2.2.2.2.2.2.2 sure sure sure
  obtain ⟨_, a5, -⟩ := ((h3 (withPort (inNet (consenting 2))) 5).2 sure).2 3 sure |>.2.2.1 sure sure sure
  obtain ⟨_, a6, -⟩ := ((h3 twoPorts 5).2 sure).2 3 sure |>.2.1 sure (.inl ⟨4, sure, sure⟩)
  exact ⟨⟨⟨_, ((h1 (inNet (net3 .asleep)) 0 3).1).1 sure⟩, ⟨_, ((h1 (overfull (List.replicate 1015745 0)) 0 3).1).2.1 sure (overfull_unsaved _ (Nat.lt_of_lt_of_eq (by decide) List.length_replicate.symm))⟩,
      ⟨_, (((h1 (withNode 0 (inNet (net3 .awake))) 0 3).1).2.2 sure _ (saved sure sure)).1 sure⟩, ⟨_, a1⟩, ⟨_, ((h1 (inNet (net3 .awake)) 0 3).2.1).1 sure⟩, ⟨_, (((h1 (withNode 0 (inNet (net3 .wakeCheck))) 0 3).2.1).2.2 sure _ (saved sure sure)).1 sure⟩,
      ⟨_, (h1 (inNet (net3 .awake)) 0 3).2.2.1.1 sure⟩, ⟨_, (h1 (inNet { net3 .awake with hold := true }) 0 3).2.2.1.2 sure⟩, ⟨_, (h1 (powered { ready.pwr with kaPollAt := 1 }) 0 3).2.2.2.1 sure⟩, ⟨_, a2⟩,
      ⟨_, (h1 (inNet (net3 .awake)) 0 3).2.2.2.2.2.1 sure⟩, ⟨_, a3⟩, ⟨_, a4⟩⟩,
    ⟨⟨_, ((h2 (inNet (net3 .awake)) 1 (nmMsgOf 1 9) sure sure sure).1 sure) 1⟩, ⟨_, ((h2 (inNet (net3 .asleep)) 0 (nmMsgOf 1 9) sure sure sure).2 3 sure).1 sure 1⟩,
      ⟨_, (((h2 (inNet (net3 .awake)) 0 (nmMsgOf 1 9) sure sure sure).2 3 sure).2 sure sure).1 4 sure sure sure⟩, ⟨_, (((h2 (inNet (net3 .awake)) 0 (nmMsgOf 1 63) sure sure sure).2 3 sure).2 sure sure).2.1 sure sure⟩,
      ⟨_, (((h2 (inNet (consenting 1)) 0 (nmMsgOf 1 0xFE) sure sure sure).2 3 sure).2 sure sure).2.2.1 sure sure⟩, ⟨_, (((h2 (inNet (net3 .awake)) 0 (nmMsgOf 2 9) sure sure sure).2 3 sure).2 sure sure).2.2.2.1 sure⟩,
      ⟨_, (((h2 (inNet (consenting 1)) 0 (nmMsgOf 3 0xFE) sure sure sure).2 3 sure).2 sure sure).2.2.2.2.1 sure sure⟩, ⟨_, (((h2 (withNode 0 (inNet (consenting 1))) 0 (nmMsgOf 3 8) sure sure sure).2 3 sure).2 sure sure).2.2.2.2.2.1 sure sure sure sure sure⟩,
      ⟨_, (((h2 (withPort (withNode 0 (inNet (consenting 1)))) 0 (nmMsgOf 3 9) sure sure sure).2 3 sure).2 sure sure).2.2.2.2.2.2.1 sure sure sure sure sure sure⟩,
      ⟨_, (((h2 (inNet (consenting 2)) 0 (nmMsgOf 4 9) sure sure sure).2 3 sure).2 sure sure).2.2.2.2.2.2.2.1 sure sure⟩, ⟨_, (((h2 (inNet (net3 .awake)) 0 (nmMsgOf 4 9) sure sure sure).2 3 sure).2 sure sure).2.2.2.2.2.2.2.2 sure sure⟩⟩,
    ⟨⟨_, ((h3 { ready with twin := { mode := 1, st := .standby } } 5).1 sure sure).1⟩, ⟨_, ((h3 { ready with twin := { mode := 1, st := .standby } } 5).1 sure sure).2⟩, ⟨_, (((h3 (inNet (net3 .awake)) 4).2 sure).1 sure).1⟩, ⟨_, (((h3 (inNet (net3 .awake)) 4).2 sure).1 sure).2⟩,
      ⟨_, (((h3 (inNet (net3 .awake)) 5).2 sure).2 3 sure).1 sure⟩, ⟨_, a5⟩, ⟨_, a6⟩, ⟨_, (((h3 (inNet (net3 .awake)) 5).2 sure).2 3 sure).2.2.2.1 sure⟩, ⟨_, ((((h3 (inNet (net3 .asleep)) 5).2 sure).2 3 sure).2.2.2.2.1 sure sure).1⟩,
      ⟨_, (((h3 (inNet (consenting 2)) 5).2 sure).2 3 sure).2.2.2.2.2 sure sure⟩⟩⟩

theorem witness_SafetyMechanismsRun (h : Obligations.SafetyMechanismsRun) :
    (Fires .lockstepMismatch ready ∧ Fires .comparatorFault ready ∧ Fires .delayParityError ready ∧ Fires .inputDisagreement { ready with kpr := {} } ∧ Fires .tableEccError ready ∧ Fires .lampSelfCheckFault ready ∧ Fires .faultNReadbackFail deep
      ∧ Fires (.railFault 7) ready ∧ Fires (.railFault 7) deep ∧ Fires .timeCopyMismatch ready ∧ Fires (.gateOutputMismatch 26) ready ∧ Fires .timeCopyMismatch dozing ∧ Fires (.gateOutputMismatch 26) dozing
      ∧ Fires (.tcmEccError true) ready ∧ Fires (.tcmEccError false) ready ∧ Fires (.tcmEccError true) deep ∧ Fires (.temperatureThreshold 3 124) ready ∧ Fires (.temperatureThreshold 3 125) ready ∧ Fires (.temperatureThreshold 3 129) ready ∧ Fires (.temperatureThreshold 3 130) ready)
    ∧ (Fires (.watchdogService true) { ready with kpr := {} } ∧ Fires (.watchdogService true) { ready with kpr := { up := true, ctrlBit := true } } ∧ Fires (.watchdogService true) ready ∧ Fires .gateTokenTimeout dozing ∧ Fires .gateTokenTimeout ready
      ∧ Fires (.keeperSelfTestDone true) ready ∧ Fires (.keeperSelfTestDone false) { ready with kpr := {} } ∧ Fires (.keeperSelfTestDone true) { ready with kpr := {}, boot := { ready.boot with banks := [] } } ∧ Fires (.keeperSelfTestDone true) { ready with kpr := {} })
    ∧ (Fires (.lampHeartbeatMissing 0) ready ∧ Fires (.lampHeartbeatMissing 0) deep ∧ Fires (.memoryScrub 0 .clean .clean) deep ∧ Fires (.watchdogExpiry 500000) guarded ∧ Fires (.watchdogExpiry 499999) guarded
      ∧ Fires (.memoryScrub 0 .corrected .uncorrectable) ready)
    ∧ ∀ k i, (k, i) ∈ [(9, 0), (8, 3), (1, 0)] → ({ ready with faults := [(k, i)] } : State).faults = [(k, i)] ∧ reactionOf 9 ≠ .report ∧ reactionOf 1 = .safeKeeper := by
  obtain ⟨h1, h2, -⟩ := h
  obtain ⟨p1, p2, p3, p4, p5, p6, p7, p8, p9, p10, p11, p12, p13, p14, p15, p16, p17, p18⟩ := h1 ready
  have hz := h1 dozing
  have hd := h1 deep
  have hk := h1 { ready with kpr := {} }
  obtain ⟨_, a, -⟩ := p16 sure sure
  obtain ⟨_, b, -⟩ := ((h1 { ready with kpr := {}, boot := { ready.boot with banks := [] } }).2.2.2.2.2.2.2.2.2.2.2.2.2.2.2.2.2 sure sure sure).2.1 sure
  obtain ⟨_, c, -⟩ := (hk.2.2.2.2.2.2.2.2.2.2.2.2.2.2.2.2.2 sure sure sure).2.2 0 sure
  exact ⟨⟨⟨_, p1.1 sure sure⟩, ⟨_, p2.1 sure sure⟩, ⟨_, p3.1 sure sure⟩, ⟨_, hk.2.2.2.1.2 sure⟩, ⟨_, p5.1 sure⟩, ⟨_, p6.1 sure⟩, ⟨_, hd.2.2.2.2.2.2.1.2 sure⟩, ⟨_, ((p8 7).1 sure).1 sure⟩, ⟨_, (hd.2.2.2.2.2.2.2.1 7).2 sure⟩,
      ⟨_, (p9 sure).1.1 sure⟩, ⟨_, ((p9 sure).2 26).1 sure⟩, ⟨_, (hz.2.2.2.2.2.2.2.2.2.1 sure).1⟩, ⟨_, (hz.2.2.2.2.2.2.2.2.2.1 sure).2 26⟩, ⟨_, (p11 sure).1⟩, ⟨_, (p11 sure).2⟩, ⟨_, hd.2.2.2.2.2.2.2.2.2.2.2.1 sure true⟩,
      ⟨_, (p13 3 124).1 sure⟩, ⟨_, (p13 3 125).2.1 sure sure sure⟩, ⟨_, (p13 3 129).2.1 sure sure sure⟩, ⟨_, (p13 3 130).2.2 sure sure⟩⟩,
    ⟨⟨_, (hk.2.2.2.2.2.2.2.2.2.2.2.2.2.1 true).1 sure⟩, ⟨_, (((h1 { ready with kpr := { up := true, ctrlBit := true } }).2.2.2.2.2.2.2.2.2.2.2.2.2.1 true).2 sure).1 sure⟩, ⟨_, ((p14 true).2 sure).2 sure⟩, ⟨_, hz.2.2.2.2.2.2.2.2.2.2.2.2.2.2.1 sure⟩, ⟨_, a⟩,
      ⟨_, p17 sure true⟩, ⟨_, (hk.2.2.2.2.2.2.2.2.2.2.2.2.2.2.2.2.2 sure sure sure).1⟩, ⟨_, b⟩, ⟨_, c⟩⟩,
    ⟨⟨_, (h2 ready 0).1 sure⟩, ⟨_, ((h2 deep 0).2.1 sure).1⟩, ⟨_, ((h2 deep 0).2.1 sure).2 _ _⟩, ⟨_, (h2 guarded 500000).2.2.1 sure sure (sure : (advanceTo 500000 guarded).kpr.wdFrom + msCyc ≤ (advanceTo 500000 guarded).cyc) sure sure⟩,
      ⟨_, (h2 guarded 499999).2.2.2.1 (.inr (.inr (.inl (sure : ¬ (advanceTo 499999 guarded).kpr.wdFrom + msCyc ≤ (advanceTo 499999 guarded).cyc))))⟩, ⟨_, (h2 ready 0).2.2.2.2 sure .corrected .uncorrectable⟩⟩, fun k i _ => ⟨rfl, sure, sure⟩⟩

theorem witness_ResetAndSupplyEventsRun (h : Obligations.ResetAndSupplyEventsRun) :
    (Fires (.powerOnReset true) ready ∧ Fires (.rstNReset 9999 true) ready ∧ Fires (.rstNReset 10000 true) ready ∧ Fires .vinBrownout ready ∧ Fires .vinOvervolt ready
      ∧ Fires (.moduleReset 6) (taking 0 7) ∧ Fires (.keeperReset 6) (taking 0 7) ∧ Fires (.moduleReset 7) (taking 1 7) ∧ Fires (.keeperReset 7) (taking 0 7) ∧ Fires (.moduleReset 7) (taking 0 7) ∧ Fires (.keeperReset 7) (taking 1 7)
      ∧ Fires (.moduleReset 7) ready ∧ Fires (.keeperReset 7) ready)
    ∧ (Fires (.configLoadComplete 0) ready ∧ Fires (.configLoadComplete 0) (starting true) ∧ Fires (.configLoadComplete 0) (starting false) ∧ Fires (.fwSwitchResume 7) ready ∧ Fires (.fwSwitchResume 6) (pausing ready) ∧ Fires (.fwSwitchResume 7) (pausing ready)
      ∧ Fires (.fwSwitchResume 7) (pausing (setTwin { paired.twin with askedInPause := true } paired)))
    ∧ (Fires (.vinCrank 0) deep ∧ Fires (.vinCrank 0) (powered off) ∧ Fires (.vinCrank 0) ready ∧ Fires (.vinCrankTimeout 0) ready ∧ Fires (.vinCrankTimeout 24999999) (lowVin { ready.pwr with crankAt := some 0 })
      ∧ Fires (.vinCrankTimeout 25000000) (lowVin { ready.pwr with crankAt := some 0 }) ∧ Fires (.vinAboveStartThreshold 0) ready ∧ Fires (.vinAboveStartThreshold 0) (lowVin off) ∧ Fires (.vinAboveStartThreshold 0) (lowVin ready.pwr)
      ∧ Fires (.vinAboveStartThreshold 0) (lowVin { deep.pwr with wakePending := true })) := by
  obtain ⟨h1, h2⟩ := h
  obtain ⟨a, b, ⟨_, c, -⟩, d⟩ := h1 ready
  obtain ⟨_, a1, -⟩ := a true
  obtain ⟨_, b1, -⟩ := (b 10000 true).2 sure sure
  have t (k n : Nat) := (h2 (taking k 7) n).1 k 7 rfl
  obtain ⟨_, t1, -⟩ := (t 0 7).2.2.2.1 rfl sure
  obtain ⟨_, t2, -⟩ := (t 1 7).2.2.2.2 rfl sure
  obtain ⟨_, l1, -⟩ := ((h2 (starting true) 0).2.2.2.1 sure sure sure sure).1 sure
  obtain ⟨_, l2, -⟩ := ((h2 (starting false) 0).2.2.2.1 sure sure sure sure).2 0 sure sure
  obtain ⟨_, f1, -⟩ := ((h2 (pausing (setTwin { paired.twin with askedInPause := true } paired)) 7).2.2.2.2.2.1 7 rfl).2 sure |>.2 sure sure sure sure sure
  obtain ⟨_, v1, -⟩ := ((h2 (lowVin { ready.pwr with crankAt := some 0 }) 25000000).2.2.2.2.2.2.2.2.2.2.1 0 rfl sure sure).2 sure
  obtain ⟨_, v2, -⟩ := ((h2 (lowVin off) 0).2.2.2.2.2.2.2.2.2.2.2.2 sure).1 sure
  obtain ⟨_, v3, -⟩ := ((h2 (lowVin { deep.pwr with wakePending := true }) 0).2.2.2.2.2.2.2.2.2.2.2.2 sure).2.2 sure sure
  exact ⟨⟨⟨_, a1⟩, ⟨_, (b 9999 true).1 sure⟩, ⟨_, b1⟩, ⟨_, c⟩, ⟨_, d⟩, ⟨_, ((t 0 6).1 sure).1⟩, ⟨_, ((t 0 6).1 sure).2⟩, ⟨_, (t 1 7).2.1 sure⟩, ⟨_, (t 0 7).2.2.1 sure⟩, ⟨_, t1⟩, ⟨_, t2⟩,
      ⟨_, ((h2 ready 7).2.1 sure).1⟩, ⟨_, ((h2 ready 7).2.1 sure).2⟩⟩,
    ⟨⟨_, (h2 ready 0).2.2.1 sure⟩, ⟨_, l1⟩, ⟨_, l2⟩, ⟨_, (h2 ready 7).2.2.2.2.1 sure⟩, ⟨_, ((h2 (pausing ready) 6).2.2.2.2.2.1 7 rfl).1 sure⟩, ⟨_, ((h2 (pausing ready) 7).2.2.2.2.2.1 7 rfl).2 sure |>.1 sure⟩, ⟨_, f1⟩⟩,
    ⟨⟨_, (h2 deep 0).2.2.2.2.2.2.1 sure⟩, ⟨_, (h2 (powered off) 0).2.2.2.2.2.2.2.1 sure⟩, ⟨_, (h2 ready 0).2.2.2.2.2.2.2.2.1 sure sure sure⟩, ⟨_, (h2 ready 0).2.2.2.2.2.2.2.2.2.1 sure⟩,
      ⟨_, ((h2 (lowVin { ready.pwr with crankAt := some 0 }) 24999999).2.2.2.2.2.2.2.2.2.2.1 0 rfl sure sure).1 sure⟩, ⟨_, v1⟩, ⟨_, (h2 ready 0).2.2.2.2.2.2.2.2.2.2.2.1 sure⟩, ⟨_, v2⟩,
      ⟨_, ((h2 (lowVin ready.pwr) 0).2.2.2.2.2.2.2.2.2.2.2.2 sure).2.1 sure sure⟩, ⟨_, v3⟩⟩⟩

theorem witness_TwinEventsRun_time (h : Obligations.TwinEventsRun) :
    (Fires (.twinHelloTx 0) ready ∧ Fires (.twinHelloTx 0) (twin1 (tw .wait)) ∧ Fires (.twinWaitTimeout 49999999) (twin1 (tw .wait)) ∧ Fires (.twinWaitTimeout 50000000) (twin1 (tw .wait)) ∧ Fires (.twinHbToggle 0) ready ∧ Fires (.twinHbToggle 0) (twin1 (tw .wait))
      ∧ Fires (.twinHbLoss 0) ready ∧ Fires (.twinHbLoss 2500000) (twPair (tw .standby)) ∧ Fires (.twinHbLoss 0) (twPair (tw .active)) ∧ Fires (.twinSilenceTimeout 0) ready ∧ Fires (.twinSilenceTimeout 2500000) (twin1 { tw .standby with partner := some .active })
      ∧ Fires (.twinSilenceTimeout 7) (twPair { tw .sync with takeAt := some 7 }) ∧ Fires (.twinSilenceTimeout 6) (twPair { tw .active with takeAt := some 7 }) ∧ Fires (.twinSilenceTimeout 2499999) (twin1 { tw .active with partner := some .standby })
      ∧ Fires (.twinSilenceTimeout 2500000) (twin1 { tw .active with partner := some .standby }) ∧ Fires (.twinSupervisorReady 7) (twin1 { tw .solo with superAt := some 7 }) ∧ Fires (.twinSupervisorReady 6) (twin1 { tw .solo with superAt := some 7 }) ∧ Fires (.twinSupervisorReady 0) ready)
    ∧ (Fires (.twinAckTimeout 0) ready ∧ Fires (.twinDeltaTx 0) ready ∧ Fires (.twinDeltaTx 0) (twPair { tw .active with changed := [aRecord] }) ∧ Fires (.twinFullSnapshotTx 0) ready ∧ Fires (.twinFullSnapshotTx 0) (twPair (tw .active)) ∧ Fires (.twinHoldOffExpiry 0) ready
      ∧ (Config.serial.toNat < 2 ^ 64 - 1 → Fires (.twinHoldOffExpiry 0) (twPair { tw .standby with holdOff := 0, partnerSerial := BitVec.allOnes 64 })) ∧ Fires (.twinGrantTimeout 25000000) (twPair { tw .standby with askedAt := some 0 }) ∧ Fires (.twinGrantTimeout 24999999) (twPair { tw .standby with askedAt := some 0 })
      ∧ Fires (.twinGrantTimeout 0) ready ∧ Fires (.twinDeferredApply 0) ready ∧ Fires (.twinDeferredApply 7) (twPair { tw .standby with deferred := [{ item := aRecord, due := 7 }] }) ∧ Fires (.twinEpochSwapRetry 0) ready
      ∧ Fires (.twinEpochSwapRetry 6) (twPair { tw .standby with swapWaits := some (3, 7) }) ∧ Fires (.twinEpochSwapRetry 7) (setTwin { tw .standby with swapWaits := some (3, 7) } (setPat { referred.pat with pending := some {} } referred))) := by
  obtain ⟨h1, -⟩ := h
  have r := h1 ready 0
  obtain ⟨_, a1, -⟩ := (h1 (twPair (tw .standby)) 2500000).2.2.2.2.2.1 sure sure |>.1 sure
  obtain ⟨_, a2, -⟩ := (h1 (twin1 { tw .standby with partner := some .active }) 2500000).2.2.2.2.2.2.2.1 sure sure sure
  obtain ⟨_, a3, -⟩ := ((h1 (twPair { tw .sync with takeAt := some 7 }) 7).2.2.2.2.2.2.2.2.1 sure sure).1 7 sure |>.1 sure sure
  obtain ⟨_, a4, -⟩ := (((h1 (twin1 { tw .active with partner := some .standby }) 2500000).2.2.2.2.2.2.2.2.1 sure sure).2 sure).2 sure
  obtain ⟨_, b1, -⟩ := (h1 (twPair { tw .active with changed := [aRecord] }) 0).2.2.2.2.2.2.2.2.2.2.2.2.1.2 ⟨sure, sure, sure, sure, .inl ⟨.inl sure, sure⟩⟩
  obtain ⟨_, b2, -⟩ := (h1 (twPair (tw .active)) 0).2.2.2.2.2.2.2.2.2.2.2.2.2.1.2 sure
  obtain ⟨_, b3, -⟩ := ((h1 (setTwin { tw .standby with swapWaits := some (3, 7) } (setPat { referred.pat with pending := some {} } referred)) 7).2.2.2.2.2.2.2.2.2.2.2.2.2.2.2.2.2.2.2.2 3 7 rfl).2 sure sure
  refine ⟨⟨⟨_, r.1 sure⟩, ⟨_, (h1 (twin1 (tw .wait)) 0).2.1 sure sure⟩, ⟨_, (h1 (twin1 (tw .wait)) 49999999).2.2.1.1 sure⟩, ⟨_, (h1 (twin1 (tw .wait)) 50000000).2.2.1.2 sure⟩, ⟨_, r.2.2.2.1.1 sure⟩, ⟨_, (h1 (twin1 (tw .wait)) 0).2.2.2.1.2 sure⟩,
      ⟨_, r.2.2.2.2.1 sure⟩, ⟨_, a1⟩, ⟨_, ((h1 (twPair (tw .active)) 0).2.2.2.2.2.1 sure sure).2 sure⟩, ⟨_, r.2.2.2.2.2.2.1 sure⟩, ⟨_, a2⟩, ⟨_, a3⟩,
      ⟨_, (((h1 (twPair { tw .active with takeAt := some 7 }) 6).2.2.2.2.2.2.2.2.1 sure sure).1 7 sure).2 sure⟩, ⟨_, (((h1 (twin1 { tw .active with partner := some .standby }) 2499999).2.2.2.2.2.2.2.2.1 sure sure).2 sure).1 sure⟩, ⟨_, a4⟩,
      ⟨_, ((h1 (twin1 { tw .solo with superAt := some 7 }) 7).2.2.2.2.2.2.2.2.2.1 7 rfl).1 sure⟩, ⟨_, ((h1 (twin1 { tw .solo with superAt := some 7 }) 6).2.2.2.2.2.2.2.2.2.1 7 rfl).2 sure⟩, ⟨_, r.2.2.2.2.2.2.2.2.2.2.1 sure⟩⟩,
    ⟨⟨_, r.2.2.2.2.2.2.2.2.2.2.2.1 sure⟩, ⟨_, r.2.2.2.2.2.2.2.2.2.2.2.2.1.1 (fun d => absurd d.2.1 sure)⟩, ⟨_, b1⟩, ⟨_, r.2.2.2.2.2.2.2.2.2.2.2.2.2.1.1 sure⟩, ⟨_, b2⟩, ⟨_, r.2.2.2.2.2.2.2.2.2.2.2.2.2.2.1.1 (fun d => absurd d.2.1 sure)⟩,
      fun hs => ⟨_, (h1 (twPair { tw .standby with holdOff := 0, partnerSerial := BitVec.allOnes 64 }) 0).2.2.2.2.2.2.2.2.2.2.2.2.2.2.1.2 ⟨sure, sure, sure, by show decide (Config.serial.toNat < 2 ^ 64 - 1) = true; exact decide_eq_true hs, sure, sure, sure⟩⟩,
      ⟨_, ((h1 (twPair { tw .standby with askedAt := some 0 }) 25000000).2.2.2.2.2.2.2.2.2.2.2.2.2.2.2.1 0 rfl).1 sure⟩, ⟨_, ((h1 (twPair { tw .standby with askedAt := some 0 }) 24999999).2.2.2.2.2.2.2.2.2.2.2.2.2.2.2.1 0 rfl).2 sure⟩,
      ⟨_, r.2.2.2.2.2.2.2.2.2.2.2.2.2.2.2.2.1 sure⟩, ⟨_, r.2.2.2.2.2.2.2.2.2.2.2.2.2.2.2.2.2.1 sure⟩, ⟨_, (h1 (twPair { tw .standby with deferred := [{ item := aRecord, due := 7 }] }) 7).2.2.2.2.2.2.2.2.2.2.2.2.2.2.2.2.2.2.1 _ rfl sure⟩,
      ⟨_, r.2.2.2.2.2.2.2.2.2.2.2.2.2.2.2.2.2.2.2.1 sure⟩, ⟨_, ((h1 (twPair { tw .standby with swapWaits := some (3, 7) }) 6).2.2.2.2.2.2.2.2.2.2.2.2.2.2.2.2.2.2.2.2 3 7 rfl).1 sure⟩, ⟨_, b3⟩⟩⟩

/-- Network 3 with channel 16 in a pair that this module controls. -/
def netPair : State := setNet 3 { net3 .awake with record := (net3 .awake).record ||| BitVec.twoPow 128 77 } (twPair (tw .active))

theorem witness_TwinEventsRun_frames (h : Obligations.TwinEventsRun) :
    (Fires (.twinHelloRx hdr0 (hello 0 0)) ready ∧ Fires (.twinFullPartRx hdr0 0 1 []) ready ∧ Fires (.twinDeltaRx hdr0 0 1 []) ready ∧ Fires (.twinAckRx hdr0) ready ∧ Fires (.twinRelayUpRx hdr0 3 5 []) ready ∧ Fires (.twinRelayDownRx hdr0 3 5 []) ready
      ∧ Fires (.twinRelinquishRx hdr0) ready ∧ Fires (.twinTakebackReqRx hdr0) ready ∧ Fires (.twinTakebackGrantRx hdr0) ready ∧ Fires (.twinLeaveRx hdr0) ready ∧ Fires (.twinLightsOutRx hdr0 3) ready ∧ Fires (.twinStatusRx hdr0 []) ready)
    ∧ (Fires (.twinHelloRx hdr0 (hello 8 0)) (twin1 (tw .wait)) ∧ Fires (.twinHelloRx hdr0 (hello 1 0)) (twin1 (tw .wait)) ∧ (Config.serial.toNat < 2 ^ 64 - 1 → Fires (.twinHelloRx hdr0 (hello 0 (BitVec.allOnes 64))) (twin1 (tw .wait)))
      ∧ Fires (.twinHelloRx hdr0 (hello 0 0)) (twin1 (tw .wait)) ∧ (Config.serial.toNat < 2 ^ 64 - 1 → Fires (.twinHelloRx hdr0 (hello 1 (BitVec.allOnes 64))) (twin1 (tw .solo))) ∧ Fires (.twinHelloRx hdr0 (hello 1 0)) (twin1 (tw .solo))
      ∧ Fires (.twinHelloRx hdr0 (hello 3 0)) (twin1 (tw .solo)) ∧ Fires (.twinHelloRx hdr0 (hello 2 0)) (twPair (tw .active)) ∧ Fires (.twinHelloRx hdr0 (hello 7 0)) (twPair (tw .active)) ∧ Fires (.twinHelloRx hdr0 (hello 3 0)) (twPair (tw .active))
      ∧ Fires (.twinHelloRx hdr0 (hello 0 0)) (twin1 (tw .relinquished)) ∧ Fires (.twinHelloRx hdr0 (hello 2 0)) (twin1 (tw .incompatible)) ∧ Fires (.twinHelloRx hdr0 (hello 2 0)) (twin1 (tw .stale)))
    ∧ (Fires (.twinFullPartRx hdr0 0 0 []) (twin1 (tw .sync)) ∧ Fires (.twinDeltaRx hdr0 0 1 []) (twin1 (tw .solo)) ∧ Fires (.twinFullPartRx hdr0 0 512 []) (twin1 (tw .sync)) ∧ Fires (.twinDeltaRx hdr0 1 3 []) (twin1 { tw .standby with incoming := some (partOf 0 false) })
      ∧ Fires (.twinDeltaRx hdr0 2 3 []) (twin1 { tw .standby with incoming := some (partOf 0 false) }) ∧ Fires (.twinFullPartRx hdr0 0 1 [aRecord]) (twin1 (tw .sync)) ∧ Fires (.twinDeltaRx hdr0 0 1 []) (twin1 (tw .standby)) ∧ Fires (.twinDeltaRx hdr0 0 1 []) (twin1 { tw .standby with gen := 7 })
      ∧ Fires (.twinDeltaRx hdr0 0 1 []) (twin1 (tw .sync)) ∧ Fires (.twinAckRx hdr0) (twin1 (tw .solo)) ∧ Fires (.twinAckRx hdr0) (twPair { tw .active with sent := [(1, 0)] }) ∧ Fires (.twinAckRx hdr0) (twPair { tw .active with granting := some (false, 1) })
      ∧ Fires (.twinAckRx hdr0) (twPair { tw .active with granting := some (true, 1) }))
    ∧ (Fires (.twinRelayUpRx hdr0 3 5 []) (twin1 (tw .standby)) ∧ Fires (.twinRelayDownRx hdr0 3 5 []) (twin1 (tw .active)) ∧ Fires (.twinRelayUpRx hdr0 3 5 []) (twPair (tw .active)) ∧ Fires (.twinRelayUpRx hdr0 2 5 []) (twPair (tw .active)) ∧ Fires (.twinRelayUpRx hdr0 255 5 []) (twPair (tw .active)) ∧ Fires (.twinRelayUpRx hdr0 1 32 []) (twPair (tw .active))
      ∧ Fires (.twinRelayUpRx hdr0 1 16 (canPseudo 16 true claim)) (twPair (tw .active)) ∧ Fires (.twinRelayUpRx hdr0 1 16 (canPseudo 16 true claim)) netPair
      ∧ Fires (.twinRelayDownRx hdr0 0 26 frame60) (twin1 (tw .standby)) ∧ Fires (.twinRelayDownRx hdr0 1 31 (canPseudo 31 true claim)) (twin1 (tw .standby)) ∧ Fires (.twinRelayDownRx hdr0 2 5 []) (twin1 (tw .standby)) ∧ Fires (.twinRelayDownRx hdr0 3 5 []) (twin1 (tw .standby)) ∧ Fires (.twinRelayDownRx hdr0 4 5 []) (twin1 (tw .standby))
      ∧ Fires (.twinRelinquishRx hdr0) (twPair (tw .active)) ∧ Fires (.twinRelinquishRx hdr0) (twPair (tw .standby)) ∧ Fires (.twinRelinquishRx hdr0) (twin1 { tw .standby with partner := some .active }) ∧ Fires (.twinTakebackReqRx hdr0) (twin1 (tw .solo))
      ∧ Fires (.twinTakebackReqRx hdr0) (pausing (twPair (tw .active))) ∧ Fires (.twinTakebackReqRx hdr0) (twPair (tw .active)) ∧ Fires (.twinTakebackGrantRx hdr0) (twin1 (tw .standby)) ∧ Fires (.twinTakebackGrantRx hdr0) (twin1 { tw .standby with askedAt := some 0 })
      ∧ Fires (.twinLeaveRx hdr0) (twPair (tw .active)) ∧ Fires (.twinLightsOutRx hdr0 3) (twPair (tw .active)) ∧ Fires (.twinLightsOutRx hdr0 4) (twin1 (tw .standby)) ∧ Fires (.twinStatusRx hdr0 [1]) (twin1 (tw .active)) ∧ Fires (.twinStatusRx hdr0 (List.replicate 8 0)) (twin1 (tw .standby))
      ∧ Fires (.twinStatusRx hdr0 (List.replicate 48 1)) (twPair (tw .active))) := by
  have f (x : Twin) := h.2 (twin1 x) hdr0
  have g (x : Twin) := h.2 (twPair x) hdr0
  have r := (h.2 ready hdr0).1 sure sure
  have hw := ((f (tw .wait)).2 sure).1
  obtain ⟨_, a1, -⟩ := ((((f (tw .solo)).2 sure).1 (hello 1 0)).2 .solo sure).2.1 sure |>.2.1 sure sure
  obtain ⟨_, a2, -⟩ := ((((f (tw .solo)).2 sure).1 (hello 3 0)).2 .sync sure).2.1 sure |>.2.2.1 sure
  obtain ⟨_, a3, -⟩ := ((((g (tw .active)).2 sure).1 (hello 2 0)).2 .active sure).2.2.1 sure |>.2.1 sure sure
  obtain ⟨_, a4, -⟩ := ((((g (tw .active)).2 sure).1 (hello 7 0)).2 .relinquished sure).2.2.1 sure |>.2.2.1 sure sure
  obtain ⟨_, b1, -⟩ := ((((f (tw .sync)).2 sure).2.1 true 0 1 [aRecord]).2.2.2.2.2 sure sure rfl rfl).1 rfl
  obtain ⟨_, b2, -⟩ := ((((f (tw .standby)).2 sure).2.1 false 0 1 []).2.2.2.2.2 sure sure rfl rfl).2.1 rfl rfl sure
  obtain ⟨_, b3, -⟩ := (((g { tw .active with granting := some (false, 1) }).2 sure).2.2.2.1 sure).2.1 rfl
  obtain ⟨_, b4, -⟩ := (((g { tw .active with granting := some (true, 1) }).2 sure).2.2.2.1 sure).2.2 rfl
  obtain ⟨_, c1, -⟩ := (((f { tw .standby with partner := some .active }).2 sure).2.2.2.2.2.2.1 sure).2 sure sure
  obtain ⟨_, c2, -⟩ := (((g (tw .active)).2 sure).2.2.2.2.2.2.2.2.1 sure sure).2 sure sure sure
  obtain ⟨_, c3, -⟩ := (((f { tw .standby with askedAt := some 0 }).2 sure).2.2.2.2.2.2.2.2.2.2.1 0 rfl sure).1 sure
  obtain ⟨_, c4, -⟩ := ((g (tw .active)).2 sure).2.2.2.2.2.2.2.2.2.2.2.1
  obtain ⟨_, c5, -⟩ := (((f (tw .standby)).2 sure).2.2.2.2.2.2.2.2.2.2.2.2.1 4).2 sure sure sure
  obtain ⟨_, c6, -⟩ := (((g (tw .active)).2 sure).2.2.2.2.2.2.2.2.2.2.2.2.2 (List.replicate 48 1)).2.2 sure sure
  have up (x : TwinMode) := ((f (tw x)).2 (by cases x <;> exact sure)).2.2.2.2.1
  refine ⟨⟨⟨_, r.1 _⟩, ⟨_, (r.2.1 0 1 []).1⟩, ⟨_, (r.2.1 0 1 []).2⟩, ⟨_, r.2.2.1⟩, ⟨_, (r.2.2.2.1 3 5 []).1⟩, ⟨_, (r.2.2.2.1 3 5 []).2⟩, ⟨_, r.2.2.2.2.1⟩, ⟨_, r.2.2.2.2.2.1⟩, ⟨_, r.2.2.2.2.2.2.1⟩, ⟨_, r.2.2.2.2.2.2.2.1⟩, ⟨_, r.2.2.2.2.2.2.2.2.1 3⟩, ⟨_, r.2.2.2.2.2.2.2.2.2 []⟩⟩,
    ⟨⟨_, (hw (hello 8 0)).1 sure⟩, ⟨_, ((hw (hello 1 0)).2 .solo sure).1 sure |>.1 sure⟩, fun hs => ⟨_, ((hw (hello 0 (BitVec.allOnes 64))).2 .wait sure).1 sure |>.2.1 sure hs⟩, ⟨_, ((hw (hello 0 0)).2 .wait sure).1 sure |>.2.2 sure (.inr (Nat.not_lt_zero _))⟩,
      fun hs => ⟨_, ((((f (tw .solo)).2 sure).1 (hello 1 (BitVec.allOnes 64))).2 .solo sure).2.1 sure |>.1 sure hs⟩, ⟨_, a1⟩, ⟨_, a2⟩, ⟨_, a3⟩, ⟨_, a4⟩, ⟨_, ((((g (tw .active)).2 sure).1 (hello 3 0)).2 .sync sure).2.2.1 sure |>.2.2.2 sure⟩,
      ⟨_, ((((f (tw .relinquished)).2 sure).1 (hello 0 0)).2 .wait sure).2.2.2.1 sure⟩, ⟨_, ((((f (tw .incompatible)).2 sure).1 (hello 2 0)).2 .active sure).2.2.2.2.1 sure⟩, ⟨_, ((((f (tw .stale)).2 sure).1 (hello 2 0)).2 .active sure).2.2.2.2.2 sure⟩⟩,
    ⟨⟨_, (((f (tw .sync)).2 sure).2.1 true 0 0 []).1 sure⟩, ⟨_, (((f (tw .solo)).2 sure).2.1 false 0 1 []).2.1 sure sure⟩, ⟨_, (((f (tw .sync)).2 sure).2.1 true 0 512 []).2.2.1 sure sure rfl sure⟩,
      ⟨_, (((f { tw .standby with incoming := some (partOf 0 false) }).2 sure).2.1 false 1 3 []).2.2.2.1 sure sure _ rfl sure sure sure⟩,
      ⟨_, (((f { tw .standby with incoming := some (partOf 0 false) }).2 sure).2.1 false 2 3 []).2.2.2.2.1 sure sure sure (fun i hi => by cases hi; exact sure)⟩, ⟨_, b1⟩, ⟨_, b2⟩,
      ⟨_, ((((f { tw .standby with gen := 7 }).2 sure).2.1 false 0 1 []).2.2.2.2.2 sure sure rfl rfl).2.2.1 rfl rfl sure⟩, ⟨_, ((((f (tw .sync)).2 sure).2.1 false 0 1 []).2.2.2.2.2 sure sure rfl rfl).2.2.2 rfl sure⟩,
      ⟨_, ((f (tw .solo)).2 sure).2.2.1 sure⟩, ⟨_, (((g { tw .active with sent := [(1, 0)] }).2 sure).2.2.2.1 sure).1 rfl⟩, ⟨_, b3⟩, ⟨_, b4⟩⟩,
    ⟨⟨_, (up .standby 3 5 []).1 sure⟩, ⟨_, (up .active 3 5 []).2.1 sure⟩, ⟨_, (((g (tw .active)).2 sure).2.2.2.2.1 3 5 []).2.2.1 sure |>.1 rfl⟩, ⟨_, (((g (tw .active)).2 sure).2.2.2.2.1 2 5 []).2.2.1 sure |>.2.1 rfl⟩, ⟨_, (((g (tw .active)).2 sure).2.2.2.2.1 255 5 []).2.2.1 sure |>.2.2.1 (.inr sure)⟩, ⟨_, (((g (tw .active)).2 sure).2.2.2.2.1 1 32 []).2.2.1 sure |>.2.2.2.1 rfl sure⟩,
      ⟨_, (((g (tw .active)).2 sure).2.2.2.2.1 1 16 (canPseudo 16 true claim)).2.2.1 sure |>.2.2.2.2 rfl sure sure |>.1 sure⟩, ⟨_, (((h.2 netPair hdr0).2 sure).2.2.2.2.1 1 16 (canPseudo 16 true claim)).2.2.1 sure |>.2.2.2.2 rfl sure sure |>.2 3 sure⟩,
      ⟨_, (up .standby 0 26 frame60).2.2.2 sure |>.1 rfl sure⟩, ⟨_, (up .standby 1 31 (canPseudo 31 true claim)).2.2.2 sure |>.2.1 rfl sure sure⟩, ⟨_, (up .standby 2 5 []).2.2.2 sure |>.2.2.1 rfl sure sure⟩, ⟨_, (up .standby 3 5 []).2.2.2 sure |>.2.2.2.1 rfl sure sure⟩, ⟨_, (up .standby 4 5 []).2.2.2 sure |>.2.2.2.2 sure⟩,
      ⟨_, ((g (tw .active)).2 sure).2.2.2.2.2.1 sure⟩, ⟨_, (((g (tw .standby)).2 sure).2.2.2.2.2.2.1 sure).1 sure⟩, ⟨_, c1⟩, ⟨_, ((f (tw .solo)).2 sure).2.2.2.2.2.2.2.1 sure⟩,
      ⟨_, (((h.2 (pausing (twPair (tw .active))) hdr0).2 sure).2.2.2.2.2.2.2.2.1 sure sure).1 sure⟩, ⟨_, c2⟩, ⟨_, ((f (tw .standby)).2 sure).2.2.2.2.2.2.2.2.2.1 sure⟩, ⟨_, c3⟩, ⟨_, c4⟩,
      ⟨_, (((g (tw .active)).2 sure).2.2.2.2.2.2.2.2.2.2.2.2.1 3).1 sure⟩, ⟨_, c5⟩, ⟨_, (((f (tw .active)).2 sure).2.2.2.2.2.2.2.2.2.2.2.2.2 [1]).1 sure⟩, ⟨_, (((f (tw .standby)).2 sure).2.2.2.2.2.2.2.2.2.2.2.2.2 (List.replicate 8 0)).2.1 sure sure⟩, ⟨_, c6⟩⟩⟩

/-! ## Witnesses of further clauses -/

/-- A lifecycle transition that runs until cycle 9; a module as delivered with root 0 programmed; a record area of slot 63 that no longer takes a write. -/
def transiting : State := { ready with thm := { ready.thm with lcUntil := 9 } }
def provisionable : State := { ready with thm := { programmed := 1 } }
def wornOut : State := { keyed with thm := { keyed.thm with worn := BitVec.twoPow 64 63 } }

theorem witness_KeyCommandsRun_busy (h : Obligations.KeyCommandsRun) :
    MetBy (h.2.2.2.2.2.2.2.2.2.2.2.2.1 (.importKey, cmdImport) (by simp)) transiting (List.replicate 64 0)
    ∧ MetBy (h.2.2.2.2.2.2.2.2.2.2.2.2.1 (.generate, cmdGenerate) (by simp)) transiting (List.replicate 20 0)
    ∧ MetBy (h.2.2.2.2.2.2.2.2.2.2.2.2.1 (.derive, cmdDerive) (by simp)) transiting (List.replicate 20 0)
    ∧ MetBy (h.2.2.2.2.2.2.2.2.2.2.2.2.1 (.destroy, cmdDestroy) (by simp)) transiting (List.replicate 4 0)
    ∧ MetBy (h.2.2.2.2.2.2.2.2.2.2.2.2.1 (.lcChallenge, cmdLcChallenge) (by simp)) transiting []
    ∧ MetBy (h.2.2.2.2.2.2.2.2.2.2.2.2.1 (.lcTransition, cmdLcTransition) (by simp)) transiting (List.replicate 36 0)
    ∧ MetBy (h.2.2.2.2.2.2.2.2.2.2.2.2.1 (.attest, cmdAttest) (by simp)) transiting (List.replicate 36 0)
    ∧ MetBy (h.2.2.2.2.2.2.2.2.2.2.2.2.1 (.lcStatus, cmdLcStatus) (by simp)) transiting [] :=
  ⟨met_by sure sure sure sure, met_by sure sure sure sure, met_by sure sure sure sure, met_by sure sure sure sure, met_by sure sure sure sure, met_by sure sure sure sure, met_by sure sure sure sure, met_by sure sure sure sure⟩

theorem witness_KeyCommandsRun_worn (h : Obligations.KeyCommandsRun) : ∃ t', MetBy (h.2.2.2.2.2.2.2.2.2.2.2.2.2 t') wornOut (bytesOf [63, 0, 0, 0]) :=
  ⟨_, met_by sure sure sure ⟨sure, sure, sure, sure, sure, updateSlot_some sure⟩⟩

/-- The import of root 2 under the provisioning key. -/
def provKey : List Byte := provisioningKey (after provisionable)
def rootParams : List Byte :=
  bytesOf [0x42, 0xFD, 0, 0] ++ List.replicate 16 0 ++ (List.replicate 12 4 ++ List.replicate 32 5 ++ gcmTag provKey (List.replicate 12 4) (natBytes 1 0x42 ++ List.replicate 16 0) (List.replicate 32 5))

theorem witness_KeyCommandsRun_root (h : Obligations.KeyCommandsRun) : ∃ value, Met (h.2.1 provKey value (after provisionable)) provisionable rootParams := by
  have hw : wrapKey 0xFD .mspi (after provisionable) = (.ok provKey, after provisionable) := by
    simp only [wrapKey, provKey]
    rw [if_neg (by decide), if_neg (by decide), if_pos trivial, if_pos sure]
  have ht : (gcmTag provKey (List.replicate 12 4) (natBytes 1 0x42 ++ List.replicate 16 0) (List.replicate 32 5)).length = 16 := by decide +kernel
  have p1 : numAt rootParams 0 1 = 0x42 := by rw [rootParams, List.append_assoc, numAt_left (by decide)]; decide
  have p2 : numAt rootParams 1 1 = 0xFD := by rw [rootParams, List.append_assoc, numAt_left (by decide)]; decide
  have p3 : zeros 2 2 rootParams := by rw [zeros, rootParams, List.append_assoc, numAt_left (by decide)]; decide
  have p4 : (rootParams.drop 4).take 16 = List.replicate 16 0 := by rfl
  have hl : rootParams.length = 80 := by simp only [rootParams, List.length_append, ht]; decide
  exact ⟨_, met sure (by omega) sure sure ⟨sure, hl, p3, .inl p1, p2, sure, by rw [p1]; exact sure, hw, by rw [p1, p4]; exact openBlob_sealed rfl ht⟩⟩

end Sys2Proof.Tests
end

section
/-! Proofs/Counters: what a read of a counter instance returns after a count and after a clear (R7, R13). -/

namespace Sys2Proof.Machine

/-- The place of a counter in the catalog names the counter. -/
theorem Ctr.ctorIdx_injective : Function.Injective Ctr.ctorIdx := Function.LeftInverse.injective Ctr.ofNat_ctorIdx

/-- Each counter has 65,536 places of its own, so in-range instances of distinct counters never meet. -/
theorem ctrKey_inj {c d : Ctr} {i j : Nat} (hi : i < 65536) (hj : j < 65536) : ctrKey d j = ctrKey c i ↔ c = d ∧ i = j := by
  constructor
  · intro h
    unfold ctrKey at h
    have hc : c.ctorIdx = d.ctorIdx := by omega
    exact ⟨Ctr.ctorIdx_injective hc, by omega⟩
  · rintro ⟨rfl, rfl⟩
    rfl

/-- A read after a write to a counter's place: the value written at that instance, the old value at every other. -/
theorem mapGet_mapSet_ctrKey {c d : Ctr} {i j : Nat} (x : Nat) (s : State) (hi : i < 65536) (hj : j < 65536) :
    mapGet 0 (mapSet 0 s.counters (ctrKey c i) x) (ctrKey d j) = if c = d ∧ i = j then x else count d j s := by
  split
  case isTrue h => rw [(ctrKey_inj hi hj).mpr h, mapGet_mapSet_same]
  case isFalse h => exact mapGet_mapSet_other 0 _ x (mt (ctrKey_inj hi hj).mp h)

theorem count_bumpBy {c d : Ctr} {i j : Nat} (n : Nat) (s : State) (hi : i < 65536) (hj : j < 65536) :
    count d j (bumpBy n c i s) = if c = d ∧ i = j then min (2 ^ 48 - 1) (count c i s + n) else count d j s :=
  mapGet_mapSet_ctrKey _ s hi hj

theorem count_clearCount {c d : Ctr} {i j : Nat} (s : State) (hi : i < 65536) (hj : j < 65536) :
    count d j (clearCount c i s) = if c = d ∧ i = j then 0 else count d j s :=
  mapGet_mapSet_ctrKey 0 s hi hj

/-- Settles O9: a count and a clear each write one place of the counter table, and no two counter instances share a place. -/
theorem countersSaturateAndStayApart : Obligations.CountersSaturateAndStayApart := by
  intro n i j c d s hi hj
  exact ⟨count_bumpBy n s hi hj, count_clearCount s hi hj, rfl, rfl⟩

end Sys2Proof.Machine
end

section
/-! Proofs/Lockout: a failure of check 9 is counted and its time kept; the sixteenth within 1 s locks the transport out (R318). -/

namespace Sys2Proof.Machine

theorem getTrans_setTrans_other {t t' : Transport} (h : t' ≠ t) (x : Trans) (s : State) : getTrans t' (setTrans t x s) = getTrans t' s := by
  cases t <;> cases t' <;> simp [getTrans, setTrans] at h ⊢

/-- The times of the failures within the second that ends at `now`, which is itself the time of one (R318). -/
def failuresWithin (now : Nat) (x : Trans) : List Nat := (now :: x.fails).filter (fun c => decide (now < c + 1000 * msCyc))

/-- A transport after a failure of check 9 at `now`: in a lockout it stays as it is; the sixteenth failure within 1 s begins one of 1 s (R318). -/
def Trans.failedAt (now : Nat) (x : Trans) : Trans :=
  if now < x.lockedUntil then x
  else if 16 ≤ (failuresWithin now x).length then { x with fails := [], lockedUntil := now + 1000 * msCyc }
  else { x with fails := failuresWithin now x }

theorem Trans.failedAt_locked {now : Nat} {x : Trans} (h : now < x.lockedUntil) : x.failedAt now = x := if_pos h

theorem Trans.failedAt_open {now : Nat} {x : Trans} (h : x.lockedUntil ≤ now) :
    (x.failedAt now).lockedUntil = (if 16 ≤ (failuresWithin now x).length then now + 1000 * msCyc else x.lockedUntil)
    ∧ (x.failedAt now).fails = (if 16 ≤ (failuresWithin now x).length then [] else failuresWithin now x) := by
  unfold failedAt
  rw [if_neg (Nat.not_lt.mpr h)]
  split <;> exact ⟨rfl, rfl⟩

@[simp] theorem Trans.failedAt_lastSeq (now : Nat) (x : Trans) : (x.failedAt now).lastSeq = x.lastSeq := by
  unfold failedAt
  split
  · rfl
  · split <;> rfl

/-- The counters of a failure of check 9: CMD_AUTH_FAIL, of a sequence CMD_REPLAY too (R318). -/
def countFailure (seq : Bool) (t : Transport) (s : State) : State :=
  bump .kprCmdAuthFail (transportIx t) (if seq then bump .kprCmdReplay (transportIx t) s else s)

theorem countFailure_yel (seq : Bool) (t : Transport) (s : State) : (countFailure seq t s).yel = s.yel := by
  cases seq <;> rfl

theorem getTrans_countFailure (seq : Bool) (t t' : Transport) (s : State) : getTrans t' (countFailure seq t s) = getTrans t' s :=
  getTrans_congr t' (countFailure_yel seq t s)

/-- What a failure of check 9 does to the state: it is counted, and outside a lockout the transport keeps its time (R318). -/
theorem noteFailure_eq (seq : Bool) (t : Transport) (s : State) :
    noteFailure seq t s = if s.cyc < (getTrans t s).lockedUntil then countFailure seq t s
      else setTrans t ((getTrans t s).failedAt s.cyc) (countFailure seq t s) := by
  have hx := getTrans_countFailure seq t t s
  unfold countFailure at hx ⊢
  unfold noteFailure
  simp only [hx, ge_iff_le]
  split
  case isTrue => rfl
  case isFalse h =>
    unfold Trans.failedAt failuresWithin
    rw [if_neg h]
    split <;> rfl

@[simp] theorem noteFailure_counters (seq : Bool) (t : Transport) (s : State) : (noteFailure seq t s).counters = (countFailure seq t s).counters := by
  rw [noteFailure_eq]
  split
  · rfl
  · simp

theorem getTrans_noteFailure_same (seq : Bool) (t : Transport) (s : State) :
    getTrans t (noteFailure seq t s) = (getTrans t s).failedAt s.cyc := by
  rw [noteFailure_eq]
  split
  case isTrue h => rw [getTrans_countFailure, Trans.failedAt_locked h]
  case isFalse => exact getTrans_setTrans _ _ _

theorem getTrans_noteFailure_other (seq : Bool) {t t' : Transport} (h : t' ≠ t) (s : State) :
    getTrans t' (noteFailure seq t s) = getTrans t' s := by
  rw [noteFailure_eq]
  split
  · exact getTrans_countFailure _ _ _ _
  · rw [getTrans_setTrans_other h, getTrans_countFailure]

/-- Checks 7 and 8 passed, the answer is check 9's (R311). -/
theorem admitMsg_of_authenticate (a : Received) (s : State) (ht : hasToken (transportOf a.msg.via) s = true)
    (ho : (getTrans (transportOf a.msg.via) s).outstanding < 64) :
    (authenticate a (tokenTaken a s) = .badTrailer →
      admitMsg a s = refuseMsg a .denied (noteFailure false (transportOf a.msg.via) (tokenTaken a s)))
    ∧ (authenticate a (tokenTaken a s) = .badSequence →
      admitMsg a s = refuseMsg a .denied (noteFailure true (transportOf a.msg.via) (tokenTaken a s))) := by
  rw [← tokenTaken_outstanding] at ho
  unfold admitMsg
  simp only [ht, Bool.not_true, Bool.false_eq_true, ↓reduceIte, if_neg (Nat.not_le.mpr ho), ge_iff_le]
  constructor <;> intro h <;> rw [h]

/-- Settles O31: a failure of check 9 is answered DENIED and noted at its own transport alone, where the count of the failures within 1 s decides the lockout. -/
theorem sixteenFailuresLockOut : Obligations.SixteenFailuresLockOut := by
  constructor
  · intro a s t
    exact admitMsg_of_authenticate a s
  · intro seq t s
    have hsame := getTrans_noteFailure_same seq t s
    refine ⟨noteFailure_counters seq t s, ?_, fun t' h => getTrans_noteFailure_other seq h s, ?_, ?_⟩
    · exact (congrArg Trans.lastSeq hsame).trans (Trans.failedAt_lastSeq _ _)
    · exact fun h => hsame.trans (Trans.failedAt_locked h)
    · intro h
      rw [hsame]
      exact Trans.failedAt_open h

end Sys2Proof.Machine
end

section
/-! Proofs/Windows: a host write to a window's words stages, disables, commits or refuses; a host read returns the active record (R342, R343, R372). -/

namespace Sys2Proof.Machine
open Sys2Proof.Claims

theorem atHost_runs (act : State → State) {s : State} (h : domainRuns 14 s = true) : atHost act s = act s := if_pos h

/-- A host register's row is its effect while the Placket's domain runs. -/
theorem completes_atHost {c : Instr} {act : State → State} {s t : State} (hc : exec c s = ends (atHost act s)) (h : domainRuns 14 s = true)
    (ht : act s = t) : Completes c s t := by
  rw [atHost_runs act h, ht] at hc
  exact hc

theorem exec_windowStageWrite (w : Fin 16) (k : Fin 3) (v : BitVec 32) (s : State) :
    exec (.windowStageWrite w k v) s = ends (atHost (stageWindow w.val k.val v) s) := rfl

theorem exec_windowCommit (w : Fin 16) (v : BitVec 32) (s : State) : exec (.windowCommit w v) s = ends (atHost (commitWindow w.val v) s) := rfl

theorem exec_windowDisable (w : Fin 16) (v : BitVec 32) (s : State) : exec (.windowDisable w v) s = ends (atHost (commitWindow w.val v) s) := rfl

/-- An active record with its ENABLE cleared. -/
def Window.disabled (x : Window) : BitVec 128 := x.active &&& ~~~(BitVec.twoPow 128 127)

/-- Whether `v`, written to word 3, clears ENABLE of an enabled window and changes nothing else of the word (R372). -/
def Window.ClearsEnable (x : Window) (v : BitVec 32) : Prop :=
  x.active.getLsbD 127 = true ∧ bits (windowFields (BitVec.ofNat 128 (v.toNat * 2 ^ 96))) 127 96 = bits x.disabled 127 96

/-- The record that a write of `v` to word 3 commits (R372). -/
def Window.committed (x : Window) (v : BitVec 32) : BitVec 128 := windowFields (putWord x.staged 3 v)

section commitWindow
variable {w : Nat} {v : BitVec 32} {s : State}

theorem commitWindow_disables (h : (getWindow w s).ClearsEnable v) :
    commitWindow w v s = checkWindows (setWindow w { active := (getWindow w s).disabled, staged := (getWindow w s).disabled } s) := if_pos h

/-- A write to word 3 that does not clear ENABLE alone commits or is refused. -/
theorem commitWindow_of_not_clearsEnable (h : ¬ (getWindow w s).ClearsEnable v) :
    commitWindow w v s = if windowFits w ((getWindow w s).committed v) s
      then setWindow w { active := (getWindow w s).committed v, staged := (getWindow w s).committed v } s
      else refuseWindow w s := if_neg h

theorem commitWindow_commits (h : ¬ (getWindow w s).ClearsEnable v) (hfit : windowFits w ((getWindow w s).committed v) s = true) :
    commitWindow w v s = setWindow w { active := (getWindow w s).committed v, staged := (getWindow w s).committed v } s :=
  (commitWindow_of_not_clearsEnable h).trans (if_pos hfit)

theorem commitWindow_refuses (h : ¬ (getWindow w s).ClearsEnable v) (hfit : windowFits w ((getWindow w s).committed v) s = false) :
    commitWindow w v s = refuseWindow w s :=
  (commitWindow_of_not_clearsEnable h).trans (if_neg (ne_true_of_eq_false hfit))

end commitWindow

/-- A host read of a window's word returns the word of the active record (R372). -/
theorem hostReg_window {w k : Nat} (hw : w < 16) (hk : k < 4) (s : State) :
    hostReg (0x1000 + 16 * w + 4 * k) s = bits (getWindow w s).active (32 * k + 31) (32 * k) := by
  have hwin : (0x1000 + 16 * w + 4 * k - 0x1000) / 16 = w := by omega
  have hword : (0x1000 + 16 * w + 4 * k) % 16 / 4 = k := by omega
  have hwidth : 32 * k + 31 + 1 - 32 * k = 32 := by omega
  unfold hostReg bits
  simp (disch := omega) only [if_neg, if_pos, hwin, hword, hwidth, Nat.shiftRight_eq_div_pow]

/-- Settles O37: words 0 to 2 are staged, a write to word 3 disables, commits or is refused, and reads return the active record. -/
theorem windowWritesRun : Obligations.WindowWritesRun := by
  intro s w v hrun
  refine ⟨fun k => ?stage, fun hclear => ?disable, fun hkeep hfit => ?commit, fun hkeep hfit => ?refuse, fun k => ?read⟩
  case stage => exact completes_atHost (exec_windowStageWrite w k v s) hrun rfl
  case disable => exact completes_atHost (exec_windowDisable w v s) hrun (commitWindow_disables hclear)
  case commit => exact completes_atHost (exec_windowCommit w v s) hrun (commitWindow_commits hkeep hfit)
  case refuse => exact completes_atHost (exec_windowCommit w v s) hrun (commitWindow_refuses hkeep hfit)
  case read => exact hostReg_window w.isLt k.isLt s

end Sys2Proof.Machine
end

section
/-! Proofs/Traffic: what the entry of a frame into the packet core, a reply and the bus pins leave unchanged. -/

namespace Sys2Proof.Machine

/-- The state with everything blanked that the sending of frames and replies and the bus pins change: the packet core, the edge, the host bridge, the output trace, the counters and the buffers of the transports. States that are equal here agree in all else. -/
def besideTraffic (s : State) : State :=
  { s with counters := [], out := [], fab := {}, sch := {}, pat := {}, seam := {}, edge := {}, plk := {}, yel := { s.yel with placket := {}, vlan := {}, mspi := {} } }

/-! Single updates. The parentheses keep `simp` from taking these for steps of definitional unfolding, which it could not use in the side condition of a loop. -/

section Updates

variable (s : State)

@[simp] theorem besideTraffic_setFab (x : Fabric) : besideTraffic (setFab x s) = besideTraffic s := (rfl)
@[simp] theorem besideTraffic_updFrame (i : Nat) (u : Frame → Frame) : besideTraffic (updFrame i u s) = besideTraffic s := (rfl)
@[simp] theorem besideTraffic_eraseFrame (i : Nat) : besideTraffic (eraseFrame i s) = besideTraffic s := (rfl)
@[simp] theorem besideTraffic_setQueue (q : Nat) (l : List QEnt) : besideTraffic (setQueue q l s) = besideTraffic s := (rfl)
@[simp] theorem besideTraffic_giveRow (c : Nat) : besideTraffic (giveRow c s) = besideTraffic s := (rfl)
@[simp] theorem besideTraffic_updTracked (q : Nat) (u : Tracked → Tracked) : besideTraffic (updTracked q u s) = besideTraffic s := (rfl)
@[simp] theorem besideTraffic_endContention : besideTraffic (endContention s) = besideTraffic s := (rfl)
@[simp] theorem besideTraffic_bumpBy (n : Nat) (c : Ctr) (i : Nat) : besideTraffic (bumpBy n c i s) = besideTraffic s := (rfl)
@[simp] theorem besideTraffic_bump (c : Ctr) (i : Nat) : besideTraffic (bump c i s) = besideTraffic s := (rfl)
@[simp] theorem besideTraffic_emit (e : Emission) : besideTraffic (emit e s) = besideTraffic s := (rfl)
@[simp] theorem besideTraffic_setFilter (i : Nat) (x : StreamFilter) : besideTraffic (setFilter i x s) = besideTraffic s := (rfl)
@[simp] theorem besideTraffic_setPolicer (i : Nat) (x : Policer) : besideTraffic (setPolicer i x s) = besideTraffic s := (rfl)
@[simp] theorem besideTraffic_setRecov (i : Nat) (x : Recov) : besideTraffic (setRecov i x s) = besideTraffic s := (rfl)
@[simp] theorem besideTraffic_setSGate (i : Nat) (x : StreamGate) : besideTraffic (setSGate i x s) = besideTraffic s := (rfl)
@[simp] theorem besideTraffic_updFrag (i : Nat) (u : Frag → Frag) : besideTraffic (updFrag i u s) = besideTraffic s := (rfl)
@[simp] theorem besideTraffic_refundMeter (o : Nat × Bool × Nat) (n : Nat) : besideTraffic (refundMeter o n s) = besideTraffic s := (rfl)
@[simp] theorem besideTraffic_setCan (ch : Nat) (x : CanChan) : besideTraffic (setCan ch x s) = besideTraffic s := (rfl)
@[simp] theorem besideTraffic_setTxq (ch : Nat) (q : List TxMsg) : besideTraffic (setTxq ch q s) = besideTraffic s := (rfl)
@[simp] theorem besideTraffic_setHanded (ch : Nat) (l : List Handed) : besideTraffic (setHanded ch l s) = besideTraffic s := (rfl)
@[simp] theorem besideTraffic_sideCause (v : Nat) : besideTraffic (sideCause v s) = besideTraffic s := (rfl)

@[simp] theorem besideTraffic_setTrans (t : Transport) (x : Trans) : besideTraffic (setTrans t x s) = besideTraffic s := by
  cases t <;> rfl

@[simp] theorem besideTraffic_ite (c : Prop) [Decidable c] (t u : State) :
    besideTraffic (if c then t else u) = if c then besideTraffic t else besideTraffic u := apply_ite besideTraffic c t u

/-- What each round of a loop leaves unchanged, the loop does. -/
theorem forEach_keeps {α σ β : Type} {p : σ → β} {f : α → σ → σ} (h : ∀ a t, p (f a t) = p t) (l : List α) (s : σ) : p (forEach l f s) = p s := by
  induction l generalizing s with
  | nil => rfl
  | cons a l ih => exact (ih (f a s)).trans (h a s)

@[simp] theorem besideTraffic_forEach {α : Type} {f : α → State → State} (h : ∀ a t, besideTraffic (f a t) = besideTraffic t) (l : List α) :
    besideTraffic (forEach l f s) = besideTraffic s := forEach_keeps h l s

@[simp] theorem besideTraffic_forUpTo {f : Nat → State → State} (h : ∀ i t, besideTraffic (f i t) = besideTraffic t) (n : Nat) :
    besideTraffic (forUpTo n f s) = besideTraffic s := forEach_keeps h (List.range n) s

end Updates

/-! The cell store and the stream filters -/

section Store

variable (s : State)

@[simp] theorem besideTraffic_syncFrame (i : Nat) : besideTraffic (syncFrame i s) = besideTraffic s := by
  unfold syncFrame
  split
  · rfl
  · split <;> simp

theorem besideTraffic_syncLinks_go (q : Nat) (l : List QEnt) : besideTraffic (syncLinks.go q l s) = besideTraffic s := by
  induction l generalizing s with
  | nil => rfl
  | cons e l ih =>
    unfold syncLinks.go
    split <;> simp [ih]

@[simp] theorem besideTraffic_syncLinks (q : Nat) : besideTraffic (syncLinks q s) = besideTraffic s := besideTraffic_syncLinks_go s q _

@[simp] theorem besideTraffic_payCredit (f : Frame) : besideTraffic (payCredit f s) = besideTraffic s := by simp [payCredit]

@[simp] theorem besideTraffic_chargeCell (f : Frame) : besideTraffic (chargeCell f s) = besideTraffic s := by simp [chargeCell]

@[simp] theorem besideTraffic_chargeNew (i : Nat) : besideTraffic (chargeNew i s) = besideTraffic s := by
  unfold chargeNew
  split
  · rfl
  · refine besideTraffic_forUpTo s (fun _ t => ?_) _
    split <;> simp

@[simp] theorem besideTraffic_releaseShared (q : Nat) : besideTraffic (releaseShared q s) = besideTraffic s := by
  unfold releaseShared
  split
  · rfl
  · split
    · rfl
    · split <;> simp

@[simp] theorem besideTraffic_releaseCharge (f : Frame) (c : Charge) : besideTraffic (releaseCharge f c s) = besideTraffic s := by
  cases c <;> simp [releaseCharge]

@[simp] theorem besideTraffic_freeCell (i : Nat) : besideTraffic (freeCell i s) = besideTraffic s := by
  unfold freeCell
  split
  · rfl
  · split
    · rfl
    · split <;> simp

@[simp] theorem besideTraffic_freeAll (i : Nat) : besideTraffic (freeAll i s) = besideTraffic s := by
  unfold freeAll
  split <;> simp

@[simp] theorem besideTraffic_ruleBytes (i : Nat) : besideTraffic (ruleBytes i s) = besideTraffic s := by
  unfold ruleBytes
  split
  · rfl
  · split <;> rfl

@[simp] theorem besideTraffic_endFrame (i : Nat) : besideTraffic (endFrame i s) = besideTraffic s := by
  unfold endFrame settleMeter
  split
  · simp
  · split <;> simp

@[simp] theorem besideTraffic_dropFrame (i : Nat) : besideTraffic (dropFrame i s) = besideTraffic s := by
  unfold dropFrame
  split <;> simp

@[simp] theorem besideTraffic_sgateStep (g : Nat) (r : Filtered) : besideTraffic (sgateStep g r s).2 = besideTraffic s := by
  unfold sgateStep
  cases h : (getSGate g s).entry <;> simp [h, apply_ite Prod.snd]

@[simp] theorem besideTraffic_recovStep (fn : Nat) (tag : Bool) (q : Nat) (r : Filtered) : besideTraffic (recovStep fn tag q r s).2 = besideTraffic s := by
  simp only [recovStep, apply_ite Prod.snd]
  simp

@[simp] theorem besideTraffic_policeStep (pol n : Nat) (known dei : Bool) (r : Filtered) : besideTraffic (policeStep pol n known dei r s).2 = besideTraffic s := by
  unfold policeStep
  cases h : (((getPolicer pol s).fill s.cyc).meter n dei).1 <;> simp [h, apply_ite Prod.snd]

@[simp] theorem besideTraffic_filterFrame (i : Nat) (f : StreamFilter) (k : PKey) (n : Nat) (known : Bool) (cls : Nat) :
    besideTraffic (filterFrame i f k n known cls s).2 = besideTraffic s := by
  simp only [filterFrame, apply_ite Prod.snd]
  simp

@[simp] theorem besideTraffic_handlingFilter (i : Nat) (m : Bool) (pcp : Nat) : besideTraffic (handlingFilter i m pcp s).2 = besideTraffic s := by
  simp only [handlingFilter, apply_ite Prod.snd]
  simp

@[simp] theorem besideTraffic_runFilter (i : Nat) : besideTraffic (runFilter i s) = besideTraffic s := by
  unfold runFilter
  split
  · rfl
  · split <;> simp

end Store

/-! Frames that enter -/

section Entry

variable (s : State)

@[simp] theorem besideTraffic_startWalks : besideTraffic (startWalks s) = besideTraffic s := by
  refine besideTraffic_forEach s (fun f t => ?_) _
  split <;> simp

@[simp] theorem besideTraffic_endHeld (f : Frame) (good : Bool) (c : Ctr) (i : Nat) : besideTraffic (endHeld f good c i s) = besideTraffic s := by
  unfold endHeld
  split <;> simp [reenterHeld]

@[simp] theorem besideTraffic_closeBad (i : Nat) (c : Ctr) (inst : Nat) : besideTraffic (closeBad i c inst s) = besideTraffic s := by
  unfold closeBad
  split <;> simp

@[simp] theorem besideTraffic_keyComplete (i : Nat) (k : PKey) (d : Bool) : besideTraffic (keyComplete i k d s) = besideTraffic s := by
  unfold keyComplete
  split
  · rfl
  · dsimp only
    generalize depthAction _ s = act
    split
    · simp [refuse]
    · match act with
      | 0 => simp
      | 1 => simp [plainVerdict]
      | 2 => simp [refuse]
      | _ + 3 => simp [refuse, plainVerdict]

@[simp] theorem besideTraffic_parseMore (i : Nat) : besideTraffic (parseMore i s) = besideTraffic s := by
  unfold parseMore
  split
  · rfl
  · split
    · rfl
    · split <;> simp [refuse]

@[simp] theorem besideTraffic_settleBytes (i : Nat) : besideTraffic (settleBytes i s) = besideTraffic s := by
  unfold settleBytes
  split <;> simp

/-- A frame that the Keeper sends changes the packet core and its counters alone. -/
@[simp] theorem besideTraffic_keeperSend (out cls : Nat) (b : List Byte) : besideTraffic (keeperSend out cls b s) = besideTraffic s := by
  simp [keeperSend]

end Entry

/-! Bus pins, replies and quadrants -/

section Boundary

variable (s : State)

@[simp] theorem besideTraffic_driveTransceiver (ch : Nat) (stb en : Bool) : besideTraffic (driveTransceiver ch stb en s) = besideTraffic s := by
  simp [driveTransceiver]

@[simp] theorem besideTraffic_setTransceiver (ch : Nat) : besideTraffic (setTransceiver ch s) = besideTraffic s := by simp [setTransceiver]

@[simp] theorem besideTraffic_requeueSending (ch : Nat) : besideTraffic (requeueSending ch s) = besideTraffic s := by
  unfold requeueSending
  dsimp only
  split
  · rfl
  · simp [limitTxq]
  · simp

@[simp] theorem besideTraffic_replyTo (cls opcode : Nat) (m : Msg) (counted : Bool) (e : Status) (r : List Byte) (replicated : Bool) :
    besideTraffic (replyTo cls opcode m counted e r replicated s) = besideTraffic s := by
  unfold replyTo sendReply
  split <;> simp

@[simp] theorem besideTraffic_replyAborted (a : Accepted) : besideTraffic (replyAborted a s) = besideTraffic s := by simp [replyAborted]

@[simp] theorem besideTraffic_drainQuad (q : Nat) : besideTraffic (drainQuad q s) = besideTraffic s := by simp [drainQuad, setQuad]

@[simp] theorem besideTraffic_clearQuad (q : Nat) : besideTraffic (clearQuad q s) = besideTraffic s := by simp [clearQuad]

end Boundary

/-- What two states agree in that differ by traffic alone. -/
theorem agree_of_besideTraffic {s t : State} (h : besideTraffic t = besideTraffic s) :
    t.cyc = s.cyc ∧ t.raised = s.raised ∧ t.bod = s.bod ∧ t.pwr = s.pwr ∧ t.twin = s.twin ∧ t.boot = s.boot
    ∧ t.yel.waiting = s.yel.waiting ∧ t.yel.queue = s.yel.queue ∧ t.yel.held = s.yel.held :=
  ⟨(congrArg State.cyc h :), (congrArg State.raised h :), (congrArg State.bod h :), (congrArg State.pwr h :), (congrArg State.twin h :), (congrArg State.boot h :),
    (congrArg (fun u => u.yel.waiting) h :), (congrArg (fun u => u.yel.queue) h :), (congrArg (fun u => u.yel.held) h :)⟩

end Sys2Proof.Machine
end

section
/-! Proofs/TwinPair: what the operations of the twin pair do to the twin state and the service: frames and generations sent, replies held, states entered, takeover and handover (R334, R440-R455). -/

namespace Sys2Proof.Machine

/-! States entered -/

theorem besideTraffic_enterTwin (m : TwinMode) (s : State) :
    besideTraffic (enterTwin m s) = besideTraffic (setTwin { s.twin with st := m, since := s.cyc } s) := by
  simp [enterTwin]

@[simp] theorem enterTwin_twin (m : TwinMode) (s : State) : (enterTwin m s).twin = { s.twin with st := m, since := s.cyc } :=
  (agree_of_besideTraffic (besideTraffic_enterTwin m s)).2.2.2.2.1

@[simp] theorem enterTwin_frame (m : TwinMode) (s : State) :
    (enterTwin m s).cyc = s.cyc ∧ (enterTwin m s).raised = s.raised ∧ (enterTwin m s).boot = s.boot
    ∧ (enterTwin m s).yel.waiting = s.yel.waiting ∧ (enterTwin m s).yel.queue = s.yel.queue ∧ (enterTwin m s).yel.held = s.yel.held := by
  obtain ⟨hc, hr, -, -, -, hb, hw, hq, hh⟩ := agree_of_besideTraffic (besideTraffic_enterTwin m s)
  exact ⟨hc, hr, hb, hw, hq, hh⟩

/-! Replies -/

theorem besideTraffic_releaseHeld (due : HeldReply → Bool) (replicated : Bool) (s : State) :
    besideTraffic (releaseHeld due replicated s) = besideTraffic (setYel { s.yel with held := s.yel.held.filter (fun h => !(due h)) } s) := by
  simp [releaseHeld]

/-- Held replies that leave change the twin pair, the boot and the waiting commands in nothing. -/
@[simp] theorem releaseHeld_frame (due : HeldReply → Bool) (replicated : Bool) (s : State) :
    (releaseHeld due replicated s).cyc = s.cyc ∧ (releaseHeld due replicated s).raised = s.raised ∧ (releaseHeld due replicated s).twin = s.twin
    ∧ (releaseHeld due replicated s).yel.waiting = s.yel.waiting ∧ (releaseHeld due replicated s).yel.queue = s.yel.queue := by
  obtain ⟨hc, hr, -, -, ht, -, hw, hq, -⟩ := agree_of_besideTraffic (besideTraffic_releaseHeld due replicated s)
  exact ⟨hc, hr, ht, hw, hq⟩

/-- Replies that are not due stay held. -/
@[simp] theorem releaseHeld_held (due : HeldReply → Bool) (replicated : Bool) (s : State) :
    (releaseHeld due replicated s).yel.held = s.yel.held.filter (fun h => !(due h)) :=
  (agree_of_besideTraffic (besideTraffic_releaseHeld due replicated s)).2.2.2.2.2.2.2.2

theorem besideTraffic_abortQueued (s : State) :
    besideTraffic (abortQueued s) = besideTraffic (setYel { s.yel with waiting := none, queue := [] } s) := by
  simp [abortQueued]

/-- No command waits once the accepted ones have ended with ABORTED; nothing else of the pair changes. -/
@[simp] theorem abortQueued_frame (s : State) :
    (abortQueued s).raised = s.raised ∧ (abortQueued s).twin = s.twin
    ∧ (abortQueued s).yel.waiting = none ∧ (abortQueued s).yel.queue = [] ∧ (abortQueued s).yel.held = s.yel.held := by
  obtain ⟨-, hr, -, -, ht, -, hw, hq, hh⟩ := agree_of_besideTraffic (besideTraffic_abortQueued s)
  exact ⟨hr, ht, hw, hq, hh⟩

/-! Frames and generations sent -/

theorem besideTraffic_sendTwin (kind : Nat) (gen : BitVec 32) (body : List Byte) (s : State) :
    besideTraffic (sendTwin kind gen body s) = besideTraffic (setTwin { s.twin with txSeq := s.twin.txSeq + 1 } s) := by
  simp only [sendTwin, besideTraffic_keeperSend]
  rfl

@[simp] theorem sendTwin_twin (kind : Nat) (gen : BitVec 32) (body : List Byte) (s : State) :
    (sendTwin kind gen body s).twin = { s.twin with txSeq := s.twin.txSeq + 1 } :=
  (agree_of_besideTraffic (besideTraffic_sendTwin kind gen body s)).2.2.2.2.1

@[simp] theorem sendTwin_frame (kind : Nat) (gen : BitVec 32) (body : List Byte) (s : State) :
    (sendTwin kind gen body s).cyc = s.cyc ∧ (sendTwin kind gen body s).boot = s.boot
    ∧ (sendTwin kind gen body s).yel.waiting = s.yel.waiting ∧ (sendTwin kind gen body s).yel.queue = s.yel.queue ∧ (sendTwin kind gen body s).yel.held = s.yel.held := by
  obtain ⟨hc, -, -, -, -, hb, hw, hq, hh⟩ := agree_of_besideTraffic (besideTraffic_sendTwin kind gen body s)
  exact ⟨hc, hb, hw, hq, hh⟩

/-- The twin state but for the sequence number of the frames sent. -/
def Twin.unnumbered (x : Twin) : Twin := { x with txSeq := 0 }

/-- A generation sent in its parts changes the twin state in the frames' sequence number alone. -/
theorem sendParts_twin (kind : Nat) (gen : BitVec 32) (rs : List ImageRec) (s : State) : (sendParts kind gen rs s).twin.unnumbered = s.twin.unnumbered :=
  forEach_keeps (p := fun t => t.twin.unnumbered) (fun i t => by simp [Twin.unnumbered]) _ s

@[simp] theorem sendParts_boot (kind : Nat) (gen : BitVec 32) (rs : List ImageRec) (s : State) : (sendParts kind gen rs s).boot = s.boot :=
  forEach_keeps (p := State.boot) (fun i t => by simp) _ s

@[simp] theorem sendParts_sent (kind : Nat) (gen : BitVec 32) (rs : List ImageRec) (s : State) : (sendParts kind gen rs s).twin.sent = s.twin.sent :=
  (congrArg Twin.sent (sendParts_twin kind gen rs s) :)

@[simp] theorem sendParts_st (kind : Nat) (gen : BitVec 32) (rs : List ImageRec) (s : State) : (sendParts kind gen rs s).twin.st = s.twin.st :=
  (congrArg Twin.st (sendParts_twin kind gen rs s) :)

/-- A delta is the next generation, takes every change with it and awaits its acknowledgement (R449). -/
theorem sendDelta_twin (s : State) :
    (sendDelta s).twin.gen = s.twin.gen + 1 ∧ (sendDelta s).twin.changed = [] ∧ (sendDelta s).twin.sentSuper = superRecs s
    ∧ (sendDelta s).twin.sent = s.twin.sent ++ [(s.twin.gen + 1, s.cyc)] ∧ (sendDelta s).twin.deltaNext = s.cyc + msCyc
    ∧ (sendDelta s).twin.st = s.twin.st := by
  simp [sendDelta]

@[simp] theorem sendDelta_boot (s : State) : (sendDelta s).boot = s.boot := by simp [sendDelta]

/-- A generation written to the own image region is the standby's own, and nothing of it is incoming any more (R449). -/
@[simp] theorem writeGeneration_twin (gen : BitVec 32) (s : State) :
    (writeGeneration gen s).twin = { s.twin with gen := gen, incoming := none, txSeq := s.twin.txSeq + 1 } := by
  unfold writeGeneration
  dsimp only
  split <;> simp [writeImage]

/-! Takeover, handover and the loss of the partner -/

@[simp] theorem enterStandby_twin (s : State) :
    (enterStandby s).twin = { s.twin with st := .standby, since := s.cyc, homeTimer := s.cyc + s.twin.holdOff * 1000 * msCyc, granting := none, askedAt := none } := by
  simp [enterStandby]

@[simp] theorem enterStandby_held (s : State) : (enterStandby s).yel.held = s.yel.held := by simp [enterStandby]

/-- A module that has handed over stands by with no command and no reply of its own left (R334, R451, R455). -/
@[simp] theorem handOver_frame (s : State) :
    (handOver s).twin.st = .standby ∧ (handOver s).twin.granting = none
    ∧ (handOver s).yel.waiting = none ∧ (handOver s).yel.queue = [] ∧ (handOver s).yel.held = [] := by
  simp [handOver]

/-- Rounds of traffic alone leave the twin state. -/
theorem forUpTo_twin {f : Nat → State → State} (h : ∀ i t, besideTraffic (f i t) = besideTraffic t) (n : Nat) (s : State) : (forUpTo n f s).twin = s.twin :=
  (agree_of_besideTraffic (besideTraffic_forUpTo s h n)).2.2.2.2.1

theorem takeOver_twin (s : State) :
    (takeOver s).twin = { s.twin with
      st := .solo, since := s.cyc, busAt := s.cyc + msCyc, superAt := some (s.cyc + 80 * msCyc), takeAt := none, relinquishSeen := false, askedAt := none,
      partner := none, partnerStatus := [], hbSeen := false, incoming := none } := by
  simp [takeOver, apply_ite State.twin, forUpTo_twin]

/-- A takeover without a current image is degraded: it raises its event (R454). -/
theorem takeOver_degraded {s : State} (h : s.twin.st = .sync ∨ s.twin.st = .stale ∨ s.twin.st = .incompatible) : (.twinTakeover, 0, []) ∈ (takeOver s).raised := by
  have hd : (s.twin.st == .sync || s.twin.st == .stale || s.twin.st == .incompatible) = true := by simpa [or_assoc] using h
  unfold takeOver
  dsimp only
  rw [if_pos hd]
  simp

/-- The partner is counted as lost: a module in control is SOLO, and no reply is held (R435, R452). -/
theorem loseTwinPartner_twin (s : State) :
    (loseTwinPartner s).twin.partner = none ∧ (loseTwinPartner s).twin.sent = [] ∧ (loseTwinPartner s).twin.changed = [] ∧ (loseTwinPartner s).twin.granting = none
    ∧ (loseTwinPartner s).yel.held = [] ∧ (loseTwinPartner s).twin.st = (if s.twin.st = .active then .solo else s.twin.st) := by
  unfold loseTwinPartner
  dsimp only
  split <;> simp_all

end Sys2Proof.Machine
end

section
/-! Proofs/TwinSupervisor: what the order of a lights-out, the STATUS of a partner and the swap of an epoch do on a module of the pair (R403, R410, R443, R450). -/

namespace Sys2Proof.Machine

/-! Lights-out -/

/-- A lights-out is not over when nothing is left to switch: it ends in DEEP or OFF (R403). -/
theorem finishTransition_lights {s : State} {t : Transition} (h : s.pwr.transition = some t) (hl : t.lights = true) : finishTransition s = s := by
  simp [finishTransition, h, hl]

/-- The transition of a lights-out stands until its domains are switched: there is none to switch at once that would end it (R403). -/
theorem beginTransition_lights (target : PwrState) (want : BitVec 16) (s : State) :
    (beginTransition target want true s).pwr.transition = some { target := target, offs := s.pwr.powered &&& ~~~want, ons := want &&& ~~~s.pwr.powered, lights := true }
    ∧ (beginTransition target want true s).bod = s.bod := by
  simp only [beginTransition]
  generalize hs : setPwr _ s = s1
  generalize hf : (fun q t => if (s.pwr.powered &&& ~~~want).getLsbD (q + 2) then drainQuad q t else if (want &&& ~~~s.pwr.powered).getLsbD (q + 2) then clearQuad q t else t) = f
  have hq : besideTraffic (forUpTo 4 f s1) = besideTraffic s1 := by subst hf; simp
  obtain ⟨-, -, hb, hp, -⟩ := agree_of_besideTraffic hq
  have ht : (forUpTo 4 f s1).pwr.transition = some { target := target, offs := s.pwr.powered &&& ~~~want, ons := want &&& ~~~s.pwr.powered, lights := true } := by
    rw [hp, ← hs]
    rfl
  rw [finishTransition_lights ht rfl, ht, hb, ← hs]
  exact ⟨rfl, rfl⟩

/-- A lights-out is under way to its target, with every Bodkin context cleared (R403). -/
theorem goLightsOut_begins (target : PwrState) (s : State) :
    lightsGoing (goLightsOut target s) = true ∧ (goLightsOut target s).pwr.transition.map (·.target) = some target ∧ (goLightsOut target s).bod.ctx = [] := by
  unfold goLightsOut
  dsimp only
  generalize wantedDomains target 0 _ = want
  generalize hs : ({ (setPwr _ _) with bod := _ } : State) = s2
  obtain ⟨ht, hb⟩ := beginTransition_lights target want (forUpTo 16 deepTransceiver s2)
  have hd : besideTraffic (forUpTo 16 deepTransceiver s2) = besideTraffic s2 := by simp [deepTransceiver]
  refine ⟨by simp [lightsGoing, ht], by simp [ht], ?_⟩
  rw [hb, (agree_of_besideTraffic hd).2.2.1, ← hs]

/-! Networks -/

theorem getNet_setNet_same (n : Nat) (x : Net) (s : State) : getNet n (setNet n x s) = x := mapGet_mapSet_same _ _ _ _

theorem getNet_setNet_other {n k : Nat} (h : n ≠ k) (x : Net) (s : State) : getNet n (setNet k x s) = getNet n s := mapGet_mapSet_other _ _ _ h

/-- What a port's wake from TC10 sleep leaves unchanged. -/
@[simp] theorem wakePort_frame (p : Nat) (s : State) :
    (wakePort p s).cyc = s.cyc ∧ (wakePort p s).twin.partnerStatus = s.twin.partnerStatus ∧ ∀ n, getNet n (wakePort p s) = getNet n s := by
  unfold wakePort relayTo
  split
  · split <;> exact ⟨rfl, rfl, fun _ => rfl⟩
  · exact ⟨rfl, rfl, fun _ => rfl⟩

/-- A round that fails wakes its own network alone (R399). -/
theorem roundFails_frame (n : Nat) (s : State) :
    (roundFails n s).cyc = s.cyc ∧ (roundFails n s).twin.partnerStatus = s.twin.partnerStatus
    ∧ (∀ k, k ≠ n → getNet k (roundFails n s) = getNet k s)
    ∧ getNet n (roundFails n s) = { getNet n s with mode := .awake, since := s.cyc, answered := [], portsAnswered := [] } := by
  unfold roundFails
  dsimp only
  have hnet (k : Nat) (l : List Nat) (t : State) : getNet k (forEach l wakePort t) = getNet k t := forEach_keeps (fun p t => (wakePort_frame p t).2.2 k) l t
  refine ⟨?_, ?_, fun k hk => ?_, ?_⟩
  · exact forEach_keeps (p := State.cyc) (fun p t => (wakePort_frame p t).1) _ _
  · exact forEach_keeps (p := fun t => t.twin.partnerStatus) (fun p t => (wakePort_frame p t).2.1) _ _
  · rw [hnet]
    exact getNet_setNet_other hk _ s
  · rw [hnet]
    exact getNet_setNet_same n _ s

/-- A keep-alive changes its own network alone; an enabled one that is not asleep is awake from now on (R398). -/
theorem keepAwake_frame (n : Nat) (s : State) :
    (keepAwake n s).cyc = s.cyc ∧ (keepAwake n s).twin.partnerStatus = s.twin.partnerStatus ∧ (∀ k, k ≠ n → getNet k (keepAwake n s) = getNet k s)
    ∧ ((getNet n s).enabled = true → (getNet n s).mode ≠ .asleep →
        (getNet n (keepAwake n s)).enabled = true ∧ (getNet n (keepAwake n s)).mode = .awake ∧ (getNet n (keepAwake n s)).since = s.cyc) := by
  obtain ⟨hc, ht, ho, hn⟩ := roundFails_frame n s
  unfold keepAwake
  dsimp only
  split
  case isTrue hd => exact ⟨rfl, rfl, fun _ _ => rfl, fun he => by simp [he] at hd⟩
  case isFalse =>
    split
    · exact ⟨hc, ht, ho, fun he _ => by rw [hn]; exact ⟨he, rfl, rfl⟩⟩
    · next hm => exact ⟨rfl, rfl, fun _ _ => rfl, fun _ ha => absurd hm ha⟩
    · exact ⟨rfl, rfl, fun k hk => getNet_setNet_other hk _ s, fun he _ => by rw [getNet_setNet_same]; exact ⟨he, rfl, rfl⟩⟩

/-- A loop with a round that brings `Q` about, whose rounds keep `P` and `Q`, ends with `Q`. -/
theorem forEach_reaches {α σ : Type} {P Q : σ → Prop} {f : α → σ → σ} {n : α} (hP : ∀ a t, P t → P (f a t)) (hn : ∀ t, P t → Q (f n t)) (hQ : ∀ a t, Q t → Q (f a t))
    {l : List α} (hl : n ∈ l) {s : σ} (hs : P s) : Q (forEach l f s) := by
  have keeps : ∀ (l : List α) (t : σ), Q t → Q (forEach l f t) := by
    intro l
    induction l with
    | nil => exact fun _ h => h
    | cons a l ih => exact fun t h => ih _ (hQ a t h)
  induction l generalizing s with
  | nil => simp at hl
  | cons a l ih =>
    rcases List.mem_cons.mp hl with rfl | hl
    · exact keeps l _ (hn s hs)
    · exact ih hl (hP a s hs)

/-- The keep-alives of the networks in a mask. -/
def keepAwakeIn (mask : BitVec 16) (n : Nat) (s : State) : State := if mask.getLsbD n then keepAwake n s else s

theorem keepAwakeIn_frame (mask : BitVec 16) (n : Nat) (s : State) :
    (keepAwakeIn mask n s).cyc = s.cyc ∧ (keepAwakeIn mask n s).twin.partnerStatus = s.twin.partnerStatus ∧ ∀ k, k ≠ n → getNet k (keepAwakeIn mask n s) = getNet k s := by
  unfold keepAwakeIn
  split
  · exact ⟨(keepAwake_frame n s).1, (keepAwake_frame n s).2.1, (keepAwake_frame n s).2.2.1⟩
  · exact ⟨rfl, rfl, fun _ _ => rfl⟩

/-- A network that a keep-alive can reach at a cycle. -/
def Wakeable (n cyc : Nat) (s : State) : Prop := s.cyc = cyc ∧ (getNet n s).enabled = true ∧ (getNet n s).mode ≠ .asleep

/-- A network that a keep-alive has reached at a cycle. -/
def Awakened (n cyc : Nat) (s : State) : Prop := s.cyc = cyc ∧ (getNet n s).enabled = true ∧ (getNet n s).mode = .awake ∧ (getNet n s).since = cyc

theorem Awakened.wakeable {n cyc : Nat} {s : State} (h : Awakened n cyc s) : Wakeable n cyc s := by
  obtain ⟨hc, he, hm, -⟩ := h
  exact ⟨hc, he, by simp [hm]⟩

theorem keepAwakeIn_reaches {mask : BitVec 16} {n cyc : Nat} (hm : mask.getLsbD n = true) {s : State} (h : Wakeable n cyc s) : Awakened n cyc (keepAwakeIn mask n s) := by
  obtain ⟨rfl, he, ha⟩ := h
  obtain ⟨hc, -, -, hk⟩ := keepAwake_frame n s
  rw [keepAwakeIn, if_pos hm]
  exact ⟨hc, hk he ha⟩

/-- Each enabled network of the mask that is not asleep is awake from now on (R395, R398, R445). -/
theorem keepAwakeAll_reaches {mask : BitVec 16} {n : Nat} (hn : n < 16) (hm : mask.getLsbD n = true) {s : State} (h : Wakeable n s.cyc s) :
    Awakened n s.cyc (forUpTo 16 (keepAwakeIn mask) s) := by
  refine forEach_reaches (P := Wakeable n s.cyc) (n := n) (fun k t ht => ?_) (fun t ht => keepAwakeIn_reaches hm ht) (fun k t ht => ?_) (by simpa using hn) h
  · rcases Decidable.em (n = k) with rfl | hk
    · exact (keepAwakeIn_reaches hm ht).wakeable
    · obtain ⟨hc, -, ho⟩ := keepAwakeIn_frame mask k t
      rw [Wakeable, hc, ho n hk]
      exact ht
  · rcases Decidable.em (n = k) with rfl | hk
    · exact keepAwakeIn_reaches hm ht.wakeable
    · obtain ⟨hc, -, ho⟩ := keepAwakeIn_frame mask k t
      rw [Awakened, hc, ho n hk]
      exact ht

theorem keepAwakeAll_partnerStatus (mask : BitVec 16) (s : State) : (forUpTo 16 (keepAwakeIn mask) s).twin.partnerStatus = s.twin.partnerStatus :=
  forEach_keeps (p := fun t => t.twin.partnerStatus) (fun n t => (keepAwakeIn_frame mask n t).2.1) _ s

/-! Zones and epochs -/

/-- The state with everything blanked that the choice of zones changes: the Pattern, the Seam and the events raised. -/
def besideZones (s : State) : State := { s with raised := [], pat := {}, seam := {} }

@[simp] theorem besideZones_raiseEv (e : Ev) (i : Nat) (d : List Byte) (s : State) : besideZones (raiseEv e i d s) = besideZones s := (rfl)
@[simp] theorem besideZones_setPat (x : Pattern) (s : State) : besideZones (setPat x s) = besideZones s := (rfl)
@[simp] theorem besideZones_decideZone (e z : Nat) (s : State) : besideZones (decideZone e z s) = besideZones s := (rfl)

@[simp] theorem besideZones_freeEpoch (s : State) : besideZones (freeEpoch s) = besideZones s := by
  unfold freeEpoch
  split
  · rfl
  · split <;> simp

@[simp] theorem besideZones_applyZones (s : State) : besideZones (applyZones s) = besideZones s := by
  unfold applyZones
  split
  · rfl
  · split
    · rfl
    · dsimp only
      split <;> exact besideZones_freeEpoch s

@[simp] theorem besideZones_chooseZone (p : Nat) (s : State) : besideZones (chooseZone p s) = besideZones s := by
  unfold chooseZone
  split
  · rfl
  · split
    · rfl
    · split
      · dsimp only
        split <;> simp
      · simp

@[simp] theorem besideZones_applyLinkZones (l a b : Nat) (s : State) : besideZones (applyLinkZones l a b s) = besideZones s := by
  rw [applyLinkZones, besideZones_applyZones]
  exact forEach_keeps (p := besideZones) (fun v t => besideZones_decideZone _ _ t) _ _

@[simp] theorem besideZones_chooseLinkZones (l : Nat) (s : State) : besideZones (chooseLinkZones l s) = besideZones s := by
  unfold chooseLinkZones
  dsimp only
  split
  · rfl
  · split
    · rfl
    · simp only [apply_ite besideZones, besideZones_applyLinkZones, besideZones_raiseEv, ite_self]

/-- States that differ by a choice of zones alone agree in the twin state and the networks. -/
theorem agree_of_besideZones {s t : State} (h : besideZones t = besideZones s) : t.twin = s.twin ∧ ∀ n, getNet n t = getNet n s :=
  ⟨(congrArg State.twin h :), fun n => (congrArg (getNet n) h :)⟩

/-- The choice of every zone leaves the twin state and the networks alone. -/
theorem chooseZones_frame (s : State) :
    (forUpTo 2 chooseLinkZones (forUpTo 27 chooseZone s)).twin = s.twin ∧ ∀ n, getNet n (forUpTo 2 chooseLinkZones (forUpTo 27 chooseZone s)) = getNet n s :=
  agree_of_besideZones ((forEach_keeps (p := besideZones) besideZones_chooseLinkZones (List.range 2) _).trans (forEach_keeps (p := besideZones) besideZones_chooseZone (List.range 27) s))

@[simp] theorem freeEpoch_current (s : State) : (freeEpoch s).pat.current = s.pat.current := by
  unfold freeEpoch
  split
  · rfl
  · split <;> rfl

/-- While an epoch drains, a swap is refused with STALE_EPOCH and waits for another 1 ms (R450). -/
theorem standbySwap_draining {s : State} (n : Nat) (h : (freeEpoch s).pat.draining.isSome = true) :
    standbySwap n s = setTwin { (freeEpoch s).twin with swapWaits := some (n, s.cyc + msCyc) } (freeEpoch s) := by
  have hr : ∀ mayName, swapTo n mayName s = failed .staleEpoch (freeEpoch s) := fun _ => if_pos (.inr h)
  simp [standbySwap, hr, failed, h]

end Sys2Proof.Machine
end

section
/-! Proofs/TwinEvents: where the rows of the pair complete, and what the supervision of the partner and the frames of the pair do (R440-R458). -/

namespace Sys2Proof.Machine
open Sys2Proof.Claims

/-! Where the events of the pair complete -/

/-- A row defined by the passing of time takes its effect at its time. -/
theorem completes_at {c : Instr} {act : State → State} {at_ : Nat} {s t : State} (hc : exec c s = endsAt at_ act s) (ht : act (advanceTo at_ s) = t) : Completes c s t := by
  rw [← ht]
  exact hc

theorem awake_of_twinRuns {s : State} (h : twinRuns s = true) : s.pwr.state ≠ .doze ∧ keeperRuns s = true ∧ mechanismsOn s = true := by
  simp only [twinRuns, Bool.and_eq_true, bne_iff_ne] at h
  obtain ⟨⟨⟨-, hk⟩, hd⟩, ho⟩ := h
  exact ⟨hd, hk, ho⟩

/-- A twin frame takes its effect where the twin agent runs. -/
theorem completes_fromTwin {c : Instr} {act : State → State} {s t : State} (hc : exec c s = ends (fromTwin act s)) (hr : twinRuns s = true) (ht : act s = t) :
    Completes c s t := by
  obtain ⟨hd, hk, hm⟩ := awake_of_twinRuns hr
  have h : fromTwin act s = t := by simp [fromTwin, frameForKeeper, atKeeper, hd, hk, hm, ht]
  rw [h] at hc
  exact hc

/-- A twin frame that the agent would ignore changes nothing outside DOZE, whether the Keeper runs or not. -/
theorem completes_ignored {c : Instr} {act : State → State} {s : State} (hc : exec c s = ends (fromTwin act s)) (hd : s.pwr.state ≠ .doze) (ht : act s = s) :
    Completes c s s := by
  have h : fromTwin act s = s := by simp [fromTwin, frameForKeeper, atKeeper, hd, ht]
  rw [h] at hc
  exact hc

@[simp] theorem twinHeard_frame (s : State) :
    (twinHeard s).twin = { s.twin with frameAt := s.cyc } ∧ (twinHeard s).cyc = s.cyc ∧ (twinHeard s).yel = s.yel ∧ (twinHeard s).pwr = s.pwr := ⟨rfl, rfl, rfl, rfl⟩

@[simp] theorem inControl_twinHeard (s : State) : inControl (twinHeard s) = inControl s := rfl

theorem inControl_iff (s : State) : inControl s = true ↔ s.twin.st = .solo ∨ s.twin.st = .active := by simp [inControl]

theorem pairActive_iff {s : State} (hr : twinRuns s = true) : pairActive s = true ↔ s.twin.st = .active := by
  simp [twinRuns] at hr
  simp [pairActive, hr]

/-! Supervision of the partner and takeover -/

/-- What a takeover at `v` leaves in `t` (R453, R454). -/
def TookOver (v t : State) : Prop :=
  t.twin.st = .solo ∧ t.twin.superAt = some (v.cyc + 80 * msCyc) ∧ t.twin.busAt = v.cyc + msCyc ∧ t.twin.partner = none ∧ t.twin.askedAt = none
  ∧ (v.twin.st = .sync ∨ v.twin.st = .stale ∨ v.twin.st = .incompatible → (.twinTakeover, 0, []) ∈ t.raised)

theorem takeOver_tookOver {v w : State} (hc : w.cyc = v.cyc) (hs : w.twin.st = v.twin.st) : TookOver v (takeOver w) := by
  rw [TookOver, takeOver_twin, ← hc, ← hs]
  exact ⟨rfl, rfl, rfl, rfl, rfl, takeOver_degraded⟩

/-- The grounds on which a standby takes over once the heartbeat is lost (R453). -/
def MayTake (s : State) : Prop :=
  s.twin.st.standing = true ∧ s.twin.partner.isSome = true ∧ (s.twin.relinquishSeen = true ∨ (getPort 26 s).up = false ∨ s.twin.frameAt + 5 * msCyc ≤ s.cyc)

theorem mustTake_iff (s : State) : mustTake s = true ↔ MayTake s ∧ s.twin.hbSeen = false := by
  simp only [mustTake, MayTake, Bool.and_eq_true, Bool.or_eq_true, Bool.not_eq_true', decide_eq_true_iff, ge_iff_le, or_assoc]
  exact ⟨fun ⟨⟨⟨hs, hp⟩, hh⟩, hl⟩ => ⟨⟨hs, hp, hl⟩, hh⟩, fun ⟨⟨hs, hp, hl⟩, hh⟩ => ⟨⟨⟨hs, hp⟩, hh⟩, hl⟩⟩

/-- The state in which the heartbeat no longer counts as present. -/
def heartbeatLost (s : State) : State := setTwin { s.twin with hbSeen := false } s

/-- Loss of the heartbeat (R439, R452, R453). -/
theorem hbLoss_eq {s : State} (hm : s.twin.mode = 1) (hh : s.twin.hbSeen = true) :
    (MayTake s → hbLoss s = takeOver (heartbeatLost s)) ∧ (¬ MayTake s → hbLoss s = heartbeatLost s) := by
  have hlost : mustTake (heartbeatLost s) = true ↔ MayTake s := by
    rw [mustTake_iff]
    exact and_iff_left rfl
  have hcase : hbLoss s = if mustTake (heartbeatLost s) then takeOver (heartbeatLost s) else heartbeatLost s := if_neg (by simp [hm, hh])
  exact ⟨fun h => hcase.trans (if_pos (hlost.mpr h)), fun h => hcase.trans (if_neg (mt hlost.mp h))⟩

theorem silence_takes {s : State} (hm : s.twin.mode = 1) (hh : s.twin.hbSeen = false) (h : MayTake s) : silence s = takeOver s := by
  simp [silence, hm, (mustTake_iff s).mpr ⟨h, hh⟩]

theorem mustTake_eq_false {s : State} (h : s.twin.hbSeen = true ∨ ¬ MayTake s) : mustTake s = false := by
  rw [← Bool.not_eq_true, mustTake_iff]
  rcases h with h | h <;> simp [h]

/-- The end of the 1 ms after a RELINQUISH under a heartbeat (R453). -/
theorem silence_of_takeAt {s : State} {d : Nat} (hm : s.twin.mode = 1) (h : s.twin.hbSeen = true ∨ ¬ MayTake s) (hd : s.twin.takeAt = some d) :
    silence s = if d ≤ s.cyc ∧ s.twin.st.standing = true then takeOver (bump .twinHbFault 0 s) else s := by
  simp [silence, hm, mustTake_eq_false h, hd]

/-- A partner of a module in control that sends neither HELLO nor heartbeat for 5 ms (R452). -/
theorem silence_of_no_takeAt {s : State} (hm : s.twin.mode = 1) (h : s.twin.hbSeen = true ∨ ¬ MayTake s) (hd : s.twin.takeAt = none) :
    silence s = if inControl s = true ∧ s.twin.partner.isSome = true ∧ s.twin.hbSeen = false ∧ s.twin.helloAt + 5 * msCyc ≤ s.cyc then loseTwinPartner s else s := by
  simp [silence, hm, mustTake_eq_false h, hd]

/-- A module in control that has lost its partner is SOLO. -/
theorem loseTwinPartner_solo {s : State} (h : inControl s = true) : (loseTwinPartner s).twin.st = .solo := by
  rw [(loseTwinPartner_twin s).2.2.2.2.2]
  rcases (inControl_iff s).mp h with h | h <;> simp [h]

theorem relinquishRx_of_not_standing {s : State} (hr : twinRuns s = true) (hs : s.twin.st.standing = false) : relinquishRx s = twinHeard s := by
  simp [relinquishRx, hr, hs]

/-- RELINQUISH of the module in control (R453, R458). -/
theorem relinquishRx_eq {s : State} (hr : twinRuns s = true) (hs : s.twin.st.standing = true) :
    (s.twin.hbSeen = true → relinquishRx s = setTwin { (twinHeard s).twin with relinquishSeen := true, askedAt := none, takeAt := some (s.cyc + msCyc) } (twinHeard s))
    ∧ (s.twin.hbSeen = false → s.twin.partner.isSome = true →
        relinquishRx s = takeOver (setTwin { (twinHeard s).twin with relinquishSeen := true, askedAt := none, takeAt := none } (twinHeard s))) := by
  constructor
  · intro hh
    simp [relinquishRx, hr, hs, hh, mustTake]
  · intro hh hp
    simp [relinquishRx, hr, hs, hh, hp, mustTake]

/-! HELLO -/

theorem TwinMode.controls_of_standing {m : TwinMode} (h : m.standing = true) : m.controls = false := by
  cases m <;> simp [TwinMode.standing, TwinMode.controls] at h ⊢

/-- The state that knows the sender of a HELLO, in the state `m`, as its partner (R445, R453). -/
def partnerMet (h : Hello) (m : TwinMode) (s : State) : State :=
  setTwin { s.twin with partner := some m, partnerSerial := h.serial, partnerFw := h.fwVersion, partnerFormat := h.snapFormat.toNat,
                        hbSeen := true, helloAt := s.cyc, frameAt := s.cyc } s

/-- As `partnerMet`, with a fault of the heartbeat counted at a standby that had lost it while its partner is in control (R453). -/
def partnerMetByStandby (h : Hello) (m : TwinMode) (s : State) : State :=
  if s.twin.st.standing = true ∧ m.controls = true ∧ s.twin.partner.isSome = true ∧ s.twin.hbSeen = false then bump .twinHbFault 0 (partnerMet h m s) else partnerMet h m s

theorem partnerMetByStandby_eq_partnerMet {h : Hello} {m : TwinMode} {s : State} (hs : s.twin.st.standing = false) : partnerMetByStandby h m s = partnerMet h m s :=
  if_neg (by simp [hs])

@[simp] theorem partnerMetByStandby_st (h : Hello) (m : TwinMode) (s : State) : (partnerMetByStandby h m s).twin.st = s.twin.st := by
  unfold partnerMetByStandby
  split <;> rfl

/-- Whether the records of the partner fit the own firmware (R449). -/
theorem partnerMetByStandby_fits (h : Hello) (m : TwinMode) (s : State) :
    ((partnerMetByStandby h m s).twin.partnerFormat == snapFormat (partnerMetByStandby h m s)) = decide (h.snapFormat.toNat = snapFormat s) := by
  unfold partnerMetByStandby
  split <;> rfl

theorem helloRx_eq {h : Hello} {m : TwinMode} {s : State} (hr : twinRuns s = true) (hm : twinOfCode h.state = some m) :
    helloRx h s = meetPartner m s.twin.partner (partnerMetByStandby h m s) := by
  simp [helloRx, hr, hm, partnerMetByStandby, partnerMet, and_assoc]

theorem helloRx_of_not_standing {h : Hello} {m : TwinMode} {s : State} (hr : twinRuns s = true) (hm : twinOfCode h.state = some m) (hs : s.twin.st.standing = false) :
    helloRx h s = meetPartner m s.twin.partner (partnerMet h m s) := by
  rw [helloRx_eq hr hm, partnerMetByStandby_eq_partnerMet hs]

theorem isHome_partnerMet (h : Hello) (m : TwinMode) (s : State) : isHome (partnerMet h m s) = decide (Config.serial.toNat < h.serial.toNat) := rfl

section meetPartner

variable {m : TwinMode} {before : Option TwinMode} {s : State}

theorem meetPartner_wait (h : s.twin.st = .wait) :
    meetPartner m before s = if m.controls then enterTwin .sync s else if m = .wait ∧ isHome s then enterTwin .solo s else s := by
  simp only [meetPartner, h]

/-- A SOLO module that meets a standing partner is ACTIVE, with a full snapshot due at once (R442, R449). -/
theorem meetPartner_solo (h : s.twin.st = .solo) :
    (m.controls = true → isHome s = true → meetPartner m before s = s)
    ∧ (m.controls = true → isHome s = false → meetPartner m before s = abortQueued (raiseEv .twinSplit 0 [] (bump .twinSplit 0 (enterTwin .sync s))))
    ∧ (m.standing = true → meetPartner m before s = setTwin { (enterTwin .active s).twin with fullNext := s.cyc } (enterTwin .active s))
    ∧ (m.controls = false → m.standing = false → meetPartner m before s = s) := by
  refine ⟨fun hc hh => ?_, fun hc hh => ?_, fun hs => ?_, fun hc hs => ?_⟩
  · simp [meetPartner, h, hc, hh]
  · simp [meetPartner, h, hc, hh]
  · simp [meetPartner, h, TwinMode.controls_of_standing hs, hs]
  · simp [meetPartner, h, hc, hs]

theorem meetPartner_active (h : s.twin.st = .active) :
    (m.controls = true → isHome s = true → meetPartner m before s = s)
    ∧ (m.controls = true → isHome s = false →
        meetPartner m before s = abortQueued (raiseEv .twinSplit 0 [] (bump .twinSplit 0 (enterTwin .sync (releaseHeld (fun _ => true) false s)))))
    ∧ (m.controls = false → m.standing = false → meetPartner m before s = releaseHeld (fun _ => true) false (enterTwin .solo s))
    ∧ (m.standing = true → meetPartner m before s = if m = .sync ∧ before ≠ some .sync then setTwin { s.twin with fullNext := s.cyc } s else s) := by
  refine ⟨fun hc hh => ?_, fun hc hh => ?_, fun hc hs => ?_, fun hs => ?_⟩
  · simp [meetPartner, h, hc, hh]
  · simp [meetPartner, h, hc, hh]
  · simp [meetPartner, h, hc, hs]
  · simp [meetPartner, h, TwinMode.controls_of_standing hs, hs]

theorem meetPartner_relinquished (h : s.twin.st = .relinquished) : meetPartner m before s = s := by simp only [meetPartner, h]

theorem meetPartner_incompatible (h : s.twin.st = .incompatible) :
    meetPartner m before s = if m.controls = true ∧ (s.twin.partnerFormat == snapFormat s) = true then enterTwin .sync s else s := by
  simp only [meetPartner, h]

theorem meetPartner_following (h : s.twin.st = .sync ∨ s.twin.st = .standby ∨ s.twin.st = .stale) :
    meetPartner m before s = if m.controls = true ∧ (!(s.twin.partnerFormat == snapFormat s)) = true then enterTwin .incompatible s else s := by
  rcases h with h | h | h <;> simp only [meetPartner, h]

/-- The module that is not home gives way in a split: it stands by in SYNC and its commands end (R442, R455). -/
theorem split_gives_way {t u : State} (h : t = abortQueued (raiseEv .twinSplit 0 [] (bump .twinSplit 0 (enterTwin .sync u)))) :
    t.twin.st = .sync ∧ t.yel.waiting = none ∧ t.yel.queue = [] ∧ (.twinSplit, 0, []) ∈ t.raised := by
  simp [h]

end meetPartner

/-! The stream as received -/

section partRx

variable {full : Bool} {gen : BitVec 32} {part parts : Nat} {recs : List ImageRec} {s : State}

theorem completes_partRx {hdr : TwinHdr} {t : State} (hr : twinRuns s = true) (h : partRx full hdr.gen part parts recs s = t) :
    Completes (if full then .twinFullPartRx hdr part parts recs else .twinDeltaRx hdr part parts recs) s t := by
  cases full with
  | true => exact completes_fromTwin (act := partRx true hdr.gen part parts recs) rfl hr h
  | false => exact completes_fromTwin (act := partRx false hdr.gen part parts recs) rfl hr h

/-- A part that breaks the format of R445. -/
def BadPart (part parts : Nat) (recs : List ImageRec) : Prop := parts < 1 ∨ 512 < parts ∨ parts ≤ part ∨ 8184 < recordBytes recs

/-- The states in which the stream is taken (R449). -/
def Following (s : State) : Prop := s.twin.st = .sync ∨ s.twin.st = .standby ∨ s.twin.st = .stale

/-- Whether a part continues what has come of its generation. -/
def Incoming.continuedBy (i : Incoming) (full : Bool) (gen : BitVec 32) (part parts : Nat) : Prop := i.gen = gen ∧ i.part + 1 = part ∧ i.parts = parts ∧ i.full = full

theorem partRx_bad (hr : twinRuns s = true) (h : BadPart part parts recs) : partRx full gen part parts recs s = bump .twinFrameBad 0 s := by
  simp only [partRx, hr]
  exact if_pos h

/-- The check of the format as the model makes it. -/
theorem partCheck_eq_false (h : ¬ BadPart part parts recs) : (parts < 1 ∨ parts > 512 ∨ part ≥ parts ∨ recordBytes recs > 8184) = False := eq_false h

/-- The check of the state as the model makes it. -/
theorem followingCheck_iff : (s.twin.st == .sync || s.twin.st == .standby || s.twin.st == .stale) = true ↔ Following s := by simp [Following, or_assoc]

variable (hr : twinRuns s = true) (hg : ¬ BadPart part parts recs)
include hr hg

theorem partRx_deaf (h : ¬ Following s) : partRx full gen part parts recs s = twinHeard s := by
  have hf := mt followingCheck_iff.mp h
  simp only [partRx, hr, partCheck_eq_false hg, twinHeard_frame]
  simp [hf]

variable (hf : Following s)
include hf

/-- The first part begins a generation. -/
theorem partRx_first (hp : part = 0) :
    (1 < parts → partRx full gen part parts recs s = setTwin { (twinHeard s).twin with incoming := some { gen := gen, part := 0, parts := parts, recs := recs, full := full } } (twinHeard s))
    ∧ (parts = 1 → partRx full gen part parts recs s = if full then fullDone gen recs (twinHeard s) else deltaDone gen recs (twinHeard s)) := by
  subst hp
  constructor <;> intro hp <;> simp only [partRx, hr, partCheck_eq_false hg, followingCheck_iff.mpr hf, twinHeard_frame] <;> simp [hp]

/-- A part that continues what has come of its generation joins it. -/
theorem partRx_next (hp : part ≠ 0) {i : Incoming} (hi : s.twin.incoming = some i) (hc : i.continuedBy full gen part parts) (hl : part + 1 < parts) :
    partRx full gen part parts recs s = setTwin { (twinHeard s).twin with incoming := some { gen := gen, part := part, parts := parts, recs := i.recs ++ recs, full := full } } (twinHeard s) := by
  have hc : (i.gen = gen ∧ i.part + 1 = part ∧ i.parts = parts ∧ i.full = full) = True := eq_true hc
  simp only [partRx, hr, partCheck_eq_false hg, followingCheck_iff.mpr hf, hi, hc, hp, hl, twinHeard_frame]
  simp

/-- Any other part ends the generation, and a STANDBY becomes STALE (R449). -/
theorem partRx_broken (hp : part ≠ 0) (hc : ∀ i, s.twin.incoming = some i → ¬ i.continuedBy full gen part parts) :
    partRx full gen part parts recs s = if s.twin.st = .standby then enterTwin .stale (setTwin { (twinHeard s).twin with incoming := none } (twinHeard s))
      else setTwin { (twinHeard s).twin with incoming := none } (twinHeard s) := by
  cases hi : s.twin.incoming with
  | none =>
    simp only [partRx, hr, partCheck_eq_false hg, followingCheck_iff.mpr hf, hi, hp, twinHeard_frame]
    rfl
  | some i =>
    have hc : (i.gen = gen ∧ i.part + 1 = part ∧ i.parts = parts ∧ i.full = full) = False := eq_false (hc i hi)
    simp only [partRx, hr, partCheck_eq_false hg, followingCheck_iff.mpr hf, hi, hc, hp, twinHeard_frame]
    rfl

end partRx

/-! Generations complete -/

/-- A full snapshot is complete: its generation is the standby's own, and SYNC and STALE become STANDBY (R449). -/
theorem fullDone_twin (gen : BitVec 32) (recs : List ImageRec) (s : State) :
    (fullDone gen recs s).twin.gen = gen ∧ (fullDone gen recs s).twin.incoming = none
    ∧ ((applyFull recs s).twin.st = .sync ∨ (applyFull recs s).twin.st = .stale → (fullDone gen recs s).twin.st = .standby) := by
  unfold fullDone
  dsimp only
  split
  · simp
  · next h => exact ⟨by simp, by simp, fun hs => absurd (by simpa using hs) h⟩

/-- A delta is complete: the next generation is the standby's own; at any other the standby becomes STALE, and one that does not stand by drops it (R449). -/
theorem deltaDone_eq (gen : BitVec 32) (recs : List ImageRec) (s : State) :
    (s.twin.st = .standby → gen = s.twin.gen + 1 → (deltaDone gen recs s).twin.gen = gen ∧ (deltaDone gen recs s).twin.incoming = none)
    ∧ (s.twin.st = .standby → gen ≠ s.twin.gen + 1 → deltaDone gen recs s = enterTwin .stale (setTwin { s.twin with incoming := none } s))
    ∧ (s.twin.st ≠ .standby → deltaDone gen recs s = setTwin { s.twin with incoming := none } s) := by
  refine ⟨fun hs hg => ?_, fun hs hg => ?_, fun hs => ?_⟩
  · subst hg
    simp [deltaDone, hs]
  · simp only [deltaDone, hs, ne_eq, not_true_eq_false, ↓reduceIte, hg, not_false_eq_true]
  · simp [deltaDone, hs]

/-! Acknowledgements, takeback and the rest of the frames -/

/-- The state in which the replies of an acknowledged generation have left (R334, R449). -/
def acknowledged (gen : BitVec 32) (s : State) : State :=
  releaseHeld (fun h => decide (h.gen.toNat ≤ gen.toNat)) true
    (setTwin { (twinHeard s).twin with sent := s.twin.sent.filter (fun e => decide (e.1 ≠ gen)) } (twinHeard s))

/-- An acknowledgement at an ACTIVE module; one that a handover awaits ends its wait (R449, R451, R455). -/
theorem ackRx_eq {gen : BitVec 32} {s : State} (hr : twinRuns s = true) (hs : s.twin.st = .active) :
    (s.twin.granting = none → ackRx gen s = acknowledged gen s)
    ∧ (∀ b, s.twin.granting = some (b, gen) → ackRx gen s = grantStep (acknowledged gen s)) := by
  constructor
  · intro hg
    simp [ackRx, hr, (pairActive_iff hr).mpr hs, hg, acknowledged]
  · intro b hg
    simp [ackRx, hr, (pairActive_iff hr).mpr hs, hg, acknowledged]

theorem acknowledged_twin (gen : BitVec 32) (s : State) :
    (acknowledged gen s).twin = { s.twin with frameAt := s.cyc, sent := s.twin.sent.filter (fun e => decide (e.1 ≠ gen)) } := by
  simp [acknowledged]

/-- The final delta of a module in control, which then awaits its acknowledgement (R451, R455). -/
theorem finalDelta_twin (b : Bool) (s : State) :
    (finalDelta b s).twin.granting = some (b, s.twin.gen + 1) ∧ (finalDelta b s).twin.gen = s.twin.gen + 1 ∧ (finalDelta b s).twin.changed = []
    ∧ (finalDelta b s).twin.st = s.twin.st := by
  obtain ⟨hg, hc, -, -, -, hs⟩ := sendDelta_twin s
  simp [finalDelta, hg, hc, hs]

theorem takebackReq_refused {s : State} (hr : twinRuns s = true) (h : s.twin.st ≠ .active ∨ s.twin.granting.isSome = true) : takebackReq s = twinHeard s := by
  rcases h with h | h <;> simp [takebackReq, hr, pairActive, h]

/-- A request for takeback at an ACTIVE module waits for the commands before it (R455, R458). -/
theorem takebackReq_eq {s : State} (hr : twinRuns s = true) (hs : s.twin.st = .active) (hg : s.twin.granting = none) :
    (s.yel.pauseUntil.isSome = true ∨ s.yel.waiting.isSome = true ∨ s.yel.queue ≠ [] → takebackReq s = setTwin { (twinHeard s).twin with askedInPause := true } (twinHeard s))
    ∧ (s.yel.pauseUntil = none → s.yel.waiting = none → s.yel.queue = [] → takebackReq s = finalDelta true (twinHeard s)) := by
  have hp : pairActive (twinHeard s) = true := (pairActive_iff hr).mpr hs
  constructor
  · intro h
    simp only [takebackReq, hr, hp, twinHeard_frame, hg]
    simp [h]
  · intro h1 h2 h3
    simp [takebackReq, hr, hp, hg, h1, h2, h3]

/-- A STATUS whose length is not that of whole port entries (R445). -/
def BadStatus (b : List Byte) : Prop := b.length < 8 ∨ b.length % 40 ≠ 8 ∨ 1088 < b.length

theorem statusRx_bad {b : List Byte} {s : State} (hr : twinRuns s = true) (hb : BadStatus b) : statusRx b s = bump .twinFrameBad 0 s := by
  simp only [statusRx, hr]
  exact if_pos hb

/-- The check of a STATUS as the model makes it. -/
theorem statusCheck_eq_false {b : List Byte} (h : ¬ BadStatus b) : (b.length < 8 ∨ b.length % 40 ≠ 8 ∨ b.length > 1088) = False := eq_false h

theorem statusRx_out_of_control {b : List Byte} {s : State} (hr : twinRuns s = true) (hb : ¬ BadStatus b) (hc : inControl s = false) : statusRx b s = twinHeard s := by
  simp only [statusRx, hr, statusCheck_eq_false hb, inControl_twinHeard, hc]
  rfl

/-- A partner's STATUS as a module in control takes it (R395, R443, R445). -/
theorem statusRx_in_control {b : List Byte} {s : State} (hr : twinRuns s = true) (hb : ¬ BadStatus b) (hc : inControl s = true) :
    statusRx b s = forUpTo 2 chooseLinkZones (forUpTo 27 chooseZone
      (forUpTo 16 (keepAwakeIn (BitVec.ofNat 16 (numAt b 0 2))) (setTwin { (twinHeard s).twin with partnerStatus := b } (twinHeard s)))) := by
  simp only [statusRx, hr, statusCheck_eq_false hb, inControl_twinHeard, hc]
  rfl

/-- The STATUS is kept, and each network that it keeps awake is awake from now on (R395, R443). -/
theorem statusRx_reaches {b : List Byte} {s : State} (hr : twinRuns s = true) (hb : ¬ BadStatus b) (hc : inControl s = true) :
    (statusRx b s).twin.partnerStatus = b
    ∧ ∀ n < 16, (BitVec.ofNat 16 (numAt b 0 2)).getLsbD n = true → (getNet n s).enabled = true → (getNet n s).mode ≠ .asleep →
        (getNet n (statusRx b s)).mode = .awake ∧ (getNet n (statusRx b s)).since = s.cyc := by
  rw [statusRx_in_control hr hb hc]
  obtain ⟨ht, hnet⟩ := chooseZones_frame (forUpTo 16 (keepAwakeIn (BitVec.ofNat 16 (numAt b 0 2))) (setTwin { (twinHeard s).twin with partnerStatus := b } (twinHeard s)))
  refine ⟨?_, fun n hn hm he ha => ?_⟩
  · rw [ht, keepAwakeAll_partnerStatus]
    rfl
  · rw [hnet n]
    obtain ⟨-, -, hmode, hsince⟩ := keepAwakeAll_reaches (s := setTwin { (twinHeard s).twin with partnerStatus := b } (twinHeard s)) hn hm ⟨rfl, he, ha⟩
    exact ⟨hmode, hsince⟩

end Sys2Proof.Machine
end

section
/-! Proofs/TwinTimers: what the rows of the pair that time defines do, and its relays and orders (R410, R439-R455). -/

namespace Sys2Proof.Machine
open Sys2Proof.Claims

/-- When a delta is due (R449). -/
def DeltaDue (s : State) : Prop :=
  twinRuns s = true ∧ s.twin.st = .active ∧ s.twin.partner ≠ some .incompatible ∧ s.twin.granting = none
  ∧ (((s.twin.changed ≠ [] ∨ ∃ h ∈ s.yel.held, h.gen = s.twin.gen + 1) ∧ s.twin.deltaNext ≤ s.cyc) ∨ (superRecs s ≠ s.twin.sentSuper ∧ s.twin.deltaNext + 9 * msCyc ≤ s.cyc))

/-- The model's own test of a due delta. -/
theorem deltaCheck_iff (s : State) :
    (twinRuns s ∧ pairActive s ∧ s.twin.partner ≠ some .incompatible ∧ s.twin.granting.isNone
      ∧ (((!s.twin.changed.isEmpty || s.yel.held.any (fun h => decide (h.gen = s.twin.gen + 1))) ∧ s.cyc ≥ s.twin.deltaNext)
        ∨ (decide (superRecs s ≠ s.twin.sentSuper) ∧ s.cyc ≥ s.twin.deltaNext + 9 * msCyc))) ↔ DeltaDue s := by
  unfold DeltaDue
  refine and_congr_right fun hr => ?_
  simp [pairActive_iff hr]

theorem deltaTx_due {s : State} (h : DeltaDue s) : deltaTx s = sendDelta s := if_pos ((deltaCheck_iff s).mpr h)

theorem deltaTx_idle {s : State} (h : ¬ DeltaDue s) : deltaTx s = s := if_neg (mt (deltaCheck_iff s).mp h)

/-- When a full snapshot is due (R449). -/
def FullDue (s : State) : Prop := twinRuns s = true ∧ s.twin.st = .active ∧ s.twin.fullNext ≤ s.cyc ∧ s.twin.partner ≠ some .incompatible

/-- A full snapshot is the next generation and takes every change with it; it awaits no acknowledgement (R449). -/
theorem fullTx_due {s : State} (h : FullDue s) :
    (fullTx s).twin.gen = s.twin.gen + 1 ∧ (fullTx s).twin.changed = [] ∧ (fullTx s).twin.sent = s.twin.sent ∧ (fullTx s).twin.sentSuper = superRecs s
    ∧ (fullTx s).twin.fullNext = s.cyc + 1000 * msCyc ∧ (fullTx s).boot = s.boot := by
  obtain ⟨hr, hs, hn, hp⟩ := h
  simp [fullTx, hr, (pairActive_iff hr).mpr hs, Nat.not_lt.mpr hn, hp]

theorem fullTx_idle {s : State} (h : ¬ FullDue s) : fullTx s = s := by
  refine if_pos (Decidable.byContradiction fun hn => h ?_)
  simp [pairActive] at hn
  simp [FullDue, hn]

/-- Without a handover under way, what has gone unacknowledged for 12 ms leaves without its acknowledgement (R334, R449). -/
theorem ackTimeout_of_no_grant {s : State} (hg : s.twin.granting = none) :
    let late (d : Nat) : Bool := decide (d + 12 * msCyc ≤ s.cyc)
    ackTimeout s = releaseHeld (fun h => late h.since) false
      (bumpBy (s.twin.sent.filter (fun e => late e.2)).length .twinDeltaLate 0 (setTwin { s.twin with sent := s.twin.sent.filter (fun e => !(late e.2)) } s)) := by
  simp [ackTimeout, hg]

theorem supervisorReady_some {s : State} {d : Nat} (h : s.twin.superAt = some d) : supervisorReady s = if d ≤ s.cyc then setTwin { s.twin with superAt := none } s else s := by
  simp only [supervisorReady, h]

theorem supervisorReady_none {s : State} (h : s.twin.superAt = none) : supervisorReady s = s := by simp only [supervisorReady, h]

theorem grantTimeout_some {s : State} {d : Nat} (h : s.twin.askedAt = some d) :
    grantTimeout s = if d + 50 * msCyc ≤ s.cyc then setTwin { s.twin with askedAt := none, homeTimer := s.cyc + s.twin.holdOff * 1000 * msCyc } s else s := by
  simp only [grantTimeout, h]

theorem grantTimeout_none {s : State} (h : s.twin.askedAt = none) : grantTimeout s = s := by simp only [grantTimeout, h]

/-- A home module that has stood by for the whole hold-off asks for control (R455). -/
theorem holdOffExpire_eq (s : State) :
    holdOffExpire s = if twinRuns s = true ∧ s.twin.st = .standby ∧ s.twin.partner.isSome = true ∧ isHome s = true ∧ s.twin.suppressed = false ∧ s.twin.askedAt = none
      ∧ s.twin.homeTimer ≤ s.cyc then sendTwin 8 0 [] (setTwin { s.twin with askedAt := some s.cyc } s) else s := by
  simp [holdOffExpire]

/-- The heartbeat pin toggles every 50 us where the state calls for it (R439, R440). -/
theorem hbToggle_eq (s : State) :
    hbToggle s = if s.twin.mode = 1 ∧ s.twin.st ≠ .relinquished ∧ mechanismsOn s = true ∧ s.twin.hbNext ≤ s.cyc
      then emit (.pin .twinHbOut (!s.twin.hbOut)) (setTwin { s.twin with hbOut := !s.twin.hbOut, hbNext := s.cyc + 50 * usCyc } s) else s := by
  split
  · next h => exact if_neg (by simp [h])
  · next h => exact if_pos (by simpa [Classical.or_iff_not_imp_left, not_and] using h)

theorem waitTimeout_eq (s : State) :
    waitTimeout s = if twinRuns s = true ∧ s.twin.st = .wait ∧ s.twin.partner = none ∧ s.twin.since + 100 * msCyc ≤ s.cyc then enterTwin .solo s else s := by
  simp [waitTimeout]

theorem applyDeferred_none {s : State} (h : ∀ d ∈ s.twin.deferred, s.cyc < d.due) : applyDeferred s = s := by
  have hdue : s.twin.deferred.filter (fun d => decide (s.cyc ≥ d.due)) = [] := by simpa using h
  have hrest : s.twin.deferred.filter (fun d => !(decide (s.cyc ≥ d.due))) = s.twin.deferred := by simpa using h
  rw [applyDeferred, hdue, hrest]
  rfl

theorem applyDeferred_one {s : State} {d : Deferred} (h : s.twin.deferred = [d]) (hd : d.due ≤ s.cyc) :
    applyDeferred s = if d.gone = true then forgetObject d.item (setTwin { s.twin with deferred := [] } s) else applyCmd d.item (setTwin { s.twin with deferred := [] } s) := by
  simp [applyDeferred, h, hd, forEach]

theorem swapRetry_none {s : State} (h : s.twin.swapWaits = none) : swapRetry s = s := by simp only [swapRetry, h]

theorem swapRetry_early {s : State} {n d : Nat} (h : s.twin.swapWaits = some (n, d)) (hd : s.cyc < d) : swapRetry s = s := by
  simp [swapRetry, h, hd]

/-- A swap whose time has come while the epoch before still drains waits for another 1 ms (R450). -/
theorem swapRetry_draining {s : State} {n d : Nat} (h : s.twin.swapWaits = some (n, d)) (hd : d ≤ s.cyc) (hf : (freeEpoch s).pat.draining.isSome = true) :
    (swapRetry s).twin.swapWaits = some (n, s.cyc + msCyc) ∧ (swapRetry s).pat.current = s.pat.current := by
  simp [swapRetry, h, Nat.not_lt.mpr hd, standbySwap_draining n hf]

/-! Relays and orders of the module in control -/

section Relays

variable {k i : Nat} {b : List Byte} {s : State} (hr : twinRuns s = true)
include hr

theorem relayUp_out_of_control (hc : inControl s = false) : relayUp k i b s = twinHeard s := by simp [relayUp, hr, hc]

theorem relayDown_in_control (hc : inControl s = true) : relayDown k i b s = twinHeard s := by simp [relayDown, hr, hc]

/-- What a standby's ports bring: nothing of kinds but 1 to 3, nor of a channel that is not physical (R443, R445). -/
theorem relayUp_other (hc : inControl s = true) (hk : k = 0 ∨ 4 ≤ k) : relayUp k i b s = twinHeard s := by
  match k, hk with
  | 0, _ => simp [relayUp, hr, hc]
  | n + 4, _ => simp [relayUp, hr, hc]

theorem relayUp_tc10 (hc : inControl s = true) : relayUp 2 i b s = pairAck i (twinHeard s) ∧ relayUp 3 i b s = tc10WakeRx i (twinHeard s) := by
  simp [relayUp, hr, hc]

theorem relayUp_no_channel (hc : inControl s = true) (hi : i < 16 ∨ 32 ≤ i) : relayUp 1 i b s = twinHeard s := by
  simp [relayUp, hr, hc, hi]

/-- A message of a virtual channel in no network is an address claim; in one, an NM message is that network's (R188, R396). -/
theorem relayUp_channel (hc : inControl s = true) (h1 : 16 ≤ i) (h2 : i < 32) :
    (netOf (fun y => y.hasCan i) s = none → relayUp 1 i b s = addressClaim i (canOfPseudo b) (twinHeard s))
    ∧ ∀ n, netOf (fun y => y.hasCan i) s = some n → relayUp 1 i b s =
        if (canOfPseudo b).format = .classicBase ∧ (canOfPseudo b).ident = bits (getNet n s).record 26 16 then nmDispatch i (canOfPseudo b) (twinHeard s)
        else addressClaim i (canOfPseudo b) (twinHeard s) := by
  have hnet : netOf (fun y => y.hasCan i) (twinHeard s) = netOf (fun y => y.hasCan i) s := rfl
  have hrec (n : Nat) : getNet n (twinHeard s) = getNet n s := rfl
  constructor
  · intro hn
    simp [relayUp, hr, hc, Nat.not_lt.mpr h1, Nat.not_le.mpr h2, hnet, hn]
  · intro n hn
    simp [relayUp, hr, hc, Nat.not_lt.mpr h1, Nat.not_le.mpr h2, hnet, hn, hrec]

/-- What the supervisor sends through a standby's ports (R445). -/
theorem relayDown_out_of_control (hc : inControl s = false) :
    (i < 27 → relayDown 0 i b s = keeperSend i 6 b (twinHeard s))
    ∧ (16 ≤ i → i < 32 → relayDown 1 i b s = enqueueTx i { msg := canOfPseudo b, since := s.cyc } (twinHeard s))
    ∧ (i < 27 → isT1 i = true → relayDown 2 i b s = emit (.tc10 i false) (twinHeard s))
    ∧ (i < 27 → isT1 i = true → relayDown 3 i b s = wakePort i (twinHeard s)) := by
  refine ⟨fun h => ?_, fun h1 h2 => ?_, fun h1 h2 => ?_, fun h1 h2 => ?_⟩
  · simp [relayDown, hr, hc, h]
  · simp [relayDown, hr, hc, h1, h2]
  · simp [relayDown, hr, hc, h1, h2]
  · simp [relayDown, hr, hc, h1, h2]

theorem relayDown_other (hc : inControl s = false) (hk : 4 ≤ k) : relayDown k i b s = twinHeard s := by
  match k, hk with
  | n + 4, _ => simp [relayDown, hr, hc]

theorem lightsOutRx_ignored (h : inControl s = true ∨ s.pwr.transition.isSome = true ∨ (k ≠ 3 ∧ k ≠ 4)) : lightsOutRx k s = twinHeard s := by
  rcases h with h | h | ⟨h3, h4⟩
  · simp [lightsOutRx, hr, h]
  · simp [lightsOutRx, hr, h]
  · simp [lightsOutRx, hr, h3, h4]

theorem lightsOutRx_obeyed (hc : inControl s = false) (ht : s.pwr.transition = none) (hk : k = 3 ∨ k = 4) :
    lightsOutRx k s = goLightsOut (if k = 3 then .deep else .off) (twinHeard s) := by
  rcases hk with rfl | rfl <;> simp [lightsOutRx, hr, hc, ht]

theorem takebackGrant_unasked (h : s.twin.askedAt = none ∨ s.twin.st ≠ .standby) : takebackGrant s = twinHeard s := by
  rcases h with h | h
  · simp [takebackGrant, hr, h]
  · cases ha : s.twin.askedAt <;> simp [takebackGrant, hr, ha, h]

theorem takebackGrant_asked {d : Nat} (ha : s.twin.askedAt = some d) (hs : s.twin.st = .standby) :
    takebackGrant s = if s.cyc < d + 50 * msCyc then raiseEv .twinTakeback 0 [] (bump .twinTakeback 0 (takeOver (twinHeard s))) else twinHeard s := by
  simp [takebackGrant, hr, ha, hs]

end Relays

end Sys2Proof.Machine
end

section
/-! Proofs/TwinObligation: O59 from the rules of the pair's timers and frames. -/

namespace Sys2Proof.Machine
open Sys2Proof.Claims

/-- Settles O59: each row of the pair runs one operation of the twin agent, and the operation's rules say what it does. -/
theorem twinEventsRun : Obligations.TwinEventsRun := by
  refine ⟨fun s at_ => ⟨?helloEarly, ?helloDue, ⟨?waitEarly, ?waitDue⟩, ⟨?toggleEarly, ?toggleDue⟩, ?lossIdle, ?loss, ?silenceOff, ?silenceTakes, fun hm hl => ⟨?takeAt, ?gone⟩,
      ?ready, ?readyNone, ?ackLate, ⟨?deltaEarly, ?deltaDue⟩, ⟨?fullEarly, ?fullDue⟩, ⟨?holdEarly, ?holdDue⟩, ?grantLate, ?grantNone, ?deferredEarly, ?deferredDue, ?swapNone, ?swap⟩,
    fun s hdr => ⟨fun hr hd => ?ignored, fun hr => ⟨fun h => ?hello, fun full part parts recs => ?part, ?ackDeaf, fun hs => ?ack, fun k i b => ?relay,
      ?relinquishDeaf, fun hs => ?relinquish, ?requestDeaf, fun hs hg => ?request, ?grantDeaf, fun d ha hs => ?grant, ?leave, fun k => ?lights, fun b => ?status⟩⟩⟩
  case helloEarly => exact fun h => completes_at (act := helloTx) rfl (if_pos (by simpa using h))
  case helloDue => exact fun hr hn => completes_at (act := helloTx) rfl (if_neg (by simp [hr, hn]))
  case waitEarly => exact fun h => completes_at (act := waitTimeout) rfl ((waitTimeout_eq _).trans (if_neg h))
  case waitDue => exact fun h => completes_at (act := waitTimeout) rfl ((waitTimeout_eq _).trans (if_pos h))
  case toggleEarly => exact fun h => completes_at (act := hbToggle) rfl ((hbToggle_eq _).trans (if_neg h))
  case toggleDue => exact fun h => completes_at (act := hbToggle) rfl ((hbToggle_eq _).trans (if_pos h))
  case lossIdle => exact fun h => completes_at (act := hbLoss) rfl (if_pos (by simpa using h))
  case loss =>
    intro hm hh
    obtain ⟨htake, hstay⟩ := hbLoss_eq hm hh
    exact ⟨fun h => ⟨_, completes_at (act := hbLoss) rfl (htake h), takeOver_tookOver rfl rfl⟩, fun h => completes_at (act := hbLoss) rfl (hstay h)⟩
  case silenceOff => exact fun h => completes_at (act := silence) rfl (if_pos h)
  case silenceTakes => exact fun hm hh hl => ⟨_, completes_at (act := silence) rfl (silence_takes hm hh hl), takeOver_tookOver rfl rfl⟩
  case takeAt =>
    intro d hd
    have hs := silence_of_takeAt hm hl hd
    exact ⟨fun hn ht => ⟨_, completes_at (act := silence) rfl (hs.trans (if_pos ⟨hn, ht⟩)), takeOver_tookOver rfl rfl⟩,
      fun h => completes_at (act := silence) rfl (hs.trans (if_neg fun ⟨hle, hst⟩ => h.elim (Nat.not_lt.mpr hle) (by simp [hst])))⟩
  case gone =>
    intro hd
    have hs := silence_of_no_takeAt hm hl hd
    obtain ⟨hp, hsent, -, -, hheld, -⟩ := loseTwinPartner_twin (advanceTo at_ s)
    exact ⟨fun h => completes_at (act := silence) rfl (hs.trans (if_neg h)),
      fun h => ⟨_, completes_at (act := silence) rfl (hs.trans (if_pos h)), hp, loseTwinPartner_solo h.1, hsent, hheld⟩⟩
  case ready =>
    intro d hd
    have hs := supervisorReady_some hd
    exact ⟨fun h => completes_at (act := supervisorReady) rfl (hs.trans (if_pos h)), fun h => completes_at (act := supervisorReady) rfl (hs.trans (if_neg (Nat.not_le.mpr h)))⟩
  case readyNone => exact fun h => completes_at (act := supervisorReady) rfl (supervisorReady_none h)
  case ackLate => exact fun h => completes_at (act := ackTimeout) rfl (ackTimeout_of_no_grant h)
  case deltaEarly => exact fun h => completes_at (act := deltaTx) rfl (deltaTx_idle h)
  case deltaDue =>
    intro h
    obtain ⟨hg, hc, hsup, hsent, hn, -⟩ := sendDelta_twin (advanceTo at_ s)
    exact ⟨_, completes_at (act := deltaTx) rfl (deltaTx_due h), hg, hc, hsup, hsent, hn, sendDelta_boot _⟩
  case fullEarly => exact fun h => completes_at (act := fullTx) rfl (fullTx_idle h)
  case fullDue => exact fun h => ⟨_, completes_at (act := fullTx) rfl rfl, fullTx_due h⟩
  case holdEarly => exact fun h => completes_at (act := holdOffExpire) rfl ((holdOffExpire_eq _).trans (if_neg h))
  case holdDue => exact fun h => completes_at (act := holdOffExpire) rfl ((holdOffExpire_eq _).trans (if_pos h))
  case grantLate =>
    intro d hd
    have hs := grantTimeout_some hd
    exact ⟨fun h => completes_at (act := grantTimeout) rfl (hs.trans (if_pos h)), fun h => completes_at (act := grantTimeout) rfl (hs.trans (if_neg (Nat.not_le.mpr h)))⟩
  case grantNone => exact fun h => completes_at (act := grantTimeout) rfl (grantTimeout_none h)
  case deferredEarly => exact fun h => completes_at (act := applyDeferred) rfl (applyDeferred_none h)
  case deferredDue => exact fun d h hd => completes_at (act := applyDeferred) rfl (applyDeferred_one h hd)
  case swapNone => exact fun h => completes_at (act := swapRetry) rfl (swapRetry_none h)
  case swap =>
    intro n d h
    exact ⟨fun hd => completes_at (act := swapRetry) rfl (swapRetry_early h hd), fun hd hf => ⟨_, completes_at (act := swapRetry) rfl rfl, swapRetry_draining h hd hf⟩⟩
  case ignored =>
    have idle {α : Type} {a b : α} : (if (!(twinRuns s)) = true then a else b) = a := if_pos (by simp [hr])
    exact ⟨fun h => completes_ignored (act := helloRx h) rfl hd idle,
      fun a b r => ⟨completes_ignored (act := partRx true hdr.gen a b r) rfl hd idle, completes_ignored (act := partRx false hdr.gen a b r) rfl hd idle⟩,
      completes_ignored (act := ackRx hdr.gen) rfl hd (if_pos (by simp [hr])),
      fun k i b => ⟨completes_ignored (act := relayUp k i b) rfl hd idle, completes_ignored (act := relayDown k i b) rfl hd idle⟩,
      completes_ignored (act := relinquishRx) rfl hd idle, completes_ignored (act := takebackReq) rfl hd idle, completes_ignored (act := takebackGrant) rfl hd idle,
      completes_ignored (act := leaveRx) rfl hd (if_neg (by simp [hr])), fun k => completes_ignored (act := lightsOutRx k) rfl hd idle,
      fun b => completes_ignored (act := statusRx b) rfl hd idle⟩
  case hello =>
    have run {t : State} (ht : helloRx h s = t) : Completes (.twinHelloRx hdr h) s t := completes_fromTwin (act := helloRx h) rfl hr ht
    refine ⟨fun hn => run (by simp [helloRx, hr, hn]), fun m hm => ?_⟩
    have hstay (hst : s.twin.st.standing = false) := helloRx_of_not_standing hr hm hst
    refine ⟨fun hst => ?wait, fun hst => ?solo, fun hst => ?active, fun hst => ?relinquished, fun hst => ?incompatible, fun hst => ?following⟩
    case wait =>
      have hx := (hstay (by simp [hst, TwinMode.standing])).trans (meetPartner_wait hst)
      refine ⟨fun hc => run (hx.trans (if_pos hc)), fun hw hh => run (hx.trans ?_), fun hc hw => run (hx.trans ?_)⟩
      · rw [if_neg (by simp [hw, TwinMode.controls]), if_pos ⟨hw, decide_eq_true hh⟩]
        rfl
      · rw [if_neg (by simp [hc]), if_neg (by rw [isHome_partnerMet, decide_eq_true_iff]; exact fun ⟨hm, hh⟩ => hw.elim (· hm) (· hh))]
        rfl
    case solo =>
      have hx := hstay (by simp [hst, TwinMode.standing])
      obtain ⟨hhome, hsplit, hstand, hrest⟩ := meetPartner_solo (m := m) (before := s.twin.partner) (s := partnerMet h m s) hst
      exact ⟨fun hc hh => run (hx.trans (hhome hc (decide_eq_true hh))), fun hc hh => ⟨_, run rfl, split_gives_way (hx.trans (hsplit hc (decide_eq_false hh)))⟩,
        fun hs => ⟨_, run (hx.trans (hstand hs)), by simp, rfl⟩, fun hc hs => run (hx.trans (hrest hc hs))⟩
    case active =>
      have hx := hstay (by simp [hst, TwinMode.standing])
      obtain ⟨hhome, hsplit, hgone, hstand⟩ := meetPartner_active (m := m) (before := s.twin.partner) (s := partnerMet h m s) hst
      exact ⟨fun hc hh => run (hx.trans (hhome hc (decide_eq_true hh))), fun hc hh => ⟨_, run rfl, split_gives_way (hx.trans (hsplit hc (decide_eq_false hh)))⟩,
        fun hc hs => ⟨_, run (hx.trans (hgone hc hs)), by simp, by simp⟩, fun hs => run (hx.trans (hstand hs))⟩
    case relinquished => exact run ((hstay (by simp [hst, TwinMode.standing])).trans (meetPartner_relinquished hst))
    case incompatible =>
      have hx := (helloRx_eq hr hm).trans (meetPartner_incompatible ((partnerMetByStandby_st h m s).trans hst))
      simp only [partnerMetByStandby_fits, decide_eq_true_iff] at hx
      exact run hx
    case following =>
      have hx := (helloRx_eq hr hm).trans (meetPartner_following (by rw [partnerMetByStandby_st]; exact hst))
      simp only [partnerMetByStandby_fits, Bool.not_eq_true', decide_eq_false_iff_not] at hx
      exact run hx
  case part =>
    refine ⟨fun h => completes_partRx hr (partRx_bad hr h), fun hg h => completes_partRx hr (partRx_deaf hr hg h),
      fun hg hf hp hl => completes_partRx hr ((partRx_first hr hg hf hp).1 hl), fun hg hf i hi hp hc hl => completes_partRx hr (partRx_next hr hg hf hp hi hc hl),
      fun hg hf hp hc => completes_partRx hr (partRx_broken hr hg hf hp hc), fun hg hf hp hl => ?_⟩
    have hlast := (partRx_first (full := full) (gen := hdr.gen) hr hg hf hp).2 hl
    have hdelta (h : full = false) := hlast.trans (if_neg (by simp [h]))
    obtain ⟨hnext, hstale, hdrop⟩ := deltaDone_eq hdr.gen recs (twinHeard s)
    exact ⟨fun h => ⟨_, completes_partRx hr (hlast.trans (if_pos h)), fullDone_twin _ _ _⟩, fun h hs hn => ⟨_, completes_partRx hr (hdelta h), hnext hs hn⟩,
      fun h hs hn => completes_partRx hr ((hdelta h).trans (hstale hs hn)), fun h hs => completes_partRx hr ((hdelta h).trans (hdrop hs))⟩
  case ackDeaf => exact fun h => completes_fromTwin (act := ackRx hdr.gen) rfl hr (if_pos (by simp [pairActive, h]))
  case ack =>
    have run {t : State} (ht : ackRx hdr.gen s = t) : Completes (.twinAckRx hdr) s t := completes_fromTwin (act := ackRx hdr.gen) rfl hr ht
    obtain ⟨hnone, hgrant⟩ := ackRx_eq (gen := hdr.gen) hr hs
    refine ⟨fun h => run (hnone h), fun h => ⟨_, run (hgrant false h), ?_⟩, fun h => ⟨_, run (hgrant true h), ?_⟩⟩
    · simp [grantStep, acknowledged_twin, h, hs]
    · simp [grantStep, acknowledged_twin, h]
  case relay =>
    have up {t : State} (ht : relayUp k i b s = t) : Completes (.twinRelayUpRx hdr k i b) s t := completes_fromTwin (act := relayUp k i b) rfl hr ht
    have down {t : State} (ht : relayDown k i b s = t) : Completes (.twinRelayDownRx hdr k i b) s t := completes_fromTwin (act := relayDown k i b) rfl hr ht
    refine ⟨fun hc => up (relayUp_out_of_control hr hc), fun hc => down (relayDown_in_control hr hc), fun hc => ?_, fun hc => ?_⟩
    · obtain ⟨hack, hwake⟩ := relayUp_tc10 (i := i) (b := b) hr hc
      refine ⟨fun hk => up (hk ▸ hwake), fun hk => up (hk ▸ hack), fun hk => up (relayUp_other hr hc hk), fun hk hi => up (hk ▸ relayUp_no_channel hr hc hi), fun hk h1 h2 => ?_⟩
      obtain ⟨hclaim, hnet⟩ := relayUp_channel (b := b) hr hc h1 h2
      exact ⟨fun hn => up (hk ▸ hclaim hn), fun n hn => up (hk ▸ hnet n hn)⟩
    · obtain ⟨hframe, hcan, hack, hwake⟩ := relayDown_out_of_control (i := i) (b := b) hr hc
      exact ⟨fun hk h => down (hk ▸ hframe h), fun hk h1 h2 => down (hk ▸ hcan h1 h2), fun hk h1 h2 => down (hk ▸ hack h1 h2), fun hk h1 h2 => down (hk ▸ hwake h1 h2),
        fun hk => down (relayDown_other hr hc hk)⟩
  case relinquishDeaf => exact fun h => completes_fromTwin (act := relinquishRx) rfl hr (relinquishRx_of_not_standing hr h)
  case relinquish =>
    obtain ⟨hseen, hlost⟩ := relinquishRx_eq hr hs
    exact ⟨fun hh => completes_fromTwin (act := relinquishRx) rfl hr (hseen hh),
      fun hh hp => ⟨_, completes_fromTwin (act := relinquishRx) rfl hr (hlost hh hp), takeOver_tookOver rfl rfl⟩⟩
  case requestDeaf => exact fun h => completes_fromTwin (act := takebackReq) rfl hr (takebackReq_refused hr h)
  case request =>
    obtain ⟨hwait, hgo⟩ := takebackReq_eq hr hs hg
    obtain ⟨hgr, hgen, hch, hst⟩ := finalDelta_twin true (twinHeard s)
    exact ⟨fun h => completes_fromTwin (act := takebackReq) rfl hr (hwait h),
      fun h1 h2 h3 => ⟨_, completes_fromTwin (act := takebackReq) rfl hr (hgo h1 h2 h3), hgr, hgen, hch, hst.trans hs⟩⟩
  case grantDeaf => exact fun h => completes_fromTwin (act := takebackGrant) rfl hr (takebackGrant_unasked hr h)
  case grant =>
    have hgr := takebackGrant_asked hr ha hs
    obtain ⟨h1, h2, h3, h4, h5, -⟩ := takeOver_tookOver (v := s) (w := twinHeard s) rfl rfl
    exact ⟨fun hd => ⟨_, completes_fromTwin (act := takebackGrant) rfl hr (hgr.trans (if_pos hd)), h1, h2, h3, h4, h5, fun h => by simp [hs] at h⟩,
      fun hd => completes_fromTwin (act := takebackGrant) rfl hr (hgr.trans (if_neg (Nat.not_lt.mpr hd)))⟩
  case leave =>
    obtain ⟨hp, hsent, hch, hgr, hheld, hst⟩ := loseTwinPartner_twin (twinHeard s)
    exact ⟨_, completes_fromTwin (act := leaveRx) rfl hr (if_pos hr), hp, hsent, hch, hgr, hheld, hst⟩
  case lights =>
    exact ⟨fun h => completes_fromTwin (act := lightsOutRx k) rfl hr (lightsOutRx_ignored hr h),
      fun hc ht hk => ⟨_, completes_fromTwin (act := lightsOutRx k) rfl hr (lightsOutRx_obeyed hr hc ht hk), goLightsOut_begins _ _⟩⟩
  case status =>
    have run {t : State} (ht : statusRx b s = t) : Completes (.twinStatusRx hdr b) s t := completes_fromTwin (act := statusRx b) rfl hr ht
    exact ⟨fun h => run (statusRx_bad hr h), fun h hc => run (statusRx_out_of_control hr h hc), fun h hc => ⟨_, run rfl, statusRx_reaches hr h hc⟩⟩

end Sys2Proof.Machine
end

section
/-! Proofs/Commands: how a clause about an opcode follows from what its body answers (R311, R312, R484), and when the shared parameter checks pass (R327). -/

namespace Sys2Proof.Machine
open Sys2Proof.Claims

/-- `mk` carries the opcode of `c`, which the opcode tables list in a class other than the Device class. -/
def Carries (mk : Msg → Instr) (c : Cmd) : Prop :=
  (∀ m s, exec (mk m) s = ends (receiveMsg ⟨c.cls, c.opcode, m⟩ s)) ∧ cmdOf c.cls c.opcode = some c ∧ c.cls ≠ 1

theorem noteRecord_of_no_key {c : Cmd} (h : c.key = none) (p : List Byte) (s t : State) : noteRecord c p s t = t := by
  unfold noteRecord
  rw [h]

theorem noteRecord_of_key {c : Cmd} {k : Nat} (h : c.key = some k) (he : c.epoch = false) (p : List Byte) (s t : State) :
    noteRecord c p s t = recorded c k p t := by
  unfold noteRecord
  rw [h, he]
  rfl

/-- A message that passes checks 1 to 9 of R311, with nothing before it that waits, begins its command at once. -/
theorem receive_begins {a : Accepted} {s u : State} (h : admits a s u) : receiveMsg a s = execute a u := by
  rw [admits_reaches a s u h]
  obtain ⟨-, -, -, -, -, hwait, hqueue, -, -, -, -, -, -, -, -, -, htoken, hout, b, hauth, rfl⟩ := h
  obtain ⟨hwait', hqueue'⟩ := admitted_keeps a b (tokenTaken a s)
  obtain ⟨hw, hq⟩ := tokenTaken_keeps a s
  rw [admits_accepts a s b htoken hout hauth, accept_quiet a b _ (by rw [hwait', hw, hwait]) (by rw [hqueue', hq, hqueue])]

section
variable {mk : Msg → Instr} {c : Cmd} {ok : Via → List Byte → State → Prop} {eff : Via → List Byte → State → State × List Byte}

/-- An opcode without an image record does what its body answers. -/
theorem Carries.runs (hc : Carries mk c) (hkey : c.key = none)
    (h : ∀ v p u, ok v p u → c.len p = true ∧ c.body v p u = done (eff v p u).2 (eff v p u).1) : Runs mk c ok eff := by
  obtain ⟨hexec, hlisted, hcls⟩ := hc
  refine runs_of mk c ok eff hexec hlisted (fun hdev => hcls hdev.1) fun v p u hok => ?_
  obtain ⟨hlen, hbody⟩ := h v p u hok
  exact ⟨hlen, by rw [runCmd_done c v p _ u _ hbody, noteRecord_of_no_key hkey]⟩

/-- A configuration command does what its body answers, and its parameters become its object's record. -/
theorem Carries.runs_recorded (hc : Carries mk c) {k : Nat} (hkey : c.key = some k) (hep : c.epoch = false) {f : Via → List Byte → State → State}
    (h : ∀ v p u, ok v p u → c.len p = true ∧ c.body v p u = done [] (f v p u)) : Runs mk c ok (fun v p u => (recorded c k p (f v p u), [])) := by
  obtain ⟨hexec, hlisted, hcls⟩ := hc
  refine runs_of mk c ok _ hexec hlisted (fun hdev => hcls hdev.1) fun v p u hok => ?_
  obtain ⟨hlen, hbody⟩ := h v p u hok
  exact ⟨hlen, by rw [runCmd_done c v p _ u _ hbody, noteRecord_of_key hkey hep]⟩

/-- An opcode is refused as its body refuses it. -/
theorem Carries.declines (hc : Carries mk c) {e : Status} (he : e ≠ .ok) {f : List Byte → State → State}
    (h : ∀ v p u, ok v p u → c.len p = true ∧ c.body v p u = failed e (f p u)) : Declines mk c e ok f :=
  declines_of mk c e ok f hc.1 hc.2.1 (fun hdev => hc.2.2 hdev.1) he h

/-- A command that check 11 does not allow is answered with NOT_IN_STATE (R311). -/
theorem Carries.completes_notInState (hc : Carries mk c) {m : Msg} {s u : State} (ha : admits ⟨c.cls, c.opcode, m⟩ s u)
    (hn : allowed c (paramsOf m) u = false) : Completes (mk m) s (replyTo c.cls c.opcode m true .notInState [] false u) := by
  obtain ⟨hexec, hlisted, -⟩ := hc
  unfold Completes
  rw [hexec, receive_begins ha]
  unfold execute
  simp only [hlisted, hn, Bool.not_false, ↓reduceIte]
  rfl

end

/-- Check 11 asks for the modes that the opcode tables name (R327). -/
theorem allowed_of_mode {c : Cmd} {p : List Byte} {u : State} (h : c.mode p u = false) : allowed c p u = false := by
  unfold allowed
  rw [h, Bool.and_false]

theorem lenIs_of_length {n : Nat} {p : List Byte} (h : p.length = n) : lenIs n p = true := beq_iff_eq.mpr h

theorem res0_of_zeros {off n : Nat} {p : List Byte} (h : zeros off n p) : res0 [(off, n)] p = true := by
  simp [res0, h]

/-- A body whose one check is that the reserved bytes are 0. -/
theorem whenOk_zeros {off n : Nat} {p : List Byte} (h : zeros off n p) (r : CmdResult) (s : State) : whenOk (res0 [(off, n)] p) r s = r :=
  whenOk_true _ _ _ (res0_of_zeros h)

end Sys2Proof.Machine
end

section
/-! Proofs/KeyUse: what the random source, a key under its mask, a slot's commit and the attestation message are, as the commands of the Keys class meet them (R266, R269, R272, R281). -/

namespace Sys2Proof.Machine
open Sys2Proof.Claims

@[simp] theorem drawBytes_length (n : Nat) (s : State) : (drawBytes n s).1.length = n := by
  induction n generalizing s with
  | zero => rfl
  | succ n ih => exact congrArg (· + 1) (ih _)

@[simp] theorem drawBytes_thm (n : Nat) (s : State) : (drawBytes n s).2.thm = s.thm := by
  induction n generalizing s with
  | zero => rfl
  | succ n ih => exact ih _

@[simp] theorem masked_thm (n : Nat) (s : State) : (masked n s).thm = s.thm := drawBytes_thm _ s

theorem xorBytes_cancel {a b : List Byte} (h : a.length = b.length) : xorBytes (xorBytes a b) b = a := by
  induction a generalizing b with
  | nil => rfl
  | cons x a ih =>
    cases b with
    | nil => simp at h
    | cons y b => simpa [xorBytes, BitVec.xor_assoc] using ih (by simpa using h)

/-- The shares in which a key leaves the Thimble: its value under a fresh mask, and the mask (R266). -/
def deliveredShares (n : Nat) (u : State) : Shares :=
  { slot := n, masked := xorBytes (slotValue n u) (drawBytes (slotValue n u).length u).1, mask := (drawBytes (slotValue n u).length u).1 }

/-- The key schedule joins the shares to the slot's value (R266). -/
@[simp] theorem deliveredShares_key (n : Nat) (u : State) : (deliveredShares n u).key = slotValue n u := xorBytes_cancel (drawBytes_length _ u).symm

/-- A key that may be used and is not stale is delivered (R266, R269). -/
theorem fetchKey_of_usable {n : Nat} {m : Master} {w : World} {k : KeyUse} {u : State} (h : usable n m w k u) :
    fetchKey n none m w k u = (.ok (deliveredShares n u), masked n u) := by
  obtain ⟨-, hmay, hfresh⟩ := h
  simp only [fetchKey, checkUse, hmay, hfresh, Bool.not_true, Bool.false_eq_true, ↓reduceIte]
  rfl

theorem commitSlot_done {n : Nat} {new : Option (List Byte × BitVec 128)} {s t : State} (hw : s.thm.worn.getLsbD n = false)
    (h : updateSlot n new s = some t) : commitSlot n new s = done [] t := by
  unfold commitSlot
  rw [h, hw]
  rfl

/-- A record that does not read back as written is counted and reported, and the old key stands (R272). -/
theorem commitSlot_worn {n : Nat} {new : Option (List Byte × BitVec 128)} {s t : State} (hw : s.thm.worn.getLsbD n = true)
    (h : updateSlot n new s = some t) :
    commitSlot n new s = failed .internal (raiseEv .journalVerify n [] (bump .thmJournalVerifyFail n s)) := by
  unfold commitSlot
  rw [h, hw]
  rfl

/-- Outside a lifecycle transition a body of the Keys class runs as it stands (R280). -/
theorem whileQuiet_idle {body : Via → List Byte → State → CmdResult} {u : State} (h : u.thm.lcUntil ≤ u.cyc) (v : Via) (p : List Byte) :
    whileQuiet body v p u = body v p u := if_neg (Nat.not_lt.mpr h)

/-- While a lifecycle transition runs, it answers BUSY (R280). -/
theorem whileQuiet_busy {body : Via → List Byte → State → CmdResult} {u : State} (h : u.cyc < u.thm.lcUntil) (v : Via) (p : List Byte) :
    whileQuiet body v p u = failed .busy u := if_pos h

@[simp] theorem natBytes_length (n v : Nat) : (natBytes n v).length = n := by
  induction n with
  | zero => rfl
  | succ n ih => exact congrArg (· + 1) ih

@[simp] theorem sha256_length (m : List Byte) : (sha256 m).length = 32 := by
  simp only [sha256, List.length_append, natBytes_length]

@[simp] theorem hmacSha256_length (key m : List Byte) : (hmacSha256 key m).length = 32 := sha256_length _

theorem attestMessage_length (sel : Nat) (challenge : List Byte) (s : State) : (attestMessage sel challenge s).length = challenge.length + 72 := by
  have hfw : (if s.boot.bank ≤ 1 then bankMeasure s.boot.bank s else sha256 []).length = 32 := by
    split <;> exact sha256_length _
  have hcfg : (configDigest s).length = 32 := sha256_length _
  simp only [attestMessage, List.length_append, natBytes_length, hfw, hcfg, List.length_cons, List.length_nil]
  omega

/-- The bytes of an ATTEST challenge leave its message within what the Bodkin takes (R281, R302). -/
theorem attestMessage_fits {sel : Nat} {challenge : List Byte} (h : challenge.length ≤ 32) (s : State) :
    msgTooLong (attestMessage sel challenge s) = false := by
  simp only [msgTooLong, attestMessage_length, decide_eq_false_iff_not]
  omega

end Sys2Proof.Machine
end

section
/-! Proofs/KeyCommands: what each operation of the Keys class answers where its conditions hold, and O19 from these rules (R263-R281, R467). -/

namespace Sys2Proof.Machine
open Sys2Proof.Claims

theorem typeLen_eq (a : BitVec 128) : typeLen a = 16 ∨ typeLen a = 32 := by
  unfold typeLen
  split
  · exact .inl rfl
  · exact .inr rfl

theorem cmdImport_len {p : List Byte} (h : p.length = 64 ∨ p.length = 80) : cmdImport.len p = true := by
  simpa [cmdImport] using h

section
variable {target wrap : Nat} {attr blob key value : List Byte} {a : BitVec 128} {v : Via} {s t t' : State}

/-- An import into a slot: the blob opens under the wrap key, and the slot commits what it held (R270, R272). -/
theorem importKey_slot (ha : BitVec.ofNat 128 (beNat attr) = a) (htarget : target < 64) (hattr : attrBad false a = false)
    (hblob : blob.length = 28 + typeLen a) (hwrap : wrapKey wrap v s = (.ok key, t))
    (hopen : openBlob key target attr blob = some value) (hworn : t.thm.worn.getLsbD target = false)
    (hcommit : updateSlot target (some (value, storedAttr 0 0 a)) t = some t') :
    importKey target wrap attr blob v s = done [] t' := by
  have hroot : (decide (target = 0x42) || decide (target = 0x43)) = false := by
    simp only [Bool.or_eq_false_iff, decide_eq_false_iff_not]
    omega
  subst ha
  unfold importKey
  simp only [hroot, hattr, hblob, hwrap, hopen, Nat.not_le.mpr htarget, Bool.false_eq_true, false_and, and_false, ne_eq, not_true_eq_false, ↓reduceIte]
  exact commitSlot_done hworn hcommit

/-- An import of a root in PROVISION, which programs it (R263). -/
theorem importKey_root (htarget : target = 0x42 ∨ target = 0x43) (hlc : lcState s = 1) (hblank : s.thm.programmed.getLsbD (target - 64) = false)
    (hblob : blob.length = 60) (hwrap : wrapKey 0xFD v s = (.ok key, t)) (hopen : openBlob key target attr blob = some value) :
    importKey target 0xFD attr blob v s
      = done [] { t with thm := { t.thm with programmed := t.thm.programmed ||| BitVec.ofNat 4 (2 ^ (target - 64)), roots := mapSet (List.replicate 32 0) t.thm.roots (target - 64) value } } := by
  have hroot : (decide (target = 0x42) || decide (target = 0x43)) = true := by
    simpa only [Bool.or_eq_true, decide_eq_true_eq] using htarget
  unfold importKey
  simp only [hroot, hlc, hblank, hblob, hwrap, hopen, Bool.not_true, Bool.false_eq_true, false_and, and_false, ne_eq, not_true_eq_false, or_self, ↓reduceIte]

/-- A generated key is drawn from the random source (R267, R271). -/
theorem generateKey_done (ha : BitVec.ofNat 128 (beNat attr) = a) (htarget : target < 64) (hattr : attrBad false a = false) (hrng : s.thm.rngFault = false)
    (hworn : s.thm.worn.getLsbD target = false)
    (hcommit : updateSlot target (some ((drawBytes (typeLen a) s).1, storedAttr 1 0 a)) (drawBytes (typeLen a) s).2 = some t') :
    generateKey target attr s = done [] t' := by
  subst ha
  unfold generateKey
  simp only [hattr, hrng, Nat.not_le.mpr htarget, Bool.false_eq_true, or_self, ↓reduceIte]
  exact commitSlot_done (by rwa [drawBytes_thm]) hcommit

/-- The context of a derivation: the slot that takes the key, and the LABEL of its record (R268, R271). -/
def deriveContext (slot : Nat) (a : BitVec 128) : List Byte := natBytes 1 slot ++ natBytes 4 (bits a 69 38)

/-- A key derived from root 2, in PROVISION and FIELD (R271). -/
theorem deriveKey_root (ha : BitVec.ofNat 128 (beNat attr) = a) (htarget : target < 64) (hattr : attrBad true a = false)
    (hparent : bits a 108 102 = 66) (halive : rootAlive 2 s = true) (hlc : lcState s = 1 ∨ lcState s = 2)
    (hworn : s.thm.worn.getLsbD target = false)
    (hcommit : updateSlot target (some (kdf (rootValue 2 s) "THMSLOT" (deriveContext target a) (typeLen a), storedAttr 2 1 a)) s = some t') :
    deriveKey target attr v s = done [] t' := by
  subst ha
  unfold deriveKey
  simp only [hattr, hparent, halive, hlc, Nat.not_le.mpr htarget, ge_iff_le, Bool.false_eq_true, or_self, Nat.reduceLeDiff, and_self, ↓reduceIte]
  exact commitSlot_done hworn hcommit

/-- A key derived from a slot that may be used and is not itself derived (R269, R271). -/
theorem deriveKey_slot (ha : BitVec.ofNat 128 (beNat attr) = a) (htarget : target < 64) (hattr : attrBad true a = false)
    (huse : usable (bits a 108 102) (viaMaster v) (viaWorld v) .derive s)
    (hfirst : bits (slotAttr (bits a 108 102) s) 124 123 ≠ 2) (hworn : s.thm.worn.getLsbD target = false)
    (hcommit : updateSlot target (some (kdf (slotValue (bits a 108 102) s) "THMSLOT" (deriveContext target a) (typeLen a),
      storedAttr 2 (slotGen (bits a 108 102) s) a)) (masked (bits a 108 102) s) = some t') :
    deriveKey target attr v s = done [] t' := by
  subst ha
  unfold deriveKey
  simp only [hattr, hfirst, fetchKey_of_usable huse, deliveredShares_key, Nat.not_le.mpr htarget, Nat.not_le.mpr huse.1, Bool.false_eq_true, or_self, ↓reduceIte]
  exact commitSlot_done (by rwa [masked_thm]) hcommit

theorem destroyKey_of_slot (htarget : target < 64) (s : State) : destroyKey target s = commitSlot target none s := if_neg (Nat.not_le.mpr htarget)

end

theorem lcChallenge_done {s : State} (hrng : s.thm.rngFault = false) :
    lcChallenge s = done (drawBytes 32 s).1
      { (drawBytes 32 s).2 with thm := { (drawBytes 32 s).2.thm with lcNonce := some ((drawBytes 32 s).1, s.cyc + 60000 * msCyc) } } := by
  unfold lcChallenge
  rw [hrng]
  rfl

/-- The state in which an authorised transition runs, its nonce spent, and for how long it does (R279, R280; log entry 6). -/
def lcDrawn (row : LcRow) (target : Nat) (s : State) : Nat × State :=
  drawBelow (100 * msCyc) (lcRun row (lcState s) target { s with thm := { s.thm with lcNonce := none } })

/-- A transition runs under a token, of a root that may authorise it, for the nonce in force (R278-R280). -/
theorem lcTransition_authorised {row : LcRow} {nonce : List Byte} {ends root target : Nat} {s : State} (hrow : lcRow (lcState s) target = some row)
    (hfree : lcState s = 2 → target = 3 → 2 ≤ freeEntries s) (hnonce : s.thm.lcNonce = some (nonce, ends)) (hends : s.cyc < ends)
    (hroot : root ∈ row.roots) (halive : rootAlive root s = true) :
    lcTransition target (lcToken root nonce (lcState s) target s) s
      = done [] { (lcDrawn row target s).2 with thm := { (lcDrawn row target s).2.thm with lcUntil := s.cyc + (lcDrawn row target s).1 } } := by
  have hroom : ¬ (lcState s = 2 ∧ target = 3 ∧ freeEntries s < 2) := fun ⟨h2, h3, hlt⟩ => absurd (hfree h2 h3) (Nat.not_le.mpr hlt)
  have htoken : row.roots.any (fun r => rootAlive r s && decide (lcToken root nonce (lcState s) target s = lcToken r nonce (lcState s) target s)) = true :=
    List.any_eq_true.mpr ⟨root, hroot, by simp [halive]⟩
  unfold lcTransition
  simp only [hrow, hroom, hnonce, Nat.not_le.mpr hends, htoken, ↓reduceIte]
  rfl

section
variable {n len : Nat} {text : List Byte} {m : Master} {w : World} {s : State}

/-- The MAC under the identity attestation key, outside BLANK while root 0 stands (R281, R302). -/
theorem hmacOp_identity (htext : msgTooLong text = false) (hlen : len = 16 ∨ len = 32) (halive : rootAlive 0 s = true) (hlc : lcState s ≠ 0) :
    hmacOp 255 len text m w s = done ((hmacSha256 (attestKey s) text).take len) s := by
  have hbad : ¬ (msgTooLong text = true ∨ len ≠ 16 ∧ len ≠ 32) := by simp [htext]; omega
  unfold hmacOp
  rw [if_neg hbad, if_pos rfl, if_pos ⟨halive, hlc⟩]

/-- The MAC under a slot that may be used (R269, R302). -/
theorem hmacOp_slot (htext : msgTooLong text = false) (hlen : len = 16 ∨ len = 32) (huse : usable n m w .hmac s) :
    hmacOp n len text m w s = done ((hmacSha256 (slotValue n s) text).take len) (masked n s) := by
  have hbad : ¬ (msgTooLong text = true ∨ len ≠ 16 ∧ len ≠ 32) := by simp [htext]; omega
  have hslot : n < 64 := huse.1
  unfold hmacOp
  rw [if_neg hbad, if_neg (by omega), if_neg (by omega), fetchKey_of_usable huse]
  simp only [deliveredShares_key]

/-- ATTEST answers with the message and its whole MAC (R281). -/
theorem attest_of_hmac {sel : Nat} {challenge key : List Byte} {t : State}
    (h : hmacOp sel 32 (attestMessage sel challenge s) .keeper .trusted s = done ((hmacSha256 key (attestMessage sel challenge s)).take 32) t) :
    attest sel challenge s = done (attestMessage sel challenge s ++ hmacSha256 key (attestMessage sel challenge s)) t := by
  rw [List.take_of_length_le (Nat.le_of_eq (hmacSha256_length _ _))] at h
  unfold attest
  simp only [h]
  rfl

end

/-! Where the commands of the Keys class stand in the opcode tables -/

theorem carries_importKey : Carries .importKey cmdImport := ⟨fun _ _ => rfl, rfl, by decide⟩
theorem carries_generate : Carries .generate cmdGenerate := ⟨fun _ _ => rfl, rfl, by decide⟩
theorem carries_derive : Carries .derive cmdDerive := ⟨fun _ _ => rfl, rfl, by decide⟩
theorem carries_destroy : Carries .destroy cmdDestroy := ⟨fun _ _ => rfl, rfl, by decide⟩
theorem carries_readAttr : Carries .readAttr cmdReadAttr := ⟨fun _ _ => rfl, rfl, by decide⟩
theorem carries_lcChallenge : Carries .lcChallenge cmdLcChallenge := ⟨fun _ _ => rfl, rfl, by decide⟩
theorem carries_lcTransition : Carries .lcTransition cmdLcTransition := ⟨fun _ _ => rfl, rfl, by decide⟩
theorem carries_attest : Carries .attest cmdAttest := ⟨fun _ _ => rfl, rfl, by decide⟩
theorem carries_lcStatus : Carries .lcStatus cmdLcStatus := ⟨fun _ _ => rfl, rfl, by decide⟩

/-! Their bodies beside a lifecycle transition -/

section
variable {mk : Msg → Instr} {c : Cmd} {body : Via → List Byte → State → CmdResult} {ok : Via → List Byte → State → Prop}

/-- A command of the Keys class is refused with BUSY while a lifecycle transition runs (R280). -/
theorem Carries.declines_busy (hc : Carries mk c) (hbody : c.body = whileQuiet body) :
    Declines mk c .busy (fun _ p u => c.len p = true ∧ u.cyc < u.thm.lcUntil) (fun _ u => u) :=
  hc.declines (by decide) fun v p u ⟨hlen, hrun⟩ => ⟨hlen, by rw [hbody]; exact whileQuiet_busy hrun v p⟩

/-- Outside a lifecycle transition it does what its body answers. -/
theorem Carries.runs_quiet {eff : Via → List Byte → State → State × List Byte} (hc : Carries mk c) (hkey : c.key = none) (hbody : c.body = whileQuiet body)
    (h : ∀ v p u, ok v p u → u.thm.lcUntil ≤ u.cyc ∧ c.len p = true ∧ body v p u = done (eff v p u).2 (eff v p u).1) : Runs mk c ok eff :=
  hc.runs hkey fun v p u hok => by
    obtain ⟨hidle, hlen, hdone⟩ := h v p u hok
    exact ⟨hlen, by rw [hbody, whileQuiet_idle hidle, hdone]⟩

/-- Outside a lifecycle transition it is refused as its body refuses it. -/
theorem Carries.declines_quiet {e : Status} {f : List Byte → State → State} (hc : Carries mk c) (he : e ≠ .ok) (hbody : c.body = whileQuiet body)
    (h : ∀ v p u, ok v p u → u.thm.lcUntil ≤ u.cyc ∧ c.len p = true ∧ body v p u = failed e (f p u)) : Declines mk c e ok f :=
  hc.declines he fun v p u hok => by
    obtain ⟨hidle, hlen, hfailed⟩ := h v p u hok
    exact ⟨hlen, by rw [hbody, whileQuiet_idle hidle, hfailed]⟩

end

/-- Settles O19: each clause is the answer of its operation, carried through the checks of R311. -/
theorem keyCommandsRun : Obligations.KeyCommandsRun := by
  unfold Obligations.KeyCommandsRun
  refine ⟨fun key value t t' => ?slot, fun key value t => ?root, fun t' => ?generate, fun t' => ?derive, fun t' => ?destroy, ?readAttr, ?challenge,
    fun row nonce ends root => ?transition, ?identity, ?attest, fun m s u ha hopen => ?debugOpen, ?status, ?busy, fun t' => ?worn⟩
  case slot =>
    refine carries_importKey.runs_quiet rfl rfl fun v p u ⟨hidle, hworn, hlen, hzero, htarget, hattr, hwrap, hblob, hcommit⟩ => ⟨hidle, ?_, ?_⟩
    · exact cmdImport_len (by have htype := typeLen_eq (BitVec.ofNat 128 (beNat ((p.drop 4).take 16))); omega)
    · exact (whenOk_zeros hzero _ _).trans (importKey_slot rfl htarget hattr (by rw [List.length_drop]; omega) hwrap hblob hworn hcommit)
  case root =>
    refine carries_importKey.runs_quiet rfl rfl fun v p u ⟨hidle, hlen, hzero, htarget, hwith, hlc, hblank, hwrap, hblob⟩ => ⟨hidle, ?_, ?_⟩
    · exact cmdImport_len (.inr hlen)
    · refine (whenOk_zeros hzero _ _).trans ?_
      rw [hwith]
      exact importKey_root htarget hlc hblank (by rw [List.length_drop]; omega) hwrap hblob
  case generate =>
    exact carries_generate.runs_quiet rfl rfl fun v p u ⟨hidle, hworn, hlen, hzero, htarget, hattr, hrng, hcommit⟩ =>
      ⟨hidle, lenIs_of_length hlen, (whenOk_zeros hzero _ _).trans (generateKey_done rfl htarget hattr hrng hworn hcommit)⟩
  case derive =>
    refine carries_derive.runs_quiet rfl rfl fun v p u ⟨hidle, hworn, hlen, hzero, htarget, hattr, hfrom⟩ =>
      ⟨hidle, lenIs_of_length hlen, (whenOk_zeros hzero _ _).trans ?_⟩
    rcases hfrom with ⟨hparent, halive, hlc, hcommit⟩ | ⟨huse, hfirst, hcommit⟩
    · exact deriveKey_root rfl htarget hattr hparent halive hlc hworn hcommit
    · exact deriveKey_slot rfl htarget hattr huse hfirst hworn hcommit
  case destroy =>
    exact carries_destroy.runs_quiet rfl rfl fun v p u ⟨hidle, hworn, hlen, hzero, htarget, hcommit⟩ =>
      ⟨hidle, lenIs_of_length hlen, (whenOk_zeros hzero _ _).trans ((destroyKey_of_slot htarget u).trans (commitSlot_done hworn hcommit))⟩
  case readAttr =>
    exact carries_readAttr.runs rfl fun v p u ⟨hlen, hzero, hslot⟩ =>
      ⟨lenIs_of_length hlen, whenOk_true _ _ _ (by rw [res0_of_zeros hzero, decide_eq_true hslot]; rfl)⟩
  case challenge =>
    exact carries_lcChallenge.runs_quiet rfl rfl fun v p u ⟨hidle, hp, hrng⟩ => ⟨hidle, lenIs_of_length (by rw [hp]; rfl), lcChallenge_done hrng⟩
  case transition =>
    refine carries_lcTransition.runs_quiet rfl rfl fun v p u ⟨hidle, hlen, hzero, hrow, hfree, hnonce, hends, hroot, halive, htoken⟩ =>
      ⟨hidle, lenIs_of_length hlen, (whenOk_zeros hzero _ _).trans ?_⟩
    rw [htoken]
    exact lcTransition_authorised hrow hfree hnonce hends hroot halive
  case identity =>
    refine carries_attest.runs_quiet rfl rfl fun v p u ⟨hidle, hlen, hzero, hsel, halive, hlc⟩ => ⟨hidle, lenIs_of_length hlen, (whenOk_zeros hzero _ _).trans ?_⟩
    rw [hsel]
    exact attest_of_hmac (hmacOp_identity (attestMessage_fits (by rw [List.length_drop]; omega) u) (.inr rfl) halive hlc)
  case attest =>
    exact carries_attest.runs_quiet rfl rfl fun v p u ⟨hidle, hlen, hzero, huse⟩ =>
      ⟨hidle, lenIs_of_length hlen, (whenOk_zeros hzero _ _).trans (attest_of_hmac (hmacOp_slot (attestMessage_fits (by rw [List.length_drop]; omega) u) (.inr rfl) huse))⟩
  case debugOpen =>
    exact carries_attest.completes_notInState ha (allowed_of_mode (by simpa [cmdAttest] using hopen))
  case status =>
    exact carries_lcStatus.runs_quiet rfl rfl fun v p u ⟨hidle, hp⟩ => ⟨hidle, lenIs_of_length (by rw [hp]; rfl), rfl⟩
  case busy =>
    simp only [List.forall_mem_cons]
    exact ⟨carries_importKey.declines_busy rfl, carries_generate.declines_busy rfl, carries_derive.declines_busy rfl, carries_destroy.declines_busy rfl,
      carries_lcChallenge.declines_busy rfl, carries_lcTransition.declines_busy rfl, carries_attest.declines_busy rfl, carries_lcStatus.declines_busy rfl,
      List.forall_mem_nil _⟩
  case worn =>
    exact carries_destroy.declines_quiet (by decide) rfl fun v p u ⟨hidle, hworn, hlen, hzero, htarget, hcommit⟩ =>
      ⟨hidle, lenIs_of_length hlen, (whenOk_zeros hzero _ _).trans ((destroyKey_of_slot htarget u).trans (commitSlot_worn hworn hcommit))⟩

end Sys2Proof.Machine
end

section
/-! Proofs/PowerCommands: what each operation of the Power and Safety classes answers where its conditions hold, and O22 from these rules (R254, R390-R395, R416-R422, R462, R463, R469, R470). -/

namespace Sys2Proof.Machine
open Sys2Proof.Claims

/-! POWER_REQ -/

/-- What a granted request starts: DOZE at once, the others as a transition (R390-R392, R403). -/
def startPower (target : PwrState) (mask : BitVec 16) (s : State) : State :=
  match target with
  | .doze => enterDoze s
  | .run => beginTransition .run 0xFFFF false s
  | .trim => beginTransition .trim mask false s
  | _ => goLightsOut target s

section
variable {code : Nat} {target : PwrState} {mask : BitVec 16} {s : State}

theorem powerRequest_unknown (hcode : pwrOfCode code = none) : powerRequest code mask s = failed .denied s := by
  unfold powerRequest
  rw [hcode]

theorem powerRequest_denied (hcode : pwrOfCode code = some target) (h : powerAllowed target mask s = false) : powerRequest code mask s = failed .denied s := by
  unfold powerRequest
  simp only [hcode, h, Bool.not_false, ↓reduceIte]

theorem powerRequest_granted (hcode : pwrOfCode code = some target) (h : powerAllowed target mask s = true) (hidle : s.pwr.transition = none)
    (hnew : ¬ (s.pwr.state = target ∧ s.pwr.trimMask = mask)) : powerRequest code mask s = done [] (startPower target mask s) := by
  unfold powerRequest
  simp only [hcode, h, hidle, hnew, Bool.not_true, Option.isSome_none, Bool.false_eq_true, ↓reduceIte]
  cases target <;> rfl

/-- A TRIM without BOD is not allowed in FIELD, in SERVICE, or with a context in use (R289, R469). -/
theorem powerAllowed_trim_without_bod (hbod : mask.getLsbD 7 = false) (h : lcState s = 2 ∨ lcState s = 3 ∨ contextsInUse s = true) :
    powerAllowed .trim mask s = false := by
  have hneeded : (!(contextsInUse s) && lcState s != 2 && lcState s != 3) = false := by
    rcases h with h | h | h <;> simp [h]
  unfold powerAllowed
  simp only [hbod, hneeded, Bool.or_self, Bool.and_false]

/-- A DOZE is not allowed under open debug (R470). -/
theorem powerAllowed_doze_under_debug (h : s.dbg.state ≠ .closed) : powerAllowed .doze mask s = false := by
  simp [powerAllowed, h]

theorem powerAllowed_doze (hstate : s.pwr.state = .run ∨ s.pwr.state = .trim) (hdebug : s.dbg.state = .closed) : powerAllowed .doze 0 s = true := by
  rcases hstate with h | h <;> simp [powerAllowed, h, hdebug]

/-- DEEP and OFF are allowed when no network is enabled (R390). -/
theorem powerAllowed_lightsOut (htarget : target = .deep ∨ target = .off) (hnets : ∀ n ∈ s.pwr.nets, n.2.record.getLsbD 123 = false) :
    powerAllowed target 0 s = true := by
  have hall : s.pwr.nets.all (fun n => !(n.2.record.getLsbD 123)) = true := List.all_eq_true.mpr fun n hn => by rw [hnets n hn]; rfl
  rcases htarget with rfl | rfl <;> simpa [powerAllowed] using hall

end

/-! Networks -/

/-- A network that takes a record: it is awake from now on, with no round under way (R393, R394). -/
def Net.taken (r : BitVec 128) (x : Net) (s : State) : Net :=
  { x with record := r, mode := .awake, since := s.cyc, kaSeen := kaCount { x with record := r } s, kaNext := s.cyc, answered := [], portsAnswered := [] }

/-- A record is taken by a network that is in no consent round and does not sleep (R393, R398). -/
theorem nmSet_done {r : BitVec 128} {s : State} (hbad : nmBad (bits r 127 124) r s = false)
    (hconsent : ¬ ((getNet (bits r 127 124) s).enabled = true ∧ (getNet (bits r 127 124) s).mode = .consent))
    (hasleep : ¬ ((getNet (bits r 127 124) s).enabled = true ∧ (getNet (bits r 127 124) s).mode = .asleep)) :
    nmSet r s = done [] (setNet (bits r 127 124) ((getNet (bits r 127 124) s).taken r s) s) := by
  unfold nmSet
  simp only [hbad, hconsent, hasleep, Bool.false_eq_true, ↓reduceIte]
  rfl

/-- A request without a hold ends the holds of the networks in its mask (R395). -/
theorem nmRequest_release (mask : BitVec 16) (s : State) :
    nmRequest mask false s = forUpTo 16 (fun n t => if mask.getLsbD n then setNet n { getNet n t with hold := false } t else t) s := rfl

/-! The Lamp room -/

/-- The state that a release leaves (R419). -/
def safeReleased (s : State) : State :=
  raiseEv .safeRelease 0 (s.lamp.codes.flatMap (fun (c : BitVec 16) => natBytes 2 c.toNat)) (sideCause 5 (bump .lampRelease 0 (reopenGates
    (driveFault false (setLamp { s.lamp with safe := false, codes := [], firstTime := [], restarted := false, tokenLost := false } s)))))

/-- The safe state is released when the condition of every code is gone (R419, R465). -/
theorem safeRelease_done {s : State} (hsafe : s.lamp.safe = true) (hcool : ∀ i < 4, mapGet 0 s.pwr.temps i < 120)
    (hquiet : ∀ t, s.lamp.lastS = some t → t + 10 * msCyc ≤ s.cyc) (hextest : s.dbg.ir ≠ 0) (hclamp : s.dbg.ir ≠ 3) (hhighz : s.dbg.ir ≠ 4)
    (hclocks : s.pwr.unlocked &&& s.pwr.powered = 0) (htest : s.kpr.testPassed = true) (hfaults : s.faults = []) :
    safeRelease s = done [] (safeReleased s) := by
  have hhot : (List.range 4).any (fun i => decide (mapGet 0 s.pwr.temps i ≥ 120)) = false :=
    List.any_eq_false.mpr fun i hi => by simpa using hcool i (List.mem_range.mp hi)
  unfold safeRelease
  simp only [hsafe, hhot, hclocks, htest, hfaults, hextest, hclamp, hhighz, beq_false_of_ne, ne_eq, not_false_eq_true, not_true_eq_false, Bool.or_self, Bool.not_true,
    Bool.false_eq_true, List.isEmpty_nil, false_or, or_false, ↓reduceIte]
  rw [if_neg]
  · rfl
  · split
    · next t hlast => simpa using hquiet t hlast
    · exact Bool.false_ne_true

theorem setSafeOpen_of_gates_open {mask : BitVec 32} {s : State} (hsafe : s.lamp.safe = false) (htoken : s.lamp.tokenLost = false) :
    setSafeOpen mask s = setLamp { s.lamp with safeOpen := mask } s := if_neg (by simp [hsafe, htoken])

section
variable {code : Nat} {s : State}

/-- An injection of a double-bit error plants it for the scrubber (R422). -/
theorem inject_planted (hlc : lcState s = 1 ∨ lcState s = 3) (hcode : code = 0x0500 ∨ code = 0x0C00) :
    inject code s = done [] (setLamp { s.lamp with planted := s.lamp.planted ||| (if code = 0x0500 then 1 else 2) } s) := by
  have hmode : ¬ (lcState s ≠ 1 ∧ lcState s ≠ 3) := by omega
  unfold inject
  rw [if_neg hmode]
  rcases hcode with rfl | rfl <;> rfl

/-- Any other injection makes its mechanism detect once (R422). -/
theorem inject_detected (hlc : lcState s = 1 ∨ lcState s = 3) (hcode : codeOk (code / 256) (code % 256) = true) (h5 : code / 256 ≠ 5) (hC : code / 256 ≠ 0x0C) :
    inject code s = done [] (detectFault (code / 256) (code % 256) (setLamp { s.lamp with injected := true } s)) := by
  have hmode : ¬ (lcState s ≠ 1 ∧ lcState s ≠ 3) := by omega
  unfold inject
  rw [if_neg hmode]
  simp only [hcode, h5, hC, Bool.not_true, Bool.false_eq_true, ↓reduceIte]

end

/-! The debug unit -/

theorem debugChallenge_done {s : State} (hrng : s.thm.rngFault = false) :
    debugChallenge s = done (drawBytes 32 s).1
      { (drawBytes 32 s).2 with thm := { (drawBytes 32 s).2.thm with dbgNonce := some ((drawBytes 32 s).1, s.cyc + 60000 * msCyc) } } := by
  unfold debugChallenge
  rw [hrng]
  rfl

/-- A level is opened by the token of the first root that may authorise it, for the nonce in force, which is spent (R461-R463). -/
theorem debugUnlock_opened {level ends root : Nat} {token nonce : List Byte} {s : State} (hblank : lcState s ≠ 0) (hretired : lcState s ≠ 4)
    (hlow : 1 ≤ level) (hhigh : level ≤ 2) (hnonce : s.thm.dbgNonce = some (nonce, ends)) (hends : s.cyc < ends)
    (hroot : (debugRoots (lcState s) level).find? (fun r => rootAlive r s && decide (token = debugToken r nonce level s)) = some root) :
    debugUnlock level token s
      = done [] (raiseEv .debugOpened 0 [BitVec.ofNat 8 level, BitVec.ofNat 8 root] (bump .thmDbgOpen 0
          { s with thm := { s.thm with dbgNonce := none }, dbg := { s.dbg with state := .auth level (decide (root = 1)) } })) := by
  unfold debugUnlock
  simp only [hblank, hretired, Nat.not_lt.mpr hhigh, Nat.ne_of_gt hlow, hnonce, Nat.not_le.mpr hends, hroot, or_self, ↓reduceIte]

/-! Where the commands of the two classes stand in the opcode tables -/

theorem carries_powerReq : Carries .powerReq cmdPowerReq := ⟨fun _ _ => rfl, rfl, by decide⟩
theorem carries_powerStatus : Carries .powerStatus cmdPowerStatus := ⟨fun _ _ => rfl, rfl, by decide⟩
theorem carries_nmSet : Carries .nmSet cmdNmSet := ⟨fun _ _ => rfl, rfl, by decide⟩
theorem carries_nmRequest : Carries .nmRequest cmdNmRequest := ⟨fun _ _ => rfl, rfl, by decide⟩
theorem carries_wakeSet : Carries .wakeSet cmdWakeSet := ⟨fun _ _ => rfl, rfl, by decide⟩
theorem carries_wakeCause : Carries .wakeCause cmdWakeCause := ⟨fun _ _ => rfl, rfl, by decide⟩
theorem carries_lampStatus : Carries .lampStatus cmdLampStatus := ⟨fun _ _ => rfl, rfl, by decide⟩
theorem carries_safeRelease : Carries .safeRelease cmdSafeRelease := ⟨fun _ _ => rfl, rfl, by decide⟩
theorem carries_safeOpenSet : Carries .safeOpenSet cmdSafeOpen := ⟨fun _ _ => rfl, rfl, by decide⟩
theorem carries_faultInject : Carries .faultInject cmdFaultInject := ⟨fun _ _ => rfl, rfl, by decide⟩
theorem carries_debugChallenge : Carries .debugChallenge cmdDebugChallenge := ⟨fun _ _ => rfl, rfl, by decide⟩
theorem carries_debugUnlock : Carries .debugUnlock cmdDebugUnlock := ⟨fun _ _ => rfl, rfl, by decide⟩

/-- A well-formed POWER_REQ is answered as `powerRequest` answers it. -/
theorem powerReq_runs {ok : List Byte → State → Prop} {f : List Byte → State → State}
    (h : ∀ p u, p.length = 4 → ok p u → powerRequest (numAt p 0 1) (BitVec.ofNat 16 (numAt p 2 2)) u = done [] (f p u)) :
    Runs .powerReq cmdPowerReq (fun _ p u => p.length = 4 ∧ zeros 1 1 p ∧ ok p u) (fun _ p u => (f p u, [])) :=
  carries_powerReq.runs rfl fun _ p u ⟨hlen, hzero, hok⟩ => ⟨lenIs_of_length hlen, (whenOk_zeros hzero _ _).trans (h p u hlen hok)⟩

/-- A well-formed POWER_REQ that `powerRequest` denies is answered with DENIED. -/
theorem powerReq_denied :
    Declines .powerReq cmdPowerReq .denied
      (fun _ p u => p.length = 4 ∧ zeros 1 1 p ∧ powerRequest (numAt p 0 1) (BitVec.ofNat 16 (numAt p 2 2)) u = failed .denied u) (fun _ u => u) :=
  carries_powerReq.declines (by decide) fun _ _ _ ⟨hlen, hzero, hdenied⟩ => ⟨lenIs_of_length hlen, (whenOk_zeros hzero _ _).trans hdenied⟩

theorem pwrOfCode_unknown {n : Nat} (h : 5 ≤ n) : pwrOfCode n = none := List.getElem?_eq_none h

/-- Settles O22: each clause is the answer of its operation, carried through the checks of R311. -/
theorem powerAndSafetyCommandsRun : Obligations.PowerAndSafetyCommandsRun := by
  unfold Obligations.PowerAndSafetyCommandsRun
  refine ⟨fun m s u ha hr hlen hzero => ?denied, ?doze, ?run, ?trim, ?lightsOut, ?status, ?nmSet, ?nmRequest, ?wakeSet, ?wakeCause, ?lamp, ?release, ?safeOpen,
    ?planted, ?detected, ?challenge, fun nonce ends root => ?unlock⟩
  case denied =>
    have deny (h : powerRequest (numAt (paramsOf m) 0 1) (BitVec.ofNat 16 (numAt (paramsOf m) 2 2)) u = failed .denied u) :
        Completes (.powerReq m) s (refreshKeys (replyTo 11 1 m true .denied [] false u)) := powerReq_denied m s u ha hr ⟨hlen, hzero, h⟩
    refine ⟨fun hcode hbod hneeded => deny ?_, fun hcode hopen => deny ?_, fun hcode => deny (powerRequest_unknown (pwrOfCode_unknown hcode))⟩
    · exact powerRequest_denied (by rw [hcode]; rfl) (powerAllowed_trim_without_bod hbod hneeded)
    · exact powerRequest_denied (by rw [hcode]; rfl) (powerAllowed_doze_under_debug hopen)
  case doze =>
    refine powerReq_runs fun p u _ ⟨hidle, hcode, hmask, hstate, hdebug⟩ => ?_
    rw [hcode, hmask]
    refine powerRequest_granted (target := .doze) rfl (powerAllowed_doze hstate hdebug) hidle fun ⟨hdoze, _⟩ => ?_
    rcases hstate with h | h <;> simp [h] at hdoze
  case run =>
    refine powerReq_runs fun p u _ ⟨hidle, hcode, hmask, hnew⟩ => ?_
    rw [hcode, hmask]
    exact powerRequest_granted (target := .run) rfl rfl hidle hnew
  case trim =>
    refine powerReq_runs fun p u _ ⟨hidle, hcode, hallowed, hnew⟩ => ?_
    rw [hcode]
    exact powerRequest_granted (target := .trim) rfl hallowed hidle hnew
  case lightsOut =>
    refine powerReq_runs fun p u _ ⟨hidle, hcode, hmask, hnets, hdeep, hoff⟩ => ?_
    rw [hmask]
    rcases hcode with h | h <;> rw [h]
    · exact powerRequest_granted (target := .deep) rfl (powerAllowed_lightsOut (.inl rfl) hnets) hidle fun hs => hdeep hs.1
    · exact powerRequest_granted (target := .off) rfl (powerAllowed_lightsOut (.inr rfl) hnets) hidle fun hs => hoff hs.1
  case status => exact carries_powerStatus.runs rfl fun _ p u hp => ⟨lenIs_of_length (by rw [hp]; rfl), rfl⟩
  case nmSet =>
    exact carries_nmSet.runs_recorded rfl rfl fun _ p u ⟨hlen, hbad, hconsent, hasleep⟩ => ⟨lenIs_of_length hlen, nmSet_done hbad hconsent hasleep⟩
  case nmRequest =>
    refine carries_nmRequest.runs rfl fun _ p u ⟨hlen, hhold, hzero⟩ => ⟨lenIs_of_length hlen, ?_⟩
    refine (whenOk_true _ _ _ (by rw [res0_of_zeros hzero, hhold]; rfl)).trans ?_
    rw [hhold]
    exact congrArg (done []) (nmRequest_release _ u)
  case wakeSet =>
    exact carries_wakeSet.runs_recorded rfl rfl fun _ p u ⟨hlen, hch, hzero, hgood⟩ =>
      ⟨lenIs_of_length hlen, whenOk_true _ _ _ (by rw [decide_eq_true hch, res0_of_zeros hzero, hgood]; rfl)⟩
  case wakeCause => exact carries_wakeCause.runs rfl fun _ p u hp => ⟨lenIs_of_length (by rw [hp]; rfl), rfl⟩
  case lamp => exact carries_lampStatus.runs rfl fun _ p u hp => ⟨lenIs_of_length (by rw [hp]; rfl), rfl⟩
  case release =>
    exact carries_safeRelease.runs rfl fun _ p u ⟨hlen, hzero, hsafe, hcool, hquiet, hextest, hclamp, hhighz, hclocks, htest, hfaults⟩ =>
      ⟨lenIs_of_length hlen, (whenOk_zeros hzero _ _).trans (safeRelease_done hsafe hcool hquiet hextest hclamp hhighz hclocks htest hfaults)⟩
  case safeOpen =>
    refine carries_safeOpenSet.runs_recorded rfl rfl fun _ p u ⟨hlen, hports, hsafe, htoken⟩ => ⟨lenIs_of_length hlen, ?_⟩
    exact (whenOk_true _ _ _ (decide_eq_true hports)).trans (congrArg (done []) (setSafeOpen_of_gates_open hsafe htoken))
  case planted =>
    exact carries_faultInject.runs rfl fun _ p u ⟨hlen, hzero, hlc, hcode⟩ =>
      ⟨lenIs_of_length hlen, (whenOk_zeros hzero _ _).trans (inject_planted hlc hcode)⟩
  case detected =>
    exact carries_faultInject.runs rfl fun _ p u ⟨hlen, hzero, hlc, hcode, h5, hC⟩ =>
      ⟨lenIs_of_length hlen, (whenOk_zeros hzero _ _).trans (inject_detected hlc hcode h5 hC)⟩
  case challenge => exact carries_debugChallenge.runs rfl fun _ p u ⟨hp, hrng⟩ => ⟨lenIs_of_length (by rw [hp]; rfl), debugChallenge_done hrng⟩
  case unlock =>
    exact carries_debugUnlock.runs rfl fun _ p u ⟨hlen, hzero, hblank, hretired, hlow, hhigh, hnonce, hends, hroot⟩ =>
      ⟨lenIs_of_length hlen, (whenOk_zeros hzero _ _).trans (debugUnlock_opened hblank hretired hlow hhigh hnonce hends hroot)⟩

end Sys2Proof.Machine
end

section
/-! Proofs/Machine: what a step, the passing of a cycle, reset and the end of a quiet command are. -/

namespace Sys2Proof.Machine
open Sys2Proof.Claims

/-! Steps -/

/-- Settles O1: the queue's front is what a step matches on. -/
theorem stepExecutesFrontCommand : Obligations.StepExecutesFrontCommand := fun _ _ _ => rfl

/-- A single cycle adds 1 + RATE to the Beacon's total, in units of 2^-40 of a cycle (R100). -/
theorem Beacon.pass_one (b : Beacon) :
    b.pass 1 = { b with total := ((Int.ofNat b.total + (2 ^ 40 + b.rate)) % Int.ofNat beaconWrap).toNat } := by
  have h : Int.ofNat 1 * (2 ^ 40 + b.rate) = 2 ^ 40 + b.rate := Int.one_mul _
  rw [Beacon.pass, h]

/-- Settles O2: with an empty queue a step is the passing of one cycle. -/
theorem idleStepLetsOneCyclePass : Obligations.IdleStepLetsOneCyclePass := by
  intro s hidle
  have hstep : step s = .next (pass 1 s) := by
    unfold step
    rw [hidle]
  rw [hstep, pass, Beacon.pass_one]

/-- Every command ends in a settled state: its meaning is `ends` or `endsAt` of an effect. -/
theorem exec_completes (c : Instr) (s : State) : ∃ t, Completes c s t := by
  cases c <;> exact ⟨_, rfl⟩

/-- Settles O3: a cycle passes, or the front command completes. -/
theorem everyStepAdvances : Obligations.EveryStepAdvances := by
  intro s
  unfold Advances step
  cases s.pending with
  | nil => exact ⟨_, rfl⟩
  | cons c rest =>
    obtain ⟨t, h⟩ := exec_completes c { s with pending := rest }
    exact ⟨_, h⟩

/-! Reset -/

/-- The record of a port after reset leaves the port disabled: ENABLE is bit 63, above every field that reset sets (R228). -/
theorem portRecordReset_disabled : ∀ p < 27, (portRecordReset p).getLsbD 63 = false := by decide

/-- A window after reset is disabled (R342). -/
theorem windowReset_disabled : windowReset.getLsbD 127 = false := by decide

/-- Settles O4: reset sets the count of boots alone, and every table reads its reset entry. -/
theorem resetStateAsStated : Obligations.ResetStateAsStated := by
  refine ⟨rfl, rfl, rfl, rfl, fun p hp => ⟨portRecordReset_disabled p hp, rfl⟩, fun _ _ => rfl, fun _ _ => rfl, rfl, rfl, rfl, rfl, fun _ _ => windowReset_disabled, fun _ _ => rfl,
    fun _ _ => rfl, rfl⟩

/-- Settles O7: neither memory lists a byte at reset. -/
theorem memoriesCanonicalAtReset : Obligations.MemoriesCanonicalAtReset := by
  obtain ⟨hring, hdesc⟩ := reset_memories_empty
  unfold Obligations.MemoriesCanonicalAtReset memoriesOk
  rw [hring, hdesc]
  rfl

/-! The end of a quiet command -/

theorem quiet_iff (s : State) : quiet s = true ↔
    s.faults = [] ∧ s.raised = [] ∧ s.events = [] ∧ s.yel.waiting = none ∧ s.yel.queue = [] ∧ s.yel.parked = [] ∧ s.twin.mode ≠ 1 := by
  simp [quiet, and_assoc]

theorem reactFaults_of_no_faults {s : State} (h : s.faults = []) : reactFaults s = s := if_pos (by simp [h])

theorem serveWaiting_of_none_waiting {s : State} (hw : s.yel.waiting = none) (hq : s.yel.queue = []) : serveWaiting s = s := by
  unfold serveWaiting
  simp [hw, hq]

theorem serveParked_of_none_parked {s : State} (h : s.yel.parked = []) : serveParked s = s := if_pos (.inl (by simp [h]))

theorem leaveRelinquished_outside_pair {s : State} (h : s.twin.mode ≠ 1) : leaveRelinquished s = s := if_neg fun hr => h hr.1

theorem statusTx_outside_pair {s : State} (h : s.twin.mode ≠ 1) (mask : BitVec 16) : statusTx mask s = s := if_pos (.inl (by simp [twinRuns, h]))

/-- With no events left, a release of events leaves the state. -/
theorem releaseEvents_of_no_events {s : State} (h : s.events = []) (p : Ev → Bool) (act : Ev × List Byte → State → State) : releaseEvents p act s = s := by
  have hs : { s with events := [] } = s := h ▸ rfl
  unfold releaseEvents
  rw [h]
  exact hs

theorem stampEvents_of_none_raised {s : State} (h : s.raised = []) : stampEvents s = s := if_pos (by simp [h])

theorem deliverAll_of_no_events {s : State} (hr : s.raised = []) (he : s.events = []) : deliverAll s = s := by
  unfold deliverAll
  simp only [stampEvents_of_none_raised hr, releaseEvents_of_no_events he, ite_self]

/-- Settles O5: each part of settling finds nothing to do. -/
theorem settleLeavesQuietStateAlone : Obligations.SettleLeavesQuietStateAlone := by
  intro s h
  obtain ⟨hf, hr, he, hw, hq, hp, ht⟩ := (quiet_iff s).mp h
  unfold settle
  rw [reactFaults_of_no_faults hf, serveWaiting_of_none_waiting hw hq, serveParked_of_none_parked hp, reactFaults_of_no_faults hf,
    leaveRelinquished_outside_pair ht, statusTx_outside_pair ht, deliverAll_of_no_events hr he]

/-! Commands that are messages -/

/-- Settles O25: the arm of each message hands it, with its class and opcode, to the service. -/
theorem messagesReachTheService : Obligations.MessagesReachTheService := by
  intro c a s h
  cases c <;> cases h <;> rfl

end Sys2Proof.Machine
end

section
/-! Proofs/Messages: numbers in byte strings, a message's bytes read back (R310), its checks in their order (R311), replies (R312, R313), the service's timers (R318, R324) and MSPI (R320). -/

namespace Sys2Proof.Machine
open Sys2Proof.Claims

theorem if_or_same {α : Type} (p q : Prop) [Decidable p] [Decidable q] (x y : α) : (if p ∨ q then x else y) = if p then x else if q then x else y := by
  by_cases hp : p
  · rw [if_pos (.inl hp), if_pos hp]
  · rw [if_neg hp]; simp only [hp, false_or]

/-! Numbers in byte strings -/

theorem foldl_bytes (a : Nat) (bs : List Byte) : bs.foldl (fun a b => a * 256 + b.toNat) a = a * 256 ^ bs.length + beNat bs := by
  unfold beNat
  induction bs generalizing a with
  | nil => simp
  | cons b t ih =>
    simp only [List.foldl_cons, List.length_cons]
    rw [ih, ih (0 * 256 + b.toNat), Nat.pow_succ']
    simp only [Nat.zero_mul, Nat.zero_add, Nat.add_mul, Nat.mul_assoc, Nat.add_assoc]

theorem beNat_cons (b : Byte) (bs : List Byte) : beNat (b :: bs) = b.toNat * 256 ^ bs.length + beNat bs := by
  have h := foldl_bytes (0 * 256 + b.toNat) bs
  simpa only [beNat, List.foldl_cons, Nat.zero_mul, Nat.zero_add] using h

/-- The bytes of a number hold it as far as they reach (R10). -/
theorem beNat_natBytes (n v : Nat) : beNat (natBytes n v) = v % 256 ^ n := by
  induction n with
  | zero => exact (Nat.mod_one v).symm
  | succ n ih =>
    rw [natBytes, beNat_cons, ih, natBytes_length, BitVec.toNat_ofNat, Nat.pow_succ 256 n, Nat.mod_mul, Nat.mul_comm, Nat.add_comm]

/-- A number at the front of a byte string. -/
theorem numAt_front (n v : Nat) (r : List Byte) : numAt (natBytes n v ++ r) 0 n = v % 256 ^ n := by
  unfold numAt
  simp [beNat_natBytes]

/-- A number behind the first `m` bytes of a byte string. -/
theorem numAt_behind {m off : Nat} (v n : Nat) (r : List Byte) (h : m ≤ off) : numAt (natBytes m v ++ r) off n = numAt r (off - m) n := by
  have hdrop : (natBytes m v ++ r).drop off = r.drop (off - m) := by
    rw [List.drop_append, List.drop_eq_nil_of_le (by rwa [natBytes_length]), natBytes_length, List.nil_append]
  unfold numAt
  rw [hdrop, List.length_append, natBytes_length]
  congr 3
  omega

theorem ofNat_toNat_mod {w n : Nat} (x : BitVec w) (h : 256 ^ n = 2 ^ w) : BitVec.ofNat w (x.toNat % 256 ^ n) = x := by
  rw [h, Nat.mod_eq_of_lt x.isLt, BitVec.ofNat_toNat, BitVec.setWidth_eq]

/-! A message's bytes -/

/-- Each field of the header stands at its place in the bytes of a message (R310). -/
theorem messageBytes_fields {a : Received} (hcls : a.cls < 256) (hop : a.opcode < 65536) :
    (messageBytes a).getD 0 0 = a.msg.b0 ∧ numAt (messageBytes a) 1 1 = a.cls ∧ numAt (messageBytes a) 2 2 = a.opcode
    ∧ BitVec.ofNat 16 (numAt (messageBytes a) 4 2) = a.msg.tag ∧ BitVec.ofNat 16 (numAt (messageBytes a) 6 2) = a.msg.plen
    ∧ BitVec.ofNat 32 (numAt (messageBytes a) 8 4) = a.msg.seq ∧ BitVec.ofNat 16 (numAt (messageBytes a) 12 2) = a.msg.stat
    ∧ BitVec.ofNat 16 (numAt (messageBytes a) 14 2) = a.msg.res := by
  have hb0 : natBytes 1 a.msg.b0.toNat = [a.msg.b0] := by simp [natBytes]
  simp (discharger := decide) only [messageBytes, List.append_assoc, numAt_behind, numAt_front, Nat.reduceSub]
  refine ⟨by rw [hb0]; rfl, Nat.mod_eq_of_lt hcls, Nat.mod_eq_of_lt hop, ofNat_toNat_mod _ (by decide), ofNat_toNat_mod _ (by decide), ofNat_toNat_mod _ (by decide),
    ofNat_toNat_mod _ (by decide), ofNat_toNat_mod _ (by decide)⟩

/-- What follows the header is the body. -/
theorem messageBytes_body (a : Received) : (messageBytes a).drop 16 = a.msg.body := List.drop_left' (by simp only [List.length_append, natBytes_length])

theorem messageBytes_length (a : Received) : (messageBytes a).length = 16 + a.msg.body.length := by
  simp only [messageBytes, List.length_append, natBytes_length]

/-- Settles O26: the header's fields stand at their places, and the body follows them. -/
theorem messageBytesReadBack : Obligations.MessageBytesReadBack := by
  intro a s hcls hop
  have hlong : ¬ (messageBytes a).length < 16 := by rw [messageBytes_length]; omega
  obtain ⟨hb0, hc, ho, htag, hplen, hseq, hstat, hres⟩ := messageBytes_fields hcls hop
  refine ⟨messageBytes_length a, ?_⟩
  unfold receiveRaw
  rw [if_neg hlong]
  simp only [hb0, hc, ho, htag, hplen, hseq, hstat, hres, messageBytes_body]

/-! The checks of a message -/

theorem leaveDoze_of_awake {s : State} (h : s.pwr.state ≠ .doze) : leaveDoze s = s := if_pos h

theorem awake_of_keeperRuns {s : State} (h : keeperRuns s = true) : s.pwr.state ≠ .doze := by
  simp only [keeperRuns, Bool.and_eq_true, bne_iff_ne] at h
  exact h.2

/-- What a running service does with a message: one that must wait stays with its transport, another is checked (R286, R322, R333, R488). -/
theorem receiveMsg_running {a : Received} {s : State} (hrun : keeperRuns s = true) (hrec : s.kpr.recovery = false ∨ transportOf a.msg.via = .mspi) :
    receiveMsg a s = if mustWait a.msg.via s ∨ laneFull a s then parkMsg a.msg.via (messageBytes a) s else checkMsg a s := by
  have hawake := awake_of_keeperRuns hrun
  have hserves : ¬ ((!(keeperRuns s)) = true ∨ (s.kpr.recovery = true ∧ transportOf a.msg.via ≠ .mspi)) := by
    rcases hrec with h | h <;> simp [hrun, h]
  unfold receiveMsg
  simp only [hawake, false_and, ↓reduceIte, leaveDoze_of_awake hawake, if_neg hserves]

section
variable {a : Received} {s : State}

theorem checkMsg_stray (h : hdrBit a.msg 3 = true ∨ hdrBit a.msg 0 = true) :
    checkMsg a s = bump .kprCmdStray (transportIx (transportOf a.msg.via)) s := if_pos h

theorem checkMsg_badOpcode (hs : ¬ (hdrBit a.msg 3 = true ∨ hdrBit a.msg 0 = true))
    (h : a.msg.b0.toNat / 16 ≠ 1 ∨ hdrBit a.msg 1 = true ∨ a.msg.stat ≠ 0 ∨ a.msg.res ≠ 0) : checkMsg a s = refuseMsg a .badOpcode s :=
  (if_neg hs).trans (if_pos h)

/-- A message whose header is in order is checked for its length (R311). -/
theorem checkMsg_length (hs : ¬ (hdrBit a.msg 3 = true ∨ hdrBit a.msg 0 = true))
    (hb : ¬ (a.msg.b0.toNat / 16 ≠ 1 ∨ hdrBit a.msg 1 = true ∨ a.msg.stat ≠ 0 ∨ a.msg.res ≠ 0)) :
    checkMsg a s = if 4096 < a.msg.plen.toNat ∨ a.msg.body.length ≠ a.msg.plen.toNat + (if hdrBit a.msg 2 then 16 else 0) then refuseMsg a .lenRange s
      else if locked (transportOf a.msg.via) s ∧ !(exemptNow a s) then bump .kprCmdLockoutDrop (transportIx (transportOf a.msg.via)) s else admitMsg a s := by
  exact (if_neg hs).trans ((if_neg hb).trans (if_or_same ..).symm)

end

/-- A command that is a message completes as the service does with it. -/
theorem completes_message {c : Instr} {a : Received} {s t : State} (hc : carried c = some a) (h : receiveMsg a s = t) : Completes c s t :=
  h ▸ messagesReachTheService c a s hc

/-- Settles O27: each check is a branch of the service, taken where those before it pass. -/
theorem headerChecksInOrder : Obligations.HeaderChecksInOrder := by
  refine ⟨fun v bs s hshort hrun => ?runt, fun c a s hc hrun hrec => ?_⟩
  case runt =>
    unfold receiveRaw
    rw [if_pos hshort, if_neg (by simp [hrun])]
  have hmsg := receiveMsg_running hrun hrec
  have hchecked (hw : ¬ (mustWait a.msg.via s = true ∨ laneFull a s = true)) : receiveMsg a s = checkMsg a s := hmsg.trans (if_neg hw)
  refine ⟨fun hw => ?wait, fun hw hs => ?stray, fun hw hs hb => ?bad, fun hw hs hb hl => ?long⟩
  case wait => exact completes_message hc (hmsg.trans (if_pos hw))
  case stray => exact completes_message hc ((hchecked hw).trans (checkMsg_stray hs))
  case bad => exact completes_message hc ((hchecked hw).trans (checkMsg_badOpcode hs hb))
  case long => exact completes_message hc ((hchecked hw).trans ((checkMsg_length hs hb).trans (if_pos hl)))

/-- Without a token a message is answered BUSY (R323). -/
theorem admitMsg_no_token {a : Received} {s : State} (h : hasToken (transportOf a.msg.via) s = false) :
    admitMsg a s = refuseMsg a .busy (bump .kprCmdRate (transportIx (transportOf a.msg.via)) s) := if_pos (by simp [h])

/-- With 64 commands outstanding a message is answered BUSY (R322). -/
theorem admitMsg_busy {a : Received} {s : State} (ht : hasToken (transportOf a.msg.via) s = true) (h : 64 ≤ (getTrans (transportOf a.msg.via) s).outstanding) :
    admitMsg a s = refuseMsg a .busy (bump .kprCmdBusy (transportIx (transportOf a.msg.via)) (tokenTaken a s)) := by
  rw [← tokenTaken_outstanding] at h
  exact (if_neg (by simp [ht])).trans (if_pos h)

/-- Settles O28: with checks 1 to 5 passed, each later check is a branch of the service in its turn. -/
theorem admissionChecksInOrder : Obligations.AdmissionChecksInOrder := by
  intro c a s hc hrun hrec hwait hlane hver h3 h1 h0 hstat hres hplen hlen
  have hchecked : receiveMsg a s = if locked (transportOf a.msg.via) s ∧ !(exemptNow a s) then bump .kprCmdLockoutDrop (transportIx (transportOf a.msg.via)) s else admitMsg a s :=
    calc receiveMsg a s = checkMsg a s := (receiveMsg_running hrun hrec).trans (if_neg (by simp [hwait, hlane]))
      _ = _ := checkMsg_length (by simp [h3, h0]) (by simp [hver, h1, hstat, hres])
      _ = _ := if_neg (by rintro (h | h); exact Nat.not_lt.mpr hplen h; exact h hlen)
  have hadmit (hd : ¬ (locked (transportOf a.msg.via) s = true ∧ exemptNow a s = false)) : receiveMsg a s = admitMsg a s :=
    hchecked.trans (if_neg (by simpa using hd))
  refine ⟨fun hd => ?dropped, fun hd ht => ?rate, fun hd ht ho => ?busy, fun hd ht ho hauth => ?trailer, fun hd ht ho hauth => ?sequence⟩
  case dropped => exact completes_message hc (hchecked.trans (if_pos (by simpa using hd)))
  case rate => exact completes_message hc ((hadmit hd).trans (admitMsg_no_token ht))
  case busy => exact completes_message hc ((hadmit hd).trans (admitMsg_busy ht ho))
  case trailer => exact completes_message hc ((hadmit hd).trans ((admitMsg_of_authenticate a s ht ho).1 hauth))
  case sequence => exact completes_message hc ((hadmit hd).trans ((admitMsg_of_authenticate a s ht ho).2 hauth))

/-! Execution -/

section
variable {a : Accepted} {c : Cmd} {u : State}

theorem execute_unknown (h : cmdOf a.cls a.opcode = none) : execute a u = replyTo a.cls a.opcode a.msg true .badOpcode [] false u := by
  unfold execute
  rw [h]

theorem execute_notInState (hc : cmdOf a.cls a.opcode = some c) (h : allowed c (paramsOf a.msg) u = false) :
    execute a u = replyTo a.cls a.opcode a.msg true .notInState [] false u := by
  unfold execute
  simp only [hc, h, Bool.not_false, ↓reduceIte]

theorem execute_lenRange (hc : cmdOf a.cls a.opcode = some c) (h : allowed c (paramsOf a.msg) u = true) (hl : c.len (paramsOf a.msg) = false) :
    execute a u = replyTo a.cls a.opcode a.msg true .lenRange [] false u := by
  unfold execute
  simp only [hc, h, hl, Bool.not_true, Bool.not_false, Bool.false_eq_true, ↓reduceIte]

/-- Outside a whole-unit pair a command is answered with what it executed to, at once (R312); SET_CMD_KEY's reply is its own. -/
theorem finish_answers (hc : cmdOf a.cls a.opcode = some c) (hp : pairActive u = false) (hk : ¬ (a.cls = 1 ∧ a.opcode = 3)) :
    finish a u = refreshKeys (replyTo a.cls a.opcode a.msg true (runCmd c a.msg.via (paramsOf a.msg) u).status (runCmd c a.msg.via (paramsOf a.msg) u).reply false
      (runCmd c a.msg.via (paramsOf a.msg) u).st) := by
  unfold finish sendResult
  simp only [hc, hp, Bool.false_eq_true, false_and, and_false, ↓reduceIte, hk]

end

/-- Settles O29: the branches of execution, in their order. -/
theorem executionChecksInOrder : Obligations.ExecutionChecksInOrder := by
  refine fun a u => ⟨execute_unknown, fun c hc => ⟨execute_notInState hc, execute_lenRange hc, execute_runs a u c hc, fun hr hl hp hk => ?_⟩⟩
  exact (execute_runs a u c hc hr hl).trans (finish_answers hc hp hk)

/-! Replies -/

theorem headerBytes_length (b0 cls opcode tag plen seq status : Nat) : (headerBytes b0 cls opcode tag plen seq status).length = 16 := by
  simp only [headerBytes, List.length_append, natBytes_length]

/-- Each field of a reply's header stands at its place (R310, R312). -/
theorem headerBytes_fields (b0 cls opcode tag plen seq status : Nat) (r : List Byte) :
    let b := headerBytes b0 cls opcode tag plen seq status ++ r
    numAt b 0 1 = b0 % 256 ∧ numAt b 1 1 = cls % 256 ∧ numAt b 2 2 = opcode % 65536 ∧ numAt b 4 2 = tag % 65536 ∧ numAt b 6 2 = plen % 65536
    ∧ numAt b 8 4 = seq % 4294967296 ∧ numAt b 12 2 = status % 65536 ∧ numAt b 14 2 = 0 := by
  simp (discharger := decide) only [headerBytes, List.append_assoc, numAt_behind, numAt_front, Nat.reduceSub, and_self]
  all_goals exact ⟨rfl, rfl, rfl, rfl, rfl, rfl, rfl, rfl⟩

theorem trailer_length (key : Option (List Byte)) (bs : List Byte) : (trailer key bs).length = if key.isSome then 16 else 0 := by
  cases key with
  | none => rfl
  | some k => simp [trailer]

/-- Every status has a code of two bytes (R314). -/
theorem statusCode_lt (e : Status) : e.code < 65536 := by
  cases e <;> decide

/-- Settles O30: a reply is a header with the command's fields, the result and the trailer under the key. -/
theorem replyRepeatsItsCommand : Obligations.ReplyRepeatsItsCommand := by
  intro cls opcode m st result key hcls hop hres
  dsimp only
  rw [replyBytes, List.append_assoc]
  obtain ⟨h0, h1, h2, h4, h6, h8, h12, h14⟩ :=
    headerBytes_fields (0x18 + (if key.isSome then 4 else 0) + (if false then 2 else 0)) cls opcode m.tag.toNat result.length m.seq.toNat st.code
      (result ++ trailer key (headerBytes (0x18 + (if key.isSome then 4 else 0) + (if false then 2 else 0)) cls opcode m.tag.toNat result.length m.seq.toNat st.code ++ result))
  refine ⟨h0.trans ?_, h1.trans (Nat.mod_eq_of_lt hcls), h2.trans (Nat.mod_eq_of_lt hop), h4.trans (Nat.mod_eq_of_lt m.tag.isLt), h6.trans (Nat.mod_eq_of_lt hres),
    h8.trans (Nat.mod_eq_of_lt m.seq.isLt), h12.trans (Nat.mod_eq_of_lt (statusCode_lt st)), h14, ?_, ?_⟩
  · split <;> rfl
  · exact (congrArg (List.take result.length) (List.drop_left' (headerBytes_length ..))).trans List.take_left
  · rw [List.length_append, List.length_append, headerBytes_length, trailer_length]
    omega

/-! The service's timers -/

theorem mutatorTimeout_ends {u : State} {a : Accepted} {w : WaitFor} {ends : Nat} (hw : u.yel.waiting = some (a, w, ends)) (hacc : ∀ d, w ≠ .access d)
    (hends : ends ≤ u.cyc) (hover : waitOver w u = false) : mutatorTimeout u = endWaiting u := by
  unfold mutatorTimeout
  rw [hw]
  cases w with
  | access d => exact absurd rfl (hacc d)
  | _ => exact if_pos ⟨hends, by simp [hover]⟩

/-- A command that may wait on keeps waiting (R324). -/
theorem mutatorTimeout_idle {u : State} (h : ∀ a w ends, u.yel.waiting = some (a, w, ends) → (∃ d, w = .access d) ∨ u.cyc < ends ∨ waitOver w u = true) :
    mutatorTimeout u = u := by
  unfold mutatorTimeout
  split
  · rfl
  · next a w ends hacc hw =>
    rcases h a w ends hw with ⟨d, hd⟩ | h | h
    · exact absurd hd (hacc d)
    · exact if_neg fun hc => Nat.not_le.mpr h hc.1
    · exact if_neg fun hc => by simp [h] at hc
  · rfl

theorem endWaiting_of_waiting {u : State} {a : Accepted} {w : WaitFor} {ends : Nat} (hw : u.yel.waiting = some (a, w, ends)) :
    endWaiting u = afterPause (replyTo a.cls a.opcode a.msg true .timeout [] false (setYel { u.yel with waiting := none } u)) := by
  unfold endWaiting
  rw [hw]

/-- Settles O32: the two rows' effects, at the time that their rows bring. -/
theorem serviceTimersRun : Obligations.ServiceTimersRun := by
  refine ⟨fun at_ tr s => ?lockout, fun at_ ends a w s => ?timeout, fun at_ s => ?idle⟩
  case lockout => exact completes_at (act := lockoutEnd tr) rfl rfl
  case timeout =>
    intro u hw hacc hends hover
    exact completes_at (act := mutatorTimeout) rfl ((mutatorTimeout_ends hw hacc hends hover).trans (endWaiting_of_waiting hw))
  case idle =>
    intro u h
    exact completes_at (act := mutatorTimeout) rfl (mutatorTimeout_idle h)

/-! MSPI -/

/-- A module in DOZE whose state before it is DEEP, which no run of the module brings about. -/
def dozeBeforeDeep : State := { State.reset with pwr := { State.reset.pwr with state := .doze, before := .deep } }

/-- Once woken, nothing is left to do there, and no message can be taken. -/
theorem dozeBeforeDeep_woken :
    mspiReady (leaveDoze dozeBeforeDeep) = false ∧ quiet (leaveDoze dozeBeforeDeep) = true ∧ (leaveDoze dozeBeforeDeep).pwr.state = .deep
    ∧ (leaveDoze dozeBeforeDeep).counters = [] := by
  decide +kernel

/-- An MSPI instruction takes its effect, after it has woken DOZE, while KEEP is on (R320, R392, R472). -/
theorem atMspi_awake (act : State → State) {s : State} (h : mechanismsOn s = true) : atMspi act s = act (leaveDoze s) := if_pos h

/-- A WRITE to a module in DEEP is lost, uncounted. -/
theorem writeMspi_deep (bs : List Byte) {s : State} (h : s.pwr.state = .deep) : writeMspi bs s = s := if_pos (.inl h)

theorem quiet_bump (c : Ctr) (i : Nat) (s : State) : quiet (bump c i s) = quiet s := rfl

/-- Refutes O33: the statement's states include one that holds DOZE after DEEP; there MSPI wakes the module into DEEP, where a WRITE that cannot be taken is not counted. -/
theorem not_mspiInstructionsRun : ¬ Obligations.MspiInstructionsRun := by
  rintro ⟨h, -⟩
  obtain ⟨hbusy, hquiet, hdeep, hcounters⟩ := dozeBeforeDeep_woken
  have hon : mechanismsOn dozeBeforeDeep = true := by decide +kernel
  obtain ⟨-, -, -, -, hcounted, -⟩ := h dozeBeforeDeep hon
  have hc : exec (.mspiWrite []) dozeBeforeDeep = ends (bump .kprCmdBusy 2 (leaveDoze dozeBeforeDeep)) := hcounted hbusy []
  have hlost : exec (.mspiWrite []) dozeBeforeDeep = ends (leaveDoze dozeBeforeDeep) :=
    congrArg ends ((atMspi_awake (writeMspi []) hon).trans (writeMspi_deep [] hdeep))
  have hsettled : settle (leaveDoze dozeBeforeDeep) = settle (bump .kprCmdBusy 2 (leaveDoze dozeBeforeDeep)) := Host.Outcome.next.inj (hlost.symm.trans hc)
  rw [settleLeavesQuietStateAlone _ hquiet, settleLeavesQuietStateAlone _ ((quiet_bump .kprCmdBusy 2 _).trans hquiet)] at hsettled
  have hsame := congrArg (count .kprCmdBusy 2) hsettled
  rw [bump, count_bumpBy 1 _ (by decide) (by decide)] at hsame
  simp [count, hcounters, mapGet] at hsame

end Sys2Proof.Machine
end

section
/-! Proofs/TestPort: the instructions that the test port loads, and what the debugger's actions do (R431, R461, R464-R466). -/

namespace Sys2Proof.Machine
open Sys2Proof.Claims

/-- What Update-IR leaves in a powered test port: the code where it may be loaded, else BYPASS, counted (R464, R465). -/
def irLoaded (code : Byte) (ok : Bool) (s : State) : State :=
  if ok then { s with dbg := { s.dbg with ir := code } } else bump .thmDbgRefused 0 { s with dbg := { s.dbg with ir := 0xFF } }

section
variable {s : State} (h : mechanismsOn s = true)
include h

theorem loadIr_powered (code : Byte) (ok : Bool) : loadIr code ok s = irLoaded code ok s := if_neg (by simp [h])

theorem loadCode_listed {n : Nat} {ok : Bool} (hn : irPermitted n s = some ok) : loadCode n s = irLoaded (BitVec.ofNat 8 n) ok s := by
  unfold loadCode
  rw [hn]
  exact loadIr_powered h _ _

theorem loadCode_unlisted {n : Nat} (hn : irPermitted n s = none) : loadCode n s = irLoaded 0xFF true s := by
  unfold loadCode
  rw [hn]
  exact loadIr_powered h _ _

/-- A register is selected and shifted out by one row (R464, R466). -/
theorem shiftOut_loaded (v : Nat) (code : Byte) : shiftOut v (irLoaded code true s) = emit (.testData (natBytes 4 v)) { s with dbg := { s.dbg with ir := code } } := if_pos h

end

/-- FACTORY has 16 codes (R464). -/
theorem irPermitted_factory (c : Fin 16) (s : State) : irPermitted (0x20 + c.val) s = some (decide (lcState s = 0)) := by
  unfold irPermitted
  simp (disch := omega) only [if_neg, if_pos]

/-- The codes that R464 gives to no instruction. -/
theorem irPermitted_none {n : Nat} (s : State) (h : (5 ≤ n ∧ n ≤ 0x0F) ∨ (0x13 ≤ n ∧ n ≤ 0x1F) ∨ (0x30 ≤ n ∧ n < 0xFF)) : irPermitted n s = none := by
  unfold irPermitted
  simp (disch := omega) only [if_neg]

theorem loadCode_bypass {c : Byte} {s : State} (hon : mechanismsOn s = true)
    (h : c = 0xFF ∨ (0x05 ≤ c.toNat ∧ c.toNat ≤ 0x0F) ∨ (0x13 ≤ c.toNat ∧ c.toNat ≤ 0x1F) ∨ 0x30 ≤ c.toNat) : loadCode c.toNat s = irLoaded 0xFF true s := by
  by_cases hc : c = 0xFF
  · subst hc
    exact loadCode_listed hon rfl
  · have hlt : c.toNat < 0xFF := by
      have hne : c.toNat ≠ 0xFF := fun h => hc (BitVec.eq_of_toNat_eq h)
      omega
    have hcode := h.resolve_left hc
    exact loadCode_unlisted hon (irPermitted_none s (by omega))

theorem pinsPermitted_eq (s : State) :
    pinsPermitted s = (decide (lcState s = 0) || (s.lamp.safe && (match s.dbg.state with | .auth 2 _ => true | _ => false))) := by
  unfold pinsPermitted
  rfl

theorem debugOpen_eq (s : State) : debugOpen s = (decide (lcState s = 0) || decide (s.dbg.state ≠ .closed)) := by
  rw [Bool.eq_iff_iff]
  simp [debugOpen]

/-- Settles O34: each instruction loads its code under its own condition. -/
theorem testPortLoadsPermittedInstructions : Obligations.TestPortLoadsPermittedInstructions := by
  intro s hon
  have run {c : Instr} {n : Nat} {ok : Bool} {t : State} (hc : exec c s = ends (loadCode n s)) (hn : irPermitted n s = some ok)
      (ht : irLoaded (BitVec.ofNat 8 n) ok s = t) : Completes c s t := by
    rw [loadCode_listed hon hn, ht] at hc
    exact hc
  refine ⟨run rfl rfl ?_, run rfl rfl ?_, run rfl rfl ?_, run rfl rfl rfl, run rfl rfl ?_, fun c => run rfl (irPermitted_factory c s) rfl, fun c hc => ?bypass, ?reset⟩
  · rw [pinsPermitted_eq]
    rfl
  · rw [pinsPermitted_eq]
    rfl
  · rw [pinsPermitted_eq]
    rfl
  · rw [debugOpen_eq]
    rfl
  case bypass =>
    have h : exec (.bypass c) s = ends (loadCode c.toNat s) := rfl
    rw [loadCode_bypass hon hc] at h
    exact h
  case reset => exact congrArg ends (loadIr_powered hon 0x01 true)

/-! The debugger -/

/-- What each action of a debugger does to a running main core (R431). -/
def debugEffect (a : DebugAct) (s : State) : State :=
  let t : State := { s with dbg := { s.dbg with busy := false } }
  match a with
  | .halt => setKpr { s.kpr with dbgHalt := true } t
  | .step => t
  | .resume => setKpr { s.kpr with dbgHalt := false } t
  | .readReg r => emit (.testData (natBytes 4 (mapGet 0 s.kpr.regs r).toNat)) t
  | .writeReg r v => setKpr { s.kpr with regs := mapSet 0 s.kpr.regs r v } t
  | .readTcm i => emit (.testData (natBytes 4 (mapGet 0 s.kpr.tcm i).toNat)) t
  | .writeTcm i v => setKpr { s.kpr with tcm := mapSet 0 s.kpr.tcm i v } t
  | .breakpoint i => setKpr { s.kpr with breakpoints := s.kpr.breakpoints ++ [i] } t

section
variable {s : State}

theorem closeDebug_of_auth {l : Nat} {v : Bool} (hlc : lcState s ≠ 0) (hst : s.dbg.state = .auth l v) :
    closeDebug s = raiseEv .debugClosed 0 [] { s with dbg := { s.dbg with state := .closed } } := by
  simp [closeDebug, hlc, hst]

theorem debugLock_closes {l : Nat} {v : Bool} (hon : mechanismsOn s = true) (hlc : lcState s ≠ 0) (hst : s.dbg.state = .auth l v) :
    debugLock s = raiseEv .debugClosed 0 [] { s with dbg := { s.dbg with ir := 0x11, state := .closed } } := by
  have hir : loadIr 0x11 (decide (lcState s ≠ 0)) s = { s with dbg := { s.dbg with ir := 0x11 } } := by
    rw [loadIr_powered hon, decide_eq_true hlc]
    rfl
  have hlc' : lcState { s with dbg := { s.dbg with ir := 0x11 } } ≠ 0 := hlc
  unfold debugLock
  rw [hir, hon, decide_eq_true hlc]
  exact closeDebug_of_auth hlc' hst

/-- An action under DBG_ACCESS, with debug open and the Keeper out of reset, takes its effect and is no longer pending (R431). -/
theorem debugAct_runs (hon : mechanismsOn s = true) (hir : s.dbg.ir = 0x12) (hopen : debugOpen s = true) (hup : s.kpr.up = true) (a : DebugAct) :
    debugAct a s = debugEffect a s := by
  unfold debugAct
  rw [if_neg (by simp [hir, hon]), if_neg (by simp [hup]), if_neg (by simp [hopen])]
  cases a <;> rfl

theorem debugAct_outside_access (hir : s.dbg.ir ≠ 0x12) (a : DebugAct) : debugAct a s = s := if_pos (.inl hir)

end

theorem completes_debugAction {a : DebugAct} {s t : State} (h : debugAct a s = t) : Completes (.debugAction a) s t := congrArg ends h

/-- Settles O35: the registers that are shifted out, the lock, and the actions one by one. -/
theorem debugInstructionsRun : Obligations.DebugInstructionsRun := by
  intro s hon
  have hcode : loadCode 0x01 s = irLoaded 0x01 true s := loadCode_listed hon rfl
  have hstat : loadCode 0x10 s = irLoaded 0x10 true s := loadCode_listed hon rfl
  refine ⟨?idcode, ?status, fun l v hlc hst => ?lock, fun hir hopen hup => ?actions, fun hir a => ?outside⟩
  case idcode =>
    have h : exec .idcode s = ends (shiftOut idcodeValue (loadCode 0x01 s)) := rfl
    rw [hcode, shiftOut_loaded hon] at h
    exact h
  case status =>
    have h : exec .dbgStatus s = ends (shiftOut (dbgStatus s) (loadCode 0x10 s)) := rfl
    rw [hstat, shiftOut_loaded hon] at h
    exact h
  case lock => exact congrArg ends (debugLock_closes hon hlc hst)
  case actions =>
    have act (a : DebugAct) := debugAct_runs hon hir hopen hup a
    exact ⟨completes_debugAction (act _), completes_debugAction (act _), completes_debugAction (act _), fun _ _ => completes_debugAction (act _),
      fun _ _ => completes_debugAction (act _), fun _ => completes_debugAction (act _), fun _ => completes_debugAction (act _), fun _ => completes_debugAction (act _)⟩
  case outside => exact completes_debugAction (debugAct_outside_access hir a)

end Sys2Proof.Machine
end

section
/-! Proofs/HostRegisters: what host writes to registers, ring control, ring memory and descriptor memory do, and the error log (R338-R374). -/

namespace Sys2Proof.Machine
open Sys2Proof.Claims

/-! Registers -/

/-- PWR_DOMAIN_STOPPED after a write: a bit clears for a named domain that runs again (R368). -/
theorem getLsbD_foldl_cleared (clears : Nat → Bool) (l : List Nat) (m : BitVec 16) (d : Nat) (hd : d < 16) :
    (l.foldl (fun m d => if clears d then m &&& ~~~(BitVec.twoPow 16 d) else m) m).getLsbD d = (m.getLsbD d && !(decide (d ∈ l) && clears d)) := by
  induction l generalizing m with
  | nil => simp
  | cons k l ih =>
    rw [List.foldl_cons, ih]
    by_cases hk : d = k
    · subst hk
      cases clears d <;> simp [hd]
    · have hbit : (if clears k then m &&& ~~~(BitVec.twoPow 16 k) else m).getLsbD d = m.getLsbD d := by
        cases clears k <;> simp [hk, hd]
      simp [hbit, hk]

theorem clearStopped_bits (v : BitVec 32) (s : State) {d : Nat} (hd : d < 16) :
    (clearStopped v s).plk.stopped.getLsbD d = (s.plk.stopped.getLsbD d && !(v.getLsbD d && domainRuns d s)) := by
  refine (getLsbD_foldl_cleared (fun d => v.getLsbD d && domainRuns d s) (List.range 16) s.plk.stopped d hd).trans ?_
  simp [hd]

/-- Settles O36: each register's row is its effect on the Placket. -/
theorem hostRegisterWritesRun : Obligations.HostRegisterWritesRun := by
  intro s hrun
  refine ⟨fun v => completes_atHost rfl hrun rfl, fun v => completes_atHost rfl hrun rfl, fun v => completes_atHost rfl hrun rfl,
    fun v => ⟨(clearStopped v s).plk.stopped, completes_atHost rfl hrun rfl, fun d hd => clearStopped_bits v s hd⟩, fun c v hawake => ?doorbell,
    fun c v => completes_atHost rfl hrun rfl, fun v => completes_atHost rfl hrun rfl, completes_atHost rfl hrun rfl, fun r v => completes_atHost rfl hrun rfl⟩
  refine completes_atHost (act := fun t => ringDoorbell c.val v (leaveDoze t)) rfl hrun ?_
  rw [leaveDoze_of_awake hawake]
  rfl

/-! Ring control -/

section
variable {r : Nat} {v : BitVec 32} {s : State}

/-- A write to ring control that is refused (R373). -/
def CtrlRefused (r : Nat) (v : BitVec 32) (s : State) : Prop :=
  bits v 3 0 < 4 ∨ 12 < bits v 3 0 ∨ (bits v 3 0 ≠ (getRing r s).sizeLog ∧ (getRing r s).stopped = false)

theorem writeRingCtrl_refused (h : CtrlRefused r v s) : writeRingCtrl r v s = logInbound 8 false (0x2000 + 16 * r) 4 s := if_pos (by simpa [CtrlRefused] using h)

/-- A write to ring control that is in order sets SIZE_LOG2 and starts, stops or leaves the ring (R354, R373). -/
theorem writeRingCtrl_taken (h : ¬ CtrlRefused r v s) :
    writeRingCtrl r v s =
      if v.getLsbD 31 = true ∧ (getRing r s).run = false then setRing r { getRing r s with run := true, sizeLog := bits v 3 0, prod := 0, cons := 0, handed := 0 } s
      else if v.getLsbD 31 = false ∧ (getRing r s).run = true then abortRest r (setRing r { getRing r s with run := false, sizeLog := bits v 3 0 } s)
      else setRing r { getRing r s with sizeLog := bits v 3 0 } s := by
  have hstep : writeRingCtrl r v s = _ := if_neg (by simpa [CtrlRefused] using h)
  simpa only [Bool.not_eq_true'] using hstep

end

/-- Settles O38: the three rows of a ring's control write it alike. -/
theorem ringControlRuns : Obligations.RingControlRuns := by
  intro s r v hrun
  have run {c : Instr} {t : State} (hc : exec c s = ends (atHost (writeRingCtrl r.val v) s)) (ht : writeRingCtrl r.val v s = t) : Completes c s t := completes_atHost hc hrun ht
  refine ⟨fun h => run rfl (writeRingCtrl_refused h), fun h hv hx => run rfl ((writeRingCtrl_taken h).trans ?start),
    fun h hv hx => run rfl ((writeRingCtrl_taken h).trans ?stop), fun h hv => run rfl ((writeRingCtrl_taken h).trans ?size)⟩
  case start => rw [if_pos ⟨hv, hx⟩]
  case stop => rw [if_neg (by simp [hx]), if_pos ⟨hv, hx⟩]
  case size => rw [hv, if_neg (by simp), if_neg (by simp)]

/-! A host write is its register's row -/

/-- A word as its four bytes, the lowest first, all enabled (R346). -/
def wordBytes (v : BitVec 32) : List (Byte × Bool) := ((natBytes 4 v.toNat).reverse).map (fun b => (b, true))

theorem leWord_wordBytes (v : BitVec 32) : leWord (wordBytes v) = v := by
  have hbytes : (wordBytes v).map (·.1) = (natBytes 4 v.toNat).reverse := by
    rw [wordBytes, List.map_map]
    exact List.map_id _
  rw [leWord, hbytes, List.reverse_reverse, beNat_natBytes]
  exact ofNat_toNat_mod v (by decide)

theorem hostWrite_word {off : Nat} (hoff : off < 0x100000) (halign : off % 4 = 0) (v : BitVec 32) (s : State) :
    hostWrite .bar0 off (wordBytes v) s = writeReg off v s := by
  have hlen : (wordBytes v).length = 4 := by simp [wordBytes]
  have hall : (wordBytes v).all (·.2) = true := by simp [wordBytes]
  unfold hostWrite
  simp only [hlen, hall, hoff, halign, leWord_wordBytes, and_self, ↓reduceIte]
  rfl

/-- The general host write of a whole word takes the effect of the register's row, where that row's effect is the register's. -/
theorem exec_hostWrite_word {off : Nat} {v : BitVec 32} {s : State} {c : Instr} {act : State → State} (hoff : off < 0x100000) (halign : off % 4 = 0)
    (hc : exec c s = ends (atHost act s)) (hact : ∀ t, writeReg off v (if isDoorbell .bar0 off then leaveDoze t else t) = act t) :
    exec (.hostRegisterWrite .bar0 off (wordBytes v)) s = exec c s := by
  have hfun : (fun t => hostWrite .bar0 off (wordBytes v) (if isDoorbell .bar0 off then leaveDoze t else t)) = act := by
    funext t
    rw [hostWrite_word hoff halign, hact]
  have h : exec (.hostRegisterWrite .bar0 off (wordBytes v)) s
      = ends (atHost (fun t => hostWrite .bar0 off (wordBytes v) (if isDoorbell .bar0 off then leaveDoze t else t)) s) := rfl
  rw [h, hc, hfun]

/-- A register that is no doorbell. -/
theorem exec_hostWrite_reg {off : Nat} {v : BitVec 32} {s : State} {c : Instr} {act : State → State} (hoff : off < 0x100000) (halign : off % 4 = 0)
    (hdoor : ¬ (0x100 ≤ off ∧ off < 0x140 ∧ off % 16 = 0)) (hc : exec c s = ends (atHost act s)) (hact : writeReg off v = act) :
    exec (.hostRegisterWrite .bar0 off (wordBytes v)) s = exec c s := by
  refine exec_hostWrite_word hoff halign hc fun t => ?_
  rw [isDoorbell, decide_eq_false hdoor, Bool.and_false, if_neg Bool.false_ne_true, hact]

/-- The entry of a table of 16-byte entries that a register stands in. -/
theorem entry_of_register (base n : Nat) {k : Nat} (hk : k < 16) : (base + k + 16 * n - base) / 16 = n := by
  omega

section
variable (v : BitVec 32)

/-- The mailbox index registers (R369). -/
theorem writeReg_pair {c : Nat} (hc : c < 4) : writeReg (0x100 + 16 * c) v = ringDoorbell c v ∧ writeReg (0x10C + 16 * c) v = advanceCplCons c v := by
  have h0 : (0x100 + 16 * c - 0x100) / 16 = c := by omega
  have hC : (0x10C + 16 * c - 0x100) / 16 = c := entry_of_register 0x100 c (k := 12) (by decide)
  constructor <;> funext s <;> unfold writeReg <;> simp (disch := omega) only [if_neg, if_pos, h0, hC]

/-- The words of a window (R372). -/
theorem writeReg_window {w : Nat} (hw : w < 16) :
    (∀ k < 3, writeReg (0x1000 + 16 * w + 4 * k) v = stageWindow w k v) ∧ writeReg (0x1000 + 16 * w + 12) v = commitWindow w v := by
  refine ⟨fun k hk => ?_, ?_⟩
  · have hwin : (0x1000 + 16 * w + 4 * k - 0x1000) / 16 = w := by omega
    have hword : (0x1000 + 16 * w + 4 * k) % 16 / 4 = k := by omega
    funext s
    unfold writeReg
    simp (disch := omega) only [if_neg, if_pos, hwin, hword]
  · have hwin : (0x1000 + 16 * w + 12 - 0x1000) / 16 = w := by omega
    funext s
    unfold writeReg
    simp (disch := omega) only [if_neg, if_pos, hwin]

/-- The registers of a DMA ring (R373). -/
theorem writeReg_ring {r : Nat} (hr : r < 16) : writeReg (0x2000 + 16 * r) v = writeRingCtrl r v ∧ writeReg (0x2004 + 16 * r) v = writeRingProd r v := by
  have h0 : (0x2000 + 16 * r - 0x2000) / 16 = r := by omega
  have h4 : (0x2004 + 16 * r - 0x2000) / 16 = r := entry_of_register 0x2000 r (k := 4) (by decide)
  constructor <;> funext s <;> unfold writeReg <;> simp (disch := omega) only [if_neg, if_pos, h0, h4]

end

/-- Settles O39: at each register's offset the general write is the register's row. -/
theorem hostWriteIsItsRegistersRow : Obligations.HostWriteIsItsRegistersRow := by
  intro v s
  have single {off : Nat} {c : Instr} {act : State → State} (h : off < 0x100000 ∧ off % 4 = 0 ∧ ¬ (0x100 ≤ off ∧ off < 0x140 ∧ off % 16 = 0))
      (hc : exec c s = ends (atHost act s)) (hact : writeReg off v = act) : exec (.hostRegisterWrite .bar0 off (wordBytes v)) s = exec c s :=
    exec_hostWrite_reg h.1 h.2.1 h.2.2 hc hact
  refine ⟨single (by decide) rfl rfl, single (by decide) rfl rfl, single (by decide) rfl rfl, single (by decide) rfl rfl, single (by decide) rfl rfl,
    fun c => ⟨?doorbell, ?consumer⟩, fun w => ?window, fun r => ?ring⟩
  case doorbell =>
    have hdoor : isDoorbell .bar0 (0x100 + 16 * c.val) = true := by
      rw [isDoorbell, decide_eq_true (by omega)]
      rfl
    refine exec_hostWrite_word (act := fun t => ringDoorbell c.val v (leaveDoze t)) (by omega) (by omega) rfl fun t => ?_
    rw [hdoor, if_pos rfl, (writeReg_pair v c.isLt).1]
  case consumer => exact single (by omega) rfl (writeReg_pair v c.isLt).2
  case window =>
    obtain ⟨hstage, hcommit⟩ := writeReg_window v w.isLt
    exact ⟨fun k => single (by omega) rfl (hstage k.val k.isLt), single (by omega) rfl hcommit, single (by omega) rfl hcommit⟩
  case ring =>
    obtain ⟨hctrl, hprod⟩ := writeReg_ring v r.isLt
    exact ⟨single (by omega) rfl hctrl, single (by omega) rfl hctrl, single (by omega) rfl hctrl, single (by omega) rfl hprod⟩

/-! Ring and descriptor memory -/

/-- What a byte of a memory is after a host write brought `b` to its address: `f` says what an enabled byte leaves there. -/
def byteWritten (f : Byte → Option Byte) (old : Byte) : Option (Byte × Bool) → Byte
  | some (b, true) => (f b).getD old
  | _ => old

/-- A memory after one byte of a host write. -/
def byteStored (f : Nat → Byte → Option Byte) (off : Nat) (b : Byte) (en : Bool) (m : Memory) : Memory :=
  if en then (match f off b with | some v => mapSet 0 m off v | none => m) else m

theorem mapGet_byteStored (f : Nat → Byte → Option Byte) (off : Nat) (b : Byte) (en : Bool) (m : Memory) (a : Nat) :
    mapGet 0 (byteStored f off b en m) a = if a = off then byteWritten (f off) (mapGet 0 m off) (some (b, en)) else mapGet 0 m a := by
  unfold byteStored
  by_cases ha : a = off
  · subst ha
    cases en with
    | false => simp [byteWritten]
    | true => cases hf : f a b <;> simp [byteWritten, hf, mapGet_mapSet_same]
  · cases en with
    | false => simp [ha]
    | true => cases hf : f off b <;> simp [ha, mapGet_mapSet_other]

theorem putBytes_cons (f : Nat → Byte → Option Byte) (off : Nat) (b : Byte) (en : Bool) (bs : List (Byte × Bool)) (m : Memory) :
    putBytes f off ((b, en) :: bs) m = putBytes f (off + 1) bs (byteStored f off b en m) := rfl

/-- A byte of memory after a run of bytes (R338, R346). -/
theorem mapGet_putBytes (f : Nat → Byte → Option Byte) (bs : List (Byte × Bool)) (off : Nat) (m : Memory) (a : Nat) :
    mapGet 0 (putBytes f off bs m) a = if off ≤ a then byteWritten (f a) (mapGet 0 m a) bs[a - off]? else mapGet 0 m a := by
  induction bs generalizing off m with
  | nil => simp [putBytes, byteWritten]
  | cons x bs ih =>
    obtain ⟨b, en⟩ := x
    rw [putBytes_cons, ih, mapGet_byteStored]
    rcases Nat.lt_trichotomy a off with h | rfl | h
    · rw [if_neg (by omega), if_neg (by omega), if_neg (by omega)]
    · rw [if_neg (by omega), if_pos rfl, if_pos (Nat.le_refl _), Nat.sub_self]
      rfl
    · rw [if_pos (by omega), if_neg (by omega), if_pos (by omega), show a - off = (a - (off + 1)) + 1 by omega, List.getElem?_cons_succ]

/-- No byte of a write to ring memory is the module's, so nothing is logged (R350). -/
theorem writeRingMem_free {off : Nat} {bs : List (Byte × Bool)} {s : State} (h : ∀ k < bs.length, ringByteOwned (off + k) s = false) :
    writeRingMem off bs s = setPlk { s.plk with ringMem := putBytes (fun a b => if ringByteOwned a s ∨ ringReserved a then none else some b) off bs s.plk.ringMem } s :=
  if_neg (by simpa using h)

theorem writeDescMem_free {off : Nat} {bs : List (Byte × Bool)} {s : State} (h : ∀ k < bs.length, descOwned ((off + k) / 0x400000) ((off + k) % 0x400000 / 32) s = false) :
    writeDescMem off bs s = setPlk { s.plk with descMem := putBytes (fun a b => if descOwned (a / 0x400000) (a % 0x400000 / 32) s then none
      else some (b &&& BitVec.ofNat 8 (descWordMask (a % 32 / 4) / 256 ^ (a % 4)))) off bs s.plk.descMem } s :=
  if_neg (by simpa using h)

/-- In a run of bytes that is none of the module's, an address that the run covers is not owned. -/
theorem not_owned_of_covered {owned : Nat → Bool} {off n a : Nat} (h : ∀ k < n, owned (off + k) = false) (hle : off ≤ a) (hlt : a - off < n) : owned a = false := by
  have := h _ hlt
  rwa [Nat.add_sub_cancel' hle] at this

section
variable {s : State} {off : Nat} {bs : List (Byte × Bool)} (hrun : domainRuns 14 s = true) (hlo : 1 ≤ bs.length) (hhi : bs.length ≤ 256)
include hrun

/-- A host write outside DOZE is its effect on BAR0 or BAR2. -/
theorem completes_hostWrite {bar : Bar} {t : State} (hawake : s.pwr.state ≠ .doze) (h : hostWrite bar off bs s = t) : Completes (.hostRegisterWrite bar off bs) s t := by
  refine completes_atHost (act := fun u => hostWrite bar off bs (if isDoorbell bar off then leaveDoze u else u)) rfl hrun ?_
  rw [leaveDoze_of_awake hawake, ite_self, h]

omit hrun
include hlo hhi

theorem hostWrite_bar0 (s : State) : hostWrite .bar0 off bs s =
    if off < 0x100000 then (if bs.length = 4 ∧ off % 4 = 0 ∧ bs.all (·.2) then writeReg off (leWord bs) s else logInbound 8 false off bs.length s)
    else if (0x100000 ≤ off ∧ off + bs.length ≤ 0x142000) ∨ (0x200000 ≤ off ∧ off + bs.length ≤ 0x242000) then writeRingMem off bs s
    else logInbound 7 false off bs.length s := if_neg (by omega)

theorem hostWrite_bar2 (s : State) : hostWrite .bar2 off bs s =
    if off / 0x400000 < 16 ∧ off % 0x400000 + bs.length ≤ 0x20000 then writeDescMem off bs s else logInbound 7 true off bs.length s := if_neg (by omega)

end

/-- Settles O40: where a write goes is decided by its offset, its length and its byte enables; in memory each address takes its own byte. -/
theorem hostWritesReachMemoryOrAreLogged : Obligations.HostWritesReachMemoryOrAreLogged := by
  intro s off bs hrun hawake hlo hhi
  have h0 := hostWrite_bar0 (off := off) hlo hhi s
  have h2 := hostWrite_bar2 (off := off) hlo hhi s
  refine ⟨fun hoff hbad => ?refused, fun hoff => ?reserved, fun hoff hfree => ?ring, fun hslot hend hfree => ?desc⟩
  case refused =>
    refine completes_hostWrite hrun hawake (h0.trans ((if_pos hoff).trans (if_neg ?_)))
    rintro ⟨hlen, halign, hall⟩
    rcases hbad with h | h | ⟨b, hb, hen⟩
    · exact h hlen
    · exact h halign
    · exact Bool.false_ne_true (hen.symm.trans (List.all_eq_true.mp hall b hb))
  case reserved => exact completes_hostWrite hrun hawake (h0.trans ((if_neg (by omega)).trans (if_neg (by omega))))
  case ring =>
    refine ⟨_, completes_hostWrite hrun hawake (h0.trans ((if_neg (by omega)).trans ((if_pos (by omega)).trans (writeRingMem_free hfree)))), fun a => ?_⟩
    rw [mapGet_putBytes]
    by_cases hle : off ≤ a
    · rw [if_pos hle]
      match hb : bs[a - off]? with
      | none => rfl
      | some (b, false) => rfl
      | some (b, true) =>
        have hown : ringByteOwned a s = false := not_owned_of_covered (owned := fun a => ringByteOwned a s) hfree hle (List.getElem?_eq_some_iff.mp hb).1
        cases ringReserved a <;> simp [byteWritten, hown, hle]
    · rw [if_neg hle]
      match bs[a - off]? with
      | none => rfl
      | some (b, false) => rfl
      | some (b, true) => exact (if_neg fun h => hle h.1).symm
  case desc =>
    refine ⟨_, completes_hostWrite hrun hawake (h2.trans ((if_pos ⟨hslot, hend⟩).trans (writeDescMem_free hfree))), fun a => ?_⟩
    rw [mapGet_putBytes]
    by_cases hle : off ≤ a
    · rw [if_pos hle]
      match hb : bs[a - off]? with
      | none => rfl
      | some (b, false) => rfl
      | some (b, true) =>
        have hown := not_owned_of_covered (owned := fun a => descOwned (a / 0x400000) (a % 0x400000 / 32) s) hfree hle (List.getElem?_eq_some_iff.mp hb).1
        simp [byteWritten, hown, hle]
    · rw [if_neg hle]
      match bs[a - off]? with
      | none => rfl
      | some (b, false) => rfl
      | some (b, true) => exact (if_neg hle).symm

/-! The error log -/

theorem setCause_sets {v : Nat} (hv : v < 32) (s : State) : (setCause v s).plk.cause.getLsbD v = true := by
  unfold setCause
  split
  · assumption
  · simp [hv]

/-- A cause changes the causes alone. -/
theorem setCause_eq (v : Nat) (s : State) :
    setCause v s = setPlk { s.plk with cause := (setCause v s).plk.cause, fresh := (setCause v s).plk.fresh } s := by
  unfold setCause
  split <;> rfl

/-- The error log with a new entry, or with one more that found no place (R347, R348). -/
def errorLogged (e : ErrEntry) (s : State) : State :=
  if (s.plk.errW + 64 - s.plk.errR) % 64 = 32 then setPlk { s.plk with errOvf := Nat.min (2 ^ 32 - 1) (s.plk.errOvf + 1) } s
  else setPlk { s.plk with errs := mapSet {} s.plk.errs (s.plk.errW % 32) { e with time := nowNs s % 2 ^ 64 }, errW := (s.plk.errW + 1) % 64 } s

theorem logError_eq (e : ErrEntry) (s : State) : logError e s = raiseEv .plkError 0 [] (setCause 4 (errorLogged e s)) := rfl

/-- What the error log leaves unchanged. -/
theorem errorLogged_frame (e : ErrEntry) (s : State) :
    (errorLogged e s).raised = s.raised ∧ (errorLogged e s).counters = s.counters ∧ (errorLogged e s).fab = s.fab ∧ (errorLogged e s).plk.windows = s.plk.windows
    ∧ (errorLogged e s).plk.rings = s.plk.rings ∧ (errorLogged e s).plk.pairs = s.plk.pairs ∧ (errorLogged e s).plk.ringMem = s.plk.ringMem ∧ (errorLogged e s).plk.descMem = s.plk.descMem := by
  unfold errorLogged
  split <;> exact ⟨rfl, rfl, rfl, rfl, rfl, rfl, rfl, rfl⟩

/-- Settles O41: the entry goes to the log, and the cause and the event follow. -/
theorem errorLogHoldsThirtyTwo : Obligations.ErrorLogHoldsThirtyTwo := by
  intro e s _ _
  obtain ⟨hr, hc, hf, hw, hrings, hp, hm, hd⟩ := errorLogged_frame e s
  dsimp only
  rw [logError_eq]
  refine ⟨setCause_sets (by decide) _, ?_, ?_, ?_⟩
  · rw [setCause_eq]
    exact congrArg (· ++ _) hr
  · rw [setCause_eq]
    unfold errorLogged
    split <;> exact ⟨rfl, rfl, rfl⟩
  · rw [setCause_eq]
    exact ⟨hc, hf, hw, hrings, hp, hm, hd⟩

end Sys2Proof.Machine
end

section
/-! Proofs/Placket: the poll, completion rings and DMA descriptors (R339-R363), and the PCI Express events (R340-R361). -/

namespace Sys2Proof.Machine
open Sys2Proof.Claims

/-! The poll, replies and descriptors -/

theorem pollNow_idle {u : State} (h : domainRuns 14 u = false ∨ u.cyc < u.plk.pollAt) : pollNow u = u := if_pos (by simpa using h)

/-- A poll samples the causes, hands the doorbells over, refreshes the copies and takes the period written since (R356, R363). -/
theorem pollNow_due {u : State} (hrun : domainRuns 14 u = true) (hdue : u.plk.pollAt ≤ u.cyc) :
    let x := pollCauses (handRings (if domainStuck 1 u then u else handMailbox u))
    pollNow u = serveRings 64 (setPlk { x.plk with period := x.plk.nextPeriod, pollAt := x.cyc + x.plk.nextPeriod * usCyc, copies := hostCopies x } x) :=
  if_neg (by simp [hrun, hdue])

/-- Whether a waiting reply belongs to a pair's completion ring. -/
def replyOfPair (c : Nat) (e : Via × Bool × List Byte) : Bool := match e.1 with | .ring k => decide (k.val = c) | _ => false

/-- The oldest reply of a pair leaves for a completion ring with room; a command that counted as outstanding no longer does (R351). -/
theorem writeReply_room {c : Nat} {s : State} {e : Via × Bool × List Byte} (hfind : s.yel.placket.replies.find? (replyOfPair c) = some e)
    (hroom : cplFull c s = false) (hrun : domainRuns 14 s = true) :
    writeReply c s = writeCompletion c e.2.2 (setTrans .placket { s.yel.placket with
      replies := s.yel.placket.replies.erase e, outstanding := if e.2.1 then s.yel.placket.outstanding - 1 else s.yel.placket.outstanding } s) := by
  have hbusy : ¬ (cplFull c s = true ∨ (!(domainRuns 14 s)) = true) := by simp [hroom, hrun]
  unfold writeReply
  dsimp only
  split
  · next h => exact absurd (h.symm.trans hfind) (by simp)
  · next e' h =>
    obtain rfl : e' = e := Option.some.inj (h.symm.trans hfind)
    exact if_neg hbusy

section
variable {r : Nat} {s : State} {d : BitVec 256}

/-- A transmit descriptor that breaks its layout (R353). -/
def TxDescBad (d : BitVec 256) : Prop := bits d 250 237 = 0 ∨ 9216 < bits d 250 237 ∨ bits d 236 232 ≠ 0 ∨ bits d 231 229 ≠ 0 ∨ bits d 191 96 ≠ 0

theorem takeTxDesc_bad (hd : nextDesc r s = some d) (hbad : TxDescBad d) : takeTxDesc r s = completeDesc r d 6 (bump .plkBadDesc r s) := by
  unfold takeTxDesc
  rw [hd]
  exact if_pos hbad

theorem takeTxDesc_no_window (hd : nextDesc r s = some d) (hok : ¬ TxDescBad d) (hw : windowFor false (bits d 63 0) (bits d 250 237) s = none) :
    takeTxDesc r s = completeDesc r d 3 (bump .plkNoWindow r s) := by
  unfold takeTxDesc
  rw [hd]
  refine (if_neg hok).trans ?_
  rw [hw]

/-- A transmit descriptor in order begins to read its buffer (R343, R354). -/
theorem takeTxDesc_starts (hd : nextDesc r s = some d) (hok : ¬ TxDescBad d) {w : Nat} (hw : windowFor false (bits d 63 0) (bits d 250 237) s = some w) :
    takeTxDesc r s = issueWaiting (setRing r { getRing r s with active := some { desc := d, window := w, serial := s.plk.serial, len := bits d 250 237, index := (getRing r s).cons, todo := cutTlps (min 256 s.plk.maxRead) 9217 (bits d 63 0) 0 (bits d 250 237) } }
      (setPlk { s.plk with serial := s.plk.serial + 1 } s)) := by
  unfold takeTxDesc
  rw [hd]
  refine (if_neg hok).trans ?_
  rw [hw]

variable {c : Nat}

/-- What a receive ring does with its next descriptor while port 31 sends nothing and the queue's head may leave (R343, R354). -/
theorem takeRxDesc_next (hd : nextDesc (8 + c) s = some d) (htx : mapGet none s.fab.tx 31 = none) (he : eligible (8 * 31 + c) s = true) :
    (bits d 250 237 < 64 ∨ 9216 < bits d 250 237 → takeRxDesc c s = completeDesc (8 + c) d 6 (bump .plkBadDesc (8 + c) s))
    ∧ (64 ≤ bits d 250 237 → bits d 250 237 ≤ 9216 → windowFor true (bits d 63 0) (bits d 250 237) s = none →
        takeRxDesc c s = completeDesc (8 + c) d 3 (bump .plkNoWindow (8 + c) s))
    ∧ ∀ w, 64 ≤ bits d 250 237 → bits d 250 237 ≤ 9216 → windowFor true (bits d 63 0) (bits d 250 237) s = some w → ∃ n,
        takeRxDesc c s = startHead (8 * 31 + c) (setRing (8 + c) { getRing (8 + c) s with active := some { desc := d, window := w, serial := s.plk.serial, len := n, index := (getRing (8 + c) s).cons } } (setPlk { s.plk with serial := s.plk.serial + 1 } s)) := by
  have hlen (hlo : 64 ≤ bits d 250 237) (hhi : bits d 250 237 ≤ 9216) : ¬ (bits d 250 237 < 64 ∨ bits d 250 237 > 9216) := by omega
  unfold takeRxDesc
  simp only [hd, htx, he, Bool.not_true, Bool.false_eq_true, ↓reduceIte]
  refine ⟨fun hbad => if_pos hbad, fun hlo hhi hw => (if_neg (hlen hlo hhi)).trans ?_, fun w hlo hhi hw => ?_⟩
  · rw [hw]
  · rw [if_neg (hlen hlo hhi), hw]
    exact ⟨_, rfl⟩

end

/-- Settles O42: the poll, the reply and both kinds of descriptor, each by its rule. -/
theorem placketEventsRun : Obligations.PlacketEventsRun := by
  refine ⟨fun at_ s => ⟨fun h => ?idle, fun hrun hdue => ?due⟩, fun c s via counted bs => ?reply, fun r s d hrun hd => ?tx, fun c s d hcore hrun hd htx he => ?rx⟩
  case idle => exact completes_at (act := pollNow) rfl (pollNow_idle h)
  case due => exact completes_at (act := pollNow) rfl (pollNow_due hrun hdue)
  case reply =>
    intro x t hfind hroom hrun
    exact congrArg ends (congrArg (serveRings 64) (writeReply_room (e := (via, counted, bs)) hfind hroom hrun))
  case tx =>
    exact ⟨fun hbad => completes_atHost rfl hrun (takeTxDesc_bad hd hbad), fun hok hw => completes_atHost rfl hrun (takeTxDesc_no_window hd hok hw),
      fun w hok hw => completes_atHost rfl hrun (takeTxDesc_starts hd hok hw)⟩
  case rx =>
    have run {t : State} (ht : takeRxDesc c.val s = t) : Completes (.dmaRxDescriptor c) s t :=
      congrArg ends ((if_pos hcore).trans ((atHost_runs _ hrun).trans ht))
    obtain ⟨hbad, hnone, hstart⟩ := takeRxDesc_next hd htx he
    refine ⟨fun h => run (hbad h), fun hlo hhi hw => run (hnone hlo hhi hw), fun w hlo hhi hw => ?_⟩
    obtain ⟨n, hn⟩ := hstart w hlo hhi hw
    exact ⟨n, run hn⟩

/-! PCI Express -/

/-- A row that time defines takes its effect at its time while the Placket's domain runs. -/
theorem completes_atHost_at {c : Instr} {at_ : Nat} {act : State → State} {s t : State} (hc : exec c s = endsAt at_ (atHost act) s)
    (hrun : domainRuns 14 (advanceTo at_ s) = true) (ht : act (advanceTo at_ s) = t) : Completes c s t :=
  completes_at hc ((atHost_runs act hrun).trans ht)

section
variable {tag : Nat} {st : CplStatus} {data : List Byte} {s : State}

theorem completion_unexpected (h : ∀ o, s.plk.outs.find? (fun o => o.tag == tag) = some o → o.deadline ≤ s.cyc) : completion tag st data s = s := by
  have hnone : (s.plk.outs.find? (fun o => o.tag == tag)).filter (fun o => decide (s.cyc < o.deadline)) = none := by
    rw [Option.filter_eq_none_iff]
    exact fun o ho => by simpa using h o ho
  unfold completion
  rw [hnone]

variable {o : Outbound} (ho : s.plk.outs.find? (fun o => o.tag == tag) = some o) (hd : s.cyc < o.deadline)
include ho hd

/-- A completion in time ends its request with an error, adds to its data, or ends it (R340, R361). -/
theorem completion_expected :
    completion tag st data s =
      if st ≠ .ok then issueWaiting (failRequest o (bump .plkCplError 0 (setPlk { s.plk with outs := s.plk.outs.filter (fun x => x.tag != tag) } s)))
      else if ((o.got ++ data).take o.len).length < o.len then setPlk { s.plk with outs := replaceIf (fun x => x.tag == tag) (fun _ => { o with got := (o.got ++ data).take o.len }) s.plk.outs } s
      else issueWaiting (finishRequest { o with got := (o.got ++ data).take o.len } (setPlk { s.plk with outs := s.plk.outs.filter (fun x => x.tag != tag) } s)) := by
  unfold completion
  rw [ho, Option.filter_some_pos (by simpa using hd)]

end

theorem cplExpire_due {tag : Nat} {o : Outbound} {u : State} (ho : u.plk.outs.find? (fun o => o.tag == tag) = some o) (hd : o.deadline ≤ u.cyc) :
    cplExpire tag u = issueWaiting (failRequest o (raiseEv .pcieAer 0 [] (bump .plkCplTimeout 0 (setPlk { u.plk with outs := u.plk.outs.filter (fun x => x.tag != tag) } u)))) := by
  unfold cplExpire
  rw [ho]
  exact if_neg (Nat.not_lt.mpr hd)

/-- The next TLP of a receive ring that has had no credit for 1 ms is dropped and logged (R347). -/
theorem stallWrite_drops {r : Nat} {d : Dma} {a n o : Nat} {u : State} (hr : 8 ≤ r) (hd : (getRing r u).active = some d) (hf : d.flushing = false)
    (htlp : (rxTlps d d.len u)[d.tlps]? = some (a, n, o)) :
    stallWrite r u = logError { reason := 5, window := d.window, initiator := r, length := n, addr := a } (updDma r (fun d => { d with tlps := d.tlps + 1 }) u) := by
  unfold stallWrite
  simp only [hd, hf, Nat.not_lt.mpr hr, Bool.false_eq_true, or_self, ↓reduceIte, htlp]

/-- Settles O43: each event is one branch of its operation. -/
theorem pcieEventsRun : Obligations.PcieEventsRun := by
  refine ⟨fun tag st data s hrun => ⟨fun hnone => ?unknown, fun o ho hlate => ?late, fun o ho hd => ?inTime⟩, fun at_ tag o s => ?timeout, fun at_ r d a n o s => ?stall,
    fun l s hrun => congrArg ends (if_pos hrun), fun s hrun => ⟨fun on => completes_atHost rfl hrun rfl, fun n => completes_atHost rfl hrun rfl, fun n => ?readSize,
      fun ns => completes_atHost rfl hrun rfl, completes_atHost rfl hrun rfl, completes_atHost rfl hrun rfl⟩⟩
  case unknown => exact completes_atHost rfl hrun (completion_unexpected fun o ho => by simp [hnone] at ho)
  case late => exact completes_atHost rfl hrun (completion_unexpected fun o' ho' => by rwa [← Option.some.inj (ho.symm.trans ho')])
  case inTime =>
    have hc := completion_expected (st := st) (data := data) ho hd
    exact ⟨fun he => completes_atHost rfl hrun (hc.trans (if_pos he)), fun he hl => completes_atHost rfl hrun (hc.trans ((if_neg (not_not_intro he)).trans (if_pos hl))),
      fun he hl => completes_atHost rfl hrun (hc.trans ((if_neg (not_not_intro he)).trans (if_neg (Nat.not_lt.mpr hl))))⟩
  case timeout =>
    intro u hrun ho hd
    exact completes_atHost_at rfl hrun (cplExpire_due ho hd)
  case stall =>
    intro u hrun hr hd hf htlp
    exact completes_atHost_at rfl hrun (stallWrite_drops hr hd hf htlp)
  case readSize =>
    refine completes_atHost rfl hrun ?_
    simp only [configWrite, List.contains_eq_mem, decide_eq_true_eq]

end Sys2Proof.Machine
end

section
/-! Proofs/DeviceAndPortCommands: what the bodies of the Device, Port and Fabric/queue classes answer, and the clauses about their commands (R327). -/

namespace Sys2Proof.Machine
open Sys2Proof.Claims

/-! Clauses of the Device class -/

/-- `mk` carries the opcode of `c`, which the opcode tables list and whose reply is the service's own. -/
def Lists (mk : Msg → Instr) (c : Cmd) : Prop :=
  (∀ m s, exec (mk m) s = ends (receiveMsg ⟨c.cls, c.opcode, m⟩ s)) ∧ cmdOf c.cls c.opcode = some c ∧ ¬ (c.cls = 1 ∧ c.opcode = 3)

section
variable {mk : Msg → Instr} {c : Cmd} {ok : Via → List Byte → State → Prop}

theorem Lists.runs (hc : Lists mk c) (hkey : c.key = none) {eff : Via → List Byte → State → State × List Byte}
    (h : ∀ v p u, ok v p u → c.len p = true ∧ c.body v p u = done (eff v p u).2 (eff v p u).1) : Runs mk c ok eff := by
  obtain ⟨hexec, hlisted, hk⟩ := hc
  refine runs_of mk c ok eff hexec hlisted hk fun v p u hok => ?_
  obtain ⟨hlen, hbody⟩ := h v p u hok
  exact ⟨hlen, by rw [runCmd_done c v p _ u _ hbody, noteRecord_of_no_key hkey]⟩

theorem Lists.runs_recorded (hc : Lists mk c) {k : Nat} (hkey : c.key = some k) (hep : c.epoch = false) {f : Via → List Byte → State → State}
    (h : ∀ v p u, ok v p u → c.len p = true ∧ c.body v p u = done [] (f v p u)) : Runs mk c ok (fun v p u => (recorded c k p (f v p u), [])) := by
  obtain ⟨hexec, hlisted, hk⟩ := hc
  refine runs_of mk c ok _ hexec hlisted hk fun v p u hok => ?_
  obtain ⟨hlen, hbody⟩ := h v p u hok
  exact ⟨hlen, by rw [runCmd_done c v p _ u _ hbody, noteRecord_of_key hkey hep]⟩

end

theorem lenIs_nil : lenIs 0 [] = true := rfl

/-- An even mask leaves out class 0 (R326). -/
theorem ofNat_even_getLsbD {w n : Nat} (h : n % 2 = 0) : (BitVec.ofNat w n).getLsbD 0 = false := by
  simp [BitVec.getLsbD_ofNat, h]

/-- Settles O10: each clause is what the opcode's body answers. -/
theorem deviceClassRuns : Obligations.DeviceClassRuns := by
  refine ⟨?info, ?floor, ?limits, ?subscribe, ?reset, ?echo, ?save⟩
  case info => exact Lists.runs ⟨fun _ _ => rfl, rfl, by decide⟩ rfl fun _ _ _ hp => ⟨hp ▸ lenIs_nil, rfl⟩
  case floor => exact Lists.runs ⟨fun _ _ => rfl, rfl, by decide⟩ rfl fun _ _ _ hp => ⟨hp ▸ lenIs_nil, rfl⟩
  case limits =>
    refine Lists.runs_recorded ⟨fun _ _ => rfl, rfl, by decide⟩ rfl rfl fun _ p u ⟨hlen, ht, hz1, hr1, hr2, hd1, hd2, hz2⟩ => ⟨lenIs_of_length hlen, ?_⟩
    exact whenOk_true _ _ _ (by simp [res0, ht, hz1, hr1, hr2, hd1, hd2, hz2])
  case subscribe =>
    refine Lists.runs ⟨fun _ _ => rfl, rfl, by decide⟩ rfl fun _ p u ⟨hlen, heven, hz⟩ => ⟨lenIs_of_length hlen, ?_⟩
    exact whenOk_true _ _ _ (by rw [ofNat_even_getLsbD heven, res0_of_zeros hz]; rfl)
  case reset =>
    refine Lists.runs ⟨fun _ _ => rfl, rfl, by decide⟩ rfl fun _ p u ⟨hlen, hkind, hz⟩ => ⟨lenIs_of_length hlen, ?_⟩
    exact whenOk_true _ _ _ (by rw [decide_eq_true hkind, res0_of_zeros hz]; rfl)
  case echo => exact Lists.runs ⟨fun _ _ => rfl, rfl, by decide⟩ rfl fun _ _ _ hp => ⟨decide_eq_true hp, rfl⟩
  case save =>
    refine Lists.runs ⟨fun _ _ => rfl, rfl, by decide⟩ rfl fun _ p u ⟨hp, hfits⟩ => ⟨hp ▸ lenIs_nil, ?_⟩
    exact if_neg (by simp [hfits])

/-- The reply of SET_CMD_KEY is authenticated with the key that the command found (R313, R327). -/
theorem finish_setCmdKey {m : Msg} {u : State} {r : List Byte} {v : State} (hp : pairActive u = false) (hbody : cmdSetCmdKey.body m.via (paramsOf m) u = done r v) :
    finish ⟨1, 3, m⟩ u = refreshKeys (sendReply m.via true (replyBytes 1 3 m .ok r false (commandKey (transportOf m.via) u)) (recorded cmdSetCmdKey 1 (paramsOf m) v)) := by
  have hrun : runCmd cmdSetCmdKey m.via (paramsOf m) u = done r (recorded cmdSetCmdKey 1 (paramsOf m) v) := by
    rw [runCmd_done _ _ _ _ _ _ hbody, noteRecord_of_key rfl rfl]
  have hc : cmdOf 1 3 = some cmdSetCmdKey := rfl
  unfold finish sendResult
  simp only [hc, hrun, hp, Bool.false_eq_true, false_and, and_false, and_self, ↓reduceIte]
  rfl

/-- Settles O11: the command runs, and its reply has a rule of its own. -/
theorem setCmdKeyRestartsSequence : Obligations.SetCmdKeyRestartsSequence := by
  intro m s u ha hr hp hlen ht hslot hz t slot v
  have hok : (decide (numAt (paramsOf m) 0 1 ≤ 2) && (decide (numAt (paramsOf m) 1 1 < 64) || numAt (paramsOf m) 1 1 == 255) && res0 [(2, 2)] (paramsOf m)) = true := by
    rw [decide_eq_true ht, res0_of_zeros hz]
    simpa using hslot
  have hbody : cmdSetCmdKey.body m.via (paramsOf m) u = done [] v := whenOk_true _ _ _ hok
  have hexec : exec (.setCmdKey m) s = ends (receiveMsg ⟨1, 3, m⟩ s) := rfl
  rw [receive_executes _ s u ha cmdSetCmdKey rfl hr (lenIs_of_length hlen), finish_setCmdKey hp hbody] at hexec
  exact hexec

/-! The Port and Fabric/queue classes -/

theorem carries_portSet : Carries .portSet cmdPortSet := ⟨fun _ _ => rfl, rfl, by decide⟩
theorem carries_portGet : Carries .portGet cmdPortGet := ⟨fun _ _ => rfl, rfl, by decide⟩
theorem carries_portStatus : Carries .portStatus cmdPortStatus := ⟨fun _ _ => rfl, rfl, by decide⟩
theorem carries_lldpSet : Carries .lldpSet cmdLldpSet := ⟨fun _ _ => rfl, rfl, by decide⟩
theorem carries_partnerZones : Carries .partnerZones cmdPartnerZones := ⟨fun _ _ => rfl, rfl, by decide⟩
theorem carries_fastlinkClear : Carries .fastlinkClear cmdFastlinkClear := ⟨fun _ _ => rfl, rfl, by decide⟩
theorem carries_queueSet : Carries .queueSet cmdQueueSet := ⟨fun _ _ => rfl, rfl, by decide⟩
theorem carries_bufferSet : Carries .bufferSet cmdBufferSet := ⟨fun _ _ => rfl, rfl, by decide⟩
theorem carries_queueStatus : Carries .queueStatus cmdQueueStatus := ⟨fun _ _ => rfl, rfl, by decide⟩
theorem carries_boltStatus : Carries .boltStatus cmdBoltStatus := ⟨fun _ _ => rfl, rfl, by decide⟩

/-- PORT_STATUS of a port whose link is up and whose partner is not known (R330). -/
theorem portStatusReply_up {i : Nat} {s : State} (hup : (getPort i s).up = true) (hpartner : (getPort i s).partner ≠ 2) :
    portStatusReply i s = natBytes 1 (getPort i s).mode ++ natBytes 1 (if isT1 i then (getPort i s).role else 0) ++ natBytes 1 (getPort i s).training
      ++ natBytes 1 ((if (getPort i s).fast then 8 else 0) + (if (getPort i s).stored.isSome then 4 else 0) + (if (preemptA i s).isSome then 2 else 0) + 1)
      ++ natBytes 1 (getPort i s).partner ++ natBytes 2 0 ++ natBytes 1 ((preemptA i s).getD 0) ++ List.replicate 56 0 := by
  have hunknown : ((getPort i s).partner == 2) = false := beq_false_of_ne hpartner
  have hids : padTo 32 [] ++ padTo 24 [] = List.replicate 56 0 := rfl
  have htypes : natBytes 1 0 ++ natBytes 1 0 = natBytes 2 0 := rfl
  rw [← hids, ← htypes]
  simp only [portStatusReply, hup, hunknown, Bool.and_true, Bool.false_eq_true, ↓reduceIte, List.append_assoc]

/-- Settles O12: each clause is what the opcode's body answers. -/
theorem portAndQueueClassesRun : Obligations.PortAndQueueClassesRun := by
  refine ⟨?set, ?get, ?status, ?lldp, ?zones, ?clear, ?queue, ?buffer, ?queueStatus, ?bolt⟩
  case set =>
    refine carries_portSet.runs_recorded rfl rfl fun _ p u ⟨hlen, hport, hz, hgood, hpool⟩ => ⟨lenIs_of_length hlen, ?_⟩
    exact whenOk_true _ _ _ (by rw [decide_eq_true hport, res0_of_zeros hz, hgood, poolFits, decide_eq_true hpool]; rfl)
  case get =>
    refine carries_portGet.runs rfl fun _ p u ⟨hlen, hport, hz⟩ => ⟨lenIs_of_length hlen, ?_⟩
    exact whenOk_true _ _ _ (by rw [decide_eq_true hport, res0_of_zeros hz]; rfl)
  case status =>
    refine carries_portStatus.runs rfl fun _ p u ⟨hlen, hport, hz, hup, hpartner⟩ => ⟨lenIs_of_length hlen, ?_⟩
    refine (whenOk_true _ _ _ (by rw [decide_eq_true hport, res0_of_zeros hz]; rfl)).trans ?_
    rw [portStatusReply_up hup hpartner]
  case lldp =>
    refine carries_lldpSet.runs_recorded rfl rfl fun _ p u ⟨hlen, hport, hz1, hi1, hi2, hw, ha, hz8⟩ => ⟨lenIs_of_length hlen, ?_⟩
    exact whenOk_true _ _ _ (by simp [res0, hport, hz1, hi1, hi2, hw, ha, hz8])
  case zones =>
    refine carries_partnerZones.runs_recorded rfl rfl fun _ p u ⟨hlen, hport, hnone, ha, hu, hl, hz⟩ => ⟨by simp [cmdPartnerZones, lenCount, hnone, hlen], ?_⟩
    have hents : elements 8 36 (numAt p 1 1) p = [] := by rw [hnone]; rfl
    refine (whenOk_true _ _ _ (by simp [res0, hents, hport, ha, hu, hl, hz])).trans ?_
    simp only [hents, List.map_nil]
  case clear =>
    refine carries_fastlinkClear.runs rfl fun _ p u ⟨hlen, hport, hz⟩ => ⟨lenIs_of_length hlen, ?_⟩
    exact whenOk_true _ _ _ (by rw [decide_eq_true hport, res0_of_zeros hz]; rfl)
  case queue =>
    refine carries_queueSet.runs_recorded rfl rfl fun _ p u ⟨hlen, hport, hcls, hsel, hpre, hweight, hz, hlo, hhi, hdwrr⟩ => ⟨lenIs_of_length hlen, ?_⟩
    have hexpress : (numAt p 3 1 == 1) = false := by rw [hpre]; rfl
    simp only [cmdQueueSet, hsel, hexpress]
    exact whenOk_true _ _ _ (by simp [res0, hport, hcls, hpre, hweight, hz, hlo, hhi, hdwrr])
  case buffer =>
    refine carries_bufferSet.runs_recorded rfl rfl fun _ p u ⟨hlen, hport, hcls, hk, hdrop, hr1, hr2, hl1, hl2, hpool⟩ => ⟨lenIs_of_length hlen, ?_⟩
    exact whenOk_true _ _ _ (by simp [poolFits, hport, hcls, hk, hdrop, hr1, hr2, hl1, hl2, hpool])
  case queueStatus =>
    refine carries_queueStatus.runs rfl fun _ p u ⟨hlen, hport, hcls, hz⟩ => ⟨lenIs_of_length hlen, ?_⟩
    exact whenOk_true _ _ _ (by rw [decide_eq_true hport, decide_eq_true hcls, res0_of_zeros hz]; rfl)
  case bolt => exact carries_boltStatus.runs rfl fun _ _ _ hp => ⟨hp ▸ lenIs_nil, rfl⟩

end Sys2Proof.Machine
end

section
/-! Proofs/ScheduleAndTimeCommands: what the bodies of the Schedule and Time/stitch classes answer, and the clauses about their commands (R327). -/

namespace Sys2Proof.Machine
open Sys2Proof.Claims

/-! The Schedule class (R73-R80, R91) -/

theorem carries_gclWrite : Carries .gclWrite cmdGclWrite := ⟨fun _ _ => rfl, rfl, by decide⟩
theorem carries_gclParams : Carries .gclParams cmdGclParams := ⟨fun _ _ => rfl, rfl, by decide⟩
theorem carries_gclCommit : Carries .gclCommit cmdGclCommit := ⟨fun _ _ => rfl, rfl, by decide⟩
theorem carries_gclCancel : Carries .gclCancel cmdGclCancel := ⟨fun _ _ => rfl, rfl, by decide⟩
theorem carries_gclRead : Carries .gclRead cmdGclRead := ⟨fun _ _ => rfl, rfl, by decide⟩
theorem carries_gclStatus : Carries .gclStatus cmdGclStatus := ⟨fun _ _ => rfl, rfl, by decide⟩
theorem carries_sgateWrite : Carries .sgateWrite cmdSgateWrite := ⟨fun _ _ => rfl, rfl, by decide⟩
theorem carries_sgateCommit : Carries .sgateCommit cmdSgateCommit := ⟨fun _ _ => rfl, rfl, by decide⟩
theorem carries_sgateCancel : Carries .sgateCancel cmdSgateCancel := ⟨fun _ _ => rfl, rfl, by decide⟩
theorem carries_sgateUnlock : Carries .sgateUnlock cmdSgateUnlock := ⟨fun _ _ => rfl, rfl, by decide⟩

/-- Parameters that hold one element are read as that one element. -/
theorem elements_one {off w : Nat} {p : List Byte} (h : p.length = off + w) : elements off w 1 p = [p.drop off] := by
  simp [elements, List.take_of_length_le, h]

/-- A shadow list that no commit locks takes one entry (R73, R80). -/
theorem gclWrite_one {v : Via} {p : List Byte} {u : State} (hn : numAt p 4 2 = 1) (hlen : p.length = 24) (hport : numAt p 0 1 ≤ 26) (hz1 : zeros 1 1 p) (hz6 : zeros 6 2 p)
    (hgood : entryBad (BitVec.ofNat 128 (beNat (p.drop 8))) = false) (hfree : (getGates (numAt p 0 1) u).pend = none) :
    cmdGclWrite.body v p u = done [] (setGates (numAt p 0 1) { getGates (numAt p 0 1) u with shadow := { (getGates (numAt p 0 1) u).shadow with
      ents := mapSet 0 (getGates (numAt p 0 1) u).shadow.ents (numAt p 2 2) (BitVec.ofNat 128 (beNat (p.drop 8))) } } u) := by
  have hes : elements 8 16 (numAt p 4 2) p = [p.drop 8] := by rw [hn]; exact elements_one hlen
  simp only [cmdGclWrite, hes]
  exact (if_neg (by simp [res0, hport, hz1, hz6, hgood])).trans (if_neg (by simp [hfree]))

/-- A pending change is withdrawn where its lead allows it (R80, R450). -/
theorem gclCancel_pending {v : Via} {p : List Byte} {u : State} {ct : Int} (hport : numAt p 0 1 ≤ 26) (hz : zeros 1 3 p) (hpend : (getGates (numAt p 0 1) u).pend = some ct)
    (hlead : Int.ofNat (nowNs u + (commitLead u).2) ≤ ct) : cmdGclCancel.body v p u = done [] (setGates (numAt p 0 1) { getGates (numAt p 0 1) u with pend := none } u) := by
  simp only [cmdGclCancel]
  refine (if_neg (by simp [hport, res0_of_zeros hz])).trans ?_
  rw [hpend]
  exact if_pos (decide_eq_true hlead)

/-- A stream gate's pending change is withdrawn where its lead allows it (R80, R91). -/
theorem sgateCancel_pending {v : Via} {p : List Byte} {u : State} {ct : Int} (hz : zeros 1 3 p) (hpend : (getSGate (numAt p 0 1) u).pend = some ct)
    (hlead : Int.ofNat (nowNs u + (commitLead u).2) ≤ ct) : cmdSgateCancel.body v p u = done [] (setSGate (numAt p 0 1) { getSGate (numAt p 0 1) u with pend := none } u) := by
  simp only [cmdSgateCancel]
  refine (if_neg (by simp [res0_of_zeros hz])).trans ?_
  rw [hpend]
  exact if_pos (decide_eq_true hlead)

/-- Settles O13: each clause is what the opcode's body answers. -/
theorem scheduleClassRuns : Obligations.ScheduleClassRuns := by
  refine ⟨?write, ?params, ?commit, fun ct => ?cancel, ?read, ?status, ?sgWrite, ?sgCommit, fun ct => ?sgCancel, ?sgUnlock⟩
  case write =>
    refine carries_gclWrite.runs rfl fun _ p u ⟨hn, hlen, hport, hz1, hfirst, hz6, hgood, hfree⟩ => ⟨?_, gclWrite_one hn hlen hport hz1 hz6 hgood hfree⟩
    have hlast : numAt p 2 2 + 1 ≤ 1024 := by omega
    simp only [cmdGclWrite, lenCount, hn, hlen, Bool.and_eq_true, decide_eq_true_eq, beq_iff_eq]
    exact ⟨⟨⟨⟨by decide, by decide⟩, trivial⟩, hfirst⟩, hlast⟩
  case params =>
    refine carries_gclParams.runs rfl fun _ p u ⟨hlen, hport, hz, hl1, hl2, hc1, hc2, hext, hns, hen, hfree⟩ => ⟨lenIs_of_length hlen, ?_⟩
    have hok : gclParamsOk p = true := by simp [gclParamsOk, hl1, hl2, hc1, hc2, hext, hns, hen]
    exact (if_neg (by simp [hport, res0_of_zeros hz, hok])).trans (if_neg (by simp [hfree]))
  case commit =>
    refine carries_gclCommit.runs rfl fun _ p u ⟨hlen, hport, hz, hfree, hlist, hclass, hkeys⟩ => ⟨lenIs_of_length hlen, ?_⟩
    exact (if_neg (by simp [hport, res0_of_zeros hz])).trans <| (if_neg (by simp [hfree])).trans <| if_neg (by simp [hlist, hclass, hkeys])
  case cancel => exact carries_gclCancel.runs rfl fun _ p u ⟨hlen, hport, hz, hpend, hlead⟩ => ⟨lenIs_of_length hlen, gclCancel_pending hport hz hpend hlead⟩
  case read =>
    refine carries_gclRead.runs rfl fun _ p u ⟨hlen, hport, hwhich, hn1, hn2, hlast, hz⟩ => ⟨by simp [cmdGclRead, lenIs_of_length hlen, hn1, hn2, hlast], ?_⟩
    exact whenOk_true _ _ _ (by simp [hport, hwhich, res0_of_zeros hz])
  case status => exact carries_gclStatus.runs rfl fun _ p u ⟨hlen, hport, hz⟩ => ⟨lenIs_of_length hlen, whenOk_true _ _ _ (by simp [hport, res0_of_zeros hz])⟩
  case sgWrite =>
    refine carries_sgateWrite.runs rfl fun _ p u ⟨hn1, hn2, hlen, hok, hfree⟩ => ⟨by simp [cmdSgateWrite, lenCount, hn1, hn2, hlen], ?_⟩
    exact (if_neg (by simp [hok])).trans (if_neg (by simp [hfree]))
  case sgCommit =>
    refine carries_sgateCommit.runs rfl fun _ p u ⟨hlen, hz, hfree, hents⟩ => ⟨lenIs_of_length hlen, ?_⟩
    exact (if_neg (by simp [res0_of_zeros hz])).trans <| (if_neg (by simp [hfree])).trans <| if_neg (by simpa using hents)
  case sgCancel => exact carries_sgateCancel.runs rfl fun _ p u ⟨hlen, hz, hpend, hlead⟩ => ⟨lenIs_of_length hlen, sgateCancel_pending hz hpend hlead⟩
  case sgUnlock => exact carries_sgateUnlock.runs rfl fun _ p u ⟨hlen, hz⟩ => ⟨lenIs_of_length hlen, whenOk_true _ _ _ (res0_of_zeros hz)⟩

/-! The Time/stitch class (R99-R117, R127) -/

theorem carries_timeGet : Carries .timeGet cmdTimeGet := ⟨fun _ _ => rfl, rfl, by decide⟩
theorem carries_setTime : Carries .setTime cmdSetTime := ⟨fun _ _ => rfl, rfl, by decide⟩
theorem carries_gmSetTime : Carries .gmSetTime cmdGmSetTime := ⟨fun _ _ => rfl, rfl, by decide⟩
theorem carries_acceptStep : Carries .acceptStep cmdAcceptStep := ⟨fun _ _ => rfl, rfl, by decide⟩
theorem carries_servoSet : Carries .servoSet cmdServoSet := ⟨fun _ _ => rfl, rfl, by decide⟩
theorem carries_gptpSet : Carries .gptpSet cmdGptpSet := ⟨fun _ _ => rfl, rfl, by decide⟩
theorem carries_rateSet : Carries .rateSet cmdRateSet := ⟨fun _ _ => rfl, rfl, by decide⟩
theorem carries_domainConvert : Carries .domainConvert cmdDomainConvert := ⟨fun _ _ => rfl, rfl, by decide⟩
theorem carries_portTrim : Carries .portTrim cmdPortTrim := ⟨fun _ _ => rfl, rfl, by decide⟩
theorem carries_stbConfig : Carries .stbConfig cmdStbConfig := ⟨fun _ _ => rfl, rfl, by decide⟩
theorem carries_stbRead : Carries .stbRead cmdStbRead := ⟨fun _ _ => rfl, rfl, by decide⟩
theorem carries_stbSample : Carries .stbSample cmdStbSample := ⟨fun _ _ => rfl, rfl, by decide⟩
theorem carries_stbDir : Carries .stbDir cmdStbDir := ⟨fun _ _ => rfl, rfl, by decide⟩
theorem carries_markSet : Carries .markSet cmdMarkSet := ⟨fun _ _ => rfl, rfl, by decide⟩

/-- A GPTP_SET whose primary field is 0 writes its gPTP record alone (log entry 35). -/
theorem gptpSet_keeping_primary {p : List Byte} {u : State} (h : numAt p 3 1 = 0) :
    gptpSet p u = setInst (numAt p 0 1) { getInst (numAt p 0 1) u with
      domain := numAt p 1 1, external := numAt p 2 1 == 1, prio1 := numAt p 4 1, prio2 := numAt p 5 1, logSync := BitVec.ofNat 8 (numAt p 8 1), logPdelay := BitVec.ofNat 8 (numAt p 9 1),
      portMask := BitVec.ofNat 32 (numAt p 12 4), roles := (p.drop 16).take 27 } u := by
  simp [gptpSet, h]

/-- MARK_SET of a record without keys (R127). -/
theorem markSet_without_keys {v : Via} {p : List Byte} {u : State} (hcount : markCount p = 0) (ho : numAt p 0 1 ≤ 7) (hz : zeros 1 3 p)
    (hres : bits (BitVec.ofNat 64 (numAt p 4 8)) 56 32 = 0) (hw1 : 8 ≤ bits (BitVec.ofNat 64 (numAt p 4 8)) 31 0) (hw2 : bits (BitVec.ofNat 64 (numAt p 4 8)) 31 0 ≤ 1000000000)
    (hkeys : tracksTooMany (epochKeys (curTables (markSet (numAt p 0 1) (BitVec.ofNat 64 (numAt p 4 8)) [] u))) (markSet (numAt p 0 1) (BitVec.ofNat 64 (numAt p 4 8)) [] u) = false) :
    cmdMarkSet.body v p u = done [] (markSet (numAt p 0 1) (BitVec.ofNat 64 (numAt p 4 8)) [] u) := by
  have hnone : elements 12 16 (markCount p) p = [] := by rw [hcount]; rfl
  simp only [cmdMarkSet, hnone, List.map_nil]
  exact whenOk_true _ _ _ (by simp [res0_of_zeros hz, ho, hres, hw1, hw2, hkeys])

/-- Settles O14: each clause is what the opcode's body answers. -/
theorem timeClassRuns : Obligations.TimeClassRuns := by
  refine ⟨?get, ?set, ?gmSet, ?accept, ?servo, ?gptp, ?rate, ?convert, ?trim, ?config, ?read, ?sample, ?dir, ?mark⟩
  case get => exact carries_timeGet.runs rfl fun _ _ _ hp => ⟨hp ▸ lenIs_nil, rfl⟩
  case set => exact carries_setTime.runs rfl fun _ p u ⟨hlen, hns⟩ => ⟨lenIs_of_length hlen, whenOk_true _ _ _ (decide_eq_true hns)⟩
  case gmSet => exact carries_gmSetTime.runs rfl fun _ p u ⟨hlen, hns⟩ => ⟨lenIs_of_length hlen, whenOk_true _ _ _ (decide_eq_true hns)⟩
  case accept => exact carries_acceptStep.runs rfl fun _ p u ⟨hp, hstep, hwins⟩ => ⟨hp ▸ lenIs_nil, if_neg (by simp [hstep, hwins])⟩
  case servo =>
    refine carries_servoSet.runs_recorded rfl rfl fun _ p u ⟨hlen, ht1, ht2, hs1, hs2, ha, hz, hw1, hw2⟩ => ⟨lenIs_of_length hlen, ?_⟩
    exact whenOk_true _ _ _ (by simp [res0_of_zeros hz, ht1, ht2, hs1, hs2, ha, hw1, hw2])
  case gptp =>
    refine carries_gptpSet.runs_recorded rfl rfl fun _ p u ⟨hlen, hi, hd, he, hkeep, hz6, hz10, hmask, hroles, hz43⟩ => ⟨lenIs_of_length hlen, ?_⟩
    refine (whenOk_true _ _ _ ?_).trans (congrArg (done []) (gptpSet_keeping_primary hkeep))
    rw [hroles, decide_eq_true hmask]
    simp [res0, hi, hd, he, hkeep, hz6, hz10, hz43]
  case rate => exact carries_rateSet.runs rfl fun _ p u hlen => ⟨lenIs_of_length hlen, rfl⟩
  case convert =>
    refine carries_domainConvert.runs rfl fun _ p u ⟨hlen, hdir, hz, hns⟩ => ⟨lenIs_of_length hlen, ?_⟩
    refine (whenOk_true _ _ _ (by simp [hdir, res0_of_zeros hz, timeOk, hns])).trans ?_
    rw [if_pos hdir]
  case trim =>
    exact carries_portTrim.runs_recorded rfl rfl fun _ p u ⟨hlen, hport, hz1, hz6⟩ => ⟨lenIs_of_length hlen, whenOk_true _ _ _ (by simp [res0, hport, hz1, hz6])⟩
  case config =>
    refine carries_stbConfig.runs_recorded rfl rfl fun _ p u ⟨hlen, hi, hz, hgood, hunused⟩ => ⟨lenIs_of_length hlen, ?_⟩
    exact (if_neg (by simp [hi, res0_of_zeros hz, hgood])).trans (if_neg (by simp only [hunused]; decide))
  case read => exact carries_stbRead.runs rfl fun _ p u ⟨hlen, hi, hz⟩ => ⟨lenIs_of_length hlen, whenOk_true _ _ _ (by simp [hi, res0_of_zeros hz])⟩
  case sample =>
    exact carries_stbSample.runs rfl fun _ p u ⟨hlen, hi, hz, hns⟩ => ⟨lenIs_of_length hlen, whenOk_true _ _ _ (by simp [hi, res0_of_zeros hz, timeOk, hns])⟩
  case dir => exact carries_stbDir.runs rfl fun _ p u ⟨hlen, hi, hd, hz⟩ => ⟨lenIs_of_length hlen, whenOk_true _ _ _ (by simp [hi, hd, res0_of_zeros hz])⟩
  case mark =>
    refine carries_markSet.runs_recorded rfl rfl fun _ p u ⟨hlen, hcount, ho, hz, hres, hw1, hw2, hkeys⟩ => ⟨?_, markSet_without_keys hcount ho hz hres hw1 hw2 hkeys⟩
    have hnone : markCount p = 0 := hcount
    simp [cmdMarkSet, hnone, hlen]

end Sys2Proof.Machine
end

section
/-! Proofs/PatternCommands: what the bodies of the Pattern/seam class answer, and the clauses about its epochs and streams (R327, R328). -/

namespace Sys2Proof.Machine
open Sys2Proof.Claims

/-- The number of an element is the number at the element's place. -/
theorem numAt_element (p : List Byte) (off at_ w : Nat) : numAt ((p.drop (off + at_)).take w) 0 w = numAt (p.drop off) at_ w := by
  have hpad : w - min w (p.length - (off + at_)) = w - (p.length - off - at_) := by omega
  simp [numAt, List.take_take, List.drop_drop, hpad]

/-! Epochs (R137, R138, R142, R145, R146, R328) -/

section
variable {mk : Msg → Instr} {c : Cmd} {ok : Via → List Byte → State → Prop}

/-- A command whose record belongs to the pending epoch (R484). -/
theorem Carries.runs_epochRecorded (hc : Carries mk c) {k : Nat} (hkey : c.key = some k) (hep : c.epoch = true) {f : Via → List Byte → State → State}
    (h : ∀ v p u, ok v p u → c.len p = true ∧ c.body v p u = done [] (f v p u)) : Runs mk c ok (fun v p u => (epochRecorded c k p u (f v p u), [])) := by
  obtain ⟨hexec, hlisted, hcls⟩ := hc
  refine runs_of mk c ok _ hexec hlisted (fun hdev => hcls hdev.1) fun v p u hok => ?_
  obtain ⟨hlen, hbody⟩ := h v p u hok
  refine ⟨hlen, ?_⟩
  rw [runCmd_done c v p _ u _ hbody, noteRecord, hkey, hep]
  rfl

end

theorem carries_nodeLoad : Carries .nodeLoad cmdNodeLoad := ⟨fun _ _ => rfl, rfl, by decide⟩
theorem carries_rootSet : Carries .rootSet cmdRootSet := ⟨fun _ _ => rfl, rfl, by decide⟩
theorem carries_zoneMapSet : Carries .zoneMapSet cmdZoneMapSet := ⟨fun _ _ => rfl, rfl, by decide⟩
theorem carries_matrixSet : Carries .matrixSet cmdMatrixSet := ⟨fun _ _ => rfl, rfl, by decide⟩
theorem carries_groupSet : Carries .groupSet cmdGroupSet := ⟨fun _ _ => rfl, rfl, by decide⟩
theorem carries_epochSwap : Carries .epochSwap cmdEpochSwap := ⟨fun _ _ => rfl, rfl, by decide⟩
theorem carries_epochDiscard : Carries .epochDiscard cmdEpochDiscard := ⟨fun _ _ => rfl, rfl, by decide⟩
theorem carries_epochStatus : Carries .epochStatus cmdEpochStatus := ⟨fun _ _ => rfl, rfl, by decide⟩

/-- Nodes are loaded at consecutive places of the node memory. -/
theorem loadNodes_eq (first n : Nat) (p : List Byte) (u : State) :
    loadNodes first n (p.drop 4) u = writePending
      (fun t => { t with nodes := t.nodes.filter (fun i => !(((List.range n).map (fun i => first + i)).contains i)) ++ (List.range n).map (fun i => first + i), ownTree := true })
      (setPat { u.pat with nodeMem := consecutive (BitVec 512) 0 (fun e => BitVec.ofNat 512 (numAt e 0 64)) 4 64 n first p u.pat.nodeMem } u) := by
  simp only [consecutive, numAt_element]
  rfl

theorem nodeLoad_len {p : List Byte} (h1 : 1 ≤ numAt p 2 2) (h2 : numAt p 2 2 ≤ 63) (hlast : numAt p 0 2 + numAt p 2 2 ≤ 65536) (hlen : p.length = 4 + 64 * numAt p 2 2) :
    cmdNodeLoad.len p = true := by
  simp [cmdNodeLoad, lenCount, h1, h2, hlast, hlen]

theorem freeEpoch_of_not_draining {u : State} (h : u.pat.draining = none) : freeEpoch u = u := by
  simp [freeEpoch, h]

section
variable {v : Via} {p : List Byte} {u : State} (hz : zeros 1 3 p)
include hz

/-- EPOCH_SWAP with its reserved bytes 0 is the swap itself. -/
theorem epochSwap_body : cmdEpochSwap.body v p u = swapTo (numAt p 0 1) (decide (numAt p 0 1 = u.pat.nextNumber)) u := whenOk_true _ _ _ (res0_of_zeros hz)

variable (hdrain : u.pat.draining = none)
include hdrain

/-- A swap to the expected number is settled by the checks of the pending epoch (R146, R328). -/
theorem epochSwap_named {t : EpochTables} (hnum : numAt p 0 1 = u.pat.nextNumber) (hpend : u.pat.pending = some t) :
    cmdEpochSwap.body v p u = if !(epochChecks (swapTables (numAt p 0 1) t u) u) then failed .denied (nameFault (swapTables (numAt p 0 1) t u) u)
      else done (natBytes 1 (numAt p 0 1) ++ natBytes 3 0) (swapIn (numAt p 0 1) t u) := by
  rw [epochSwap_body hz, swapTo, freeEpoch_of_not_draining hdrain]
  refine (if_neg (by simp [hnum, hdrain])).trans ?_
  rw [hpend]

/-- A swap to another number is refused (R146). -/
theorem epochSwap_stale (hnum : numAt p 0 1 ≠ u.pat.nextNumber) : cmdEpochSwap.body v p u = failed .staleEpoch u := by
  rw [epochSwap_body hz, swapTo, freeEpoch_of_not_draining hdrain]
  exact if_pos (.inl (by simp [hnum]))

end

/-- Settles O15: each clause is what the opcode's body answers. -/
theorem epochCommandsRun : Obligations.EpochCommandsRun := by
  refine ⟨?load, ?loadOwned, ?roots, ?zones, ?matrix, ?groups, fun t => ?swap, fun t => ?swapFails, ?swapStale, ?discard, ?status⟩
  case load =>
    refine carries_nodeLoad.runs_epochRecorded rfl rfl fun v p u ⟨h1, h2, hlast, hlen, hfree⟩ => ⟨nodeLoad_len h1 h2 hlast hlen, ?_⟩
    refine (whenOk_true _ _ _ ?_).trans (congrArg (done []) (loadNodes_eq _ _ p u))
    simp only [Bool.not_eq_true', List.any_eq_false, Bool.and_eq_true, decide_eq_true_eq, not_and, Nat.not_lt]
    exact fun i hi hfirst => (hfree i hi).resolve_left (by omega)
  case loadOwned =>
    refine carries_nodeLoad.declines (by decide) fun v p u ⟨h1, h2, hlast, hlen, i, hi, hfirst, hin⟩ => ⟨nodeLoad_len h1 h2 hlast hlen, ?_⟩
    have howned : (ownedNodes u).any (fun i => decide (numAt p 0 2 ≤ i) && decide (i < numAt p 0 2 + numAt p 2 2)) = true :=
      List.any_eq_true.mpr ⟨i, hi, by simp [hfirst, hin]⟩
    exact if_neg (by simp only [howned]; decide)
  case roots =>
    refine carries_rootSet.runs_epochRecorded rfl rfl fun v p u ⟨hlen, hpresent⟩ => ⟨lenIs_of_length hlen, whenOk_true _ _ _ ?_⟩
    exact List.all_eq_true.mpr fun i hi => decide_eq_true (hpresent i (List.mem_range.mp hi))
  case zones => exact carries_zoneMapSet.runs_epochRecorded rfl rfl fun v p u hlen => ⟨lenIs_of_length hlen, rfl⟩
  case matrix =>
    refine carries_matrixSet.runs_epochRecorded rfl rfl fun v p u ⟨hlen, hcells⟩ => ⟨lenIs_of_length hlen, whenOk_true _ _ _ ?_⟩
    refine List.all_eq_true.mpr fun e he => ?_
    obtain ⟨hverdict, hres⟩ := hcells e he
    rw [decide_eq_true hverdict, decide_eq_true hres]
    rfl
  case groups =>
    refine carries_groupSet.runs_epochRecorded rfl rfl fun v p u ⟨hlen, hg, hn1, hn2, hz, hports, hrest⟩ => ⟨lenIs_of_length hlen, whenOk_true _ _ _ ?_⟩
    have hmembers : (((p.drop 8).take (numAt p 1 1)).map (fun b => b.toNat)).all (fun m => decide (m ≤ 26)) = true := by
      rw [List.all_map, List.all_eq_true]
      exact fun b hb => decide_eq_true (hports b hb)
    have hzero : (p.drop (8 + numAt p 1 1)).all (fun b => b == 0) = true := List.all_eq_true.mpr fun b hb => beq_iff_eq.mpr (hrest b hb)
    rw [hmembers, hzero, res0_of_zeros hz, decide_eq_true hg, decide_eq_true hn1, decide_eq_true hn2]
    rfl
  case swap =>
    refine carries_epochSwap.runs rfl fun v p u ⟨hlen, hz, hnum, hdrain, hpend, hok⟩ => ⟨lenIs_of_length hlen, ?_⟩
    exact (epochSwap_named hz hdrain hnum hpend).trans (if_neg (by simp [hok]))
  case swapFails =>
    refine carries_epochSwap.declines (by decide) fun v p u ⟨hlen, hz, hnum, hdrain, hpend, hbad⟩ => ⟨lenIs_of_length hlen, ?_⟩
    exact (epochSwap_named hz hdrain hnum hpend).trans (if_pos (by simp [hbad]))
  case swapStale =>
    exact carries_epochSwap.declines (by decide) fun v p u ⟨hlen, hz, hdrain, hnum⟩ => ⟨lenIs_of_length hlen, epochSwap_stale hz hdrain hnum⟩
  case discard => exact carries_epochDiscard.runs rfl fun _ _ _ hp => ⟨hp ▸ lenIs_nil, rfl⟩
  case status => exact carries_epochStatus.runs rfl fun _ _ _ hp => ⟨hp ▸ lenIs_nil, rfl⟩

/-! Streams (R88, R90, R92, R93, R95-R97, R143) -/

theorem carries_patOptions : Carries .patOptions cmdPatOptions := ⟨fun _ _ => rfl, rfl, by decide⟩
theorem carries_sfSet : Carries .sfSet cmdSfSet := ⟨fun _ _ => rfl, rfl, by decide⟩
theorem carries_sfUnblock : Carries .sfUnblock cmdSfUnblock := ⟨fun _ _ => rfl, rfl, by decide⟩
theorem carries_policerSet : Carries .policerSet cmdPolicerSet := ⟨fun _ _ => rfl, rfl, by decide⟩
theorem carries_policerUnlatch : Carries .policerUnlatch cmdPolicerUnlatch := ⟨fun _ _ => rfl, rfl, by decide⟩
theorem carries_frerGenSet : Carries .frerGenSet cmdFrerGenSet := ⟨fun _ _ => rfl, rfl, by decide⟩
theorem carries_frerRecSet : Carries .frerRecSet cmdFrerRecSet := ⟨fun _ _ => rfl, rfl, by decide⟩

theorem indexOrNone_iff {v n : Nat} : indexOrNone v n = true ↔ v < n ∨ v = 65535 := by simp [indexOrNone]

/-- Settles O16: each clause is what the opcode's body answers. -/
theorem streamCommandsRun : Obligations.StreamCommandsRun := by
  refine ⟨?options, ?filter, ?unblock, ?policer, ?unlatch, ?gen, ?recov⟩
  case options =>
    refine carries_patOptions.runs_recorded rfl rfl fun v p u ⟨hlen, hmarks, hfour, hacts, hf1, hf2, hw1, hw2, hz⟩ => ⟨lenIs_of_length hlen, whenOk_true _ _ _ ?_⟩
    have hports : ((List.range 32).filter (fun i => (BitVec.ofNat 32 (numAt p 0 4)).getLsbD i)).all (fun i => decide (i ≤ 26)) = true :=
      List.all_eq_true.mpr fun i hi => decide_eq_true (hmarks i hi)
    have hactions : ((p.drop 4).take 16).all (fun a => decide (a.toNat ≤ 3)) = true := List.all_eq_true.mpr fun a ha => decide_eq_true (hacts a ha)
    rw [hports, hactions, decide_eq_true hfour, res0_of_zeros hz, decide_eq_true hf1, decide_eq_true hf2, decide_eq_true hw1, decide_eq_true hw2]
    rfl
  case filter =>
    refine carries_sfSet.runs_recorded rfl rfl fun v p u ⟨hlen, hi1, hi2, hprio, hblock, hsdu, hgate, hpol, hgen, hrec, hz⟩ => ⟨lenIs_of_length hlen, whenOk_true _ _ _ ?_⟩
    simp only [indexOrNone_iff.mpr hgate, indexOrNone_iff.mpr hpol, indexOrNone_iff.mpr hgen, indexOrNone_iff.mpr hrec]
    simp [res0_of_zeros hz, hi1, hi2, hprio, hblock, hsdu]
  case unblock =>
    exact carries_sfUnblock.runs rfl fun v p u ⟨hlen, hi1, hi2, hz⟩ => ⟨lenIs_of_length hlen, whenOk_true _ _ _ (by simp [res0_of_zeros hz, hi1, hi2])⟩
  case policer =>
    refine carries_policerSet.runs_recorded rfl rfl fun v p u ⟨hlen, hi, hfl, hz3, hc, he, hz18⟩ => ⟨lenIs_of_length hlen, whenOk_true _ _ _ ?_⟩
    simp [res0, hi, hfl, hz3, hc, he, hz18]
  case unlatch => exact carries_policerUnlatch.runs rfl fun v p u ⟨hlen, hi, hz⟩ => ⟨lenIs_of_length hlen, whenOk_true _ _ _ (by simp [res0_of_zeros hz, hi])⟩
  case gen => exact carries_frerGenSet.runs_recorded rfl rfl fun v p u ⟨hlen, hi, hz⟩ => ⟨lenIs_of_length hlen, whenOk_true _ _ _ (by simp [res0_of_zeros hz, hi])⟩
  case recov =>
    refine carries_frerRecSet.runs_recorded rfl rfl fun v p u ⟨hlen, hi, hm, hfl, hhist, hz5, hr, hp1, hp2, hz9, ht, hl⟩ => ⟨lenIs_of_length hlen, whenOk_true _ _ _ ?_⟩
    simp [res0, hi, hm, hfl, hhist, hz5, hr, hp1, hp2, hz9, ht, hl]

end Sys2Proof.Machine
end

section
/-! Proofs/GatewayAndSelvageCommands: what the bodies of the Gateway and Selvage classes answer, and the clauses about their commands (R327). -/

namespace Sys2Proof.Machine
open Sys2Proof.Claims

theorem elements_map_consecutive {α : Type} [DecidableEq α] {d z : α} {f : List Byte → α} (hz : f [] = z) (off w n first : Nat) (p : List Byte) (m : SMap α) :
    (List.range ((elements off w n p).map f).length).foldl (fun a i => mapSet d a (first + i) (((elements off w n p).map f).getD i z)) m = consecutive α d f off w n first p m := by
  rw [List.length_map, ← elements_consecutive d f, ← hz]
  simp only [List.getD_eq_getElem?_getD, List.getElem?_map, Option.getD_map]

theorem elements_map_all {α : Type} {f : List Byte → α} {q : α → Bool} {off w n : Nat} {p : List Byte} (h : ∀ i < n, q (f ((p.drop (off + w * i)).take w)) = true) :
    ((elements off w n p).map f).all q = true := by
  rw [List.all_map]
  exact elements_all _ off w n p h

theorem writePending_congr {f g : EpochTables → EpochTables} {u : State} (h : ∀ t, f t = g t) : done [] (writePending f u) = done [] (writePending g u) := by
  rw [funext h]

/-! The Gateway class -/

/-- The elements of LIN_FRAMES, SLOT_TABLE and DISC_TABLE (R176, R183, R206). -/
def linFrameOf (e : List Byte) : LinFrameDef := { len := numAt e 0 1, enhanced := numAt e 1 1 == 1, role := numAt e 2 1, init := (e.drop 4).take 8 }

@[inherit_doc linFrameOf]
def slotOf (e : List Byte) : SlotDef := { key := BitVec.ofNat 128 (numAt e 0 16), repeating := numAt e 16 1 == 1 }

@[inherit_doc linFrameOf]
def discOf (e : List Byte) : DiscDef := { key := BitVec.ofNat 128 (numAt e 0 16), value := BitVec.ofNat 32 (numAt e 16 4), mask := BitVec.ofNat 32 (numAt e 20 4) }

theorem carries_canSet : Carries .canSet cmdCanSet := ⟨fun _ _ => rfl, rfl, by decide⟩
theorem carries_linSet : Carries .linSet cmdLinSet := ⟨fun _ _ => rfl, rfl, by decide⟩
theorem carries_routeWrite : Carries .routeWrite cmdRouteWrite := ⟨fun _ _ => rfl, rfl, by decide⟩
theorem carries_containerSet : Carries .containerSet cmdContainerSet := ⟨fun _ _ => rfl, rfl, by decide⟩
theorem carries_linFrames : Carries .linFrames cmdLinFrames := ⟨fun _ _ => rfl, rfl, by decide⟩
theorem carries_linSchedule : Carries .linSchedule cmdLinSchedule := ⟨fun _ _ => rfl, rfl, by decide⟩
theorem carries_linSelect : Carries .linSelect cmdLinSelect := ⟨fun _ _ => rfl, rfl, by decide⟩
theorem carries_slotTable : Carries .slotTable cmdSlotTable := ⟨fun _ _ => rfl, rfl, by decide⟩
theorem carries_busRecover : Carries .busRecover cmdBusRecover := ⟨fun _ _ => rfl, rfl, by decide⟩
theorem carries_rateCand : Carries .rateCand cmdRateCand := ⟨fun _ _ => rfl, rfl, by decide⟩
theorem carries_isoInstance : Carries .isoInstance cmdIsoInstance := ⟨fun _ _ => rfl, rfl, by decide⟩
theorem carries_channelStatus : Carries .channelStatus cmdChannelStatus := ⟨fun _ _ => rfl, rfl, by decide⟩

/-- Settles O17: each clause is what the opcode's body answers. -/
theorem gatewayCommandsRun : Obligations.GatewayCommandsRun := by
  refine ⟨?can, ?lin, ?route, ?container, ?linFrames, ?linSchedule, ?linSelect, ?slots, ?recover, ?rates, ?iso, ?status⟩
  case can =>
    refine carries_canSet.runs_recorded rfl rfl fun v p u ⟨hlen, hch, hz, hgood⟩ => ⟨lenIs_of_length hlen, whenOk_true _ _ _ ?_⟩
    have hrecord : (if numAt p 0 1 < 16 then canRecordBad (numAt p 0 1) (BitVec.ofNat 128 (numAt p 4 16)) else vcRecordBad (BitVec.ofNat 128 (numAt p 4 16))) = false := by
      split <;> rename_i hcan
      · simpa only [if_pos hcan] using hgood
      · simpa only [if_neg hcan] using hgood
    simp only [hrecord, decide_eq_true hch, res0_of_zeros hz]
    rfl
  case lin =>
    refine carries_linSet.runs_recorded rfl rfl fun v p u ⟨hlen, hch, hz, hgood, hstop⟩ => ⟨lenIs_of_length hlen, ?_⟩
    refine (if_neg (by simp [hch, res0_of_zeros hz, hgood])).trans (if_neg fun ⟨hon, hother⟩ => ?_)
    exact hstop.elim (fun hoff => Bool.false_ne_true (hoff.symm.trans hon)) hother
  case route =>
    refine carries_routeWrite.runs_epochRecorded rfl rfl fun v p u ⟨h1, h2, hlast, hlen, hgood⟩ => ⟨by simp [cmdRouteWrite, lenCount, h1, h2, hlast, hlen], ?_⟩
    refine (whenOk_true _ _ _ (elements_map_all fun i hi => by simp [hgood i hi])).trans ?_
    exact writePending_congr fun t => congrArg (fun m => { t with routes := m }) (elements_map_consecutive rfl 4 16 _ _ p t.routes)
  case container =>
    refine carries_containerSet.runs_epochRecorded rfl rfl fun v p u ⟨hlen, hsub, hrec, hz3, hm1, hm2, hfl, hz30⟩ => ⟨lenIs_of_length hlen, whenOk_true _ _ _ ?_⟩
    simp [res0, hsub, hrec, hz3, hm1, hm2, hfl, hz30]
  case linFrames =>
    refine carries_linFrames.runs_epochRecorded rfl rfl fun v p u ⟨h1, h2, hlast, hlen, hch, hz, hgood⟩ => ⟨by simp [cmdLinFrames, lenCount, h1, h2, hlast, hlen], ?_⟩
    have hents := elements_all (fun e => decide (1 ≤ numAt e 0 1) && decide (numAt e 0 1 ≤ 8) && decide (numAt e 1 1 ≤ 1) && decide (numAt e 2 1 ≤ 2) && res0 [(3, 1)] e) 4 12 (numAt p 2 1) p
      fun i hi => by
        obtain ⟨hl1, hl2, hsum, hrole, hres⟩ := hgood i hi
        simp only [hl1, hl2, hsum, hrole, res0_of_zeros hres, decide_true, Bool.and_self]
    refine (whenOk_true _ _ _ ?_).trans ?_
    · simp only [hents, hch, res0_of_zeros hz, decide_true, Bool.and_self]
    · exact writePending_congr fun t => congrArg (fun m => { t with linFrames := m }) (elements_consecutive {} linFrameOf 4 12 (numAt p 2 1) (numAt p 0 1 * 64 + numAt p 1 1) p t.linFrames)
  case linSchedule =>
    refine carries_linSchedule.runs_epochRecorded rfl rfl fun v p u ⟨h1, h2, hlen, hch, htable, hz, hgood⟩ => ⟨by simp [cmdLinSchedule, lenCount, h1, h2, hlen], ?_⟩
    have hents := elements_map_all (f := fun e => BitVec.ofNat 32 (beNat e)) (q := fun e => decide (bits e 31 24 ≤ 63) && decide (bits e 23 16 ≤ 2) && decide (1 ≤ bits e 15 0)) (off := 4) (w := 4)
      (n := numAt p 2 1) (p := p) fun i hi => by
        obtain ⟨hid, htype, hdelay⟩ := hgood i hi
        simp only [hid, htype, hdelay, decide_true, Bool.and_self]
    refine (whenOk_true _ _ _ ?_).trans ?_
    · simp only [hents, hch, htable, res0_of_zeros hz, decide_true, Bool.and_self]
    · simp only [elements, List.map_map, Function.comp_def]
  case linSelect =>
    exact carries_linSelect.runs_recorded rfl rfl fun v p u ⟨hlen, hch, htable, hz⟩ => ⟨lenIs_of_length hlen, whenOk_true _ _ _ (by simp [res0_of_zeros hz, hch, htable])⟩
  case slots =>
    refine carries_slotTable.runs_epochRecorded rfl rfl fun v p u ⟨h1, h2, hlast, hlen, hch, hz, hgood⟩ => ⟨by simp [cmdSlotTable, lenCount, h1, h2, hlast, hlen], ?_⟩
    have hents := elements_all (fun e => decide (numAt e 16 1 ≤ 1) && res0 [(17, 3)] e && !(keyBad (BitVec.ofNat 128 (numAt e 0 16)) u)) 4 20 (numAt p 2 1) p fun i hi => by
      obtain ⟨hrep, hres, hkey⟩ := hgood i hi
      simp only [hrep, hkey, res0_of_zeros hres, decide_true, Bool.not_false, Bool.and_self]
    refine (whenOk_true _ _ _ ?_).trans ?_
    · simp only [hents, hch, res0_of_zeros hz, decide_true, Bool.and_self]
    · exact writePending_congr fun t => congrArg (fun m => { t with slots := m }) (elements_consecutive {} slotOf 4 20 (numAt p 2 1) (numAt p 0 1 * 64 + numAt p 1 1) p t.slots)
  case recover =>
    refine carries_busRecover.runs rfl fun v p u ⟨hlen, hch, hz, hoff⟩ => ⟨lenIs_of_length hlen, ?_⟩
    exact (if_neg (by simp [Nat.le_of_lt (Nat.lt_of_lt_of_le hch (by decide : 16 ≤ 31)), res0_of_zeros hz])).trans (if_neg (by simp [hch, hoff]))
  case rates =>
    refine carries_rateCand.runs_recorded rfl rfl fun v p u ⟨h1, h2, hlen, hch, hz, hc1, hc2, hd1, hd2, hcommit, hgood⟩ => ⟨by simp [cmdRateCand, lenCount, h1, h2, hlen], ?_⟩
    have hents := elements_map_all (f := fun e => BitVec.ofNat 64 (beNat e)) (q := fun e => decide (bits e 7 0 = 0) && !(timingBad (applyCandidate (getCan (numAt p 0 1) u).record e))) (off := 8) (w := 8)
      (n := numAt p 2 1) (p := p) fun i hi => by
        obtain ⟨hres, htiming⟩ := hgood i hi
        simp only [hres, htiming, decide_true, Bool.not_false, Bool.and_self]
    refine (whenOk_true _ _ _ ?_).trans ?_
    · simp only [hents, hch, hc1, hc2, hd1, hd2, hcommit, res0_of_zeros hz, decide_true, Bool.and_self]
    · simp only [elements, List.map_map, Function.comp_def]
  case iso =>
    refine carries_isoInstance.runs_epochRecorded rfl rfl fun v p u ⟨hlen, hi, hown, hz10, hz30, hapart, haddr, hothers⟩ => ⟨lenIs_of_length hlen, whenOk_true _ _ _ ?_⟩
    have hfree : ((pendingTables u).isos.filter (fun e => e.1 != numAt p 0 1)).all
        (fun e => decide ((e.2.tractor ||| e.2.implement) &&& (BitVec.ofNat 32 (numAt p 2 4) ||| BitVec.ofNat 32 (numAt p 6 4)) = 0)) = true :=
      List.all_eq_true.mpr fun e he =>
        have ⟨hmem, hne⟩ := List.mem_filter.mp he
        decide_eq_true ((hothers e hmem).resolve_left (by simpa using hne))
    have hclaims : (!(numAt p 1 1 == 1) || (decide (numAt p 20 1 ≤ 253) && decide (numAt p 29 1 ≤ 253))) = true := by
      obtain hnone | ⟨ht, him⟩ := haddr
      · rw [hnone]; rfl
      · simp [ht, him]
    simp only [hfree, hclaims, decide_eq_true hapart, decide_eq_true hi, decide_eq_true hown]
    simp [res0, hz10, hz30]
  case status => exact carries_channelStatus.runs rfl fun v p u ⟨hlen, hch, hz⟩ => ⟨lenIs_of_length hlen, whenOk_true _ _ _ (by simp [res0_of_zeros hz, hch])⟩

/-! The Selvage class -/

theorem carries_linkSet : Carries .linkSet cmdLinkSet := ⟨fun _ _ => rfl, rfl, by decide⟩
theorem carries_linkStatus : Carries .linkStatus cmdLinkStatus := ⟨fun _ _ => rfl, rfl, by decide⟩
theorem carries_linkRedetect : Carries .linkRedetect cmdLinkRedetect := ⟨fun _ _ => rfl, rfl, by decide⟩
theorem carries_unhitch : Carries .unhitch cmdUnhitch := ⟨fun _ _ => rfl, rfl, by decide⟩
theorem carries_discConfig : Carries .discConfig cmdDiscConfig := ⟨fun _ _ => rfl, rfl, by decide⟩
theorem carries_discWrite : Carries .discWrite cmdDiscWrite := ⟨fun _ _ => rfl, rfl, by decide⟩
theorem carries_discTable : Carries .discTable cmdDiscTable := ⟨fun _ _ => rfl, rfl, by decide⟩
theorem carries_dccbSend : Carries .dccbSend cmdDccbSend := ⟨fun _ _ => rfl, rfl, by decide⟩
theorem carries_dccbRecv : Carries .dccbRecv cmdDccbRecv := ⟨fun _ _ => rfl, rfl, by decide⟩
theorem carries_zoneTable : Carries .zoneTable cmdZoneTable := ⟨fun _ _ => rfl, rfl, by decide⟩
theorem carries_ttRead : Carries .ttRead cmdTtRead := ⟨fun _ _ => rfl, rfl, by decide⟩

theorem linkOk_of {p : List Byte} (hl : numAt p 0 1 ≤ 1) (hz : zeros 1 3 p) : linkOk p = true := by simp [linkOk, hl, res0_of_zeros hz]

/-- A request to a link that is enabled takes its effect. -/
theorem enabledLink_body {p : List Byte} {on : Bool} {a b r : CmdResult} (hl : linkOk p = true) (hon : on = true) : (if !(linkOk p) then a else if !on then b else r) = r := by
  simp [hl, hon]

theorem linkRedetect_body {v : Via} {p : List Byte} {u : State} (hl : linkOk p = true) (hon : (getLink (numAt p 0 1) u).enabled = true) :
    cmdLinkRedetect.body v p u = done [] (toDetect (numAt p 0 1) u) := by
  simp only [cmdLinkRedetect]
  exact enabledLink_body hl hon

theorem unhitch_body {v : Via} {p : List Byte} {u : State} (hl : linkOk p = true) (hon : (getLink (numAt p 0 1) u).enabled = true) :
    cmdUnhitch.body v p u = done [] (unhitchLink (numAt p 0 1) (sendMsg (numAt p 0 1) 5 [] u)) := by
  simp only [cmdUnhitch]
  exact enabledLink_body hl hon

/-- The body of DCCB_RECV takes the oldest message, and nothing where there is none (R209). -/
theorem dccbRecv_body {v : Via} {p : List Byte} {u : State} (hl : linkOk p = true) :
    cmdDccbRecv.body v p u = done ((getLink (numAt p 0 1) u).dccB.inbox.headD [])
      (if (getLink (numAt p 0 1) u).dccB.inbox = [] then u
        else setLink (numAt p 0 1) { getLink (numAt p 0 1) u with dccB := { (getLink (numAt p 0 1) u).dccB with inbox := (getLink (numAt p 0 1) u).dccB.inbox.tail } } u) := by
  refine (whenOk_true _ _ _ hl).trans ?_
  cases (getLink (numAt p 0 1) u).dccB.inbox with
  | nil => rfl
  | cons m rest => rfl

/-- Settles O18: each clause is what the opcode's body answers. -/
theorem selvageCommandsRun : Obligations.SelvageCommandsRun := by
  refine ⟨?set, ?status, ?redetect, ?unhitch, ?config, ?write, ?table, ?send, ?recv, ?zones, ?tt⟩
  case set =>
    refine carries_linkSet.runs_recorded rfl rfl fun v p u ⟨hlen, hl, hz, hgood, hstop, hpool⟩ => ⟨lenIs_of_length hlen, ?_⟩
    refine (if_neg (by simp [linkOk_of hl hz, hgood])).trans <| (if_neg fun ⟨hon, hother⟩ => ?_).trans (if_neg (by simp only [poolFits, decide_eq_true hpool]; decide))
    exact hstop.elim (fun hoff => Bool.false_ne_true (hoff.symm.trans hon)) hother
  case status => exact carries_linkStatus.runs rfl fun v p u ⟨hlen, hl, hz⟩ => ⟨lenIs_of_length hlen, whenOk_true _ _ _ (linkOk_of hl hz)⟩
  case redetect => exact carries_linkRedetect.runs rfl fun v p u ⟨hlen, hl, hz, hon⟩ => ⟨lenIs_of_length hlen, by rw [linkRedetect_body (linkOk_of hl hz) hon]⟩
  case unhitch => exact carries_unhitch.runs rfl fun v p u ⟨hlen, hl, hz, hon⟩ => ⟨lenIs_of_length hlen, by rw [unhitch_body (linkOk_of hl hz) hon]⟩
  case config => exact carries_discConfig.runs_recorded rfl rfl fun v p u ⟨hlen, hl, hz⟩ => ⟨lenIs_of_length hlen, whenOk_true _ _ _ (linkOk_of hl hz)⟩
  case write => exact carries_discWrite.runs rfl fun v p u ⟨hlen, hl, hz⟩ => ⟨lenIs_of_length hlen, whenOk_true _ _ _ (linkOk_of hl hz)⟩
  case table =>
    refine carries_discTable.runs_epochRecorded rfl rfl fun v p u ⟨h1, h2, hlast, hlen, hl, hz, hgood⟩ => ⟨by simp [cmdDiscTable, lenCount, h1, h2, hlast, hlen], ?_⟩
    have hents := elements_all (fun e => !(keyBad (BitVec.ofNat 128 (numAt e 0 16)) u)) 4 24 (numAt p 2 1) p fun i hi => by simp only [hgood i hi, Bool.not_false]
    refine (whenOk_true _ _ _ ?_).trans ?_
    · simp only [hents, hl, res0_of_zeros hz, decide_true, Bool.and_self]
    · exact writePending_congr fun t => congrArg (fun m => { t with discs := m }) (elements_consecutive {} discOf 4 24 (numAt p 2 1) (numAt p 0 1 * 16 + numAt p 1 1) p t.discs)
  case send =>
    refine carries_dccbSend.runs rfl fun v p u ⟨h8, h520, hn, hl, hz, hkind⟩ => ⟨by simp [cmdDccbSend, h8, h520, hn], whenOk_true _ _ _ ?_⟩
    simp [linkOk_of hl hz, hkind]
  case recv => exact carries_dccbRecv.runs rfl fun v p u ⟨hlen, hl, hz⟩ => ⟨lenIs_of_length hlen, dccbRecv_body (linkOk_of hl hz)⟩
  case zones =>
    refine carries_zoneTable.runs_recorded rfl rfl fun v p u ⟨hn, hlen, hl, hz, hd1, hd2, hu1, hu2, hgood⟩ => ⟨by simp [cmdZoneTable, lenCount, hn, hlen], ?_⟩
    have hents := elements_all (fun e => decide (numAt e 1 1 ≤ 15) && decide (numAt e 2 1 ≤ 15) && res0 [(3, 1)] e) 8 4 (numAt p 1 1) p fun i hi => by
      obtain ⟨ht, hv, hres⟩ := hgood i hi
      simp only [ht, hv, res0_of_zeros hres, decide_true, Bool.and_self]
    refine (whenOk_true _ _ _ ?_).trans ?_
    · simp only [hents, hl, hd1, hd2, hu1, hu2, res0_of_zeros hz, decide_true, Bool.and_self]
    · simp only [elements, List.map_map, Function.comp_def]
  case tt => exact carries_ttRead.runs rfl fun v p u ⟨hlen, hl, hz⟩ => ⟨lenIs_of_length hlen, whenOk_true _ _ _ (linkOk_of hl hz)⟩

end Sys2Proof.Machine
end

section
/-! Proofs/SlotUpdateAndCipherCommands: the journal update of a key slot, what the bodies of the Cipher class answer, and the clauses about both (R272, R274, R327, R329). -/

namespace Sys2Proof.Machine
open Sys2Proof.Claims

/-! Byte strings as numbers (R10) -/

theorem beNat_lt (bs : List Byte) : beNat bs < 256 ^ bs.length := by
  induction bs with
  | nil => decide
  | cons b t ih =>
    have hb : b.toNat < 256 := b.isLt
    have hmul := Nat.mul_le_mul_right (256 ^ t.length) (Nat.succ_le_of_lt hb)
    rw [Nat.succ_mul] at hmul
    rw [beNat_cons, List.length_cons, Nat.pow_succ]
    omega

theorem beNat_inj {a b : List Byte} (hlen : a.length = b.length) (h : beNat a = beNat b) : a = b := by
  induction a generalizing b with
  | nil => exact (List.eq_nil_of_length_eq_zero hlen.symm).symm
  | cons x a ih =>
    obtain - | ⟨y, b⟩ := b
    · exact absurd hlen (by simp)
    have hlen' : a.length = b.length := Nat.succ.inj hlen
    have ha := beNat_lt a
    have hb := beNat_lt b
    rw [beNat_cons, beNat_cons, hlen'] at h
    rw [hlen'] at ha
    have hpos : 0 < 256 ^ b.length := Nat.lt_of_le_of_lt (Nat.zero_le _) hb
    have hhead : x.toNat = y.toNat := by
      have hx := congrArg (· / 256 ^ b.length) h
      simpa only [Nat.mul_comm _ (256 ^ b.length), Nat.mul_add_div hpos, Nat.div_eq_of_lt ha, Nat.div_eq_of_lt hb, Nat.add_zero] using hx
    rw [hhead] at h
    rw [BitVec.eq_of_toNat_eq hhead, ih hlen' (by omega)]

theorem natBytes_beNat (bs : List Byte) : natBytes bs.length (beNat bs) = bs :=
  beNat_inj (natBytes_length _ _) (by rw [beNat_natBytes, Nat.mod_eq_of_lt (beNat_lt bs)])

/-! Sealed commit and key records (R272) -/

theorem crcByteMsb_lt {poly : Nat} (hpoly : poly < 2 ^ 32) (n : Nat) {c : Nat} (hc : c < 2 ^ 32) : crcByteMsb 32 poly n c < 2 ^ 32 := by
  induction n generalizing c with
  | zero => exact hc
  | succ n ih =>
    have hshift : (c <<< 1) % 2 ^ 32 < 2 ^ 32 := Nat.mod_lt _ (by decide)
    simp only [crcByteMsb]
    split
    · exact ih (Nat.xor_lt_two_pow hshift hpoly)
    · exact ih hshift

theorem crc157_lt (m : List Byte) : crc157 m < 2 ^ 32 := by
  have hfold : ∀ (l : List Byte) {c : Nat}, c < 2 ^ 32 → l.foldl (fun c b => crcByteMsb 32 0x04C11DB7 8 (c ^^^ (b.toNat <<< 24))) c < 2 ^ 32 := by
    intro l
    induction l with
    | nil => exact fun hc => hc
    | cons b l ih =>
      intro c hc
      refine ih (crcByteMsb_lt (by decide) 8 (Nat.xor_lt_two_pow hc ?_))
      have hb : b.toNat < 256 := b.isLt
      rw [Nat.shiftLeft_eq]
      omega
  exact Nat.xor_lt_two_pow (hfold m (by decide)) (by decide)

/-- What a sealed commit record holds. -/
theorem sealCommit_fields (n : Nat) {g : Nat} (hg : g < 2 ^ 32) (active empty : Bool) :
    bits (sealCommit n g active empty) 127 96 = g ∧ (sealCommit n g active empty).getLsbD 95 = active ∧ (sealCommit n g active empty).getLsbD 94 = empty := by
  unfold sealCommit bits
  have hc := crc157_lt (natBytes 1 n ++ natBytes 12 ((g <<< 64) + (if active then 1 <<< 63 else 0) + (if empty then 1 <<< 62 else 0)))
  simp only [BitVec.getLsbD_ofNat, BitVec.toNat_ofNat, Nat.testBit_eq_decide_div_mod_eq, Nat.shiftLeft_eq, Nat.shiftRight_eq_div_pow] at hc ⊢
  generalize crc157 _ = crc at hc ⊢
  cases active <;> cases empty <;> simp <;> omega

/-- What a sealed key record holds: the value in its upper half, the attributes below it. -/
theorem sealRecord_fields (n : Nat) (v : List Byte) (a : BitVec 128) {g : Nat} (hg : g < 2 ^ 32) (hv : v.length ≤ 32) :
    bits (sealRecord n v a g) 511 256 = beNat (v ++ List.replicate (32 - v.length) 0) ∧ bits (sealRecord n v a g) 255 128 = a.toNat := by
  unfold sealRecord bits
  have hc := crc157_lt (natBytes 1 n ++ natBytes 60 ((beNat (v ++ List.replicate (32 - v.length) 0) <<< 224) + (a.toNat <<< 96) + (g <<< 64)))
  have hval : beNat (v ++ List.replicate (32 - v.length) 0) < 256 ^ 32 := by
    have h := beNat_lt (v ++ List.replicate (32 - v.length) 0)
    rwa [List.length_append, List.length_replicate, Nat.add_sub_cancel' hv] at h
  have ha := a.isLt
  simp only [BitVec.toNat_ofNat, Nat.shiftLeft_eq, Nat.shiftRight_eq_div_pow] at hc ⊢
  generalize crc157 _ = crc at hc ⊢
  generalize beNat _ = val at hval ⊢
  omega

theorem mapGet_mapSet_apart {α : Type} [DecidableEq α] (d e : α) (m : SMap α) {k j : Nat} (x : α) (h : j ≠ k) : mapGet d (mapSet e m k x) j = mapGet d m j := by
  unfold mapSet
  split
  · exact mapGet_mapErase_other d m h
  · exact mapGet_mapPut_other d m x h

theorem getSlot_setSlot_same (n : Nat) (x : SlotSt) (s : State) : getSlot n (setSlot n x s) = x := mapGet_mapSet_same _ _ _ _

theorem getSlot_setSlot_other {k n : Nat} (x : SlotSt) (s : State) (h : k ≠ n) : getSlot k (setSlot n x s) = getSlot k s := mapGet_mapSet_apart _ _ _ _ h

theorem slotGen_lt (n : Nat) (s : State) : slotGen n s < 2 ^ 32 := Nat.mod_lt _ (by decide)

/-- The record that an update seals, and the slot with that record in force (R272). -/
def nextRecord (n : Nat) (new : Option (List Byte × BitVec 128)) (s : State) : BitVec 512 :=
  match new with
  | some (v, a) => sealRecord n v a (slotGen n s + 1)
  | none => sealRecord n [] emptyAttr (slotGen n s + 1)

/-- The slot as an update leaves it. -/
def updatedSlot (n : Nat) (new : Option (List Byte × BitVec 128)) (s : State) : SlotSt :=
  let x := getSlot n s
  let b := x.cr0.getLsbD 95
  let c := sealCommit n (slotGen n s + 1) (!b) new.isNone
  let old : BitVec 512 := if new.isNone then 0 else if b then x.recB else x.recA
  { x with cr0 := c, cr1 := c, recA := if b then nextRecord n new s else old, recB := if b then old else nextRecord n new s }

/-- An update is that of its slot alone (R272, R274). -/
theorem updateSlot_slots {n : Nat} {new : Option (List Byte × BitVec 128)} {s t : State} (h : updateSlot n new s = some t) :
    slotGen n s + 1 < 2 ^ 32 ∧ getSlot n t = updatedSlot n new s ∧ ∀ k, k ≠ n → getSlot k t = getSlot k s := by
  unfold updateSlot at h
  simp only at h
  split at h
  · cases h
  next hroom =>
  have hgen := slotGen_lt n s
  obtain rfl := Option.some.inj h
  exact ⟨by omega, (getSlot_setSlot_same n _ _).trans (by cases new <;> rfl), fun k hk => getSlot_setSlot_other _ _ hk⟩

/-- The record that the commit record of an updated slot names is the one sealed. -/
theorem updatedSlot_record (n : Nat) (new : Option (List Byte × BitVec 128)) (s : State) :
    (if (!(getSlot n s).cr0.getLsbD 95) then (updatedSlot n new s).recB else (updatedSlot n new s).recA) = nextRecord n new s := by
  simp only [updatedSlot]
  cases (getSlot n s).cr0.getLsbD 95 <;> rfl

/-- Settles O20: the commit record names the new record, which holds what was loaded. -/
theorem slotUpdateRaisesGeneration : Obligations.SlotUpdateRaisesGeneration := by
  intro n new s t h
  obtain ⟨hroom, hslot, hothers⟩ := updateSlot_slots h
  have hcommit : (getSlot n t).cr0 = sealCommit n (slotGen n s + 1) (!(getSlot n s).cr0.getLsbD 95) new.isNone := by rw [hslot]; rfl
  obtain ⟨hgen, hactive, hempty⟩ := sealCommit_fields n hroom (!(getSlot n s).cr0.getLsbD 95) new.isNone
  rw [← hcommit] at hgen hactive hempty
  refine ⟨hgen, hempty, hothers, fun v a hnew hlen => ?_⟩
  have hinforce : slotRecord n t = sealRecord n v a (slotGen n s + 1) := by
    have hnamed := updatedSlot_record n new s
    rw [← hactive, ← hslot, hnew] at hnamed
    exact hnamed
  have hlen32 : v.length ≤ 32 := by rw [hlen]; unfold typeLen; split <;> decide
  obtain ⟨hvalue, hattr⟩ := sealRecord_fields n v a hroom hlen32
  have hkept : slotEmpty n t = false := hempty.trans (by rw [hnew]; rfl)
  have hattrs : slotAttr n t = a := by
    rw [slotAttr, hkept, hinforce, hattr]
    exact BitVec.ofNat_toNat 128 a |>.trans (BitVec.setWidth_eq a)
  refine ⟨hattrs, ?_⟩
  have hpadded : natBytes 32 (beNat (v ++ List.replicate (32 - v.length) 0)) = v ++ List.replicate (32 - v.length) 0 := by
    have hb := natBytes_beNat (v ++ List.replicate (32 - v.length) 0)
    rwa [List.length_append, List.length_replicate, Nat.add_sub_cancel' hlen32] at hb
  rw [slotValue, hattrs, hinforce, hvalue, hpadded, ← hlen, List.take_left']
  rfl

/-! The Cipher class -/

theorem carries_ctxWrite : Carries .ctxWrite cmdCtxWrite := ⟨fun _ _ => rfl, rfl, by decide⟩
theorem carries_ctxRead : Carries .ctxRead cmdCtxRead := ⟨fun _ _ => rfl, rfl, by decide⟩
theorem carries_saWrite : Carries .saWrite cmdSaWrite := ⟨fun _ _ => rfl, rfl, by decide⟩
theorem carries_saRead : Carries .saRead cmdSaRead := ⟨fun _ _ => rfl, rfl, by decide⟩
theorem carries_stage : Carries .stage cmdStage := ⟨fun _ _ => rfl, rfl, by decide⟩
theorem carries_stageClear : Carries .stageClear cmdStageClear := ⟨fun _ _ => rfl, rfl, by decide⟩
theorem carries_stageRead : Carries .stageRead cmdStageRead := ⟨fun _ _ => rfl, rfl, by decide⟩
theorem carries_hmac : Carries .hmac cmdHmac := ⟨fun _ _ => rfl, rfl, by decide⟩
theorem carries_cmac : Carries .cmac cmdCmac := ⟨fun _ _ => rfl, rfl, by decide⟩
theorem carries_gcmSeal : Carries .gcmSeal cmdGcmSeal := ⟨fun _ _ => rfl, rfl, by decide⟩
theorem carries_gcmOpen : Carries .gcmOpen cmdGcmOpen := ⟨fun _ _ => rfl, rfl, by decide⟩
theorem carries_modeSet : Carries .modeSet cmdModeSet := ⟨fun _ _ => rfl, rfl, by decide⟩
theorem carries_katRun : Carries .katRun cmdKatRun := ⟨fun _ _ => rfl, rfl, by decide⟩

theorem opLen_of {fixed : Nat} {p : List Byte} (h : fixed ≤ p.length) (hstaged : numAt p 2 1 = 1 → p.length = fixed) : opLen fixed p = true := by
  unfold opLen
  rw [decide_eq_true h, Bool.true_and, Bool.or_eq_true, bne_iff_ne, beq_iff_eq]
  exact (Decidable.em (numAt p 2 1 = 1)).symm.imp id hstaged

/-- An operation that succeeds on its operand has its output in the reply, or in the staging buffer (R329, log entry 38). -/
theorem stagedOp_done {staged : Nat} {v : Via} {carried out : List Byte} {op : List Byte → State → CmdResult} {u t : State} (h : op (operand v staged carried u) u = done out t) :
    stagedOp staged v carried op u = done (operated v staged out t).2 (operated v staged out t).1 := by
  by_cases hcarried : staged = 0
  · simpa [stagedOp, operand, operated, hcarried] using h
  · simp only [operand, if_neg hcarried] at h
    simp [stagedOp, operated, hcarried, h, done]

section
variable {m : Master} {w : World} {u : State} {n : Nat}

theorem hmacOp_done {len : Nat} {msg : List Byte} (hmsg : msg.length ≤ 8192) (hlen : len = 16 ∨ len = 32) (hkey : usable n m w .hmac u) :
    hmacOp n len msg m w u = done ((hmacSha256 (slotValue n u) msg).take len) (masked n u) := by
  have hslot : n < 64 := hkey.1
  have hnot : ¬ (len ≠ 16 ∧ len ≠ 32) := by omega
  have hroot : n ≠ 255 := by omega
  simp [hmacOp, msgTooLong, Nat.not_lt.mpr hmsg, hnot, hroot, Nat.not_le.mpr hslot, fetchKey_of_usable hkey]

variable (hkey : usable n m w .cipher u) {tag : Nat} (h4 : 4 ≤ tag) (h16 : tag ≤ 16)
include hkey h4 h16

theorem cmacOp_done {msg : List Byte} (hmsg : msg.length ≤ 8192) : cmacOp n tag msg m w u = done ((cmacAes (slotValue n u) msg).take tag) (masked n u) := by
  have hslot : n < 64 := hkey.1
  simp [cmacOp, msgTooLong, Nat.not_lt.mpr hmsg, Nat.not_lt.mpr h4, Nat.not_lt.mpr h16, Nat.not_le.mpr hslot, fetchKey_of_usable hkey]

theorem sealOp_done {aad text iv ct : List Byte} (hmsg : (aad ++ text).length ≤ 8192) (hinv : invocation n u ≠ 2 ^ 32 - 1) (hcount : u.boot.count ≠ 2 ^ 32 - 1)
    (hiv : iv = natBytes 4 n ++ natBytes 4 u.boot.count ++ natBytes 4 (invocation n u)) (hct : ct = gcmText (slotValue n u) iv text) :
    sealOp n tag aad text m w u = done (iv ++ ct ++ (gcmTag (slotValue n u) iv aad ct).take tag)
      { masked n u with bod := { (masked n u).bod with invocation := mapSet 1 (masked n u).bod.invocation n (invocation n u + 1) } } := by
  have hslot : n < 64 := hkey.1
  have hguard : ¬ (msgTooLong (aad ++ text) = true ∨ tag < 4 ∨ tag > 16) := by simp only [msgTooLong, decide_eq_true_eq]; omega
  subst hct hiv
  simp only [sealOp, if_neg hguard, if_neg (Nat.not_le.mpr hslot), fetchKey_of_usable hkey, if_neg (not_or.mpr ⟨hinv, hcount⟩), deliveredShares_key]

theorem openOp_done {iv aad text t : List Byte} (hmsg : (aad ++ text).length ≤ 8192) (ht : t.length = tag) (hiv : iv.length = 12)
    (hauth : (gcmTag (slotValue n u) iv aad text).take tag = t) : openOp n tag iv aad text t m w u = done (gcmText (slotValue n u) iv text) (masked n u) := by
  have hslot : n < 64 := hkey.1
  have hguard : ¬ (msgTooLong (aad ++ text) = true ∨ tag < 4 ∨ tag > 16 ∨ t.length ≠ tag ∨ iv.length ≠ 12) := by simp only [msgTooLong, decide_eq_true_eq]; omega
  simp only [openOp, if_neg hguard, if_neg (Nat.not_le.mpr hslot), fetchKey_of_usable hkey, deliveredShares_key, if_pos hauth]

end

/-- A context that is no CAN context is written as it stands, but for its world (R290, R291). -/
theorem ctxWrite_done {c : Nat} {r : BitVec 256} {v : Via} {u : State} (hc : c < 2048) (hgood : ctxBad r u = false) (htype : bits r 255 254 ≠ 3) :
    ctxWrite c r v u = done [] (forUpTo 4 (fun an t => softSa c an t) (setCtx c { getCtx c u with record := putField r 250 250 (if viaWorld v = .openW then 1 else 0) } u)) := by
  simp only [ctxWrite]
  exact (if_neg (by simp [hc, hgood])).trans (if_pos htype)

/-- A secure association with another key, SCI or salt than its place held starts afresh (R295). -/
theorem saWrite_done {c an : Nat} {e : BitVec 256} {u : State} (hc : c < 2048) (han : an < 4) (htype : bits (getCtx c u).record 255 254 = 1 ∨ bits (getCtx c u).record 255 254 = 2)
    (hgood : saBad (getCtx c u).record e = false) (hpass : passTypeOk (getCtx c u).record (bits e 254 249) u = true) (hmay : mayUse (bits e 254 249) .bodkin (ctxWorld (getCtx c u).record) .cipher u = true)
    (hnew : bits (getSa (4 * c + an) u) 254 249 ≠ bits e 254 249 ∨ bits (getSa (4 * c + an) u) 216 201 ≠ bits e 216 201 ∨ bits (getSa (4 * c + an) u) 199 72 ≠ bits e 199 72
      ∨ bits (getSa (4 * c + an) u) 248 217 ≠ slotGen (bits e 254 249) u) :
    saWrite c an e u = done [] (softSa c an (setSa (4 * c + an) (putField (putField e 248 217 (slotGen (bits e 254 249) u)) 1 0 0) u)) := by
  have hother : (decide (bits (getSa (4 * c + an) u) 254 249 = bits e 254 249) && decide (bits (getSa (4 * c + an) u) 216 201 = bits e 216 201)
      && decide (bits (getSa (4 * c + an) u) 199 72 = bits e 199 72) && decide (bits (getSa (4 * c + an) u) 248 217 = slotGen (bits e 254 249) u)) = false := by
    simpa only [Bool.and_eq_false_iff, decide_eq_false_iff_not, or_assoc] using hnew
  have hknown : ¬ (bits (getCtx c u).record 255 254 ≠ 1 ∧ bits (getCtx c u).record 255 254 ≠ 2) := fun ⟨h1, h2⟩ => htype.elim h1 h2
  simp only [saWrite, hother]
  exact (if_neg (by simp [hc, han, hgood, hpass, hknown])).trans <| (if_neg (by simp [hmay])).trans (if_neg (by simp))

/-- SERVICE and TEST are entered from the modes that allow them (R303). -/
theorem bodModeSet_done {n : Nat} {u : State} (h : (n = 2 ∧ u.bod.mode = .service) ∨ (n = 1 ∧ (u.bod.mode = .service ∨ u.bod.mode = .test))) :
    bodModeSet n u = done [] { u with bod := { u.bod with mode := if n = 2 then .test else .service } } := by
  obtain ⟨rfl, hmode⟩ | ⟨rfl, hmode⟩ := h
  · exact if_pos hmode
  · exact if_pos hmode

/-- Settles O21: each clause is what the opcode's body answers. -/
theorem cipherCommandsRun : Obligations.CipherCommandsRun := by
  refine ⟨?ctxW, ?ctxR, ?saW, ?saR, ?stage, ?clear, ?stageR, ?hmac, ?cmac, ?gcmSeal, ?gcmOpen, ?mode, ?kat⟩
  case ctxW =>
    refine carries_ctxWrite.runs_recorded rfl rfl fun v p u ⟨hlen, hz, hc, hgood, htype⟩ => ⟨lenIs_of_length hlen, ?_⟩
    exact (whenOk_true _ _ _ (res0_of_zeros hz)).trans (ctxWrite_done hc hgood htype)
  case ctxR => exact carries_ctxRead.runs rfl fun v p u ⟨hlen, hc, hz⟩ => ⟨lenIs_of_length hlen, whenOk_true _ _ _ (by simp [hc, res0_of_zeros hz])⟩
  case saW =>
    refine carries_saWrite.runs_recorded rfl rfl fun v p u ⟨hlen, hz, hc, han, htype, hgood, hpass, hmay, hnew⟩ => ⟨lenIs_of_length hlen, ?_⟩
    exact (whenOk_true _ _ _ (res0_of_zeros hz)).trans (saWrite_done hc han htype hgood hpass hmay hnew)
  case saR => exact carries_saRead.runs rfl fun v p u ⟨hlen, hc, han, hz⟩ => ⟨lenIs_of_length hlen, whenOk_true _ _ _ (by simp [hc, han, res0_of_zeros hz])⟩
  case stage =>
    refine carries_stage.runs rfl fun v p u ⟨h1, h4096, hroom⟩ => ⟨by simp [cmdStage, h1, h4096], ?_⟩
    exact if_neg (by rw [List.length_append]; omega)
  case clear => exact carries_stageClear.runs rfl fun _ _ _ hp => ⟨hp ▸ lenIs_nil, rfl⟩
  case stageR => exact carries_stageRead.runs rfl fun v p u ⟨hlen, h1, h4096, hin⟩ => ⟨lenIs_of_length hlen, if_neg (by omega)⟩
  case hmac =>
    refine carries_hmac.runs rfl fun v p u ⟨hfix, hst, hlen, hz, hmsg, hsize, hkey⟩ => ⟨opLen_of hfix hlen, ?_⟩
    exact (whenOk_true _ _ _ (by simp [hst, res0_of_zeros hz])).trans (stagedOp_done (hmacOp_done hmsg hsize hkey))
  case cmac =>
    refine carries_cmac.runs rfl fun v p u ⟨hfix, hst, hlen, hz, hmsg, h4, h16, hkey⟩ => ⟨opLen_of hfix hlen, ?_⟩
    exact (whenOk_true _ _ _ (by simp [hst, res0_of_zeros hz])).trans (stagedOp_done (cmacOp_done hkey h4 h16 hmsg))
  case gcmSeal =>
    refine carries_gcmSeal.runs rfl fun v p u ⟨hfix, hst, hlen, hz3, hz6, hmsg, haad, h4, h16, hkey, hinv, hcount⟩ => ⟨opLen_of hfix hlen, ?_⟩
    refine (whenOk_true _ _ _ (by simp [res0, hst, hz3, hz6])).trans (stagedOp_done ?_)
    exact (if_neg (Nat.not_lt.mpr haad)).trans (sealOp_done hkey h4 h16 (by rwa [List.take_append_drop]) hinv hcount rfl rfl)
  case gcmOpen =>
    refine carries_gcmOpen.runs rfl fun v p u ⟨hfix, hst, hlen, hz3, hz6, hmsg, hfits, h4, h16, hkey, hauth⟩ => ⟨opLen_of hfix hlen, ?_⟩
    refine (whenOk_true _ _ _ (by simp [res0, hst, hz3, hz6])).trans (stagedOp_done ?_)
    refine (if_neg (Nat.not_lt.mpr hfits)).trans (openOp_done hkey h4 h16 ?_ ?_ ?_ hauth)
    · simp only [List.length_append, List.length_take, List.length_drop]; omega
    · simp only [List.length_drop]; omega
    · simp only [List.length_take, List.length_drop]; omega
  case mode =>
    refine carries_modeSet.runs rfl fun v p u ⟨hlen, hz, hmode⟩ => ⟨lenIs_of_length hlen, ?_⟩
    exact (whenOk_true _ _ _ (res0_of_zeros hz)).trans (bodModeSet_done hmode)
  case kat => exact carries_katRun.runs rfl fun v p u ⟨hlen, hz, hn⟩ => ⟨lenIs_of_length hlen, whenOk_true _ _ _ (by simp [hn, res0_of_zeros hz])⟩

end Sys2Proof.Machine
end

section
/-! Proofs/TwinUpdateAndDiagnosticCommands: what the bodies of the Twin, Update and Diagnostics classes answer, and the clauses about their commands (R327, R330). -/

namespace Sys2Proof.Machine
open Sys2Proof.Claims

/-! The Twin and Update classes -/

theorem carries_twinSet : Carries .twinSet cmdTwinSet := ⟨fun _ _ => rfl, rfl, by decide⟩
theorem carries_twinStatus : Carries .twinStatus cmdTwinStatus := ⟨fun _ _ => rfl, rfl, by decide⟩
theorem carries_relinquish : Carries .relinquish cmdRelinquish := ⟨fun _ _ => rfl, rfl, by decide⟩
theorem carries_fwWrite : Carries .fwWrite cmdFwWrite := ⟨fun _ _ => rfl, rfl, by decide⟩
theorem carries_fwVerify : Carries .fwVerify cmdFwVerify := ⟨fun _ _ => rfl, rfl, by decide⟩
theorem carries_fwSwitch : Carries .fwSwitch cmdFwSwitch := ⟨fun _ _ => rfl, rfl, by decide⟩
theorem carries_fwStatus : Carries .fwStatus cmdFwStatus := ⟨fun _ _ => rfl, rfl, by decide⟩

theorem twinSet_body {v : Via} {p : List Byte} {u : State} (hmode : numAt p 0 1 ≤ 2) (h1 : 1 ≤ numAt p 2 2) (h2 : numAt p 2 2 ≤ 3600) (hz1 : zeros 1 1 p) (hz4 : zeros 4 4 p) :
    cmdTwinSet.body v p u = twinSet (numAt p 0 1) (numAt p 2 2) u := by
  simp only [cmdTwinSet]
  exact if_neg (by simp [res0, hmode, h1, h2, hz1, hz4])

/-- A TWIN_SET that names the mode in force changes the hold-off alone, and forgets what it suppressed (R435). -/
theorem twinSet_same_mode {hold : Nat} (u : State) : twinSet u.twin.mode hold u = done [] (setTwin { u.twin with holdOff := hold, suppressed := false, relinquishes := [] } u) := by
  simp only [twinSet, ne_eq, not_true_eq_false, false_and, ↓reduceIte]

/-- The state in which a module that was no part of a pair waits for its partner (R435, R436). -/
def pairWaits (hold : Nat) (u : State) : State :=
  setTwin { u.twin with holdOff := hold, suppressed := false, relinquishes := [], mode := 1, st := .wait, since := u.cyc, partner := none } u

theorem twinSet_to_pair {hold : Nat} {u : State} (h : u.twin.mode ≠ 1) :
    twinSet 1 hold u = done [] (forUpTo 16 setTransceiver (if twinRole (pairWaits hold u) ≠ twinRole u then sideCause 6 (pairWaits hold u) else pairWaits hold u)) := by
  simp only [twinSet, h, false_and, and_false, ↓reduceIte, Ne.symm h]
  rfl

/-- RELINQUISH runs only in an active pair whose partner is in STANDBY (R451). -/
theorem relinquish_mode {p : List Byte} {u : State} (h : allowed cmdRelinquish p u = true) : pairActive u = true ∧ u.twin.partner = some .standby := by
  simp only [allowed, Bool.and_eq_true] at h
  obtain ⟨-, hmode⟩ := h
  simpa [cmdRelinquish] using hmode

/-- It begins with the final delta, and waits for its acknowledgement (R451). -/
theorem execute_relinquish {m : Msg} {u : State} (h : allowed cmdRelinquish (paramsOf m) u = true) (hlen : (paramsOf m).length = 4) (hz : zeros 0 4 (paramsOf m)) :
    execute ⟨13, 3, m⟩ u = setYel { (finalDelta false u).yel with waiting := some (⟨13, 3, m⟩, .ack, u.cyc + 1000 * msCyc) } (finalDelta false u) := by
  have hactive := (relinquish_mode h).1
  have hlisted : cmdOf 13 3 = some cmdRelinquish := rfl
  have hstart : cmdRelinquish.start (paramsOf m) u = finalDelta false u := if_pos (res0_of_zeros hz)
  have hwaits : cmdRelinquish.waits (paramsOf m) u = some (.ack, u.cyc + 1000 * msCyc) := if_pos (by simp [res0_of_zeros hz, hactive])
  have hgranting : waitOver .ack (finalDelta false u) = false := by simp [waitOver, (finalDelta_twin false u).1]
  have hdomains : cmdRelinquish.domains (paramsOf m) = [] := rfl
  have hlen' : cmdRelinquish.len (paramsOf m) = true := lenIs_of_length hlen
  simp only [execute, hlisted, h, hlen', hdomains, List.find?_nil, hwaits, hstart, hgranting, Bool.not_true, Bool.false_eq_true, ↓reduceIte]

/-- Settles O23: each clause is what the opcode's body answers, and RELINQUISH waits. -/
theorem twinAndUpdateCommandsRun : Obligations.TwinAndUpdateCommandsRun := by
  refine ⟨?same, ?pair, ?status, ?write, ?verify, ?switch, ?switchRecovery, ?fwStatus, fun m s u ha hallowed hlen hz => ?relinquish⟩
  case same =>
    refine carries_twinSet.runs_recorded rfl rfl fun v p u ⟨hlen, hmode, hz1, h1, h2, hz4, hsame⟩ => ⟨lenIs_of_length hlen, ?_⟩
    rw [twinSet_body hmode h1 h2 hz1 hz4, hsame, twinSet_same_mode]
  case pair =>
    refine carries_twinSet.runs_recorded rfl rfl fun v p u ⟨hlen, hmode, hz1, h1, h2, hz4, hnot⟩ => ⟨lenIs_of_length hlen, ?_⟩
    rw [twinSet_body (by omega) h1 h2 hz1 hz4, hmode, twinSet_to_pair hnot]
    rfl
  case status => exact carries_twinStatus.runs rfl fun _ _ _ hp => ⟨hp ▸ lenIs_nil, rfl⟩
  case write =>
    refine carries_fwWrite.runs rfl fun v p u ⟨h5, h4096, halign, hin⟩ => ⟨by simp [cmdFwWrite, h5, h4096], ?_⟩
    exact (if_neg (by rw [List.length_drop]; omega)).trans (if_neg (by simp [halign]))
  case verify => exact carries_fwVerify.runs rfl fun v p u ⟨hp, hauth⟩ => ⟨hp ▸ lenIs_nil, if_pos hauth⟩
  case switch =>
    refine carries_fwSwitch.runs rfl fun v p u ⟨hlen, hz, hverified, hbank⟩ => ⟨lenIs_of_length hlen, (whenOk_true _ _ _ (res0_of_zeros hz)).trans ?_⟩
    exact (if_neg (by simp [hverified])).trans (if_neg (Nat.not_lt.mpr hbank))
  case switchRecovery =>
    refine carries_fwSwitch.runs rfl fun v p u ⟨hlen, hz, hverified, hbank⟩ => ⟨lenIs_of_length hlen, (whenOk_true _ _ _ (res0_of_zeros hz)).trans ?_⟩
    exact (if_neg (by simp [hverified])).trans (if_pos hbank)
  case fwStatus => exact carries_fwStatus.runs rfl fun _ _ _ hp => ⟨hp ▸ lenIs_nil, rfl⟩
  case relinquish =>
    obtain ⟨hactive, hpartner⟩ := relinquish_mode hallowed
    refine ⟨hactive, hpartner, ?_⟩
    have hexec : exec (.relinquish m) s = ends (receiveMsg ⟨13, 3, m⟩ s) := carries_relinquish.1 m s
    rw [receive_begins ha, execute_relinquish hallowed hlen hz] at hexec
    exact hexec

/-! The Diagnostics class -/

theorem carries_counterCatalog : Carries .counterCatalog cmdCounterCatalog := ⟨fun _ _ => rfl, rfl, by decide⟩
theorem carries_counterRead : Carries .counterRead cmdCounterRead := ⟨fun _ _ => rfl, rfl, by decide⟩
theorem carries_statusRead : Carries .statusRead cmdStatusRead := ⟨fun _ _ => rfl, rfl, by decide⟩
theorem carries_descRead : Carries .descRead cmdDescRead := ⟨fun _ _ => rfl, rfl, by decide⟩
theorem carries_mcLinkRead : Carries .mcLinkRead cmdMcLinkRead := ⟨fun _ _ => rfl, rfl, by decide⟩
theorem carries_keyTrace : Carries .keyTrace cmdKeyTrace := ⟨fun _ _ => rfl, rfl, by decide⟩
theorem carries_eventLogRead : Carries .eventLogRead cmdEventLogRead := ⟨fun _ _ => rfl, rfl, by decide⟩
theorem carries_eventCatalog : Carries .eventCatalog cmdEventCatalog := ⟨fun _ _ => rfl, rfl, by decide⟩

/-- A count of catalogue entries is a length of its own (R330). -/
theorem lenCount_flat {base off w lo hi : Nat} {p : List Byte} (h1 : lo ≤ numAt p off w) (h2 : numAt p off w ≤ hi) (hlen : p.length = base) :
    lenCount base 0 off w lo hi p = true := by
  simp [lenCount, h1, h2, hlen]

/-- COUNTER_READ clears what it has read, unless it peeks (R7, R327). -/
theorem counterRead_body {v : Via} {p : List Byte} {u : State} {c : Ctr} (hc : counterOf (numAt p 0 2) = some c) (hin : numAt p 2 2 + numAt p 4 2 ≤ c.instances) (hpeek : numAt p 6 1 ≤ 1)
    (hz : zeros 7 1 p) :
    cmdCounterRead.body v p u = done ((List.range (numAt p 4 2)).flatMap (fun i => natBytes 8 (count c (numAt p 2 2 + i) (settleCount c u))))
      (if numAt p 6 1 = 1 then settleCount c u else forUpTo (numAt p 4 2) (fun i x => clearRead c (numAt p 2 2 + i) x) (settleCount c u)) := by
  simp only [cmdCounterRead, hc]
  refine (whenOk_true _ _ _ (by simp [hin, hpeek, res0_of_zeros hz])).trans ?_
  simp only [counterRead, beq_iff_eq]

theorem statusReadReply_eq {p : List Byte} (hp : p.length = 4) (fmt : BitVec 8) (value : List Byte) :
    statusReadReply p fmt value = p ++ natBytes 2 (value.take 56).length ++ natBytes 1 fmt.toNat ++ natBytes 1 0 ++ padTo 56 (value.take 56) := by
  rw [statusReadReply, List.take_of_length_le (Nat.le_of_eq hp)]

/-- An item that the manual names is read as State holds it (R330). -/
theorem statusRead_named {v : Via} {p : List Byte} {u : State} {x : StatusItem} (hp : p.length = 4) (hx : statusItemOf (numAt p 0 2) = some x) (hin : numAt p 2 2 < x.instances) :
    cmdStatusRead.body v p u = done (p ++ natBytes 2 (min 56 (x.value (numAt p 2 2) u).1.length) ++ natBytes 1 (x.format % 256) ++ natBytes 1 0 ++ padTo 56 ((x.value (numAt p 2 2) u).1.take 56))
      (x.value (numAt p 2 2) u).2 := by
  simp only [cmdStatusRead, hx]
  refine (whenOk_true _ _ _ (decide_eq_true hin)).trans ?_
  rw [statusReadReply_eq hp, List.length_take, BitVec.toNat_ofNat]

/-- Any other item is read as the implementation has it (log entry 4). -/
theorem statusRead_other {v : Via} {p : List Byte} {u : State} {fmt : BitVec 8} (hp : p.length = 4) (hx : statusItemOf (numAt p 0 2) = none) (hc : counterOf (numAt p 0 2) = none)
    (hfmt : Config.statusItem (BitVec.ofNat 16 (numAt p 0 2)) (BitVec.ofNat 16 (numAt p 2 2)) = some fmt) :
    cmdStatusRead.body v p u =
      let w := Config.statusValue (BitVec.ofNat 16 (numAt p 0 2)) (BitVec.ofNat 16 (numAt p 2 2)) u.draws
      done (p ++ natBytes 2 ((w.1 :: w.2).take 56).length ++ natBytes 1 fmt.toNat ++ natBytes 1 0 ++ padTo 56 ((w.1 :: w.2).take 56)) { u with draws := u.draws + 1 } := by
  simp only [cmdStatusRead, hx, hc, Option.isSome_none, Bool.false_eq_true, ↓reduceIte, otherStatus, hfmt, statusReadReply_eq hp]

/-- A sample whose walk ends at a leaf shows its key, H16 and that leaf (R156-R158). -/
theorem keyTrace_leaf {port : Nat} {bs : List Byte} {u : State} {k : PKey} {z root leaf : Nat} (hkey : sampleKey port bs u = some (k, z))
    (hroot : mapGet none (curTables u).roots (z * 5 + keyType k) = some root) (hwalk : walkTree u.pat.nodeMem (curTables u).nodes (keyBytes port z false false 0 k) 24 root = some leaf) :
    keyTrace port bs u = done (keyBytes port z false false 0 k ++ natBytes 2 (hash16 (seedFor (some leaf) u) k) ++ natBytes 2 leaf ++ natBytes 4 0) u := by
  simp only [keyTrace, hkey, hroot, Option.bind_some, hwalk]

/-- Entries that the event log holds are read as they stand (R326). -/
theorem eventLogRead_body {v : Via} {p : List Byte} {u : State} (hz : zeros 6 2 p) (hin : numAt p 0 4 + numAt p 4 2 ≤ u.boot.events.length) :
    cmdEventLogRead.body v p u = done ((List.range (numAt p 4 2)).flatMap (fun i => (u.boot.events[numAt p 0 4 + i]?).getD [])) u := by
  refine (whenOk_true _ _ _ (res0_of_zeros hz)).trans (congrArg (done · u) (congrArg List.flatten (List.map_congr_left fun i hi => ?_)))
  have hheld : numAt p 0 4 + i < u.boot.events.length := Nat.lt_of_lt_of_le (Nat.add_lt_add_left (List.mem_range.mp hi) _) hin
  rw [List.getElem?_eq_getElem hheld]
  rfl

/-- Settles O24: each clause is what the opcode's body answers. -/
theorem diagnosticCommandsRun : Obligations.DiagnosticCommandsRun := by
  refine ⟨?catalog, fun c => ?read, fun x => ?named, fun fmt => ?other, ?desc, ?link, fun k z root leaf => ?trace, ?log, ?events⟩
  case catalog => exact carries_counterCatalog.runs rfl fun v p u ⟨hlen, h1, h2⟩ => ⟨lenCount_flat h1 h2 hlen, rfl⟩
  case read => exact carries_counterRead.runs rfl fun v p u ⟨hlen, h1, h2, hc, hin, hpeek, hz⟩ => ⟨lenCount_flat h1 h2 hlen, counterRead_body hc hin hpeek hz⟩
  case named => exact carries_statusRead.runs rfl fun v p u ⟨hlen, hx, hin⟩ => ⟨lenIs_of_length hlen, statusRead_named hlen hx hin⟩
  case other => exact carries_statusRead.runs rfl fun v p u ⟨hlen, hx, hc, hfmt⟩ => ⟨lenIs_of_length hlen, statusRead_other hlen (Option.isNone_iff_eq_none.mp hx) hc hfmt⟩
  case desc => exact carries_descRead.runs rfl fun v p u ⟨hlen, hi⟩ => ⟨lenIs_of_length hlen, whenOk_true _ _ _ (decide_eq_true hi)⟩
  case link => exact carries_mcLinkRead.runs rfl fun v p u ⟨hlen, hi⟩ => ⟨lenIs_of_length hlen, whenOk_true _ _ _ (decide_eq_true hi)⟩
  case trace =>
    refine carries_keyTrace.runs rfl fun v p u ⟨h5, h260, hport, hz, hkey, hroot, hwalk⟩ => ⟨by simp [cmdKeyTrace, h5, h260], ?_⟩
    exact (whenOk_true _ _ _ (by simp [hport, res0_of_zeros hz])).trans (keyTrace_leaf hkey hroot hwalk)
  case log => exact carries_eventLogRead.runs rfl fun v p u ⟨hlen, h1, h2, hz, hin⟩ => ⟨lenCount_flat h1 h2 hlen, eventLogRead_body hz hin⟩
  case events => exact carries_eventCatalog.runs rfl fun v p u ⟨hlen, h1, h2⟩ => ⟨lenCount_flat h1 h2 hlen, rfl⟩

end Sys2Proof.Machine
end

section
/-! Proofs/GatesAndRecovery: gate lists by Beacon time, stream gates and the FRER timers, and the clauses about their events (R74-R98). -/

namespace Sys2Proof.Machine
open Sys2Proof.Claims

/-- A row that acts while the core domain runs. -/
theorem completes_atCore {c : Instr} {act : State → State} {at_ : Nat} {s t : State} (hc : exec c s = endsAt at_ (atCore act) s) (hrun : coreRuns (advanceTo at_ s) = true)
    (ht : act (advanceTo at_ s) = t) : Completes c s t :=
  completes_at hc ((if_pos hrun).trans ht)

/-! Gate lists (R74-R87) -/

theorem getGates_setGates_same (p : Nat) (g : PortGates) (s : State) : getGates p (setGates p g s) = g := mapGet_mapSet_same _ _ _ _

theorem getGates_setGates_other {p q : Nat} (g : PortGates) (s : State) (h : q ≠ p) : getGates q (setGates p g s) = getGates q s := mapGet_mapSet_other _ _ _ h

/-- Counting an overrun frame marks it in transmission, and changes no list and no other part of the Bolt (R83). -/
theorem countOverrun_frame (p : Nat) (before : BitVec 8) (s : State) :
    (countOverrun p before s).sch = s.sch ∧ (countOverrun p before s).bcn = s.bcn ∧ ∀ x, { (countOverrun p before s).fab with tx := x } = { s.fab with tx := x } := by
  unfold countOverrun
  split
  · exact ⟨rfl, rfl, fun _ => rfl⟩
  · simp only
    split
    · exact ⟨rfl, rfl, fun _ => rfl⟩
    · exact ⟨rfl, rfl, fun _ => rfl⟩

theorem getGates_countOverrun (q p : Nat) (before : BitVec 8) (s : State) : getGates q (countOverrun p before s) = getGates q s := by
  rw [getGates, (countOverrun_frame p before s).1]
  rfl

/-- A gate that stays as it was overtakes no frame. -/
theorem countOverrun_unchanged (p : Nat) (s : State) : countOverrun p (gateOut p s) s = s := by
  unfold countOverrun
  split
  · rfl
  · next t _ => exact if_neg (by cases (gateOut p s).getLsbD t.cls <;> simp)

/-- The running entry of a port's list, as `placeGates` finds it (R74, R81, R85). -/
def placed (p : Nat) (s : State) : PortGates :=
  let g := getGates p s
  let q := g.seqState (nowNs s)
  { g with cur := q.1, gates := q.2.1, cycleStart := q.2.2.2, hold := holdAfter g.act q.1 (if decide (q.2.2.2 ≠ g.cycleStart) then holdAfter g.act g.act.len g.hold else g.hold) }

theorem placeGates_inactive {p : Nat} {s : State} (h : ((getGates p s).live && (getGates p s).act.enable) = false) : placeGates p s = s := by
  simp only [placeGates, h]
  rfl

/-- An enabled list is placed, and at most a counter changes besides. -/
theorem placeGates_active {p : Nat} {s : State} (h : ((getGates p s).live && (getGates p s).act.enable) = true) :
    (placeGates p s).sch = (setGates p (placed p s) s).sch ∧ (placeGates p s).fab = s.fab ∧ (placeGates p s).bcn = s.bcn := by
  have heq : placeGates p s = if (placed p s).hold && !(getGates p s).hold then bump .aMACMergeHoldCount p (setGates p (placed p s) s) else setGates p (placed p s) s := by
    simp only [placeGates, h, Bool.not_true, Bool.false_eq_true, ↓reduceIte]
    rfl
  rw [heq]
  split
  · exact ⟨rfl, rfl, rfl⟩
  · exact ⟨rfl, rfl, rfl⟩

/-- Placing a list changes the running entry of its port alone. -/
theorem placeGates_frame (p : Nat) (s : State) :
    (getGates p (placeGates p s)).act = (getGates p s).act ∧ (getGates p (placeGates p s)).live = (getGates p s).live ∧ (getGates p (placeGates p s)).ct = (getGates p s).ct
    ∧ (getGates p (placeGates p s)).pend = (getGates p s).pend ∧ (getGates p (placeGates p s)).ovr = (getGates p s).ovr ∧ (getGates p (placeGates p s)).infeasible = (getGates p s).infeasible
    ∧ (∀ q, q ≠ p → getGates q (placeGates p s) = getGates q s) ∧ (placeGates p s).fab = s.fab ∧ (placeGates p s).bcn = s.bcn := by
  cases h : (getGates p s).live && (getGates p s).act.enable with
  | false =>
    rw [placeGates_inactive h]
    exact ⟨rfl, rfl, rfl, rfl, rfl, rfl, fun _ _ => rfl, rfl, rfl⟩
  | true =>
    obtain ⟨hsch, hfab, hbcn⟩ := placeGates_active h
    have hplaced : getGates p (placeGates p s) = placed p s := by rw [getGates, hsch]; exact getGates_setGates_same p _ s
    rw [hplaced]
    refine ⟨rfl, rfl, rfl, rfl, rfl, rfl, fun q hq => ?_, hfab, hbcn⟩
    rw [getGates, hsch]
    exact getGates_setGates_other _ s hq

theorem refreshGates_inactive {p : Nat} {s : State} (h : ((getGates p s).live && (getGates p s).act.enable) = false) : refreshGates p s = s := by
  rw [refreshGates, placeGates_inactive h, countOverrun_unchanged]

/-- The entry in force drives the gates (R74, R85). -/
theorem refreshGates_active {p : Nat} {s : State} (h : ((getGates p s).live && (getGates p s).act.enable) = true) : getGates p (refreshGates p s) = placed p s := by
  rw [refreshGates, getGates_countOverrun, getGates, (placeGates_active h).1]
  exact getGates_setGates_same p _ s

/-- Refreshing the gates of a port changes no other port and of the Bolt the mark of an overrun frame alone (R83). -/
theorem refreshGates_frame (p : Nat) (s : State) :
    (getGates p (refreshGates p s)).act = (getGates p s).act ∧ (∀ q, q ≠ p → getGates q (refreshGates p s) = getGates q s)
    ∧ (∀ x, { (refreshGates p s).fab with tx := x } = { s.fab with tx := x }) ∧ (refreshGates p s).bcn = s.bcn := by
  obtain ⟨hact, -, -, -, -, -, hothers, hfab, hbcn⟩ := placeGates_frame p s
  obtain ⟨-, hbcn', hfab'⟩ := countOverrun_frame p (gateOut p s) (placeGates p s)
  refine ⟨by rw [refreshGates, getGates_countOverrun, hact], fun q hq => by rw [refreshGates, getGates_countOverrun, hothers q hq], fun x => ?_, hbcn'.trans hbcn⟩
  rw [refreshGates, hfab' x, hfab]

/-- Keys are states of the stitch bases: activating one changes no list, no frame and no clock. -/
theorem activateKey_frame (c i : Nat) (k : BitVec 128) (s : State) : (activateKey c i k s).sch = s.sch ∧ (activateKey c i k s).fab = s.fab ∧ (activateKey c i k s).bcn = s.bcn := by
  unfold activateKey
  simp only
  split
  · split
    · exact ⟨rfl, rfl, rfl⟩
    · exact ⟨rfl, rfl, rfl⟩
  · exact ⟨rfl, rfl, rfl⟩
  · exact ⟨rfl, rfl, rfl⟩

theorem activateKeys_frame (c : Nat) (l : List (Nat × BitVec 128)) (s : State) :
    (forEach l (fun k t => activateKey c k.1 k.2 t) s).sch = s.sch ∧ (forEach l (fun k t => activateKey c k.1 k.2 t) s).fab = s.fab := by
  induction l generalizing s with
  | nil => exact ⟨rfl, rfl⟩
  | cons k l ih =>
    obtain ⟨hsch, hfab⟩ := ih (activateKey c k.1 k.2 s)
    obtain ⟨hsch', hfab', -⟩ := activateKey_frame c k.1 k.2 s
    exact ⟨hsch.trans hsch', hfab.trans hfab'⟩

theorem setInfeasible_false (p : Nat) (s : State) :
    (getGates p (setInfeasible p false s)) = { getGates p s with infeasible := false } ∧ (∀ q, q ≠ p → getGates q (setInfeasible p false s) = getGates q s)
    ∧ (setInfeasible p false s).fab = s.fab := by
  simp only [setInfeasible]
  split
  next h => exact ⟨h ▸ rfl, fun _ _ => rfl, rfl⟩
  next h => exact ⟨getGates_setGates_same p _ s, fun q hq => getGates_setGates_other _ s hq, rfl⟩

/-- A port's lists with its shadow list in force from `c` on (R79). -/
def taken (c : Int) (g : PortGates) : PortGates :=
  { g with act := g.shadow, live := true, ct := c, pend := none, ovr := none, hold := false, cycleStart := c, cur := 0, gates := 0xFF }

/-- At CT the shadow list is in force, feasible and without an override, and nothing but an overrun frame's mark changes in the Bolt (R76-R79). -/
theorem takeList_frame {p : Nat} {c : Int} {s : State} (h : (getGates p s).pend = some c) :
    (getGates p (takeList p s)).act = (getGates p s).shadow ∧ (getGates p (takeList p s)).live = true ∧ (getGates p (takeList p s)).ct = c ∧ (getGates p (takeList p s)).pend = none
    ∧ (getGates p (takeList p s)).ovr = none ∧ (getGates p (takeList p s)).infeasible = false ∧ (∀ q, q ≠ p → getGates q (takeList p s) = getGates q s)
    ∧ ∀ x, { (takeList p s).fab with tx := x } = { s.fab with tx := x } := by
  have heq : takeList p s = countOverrun p (gateOut p s) (placeGates p (setInfeasible p false (forEach (listKeys p (getGates p s).shadow) (fun k t => activateKey p k.1 k.2 t)
      (setGates p (taken c (getGates p s)) s)))) := by
    simp only [takeList, takeListBy, h]
    rfl
  obtain ⟨hsch, hfab⟩ := activateKeys_frame p (listKeys p (getGates p s).shadow) (setGates p (taken c (getGates p s)) s)
  generalize forEach (listKeys p (getGates p s).shadow) (fun k t => activateKey p k.1 k.2 t) (setGates p (taken c (getGates p s)) s) = u at heq hsch hfab
  have hport : getGates p u = taken c (getGates p s) := by rw [getGates, hsch]; exact getGates_setGates_same p _ s
  obtain ⟨hfeasible, hothers, hbolt⟩ := setInfeasible_false p u
  obtain ⟨hact, hlive, hct, hpend, hovr, hinf, hothers', hbolt', -⟩ := placeGates_frame p (setInfeasible p false u)
  obtain ⟨-, -, hmark⟩ := countOverrun_frame p (gateOut p s) (placeGates p (setInfeasible p false u))
  rw [heq]
  rw [getGates_countOverrun, hact, hlive, hct, hpend, hovr, hinf, hfeasible, hport]
  refine ⟨rfl, rfl, rfl, rfl, rfl, rfl, fun q hq => ?_, fun x => by rw [hmark, hbolt', hbolt, hfab]; rfl⟩
  rw [getGates_countOverrun]
  rw [hothers' q hq, hothers q hq, getGates, hsch]
  exact getGates_setGates_other _ s hq

theorem overrideEnd_early {p : Nat} {o : Override} {s : State} (ho : (getGates p s).ovr = some o) (hearly : Int.ofNat (nowNs s) < o.stop) : overrideEnd p s = s := by
  simp only [overrideEnd, ho]
  exact if_neg (Int.not_le.mpr hearly)

/-- An override whose interval has ended leaves its port's active list (R76). -/
theorem overrideEnd_due {p : Nat} {o : Override} {s : State} (ho : (getGates p s).ovr = some o) (hdue : o.stop ≤ Int.ofNat (nowNs s)) :
    (getGates p (overrideEnd p s)).ovr = none ∧ (getGates p (overrideEnd p s)).act = (getGates p s).act ∧ ∀ x, { (overrideEnd p s).fab with tx := x } = { s.fab with tx := x } := by
  have heq : overrideEnd p s = countOverrun p o.gates (setGates p { getGates p (refreshGates p s) with ovr := none } (refreshGates p s)) := by
    simp only [overrideEnd, ho]
    exact if_pos hdue
  obtain ⟨hact, -, hbolt, -⟩ := refreshGates_frame p s
  obtain ⟨-, -, hmark⟩ := countOverrun_frame p o.gates (setGates p { getGates p (refreshGates p s) with ovr := none } (refreshGates p s))
  rw [heq, getGates_countOverrun, getGates_setGates_same]
  exact ⟨rfl, hact, fun x => (hmark x).trans (hbolt x)⟩

/-! Stream gates (R91) -/

theorem refreshSGate_running {i : Nat} {s : State} (hpend : (getSGate i s).pend = none) (hlive : (getSGate i s).live = true) :
    refreshSGate i s = setSGate i { getSGate i s with cur := (getSGate i s).place (Int.ofNat (nowNs s)) } s := by
  simp only [refreshSGate, hpend, hlive, ↓reduceIte]

theorem refreshSGate_due {i : Nat} {c : Int} {s : State} (hpend : (getSGate i s).pend = some c) (hdue : c ≤ Int.ofNat (nowNs s)) {h : StreamGate}
    (hh : h = { getSGate i s with act := (getSGate i s).shadow, live := true, ct := c, pend := none }) : refreshSGate i s = setSGate i { h with cur := h.place (Int.ofNat (nowNs s)) } s := by
  subst hh
  simp only [refreshSGate, hpend, ge_iff_le, hdue, ↓reduceIte]

/-- Settles O47: gate lists, stream gates and recovery functions each by the Beacon time now. -/
theorem gateAndRecoveryEventsRun : Obligations.GateAndRecoveryEventsRun := by
  intro s at_ hrun u
  refine ⟨fun port => ?lists, fun gate => ⟨fun hnone hlive => ?sgRuns, fun c hc hdue => ?sgTakes⟩, fun fn => ?recovery⟩
  case lists =>
    intro p g
    refine ⟨fun hoff => ?inactive, fun hlive hen => ?active, fun hnone => ?noCt, fun c hc hearly => ?early, fun c hc hdue => ?due, fun o ho _ => ⟨fun hearly => ?ovrRuns, fun hdue => ?ovrEnds⟩⟩
    case inactive =>
      have hrefresh := refreshGates_inactive (p := p) (s := u) (by obtain h | h := hoff <;> simp [g] at h ⊢ <;> simp [h])
      exact ⟨completes_atCore rfl hrun hrefresh, completes_atCore rfl hrun hrefresh⟩
    case active =>
      have hg : ((getGates p u).live && (getGates p u).act.enable) = true := by rw [Bool.and_eq_true]; exact ⟨hlive, hen⟩
      obtain ⟨hact, hothers, hbolt, hbcn⟩ := refreshGates_frame p u
      have hplaced := refreshGates_active hg
      refine ⟨refreshGates p u, completes_atCore rfl hrun rfl, completes_atCore rfl hrun rfl, ?_, ?_, ?_, hact, hothers, hbolt _, hbcn⟩ <;> rw [hplaced] <;> rfl
    case noCt => exact completes_atCore rfl hrun (by rw [takeDueList, hnone])
    case early => exact completes_atCore rfl hrun (by rw [takeDueList, hc]; exact if_neg (Int.not_le.mpr hearly))
    case due =>
      obtain ⟨hact, hlive, hct, hpend, hovr, hinf, hothers, hbolt⟩ := takeList_frame hc
      exact ⟨takeList p u, completes_atCore rfl hrun (by rw [takeDueList, hc]; exact if_pos hdue), hact, hlive, hct, hpend, hovr, hinf, hothers, hbolt _⟩
    case ovrRuns => exact completes_atCore rfl hrun (overrideEnd_early ho hearly)
    case ovrEnds =>
      obtain ⟨hovr, hact, hbolt⟩ := overrideEnd_due ho hdue
      exact ⟨overrideEnd p u, completes_atCore rfl hrun rfl, hovr, hact, hbolt _⟩
  case sgRuns => exact completes_atCore rfl hrun (refreshSGate_running hnone hlive)
  case sgTakes => exact completes_atCore rfl hrun (refreshSGate_due hc hdue rfl)
  case recovery =>
    intro r d tested hpresent
    refine ⟨fun htake hdue => ?resets, fun hno => ?noReset, fun hearly => ?noTest, fun hdue hok => ?testOk, fun hdue hbad => ?testBad, fun hdue => ?restarts, fun hearly => ?noRestart⟩
    case resets => exact completes_atCore rfl hrun (if_pos ⟨hpresent, congrArg not htake, hdue⟩)
    case noReset =>
      refine completes_atCore rfl hrun (if_neg fun ⟨_, hseq, hdue⟩ => ?_)
      obtain htake | hearly := hno
      · exact absurd (hseq.symm.trans (congrArg not htake)) (by decide)
      · exact absurd hdue (Nat.not_le.mpr hearly)
    case noTest => exact completes_atCore rfl hrun (if_pos (.inr hearly))
    case testOk =>
      have hnot : ¬ ((!r.present) = true ∨ u.cyc < r.testAt + r.testMs * msCyc) := by simp [hpresent, hdue]
      exact completes_atCore rfl hrun ((if_neg hnot).trans (if_neg (Nat.not_lt.mpr hok)))
    case testBad =>
      have hnot : ¬ ((!r.present) = true ∨ u.cyc < r.testAt + r.testMs * msCyc) := by simp [hpresent, hdue]
      exact completes_atCore rfl hrun ((if_neg hnot).trans (if_pos hbad))
    case restarts => exact completes_atCore rfl hrun (if_neg fun h => h.elim (fun hab => absurd (hab.symm.trans (congrArg not hpresent)) (by decide)) (Nat.not_lt.mpr hdue))
    case noRestart => exact completes_atCore rfl hrun (if_pos (.inr hearly))

end Sys2Proof.Machine
end

section
/-! Proofs/BeaconEvents: Sync, receipt timeout and grandmaster selection, and the clauses about them (R105-R108). -/

namespace Sys2Proof.Machine
open Sys2Proof.Claims

/-- The gPTP record of a Sync, as the Sync leaves it. -/
def syncNoted (i : Nat) (gm : BitVec 64) (offset ratio : Int) (s : State) : State :=
  setInst i { getInst i s with gm := some gm, offset := offset, ratio := ratio, lastSync := s.cyc, changed := false } s

/-- Whether a Sync comes from another grandmaster than its gPTP record's last. -/
def gmChanged (i : Nat) (gm : BitVec 64) (s : State) : Bool :=
  (getInst i s).changed || ((getInst i s).gm.isSome && decide ((getInst i s).gm ≠ some gm))

theorem gmChanged_iff {i : Nat} {gm : BitVec 64} {s : State} :
    gmChanged i gm s = false ↔ (getInst i s).changed = false ∧ ((getInst i s).gm = none ∨ (getInst i s).gm = some gm) := by
  unfold gmChanged
  cases (getInst i s).gm <;> simp

theorem gptpSync_eq (i : Nat) (gm : BitVec 64) (offset ratio : Int) (s : State) :
    gptpSync i gm offset ratio s = if i = s.bcn.primary then primarySync gm offset ratio (gmChanged i gm s) (syncNoted i gm offset ratio s) else syncNoted i gm offset ratio s := rfl

/-- A Sync is noted in its gPTP record alone. -/
theorem syncNoted_bcn (i : Nat) (gm : BitVec 64) (offset ratio : Int) (s : State) :
    (syncNoted i gm offset ratio s).bcn.mode = s.bcn.mode ∧ (syncNoted i gm offset ratio s).bcn.stepPending = s.bcn.stepPending ∧ (syncNoted i gm offset ratio s).bcn.total = s.bcn.total
    ∧ (syncNoted i gm offset ratio s).bcn.history = s.bcn.history ∧ (syncNoted i gm offset ratio s).bcn.slewPpm = s.bcn.slewPpm
    ∧ (syncNoted i gm offset ratio s).bcn.threshold = s.bcn.threshold := by
  by_cases hi : i = 0 <;> simp [syncNoted, setInst, hi]

theorem completes_sync {i : Fin 2} {gm : BitVec 64} {offset ratio : Int} {s t : State} (hrun : keeperRuns s = true) (hmech : mechanismsOn s = true)
    (h : gptpSync i.val gm offset ratio s = t) : Completes (.gptpSyncReceived i gm offset ratio) s t := by
  have hat : atKeeper (gptpSync i.val gm offset ratio) s = t := (if_neg (awake_of_keeperRuns hrun)).trans ((if_pos ⟨hrun, hmech⟩).trans h)
  rw [← hat]
  exact rfl

theorem ppmRate_nonneg (n : Nat) : 0 ≤ ppmRate n := Int.natCast_nonneg _

/-- The servo's new RATE lies within the slew limit of a measured ratio that leaves room for it (R106), and nothing but RATE and its history changes. -/
theorem servoRate_within {ratio : Int} {s : State} (hroom : ratio.natAbs + (ppmRate s.bcn.slewPpm).toNat < 2 ^ 31) :
    ((servoRate ratio s).bcn.rate - ratio).natAbs ≤ (ppmRate s.bcn.slewPpm).toNat := by
  have hw := Int.toNat_of_nonneg (ppmRate_nonneg s.bcn.slewPpm)
  have hd : (drawBelow (2 * (ppmRate s.bcn.slewPpm).toNat + 1) s).1 < 2 * (ppmRate s.bcn.slewPpm).toNat + 1 := Nat.mod_lt _ (Nat.succ_pos _)
  simp only [servoRate, setBcn_bcn]
  generalize (drawBelow (2 * (ppmRate s.bcn.slewPpm).toNat + 1) s).1 = d at hd ⊢
  generalize (ppmRate s.bcn.slewPpm).toNat = w at hw hd hroom ⊢
  rw [← hw]
  simp only [Int.ofNat_eq_natCast]
  omega

theorem servoRate_frame (ratio : Int) (s : State) :
    (servoRate ratio s).bcn.mode = s.bcn.mode ∧ (servoRate ratio s).bcn.total = s.bcn.total ∧ (servoRate ratio s).stb = s.stb ∧ (servoRate ratio s).sch = s.sch ∧ (servoRate ratio s).fab = s.fab
    ∧ (servoRate ratio s).counters = s.counters ∧ (s.bcn.mode = .locked → (servoRate ratio s).bcn.history = ((servoRate ratio s).bcn.rate :: s.bcn.history).take 16) :=
  ⟨rfl, rfl, rfl, rfl, rfl, rfl, fun h => if_pos h⟩

/-- A locked clock stays locked by a Sync within the limits, which the servo takes (R107). -/
theorem primarySync_locked {gm : BitVec 64} {offset ratio : Int} {s : State} (hmode : s.bcn.mode = .locked) (hstep : s.bcn.stepPending = false) (hoff : offset.natAbs ≤ 1000 * 65536) :
    primarySync gm offset ratio false s = servoRate ratio (setBcn { s.bcn with good := if within offset 100 then s.bcn.good + 1 else 0, far := 0 } s) := by
  have hnear : within offset 1000 = true := decide_eq_true hoff
  have hkept : (BcnState.locked != BcnState.locked) = false := rfl
  simp only [primarySync, hmode, hstep, servoSync, hnear, hkept, Bool.false_eq_true, reduceCtorEq, false_or, ↓reduceIte, ge_iff_le, Nat.reduceLeDiff]

/-- A step that another grandmaster's Sync would need is refused (R108). -/
theorem primarySync_refused {gm : BitVec 64} {offset ratio : Int} {s : State} (hmode : s.bcn.mode = .locked) (hstep : s.bcn.stepPending = false)
    (hfar : s.bcn.threshold * 65536 < offset.natAbs) : primarySync gm offset ratio true s = refuseStep offset s := by
  have hbeyond : within offset s.bcn.threshold = false := decide_eq_false (Nat.not_le.mpr hfar)
  simp only [primarySync, hmode, hstep, hbeyond, Bool.false_eq_true, reduceCtorEq, true_or, ↓reduceIte]

theorem enterHoldover_frame (s : State) :
    (enterHoldover s).bcn.mode = .holdover ∧ (enterHoldover s).bcn.total = s.bcn.total ∧ (s.bcn.history = [] → (enterHoldover s).bcn.rate = s.bcn.rate)
    ∧ (s.bcn.history ≠ [] → (enterHoldover s).bcn.rate = s.bcn.history.foldl (· + ·) 0 / Int.ofNat s.bcn.history.length)
    ∧ (enterHoldover s).stb = s.stb ∧ (enterHoldover s).sch = s.sch ∧ (enterHoldover s).fab = s.fab ∧ (enterHoldover s).raised = s.raised :=
  ⟨rfl, rfl, fun h => if_pos (List.isEmpty_iff.mpr h), fun h => if_neg (fun he => h (List.isEmpty_iff.mp he)), rfl, rfl, rfl, rfl⟩

/-- A refused step leaves a clock in HOLDOVER that waits for ACCEPT_STEP, with an event (R108). -/
theorem refuseStep_locked {offset : Int} {s : State} (hmode : s.bcn.mode = .locked) :
    (refuseStep offset s).bcn.mode = .holdover ∧ (refuseStep offset s).bcn.stepPending = true ∧ (refuseStep offset s).bcn.pendOffset = offset ∧ (refuseStep offset s).bcn.total = s.bcn.total
    ∧ (refuseStep offset s).raised = s.raised ++ [(.stepRefused, 0, [])] ∧ (refuseStep offset s).stb = s.stb ∧ (refuseStep offset s).sch = s.sch ∧ (refuseStep offset s).fab = s.fab := by
  have hnot : s.bcn.mode ≠ .holdover := by rw [hmode]; decide
  simp only [refuseStep, if_neg hnot]
  exact ⟨rfl, rfl, rfl, rfl, rfl, rfl, rfl, rfl⟩

/-- A gPTP record is no part of the clock that it steers. -/
theorem clock_setInst (i : Nat) (g : Gptp) (s : State) : (setInst i g s).bcn.total = s.bcn.total ∧ (setInst i g s).bcn.rate = s.bcn.rate ∧ (setInst i g s).bcn.history = s.bcn.history := by
  by_cases hi : i = 0 <;> simp [setInst, hi]

/-- A clock that was grandmaster holds over for another (R107, log entry 86). -/
theorem gmSelect_other {gm : BitVec 64} {s : State} (h : s.bcn.mode = .grandmaster) :
    gmSelect false gm s = enterHoldover (setInst s.bcn.primary { getInst s.bcn.primary s with changed := (getInst s.bcn.primary s).changed || decide ((getInst s.bcn.primary s).gm ≠ some gm) } s) :=
  if_pos h

/-- Settles O48: each clause by the clock's state. -/
theorem beaconEventsRun : Obligations.BeaconEventsRun := by
  refine ⟨fun s i gm offset ratio hrun hmech => ?sync, fun s at_ i hrun => ?timeout, fun s gm hrun _ => ?select⟩
  case sync =>
    intro g noted same
    obtain ⟨hmode, hstep, htotal, hhist, hslew, hthresh⟩ := syncNoted_bcn i.val gm offset ratio s
    have hsame : gmChanged i.val gm s = false ↔ same := gmChanged_iff
    refine ⟨fun hignored => ?ignored, fun hprim hgm hpend hs => ?pending, fun hprim hlocked hpend hs hoff hroom => ?locked, fun hprim hlocked hpend hs hfar => ?refused⟩
    case ignored =>
      refine completes_sync hrun hmech ?_
      rw [gptpSync_eq]
      split
      next hprim => exact if_pos (hmode.trans (hignored.resolve_left (fun hn => hn hprim)))
      next => rfl
    case pending =>
      refine completes_sync hrun hmech ?_
      rw [gptpSync_eq, if_pos hprim, hsame.mpr hs]
      exact (if_neg (hmode ▸ hgm)).trans ((if_pos (hstep.trans hpend)).trans (if_neg (by simp)))
    case locked =>
      have hsync : gptpSync i.val gm offset ratio s = servoRate ratio (setBcn { noted.bcn with good := if within offset 100 then noted.bcn.good + 1 else 0, far := 0 } noted) := by
        rw [gptpSync_eq, if_pos hprim, hsame.mpr hs]
        exact primarySync_locked (hmode.trans hlocked) (hstep.trans hpend) hoff
      obtain ⟨hm, ht, hstb, hsch, hfab, hctr, hh⟩ := servoRate_frame ratio (setBcn { noted.bcn with good := if within offset 100 then noted.bcn.good + 1 else 0, far := 0 } noted)
      have hlimit := servoRate_within (ratio := ratio) (s := setBcn { noted.bcn with good := if within offset 100 then noted.bcn.good + 1 else 0, far := 0 } noted) (by rw [← hslew] at hroom; exact hroom)
      refine ⟨_, completes_sync hrun hmech hsync, hm.trans (hmode.trans hlocked), ?_, ht.trans htotal, ?_, hstb, hsch, hfab, hctr⟩
      · rw [← hslew]; exact hlimit
      · rw [← hhist]; exact hh (hmode.trans hlocked)
    case refused =>
      have hchanged : gmChanged i.val gm s = true := by rw [← Bool.not_eq_false]; exact fun h => hs (hsame.mp h)
      have hsync : gptpSync i.val gm offset ratio s = refuseStep offset noted := by
        rw [gptpSync_eq, if_pos hprim, hchanged]
        exact primarySync_refused (hmode.trans hlocked) (hstep.trans hpend) (by rw [hthresh]; exact hfar)
      obtain ⟨hm, hp, ho, ht, hr, hstb, hsch, hfab⟩ := refuseStep_locked (offset := offset) (s := noted) (hmode.trans hlocked)
      exact ⟨_, completes_sync hrun hmech hsync, hm, hp, ho, ht.trans htotal, hr, hstb, hsch, hfab⟩
  case timeout =>
    intro u noted h
    refine ⟨fun hother => completes_at rfl ((if_pos hrun).trans (if_neg fun hp => hother hp.1)), fun hprim hlocked hne => ?_⟩
    refine completes_at rfl ((if_pos hrun).trans ((if_pos ⟨hprim, .inr hlocked⟩).trans ?_))
    have hmean : (if h.isEmpty then noted.bcn.rate else h.foldl (· + ·) 0 / Int.ofNat h.length) = h.foldl (· + ·) 0 / Int.ofNat h.length :=
      if_neg fun he => hne (List.isEmpty_iff.mp he)
    rw [← hmean]
    rfl
  case select =>
    refine ⟨⟨gmSelect true gm s, ?_, ?_⟩, fun hmaster => ⟨gmSelect false gm s, ?_, ?_⟩⟩
    · exact congrArg ends (if_pos hrun)
    · exact ⟨rfl, rfl, rfl, rfl, rfl, rfl⟩
    · exact congrArg ends (if_pos hrun)
    · rw [gmSelect_other hmaster]
      obtain ⟨htotal, hrate, hhist⟩ := clock_setInst s.bcn.primary { getInst s.bcn.primary s with changed := (getInst s.bcn.primary s).changed || decide ((getInst s.bcn.primary s).gm ≠ some gm) } s
      generalize hu : setInst s.bcn.primary _ s = u at htotal hrate hhist ⊢
      have hrest : u.stb = s.stb ∧ u.fab = s.fab := hu ▸ ⟨rfl, rfl⟩
      obtain ⟨hm, ht, hkept, hmean, hstb, -, hfab, -⟩ := enterHoldover_frame u
      rw [hhist] at hkept hmean
      exact ⟨hm, ht.trans htotal, fun h => (hkept h).trans hrate, hmean, hstb.trans hrest.1, hfab.trans hrest.2⟩

end Sys2Proof.Machine
end

section
/-! Proofs/StitchAndPatternEvents: stitch edges and standstill, event keys and mark outputs, the Pattern's timers, and the clauses about them (R76, R112-R118, R123, R127, R147, R151-R154, R162). -/

namespace Sys2Proof.Machine
open Sys2Proof.Claims

theorem completes_atBeacon {c : Instr} {act : State → State} {at_ : Nat} {s t : State} (hc : exec c s = endsAt at_ (atBeacon act) s) (hrun : domainRuns 15 (advanceTo at_ s) = true)
    (ht : act (advanceTo at_ s) = t) : Completes c s t :=
  completes_at hc ((if_pos hrun).trans ht)

/-! Stitch bases (R112-R116) -/

theorem getBase_setBase_same (i : Nat) (b : StitchBase) (s : State) : getBase i (setBase i b s) = b := mapGet_mapSet_same _ _ _ _

/-- What counting does not touch: the bases, the Bolt, the gates and the Beacon. -/
def besideCounts (s : State) : SMap StitchBase × Fabric × Sched × Beacon := (s.stb.bases, s.fab, s.sch, s.bcn)

theorem besideCounts_countSkips (i : Nat) (lo hi : Int) (s : State) : besideCounts (countSkips i lo hi s) = besideCounts s := by
  unfold countSkips
  refine forEach_keeps (fun k t => ?_) _ s
  split
  · rfl
  · rfl

theorem besideCounts_setKeySt (i : Nat) (k : KeyState) (s : State) : besideCounts (setKeySt i k s) = besideCounts s := by
  unfold besideCounts
  rfl

theorem besideCounts_noteReverse (i : Nat) (pos : Int) (s : State) : besideCounts (noteReverse i pos s) = besideCounts s := by
  unfold noteReverse
  exact forEach_keeps (fun _ _ => besideCounts_setKeySt _ _ _) _ s

/-- States that agree beside the counts agree in every base. -/
theorem agree_of_besideCounts {s t : State} (h : besideCounts t = besideCounts s) : (∀ i, getBase i t = getBase i s) ∧ t.fab = s.fab ∧ t.sch = s.sch ∧ nowFrac t = nowFrac s := by
  simp only [besideCounts, Prod.mk.injEq] at h
  obtain ⟨hbases, hfab, hsch, hbcn⟩ := h
  exact ⟨fun i => by rw [getBase, hbases]; rfl, hfab, hsch, by rw [nowFrac, hbcn]; rfl⟩

/-- Catching up moves a base's high-water mark to the furthest position reached, and no position (R116, R124). -/
theorem catchUp_frame (i : Nat) (s : State) :
    (getBase i (catchUp i s)).hwm = (getBase i s).topAt (nowFrac s) ∧ (getBase i (catchUp i s)).pos = (getBase i s).pos ∧ (getBase i (catchUp i s)).record = (getBase i s).record
    ∧ (catchUp i s).fab = s.fab ∧ (catchUp i s).sch = s.sch := by
  unfold catchUp
  simp only
  split
  next h =>
    obtain ⟨-, hfab, hsch, -⟩ := agree_of_besideCounts (besideCounts_countSkips i (getBase i s).seen ((getBase i s).posAt (nowFrac s)) s)
    rw [getBase_setBase_same]
    exact ⟨(if_pos h).symm, rfl, rfl, hfab, hsch⟩
  next h => exact ⟨(if_neg h).symm, rfl, rfl, rfl, rfl⟩

/-- The position that a count leads to (R113). -/
def countedPos (fwd : Bool) (b : StitchBase) : Int := if fwd != b.record.getLsbD 122 then b.pos + Int.ofNat b.scale else b.pos - Int.ofNat b.scale

/-- A base after one count at a time (R113-R116). -/
def counted (fwd : Bool) (now cyc : Nat) (b : StitchBase) : StitchBase :=
  let dir := fwd != b.record.getLsbD 122
  { b with
    pos := countedPos fwd b, fwd := dir, moving := true, hwm := max b.hwm (countedPos fwd b), seen := countedPos fwd b, lastAt := Int.ofNat now, heard := cyc,
    stamps := if dir != b.fwd || !b.moving then [Int.ofNat now] else (Int.ofNat now :: b.stamps).take 65 }

/-- Beside its base, a count changes counters and keys alone. -/
theorem applyCount_beside (i : Nat) (fwd : Bool) (s : State) :
    besideCounts (applyCount i fwd s) = besideCounts (setBase i (counted fwd (nowFrac (catchUp i s)) (catchUp i s).cyc (getBase i (catchUp i s))) (catchUp i s)) := by
  unfold applyCount
  generalize catchUp i s = u
  simp only
  have hskips := besideCounts_countSkips i (getBase i u).seen (countedPos fwd (getBase i u)) u
  have hset : ∀ v, besideCounts v = besideCounts u →
      besideCounts (setBase i (counted fwd (nowFrac u) u.cyc (getBase i u)) v) = besideCounts (setBase i (counted fwd (nowFrac u) u.cyc (getBase i u)) u) := by
    intro v hv
    simp only [besideCounts, Prod.mk.injEq, setBase] at hv ⊢
    obtain ⟨hbases, hrest⟩ := hv
    exact ⟨by rw [hbases], hrest⟩
  have hturn : ∀ (b : Bool) (v : State), besideCounts (if b then bump .stbReversal i v else v) = besideCounts v := fun b v => by cases b <;> rfl
  cases hdir : fwd != (getBase i u).record.getLsbD 122
  · simp only [Bool.false_eq_true, ↓reduceIte]
    rw [besideCounts_noteReverse, hturn]
    simp only [counted, countedPos, hdir]
    rfl
  · simp only [↓reduceIte]
    rw [hturn, ← hset _ hskips]
    simp only [counted, countedPos, hdir]
    rfl

/-- A count moves its base by the scale and the high-water mark with it (R113-R116). -/
theorem applyCount_frame (i : Nat) (fwd : Bool) (s : State) :
    (getBase i (applyCount i fwd s)).pos = countedPos fwd (getBase i s) ∧ (getBase i (applyCount i fwd s)).moving = true
    ∧ (getBase i (applyCount i fwd s)).hwm = max ((getBase i s).topAt (nowFrac s)) (getBase i (applyCount i fwd s)).pos ∧ (applyCount i fwd s).fab = s.fab ∧ (applyCount i fwd s).sch = s.sch := by
  obtain ⟨hhwm, hpos, hrec, hfab, hsch⟩ := catchUp_frame i s
  obtain ⟨hbase, hfab', hsch', -⟩ := agree_of_besideCounts (applyCount_beside i fwd s)
  have hcounted : countedPos fwd (getBase i (catchUp i s)) = countedPos fwd (getBase i s) := by simp only [countedPos, StitchBase.scale, hpos, hrec]
  rw [hbase i, getBase_setBase_same, ← hhwm, ← hcounted]
  exact ⟨rfl, rfl, rfl, hfab'.trans hfab, hsch'.trans hsch⟩

/-- Whether an edge comes less than 80 ns after the base's last (R112). -/
def fastEdge (x : StitchBase) (cyc : Nat) : Bool := match x.edgeCyc with | some t => decide (cyc < t + 40) | none => false

/-- The pins of a base have changed level: the base holds them, and an edge too soon after the last is counted (R112, R116). -/
def edgeSeen (i : Nat) (a b : Bool) (s : State) : State :=
  let x := getBase i s
  setBase i { x with pinA := a, pinB := b, edgeCyc := some s.cyc }
    (if fastEdge x s.cyc then bump .stbOverspeed i s else s)

/-- A count upon an edge moves the base from where the edge found it. -/
theorem countedEdge_frame (i : Nat) (a b fwd : Bool) (s : State) :
    (getBase i (applyCount i fwd (edgeSeen i a b s))).pos = countedPos fwd (getBase i s) ∧ (getBase i (applyCount i fwd (edgeSeen i a b s))).moving = true
    ∧ (getBase i (applyCount i fwd (edgeSeen i a b s))).hwm = max ((getBase i s).topAt (nowFrac s)) (getBase i (applyCount i fwd (edgeSeen i a b s))).pos
    ∧ (applyCount i fwd (edgeSeen i a b s)).fab = s.fab ∧ (applyCount i fwd (edgeSeen i a b s)).sch = s.sch := by
  have hbase : getBase i (edgeSeen i a b s) = { getBase i s with pinA := a, pinB := b, edgeCyc := some s.cyc } := getBase_setBase_same i _ _
  have hrest : (edgeSeen i a b s).fab = s.fab ∧ (edgeSeen i a b s).sch = s.sch ∧ (edgeSeen i a b s).bcn = s.bcn := by
    simp only [edgeSeen, setBase_frame]
    cases fastEdge (getBase i s) s.cyc
    · exact ⟨rfl, rfl, rfl⟩
    · exact ⟨rfl, rfl, rfl⟩
  obtain ⟨hfab, hsch, hbcn⟩ := hrest
  obtain ⟨hpos, hmoving, hhwm, hfab', hsch'⟩ := applyCount_frame i fwd (edgeSeen i a b s)
  have hnow : nowFrac (edgeSeen i a b s) = nowFrac s := by rw [nowFrac, hbcn]; rfl
  rw [hbase, hnow] at hhwm
  rw [hbase] at hpos
  exact ⟨hpos, hmoving, hhwm, hfab'.trans hfab, hsch'.trans hsch⟩

section
variable {i held : Nat} {a b : Bool} {s : State}

theorem stitchEdge_same (ha : a = (getBase i s).pinA) (hb : b = (getBase i s).pinB) : stitchEdge i a b held s = s := if_pos ⟨ha, hb⟩

variable (hedge : a ≠ (getBase i s).pinA ∨ b ≠ (getBase i s).pinB)
include hedge

theorem stitchEdge_uncounted (hmode : (getBase i s).mode = 0 ∨ 4 ≤ (getBase i s).mode) : stitchEdge i a b held s = setBase i { getBase i s with pinA := a, pinB := b } s :=
  (if_neg (Decidable.not_and_iff_not_or_not.mpr hedge)).trans (if_pos hmode)

theorem stitchEdge_glitch (h1 : 1 ≤ (getBase i s).mode) (h3 : (getBase i s).mode ≤ 3) (hheld : held < 10 * bits (getBase i s).record 115 104) : stitchEdge i a b held s = bump .stbGlitch i s :=
  (if_neg (Decidable.not_and_iff_not_or_not.mpr hedge)).trans ((if_neg (by omega)).trans (if_pos hheld))

/-- A level held for the filter time is an edge of its mode (R112). -/
theorem stitchEdge_held (h1 : 1 ≤ (getBase i s).mode) (h3 : (getBase i s).mode ≤ 3) (hheld : 10 * bits (getBase i s).record 115 104 ≤ held) :
    stitchEdge i a b held s =
      let x := getBase i s
      if x.mode = 1 then
        let d := (quadQuarter a b + 4 - quadQuarter x.pinA x.pinB) % 4
        let low := if d = 1 then quadQuarter x.pinA x.pinB else quadQuarter a b
        if d = 2 then bump .stbQuadError i (edgeSeen i a b s)
        else if (match bits x.record 124 123 with | 0 => low == 0 | 1 => low == 0 || low == 2 | _ => true) then applyCount i (d == 1) (edgeSeen i a b s)
        else edgeSeen i a b s
      else if a && !x.pinA then applyCount i (if x.mode = 2 then !b else x.cmdFwd) (edgeSeen i a b s)
      else edgeSeen i a b s :=
  (if_neg (Decidable.not_and_iff_not_or_not.mpr hedge)).trans ((if_neg (by omega)).trans (if_neg (Nat.not_lt.mpr hheld)))

end

/-- A step pulse counts by its direction (R112, R116). -/
theorem stitchEdge_pulse {i held : Nat} {b : Bool} {s : State} (hmode : (getBase i s).mode = 2 ∨ (getBase i s).mode = 3) (hlow : (getBase i s).pinA = false)
    (hheld : 10 * bits (getBase i s).record 115 104 ≤ held) :
    stitchEdge i true b held s = applyCount i (if (getBase i s).mode = 2 then !b else (getBase i s).cmdFwd) (edgeSeen i true b s) := by
  rw [stitchEdge_held (.inl (by simp [hlow])) (by omega) (by omega) hheld]
  exact (if_neg (by omega)).trans (if_pos (by simp [hlow]))

/-- At x4 every step of a quarter counts by its direction (R112). -/
theorem stitchEdge_quarter {i held : Nat} {a b : Bool} {s : State} (hmode : (getBase i s).mode = 1) (hx4 : 2 ≤ bits (getBase i s).record 124 123)
    (hstep : (quadQuarter a b + 4 - quadQuarter (getBase i s).pinA (getBase i s).pinB) % 4 = 1 ∨ (quadQuarter a b + 4 - quadQuarter (getBase i s).pinA (getBase i s).pinB) % 4 = 3)
    (hheld : 10 * bits (getBase i s).record 115 104 ≤ held) :
    stitchEdge i a b held s = applyCount i ((quadQuarter a b + 4 - quadQuarter (getBase i s).pinA (getBase i s).pinB) % 4 == 1) (edgeSeen i a b s) := by
  have hedge : a ≠ (getBase i s).pinA ∨ b ≠ (getBase i s).pinB := by
    rw [← Decidable.not_and_iff_not_or_not (a := a = (getBase i s).pinA)]
    rintro ⟨ha, hb⟩
    rw [← ha, ← hb] at hstep
    omega
  rw [stitchEdge_held hedge (by omega) (by omega) hheld]
  refine (if_pos hmode).trans ((if_neg (by omega)).trans ?_)
  split
  · omega
  · omega
  · rfl

theorem standstill_runs {i : Nat} {s : State} (h : (getBase i s).moving = false ∨ s.cyc < (getBase i s).heard + (getBase i s).standstill) : standstill i s = s :=
  if_pos (h.imp_left fun hm => by rw [hm]; rfl)

/-- A base that heard nothing for its standstill time stands where it has come to (R115, R117). -/
theorem standstill_due {i : Nat} {s : State} (hm : (getBase i s).moving = true) (hdue : (getBase i s).heard + (getBase i s).standstill ≤ s.cyc) :
    standstill i s = bump .stbStandstill i (setBase i { getBase i (catchUp i s) with
      pos := if (getBase i (catchUp i s)).mode = 4 then (getBase i (catchUp i s)).posAt (nowFrac s) else (getBase i (catchUp i s)).pos, moving := false, stamps := [], speed := 0 } (catchUp i s)) :=
  if_neg (not_or.mpr ⟨by rw [hm]; decide, Nat.not_lt.mpr hdue⟩)

/-! Event keys and mark outputs (R76, R118, R123, R127) -/

/-- What taking an occurrence of a key does not touch. -/
def besideKeys (s : State) : SMap Mark × Sched × Fabric × Beacon × Edge × SMap SelLinkSt × List Emission := (s.stb.marks, s.sch, s.fab, s.bcn, s.edge, s.sel, s.out)

theorem besideKeys_takeOccurrence (i : Nat) (k : BitVec 128) (x : Int) (s : State) : besideKeys (takeOccurrence i k x s) = besideKeys s := by
  unfold takeOccurrence besideKeys
  simp only
  split
  · rfl
  · rfl

theorem besideKeys_takeOccurrences (ks : List (Nat × BitVec 128 × Int)) (s : State) : besideKeys (forEach ks (fun k t => takeOccurrence k.1 k.2.1 k.2.2 t) s) = besideKeys s := by
  refine forEach_keeps (fun k t => ?_) ks s
  exact besideKeys_takeOccurrence k.1 k.2.1 k.2.2 t

/-- A firing too soon after its consumer's last only coalesces (R123). -/
theorem fireKeys_near {c : Nat} {ks : List (Nat × BitVec 128 × Int)} {x : Int} {s : State} (hne : ks ≠ []) (hlast : mapGet none s.stb.lastFire c = some x) (hnear : Int.ofNat s.cyc < x + 100) :
    besideKeys (fireKeys c ks s) = besideKeys s := by
  obtain - | ⟨first, rest⟩ := ks
  · exact absurd rfl hne
  · rw [← besideKeys_takeOccurrences (first :: rest) s]
    simp only [fireKeys, hlast, decide_eq_true hnear, ↓reduceIte]
    unfold besideKeys
    rfl

/-- The first firing of a consumer is its key's action (R118, R123). -/
theorem fireKeys_first {c i : Nat} {k : BitVec 128} {x : Int} {s : State} (hlast : mapGet none s.stb.lastFire c = none) :
    ∃ w, fireKeys c [(i, k, x)] s = keyAction i w ∧ besideKeys w = besideKeys s := by
  simp only [fireKeys, hlast, Bool.false_eq_true, ↓reduceIte]
  refine ⟨_, rfl, ?_⟩
  rw [← besideKeys_takeOccurrences [(i, k, x)] s]
  unfold besideKeys
  rfl

/-- A mark's key starts a pulse of its width (R127). -/
theorem markFire_frame (o : Nat) (s : State) :
    (getMark o (markFire o s)).pulseEnd = some (Int.ofNat (nowNs s) + Int.ofNat (bits (getMark o s).record 31 0))
    ∧ (markFire o s).out = s.out ++ [.markPulse o (Int.ofNat (nowNs s) + Int.ofNat (bits (getMark o s).record 31 0)) (!(getMark o s).record.getLsbD 62)]
    ∧ (markFire o s).fab = s.fab ∧ (markFire o s).sch = s.sch := by
  have hmark : ∀ m : Mark, getMark o (setMark o m s) = m := fun m => mapGet_mapSet_same _ _ _ _
  simp only [markFire]
  cases (getMark o s).pulseEnd.any (fun t => decide (Int.ofNat (nowNs s) < t))
  · exact ⟨congrArg Mark.pulseEnd (hmark _), rfl, rfl, rfl⟩
  · exact ⟨congrArg Mark.pulseEnd (hmark _), rfl, rfl, rfl⟩

theorem keyAction_gate {p e : Nat} {s : State} (hp : p < 27) (he : e < 1024) : keyAction (p * 1024 + e) s = overrideFire p e s := by
  have hdiv : (p * 1024 + e) / 1024 = p := by omega
  have hmod : (p * 1024 + e) % 1024 = e := by omega
  rw [keyAction, if_pos (by omega), hdiv, hmod]

theorem keyAction_mark {o k : Nat} {s : State} (ho : o < 8) (hk : k < 16) : keyAction (27648 + o * 16 + k) s = markFire o s := by
  have hdiv : (27648 + o * 16 + k - 27648) / 16 = o := by omega
  rw [keyAction, if_neg (by omega), if_pos (by omega), hdiv]

/-- A stitch-keyed entry overrides its port's gates for its interval (R76). -/
theorem overrideFire_frame (p e : Nat) (s : State) :
    (getGates p (overrideFire p e s)).ovr = some { gates := entryGates (mapGet 0 (getGates p s).act.ents e), stop := Int.ofNat (nowNs s) + Int.ofNat (entryInterval (mapGet 0 (getGates p s).act.ents e)), pos := e }
    ∧ ∀ x, { (overrideFire p e s).fab with tx := x } = { s.fab with tx := x } := by
  simp only [overrideFire]
  rw [getGates_countOverrun, getGates_setGates_same]
  exact ⟨rfl, (countOverrun_frame p _ _).2.2⟩

theorem keyDueNow_awake {key : KeyRef} {s : State} (h : s.pwr.state ≠ .doze) : keyDueNow key s = keyFires (KeyRef.consumer key) (KeyRef.id key) s := by
  cases key with
  | mark o k => rfl
  | gate p e => exact if_neg h
  | slot c n => exact if_neg h
  | disc l e => exact if_neg h

theorem keyDueNow_none {key : KeyRef} {s : State} (h : dueKeys (KeyRef.consumer key) s = []) : keyDueNow key s = s := by
  have hfires : keyFires (KeyRef.consumer key) (KeyRef.id key) s = s := by simp [keyFires, h]
  have hpass : keysPassOver (KeyRef.consumer key) s = s := by rw [keysPassOver, h]; rfl
  cases key <;> simp only [keyDueNow, hfires, hpass, ite_self]

/-- States that agree beside the keys agree in their marks, gates and time. -/
theorem agree_of_besideKeys {s t : State} (h : besideKeys t = besideKeys s) :
    t.stb.marks = s.stb.marks ∧ t.sch = s.sch ∧ t.fab = s.fab ∧ t.edge = s.edge ∧ t.sel = s.sel ∧ t.out = s.out ∧ (∀ o, getMark o t = getMark o s) ∧ (∀ p, getGates p t = getGates p s) ∧ nowNs t = nowNs s := by
  simp only [besideKeys, Prod.mk.injEq] at h
  obtain ⟨hmarks, hsch, hfab, hbcn, hedge, hsel, hout⟩ := h
  exact ⟨hmarks, hsch, hfab, hedge, hsel, hout, fun o => by rw [getMark, hmarks]; rfl, fun p => by rw [getGates, hsch]; rfl, by rw [nowNs, hbcn]; rfl⟩

/-- The named key is due alone. -/
theorem keyFires_alone {c i : Nat} {k : BitVec 128} {x : Int} {s : State} (h : dueKeys c s = [(i, k, x)]) : keyFires c i s = fireKeys c [(i, k, x)] s := by
  simp [keyFires, h]

theorem markEnd_idle {o : Nat} {s : State} (h : (getMark o s).pulseEnd = none) : markEnd o s = s := by simp [markEnd, h]

theorem markEnd_due {o : Nat} {stop : Int} {s : State} (h : (getMark o s).pulseEnd = some stop) (hdue : stop ≤ Int.ofNat (nowNs s)) :
    markEnd o s = emit (.markIdle o ((getMark o s).record.getLsbD 62)) (setMark o { getMark o s with pulseEnd := none } s) := by
  simp only [markEnd, h]
  exact if_pos hdue

/-! The Pattern's timers (R147, R151-R154, R162) -/

theorem freeEpoch_of_draining {s : State} {tb : EpochTables} (h : s.pat.draining = some tb) :
    freeEpoch s = if epochRefs tb.number s = 0 then raiseEv .epochFreed tb.number [] (setPat { s.pat with draining := none } s) else s := by
  simp only [freeEpoch, h]

theorem retryZones_waits {s : State} (h : s.seam.swapWaits = false ∨ s.cyc < s.seam.swapAt) : retryZones s = s :=
  if_neg fun ⟨hw, hdue⟩ => h.elim (fun hno => Bool.false_ne_true (hno.symm.trans hw)) (Nat.not_lt.mpr hdue)

/-- A zone swap frees an epoch without references, waits while one drains, and else takes place (R160, R162). -/
theorem retryZones_due {s : State} {tb : EpochTables} (hw : s.seam.swapWaits = true) (hdue : s.seam.swapAt ≤ s.cyc) (hcur : s.pat.current = some tb)
    (hnew : keeperMap s.seam.keeperZones tb.zoneMap ≠ tb.zoneMap) :
    retryZones s = if (freeEpoch s).pat.draining.isSome then { freeEpoch s with seam := { (freeEpoch s).seam with swapWaits := true, swapAt := (freeEpoch s).cyc + msCyc } }
      else zoneSwapNow tb (freeEpoch s) := by
  refine (if_pos ⟨hw, hdue⟩).trans ?_
  simp only [applyZones, hcur, if_neg hnew]

/-- Dropping held fragments counts each (R154). -/
theorem countDrops_counters (l : List Held) (s : State) : ∃ c, forEach l (fun h t => bump .patFragEarlyDrop h.keyPort t) s = { s with counters := c } := by
  induction l generalizing s with
  | nil => exact ⟨s.counters, rfl⟩
  | cons h l ih => exact ih (bump .patFragEarlyDrop h.keyPort s)

/-- An EARLY entry that 2 ms have not resolved is freed, its fragments counted (R154). -/
theorem earlyExpire_due {slot : Nat} {e : Frag} {s : State} (h : s.pat.frags.find? (fun e => e.slot == slot) = some e) (hearly : e.early = true) (hdue : e.since + 2 * msCyc ≤ s.cyc) :
    ∃ c, earlyExpire slot s = { s with pat := { s.pat with frags := s.pat.frags.filter (fun x => x.slot != slot) }, counters := c } := by
  obtain ⟨c, hc⟩ := countDrops_counters e.held (setFrags (s.pat.frags.filter (fun x => x.slot != slot)) s)
  refine ⟨c, Eq.trans ?_ hc⟩
  simp only [earlyExpire, h]
  exact if_neg (not_or.mpr ⟨by rw [hearly]; decide, Nat.not_lt.mpr hdue⟩)

theorem earlyExpire_waits {slot : Nat} {e : Frag} {s : State} (h : s.pat.frags.find? (fun e => e.slot == slot) = some e) (hwait : e.early = false ∨ s.cyc < e.since + 2 * msCyc) :
    earlyExpire slot s = s := by
  simp only [earlyExpire, h]
  exact if_pos (hwait.imp_left fun he => by rw [he]; rfl)

/-- Settles O49: the clauses of the bases, the keys, the marks and the Pattern's timers, each by its own law. -/
theorem stitchAndPatternEventsRun : Obligations.StitchAndPatternEventsRun := by
  intro s at_ u
  refine ⟨fun hrun => ⟨fun base a b held => ?base, fun key hnone => ?none, fun o k kk x hk hdue hlast => ?mark, fun p e kk x hawake he hdue hlast => ?gate,
    fun key x hawake hdue hlast hnear => ?near, fun o => ?pulse⟩, fun hrun => ?epoch, fun hrun => ?zones, fun hrun slot => ?frags⟩
  case base =>
    intro x filter moved d
    refine ⟨fun ha hb => ?same, fun hmode hedge => ?uncounted, fun h1 h3 hedge hheld => ?glitch, fun hmode ha hlow hheld => ?stepped, fun hmode hx4 hstep hheld => ?quarter, fun hstands => ?runs, fun hm hdue => ?stands⟩
    case same => exact completes_atBeacon rfl hrun (stitchEdge_same ha hb)
    case uncounted => exact completes_atBeacon rfl hrun (stitchEdge_uncounted hedge hmode)
    case glitch => exact completes_atBeacon rfl hrun (stitchEdge_glitch hedge h1 h3 hheld)
    case stepped =>
      subst ha
      exact ⟨_, completes_atBeacon rfl hrun (stitchEdge_pulse hmode hlow hheld), countedEdge_frame base.val true b (if x.mode = 2 then !b else x.cmdFwd) u⟩
    case quarter => exact ⟨_, completes_atBeacon rfl hrun (stitchEdge_quarter hmode hx4 hstep hheld), countedEdge_frame base.val a b (d == 1) u⟩
    case runs => exact completes_atBeacon rfl hrun (standstill_runs hstands)
    case stands => exact completes_atBeacon rfl hrun (standstill_due hm hdue)
  case none => exact completes_atBeacon rfl hrun (keyDueNow_none hnone)
  case mark =>
    obtain ⟨w, hfire, hw⟩ := fireKeys_first (c := 27 + o.val) (i := 27648 + o.val * 16 + k) (k := kk) (x := x) hlast
    have hact : keyDueNow (.mark o k) u = markFire o.val w := (keyFires_alone hdue).trans (hfire.trans (keyAction_mark o.isLt hk))
    obtain ⟨-, hsch, hfab, -, -, hout, hmark, -, hnow⟩ := agree_of_besideKeys hw
    obtain ⟨hend, hout', hfab', hsch'⟩ := markFire_frame o.val w
    rw [hmark, hnow] at hend hout'
    exact ⟨_, completes_atBeacon rfl hrun hact, hend, by rw [hout', hout], hfab'.trans hfab, hsch'.trans hsch⟩
  case gate =>
    intro g ent
    obtain ⟨w, hfire, hw⟩ := fireKeys_first (c := p.val) (i := p.val * 1024 + e) (k := kk) (x := x) hlast
    have hact : keyDueNow (.gate p e) u = overrideFire p.val e w := (keyDueNow_awake hawake).trans ((keyFires_alone hdue).trans (hfire.trans (keyAction_gate p.isLt he)))
    obtain ⟨-, -, hfab, -, -, -, -, hgates, hnow⟩ := agree_of_besideKeys hw
    obtain ⟨hovr, hbolt⟩ := overrideFire_frame p.val e w
    rw [hgates, hnow] at hovr
    exact ⟨_, completes_atBeacon rfl hrun hact, hovr, (hbolt _).trans (by rw [hfab])⟩
  case near =>
    have hne : dueKeys (KeyRef.consumer key) u ≠ [] := by
      intro h
      rw [h] at hdue
      exact Bool.false_ne_true hdue
    obtain ⟨hmarks, hsch, -, hedge, hsel, hout, -, -, -⟩ := agree_of_besideKeys (fireKeys_near (c := KeyRef.consumer key) hne hlast hnear)
    exact ⟨_, completes_atBeacon rfl hrun ((keyDueNow_awake hawake).trans (if_pos hdue)), hmarks, hsch, hedge, hsel, hout⟩
  case pulse =>
    intro m
    exact ⟨fun hidle => completes_atBeacon rfl hrun (markEnd_idle hidle), fun stop hstop hdue => completes_atBeacon rfl hrun (markEnd_due hstop hdue)⟩
  case epoch =>
    have hcompletes : ∀ t, freeEpoch s = t → Completes .epochFree s t := fun t ht => by
      rw [← ht]
      exact congrArg ends (if_pos hrun)
    refine ⟨fun hnone => hcompletes _ (freeEpoch_of_not_draining hnone), fun tb htb => ⟨fun hrefs => hcompletes _ ?_, fun hfree => hcompletes _ ?_⟩⟩
    · rw [freeEpoch_of_draining htb, if_neg hrefs]
    · rw [freeEpoch_of_draining htb, if_pos hfree]
  case zones =>
    have hcompletes : ∀ t, retryZones u = t → Completes (.zoneSwapRetry at_) s t := fun t ht => completes_at rfl ((if_pos hrun).trans ht)
    refine ⟨fun hwait => hcompletes _ (retryZones_waits hwait), fun tb hw hdue hcur hnew => ?_⟩
    have hretry := retryZones_due hw hdue hcur hnew
    refine ⟨fun hdrains => hcompletes _ (hretry.trans (if_pos hdrains)), fun hfree => hcompletes _ (hretry.trans (if_neg ?_))⟩
    rw [hfree]
    decide
  case frags =>
    refine ⟨completes_atCore rfl hrun rfl, fun e he => ⟨fun hwait => completes_atCore rfl hrun (earlyExpire_waits he hwait), fun hearly hdue => ?_⟩⟩
    obtain ⟨c, hc⟩ := earlyExpire_due he hearly hdue
    exact ⟨c, completes_atCore rfl hrun hc⟩

end Sys2Proof.Machine
end

section
/-! Proofs/GatewayEvents: the gateway's chains and containers, and transmit time-outs (R170-R180). -/

namespace Sys2Proof.Machine
open Sys2Proof.Claims

/-! The gateway (R171-R173, R178) -/

/-- A FORWARD entry to a CAN channel sends what it can convert to the queue or the slot, and counts the rest (R172, R173, R176). -/
theorem forwardCopy_can {t : EpochTables} {r : BitVec 128} {bs : List Byte} {s : State} (hch : bits r 110 105 < 32) :
    forwardCopy t r .can bs s = match convert (canProtocol (bits r 110 105) s) r false (canOfPseudo bs) with
      | none => bump .edgeFormatDrop (bits r 110 105) s
      | some x => if r.getLsbD 99 then writeSlot (bits r 110 105) (bits r 98 93) x s else enqueueTx (bits r 110 105) { msg := x, since := s.cyc } s :=
  if_neg (Nat.not_le.mpr hch)

/-- A chain of one FORWARD entry. -/
theorem runChain_forward {t : EpochTables} {route i stamp : Nat} {r : BitVec 128} {ek : EdgeKind} {bs : List Byte} {s : State} (hchain : routeChain t 16 route = [(i, r)]) (hkind : routeKind r = 0) :
    runChain t route ek stamp bs s = forwardCopy t r ek bs s := by
  simp only [runChain, hchain, forEach, List.foldl_cons, List.foldl_nil, hkind]

section
variable {s : State} {it : EdgeItem} {rest : List EdgeItem} (hinbox : s.edge.inbox = it :: rest)
include hinbox

/-- The state in which the gateway has taken its oldest message. -/
theorem gatewayDeliver_unknown (htb : it.epoch.bind (fun n => tablesOf n s) = none) :
    gatewayDeliver s = drainFifos 512 { s with edge := { s.edge with inbox := rest } } := by
  have htb' : it.epoch.bind (fun n => tablesOf n { s with edge := { s.edge with inbox := rest } }) = none := htb
  simp only [gatewayDeliver, hinbox, htb']

theorem gatewayDeliver_known {t : EpochTables} (htb : it.epoch.bind (fun n => tablesOf n s) = some t) :
    gatewayDeliver s = drainFifos 512 (
      if it.ek ≠ .ethernet then runChain t it.route it.ek it.stamp it.bytes { s with edge := { s.edge with inbox := rest } }
      else if it.keyPort = 28 then bump .edgeLoopDrop 0 { s with edge := { s.edge with inbox := rest } }
      else decapFrame t it { s with edge := { s.edge with inbox := rest } }) := by
  have htb' : it.epoch.bind (fun n => tablesOf n { s with edge := { s.edge with inbox := rest } }) = some t := htb
  simp only [gatewayDeliver, hinbox, htb']

end

/-- An entry that a table lists once with its index is what the index reads. -/
theorem mapGet_of_filter {α : Type} (d : α) {m : SMap α} {q : Nat → Bool} {e : Nat × α} (h : m.filter (fun x => q x.1) = [e]) : mapGet d m e.1 = e.2 := by
  have hmem : e ∈ m.filter (fun x => q x.1) := h ▸ List.mem_singleton_self e
  have hq : q e.1 = true := (List.mem_filter.mp hmem).2
  clear hmem
  induction m with
  | nil => cases h
  | cons x m ih =>
    obtain ⟨j, v⟩ := x
    rw [List.filter_cons] at h
    cases hx : q j with
    | false =>
      simp only [hx, Bool.false_eq_true, ↓reduceIte] at h
      have hne : j ≠ e.1 := fun he => Bool.false_ne_true (hx.symm.trans (he ▸ hq))
      rw [mapGet, if_neg hne]
      exact ih h
    | true =>
      simp only [hx, ↓reduceIte, List.cons.injEq] at h
      obtain ⟨rfl, -⟩ := h
      exact if_pos rfl

/-- A container's frame in progress goes out once its first record has waited for FLUSH (R178). -/
theorem flushContainer_one {c : Nat} {e : Nat × AcfFrame} {s : State} (h : s.edge.acf.filter (fun e => e.1 % 256 == c) = [e]) (hrecs : e.2.recs ≠ []) :
    flushContainer c s = if e.2.since + e.2.cont.flush * usCyc ≤ s.cyc then
      enterWhole 28 28 .ethernet none (currentEpoch s) (nowFrac s) (acfFrame e.2.cont (mapGet 0 s.edge.acfSeq c) e.2.recs)
        (bump .edgeAcfSent c { s with edge := { s.edge with acf := mapSet {} s.edge.acf e.1 {}, acfSeq := mapSet 0 s.edge.acfSeq c ((mapGet 0 s.edge.acfSeq c + 1) % 256) } })
      else s := by
  have hkey : acfKey (e.1 / 256) c = e.1 := by
    have hmem : e ∈ s.edge.acf.filter (fun e => e.1 % 256 == c) := h ▸ List.mem_singleton_self e
    have hc : e.1 % 256 = c := beq_iff_eq.mp (List.mem_filter.mp hmem).2
    unfold acfKey
    omega
  have hheld : mapGet {} s.edge.acf e.1 = e.2 := mapGet_of_filter {} (q := fun k => k % 256 == c) h
  have hsome : e.2.recs.isEmpty = false := by simpa using hrecs
  simp only [flushContainer, h, forEach, List.foldl_cons, List.foldl_nil, hsome, Bool.not_false, true_and, ge_iff_le, sendContainer, hkey, hheld, Bool.false_eq_true, ↓reduceIte]

/-- With nothing handed to the controller, a transmit time-out drops the queue's late messages (R175). -/
theorem canTimeout_queue {ch : Nat} {s : State} (h : handedOf ch s = []) :
    canTimeout ch s = bumpBy ((txq ch s).filter (fun t => decide (s.cyc ≥ t.since + txTimeout ch s))).length .edgeTxTimeout ch
      (setTxq ch ((txq ch s).filter (fun t => !(decide (s.cyc ≥ t.since + txTimeout ch s)))) s) := by
  have h' : handedOf ch (bumpBy ((txq ch s).filter (fun t => decide (s.cyc ≥ t.since + txTimeout ch s))).length .edgeTxTimeout ch
      (setTxq ch ((txq ch s).filter (fun t => !(decide (s.cyc ≥ t.since + txTimeout ch s)))) s)) = [] := h
  simp only [canTimeout, h', List.isEmpty_nil, ↓reduceIte]

/-! CAN channels (R245-R253) -/

theorem mapPut_mapPut {α : Type} (m : SMap α) (k : Nat) (x y : α) : mapPut (mapPut m k y) k x = mapPut m k x := by
  induction m with
  | nil => simp [mapPut]
  | cons e m ih =>
    obtain ⟨j, v⟩ := e
    simp only [mapPut]
    split
    · simp [mapPut]
    · split
      · simp [mapPut]
      · simp [mapPut, *]

/-- A channel in operation is no channel after reset, so that a second write replaces the first. -/
theorem setCan_setCan {i : Nat} {x y : CanChan} (s : State) (hx : x.record.getLsbD 127 = true) (hy : y.record.getLsbD 127 = true) : setCan i x (setCan i y s) = setCan i x s := by
  have hreset : canReset.record.getLsbD 127 = false := by decide +kernel
  have hne : ∀ c : CanChan, c.record.getLsbD 127 = true → c ≠ canReset := fun c hc he => Bool.false_ne_true (hreset.symm.trans (he ▸ hc))
  simp only [setCan, mapSet, if_neg (hne x hx), if_neg (hne y hy), mapPut_mapPut]

theorem getCan_setCan_same (i : Nat) (c : CanChan) (s : State) : getCan i (setCan i c s) = c := mapGet_mapSet_same _ _ _ _

/-- A controller whose error state has not changed announces nothing (R250). -/
theorem noteErrState_same {ch old : Nat} {s : State} (h : errState (getCan ch s) = old) : noteErrState ch old s = s := if_pos h

theorem errState_active {c : CanChan} (ht : c.tec < 128) (hr : c.recv < 128) : errState c = 0 := by
  unfold errState
  rw [if_neg (by omega), if_neg (by omega)]

theorem detecting_fixed {c : CanChan} (h : bits c.record 123 122 = 0) : detecting c = false := by
  simp [detecting, h]

theorem errState_recv {c : CanChan} {n : Nat} (h : n < 128 ∧ c.recv < 128) {e : Nat} {phase : Bool} : errState { c with lastErr := e, lastPhase := phase, recv := n } = errState c := by
  simp only [errState, ge_iff_le, Nat.not_le.mpr h.1, Nat.not_le.mpr h.2]

theorem errState_tec {c : CanChan} {n : Nat} (h : n < 128 ∧ c.tec < 128) {e : Nat} {phase : Bool} : errState { c with lastErr := e, lastPhase := phase, tec := n } = errState c := by
  have hlow : ¬ n > 255 ∧ ¬ n ≥ 128 ∧ ¬ c.tec > 255 ∧ ¬ c.tec ≥ 128 := by omega
  simp only [errState, hlow]

/-- A frame received without error lowers REC and joins the FIFO with its stamp, or is counted where the FIFO is full (R248, R250). -/
theorem canReceive_normal {i : Nat} {s : State} {c : CanChan} (hc : getCan i s = c) (hen : c.record.getLsbD 127 = true) (hon : c.bus = .on) (htail : c.tail = none) (hedge : edgeOn s = true)
    (hmode : bits c.record 123 122 = 0) (hheld : busesHeld s = false) {m : CanMsg} {ago : Nat} (hfd : m.format = .classicBase ∨ m.format = .classicExt ∨ 1 ≤ bits c.record 126 125)
    (hxl : m.format = .xl → bits c.record 126 125 = 2) (hrec : c.recv ≤ 127) :
    canReceive i ago m s = drainFifos 512 (if c.fifo.length ≥ 32 then bump .edgeRxOverflow i (setCan i { c with recv := c.recv - 1 } s)
      else setCan i { c with recv := c.recv - 1, fifo := c.fifo ++ [(m, fracAgo ago s)] } s) := by
  have hwas : getCan i s = { c with tail := none } := by rw [hc, ← htail]
  have hlow : { c with recv := c.recv - 1 } = { c with recv := c.recv - 1, tail := none } := by rw [← htail]
  have hkept : errState { c with recv := c.recv - 1, tail := none } = errState { c with tail := none } := by
    simp only [errState]
    congr 2
    simp only [eq_iff_iff]
    omega
  have hquiet : noteErrState i (errState { c with tail := none }) (setCan i { c with recv := c.recv - 1, tail := none } s) = setCan i { c with recv := c.recv - 1, tail := none } s :=
    noteErrState_same (by rw [getCan_setCan_same, hkept])
  simp only [canReceive, hwas, Option.isSome_none, Bool.false_and, Bool.false_or, Bool.false_eq_true, ↓reduceIte]
  refine (if_neg ?_).trans ?_
  · cases hf : m.format <;> simp_all
  · simp only [hheld, hmode, ne_eq, not_true_eq_false, decide_false, Bool.not_false, true_and, if_neg (Nat.not_lt.mpr hrec), Bool.false_eq_true, ↓reduceIte, hquiet]
    split
    · have hcan : getCan i (bump .edgeRxOverflow i (setCan i { c with recv := c.recv - 1, tail := none } s)) = { c with recv := c.recv - 1, tail := none } := getCan_setCan_same i _ s
      simp only [hcan, detecting_fixed, hmode, Bool.false_eq_true, ↓reduceIte, hlow]
    · simp only [getCan_setCan_same, detecting_fixed, hmode, Bool.false_eq_true, ↓reduceIte]
      rw [setCan_setCan, htail]
      · rfl
      · exact hen
      · exact hen

/-! Errors on the bus (R250, R251) -/

/-- A controller's registers after an error: it is noted, and counted unless it fell in a data phase without error frames (TMS_EN). -/
def canErred (e : CanErr) (phase tx : Bool) (c : CanChan) : CanChan :=
  if phase && c.record.getLsbD 120 then { c with lastErr := errCode e, lastPhase := phase } else raiseErr e tx { c with lastErr := errCode e, lastPhase := phase }

theorem canErred_keeps (e : CanErr) (phase tx : Bool) (c : CanChan) : (canErred e phase tx c).sending = c.sending ∧ (canErred e phase tx c).record = c.record := by
  unfold canErred raiseErr
  split
  · exact ⟨rfl, rfl⟩
  · cases tx <;> simp only [Bool.false_eq_true, ↓reduceIte]
    · exact ⟨trivial, trivial⟩
    · split <;> exact ⟨rfl, rfl⟩

theorem canErred_silent (e : CanErr) (tx : Bool) {c : CanChan} (h : c.record.getLsbD 120 = true) : canErred e true tx c = { c with lastErr := errCode e, lastPhase := true } :=
  if_pos (by simp [h])

/-- Nothing in transmission goes back to the queue. -/
theorem requeueSending_idle {ch : Nat} {s : State} (h : (getCan ch s).sending = none) : requeueSending ch s = s := by
  simp only [requeueSending, h]

/-- An error at a controller that sends nothing (R250). -/
theorem canError_runs {i : Nat} {s : State} {c : CanChan} (hc : getCan i s = c) (hen : c.record.getLsbD 127 = true) (hon : c.bus = .on) (htail : c.tail = none) (hedge : edgeOn s = true)
    (hmode : bits c.record 123 122 = 0) (hidle : c.sending = none) (e : CanErr) (phase tx : Bool)
    {t : State} (ht : noteErrState i (errState c) (bump (errCounter e) i (setCan i (canErred e phase tx c) s)) = t) (hrec : (getCan i t).record = c.record) :
    canError i e phase tx s = t := by
  have hsame : c = { c with tail := none } := by rw [← htail]
  have hfixed : detecting (getCan i t) = false := detecting_fixed (hrec ▸ hmode)
  rw [hsame] at hc ht
  have hback : requeueSending i (bump (errCounter e) i (setCan i (canErred e phase tx { c with tail := none }) s)) = bump (errCounter e) i (setCan i (canErred e phase tx { c with tail := none }) s) := by
    refine requeueSending_idle ?_
    show (getCan i (setCan i (canErred e phase tx { c with tail := none }) s)).sending = none
    rw [getCan_setCan_same, (canErred_keeps e phase tx _).1, hidle]
  have hcounted : (if phase && c.record.getLsbD 120 then { c with lastErr := errCode e, lastPhase := phase, tail := none }
      else raiseErr e tx { c with lastErr := errCode e, lastPhase := phase, tail := none }) = canErred e phase tx { c with tail := none } := rfl
  simp only [canError, hc, Option.getD_none, Option.isSome_none]
  refine (if_neg ?_).trans ?_
  · simp [hen, hon, hedge]
  · simp only [hmode, ne_eq, not_true_eq_false, decide_false, Bool.or_false, Bool.false_or, hcounted, hback, ite_self, ht, hfixed, Bool.false_eq_true, ↓reduceIte]

section
variable {e : CanErr} {phase : Bool} {c : CanChan} (hloud : phase = false ∨ c.record.getLsbD 120 = false)
include hloud

theorem canErred_loud (tx : Bool) : canErred e phase tx c = raiseErr e tx { c with lastErr := errCode e, lastPhase := phase } :=
  if_neg (by rcases hloud with h | h <;> rw [h] <;> simp)

theorem canErred_receiver (hlow : c.recv + (if e = .bit0 then 8 else 1) ≤ 255) :
    canErred e phase false c = { c with lastErr := errCode e, lastPhase := phase, recv := c.recv + if e = .bit0 then 8 else 1 } := by
  rw [canErred_loud hloud]
  simp only [raiseErr, Bool.false_eq_true, ↓reduceIte, Nat.min_eq_right hlow]

theorem canErred_transmitter (hack : e ≠ .ack ∨ errState c ≠ 1) :
    canErred e phase true c = { c with lastErr := errCode e, lastPhase := phase, tec := c.tec + 8 } := by
  rw [canErred_loud hloud]
  exact if_neg fun h : e = .ack ∧ errState c = 1 => hack.elim (fun ha => ha h.1) fun ha => ha h.2

end

/-- An error that leaves the error state as it was is only noted and counted. -/
theorem canError_counts {i : Nat} {s : State} {c : CanChan} (hc : getCan i s = c) (hen : c.record.getLsbD 127 = true) (hon : c.bus = .on) (htail : c.tail = none) (hedge : edgeOn s = true)
    (hmode : bits c.record 123 122 = 0) (hidle : c.sending = none) {e : CanErr} {phase tx : Bool} {c' : CanChan} (herr : canErred e phase tx c = c') (hstate : errState c' = errState c) :
    canError i e phase tx s = bump (errCounter e) i (setCan i c' s) := by
  have hcan : getCan i (bump (errCounter e) i (setCan i c' s)) = c' := getCan_setCan_same i c' s
  refine canError_runs hc hen hon htail hedge hmode hidle e phase tx ?_ ?_
  · rw [herr]
    exact noteErrState_same (by rw [hcan, hstate])
  · rw [hcan, ← herr]
    exact (canErred_keeps e phase tx c).2

/-- A transmit error counter above 255 takes the controller off the bus (R250). -/
theorem noteErrState_busOff {ch old : Nat} {s : State} (htec : 255 < (getCan ch s).tec) (hold : old ≠ 2) (hidle : (getCan ch s).sending = none) :
    noteErrState ch old s = setCan ch { getCan ch s with bus := if (getCan ch s).record.getLsbD 121 then .recovering else .busOff, offAt := some s.cyc }
      (bump .edgeBusOff ch (raiseEv .busState ch (natBytes 1 2) s)) := by
  have hoff : errState (getCan ch s) = 2 := if_pos htec
  have hback : requeueSending ch (raiseEv .busState ch (natBytes 1 2) s) = raiseEv .busState ch (natBytes 1 2) s := requeueSending_idle hidle
  simp only [noteErrState, hoff, if_neg hold.symm, ↓reduceIte, hback]
  rfl

theorem busOff_frame (ch : Nat) (c c' : CanChan) (k : Ctr) (d : List Byte) (s : State) :
    (setCan ch c (bump .edgeBusOff ch (raiseEv .busState ch d (bump k ch (setCan ch c' s))))).pwr = s.pwr
      ∧ (setCan ch c (bump .edgeBusOff ch (raiseEv .busState ch d (bump k ch (setCan ch c' s))))).raised = s.raised ++ [(.busState, ch, d)]
      ∧ (setCan ch c (bump .edgeBusOff ch (raiseEv .busState ch d (bump k ch (setCan ch c' s))))).fab = s.fab := by
  refine ⟨?_, ?_, ?_⟩
  · simp only [setCan_frame, bump_frame, raiseEv_frame]
  · simp only [setCan_frame, bump_frame, raiseEv]
  · simp only [setCan_frame, bump_frame, raiseEv_frame]

/-! The bus and the network's sleep (R249, R401) -/

theorem canAsleep_congr {ch : Nat} {s t : State} (h : t.pwr = s.pwr) : canAsleep ch t = canAsleep ch s := by
  simp only [canAsleep, asleepMember, netOf, getNet, h]

/-- A channel of an awake network outside DOZE goes on after a frame. -/
theorem restAfterFrame_awake {ch : Nat} {s t : State} (h : t.pwr = s.pwr) (hnet : canAsleep ch s = false) (hawake : s.pwr.state ≠ .doze) : restAfterFrame ch t = t := by
  have hnet' : canAsleep ch t = false := (canAsleep_congr h).trans hnet
  rw [canAsleep] at hnet'
  simp only [restAfterFrame, hnet', h, hawake, Bool.false_eq_true, ↓reduceIte]

theorem mayTransmit_of {ch : Nat} {s : State} {c : CanChan} (hc : getCan ch s = c) (hen : c.record.getLsbD 127 = true) (hon : c.bus = .on) (hedge : edgeOn s = true) (hheld : busesHeld s = false)
    (hmode : bits c.record 123 122 = 0) (hwait : c.waitUntil = none) (hstb : c.stbN = true) (hena : c.en = true) : mayTransmit ch s = true := by
  simp only [mayTransmit, hc, hen, hon, hedge, hheld, hmode, hwait, hstb, hena]
  decide

section
variable {ch : Nat} {s : State} (htail : (getCan ch s).tail = none) (hmay : mayTransmit ch s = true) (hidle : (getCan ch s).sending = none)
include htail hmay hidle

theorem canIdle_handed {h : Handed} {rest : List Handed} (hh : handedOf ch s = h :: rest) :
    canIdle ch s = emit (.can ch h.msg) (setCan ch { getCan ch s with sending := some ({ msg := h.msg, since := h.since }, some h.slot) } (setHanded ch rest s)) := by
  simp only [canIdle, htail, Option.isSome_none, Bool.false_eq_true, ↓reduceIte, hmay, hidle, Bool.not_true, or_self, hh]

theorem canIdle_queued {t : TxMsg} {rest : List TxMsg} (hh : handedOf ch s = []) (hq : txq ch s = t :: rest) :
    canIdle ch s = emit (.can ch t.msg) (setCan ch { getCan ch s with sending := some (t, none) } (setTxq ch rest s)) := by
  simp only [canIdle, htail, Option.isSome_none, Bool.false_eq_true, ↓reduceIte, hmay, hidle, Bool.not_true, or_self, hh, hq]

theorem canIdle_empty (hh : handedOf ch s = []) (hq : txq ch s = []) : canIdle ch s = s := by
  simp only [canIdle, htail, Option.isSome_none, Bool.false_eq_true, ↓reduceIte, hmay, hidle, Bool.not_true, or_self, hh, hq]

end

/-- A message sent with success lowers TEC (R250). -/
theorem canTxEnd_success {ch : Nat} {s : State} {x : TxMsg × Option Nat} (hx : (getCan ch s).sending = some x) (htec : (getCan ch s).tec ≤ 127) :
    canTxEnd ch .success s = setCan ch { getCan ch s with sending := none, tec := (getCan ch s).tec - 1 } s := by
  simp only [canTxEnd, hx]
  refine noteErrState_same ?_
  rw [getCan_setCan_same]
  have hlow : ¬ (getCan ch s).tec - 1 > 255 ∧ ¬ (getCan ch s).tec > 255 ∧ ¬ (getCan ch s).tec - 1 ≥ 128 ∧ ¬ (getCan ch s).tec ≥ 128 := by omega
  simp only [errState, hlow, ↓reduceIte]

theorem limitTxq_pwr (ch : Nat) (q : List TxMsg) (s : State) : (limitTxq ch q s).pwr = s.pwr := by
  unfold limitTxq
  split <;> rfl

/-- A message that was not sent returns to its queue (R249). -/
theorem canTxEnd_returns {ch : Nat} {s : State} {t : TxMsg} {r : TxResult} (hx : (getCan ch s).sending = some (t, none)) (hr : r ≠ .success) :
    canTxEnd ch r s = limitTxq ch (queueReturn t (txq ch s)) (setCan ch { getCan ch s with sending := none } s) := by
  have hback : requeueSending ch s = limitTxq ch (queueReturn t (txq ch s)) (setCan ch { getCan ch s with sending := none } s) := by
    simp only [requeueSending, hx]
  rw [← hback]
  simp only [canTxEnd, hx]

/-! Recovery, integration and rate detection (R245, R250, R253) -/

theorem canIntegrated_joins {ch : Nat} {s : State} (hen : (getCan ch s).record.getLsbD 127 = true) (hbus : (getCan ch s).bus = .integrating) (hedge : edgeOn s = true) :
    canIntegrated ch s = setCan ch { getCan ch s with record := if (getCan ch s).rateState = 2 then BitVec.ofNat 128 ((getCan ch s).record.toNat - (bits (getCan ch s).record 123 122 <<< 122)) else (getCan ch s).record, bus := .on, candAt := s.cyc, tail := none } s := by
  have hrecord : (if ((getCan ch s).rateState == 2 && decide (bits (getCan ch s).record 123 122 ≠ 0)) = true then BitVec.ofNat 128 ((getCan ch s).record.toNat - (bits (getCan ch s).record 123 122 <<< 122)) else (getCan ch s).record) =
      if (getCan ch s).rateState = 2 then BitVec.ofNat 128 ((getCan ch s).record.toNat - (bits (getCan ch s).record 123 122 <<< 122)) else (getCan ch s).record := by
    by_cases hrate : (getCan ch s).rateState = 2
    · by_cases hbits : bits (getCan ch s).record 123 122 = 0
      · simp [hrate, hbits]
      · simp [hrate, hbits]
    · simp [hrate]
  rw [← hrecord]
  exact if_pos ⟨hen, .inl hbus, hedge⟩

theorem canDwell_waits {ch : Nat} {s : State} (h : s.cyc < (getCan ch s).candAt + (getCan ch s).dwell * msCyc) : canDwell ch s = s :=
  if_neg fun hdue => absurd hdue.2 (Nat.not_le.mpr h)

theorem canDwell_due {ch : Nat} {s : State} (hdet : detecting (getCan ch s) = true) (h : (getCan ch s).candAt + (getCan ch s).dwell * msCyc ≤ s.cyc) : canDwell ch s = nextCandidate ch s :=
  if_pos ⟨hdet, h⟩

theorem nextCandidate_next {ch : Nat} {s : State} (h : (getCan ch s).cand + 1 < (getCan ch s).cands.length) :
    nextCandidate ch s = setCan ch { getCan ch s with cand := (getCan ch s).cand + 1, goodRun := 0, dataSeen := false, bus := .integrating, candAt := s.cyc } s := by
  have hmax : Nat.max 1 (getCan ch s).cands.length = (getCan ch s).cands.length := Nat.max_eq_right (by omega)
  have hmore : ¬ ((getCan ch s).cand + 1 ≥ (getCan ch s).cands.length) := Nat.not_le.mpr h
  simp only [nextCandidate, hmax, hmore, decide_false, Bool.false_eq_true, false_and, ↓reduceIte]

theorem nextCandidate_fails {ch : Nat} {s : State} (h : (getCan ch s).cand + 1 = (getCan ch s).cands.length) (hlast : (getCan ch s).rounds = (getCan ch s).roundsDone + 1) :
    nextCandidate ch s = raiseEv .rateFailed ch [] (bump .edgeRateFail ch (setCan ch { getCan ch s with rateState := 4, roundsDone := (getCan ch s).roundsDone + 1, goodRun := 0, dataSeen := false } s)) := by
  have hmax : Nat.max 1 (getCan ch s).cands.length = (getCan ch s).cands.length := Nat.max_eq_right (by omega)
  simp only [nextCandidate, hmax, h, ge_iff_le, Nat.le_refl, decide_true, ↓reduceIte, hlast, ne_eq, Nat.add_one_ne_zero, not_false_eq_true, and_self]

/-- A frame on a channel of an awake network is received (R248). -/
theorem completes_frameRx {ch : PhysCh} {ago : Nat} {m : CanMsg} {s t : State} (hnet : canAsleep ch.val s = false) (hawake : s.pwr.state ≠ .doze) (h : canReceive ch.val ago m s = t) :
    Completes (.canFrameRx ch ago m) s t := by
  have hframe : frameOnCan ch.val ago m s = t := by
    rw [← h, frameOnCan, leaveDoze_of_awake hawake, hnet]
    exact if_neg fun hx => Bool.false_ne_true hx.1
  exact congrArg ends hframe

theorem completes_busIdle {ch : PhysCh} {s t : State} (hnet : canAsleep ch.val s = false) (hawake : s.pwr.state ≠ .doze) (h : canIdle ch.val s = t) :
    Completes (.canBusIdle ch) s t := by
  have hact : (if s.pwr.state = .doze ∨ canAsleep ch.val s = true then s else canIdle ch.val s) = t :=
    (if_neg (not_or.mpr ⟨hawake, by rw [hnet]; decide⟩)).trans h
  exact congrArg ends hact

theorem completes_error {ch : PhysCh} {e : CanErr} {phase tx : Bool} {s t : State} (hnet : canAsleep ch.val s = false) (hawake : s.pwr.state ≠ .doze)
    (h : canError ch.val e phase tx s = t) (hpwr : t.pwr = s.pwr) : Completes (.canErrorDetected ch e phase tx) s t := by
  have hact : errorOnCan ch.val e phase tx s = t := by
    rw [errorOnCan, hnet, h, restAfterFrame_awake hpwr hnet hawake]
    exact if_neg fun hx => Bool.false_ne_true hx.1
  exact congrArg ends hact

theorem completes_txEnd {ch : PhysCh} {r : TxResult} {s t : State} (hnet : canAsleep ch.val s = false) (hawake : s.pwr.state ≠ .doze)
    (h : canTxEnd ch.val r s = t) (hpwr : t.pwr = s.pwr) : Completes (.canTxComplete ch r) s t := by
  have hact : restAfterFrame ch.val (canTxEnd ch.val r s) = t := by rw [h, restAfterFrame_awake hpwr hnet hawake]
  exact congrArg ends hact

/-- Settles O50: the clauses of the gateway and of the channels, each by its own law. -/
theorem canAndGatewayEventsRun : Obligations.CanAndGatewayEventsRun := by
  refine ⟨fun s hedge hrun => ⟨fun hnone => ?none, fun it rest hinbox => ?message⟩, fun s at_ c hedge => ?container, fun s at_ ch => ?timeout, fun s ch => ?channel, fun s ch => ?recovery, fun s at_ ch => ?timers⟩
  case none =>
    have hact : gatewayDeliver s = drainFifos 512 s := by simp only [gatewayDeliver, hnone]
    exact congrArg ends ((if_pos hedge).trans ((if_pos hrun).trans hact))
  case message =>
    intro u tb
    have hcompletes : ∀ t, gatewayDeliver s = t → Completes .gatewayDeliver s t := fun t ht => congrArg ends ((if_pos hedge).trans ((if_pos hrun).trans ht))
    refine ⟨fun htb => hcompletes _ (gatewayDeliver_unknown hinbox htb), fun htb hek hport => ?_, fun t i r htb hek hchain hkind hch => ?_⟩
    · obtain ⟨t, ht⟩ := Option.isSome_iff_exists.mp htb
      refine hcompletes _ ((gatewayDeliver_known hinbox ht).trans ?_)
      rw [if_neg (not_not_intro hek), if_pos hport]
    · have hsent : gatewayDeliver s = drainFifos 512 (forwardCopy t r .can it.bytes u) := by
        rw [gatewayDeliver_known hinbox htb, if_pos (by rw [hek]; decide), hek, runChain_forward hchain hkind]
      rw [forwardCopy_can hch] at hsent
      refine ⟨fun hnone => hcompletes _ ?_, fun m hm => ⟨fun hslot => hcompletes _ ?_, fun hslot => hcompletes _ ?_⟩⟩
      · have hnone' : convert (canProtocol (bits r 110 105) u) r false (canOfPseudo it.bytes) = none := hnone
        rw [hsent, hnone']
      · have hm' : convert (canProtocol (bits r 110 105) u) r false (canOfPseudo it.bytes) = some m := hm
        rw [hsent, hm', hslot]
        rfl
      · have hm' : convert (canProtocol (bits r 110 105) u) r false (canOfPseudo it.bytes) = some m := hm
        rw [hsent, hm', hslot]
        rfl
  case container =>
    intro u
    have hcompletes : ∀ t, flushContainer c.val u = t → Completes (.containerFlush at_ c) s t := fun t ht => completes_at (act := fun t => if edgeOn t then flushContainer c.val t else t) rfl ((if_pos hedge).trans ht)
    refine ⟨fun hnone => hcompletes _ ?_, fun e he hrecs => ⟨fun hwait => hcompletes _ ?_, fun hdue => hcompletes _ ?_⟩⟩
    · simp only [flushContainer, hnone]
      rfl
    · rw [flushContainer_one he hrecs, if_neg (Nat.not_le.mpr hwait)]
    · rw [flushContainer_one he hrecs, if_pos hdue]
  case timeout =>
    intro u late hnone
    exact completes_at rfl (canTimeout_queue hnone)
  case channel =>
    intro c i hen hon htail hedge hheld hnet hawake hmode
    refine ⟨fun m ago hfd hxl hrec => ?received, fun hidle hwait hstb hena => ⟨fun h rest hh => ?handed, fun t rest hh hq => ?queued, fun hh hq => ?empty, fun e phase hloud => ?receiver,
      fun e tx hsilent => ?silent, fun e phase hloud htec hack => ?transmitter, fun e phase hloud hack hlow hhigh => ?off⟩, fun x hx htec => ?sent, fun t r hx hr => ?returned⟩
    case received =>
      have hrx := canReceive_normal (ago := ago) rfl hen hon htail hedge hmode hheld hfd hxl hrec
      exact ⟨fun hroom => completes_frameRx hnet hawake (hrx.trans (by rw [if_neg (Nat.not_le.mpr hroom)])), fun hfull => completes_frameRx hnet hawake (hrx.trans (by rw [if_pos hfull]))⟩
    case handed => exact completes_busIdle hnet hawake (canIdle_handed htail (mayTransmit_of rfl hen hon hedge hheld hmode hwait hstb hena) hidle hh)
    case queued => exact completes_busIdle hnet hawake (canIdle_queued htail (mayTransmit_of rfl hen hon hedge hheld hmode hwait hstb hena) hidle hh hq)
    case empty => exact completes_busIdle hnet hawake (canIdle_empty htail (mayTransmit_of rfl hen hon hedge hheld hmode hwait hstb hena) hidle hh hq)
    case receiver =>
      refine ⟨fun hlow hne => ?_, fun hlow he => ?_⟩
      · refine completes_error hnet hawake (canError_counts rfl hen hon htail hedge hmode hidle ((canErred_receiver hloud ?_).trans (by rw [if_neg hne])) (errState_recv ?_)) rfl
        · show c.recv + _ ≤ 255
          rw [if_neg hne]
          omega
        · show c.recv + 1 < 128 ∧ c.recv < 128
          omega
      · subst he
        refine completes_error hnet hawake (canError_counts rfl hen hon htail hedge hmode hidle (canErred_receiver hloud ?_) (errState_recv ?_)) rfl
        · show c.recv + 8 ≤ 255
          omega
        · show c.recv + 8 < 128 ∧ c.recv < 128
          omega
    case silent => exact completes_error hnet hawake (canError_counts rfl hen hon htail hedge hmode hidle (canErred_silent e tx hsilent) rfl) rfl
    case transmitter =>
      have hack' : e ≠ .ack ∨ errState (getCan i s) ≠ 1 := hack.imp_right fun hr => by rw [errState_active (Nat.lt_trans htec (by decide)) hr]; decide
      refine completes_error hnet hawake (canError_counts rfl hen hon htail hedge hmode hidle (canErred_transmitter hloud hack') (errState_tec ?_)) rfl
      show c.tec + 8 < 128 ∧ c.tec < 128
      omega
    case off =>
      have htec : canErred e phase true (getCan i s) = { getCan i s with lastErr := errCode e, lastPhase := phase, tec := (getCan i s).tec + 8 } := canErred_transmitter hloud (.inl hack)
      have hpassive : errState c ≠ 2 := by
        unfold errState
        rw [if_neg (by omega)]
        split <;> decide
      have hcan : getCan i (bump (errCounter e) i (setCan i (canErred e phase true (getCan i s)) s)) = { getCan i s with lastErr := errCode e, lastPhase := phase, tec := (getCan i s).tec + 8 } :=
        (getCan_setCan_same i _ s).trans htec
      have hoff := noteErrState_busOff (ch := i) (old := errState (getCan i s)) (s := bump (errCounter e) i (setCan i (canErred e phase true (getCan i s)) s))
        (by rw [hcan]; show 255 < c.tec + 8; omega) hpassive (by rw [hcan]; exact hidle)
      rw [hcan] at hoff
      obtain ⟨hpwr, hraised, hfab⟩ := busOff_frame i _ _ (errCounter e) (natBytes 1 2) s
      refine ⟨_, completes_error hnet hawake (canError_runs rfl hen hon htail hedge hmode hidle e phase true hoff ?_) hpwr, getCan_setCan_same i _ _, hraised, hfab⟩
      rw [getCan_setCan_same]
    case sent => exact completes_txEnd hnet hawake (canTxEnd_success hx htec) rfl
    case returned => exact completes_txEnd hnet hawake (canTxEnd_returns hx hr) (limitTxq_pwr ..)
  case recovery =>
    intro c i
    refine ⟨fun hrec => ?_, fun hrec => ?_, fun hen hbus hedge => ?_⟩
    · exact congrArg ends (if_neg (not_not_intro hrec))
    · exact congrArg ends (if_pos hrec)
    · exact congrArg (fun t => ends (setTransceiver i t)) (canIntegrated_joins hen hbus hedge)
  case timers =>
    intro u c i
    refine ⟨fun hnone => completes_at rfl ?_, fun t ht hdue => completes_at rfl ?_, fun hwait => completes_at rfl (canDwell_waits hwait), fun hdet hdue => ⟨fun hmore => ?_, fun hlast hrounds => ?_⟩⟩
    · have hwas : (getCan ch.val (advanceTo at_ s)).waitUntil = none := hnone
      simp only [transceiverReady, hwas]
      rfl
    · have hwas : (getCan ch.val (advanceTo at_ s)).waitUntil = some t := ht
      simp only [transceiverReady, hwas]
      exact if_pos hdue
    · exact completes_at rfl ((canDwell_due hdet hdue).trans (nextCandidate_next hmore))
    · exact completes_at rfl ((canDwell_due hdet hdue).trans (nextCandidate_fails hlast hrounds))

end Sys2Proof.Machine
end

section
/-! Proofs/BesideBolt: what the packet core leaves alone: the ports, the Edge, the links, the Bodkin, the Placket, power and the Keeper (R36-R72, R130-R162). -/

namespace Sys2Proof.Machine

/-- The state with everything blanked that the packet core changes: the Bolt, the schedules, the Pattern, the Seam and the counters. States that are equal here agree in all else. -/
def besideBolt (s : State) : State := { s with counters := [], fab := {}, sch := {}, pat := {}, seam := {} }

/-! Single updates -/

section Updates

variable (s : State)

@[simp] theorem besideBolt_setFab (x : Fabric) : besideBolt (setFab x s) = besideBolt s := (rfl)
@[simp] theorem besideBolt_updFrame (i : Nat) (u : Frame → Frame) : besideBolt (updFrame i u s) = besideBolt s := (rfl)
@[simp] theorem besideBolt_eraseFrame (i : Nat) : besideBolt (eraseFrame i s) = besideBolt s := (rfl)
@[simp] theorem besideBolt_setQueue (q : Nat) (l : List QEnt) : besideBolt (setQueue q l s) = besideBolt s := (rfl)
@[simp] theorem besideBolt_giveRow (c : Nat) : besideBolt (giveRow c s) = besideBolt s := (rfl)
@[simp] theorem besideBolt_updTracked (q : Nat) (u : Tracked → Tracked) : besideBolt (updTracked q u s) = besideBolt s := (rfl)
@[simp] theorem besideBolt_endContention : besideBolt (endContention s) = besideBolt s := (rfl)
@[simp] theorem besideBolt_bumpBy (n : Nat) (c : Ctr) (i : Nat) : besideBolt (bumpBy n c i s) = besideBolt s := (rfl)
@[simp] theorem besideBolt_bump (c : Ctr) (i : Nat) : besideBolt (bump c i s) = besideBolt s := (rfl)
@[simp] theorem besideBolt_setFilter (i : Nat) (x : StreamFilter) : besideBolt (setFilter i x s) = besideBolt s := (rfl)
@[simp] theorem besideBolt_setPolicer (i : Nat) (x : Policer) : besideBolt (setPolicer i x s) = besideBolt s := (rfl)
@[simp] theorem besideBolt_setRecov (i : Nat) (x : Recov) : besideBolt (setRecov i x s) = besideBolt s := (rfl)
@[simp] theorem besideBolt_setSGate (i : Nat) (x : StreamGate) : besideBolt (setSGate i x s) = besideBolt s := (rfl)
@[simp] theorem besideBolt_updFrag (i : Nat) (u : Frag → Frag) : besideBolt (updFrag i u s) = besideBolt s := (rfl)
@[simp] theorem besideBolt_refundMeter (o : Nat × Bool × Nat) (n : Nat) : besideBolt (refundMeter o n s) = besideBolt s := (rfl)

@[simp] theorem besideBolt_ite (c : Prop) [Decidable c] (t u : State) :
    besideBolt (if c then t else u) = if c then besideBolt t else besideBolt u := apply_ite besideBolt c t u

@[simp] theorem besideBolt_forEach {α : Type} {f : α → State → State} (h : ∀ a t, besideBolt (f a t) = besideBolt t) (l : List α) :
    besideBolt (forEach l f s) = besideBolt s := forEach_keeps h l s

@[simp] theorem besideBolt_forUpTo {f : Nat → State → State} (h : ∀ i t, besideBolt (f i t) = besideBolt t) (n : Nat) :
    besideBolt (forUpTo n f s) = besideBolt s := forEach_keeps h (List.range n) s

end Updates

/-! The cell store and the stream filters -/

section Store

variable (s : State)

@[simp] theorem besideBolt_syncFrame (i : Nat) : besideBolt (syncFrame i s) = besideBolt s := by
  unfold syncFrame
  split
  · rfl
  · split <;> simp

theorem besideBolt_syncLinks_go (q : Nat) (l : List QEnt) : besideBolt (syncLinks.go q l s) = besideBolt s := by
  induction l generalizing s with
  | nil => rfl
  | cons e l ih =>
    unfold syncLinks.go
    split <;> simp [ih]

@[simp] theorem besideBolt_syncLinks (q : Nat) : besideBolt (syncLinks q s) = besideBolt s := besideBolt_syncLinks_go s q _

@[simp] theorem besideBolt_payCredit (f : Frame) : besideBolt (payCredit f s) = besideBolt s := by simp [payCredit]

@[simp] theorem besideBolt_chargeCell (f : Frame) : besideBolt (chargeCell f s) = besideBolt s := by simp [chargeCell]

@[simp] theorem besideBolt_chargeNew (i : Nat) : besideBolt (chargeNew i s) = besideBolt s := by
  unfold chargeNew
  split
  · rfl
  · refine besideBolt_forUpTo s (fun _ t => ?_) _
    split <;> simp

@[simp] theorem besideBolt_releaseShared (q : Nat) : besideBolt (releaseShared q s) = besideBolt s := by
  unfold releaseShared
  split
  · rfl
  · split
    · rfl
    · split <;> simp

@[simp] theorem besideBolt_releaseCharge (f : Frame) (c : Charge) : besideBolt (releaseCharge f c s) = besideBolt s := by
  cases c <;> simp [releaseCharge]

@[simp] theorem besideBolt_freeCell (i : Nat) : besideBolt (freeCell i s) = besideBolt s := by
  unfold freeCell
  split
  · rfl
  · split
    · rfl
    · split <;> simp

@[simp] theorem besideBolt_freeAll (i : Nat) : besideBolt (freeAll i s) = besideBolt s := by
  unfold freeAll
  split <;> simp

@[simp] theorem besideBolt_ruleBytes (i : Nat) : besideBolt (ruleBytes i s) = besideBolt s := by
  unfold ruleBytes
  split
  · rfl
  · split <;> rfl

@[simp] theorem besideBolt_endFrame (i : Nat) : besideBolt (endFrame i s) = besideBolt s := by
  unfold endFrame settleMeter
  split
  · simp
  · split <;> simp

@[simp] theorem besideBolt_dropFrame (i : Nat) : besideBolt (dropFrame i s) = besideBolt s := by
  unfold dropFrame
  split <;> simp

@[simp] theorem besideBolt_sgateStep (g : Nat) (r : Filtered) : besideBolt (sgateStep g r s).2 = besideBolt s := by
  unfold sgateStep
  cases h : (getSGate g s).entry <;> simp [h, apply_ite Prod.snd]

@[simp] theorem besideBolt_recovStep (fn : Nat) (tag : Bool) (q : Nat) (r : Filtered) : besideBolt (recovStep fn tag q r s).2 = besideBolt s := by
  simp only [recovStep, apply_ite Prod.snd]
  simp

@[simp] theorem besideBolt_policeStep (pol n : Nat) (known dei : Bool) (r : Filtered) : besideBolt (policeStep pol n known dei r s).2 = besideBolt s := by
  unfold policeStep
  cases h : (((getPolicer pol s).fill s.cyc).meter n dei).1 <;> simp [h, apply_ite Prod.snd]

@[simp] theorem besideBolt_filterFrame (i : Nat) (f : StreamFilter) (k : PKey) (n : Nat) (known : Bool) (cls : Nat) :
    besideBolt (filterFrame i f k n known cls s).2 = besideBolt s := by
  simp only [filterFrame, apply_ite Prod.snd]
  simp

@[simp] theorem besideBolt_handlingFilter (i : Nat) (m : Bool) (pcp : Nat) : besideBolt (handlingFilter i m pcp s).2 = besideBolt s := by
  simp only [handlingFilter, apply_ite Prod.snd]
  simp

@[simp] theorem besideBolt_runFilter (i : Nat) : besideBolt (runFilter i s) = besideBolt s := by
  unfold runFilter
  split
  · rfl
  · split <;> simp

end Store

/-! Frames that enter -/

section Entry

variable (s : State)

@[simp] theorem besideBolt_startWalks : besideBolt (startWalks s) = besideBolt s := by
  refine besideBolt_forEach s (fun f t => ?_) _
  split <;> simp

@[simp] theorem besideBolt_endHeld (f : Frame) (good : Bool) (c : Ctr) (i : Nat) : besideBolt (endHeld f good c i s) = besideBolt s := by
  unfold endHeld
  split <;> simp [reenterHeld]

@[simp] theorem besideBolt_closeBad (i : Nat) (c : Ctr) (inst : Nat) : besideBolt (closeBad i c inst s) = besideBolt s := by
  unfold closeBad
  split <;> simp

@[simp] theorem besideBolt_keyComplete (i : Nat) (k : PKey) (d : Bool) : besideBolt (keyComplete i k d s) = besideBolt s := by
  unfold keyComplete
  split
  · rfl
  · dsimp only
    generalize depthAction _ s = act
    split
    · simp [refuse]
    · match act with
      | 0 => simp
      | 1 => simp [plainVerdict]
      | 2 => simp [refuse]
      | _ + 3 => simp [refuse, plainVerdict]

@[simp] theorem besideBolt_parseMore (i : Nat) : besideBolt (parseMore i s) = besideBolt s := by
  unfold parseMore
  split
  · rfl
  · split
    · rfl
    · split <;> simp [refuse]

@[simp] theorem besideBolt_settleBytes (i : Nat) : besideBolt (settleBytes i s) = besideBolt s := by
  unfold settleBytes
  split <;> simp

/-- A whole frame enters. -/
@[simp] theorem besideBolt_enterWhole (p k : Nat) (ek : EdgeKind) (x : Option Second) (ep : Option Nat) (stamp : Nat) (bs : List Byte) : besideBolt (enterWhole p k ek x ep stamp bs s) = besideBolt s := by
  simp [enterWhole]

@[simp] theorem besideBolt_enterMessage (ek : EdgeKind) (stamp : Nat) (bs : List Byte) : besideBolt (enterMessage ek stamp bs s) = besideBolt s := by
  simp [enterMessage]

@[simp] theorem besideBolt_closeGood (i : Nat) : besideBolt (closeGood i s) = besideBolt s := by
  unfold closeGood
  split <;> simp

@[simp] theorem besideBolt_countEnd (p len : Nat) (fin : FrameEnd) : besideBolt (countEnd p len fin s) = besideBolt s := by
  cases fin <;> simp [countEnd]

@[simp] theorem besideBolt_endAtPort (p i len : Nat) (fin : FrameEnd) : besideBolt (endAtPort p i len fin s) = besideBolt s := by
  unfold endAtPort
  split
  · simp
  · cases fin <;> simp

end Entry

/-! Frames that leave -/

section Exit

variable (s : State)

@[simp] theorem besideBolt_setTx (p : Nat) (t : Option Tx) : besideBolt (setTx p t s) = besideBolt s := (rfl)
@[simp] theorem besideBolt_setPreempted (p : Nat) (t : Option Tx) : besideBolt (setPreempted p t s) = besideBolt s := (rfl)
@[simp] theorem besideBolt_takeParam (q : Nat) (x : QueueParam) : besideBolt (takeParam q x s) = besideBolt s := (rfl)
@[simp] theorem besideBolt_endVisit (p c : Nat) : besideBolt (endVisit p c s) = besideBolt s := (rfl)

@[simp] theorem besideBolt_boundary (p : Nat) : besideBolt (boundary p s) = besideBolt s := by
  refine besideBolt_forUpTo s (fun c t => ?_) _
  split
  · split <;> simp
  · rfl

@[simp] theorem besideBolt_dropCopy (i : Nat) (link : Option Nat) : besideBolt (dropCopy i link s) = besideBolt s := by
  cases link <;> (unfold dropCopy; dsimp only; split <;> simp)

@[simp] theorem besideBolt_dropHead (q : Nat) (c : Ctr) : besideBolt (dropHead q c s) = besideBolt s := by
  unfold dropHead
  split <;> simp

@[simp] theorem besideBolt_flushQueue (q : Nat) : besideBolt (flushQueue q s) = besideBolt s := besideBolt_forUpTo s (fun _ t => besideBolt_dropHead t q .boltFlush) _

@[simp] theorem besideBolt_flushPort (p : Nat) : besideBolt (flushPort p s) = besideBolt s := besideBolt_forUpTo s (fun c t => besideBolt_flushQueue t (8 * p + c)) _

@[simp] theorem besideBolt_chargeDwrr (q len : Nat) : besideBolt (chargeDwrr q len s) = besideBolt s := by
  unfold chargeDwrr
  dsimp only
  split
  · rfl
  · split <;> rfl

@[simp] theorem besideBolt_leaveFrame (t : Tx) : besideBolt (leaveFrame t s) = besideBolt s := by
  unfold leaveFrame
  dsimp only
  split <;> simp

@[simp] theorem besideBolt_endStarted (p : Nat) (t : Tx) : besideBolt (endStarted p t s) = besideBolt s := by simp [endStarted]

@[simp] theorem besideBolt_loseTx (p : Nat) : besideBolt (loseTx p s) = besideBolt s := by
  unfold loseTx
  dsimp only
  rw [besideBolt_boundary]
  split <;> split <;> simp

@[simp] theorem besideBolt_flushOnDown (p : Nat) : besideBolt (flushOnDown p s) = besideBolt s := by simp [flushOnDown]

@[simp] theorem besideBolt_releaseRings : besideBolt (releaseRings s) = besideBolt s := by
  have hrings : besideBolt (forUpTo 16 (fun r t => match (getRing r t).active with
      | some d => (match d.tx with | some x => leaveFrame x t | none => t)
      | none => t) s) = besideBolt s := by
    refine besideBolt_forUpTo s (fun r t => ?_) _
    split
    · split <;> simp
    · rfl
  unfold releaseRings
  dsimp only
  split
  · rw [besideBolt_leaveFrame, besideBolt_setTx]
    exact hrings
  · exact hrings

end Exit

/-- What two states agree in that the packet core alone tells apart. -/
theorem agree_of_besideBolt {s t : State} (h : besideBolt t = besideBolt s) :
    t.cyc = s.cyc ∧ t.out = s.out ∧ t.draws = s.draws ∧ t.raised = s.raised ∧ t.ports = s.ports ∧ t.edge = s.edge ∧ t.sel = s.sel ∧ t.plk = s.plk ∧ t.pwr = s.pwr :=
  ⟨(congrArg State.cyc h :), (congrArg State.out h :), (congrArg State.draws h :), (congrArg State.raised h :), (congrArg State.ports h :), (congrArg State.edge h :), (congrArg State.sel h :),
    (congrArg State.plk h :), (congrArg State.pwr h :)⟩

end Sys2Proof.Machine
end

section
/-! Proofs/PlacketResets: what a function-level and a fundamental reset leave of the Placket (R352, R360). -/

namespace Sys2Proof.Machine
open Sys2Proof.Claims

/-- A map filled key by key reads each key's value. -/
theorem mapGet_foldl_mapSet {α : Type} [DecidableEq α] (d : α) (g : Nat → α) (l : List Nat) (m : SMap α) (k : Nat) :
    mapGet d (l.foldl (fun m r => mapSet d m r (g r)) m) k = if k ∈ l then g k else mapGet d m k := by
  induction l generalizing m with
  | nil => simp
  | cons r l ih =>
    rw [List.foldl_cons, ih]
    by_cases hk : k = r
    · subst hk
      simp [mapGet_mapSet_same]
    · simp [hk, mapGet_mapSet_other d m (g r) hk]

theorem getRing_stopped {r : Nat} (hr : r < 16) (s t : State) (h : t.plk.rings = stoppedRings s) : getRing r t = { sizeLog := (getRing r s).sizeLog } := by
  have hread := mapGet_foldl_mapSet {} (fun r => ({ sizeLog := (getRing r s).sizeLog } : DmaRing)) (List.range 16) [] r
  rw [if_pos (List.mem_range.mpr hr)] at hread
  rw [getRing, h]
  exact hread

/-- A window disabled, as a reset leaves it. -/
def disabledWindow (w : Window) : Window := { active := w.active &&& ~~~(BitVec.twoPow 128 127), staged := w.active &&& ~~~(BitVec.twoPow 128 127) }

theorem disabledWindow_off (w : Window) : (disabledWindow w).active.getLsbD 127 = false := by
  simp [disabledWindow]

/-- A map filled with disabled windows lists no enabled one. -/
theorem disabledWindows_off (l : SMap Window) (m : SMap Window) (hm : ∀ w, (mapGet {} m w).active.getLsbD 127 = false) (w : Nat) :
    (mapGet {} (l.foldl (fun m e => mapSet {} m e.1 (disabledWindow e.2)) m) w).active.getLsbD 127 = false := by
  induction l generalizing m with
  | nil => exact hm w
  | cons e l ih =>
    rw [List.foldl_cons]
    refine ih _ fun v => ?_
    by_cases hv : v = e.1
    · rw [hv, mapGet_mapSet_same]
      exact disabledWindow_off e.2
    · rw [mapGet_mapSet_other {} m _ hv]
      exact hm v

theorem functionReset_plk (s : State) :
    (functionReset s).plk = { s.plk with windows := s.plk.windows.foldl (fun m e => mapSet {} m e.1 (disabledWindow e.2)) [], rings := stoppedRings s, outs := [], errR := 0, errW := 0, errs := [], errOvf := 0, pairs := [] } := by
  obtain ⟨-, -, -, -, -, -, -, hplk, -⟩ := agree_of_besideBolt (besideBolt_releaseRings s)
  simp only [functionReset]
  generalize releaseRings s = u at hplk ⊢
  simp only [resetMailbox, setPlk, hplk]
  rfl

theorem resetPlacket_plk (s : State) :
    (resetPlacket s).plk = { ringMem := s.plk.ringMem, descMem := s.plk.descMem, copies := { lc := s.plk.copies.lc }, pollAt := s.cyc + 4 * usCyc, serial := s.plk.serial } := by
  obtain ⟨hcyc, -, -, -, -, -, -, hplk, -⟩ := agree_of_besideBolt (besideBolt_releaseRings s)
  simp only [resetPlacket]
  generalize releaseRings s = u at hplk hcyc ⊢
  simp only [setPlk, hplk, hcyc]

/-- Settles O44: each reset writes the Placket's state whole, and what releases the rings' frames leaves the Placket alone. -/
theorem placketResetsClear : Obligations.PlacketResetsClear := by
  intro s
  have hplk := functionReset_plk s
  refine ⟨⟨?_, fun r => getRing_stopped r.isLt s _ (by rw [hplk]), ?_, ?_, ?_, ?_, ?_, ?_, fun w => ?_⟩, ?_⟩
  case refine_8 =>
    rw [getWindow, hplk]
    exact disabledWindows_off _ _ (fun w => by show windowReset.getLsbD 127 = false; decide +kernel) w
  case refine_9 =>
    rw [resetPlacket_plk]
    exact ⟨rfl, rfl, rfl, rfl, rfl, rfl, rfl⟩
  all_goals rw [hplk]

end Sys2Proof.Machine
end

section
/-! Proofs/LinAndIso: LIN schedules, headers, responses and time-outs, and the address-claim proxy (R183-R188, R257-R260, R407). -/

namespace Sys2Proof.Machine
open Sys2Proof.Claims

theorem getLin_setLin_same (i : Nat) (c : LinChan) (s : State) : getLin i (setLin i c s) = c := mapGet_mapSet_same _ _ _ _

theorem getLin_of_edge {i : Nat} {c : LinChan} {s t : State} (h : t.edge = (setLin i c s).edge) : getLin i t = c :=
  (congrArg (fun e : Edge => mapGet linReset e.lin i) h).trans (getLin_setLin_same i c s)

/-- A message that enters the fabric leaves the Edge alone. -/
theorem enterMessage_edge (ek : EdgeKind) (stamp : Nat) (bs : List Byte) (s : State) : (enterMessage ek stamp bs s).edge = s.edge := by
  obtain ⟨-, -, -, -, -, hedge, -⟩ := agree_of_besideBolt (besideBolt_enterMessage s ek stamp bs)
  exact hedge

/-- A completed frame goes to the links alone. -/
theorem linCompleted_edge (ch f : Nat) (e : Bool) (data : List Byte) (s : State) : (linCompleted ch f e data s).edge = s.edge := by
  refine forEach_keeps (fun l t => ?_) (List.range 2) s
  dsimp only
  split <;> rfl

theorem linSleepNow_awake {ch : Nat} {s : State} (h : (getLin ch s).sleepDue = false) : linSleepNow ch s = s :=
  if_neg fun hx => Bool.false_ne_true (h.symm.trans hx.1)

/-! Headers (R258, R259) -/

section
variable {ch : Nat} {s : State} (hen : (getLin ch s).record.getLsbD 63 = true) (hheld : busesHeld s = false) (hedge : edgeOn s = true)
include hen hheld hedge

/-- A header off by more than 15 % is counted, one with a wrong parity too; the others are answered (R259). -/
theorem linHeader_checks {rate : Nat} {pid : Byte} {fail : Bool} :
    linHeader ch rate pid fail s = if 100 * rate < 85 * bits (getLin ch s).record 61 47 ∨ 100 * rate > 115 * bits (getLin ch s).record 61 47 then bump .edgeLinSync ch s
      else if pid ≠ linPid (pid.toNat % 64) then bump .edgeLinPid ch s
      else linAnswer ch (pid.toNat % 64) pid fail 0 (fracAgo (linBits 195 rate) s) s :=
  if_neg (by simp [hen, hheld, hedge])

end

/-- A frame that the channel publishes is answered, or found wrong as it is read back. -/
theorem linAnswer_publishes {ch f : Nat} {pid : Byte} {fail : Bool} {ahead stamp : Nat} {s : State} (h : (linFrame (curTables s) ch f).role = 1) :
    linAnswer ch f pid fail ahead stamp s = if fail then bump .edgeLinBit ch s
      else linCompleted ch f (linEnhanced (linFrame (curTables s) ch f) f) (linPublished ch f (linFrame (curTables s) ch f) s)
        (emit (.linResponse ch (linPublished ch f (linFrame (curTables s) ch f) s ++ [linChecksum (linEnhanced (linFrame (curTables s) ch f) f) pid (linPublished ch f (linFrame (curTables s) ch f) s)])) s) :=
  if_pos h

/-- A frame that it does not publish is awaited. -/
theorem linAnswer_waits {ch f : Nat} {pid : Byte} {fail : Bool} {ahead stamp : Nat} {s : State} (h : (linFrame (curTables s) ch f).role ≠ 1) :
    linAnswer ch f pid fail ahead stamp s = setLin ch { getLin ch s with
      waiting := some (f, s.cyc + ahead + linBits (14 * 10 * ((linFrame (curTables s) ch f).len + 1)) (Nat.max 1 (bits (getLin ch s).record 61 47))), seenPid := pid, syncStamp := stamp } s :=
  if_neg h

section
variable {ch : Nat} {s : State} {c : LinChan} (hc : getLin ch s = c) (hen : c.record.getLsbD 63 = true) (hcmd : c.record.getLsbD 62 = true) (hheld : busesHeld s = false) (hedge : edgeOn s = true)
  (hrun : c.running = true) (hwant : c.wanted = none) (hswap : c.swapped = false)
include hc hen hcmd hheld hedge hrun hwant hswap

omit hen hcmd hheld hedge hwant hswap in
theorem linSlot_waits (h : s.cyc < c.entryEnds) : linSlot ch s = s :=
  if_pos (.inr (.inr (.inl ⟨by rw [hc]; exact hrun, by rw [hc]; exact h⟩)))

theorem linSlot_ends (h : c.entryEnds ≤ s.cyc) (hnone : c.current[c.pos]? = none) : linSlot ch s = setLin ch { c with running := false, current := [], pos := 0 } s := by
  simp only [linSlot, hc]
  refine (if_neg ?_).trans ?_
  · simp [hen, hcmd, hheld, hedge, Nat.not_lt.mpr h]
  · simp only [hrun, hwant, hswap, Option.isSome_none, Bool.or_self, Bool.not_true, Bool.false_eq_true, ↓reduceIte, hnone, Option.getD_none, false_and]

theorem linSlot_sends {e : BitVec 32} (h : c.entryEnds ≤ s.cyc) (he : c.current[c.pos]? = some e) :
    linSlot ch s = sendHeader ch (linEntryFrame e) (setLin ch { c with pos := (c.pos + 1) % c.current.length, entryEnds := s.cyc + bits e 15 0 * 100 * usCyc, waiting := none, echo := none } s) := by
  simp only [linSlot, hc]
  refine (if_neg ?_).trans ?_
  · simp [hen, hcmd, hheld, hedge, Nat.not_lt.mpr h]
  · simp only [hrun, hwant, hswap, Option.isSome_none, Bool.or_self, Bool.not_true, Bool.false_eq_true, ↓reduceIte, he, Option.getD_none, false_and]

end

section
variable {i f : Nat} {c : LinChan} (s : State)

/-- The header of a frame that the commander does not publish (R258). -/
theorem sendHeader_waits (h : (linFrame (curTables s) i f).role ≠ 1) :
    sendHeader i f (setLin i c s) = setLin i { c with
        waiting := some (f, s.cyc + linBits (10 * (c.breakBits + c.delimBits + 20)) (max 1 (bits c.record 61 47)) + linBits (14 * 10 * ((linFrame (curTables s) i f).len + 1)) (max 1 (bits c.record 61 47))),
        seenPid := linPid f, syncStamp := fracIn (linBits (10 * (c.breakBits + c.delimBits) + 5) (max 1 (bits c.record 61 47))) s }
      (emit (.linHeader i c.breakBits c.delimBits [0x55, linPid f]) (setLin i c s)) := by
  have hself : getLin i (setLin i c s) = c := getLin_setLin_same i c s
  have hsent : emitHeader i f (setLin i c s) = emit (.linHeader i c.breakBits c.delimBits [0x55, linPid f]) (setLin i c s) := by rw [emitHeader, hself]
  have hheld : getLin i (emit (.linHeader i c.breakBits c.delimBits [0x55, linPid f]) (setLin i c s)) = c := hself
  have hrole : (linFrame (curTables (emit (.linHeader i c.breakBits c.delimBits [0x55, linPid f]) (setLin i c s))) i f).role ≠ 1 := h
  have hrole' : (linFrame (curTables (setLin i c s)) i f).role ≠ 1 := h
  simp only [sendHeader, hsent, linAnswer_waits hrole, if_neg hrole', hheld, hself]
  rfl

/-- The header of a frame that the commander publishes, and its response, which it then reads back (R258, R259). -/
theorem sendHeader_publishes (h : (linFrame (curTables s) i f).role = 1) :
    let d := linFrame (curTables s) i f
    let data := linPublished i f d s
    let resp := data ++ [linChecksum (linEnhanced d f) (linPid f) data]
    sendHeader i f (setLin i c s) = setLin i { c with echo := some resp } (linCompleted i f (linEnhanced d f) data
      (emit (.linResponse i resp) (emit (.linHeader i c.breakBits c.delimBits [0x55, linPid f]) (setLin i c s)))) := by
  intro d data resp
  have hself : getLin i (setLin i c s) = c := getLin_setLin_same i c s
  have hsent : emitHeader i f (setLin i c s) = emit (.linHeader i c.breakBits c.delimBits [0x55, linPid f]) (setLin i c s) := by rw [emitHeader, hself]
  have hrole : (linFrame (curTables (emit (.linHeader i c.breakBits c.delimBits [0x55, linPid f]) (setLin i c s))) i f).role = 1 := h
  have hrole' : (linFrame (curTables (setLin i c s)) i f).role = 1 := h
  simp only [sendHeader, hsent, linAnswer_publishes hrole, if_pos hrole', Bool.false_eq_true, ↓reduceIte]
  rw [getLin_of_edge (c := c) (s := s) (by rw [linCompleted_edge]; rfl)]
  rfl

end

/-! Responses (R183, R185, R259) -/

section
variable {ch f stop : Nat} {s : State} {c : LinChan} (hc : getLin ch s = c)
include hc

theorem linResponse_echo {data e : List Byte} {sum : Byte} {bad : Bool} (hwait : c.waiting = none) (he : c.echo = some e) :
    linResponse ch data sum bad s = if e = data ++ [sum] then setLin ch { c with echo := none } s else bump .edgeLinBit ch (setLin ch { c with echo := none } s) := by
  simp only [linResponse, linReadBack, hc, hwait, he]

section
variable (hwait : c.waiting = some (f, stop)) (hedge : edgeOn s = true) (hheld : busesHeld s = false)
include hwait hedge hheld

theorem linResponse_badStop (data : List Byte) (sum : Byte) : linResponse ch data sum true s = bump .edgeLinFraming ch (setLin ch { c with waiting := none } s) := by
  simp only [linResponse, hc, hwait, hedge, hheld, Bool.not_true, Bool.false_eq_true, ↓reduceIte]

theorem linResponse_subscribed {data : List Byte} {sum : Byte} (hrole : (linFrame (curTables s) ch f).role = 2) (hlen : data.length = (linFrame (curTables s) ch f).len) :
    linResponse ch data sum false s = if sum ≠ linChecksum (linEnhanced (linFrame (curTables s) ch f) f) c.seenPid data then bump .edgeLinChecksum ch (setLin ch { c with waiting := none } s)
      else enterMessage .lin c.syncStamp (linPseudo ch f (linEnhanced (linFrame (curTables s) ch f) f) (c.record.getLsbD 62) data)
        (linCompleted ch f (linEnhanced (linFrame (curTables s) ch f) f) data (setLin ch { c with waiting := none } s)) := by
  simp only [linResponse, hc, hwait, hedge, hheld, Bool.not_true, Bool.false_eq_true, ↓reduceIte, hrole, hlen, ne_eq, not_true_eq_false, and_false]

end

theorem linTimeout_waits {got : Nat} (hwait : c.waiting = some (f, stop)) (h : s.cyc < stop) : linTimeout ch got s = s := by
  simp only [linTimeout, hc, hwait, if_pos h]

theorem linTimeout_partial {got : Nat} (hwait : c.waiting = some (f, stop)) (h : stop ≤ s.cyc) (hgot : 0 < got) : linTimeout ch got s = bump .edgeLinIncomplete ch (setLin ch { c with waiting := none } s) := by
  simp only [linTimeout, hc, hwait, if_neg (Nat.not_lt.mpr h), gt_iff_lt, if_pos hgot]

theorem linTimeout_silent (hwait : c.waiting = some (f, stop)) (h : stop ≤ s.cyc) (hrole : (linFrame (curTables s) ch f).role = 2) (hcmd : c.record.getLsbD 62 = true) :
    linTimeout ch 0 s = bump .edgeLinNoResponse ch (setLin ch { c with waiting := none } s) := by
  simp only [linTimeout, hc, hwait, if_neg (Nat.not_lt.mpr h), hrole, hcmd, gt_iff_lt, Nat.lt_irrefl, ↓reduceIte, and_self]

end

/-- A response or time-out that leaves the channel awake. -/
theorem completes_response {ch : LinCh} {data : List Byte} {sum : Byte} {bad : Bool} {s t : State} (h : linResponse ch.val data sum bad s = t) (ht : (getLin ch.val t).sleepDue = false) :
    Completes (.linResponseRx ch data sum bad) s t :=
  congrArg ends (by rw [h, linSleepNow_awake ht])

theorem completes_lateResponse {ch : LinCh} {at_ got : Nat} {s t : State} (h : linTimeout ch.val got (advanceTo at_ s) = t) (ht : (getLin ch.val t).sleepDue = false) :
    Completes (.linResponseTimeout at_ ch got) s t :=
  completes_at (act := fun t => linSleepNow ch.val (linTimeout ch.val got t)) rfl (by rw [h, linSleepNow_awake ht])

theorem enabled_of_netOf {has : Net → Bool} {s : State} {n : Nat} (h : netOf has s = some n) : (getNet n s).enabled = true := by
  have hfound := List.find?_some h
  simp only [Bool.and_eq_true] at hfound
  exact hfound.1

/-- Settles O51: schedules, headers, responses, wakes and claims, each by its own law. -/
theorem linAndIsoEventsRun : Obligations.LinAndIsoEventsRun := by
  refine ⟨fun s at_ ch e => ?slot, fun s ch rate pid fail => ?header, fun s ch f stop => ?response, fun s at_ got ch f stop => ?timeout, fun s ch hrun => ?wake, fun s ch m hrun hmech hrule => ?iso⟩
  case slot =>
    intro u i c hawake hasleep hen hcmd hheld hedge hrun hwant hswap
    have hcompletes : ∀ t, linSlot i u = t → Completes (.linScheduleSlot at_ ch) s t := fun t ht =>
      completes_at (act := fun t => if t.pwr.state = .doze ∨ linAsleep ch.val t then t else linSlot ch.val t) rfl ((if_neg (not_or.mpr ⟨hawake, by rw [hasleep]; decide⟩)).trans ht)
    refine ⟨fun hwait => hcompletes _ (linSlot_waits rfl hrun hwait), ?sends, fun hdue hnone => hcompletes _ (linSlot_ends rfl hen hcmd hheld hedge hrun hwant hswap hdue hnone)⟩
    intro hdue he f d next rate brk delim header
    have hsent := linSlot_sends rfl hen hcmd hheld hedge hrun hwant hswap hdue he
    exact ⟨fun hrole => hcompletes _ (hsent.trans (sendHeader_waits u hrole)), fun hrole => hcompletes _ (hsent.trans (sendHeader_publishes u hrole))⟩
  case header =>
    intro i c set f d data off hawake hasleep hen hheld hedge
    have hcompletes : ∀ fail t, linHeader i rate pid fail s = t → Completes (.linHeaderRx ch rate pid fail) s t := fun fail t ht => by
      refine congrArg ends (Eq.trans ?_ ht)
      rw [headerOnLin, hasleep, leaveDoze_of_awake hawake]
      exact if_neg Bool.false_ne_true
    have hchecks : ∀ fail, linHeader i rate pid fail s = _ := fun fail => linHeader_checks hen hheld hedge
    refine ⟨fun hoff => hcompletes _ _ ((hchecks fail).trans (if_pos hoff)), fun hoff hpid => hcompletes _ _ ((hchecks fail).trans ((if_neg hoff).trans (if_pos hpid))), fun hoff hpid hrole => ⟨hcompletes _ _ ?_, hcompletes _ _ ?_⟩,
      fun hoff hpid hrole => hcompletes _ _ ?_⟩
    all_goals refine (hchecks _).trans ((if_neg hoff).trans ((if_neg (not_not_intro hpid)).trans ?_))
    · exact (linAnswer_publishes hrole).trans rfl
    · exact (linAnswer_publishes hrole).trans rfl
    · exact linAnswer_waits hrole
  case response =>
    intro i c d ended hen
    have hkept : ∀ x t, x.sleepDue = c.sleepDue → t.edge = (setLin i x s).edge → c.sleepDue = false → (getLin i t).sleepDue = false := fun x t hx ht hdue => by
      rw [getLin_of_edge ht, hx, hdue]
    refine ⟨fun data sum bad e hwait hdue he => completes_response (linResponse_echo rfl hwait he) (hkept { c with echo := none } _ rfl ?_ hdue),
      fun hwait hdue hedge hheld => ⟨fun data sum => completes_response (linResponse_badStop rfl hwait hedge hheld data sum) (hkept { c with waiting := none } _ rfl rfl hdue), fun data sum hrole hlen => ?_⟩⟩
    · split <;> rfl
    · have hrx := linResponse_subscribed (sum := sum) rfl hwait hedge hheld hrole hlen
      refine ⟨fun hbad => completes_response (hrx.trans (if_pos hbad)) (hkept { c with waiting := none } _ rfl rfl hdue),
        fun hgood => completes_response (hrx.trans (if_neg (not_not_intro hgood))) (hkept { c with waiting := none } _ rfl ?_ hdue)⟩
      rw [enterMessage_edge, linCompleted_edge]
  case timeout =>
    intro u i c d ended hen hwait hdue
    have hkept : ∀ k, (getLin i (bump k i (setLin i { c with waiting := none } u))).sleepDue = false := fun k => by
      rw [getLin_of_edge (t := bump k i (setLin i { c with waiting := none } u)) rfl]
      exact hdue
    exact ⟨fun hearly => completes_lateResponse (linTimeout_waits rfl hwait hearly) hdue, fun hlate hgot => completes_lateResponse (linTimeout_partial rfl hwait hlate hgot) (hkept _),
      fun hlate hrole hcmd => completes_lateResponse (linTimeout_silent rfl hwait hlate hrole hcmd) (hkept _)⟩
  case wake =>
    have hcompletes : ∀ t, linWakeRx ch.val s = t → Completes (.linWakeRx ch) s t := fun t ht => congrArg ends ht
    refine ⟨fun hnone => hcompletes _ ?_, fun n hn => ⟨fun hmode => hcompletes _ ?_, fun hmode => hcompletes _ ?_⟩⟩
    · simp only [linWakeRx, hrun, Bool.not_true, Bool.false_eq_true, ↓reduceIte, hnone]
    · simp only [linWakeRx, hrun, Bool.not_true, Bool.false_eq_true, ↓reduceIte, hn, memberWakes, enabled_of_netOf hn, hmode]
    · simp only [linWakeRx, hrun, Bool.not_true, Bool.false_eq_true, ↓reduceIte, hn, memberWakes, enabled_of_netOf hn]
      rcases hmode with hmode | hmode <;> rw [hmode]
  case iso =>
    have hcompletes : ∀ act t, act s = t → keeperMessage ch.val m act s = t := fun act t ht => by
      refine (if_neg (awake_of_keeperRuns hrun)).trans ((if_pos ⟨hrun, hmech⟩).trans ?_)
      exact (if_neg fun h => Bool.false_ne_true (hrule.symm.trans h.1)).trans ht
    refine ⟨fun hnone => ⟨congrArg ends (hcompletes _ _ ?_), congrArg ends (hcompletes _ _ ?_)⟩, fun n d impl hiso => ⟨?reply, ?claim, fun hclaim hask => congrArg ends (hcompletes _ _ ?other)⟩⟩
    · simp only [addressClaim, hnone]
    · simp only [isoNetwork, hnone]
    case reply =>
      intro u
      have hreply : isoNetwork ch.val s = if (drawBelow 2 s).1 = 0 then emit (.isoReply ch.val true n 0 0) u else emit (.isoReply ch.val false n d.tractor.toNat d.implement.toNat) u := by
        simp only [isoNetwork, hiso]
        rfl
      by_cases hdraw : (drawBelow 2 s).1 = 0
      · exact .inl (congrArg ends (hcompletes _ _ (hreply.trans (if_pos hdraw))))
      · exact .inr (congrArg ends (hcompletes _ _ (hreply.trans (if_neg hdraw))))
    case claim =>
      intro k fwd hpgn haddr hfree
      refine congrArg ends (hcompletes _ _ ?_)
      have hfree' : mapGet none s.edge.isoAddrs (n * 256 + m.ident % 256) = none := hfree
      simp only [addressClaim, hiso, hpgn, ↓reduceIte, ge_iff_le, if_neg (Nat.not_le.mpr haddr), hfree']
      rfl
    case other => simp only [addressClaim, hiso, hclaim, hask, ↓reduceIte, false_and]

end Sys2Proof.Machine
end

section
/-! Proofs/LinkEvents: a Selvage link's superframes, alignment, threads, discretes and defects (R193-R213). -/

namespace Sys2Proof.Machine
open Sys2Proof.Claims

/-! A link's state -/

theorem getLink_setLink_same (l : Nat) (x : SelLinkSt) (s : State) : getLink l (setLink l x s) = x := mapGet_mapSet_same _ _ _ _

theorem getLink_of_sel {l : Nat} {x : SelLinkSt} {s t : State} (h : t.sel = (setLink l x s).sel) : getLink l t = x :=
  (congrArg (fun m => mapGet linkReset m l) h).trans (getLink_setLink_same l x s)

/-- An enabled link is no link after reset. -/
theorem ne_linkReset {x : SelLinkSt} (h : x.enabled = true) : x ≠ linkReset := by
  rintro rfl
  revert h
  decide +kernel

theorem setLink_setLink {l : Nat} {x y : SelLinkSt} (s : State) (hx : x.enabled = true) (hy : y.enabled = true) : setLink l x (setLink l y s) = setLink l x s := by
  simp only [setLink, mapSet, if_neg (ne_linkReset hx), if_neg (ne_linkReset hy), mapPut_mapPut]

theorem completes_atSel {c : Instr} {act : State → State} {s t : State} (hc : exec c s = ends (atSel act s)) (hrun : domainRuns 12 s = true) (ht : act s = t) : Completes c s t :=
  hc.trans (congrArg ends ((if_pos hrun).trans ht))

theorem completes_atSel_at {c : Instr} {act : State → State} {at_ : Nat} {s t : State} (hc : exec c s = endsAt at_ (atSel act) s) (hrun : domainRuns 12 (advanceTo at_ s) = true)
    (ht : act (advanceTo at_ s) = t) : Completes c s t :=
  completes_at hc ((if_pos hrun).trans ht)

/-! Defects (R213) -/

theorem setDefects_same {l : Nat} {d : Defects} {s : State} {x : SelLinkSt} (hx : getLink l s = x) (h : d = x.defects) : setDefects l d s = setLink l { x with defects := d } s := by
  simp only [setDefects, hx, if_pos h]

theorem setDefects_changed {l : Nat} {d : Defects} {s : State} {x : SelLinkSt} (hx : getLink l s = x) (h : d ≠ x.defects) :
    setDefects l d s = raiseEv .selDefect l (natBytes 2 d.bits) (setLink l { x with defects := d } s) := by
  simp only [setDefects, hx, if_neg h]

/-- Defects that set or clear change the link's defects alone. -/
theorem setDefects_frame (l : Nat) (d : Defects) (s : State) :
    getLink l (setDefects l d s) = { getLink l s with defects := d } ∧ (setDefects l d s).fab = s.fab ∧ (setDefects l d s).ports = s.ports ∧ (setDefects l d s).cyc = s.cyc := by
  by_cases h : d = (getLink l s).defects
  · rw [setDefects_same rfl h]
    exact ⟨getLink_setLink_same l _ s, rfl, rfl, rfl⟩
  · rw [setDefects_changed rfl h]
    exact ⟨getLink_of_sel (s := s) rfl, rfl, rfl, rfl⟩

section
variable {l : Nat} {s : State} {x : SelLinkSt} (hx : getLink l s = x) (hen : x.enabled = true)
include hx hen

/-- A searching aligner loses block lock: its candidates go, and LOB sets (R198). -/
theorem lockLost_searching {d : Defects} (hd : x.defects = d) (hlock : x.blockLock = true) (hsearch : x.inFrame = false) (hlob : d.lob = false) :
    lockLost l s = bump .selLob l (raiseEv .selDefect l (natBytes 2 ({ d with lob := true } : Defects).bits) (setLink l { x with blockLock := false, cands := [], defects := { d with lob := true } } s)) := by
  have hne : ({ d with lob := true } : Defects) ≠ x.defects := fun he => Bool.false_ne_true (hlob.symm.trans (congrArg Defects.lob (he.trans hd)).symm)
  have hdef := setDefects_changed (getLink_setLink_same l { x with blockLock := false } s) hne
  have hlink : getLink l (bump .selLob l (raiseEv .selDefect l (natBytes 2 ({ d with lob := true } : Defects).bits) (setLink l { x with blockLock := false, defects := { d with lob := true } } s))) = { x with blockLock := false, defects := { d with lob := true } } :=
    getLink_of_sel (s := s) rfl
  rw [setLink_setLink s (by exact hen) (by exact hen)] at hdef
  simp only [hd] at hdef
  simp only [lockLost, hx, hd, hdef]
  refine (if_neg (by simp [hen, hlock])).trans ((if_neg (by simp [hsearch])).trans ?_)
  rw [hlink, ← setLink_setLink (x := { x with blockLock := false, cands := [], defects := { d with lob := true } }) (y := { x with blockLock := false, defects := { d with lob := true } }) s (by exact hen) (by exact hen)]
  rfl

theorem lockGained_locks {d : Defects} (hd : x.defects = d) (hlock : x.blockLock = false) (hlob : d.lob = true) :
    lockGained l s = raiseEv .selDefect l (natBytes 2 ({ d with lob := false } : Defects).bits) (setLink l { x with blockLock := true, defects := { d with lob := false } } s) := by
  have hne : ({ d with lob := false } : Defects) ≠ x.defects := fun he => Bool.false_ne_true ((congrArg Defects.lob (he.trans hd)).trans hlob)
  have hdef := setDefects_changed (getLink_setLink_same l { x with blockLock := true } s) hne
  rw [setLink_setLink s (by exact hen) (by exact hen)] at hdef
  simp only [hd] at hdef
  simp only [lockGained, hx, hd, hdef]
  exact if_neg (by simp [hen, hlock])

theorem losSet_begins {d : Defects} (hd : x.defects = d) (hlos : d.los = false) :
    losSet l s = bump .selLos l (raiseEv .selDefect l (natBytes 2 ({ d with los := true } : Defects).bits) (setLink l { x with losAt := s.cyc, losTold := false, defects := { d with los := true } } s)) := by
  have hne : ({ d with los := true } : Defects) ≠ x.defects := fun he => Bool.false_ne_true (hlos.symm.trans (congrArg Defects.los (he.trans hd)).symm)
  have hdef := setDefects_changed (getLink_setLink_same l { x with losAt := s.cyc, losTold := false } s) hne
  rw [setLink_setLink s (by exact hen) (by exact hen)] at hdef
  simp only [hd] at hdef
  simp only [losSet, hx, hd, hdef]
  exact if_neg (by simp [hen, hlos])

theorem losClear_ends {d : Defects} (hd : x.defects = d) (hlos : d.los = true) :
    losClear l s = raiseEv .selDefect l (natBytes 2 ({ d with los := false } : Defects).bits) (setLink l { x with defects := { d with los := false } } s) := by
  have hne : ({ d with los := false } : Defects) ≠ x.defects := fun he => Bool.false_ne_true ((congrArg Defects.los (he.trans hd)).trans hlos)
  have hdef := setDefects_changed hx hne
  simp only [losClear, hx, hd, hdef]
  exact if_neg (by simp [hen])

end

/-! Candidates (R196, R197) -/

section
variable {l pos : Nat} {h : List Byte} {s : State} {x : SelLinkSt} (hx : getLink l s = x) (hen : x.enabled = true) (hlock : x.blockLock = true) (hsearch : x.inFrame = false)
include hx hen hlock hsearch

theorem selSighting_new (hok : headerOk h = true) (hnew : x.cands.any (fun c => c.pos == pos) = false) :
    selSighting l pos h s = if x.cands.length ≥ 4 then bump .selCandFull l s else setLink l { x with cands := x.cands ++ [{ pos := pos, sfn := headerSfn h }] } s := by
  simp only [selSighting, hx, hen, hlock, hsearch, hok, hnew, Bool.not_true, Bool.false_eq_true, or_self, ↓reduceIte]

theorem selCheck_only {c : Cand} (hc : x.cands = [c]) :
    selCheck l c.pos h s = if headerOk h = true ∧ headerSfn h = (c.sfn + 1) % 65536 then settleCands l (setLink l { x with cands := [{ c with sfn := headerSfn h, passes := c.passes + 1 }] } s)
      else settleCands l (setLink l { x with cands := [] } s) := by
  simp [selCheck, hx, hen, hlock, hsearch, hc, replaceIf]

end

theorem settleCands_waiting {l : Nat} {s : State} (h : (getLink l s).cands.filter (fun c => decide (c.passes ≥ 3)) = []) : settleCands l s = s := by
  simp only [settleCands, h]

theorem settleCands_confirmed {l : Nat} {s : State} {c : Cand} (h : (getLink l s).cands = [c]) (hpass : c.passes = 3) : settleCands l s = enterFrame l c s := by
  simp [settleCands, h, hpass]

/-- A link that is not UP and whose tributary is down keeps it down (R208). -/
theorem syncTrib_down {l : Nat} {s : State} (hhitch : (getLink l s).hitch ≠ .up) (hup : (getPort (24 + l) s).up = false) (hsend : (getPort (24 + l) s).sends = false) : syncTrib l s = s := by
  simp only [syncTrib, if_pos hhitch, portDown, hup, hsend, Bool.false_eq_true, ↓reduceIte]

theorem getPort_of_ports {p : Nat} {s t : State} (h : t.ports = s.ports) : getPort p t = getPort p s := congrArg (fun m => mapGet _ m p) h

/-! The aligner enters and leaves FRAME (R197, R198) -/

/-- A link without its threads. -/
def threadless (x : SelLinkSt) : SelLinkSt := { x with threads := [] }

theorem eq_of_threadless {x y : SelLinkSt} (h : threadless x = threadless y) : x = { y with threads := x.threads } :=
  congrArg (fun z : SelLinkSt => { z with threads := x.threads }) h

/-- What the work on a link's threads leaves alone. -/
def besideThreads (l : Nat) (s : State) : SelLinkSt × Fabric × SMap PortSt × List Emission := (threadless (getLink l s), s.fab, s.ports, s.out)

theorem besideThreads_of {l : Nat} {x : SelLinkSt} {s t u : State} (hsel : t.sel = (setLink l x u).sel) (hx : threadless x = threadless (getLink l s)) (h : t.fab = s.fab ∧ t.ports = s.ports ∧ t.out = s.out) :
    besideThreads l t = besideThreads l s := by
  obtain ⟨hfab, hports, hout⟩ := h
  rw [besideThreads, getLink_of_sel hsel, hx, hfab, hports, hout]
  rfl

theorem besideThreads_abortRx (l : Nat) (s : State) : besideThreads l (abortRx l s) = besideThreads l s := by
  refine forEach_keeps (fun e t => ?_) _ s
  dsimp only
  split
  · exact besideThreads_of (u := t) rfl rfl ⟨rfl, rfl, rfl⟩
  · exact besideThreads_of (u := t) rfl rfl ⟨rfl, rfl, rfl⟩

/-- What two states agree in that the link's threads alone tell apart. -/
theorem agree_of_besideThreads {l : Nat} {s t : State} (h : besideThreads l t = besideThreads l s) :
    getLink l t = { getLink l s with threads := (getLink l t).threads } ∧ t.fab = s.fab ∧ t.ports = s.ports ∧ t.out = s.out := by
  simp only [besideThreads, Prod.mk.injEq] at h
  obtain ⟨hlink, hrest⟩ := h
  exact ⟨eq_of_threadless hlink, hrest⟩

section
variable {l : Nat} {s : State} {x : SelLinkSt} (hx : getLink l s = x) (hhitch : x.hitch ≠ .up) (hup : (getPort (24 + l) s).up = false) (hsend : (getPort (24 + l) s).sends = false)
include hx hhitch hup hsend

theorem enterFrame_down (c : Cand) :
    getLink l (enterFrame l c s) = { x with inFrame := true, cands := [], rxSfn := c.sfn, elapsed := 0, badRun := 0, hdrGood := true, defects := { x.defects with lof := false, mimic := false } }
      ∧ (enterFrame l c s).fab = s.fab := by
  obtain ⟨hlink, hfab, hports, -⟩ := setDefects_frame l { x.defects with lof := false, mimic := false } (setLink l { x with inFrame := true, cands := [], rxSfn := c.sfn, elapsed := 0, badRun := 0, hdrGood := true } s)
  rw [getLink_setLink_same] at hlink
  have hport := getPort_of_ports (p := 24 + l) hports
  have hframe : enterFrame l c s = setDefects l { x.defects with lof := false, mimic := false } (setLink l { x with inFrame := true, cands := [], rxSfn := c.sfn, elapsed := 0, badRun := 0, hdrGood := true } s) := by
    simp only [enterFrame, hx]
    exact syncTrib_down (by rw [hlink]; exact hhitch) (by rw [hport]; exact hup) (by rw [hport]; exact hsend)
  rw [hframe]
  exact ⟨hlink, hfab⟩

theorem leaveFrameAt_down (hin : x.inFrame = true) (hqual : x.hitch ≠ .qualify) :
    (getLink l (leaveFrameAt l s)).inFrame = false ∧ (getLink l (leaveFrameAt l s)).cands = [] ∧ (getLink l (leaveFrameAt l s)).defects = { x.defects with lof := true, discStale := true }
      ∧ (leaveFrameAt l s).fab = s.fab := by
  obtain ⟨hlink, hfab, hports, -⟩ := setDefects_frame l { x.defects with lof := true, discStale := true }
    (bump .selLof l (setLink l { x with inFrame := false, cands := [], badRun := 0, hdrGood := false, dropThreads := false, ttHalf := none } s))
  rw [getLink_of_sel (l := l) (x := { x with inFrame := false, cands := [], badRun := 0, hdrGood := false, dropThreads := false, ttHalf := none }) (s := s) (t := bump .selLof l _) rfl] at hlink
  obtain ⟨hcut, hcutFab, hcutPorts, -⟩ := agree_of_besideThreads (besideThreads_abortRx l <| setDefects l { x.defects with lof := true, discStale := true }
    (bump .selLof l (setLink l { x with inFrame := false, cands := [], badRun := 0, hdrGood := false, dropThreads := false, ttHalf := none } s)))
  have hport := getPort_of_ports (p := 24 + l) (hcutPorts.trans hports)
  have hleft : leaveFrameAt l s = abortRx l (setDefects l { x.defects with lof := true, discStale := true }
      (bump .selLof l (setLink l { x with inFrame := false, cands := [], badRun := 0, hdrGood := false, dropThreads := false, ttHalf := none } s))) := by
    simp only [leaveFrameAt, hx, hin, Bool.not_true, Bool.false_eq_true, ↓reduceIte, if_neg hqual]
    exact syncTrib_down (by rw [hcut, hlink]; exact hhitch) (by rw [hport]; exact hup) (by rw [hport]; exact hsend)
  rw [hleft, hcut, hlink]
  exact ⟨rfl, rfl, rfl, hcutFab.trans hfab⟩

end

/-! A good header (R199) -/

theorem sfnSwitch_resting {l : Nat} {s : State} (h : (getLink l s).hitch ≠ .map ∨ (getLink l s).switchSfn = none) : sfnSwitch l s = s := by
  cases hs : (getLink l s).switchSfn with
  | none => simp only [sfnSwitch, hs]
  | some w =>
    have hhitch : (getLink l s).hitch ≠ .map := h.resolve_right (by rw [hs]; exact Option.some_ne_none w)
    simp only [sfnSwitch, hs]
    exact if_pos (.inl hhitch)

/-- The time-transfer half of a header goes to the link's own record (R211). -/
theorem ttTake_frame (l : Nat) (h : List Byte) (s : State) :
    ∃ half pair, getLink l (ttTake l h s) = { getLink l s with ttHalf := half, ttPair := pair } ∧ (ttTake l h s).fab = s.fab ∧ (ttTake l h s).cyc = s.cyc := by
  unfold ttTake
  dsimp only
  split
  · exact ⟨_, _, getLink_setLink_same l _ s, rfl, rfl⟩
  · split
    · exact ⟨_, _, getLink_setLink_same l _ s, rfl, rfl⟩
    · split
      · exact ⟨_, _, getLink_setLink_same l _ s, rfl, rfl⟩
      · exact ⟨_, _, rfl, rfl, rfl⟩

/-- A DCC byte without content is only noted (R209). -/
theorem dccByte_idle (l : Nat) (b : Bool) (v : Byte) (s : State) : dccByte l b false v s = setDcc l b { getDcc l b s with lastByte := v, lastContent := false } s := rfl

theorem setDcc_frame (l : Nat) (b : Bool) (d : Dcc) (s : State) : (setDcc l b d s).fab = s.fab ∧ (setDcc l b d s).cyc = s.cyc := ⟨rfl, rfl⟩

theorem dccBytes_link {l : Nat} (h : List Byte) {s : State} {y : SelLinkSt} (hy : getLink l s = y) :
    getLink l (dccByte l true false (h.getD 10 0) (dccByte l false false (h.getD 9 0) s)) = { y with dccA := { y.dccA with lastByte := h.getD 9 0, lastContent := false }, dccB := { y.dccB with lastByte := h.getD 10 0, lastContent := false } } := by
  have hA : getLink l (dccByte l false false (h.getD 9 0) s) = { y with dccA := { y.dccA with lastByte := h.getD 9 0, lastContent := false } } := by
    rw [dccByte_idle, ← hy]
    exact getLink_setLink_same l _ s
  rw [dccByte_idle, setDcc, getDcc, hA]
  exact getLink_setLink_same l _ _

/-- What a good header without DCC content takes into the link's record, before the hitch sequence judges it. -/
theorem goodHeader_taken {l : Nat} {h : List Byte} {s : State} {x : SelLinkSt} (hx : getLink l s = x) (h0 : (h.getD 8 0).getLsbD 0 = false) (h1 : (h.getD 8 0).getLsbD 1 = false) (hhitch : x.hitch ≠ .map) :
    ∃ u half pair a b, goodHeader l h s = hitchHeader l h u ∧ u.fab = s.fab ∧ u.cyc = s.cyc
      ∧ getLink l u = { x with rxSfn := headerSfn h, elapsed := 0, badRun := 0, hdrGood := true, peerRdi := (h.getD 8 0).getLsbD 3, rdiCause := numAt h 11 1 % 16, peerRate := if numAt h 11 1 / 64 = 3 then x.peerRate else numAt h 11 1 / 64, ttHalf := half, ttPair := pair, dccA := a, dccB := b } := by
  obtain ⟨half, pair, hlink, hfab, hcyc⟩ := ttTake_frame l h (setLink l { x with rxSfn := headerSfn h, elapsed := 0, badRun := 0, hdrGood := true, peerRdi := (h.getD 8 0).getLsbD 3, rdiCause := numAt h 11 1 % 16, peerRate := if numAt h 11 1 / 64 = 3 then x.peerRate else numAt h 11 1 / 64 } s)
  rw [getLink_setLink_same] at hlink
  have hlink' := dccBytes_link h hlink
  refine ⟨_, half, pair, _, _, ?_, ?_, ?_, hlink'⟩
  · simp only [goodHeader, hx, h0, h1]
    rw [sfnSwitch_resting]
    exact .inl (by rw [hlink']; exact hhitch)
  · rw [dccByte_idle, (setDcc_frame ..).1, dccByte_idle, (setDcc_frame ..).1, hfab]
    rfl
  · rw [dccByte_idle, (setDcc_frame ..).2, dccByte_idle, (setDcc_frame ..).2, hcyc]
    rfl

/-- The defects that a good header leaves (R199, R212, R221). -/
def headerDefects (x : SelLinkSt) (ver : Nat) : Defects :=
  let d1 := { x.defects with rdiRx := x.peerRdi, discStale := false }
  let d2 := if x.agreed ≠ 0 ∧ ver = x.agreed then { d1 with mapMis := false } else d1
  if decide (x.hitch = .up) && decide (ver ≠ x.agreed) then { d2 with mapMis := true } else d2

theorem headerDefects_mapMis {x : SelLinkSt} {ver : Nat} (hup : x.hitch = .up) :
    (headerDefects x ver).mapMis = if ver ≠ x.agreed then true else if x.agreed ≠ 0 then false else x.defects.mapMis := by
  by_cases hver : ver = x.agreed
  · by_cases hagreed : x.agreed = 0 <;> simp [headerDefects, hver, hagreed]
  · simp [headerDefects, hup, hver]

/-- A frame being received that a version change spoils changes the Bolt alone. -/
theorem spoilFrame_sel (p : Nat) (s : State) : (spoilFrame p s).sel = s.sel := by
  have hswallow : ∀ i t, (swallow p i true 0 t).sel = t.sel := fun i t => by
    unfold swallow
    split
    · split <;> rfl
    · rfl
  unfold spoilFrame
  split
  · split
    · rfl
    · rename_i f _ _
      obtain ⟨-, -, -, -, -, -, hsel, -⟩ := agree_of_besideBolt (besideBolt_endAtPort s p f.ident f.received .pcsError)
      rw [hswallow, hsel]
  · rfl

theorem spoilFrame_none {p : Nat} {s : State} (h : receiving p s = none) : spoilFrame p s = s := by
  simp only [spoilFrame, h]

section
variable {l : Nat} {h : List Byte} {s : State} {x : SelLinkSt} (hx : getLink l s = x)
include hx

/-- A header on a link in UP: the version is compared (R221). -/
theorem hitchHeader_up (hup : x.hitch = .up) :
    getLink l (hitchHeader l h s) = { x with dropThreads := decide (numAt h 8 1 / 16 ≠ x.agreed), defects := headerDefects x (numAt h 8 1 / 16) }
      ∧ (numAt h 8 1 / 16 = x.agreed ∨ receiving (24 + l) s = none → (hitchHeader l h s).fab = s.fab) := by
  obtain ⟨hlink, hfab, -, -⟩ := setDefects_frame l (headerDefects x (numAt h 8 1 / 16)) (setLink l { x with dropThreads := decide (numAt h 8 1 / 16 ≠ x.agreed) } s)
  rw [getLink_setLink_same] at hlink
  have hact : hitchHeader l h s = if decide (numAt h 8 1 / 16 ≠ x.agreed) then
        spoilFrame (24 + l) (bump .selMapMismatch l (setDefects l (headerDefects x (numAt h 8 1 / 16)) (setLink l { x with dropThreads := decide (numAt h 8 1 / 16 ≠ x.agreed) } s)))
      else setDefects l (headerDefects x (numAt h 8 1 / 16)) (setLink l { x with dropThreads := decide (numAt h 8 1 / 16 ≠ x.agreed) } s) := by
    simp only [hitchHeader, hx, headerDefects, hup, decide_true, Bool.true_and]
  rw [hact]
  generalize setDefects l (headerDefects x (numAt h 8 1 / 16)) (setLink l { x with dropThreads := decide (numAt h 8 1 / 16 ≠ x.agreed) } s) = u at hlink hfab ⊢
  by_cases hver : numAt h 8 1 / 16 = x.agreed
  · rw [if_neg (by simp [hver])]
    exact ⟨hlink, fun _ => hfab⟩
  · rw [if_pos (by simp [hver])]
    refine ⟨?_, fun hnone => ?_⟩
    · rw [← hlink, getLink, spoilFrame_sel]
      rfl
    · have hnone' : receiving (24 + l) (bump .selMapMismatch l u) = none := by
        rw [← hnone.resolve_left hver]
        exact congrArg (fun b : Fabric => b.frames.find? (fun f => f.entry == 24 + l && !f.ended)) hfab
      rw [spoilFrame_none hnone']
      exact hfab

/-- A header on a plugged link in DETECT, at the rate of the other end, which sends no RDI: the link qualifies (R215, R216). -/
theorem hitchHeader_qualifies (hdet : x.hitch = .detect) (hplug : x.plugged = true) (hrdi : x.qualRdi = none) (hpeer : x.peerRdi = false) (hrate : x.peerRate = x.rate) :
    (getLink l (hitchHeader l h s)).hitch = .qualify ∧ (getLink l (hitchHeader l h s)).qualEnds = s.cyc + 10 * msCyc ∧ (getLink l (hitchHeader l h s)).qualErr = 0 ∧ (hitchHeader l h s).fab = s.fab := by
  obtain ⟨-, hfab, -, -⟩ := setDefects_frame l (headerDefects x (numAt h 8 1 / 16)) (setLink l { x with dropThreads := false } s)
  have hact : hitchHeader l h s = setLink l { getLink l (setDefects l (headerDefects x (numAt h 8 1 / 16)) (setLink l { x with dropThreads := false } s)) with
      hitch := .qualify, qualEnds := s.cyc + 10 * msCyc, qualErr := 0 } (setDefects l (headerDefects x (numAt h 8 1 / 16)) (setLink l { x with dropThreads := false } s)) := by
    simp [hitchHeader, hx, headerDefects, hdet, hplug, hrdi, hpeer, hrate]
  rw [hact, getLink_setLink_same]
  generalize setDefects l _ _ = u at hfab ⊢
  exact ⟨rfl, rfl, rfl, hfab⟩

end

/-! The header of a superframe received (R198, R199) -/

/-- A link after a bad header. -/
def afterBadHeader (x : SelLinkSt) : SelLinkSt :=
  { x with elapsed := x.elapsed + 1, badRun := x.badRun + 1, hdrGood := false, dropThreads := false, ttHalf := none, qualErr := x.qualErr + 1,
           dccA := { x.dccA with lastContent := false }, dccB := { x.dccB with lastContent := false } }

section
variable {l : Nat} {h : List Byte} {s : State} {x : SelLinkSt} (hx : getLink l s = x) (hen : x.enabled = true) (hin : x.inFrame = true)
include hx hen hin

theorem selHeader_good (hok : headerOk h = true ∧ headerSfn h = (x.rxSfn + (x.elapsed + 1)) % 65536) : selHeader l h s = goodHeader l h s := by
  simp only [selHeader, hx, hen, hin, Bool.not_true, Bool.false_eq_true, or_self, ↓reduceIte, if_pos hok]

theorem selHeader_bad (hok : ¬ (headerOk h = true ∧ headerSfn h = (x.rxSfn + (x.elapsed + 1)) % 65536)) (hrest : x.hitch ≠ .map ∨ x.switchSfn = none) :
    selHeader l h s = if x.badRun + 1 ≥ 4 then leaveFrameAt l (bump .selHdrBad l (setLink l (afterBadHeader x) s)) else bump .selHdrBad l (setLink l (afterBadHeader x) s) := by
  have hswitch : sfnSwitch l (bump .selHdrBad l (setLink l (afterBadHeader x) s)) = bump .selHdrBad l (setLink l (afterBadHeader x) s) :=
    sfnSwitch_resting (by rw [getLink_of_sel (t := bump .selHdrBad l (setLink l (afterBadHeader x) s)) (s := s) rfl]; exact hrest)
  have hafter : selHeader l h s = if x.badRun + 1 ≥ 4 then leaveFrameAt l (sfnSwitch l (bump .selHdrBad l (setLink l (afterBadHeader x) s))) else sfnSwitch l (bump .selHdrBad l (setLink l (afterBadHeader x) s)) := by
    simp only [selHeader, hx]
    exact (if_neg (by simp [hen, hin])).trans (if_neg hok)
  rw [hafter, hswitch]

end

/-! Superframes (R193-R195) -/

/-- What the threads of a superframe leave alone: the trace, the tributary and the transmitter's own state. -/
def besideSending (l : Nat) (s : State) : List Emission × List (BitVec 66) × BitVec 58 × Nat := (s.out, (getLink l s).trib, (getLink l s).scrambler, (getLink l s).txSfn)

theorem besideSending_of {l : Nat} {x : SelLinkSt} {s t u : State} (hsel : t.sel = (setLink l x u).sel) (hout : t.out = s.out)
    (hx : x.trib = (getLink l s).trib ∧ x.scrambler = (getLink l s).scrambler ∧ x.txSfn = (getLink l s).txSfn) : besideSending l t = besideSending l s := by
  obtain ⟨htrib, hscr, hsfn⟩ := hx
  rw [besideSending, getLink_of_sel hsel, hout, htrib, hscr, hsfn]
  rfl

theorem besideSending_threadIdle (l th : Nat) (s : State) : besideSending l (threadIdle l th s) = besideSending l s := by
  unfold threadIdle
  dsimp only
  split
  · rfl
  · split
    · split
      · rfl
      · refine besideSending_of rfl rfl ?_
        rw [getLink_setLink_same]
        exact ⟨rfl, rfl, rfl⟩
    · split
      · rfl
      · split
        · exact besideSending_of rfl rfl ⟨rfl, rfl, rfl⟩
        · split
          · rfl
          · exact besideSending_of rfl rfl ⟨rfl, rfl, rfl⟩

theorem besideSending_fillBlock (l th n first : Nat) (acc : List Byte) (s : State) : besideSending l (fillBlock l th n first acc s).2 = besideSending l s := by
  induction n generalizing first acc s with
  | zero => rfl
  | succ n ih =>
    unfold fillBlock
    dsimp only
    split
    · rw [ih]
      exact besideSending_of rfl rfl ⟨rfl, rfl, rfl⟩
    · split
      · rw [ih, ← besideSending_threadIdle l th s]
        exact besideSending_of rfl rfl ⟨rfl, rfl, rfl⟩
      · exact besideSending_threadIdle l th s

theorem besideSending_threadBlock (l th : Nat) (s : State) : besideSending l (threadBlock l th s).2 = besideSending l s := by
  unfold threadBlock
  split
  · rfl
  · exact besideSending_fillBlock l th 7 0 [] s

theorem besideSending_threadBlocks (l : Nat) (ths : List Nat) (s : State) : besideSending l (threadBlocks l ths s).2 = besideSending l s := by
  induction ths generalizing s with
  | nil => rfl
  | cons th ths ih => exact (ih _).trans (besideSending_threadBlock l th s)

theorem threadBlocks_length (l : Nat) (ths : List Nat) (s : State) : (threadBlocks l ths s).1.length = ths.length := by
  induction ths generalizing s with
  | nil => rfl
  | cons th ths ih => exact congrArg (· + 1) (ih _)

/-! The header of a superframe (R194) -/

theorem crcByteMsb16_lt (n : Nat) {c : Nat} (hc : c < 2 ^ 16) : crcByteMsb 16 0x1021 n c < 2 ^ 16 := by
  induction n generalizing c with
  | zero => exact hc
  | succ n ih =>
    have hshift : (c <<< 1) % 2 ^ 16 < 2 ^ 16 := Nat.mod_lt _ (by decide)
    simp only [crcByteMsb]
    split
    · exact ih (Nat.xor_lt_two_pow hshift (by decide))
    · exact ih hshift

theorem crc16_lt (m : List Byte) : crc16 m < 65536 := by
  have hfold : ∀ (l : List Byte) {c : Nat}, c < 2 ^ 16 → l.foldl (fun c b => crcByteMsb 16 0x1021 8 (c ^^^ (b.toNat <<< 8))) c < 2 ^ 16 := by
    intro l
    induction l with
    | nil => exact fun hc => hc
    | cons b l ih =>
      intro c hc
      refine ih (crcByteMsb16_lt 8 (Nat.xor_lt_two_pow hc ?_))
      have hb : b.toNat < 256 := b.isLt
      rw [Nat.shiftLeft_eq]
      omega
  exact hfold m (by decide)

/-- A header with ALIGN_WORD, an SFN and its HCRC is good and carries that SFN. -/
theorem header_good (sfn : Nat) {b1 : List Byte} (hb : b1.length = 8) :
    let h0 := natBytes 4 0x5E1AC6F9 ++ natBytes 2 sfn
    headerOk ((h0 ++ natBytes 2 (crc16 (h0 ++ b1))) ++ b1) = true ∧ headerSfn ((h0 ++ natBytes 2 (crc16 (h0 ++ b1))) ++ b1) = sfn % 65536 := by
  intro h0
  have hlen : h0.length = 6 := by simp [h0]
  have hcrc : headerCrc ((h0 ++ natBytes 2 (crc16 (h0 ++ b1))) ++ b1) = crc16 (h0 ++ b1) := by
    have htake : ((h0 ++ natBytes 2 (crc16 (h0 ++ b1))) ++ b1).take 6 = h0 := by
      rw [List.append_assoc, ← hlen, List.take_left]
    have hdrop : ((h0 ++ natBytes 2 (crc16 (h0 ++ b1))) ++ b1).drop 8 = b1 := List.drop_left' (by simp [hlen])
    rw [headerCrc, htake, hdrop, List.take_of_length_le (Nat.le_of_eq hb)]
  have hbytes : (h0 ++ natBytes 2 (crc16 (h0 ++ b1))) ++ b1 = natBytes 4 0x5E1AC6F9 ++ (natBytes 2 sfn ++ (natBytes 2 (crc16 (h0 ++ b1)) ++ b1)) := by
    simp only [h0, List.append_assoc]
  have hsfn : headerSfn ((h0 ++ natBytes 2 (crc16 (h0 ++ b1))) ++ b1) = sfn % 65536 := by
    rw [headerSfn, hbytes, numAt_behind _ _ _ (by decide)]
    exact numAt_front 2 sfn _
  have hword : numAt ((h0 ++ natBytes 2 (crc16 (h0 ++ b1))) ++ b1) 0 4 = 0x5E1AC6F9 :=
    (congrArg (fun b => numAt b 0 4) hbytes).trans ((numAt_front 4 0x5E1AC6F9 _).trans rfl)
  have hheld : numAt ((h0 ++ natBytes 2 (crc16 (h0 ++ b1))) ++ b1) 6 2 = crc16 (h0 ++ b1) := by
    rw [hbytes, numAt_behind _ _ _ (by decide), numAt_behind _ _ _ (by decide), numAt_front]
    exact Nat.mod_eq_of_lt (crc16_lt _)
  refine ⟨?_, hsfn⟩
  rw [headerOk, hword, hheld, hcrc]
  simp [hlen, hb]

theorem ttSample_keeps (x : SelLinkSt) (s : State) : (ttSample x s).txSfn = x.txSfn ∧ (ttSample x s).trib = x.trib ∧ (ttSample x s).scrambler = x.scrambler := by
  unfold ttSample
  split <;> exact ⟨rfl, rfl, rfl⟩

/-- A superframe that is sent: its header, the blocks of its threads and discretes, and the tributary's blocks under the line coding. -/
theorem superframeTx_shape {l : Nat} {s : State} {x : SelLinkSt} (hx : getLink l s = x) (hen : x.enabled = true) (hrun : domainRuns 12 s = true) (hhitch : x.hitch ≠ .map) :
    ∃ (v : State) (b1 disc last : List Byte) (ts : List (List Byte)) (n since : Nat), n = x.txSfn ∧ b1.length = 8 ∧ ts.length = 8 ∧ besideSending l v = besideSending l s ∧
      superframeTx l s =
        let h0 := natBytes 4 0x5E1AC6F9 ++ natBytes 2 n
        let head := [h0 ++ natBytes 2 (crc16 (h0 ++ b1)), b1] ++ ts ++ [disc, last]
        let line := scrambleLine (superframeBlocks head (getLink l v).trib) (getLink l v).scrambler
        let y := getLink l v
        emit (.superframe l head line.1) (setLink l { y with txSfn := (y.txSfn + 1) % 65536, sinceSwitch := since, unhitched := false, ackTail := 0, trib := y.trib.drop 1008, scrambler := line.2 } v) := by
  subst hx
  have hrest : sfnSwitch l s = s := sfnSwitch_resting (.inl hhitch)
  obtain ⟨hsfn, htrib, hscr⟩ := ttSample_keeps (getLink l s) s
  unfold superframeTx
  rw [if_neg (by simp [hen, hrun]), hrest]
  refine ⟨_, _, _, _, _, _, _, hsfn, ?_, threadBlocks_length l _ _, ?_, rfl⟩
  · simp
  · rw [besideSending_threadBlock, besideSending_threadBlocks]
    exact besideSending_of (u := s) rfl rfl ⟨htrib, hscr, hsfn⟩

/-- What a superframe's transmission leaves (R195). -/
theorem superframeTx_sends {l : Nat} {s : State} {x : SelLinkSt} (hx : getLink l s = x) (hen : x.enabled = true) (hrun : domainRuns 12 s = true) (hhitch : x.hitch ≠ .map) :
    ∃ b0 b1 rest, (superframeTx l s).out = s.out ++ [.superframe l ([b0, b1] ++ rest) (scrambleLine (superframeBlocks ([b0, b1] ++ rest) x.trib) x.scrambler).1] ∧ rest.length = 10
      ∧ (getLink l (superframeTx l s)).trib = x.trib.drop 1008 ∧ headerOk (b0 ++ b1) = true ∧ headerSfn (b0 ++ b1) = x.txSfn % 65536 ∧ (getLink l (superframeTx l s)).txSfn = (x.txSfn + 1) % 65536 := by
  obtain ⟨v, b1, disc, last, ts, n, since, hn, hb1, hts, hbeside, hsent⟩ := superframeTx_shape hx hen hrun hhitch
  simp only [besideSending, hx, Prod.mk.injEq] at hbeside
  obtain ⟨hout, htrib, hscr, hsfn⟩ := hbeside
  obtain ⟨hok, hcarried⟩ := header_good n hb1
  refine ⟨_, b1, ts ++ [disc, last], ?_, by simp [hts], ?_, hok, by rw [hcarried, hn], ?_⟩
  · rw [hsent, ← htrib, ← hscr, ← hout, ← List.append_assoc]
    rfl
  · rw [hsent, ← htrib]
    exact congrArg SelLinkSt.trib (getLink_of_sel (s := v) rfl)
  · rw [hsent, ← hsfn]
    exact congrArg SelLinkSt.txSfn (getLink_of_sel (s := v) rfl)

/-! Records of a thread (R200-R203) -/

theorem getLink_setThread (l th : Nat) (t : Thread) (s : State) : getLink l (setThread l th t s) = { getLink l s with threads := mapSet {} (getLink l s).threads th t } :=
  getLink_setLink_same l _ s

theorem setThread_setThread {l th : Nat} {a b : Thread} {s : State} (hen : (getLink l s).enabled = true) (ha : a.rx ≠ []) (hb : b.rx ≠ []) : setThread l th a (setThread l th b s) = setThread l th a s := by
  have hne : ∀ t : Thread, t.rx ≠ [] → t ≠ {} := fun t ht he => ht (congrArg Thread.rx he)
  have hmap : mapSet {} (mapSet {} (getLink l s).threads th b) th a = mapSet {} (getLink l s).threads th a := by
    simp only [mapSet, if_neg (hne a ha), if_neg (hne b hb), mapPut_mapPut]
  rw [setThread, getLink_setThread]
  dsimp only
  rw [hmap]
  exact setLink_setLink s hen hen

/-- Whether a record that has so far the bytes `b` goes on. -/
def recordGoesOn (lin : Bool) (b : List Byte) : Prop := recordLen lin b = some none ∨ ∃ n, recordLen lin b = some (some n) ∧ b.length < n

section
variable {wake : Nat → CanMsg → State → State} {l th : Nat}

/-- A byte that a record takes and that does not complete it. -/
theorem feedThread_takes {open_ : Bool} {b : Byte} {rest : List Byte} {s : State} {t : Thread} (ht : mapGet {} (getLink l s).threads th = t) (htake : t.rx ≠ [] ∨ (b ≠ 0 ∧ open_ = true)) (hlen : recordGoesOn (th == 8) (t.rx ++ [b])) :
    feedThread wake l th open_ (b :: rest) s = feedThread wake l th open_ rest (setThread l th { t with rx := t.rx ++ [b], rxStamp := if t.rx.isEmpty then nowFrac s else t.rxStamp } s) := by
  have hskip : ¬ (t.rx.isEmpty = true ∧ (b = 0 ∨ (!open_) = true)) := by
    rintro ⟨hempty, hnone⟩
    rcases htake with h | ⟨hb, ho⟩
    · exact h (List.isEmpty_iff.mp hempty)
    · rcases hnone with h | h
      · exact hb h
      · rw [ho] at h
        exact Bool.false_ne_true h
  simp only [feedThread, ht, if_neg hskip]
  rcases hlen with h | ⟨n, h, hn⟩
  · simp only [h]
  · simp only [h, if_pos hn]

theorem getThread_setThread {t : Thread} {s : State} : mapGet {} (getLink l (setThread l th t s)).threads th = t := by
  rw [getLink_setThread]
  exact mapGet_mapSet_same _ _ _ _

/-- The further bytes of a record that does not complete collect on its thread. -/
theorem feedThread_collects {open_ : Bool} {s : State} {t : Thread} (hen : (getLink l s).enabled = true) (bs : List Byte) (ht : t.rx ≠ [])
    (hgo : ∀ k, 1 ≤ k → k ≤ bs.length → recordGoesOn (th == 8) (t.rx ++ bs.take k)) :
    feedThread wake l th open_ bs (setThread l th t s) = setThread l th { t with rx := t.rx ++ bs } s := by
  induction bs generalizing t with
  | nil =>
    rw [List.append_nil]
    rfl
  | cons b bs ih =>
    have hfirst : recordGoesOn (th == 8) (t.rx ++ [b]) := hgo 1 (Nat.le_refl 1) (Nat.succ_le_succ (Nat.zero_le _))
    have hstamp : (if t.rx.isEmpty then nowFrac (setThread l th t s) else t.rxStamp) = t.rxStamp := if_neg (by simpa using ht)
    rw [feedThread_takes getThread_setThread (.inl ht) hfirst, hstamp, setThread_setThread hen (by simp) ht]
    refine (ih (t := { t with rx := t.rx ++ [b] }) (by simp) fun k hk hlen => ?_).trans (by simp)
    have hmore := hgo (k + 1) (by omega) (Nat.succ_le_succ hlen)
    rwa [List.take_succ_cons, List.append_cons] at hmore

end

/-- A block of a thread of a link in UP and FRAME (R200). -/
theorem threadBlockRx_open {wake : Nat → CanMsg → State → State} {l th : Nat} {block : List Byte} {s : State} {x : SelLinkSt} (hx : getLink l s = x) (hhitch : x.hitch = .up) (hin : x.inFrame = true) (hdrop : x.dropThreads = false) :
    threadBlockRx wake l th block s =
      if numAt block 0 1 ≥ 8 then bump .selRecBad (16 * l + th) (setThread l th { mapGet ({} : Thread) x.threads th with rx := [], skip := true } s)
      else if numAt block 0 1 = 0 then (if (mapGet ({} : Thread) x.threads th).skip ∨ (mapGet ({} : Thread) x.threads th).rx.isEmpty then s else feedThread wake l th false ((block.drop 1).take 7) s)
      else
        let s1 := if (mapGet ({} : Thread) x.threads th).skip then setThread l th { mapGet ({} : Thread) x.threads th with rx := [], skip := false } s else feedThread wake l th false (((block.drop 1).take 7).take (numAt block 0 1 - 1)) s
        let s2 := cutRecord l th s1
        if (mapGet ({} : Thread) (getLink l s2).threads th).skip then s2 else feedThread wake l th true (((block.drop 1).take 7).drop (numAt block 0 1 - 1)) s2 := by
  subst hx
  exact if_neg (by simp [hhitch, hin, hdrop])

section
variable {wake : Nat → CanMsg → State → State} {l th : Nat} {block : List Byte} {s : State} {x : SelLinkSt} {t : Thread} (hx : getLink l s = x) (hen : x.enabled = true)
include hx hen

theorem threadBlock_begins (hfirst : numAt block 0 1 = 1) (hskip : (mapGet ({} : Thread) x.threads th).skip = false) (hrx : (mapGet ({} : Thread) x.threads th).rx = []) (hlen : block.length = 8) (hnot : block[1]? ≠ some 0)
    (hgo : ∀ k, 1 ≤ k → k ≤ 7 → recordLen (th == 8) (((block.drop 1).take 7).take k) = some none ∨ ∃ n, recordLen (th == 8) (((block.drop 1).take 7).take k) = some (some n) ∧ k < n) :
    (let s1 := if (mapGet ({} : Thread) x.threads th).skip then setThread l th { mapGet ({} : Thread) x.threads th with rx := [], skip := false } s else feedThread wake l th false (((block.drop 1).take 7).take (numAt block 0 1 - 1)) s
     let s2 := cutRecord l th s1
     if (mapGet ({} : Thread) (getLink l s2).threads th).skip then s2 else feedThread wake l th true (((block.drop 1).take 7).drop (numAt block 0 1 - 1)) s2)
      = setThread l th { mapGet ({} : Thread) x.threads th with rx := (block.drop 1).take 7, rxStamp := nowFrac s } s := by
  subst hx
  generalize hheld : mapGet ({} : Thread) (getLink l s).threads th = t at hskip hrx ⊢
  obtain ⟨b, ds, hdata, hb, hds⟩ : ∃ b ds, (block.drop 1).take 7 = b :: ds ∧ b ≠ 0 ∧ ds.length = 6 := by
    match block, hlen with
    | a :: b :: ds, hlen =>
      have hds : ds.length = 6 := by simpa using hlen
      exact ⟨b, ds, by simp [List.take_of_length_le (Nat.le_of_eq hds)], fun hz => hnot (by simp [hz]), hds⟩
  have hcut : cutRecord l th s = s := by
    simp only [cutRecord, hheld, hrx, List.isEmpty_nil, ↓reduceIte]
  have hmore : ∀ k, 1 ≤ k → k ≤ 7 → recordGoesOn (th == 8) ((b :: ds).take k) := fun k h1 h7 => by
    rw [recordGoesOn, List.length_take, List.length_cons, hds, Nat.min_eq_left h7, ← hdata]
    exact hgo k h1 h7
  have hone : recordGoesOn (th == 8) (t.rx ++ [b]) := by
    rw [hrx]
    exact hmore 1 (by decide) (by decide)
  have hnone : feedThread wake l th false [] s = s := rfl
  rw [hdata, hfirst]
  simp only [hskip, Bool.false_eq_true, ↓reduceIte, Nat.sub_self, List.take_zero, hnone, hcut, hheld, List.drop_zero]
  refine (feedThread_takes hheld (.inr ⟨hb, rfl⟩) hone).trans ?_
  rw [hrx, if_pos List.isEmpty_nil]
  refine (feedThread_collects (t := { t with rx := [b], rxStamp := nowFrac s }) hen ds (List.cons_ne_nil _ _) fun k h1 hk => hmore (k + 1) (by omega) (by omega)).trans ?_
  rw [hskip]
  rfl

/-- A free LIN thread takes the next frame of the queue (R204). -/
theorem threadIdle_lin (hhitch : x.hitch = .up) (htx : (mapGet ({} : Thread) x.threads th).tx = []) (hth : th = 8) {f : Nat} {e : Bool} {d : List Byte} {rest : List (Nat × Bool × List Byte)} (hq : x.linQueue = (f, e, d) :: rest) :
    threadIdle l th s = setLink l { x with linQueue := rest, threads := mapSet {} x.threads th { mapGet ({} : Thread) x.threads th with tx := linRecordBytes f e d, fresh := true } } s := by
  simp only [threadIdle, hx, hth ▸ htx, hth, hq, getLink_setLink_same]
  exact (if_neg (by simp [hhitch])).trans (setLink_setLink s (by exact hen) (by exact hen))

omit hen in
theorem threadIdle_can (hhitch : x.hitch = .up) (htx : (mapGet ({} : Thread) x.threads th).tx = []) (hth : th < 8) (hcan : (canRecord (16 + 8 * l + th) s).getLsbD 127 = true) (hedge : edgeOn s = true)
    (hnet : asleepMember (fun n => n.hasCan (16 + 8 * l + th)) s = false) (hhanded : handedOf (16 + 8 * l + th) s = []) {q : TxMsg} {rest : List TxMsg} (hq : txq (16 + 8 * l + th) s = q :: rest) :
    threadIdle l th s = setThread l th { mapGet ({} : Thread) x.threads th with tx := canRecordBytes q.msg, fresh := true } (setTxq (16 + 8 * l + th) rest s) := by
  subst hx
  simp only [threadIdle, htx, hhanded, hq]
  exact (if_neg (by simp [hhitch])).trans ((if_neg (by omega)).trans (if_neg (by simp [hcan, hedge, hnet]; omega)))

end

/-- Settles O52: the clauses of the transmitter, the aligner, the threads, the discretes and the defects, each by its own law. -/
theorem selvageLinkEventsRun : Obligations.SelvageLinkEventsRun := by
  intro s link hrun l x defect
  refine ⟨fun hoff => ?off, fun hen hhitch => ?superframe, fun pos h hen hlock hsearch hok hnew => ?sighting, fun h c hen hlock hsearch hc => ?check, fun h hen hin => ?header, fun hen hlock hout hlob => ?lost, fun hen hlock hlob => ?gained,
    fun th block => ?thread, fun block => ?disc, fun b v valid hen => ?sdcc, fun at_ => ?los⟩
  case off =>
    have hoff' : (getLink l s).enabled = false := hoff
    exact ⟨completes_atSel rfl hrun (if_pos (.inl (by rw [hoff']; rfl))), fun pos h => ⟨completes_atSel rfl hrun (if_pos (.inl (by rw [hoff']; rfl))), completes_atSel rfl hrun (if_pos (.inl (by rw [hoff']; rfl)))⟩,
      fun h => completes_atSel rfl hrun (if_pos (.inl (by rw [hoff']; rfl)))⟩
  case superframe =>
    obtain ⟨b0, b1, rest, hout, hlen, htrib, hok, hsfn, hnext⟩ := superframeTx_sends rfl hen hrun hhitch
    exact ⟨_, b0, b1, rest, completes_atSel rfl hrun rfl, hout, hlen, htrib, hok, hsfn, hnext⟩
  case sighting =>
    have hsight := selSighting_new (pos := pos) rfl hen hlock hsearch hok hnew
    exact ⟨fun hroom => completes_atSel rfl hrun (hsight.trans (if_neg (Nat.not_le.mpr hroom))), fun hfull => completes_atSel rfl hrun (hsight.trans (if_pos hfull))⟩
  case check =>
    intro pass
    have hcheck := selCheck_only (h := h) rfl hen hlock hsearch hc
    refine ⟨fun hfail => completes_atSel rfl hrun (hcheck.trans ((if_neg hfail).trans (settleCands_waiting ?_))), fun hpass hfew => completes_atSel rfl hrun (hcheck.trans ((if_pos hpass).trans (settleCands_waiting ?_))),
      fun hpass hthird hhitch hup hsend => ?_⟩
    · rw [getLink_setLink_same]
      rfl
    · rw [getLink_setLink_same]
      simp
      omega
    · have hsettled := settleCands_confirmed (s := setLink l { x with cands := [{ c with sfn := headerSfn h, passes := c.passes + 1 }] } s) (l := l) (congrArg SelLinkSt.cands (getLink_setLink_same l _ s)) (by show c.passes + 1 = 3; omega)
      obtain ⟨hlink, hfab⟩ := enterFrame_down (getLink_setLink_same l { x with cands := [{ c with sfn := headerSfn h, passes := c.passes + 1 }] } s) hhitch hup hsend { c with sfn := headerSfn h, passes := c.passes + 1 }
      refine ⟨_, completes_atSel rfl hrun (hcheck.trans ((if_pos hpass).trans hsettled)), ?_⟩
      rw [hlink, hfab]
      exact ⟨rfl, rfl, rfl, rfl, rfl, rfl⟩
  case header =>
    intro ok
    refine ⟨fun hbad hrun' hnone => ?_, fun hbad hrun' hhitch hup hsend => ?_, fun hok h0 h1 => ⟨fun hhitch => ?_, fun hhitch hplug hrdi hpeer hrate hsame => ?_⟩⟩
    · exact completes_atSel rfl hrun ((selHeader_bad rfl hen hin hbad (.inr hnone)).trans (if_neg (by show ¬ x.badRun + 1 ≥ 4; omega)))
    · have hlink : getLink l (bump .selHdrBad l (setLink l (afterBadHeader x) s)) = afterBadHeader x := getLink_of_sel (s := s) rfl
      have hmap : x.hitch ≠ .map := by rw [hhitch]; decide
      obtain ⟨hframe, hcands, hdef, hfab⟩ := leaveFrameAt_down hlink (by show x.hitch ≠ .up; rw [hhitch]; decide) hup hsend hin (by show x.hitch ≠ .qualify; rw [hhitch]; decide)
      refine ⟨_, completes_atSel rfl hrun ((selHeader_bad rfl hen hin hbad (.inl hmap)).trans (if_pos (by show x.badRun + 1 ≥ 4; omega))), hframe, hcands, ?_, ?_, hfab⟩
      all_goals rw [hdef]
    · obtain ⟨u, half, pair, a, b, hgood, hfab, hcyc, hlink⟩ := goodHeader_taken (x := x) rfl h0 h1 (by rw [hhitch]; decide)
      obtain ⟨hafter, hbolt⟩ := hitchHeader_up (h := h) hlink hhitch
      have hact : selHeader l h s = hitchHeader l h u := (selHeader_good rfl hen hin hok).trans hgood
      refine ⟨_, completes_atSel rfl hrun hact, ?_⟩
      rw [hafter]
      refine ⟨rfl, rfl, rfl, rfl, hhitch, ?_, rfl, fun hspoil => (hbolt (hspoil.imp_right fun hnone => ?_)).trans hfab⟩
      · exact headerDefects_mapMis hhitch
      · rw [← hnone]
        exact congrArg (fun f : Fabric => f.frames.find? (fun f => f.entry == 24 + l && !f.ended)) hfab
    · obtain ⟨u, half, pair, a, b, hgood, hfab, hcyc, hlink⟩ := goodHeader_taken (x := x) rfl h0 h1 (by rw [hhitch]; decide)
      have hpeerRate : (if numAt h 11 1 / 64 = 3 then x.peerRate else numAt h 11 1 / 64) = x.rate := by
        rw [if_neg (by omega), hsame]
      obtain ⟨hq, hends, herr, hbolt⟩ := hitchHeader_qualifies (h := h) hlink hhitch hplug hrdi hpeer hpeerRate
      exact ⟨_, completes_atSel rfl hrun ((selHeader_good rfl hen hin hok).trans hgood), hq, by rw [hends, hcyc], herr, hbolt.trans hfab⟩
  case lost =>
    refine completes_atSel rfl hrun (lockLost_searching rfl hen rfl hlock hout hlob)
  case gained => exact completes_atSel rfl hrun (lockGained_locks rfl hen rfl hlock hlob)
  case thread =>
    intro i t data
    refine ⟨fun hhitch => ⟨completes_atSel rfl hrun (if_pos (.inl hhitch)), completes_atSel rfl hrun (if_pos (.inl hhitch))⟩, fun hhitch hin hdrop hfirst => completes_atSel rfl hrun ?_, fun hen hhitch hin hdrop hfirst hskip hrx hlen hnot hgo => completes_atSel rfl hrun ?_,
      fun hhitch hen htx hi f e d rest hq => completes_atSel rfl hrun ?_, fun hhitch htx hi hcan hedge hnet hhanded q rest hq => completes_atSel rfl hrun ?_⟩
    · exact (threadBlockRx_open rfl hhitch hin hdrop).trans (if_pos hfirst)
    · refine (threadBlockRx_open rfl hhitch hin hdrop).trans ((if_neg (by rw [hfirst]; decide)).trans ((if_neg (by rw [hfirst]; decide)).trans ?_))
      exact threadBlock_begins rfl hen hfirst hskip hrx hlen hnot hgo
    · exact threadIdle_lin rfl hen hhitch htx hi hq
    · exact threadIdle_can rfl hhitch htx hi hcan hedge hnet hhanded hq
  case disc =>
    intro v d u hin hgood hdrop
    exact completes_atSel rfl hrun (if_neg (by show ¬ ((!x.inFrame) = true ∨ (!x.hdrGood) = true ∨ x.dropThreads = true); simp [hin, hgood, hdrop]))
  case sdcc =>
    exact completes_atSel rfl hrun (if_neg (by show ¬ (!x.enabled) = true; simp [hen]))
  case los =>
    intro u
    exact ⟨fun hen hlos => completes_atSel_at rfl hrun (losSet_begins (s := u) (x := x) rfl hen rfl hlos), fun hen hlos => completes_atSel_at rfl hrun (losClear_ends (s := u) (x := x) rfl hen rfl hlos)⟩

end Sys2Proof.Machine
end

section
/-! Proofs/HitchSequence: the hitch sequence of a Selvage link (R213-R223). -/

namespace Sys2Proof.Machine
open Sys2Proof.Claims

/-! What a port that goes down leaves of the links (R208, R232) -/

theorem stopSending_sel (p : Nat) (s : State) : (stopSending p s).sel = s.sel := by
  unfold stopSending
  obtain ⟨-, -, -, -, -, -, hflush, -⟩ := agree_of_besideBolt (besideBolt_flushOnDown (loseTx p (setPort p { getPort p s with sends := false } { s with sch := { s.sch with preempt := mapSet 0 s.sch.preempt p 0 } })) p)
  obtain ⟨-, -, -, -, -, -, hlose, -⟩ := agree_of_besideBolt (besideBolt_loseTx (setPort p { getPort p s with sends := false } { s with sch := { s.sch with preempt := mapSet 0 s.sch.preempt p 0 } }) p)
  rw [hflush, hlose]
  rfl

theorem reportDown_sel (p : Nat) (s : State) : (reportDown p s).sel = s.sel := by
  unfold reportDown
  dsimp only
  split
  · rename_i f _
    obtain ⟨-, -, -, -, -, -, hend, -⟩ := agree_of_besideBolt (besideBolt_endAtPort (setPort p { getPort p s with up := false, downAt := s.cyc, training := if trains p (getPort p s).record then 2 else 0, fast := false } s) p f.ident f.received .lost)
    exact hend
  · rfl

theorem portDown_sel (p : Nat) (s : State) : (portDown p s).sel = s.sel := by
  unfold portDown
  dsimp only
  split
  · rw [stopSending_sel, reportDown_sel]
  · split
    · exact stopSending_sel p s
    · rfl

/-- Outside UP a link's tributary is taken down, and no link changes. -/
theorem syncTrib_sel {l : Nat} {s : State} (h : (getLink l s).hitch ≠ .up) : (syncTrib l s).sel = s.sel := by
  simp only [syncTrib, if_pos h]
  exact portDown_sel _ _

theorem isoLinkLost_sel (l : Nat) (s : State) : (isoLinkLost l s).sel = s.sel := by
  refine forEach_keeps (p := State.sel) (fun e t => ?_) _ s
  split
  · refine forEach_keeps (p := State.sel) (fun a x => ?_) _ t
    split
    · split <;> rfl
    · rfl
  · rfl

theorem chooseLinkZones_sel (l : Nat) (s : State) : (chooseLinkZones l s).sel = s.sel := (congrArg State.sel (besideZones_chooseLinkZones l s) :)

theorem getLink_congr {l : Nat} {s t : State} (h : t.sel = s.sel) : getLink l t = getLink l s := congrArg (fun m => mapGet linkReset m l) h

/-! An unhitch (R223) -/

theorem besideThreads_abortTx (l : Nat) (s : State) : besideThreads l (abortTx l s) = besideThreads l s := by
  refine forEach_keeps (fun e t => ?_) _ s
  dsimp only
  split
  · exact besideThreads_of (u := t) rfl rfl ⟨rfl, rfl, rfl⟩
  · exact besideThreads_of (u := t) rfl rfl ⟨rfl, rfl, rfl⟩

/-- A link that leaves UP keeps all but its threads and LIN queue. -/
theorem leaveUp_link {l : Nat} {s : State} (h : (getLink l s).hitch ≠ .up) : ∃ th, getLink l (leaveUp l s) = { getLink l s with threads := th, linQueue := [] } := by
  obtain ⟨hcut, -⟩ := agree_of_besideThreads (besideThreads_abortTx l s)
  have hlink : getLink l (setLink l { getLink l (abortTx l s) with linQueue := [] } (abortTx l s)) = { getLink l s with threads := (getLink l (abortTx l s)).threads, linQueue := [] } := by
    rw [getLink_setLink_same]
    generalize getLink l (abortTx l s) = y at hcut ⊢
    rw [hcut]
  refine ⟨(getLink l (abortTx l s)).threads, ?_⟩
  rw [leaveUp]
  dsimp only
  rw [getLink_congr (syncTrib_sel (by rw [hlink]; exact h)), hlink]

/-- A link in DETECT: nothing plugged, no rate excluded (R213, R215). -/
theorem toDetect_link (l : Nat) (s : State) : (getLink l (toDetect l s)).hitch = .detect ∧ (getLink l (toDetect l s)).plugged = false ∧ (getLink l (toDetect l s)).excluded = [] := by
  obtain ⟨hlink, -⟩ := setDefects_frame l { (getLink l s).defects with mapMis := false, qualFail := false, hitchFail := false } (setLink l { getLink l s with
    hitch := .detect, plugged := false, excluded := [], rate := ((linkRates (getLink l s).record).head?).getD 0, agreed := 0, switchSfn := none, switched := false,
    sinceSwitch := 0, ackOk := false, accepted := none, ident := none, identAcked := false, qualRdi := none, dropThreads := false, trib := [] } s)
  rw [getLink_setLink_same] at hlink
  obtain ⟨th, hleft⟩ := leaveUp_link (by rw [hlink]; show Hitch.detect ≠ .up; decide)
  rw [toDetect]
  dsimp only
  rw [hleft, hlink]
  exact ⟨rfl, rfl, rfl⟩

/-- A declared unhitch (R223). -/
theorem unhitchLink_link (l : Nat) (s : State) :
    (getLink l (unhitchLink l s)).hitch = .detect ∧ (getLink l (unhitchLink l s)).plugged = false ∧ (getLink l (unhitchLink l s)).excluded = [] ∧ (getLink l (unhitchLink l s)).defects.unhitch = true
      ∧ (getLink l (unhitchLink l s)).defects.discStale = true := by
  obtain ⟨hhitch, hplug, hexcl⟩ := toDetect_link l (setLink l { getLink l s with unhitched := true, ackTail := 0, dccA := { (getLink l s).dccA with tx := (getLink l s).dccA.tx.take ((getLink l s).dccA.tx.length - (getLink l s).ackTail) } } s)
  rw [unhitchLink]
  dsimp only
  generalize toDetect l _ = u at hhitch hplug hexcl ⊢
  have hdeclared : getLink l (raiseEv .selUnhitch l [] (bump .selUnhitch l u)) = getLink l u := getLink_congr rfl
  rw [getLink_congr (chooseLinkZones_sel l _), getLink_congr (isoLinkLost_sel l _), (setDefects_frame l _ _).1, hdeclared]
  exact ⟨hhitch, hplug, hexcl, rfl, rfl⟩

/-! Management messages (R217) -/

/-- A link that has sent a management message. -/
def sentMsg (kind : Nat) (body : List Byte) (x : SelLinkSt) : SelLinkSt :=
  { x with ackTail := if kind = 4 then (dccFrame (selMsg kind body)).length else 0, dccA := { x.dccA with tx := x.dccA.tx ++ dccFrame (selMsg kind body) } }

theorem sendMsg_setLink {l kind : Nat} {body : List Byte} {y : SelLinkSt} (s : State) (hy : y.enabled = true) : sendMsg l kind body (setLink l y s) = setLink l (sentMsg kind body y) s := by
  have hsent : sendMsg l kind body (setLink l y s) = setLink l (sentMsg kind body (getLink l (setLink l y s))) (setLink l y s) := rfl
  rw [hsent, getLink_setLink_same]
  exact setLink_setLink s hy hy

section
variable {l : Nat} {s : State} {x : SelLinkSt} (hx : getLink l s = x) (hen : x.enabled = true)
include hx

theorem sendMsg_sends (kind : Nat) (body : List Byte) : sendMsg l kind body s = setLink l (sentMsg kind body x) s := by
  subst hx
  rfl

/-- The controller's MAP_SET (R220). -/
theorem sendMapSet_sends : sendMapSet l s = sendMsg l 3 ([1, 0] ++ natBytes 2 ((sendingSfn x + 64) % 65536))
    (setLink l { x with switchSfn := some ((sendingSfn x + 64) % 65536), ackOk := false, switched := false, agreed := 0, sinceSwitch := 0, resendAt := s.cyc + 10 * msCyc } s) := by
  subst hx
  rfl

/-! IDENT (R218, R219) -/

section
variable {ch : Nat} {body : List Byte} (hlen : body.length = 24) (hrole : numAt body 8 1 ≤ 1) (hver : numAt body 16 2 % 2 = 0)
include hlen hrole hver

theorem identRx_early (hhitch : x.hitch = .detect ∨ x.hitch = .qualify ∨ x.hitch = .fail) : identRx l ch body s = s := by
  subst hx
  refine (if_neg (by omega)).trans (if_pos ?_)
  rcases hhitch with h | h | h <;> rw [h] <;> decide

theorem identRx_late (hhitch : x.hitch = .map ∨ x.hitch = .up) : identRx l ch body s = sendMsg l 2 [] s := by
  subst hx
  refine (if_neg (by omega)).trans ((if_neg ?_).trans (if_pos ?_))
  all_goals rcases hhitch with h | h <;> rw [h] <;> decide

include hen in
theorem identRx_taken (hhitch : x.hitch = .ident) (hacked : x.identAcked = false) (hother : numAt body 8 1 ≠ if x.follower then 1 else 0) :
    identRx l ch body s = raiseEv .selIdent l body (sendMsg l 2 [] (setLink l { x with ident := some body } s)) := by
  have hstored : setLink l { sentMsg 2 [] x with ident := some body } (setLink l (sentMsg 2 [] x) s) = sendMsg l 2 [] (setLink l { x with ident := some body } s) := by
    rw [sendMsg_setLink s (by exact hen), setLink_setLink s (by exact hen) (by exact hen)]
    rfl
  rw [← hstored]
  simp only [identRx, sendMsg_sends hx, getLink_setLink_same, hx]
  exact (if_neg (by omega)).trans ((if_neg (by simp [hhitch])).trans ((if_neg (by simp [hhitch])).trans ((if_neg hother).trans (if_neg (by simp [hacked])))))

end

theorem identAckRx_first (hhitch : x.hitch = .ident) (hnone : x.ident = none) : identAckRx l s = setLink l { x with identAcked := true } s := by
  subst hx
  refine (if_neg (not_not_intro hhitch)).trans (if_neg ?_)
  rw [hnone]
  decide

include hen in
theorem identAckRx_second (hhitch : x.hitch = .ident) (hsome : x.ident.isSome = true) (hver : numAt (x.ident.getD []) 16 2 / 2 % 2 = 1) (hfol : x.follower = true) :
    identAckRx l s = setLink l { x with identAcked := true, hitch := .map, phaseAt := s.cyc, switchSfn := none, switched := false, ackOk := false, accepted := none, agreed := 0 } s := by
  have hmap : enterMap l (setLink l { x with identAcked := true } s) = setLink l { x with identAcked := true, hitch := .map, phaseAt := s.cyc, switchSfn := none, switched := false, ackOk := false, accepted := none, agreed := 0 } s := by
    simp only [enterMap, getLink_setLink_same]
    refine (if_pos hver).trans ((if_pos (by exact hfol)).trans ?_)
    exact setLink_setLink s (by exact hen) (by exact hen)
  rw [← hmap]
  simp only [identAckRx, hx]
  exact (if_neg (not_not_intro hhitch)).trans (if_pos hsome)

theorem identResend_due (hhitch : x.hitch = .ident) (hacked : x.identAcked = false) (hdue : x.resendAt ≤ s.cyc) :
    identResend l s = sendMsg l 1 (identBody l s) (setLink l { x with resendAt := s.cyc + 10 * msCyc } s) := by
  subst hx
  exact if_neg (by simp [hhitch, hacked]; omega)

include hen in
/-- A phase that has lasted 1 s fails (R219, R220). -/
theorem phaseTimeout_fails {h : Hitch} {d : Defects} (hd : x.defects = d) (hhitch : x.hitch = h) (hfail : d.hitchFail = false) (hdue : x.phaseAt + 1000 * msCyc ≤ s.cyc) :
    phaseTimeout l h s = raiseEv .selDefect l (natBytes 2 ({ d with hitchFail := true } : Defects).bits) (setLink l { x with hitch := .fail, switched := false, agreed := 0, defects := { d with hitchFail := true } } s) := by
  have hne : ({ d with hitchFail := true } : Defects) ≠ x.defects := fun he => Bool.false_ne_true (hfail.symm.trans (congrArg Defects.hitchFail (he.trans hd)).symm)
  have hdef := setDefects_changed (getLink_setLink_same l { x with hitch := .fail, switched := false, agreed := 0 } s) hne
  rw [setLink_setLink s (by exact hen) (by exact hen)] at hdef
  simp only [hd] at hdef
  simp only [phaseTimeout, hitchFails, hx, hd, hdef]
  exact if_pos ⟨hhitch, hdue⟩

theorem phaseTimeout_waits {h : Hitch} (hwait : s.cyc < x.phaseAt + 1000 * msCyc) : phaseTimeout l h s = s := by
  subst hx
  exact if_neg fun hdue => absurd hdue.2 (Nat.not_le.mpr hwait)

/-! MAP (R220) -/

section
variable {ch v w : Nat} {body : List Byte} (hlen : body.length = 4) (hres : numAt body 1 1 = 0)
include hlen hres

section
variable (hone : numAt body 0 1 = 1)
include hone

theorem mapSetRx_controller (hfol : x.follower = false) : mapSetRx l ch body s = s := by
  subst hx
  exact (if_neg (by omega)).trans (if_pos (.inl (by simp [hfol])))

theorem mapSetRx_follower (hfol : x.follower = true) (hhitch : x.hitch = .map) (hnew : x.accepted ≠ some body) :
    mapSetRx l ch body s = if 16 ≤ (numAt body 2 2 + 65536 - (x.rxSfn + x.elapsed) % 65536) % 65536 ∧ (numAt body 2 2 + 65536 - (x.rxSfn + x.elapsed) % 65536) % 65536 ≤ 1024 then
        sendMsg l 4 body (setLink l { x with accepted := some body, switchSfn := some (numAt body 2 2), switched := false, agreed := 0, sinceSwitch := 0 } s)
      else sendMsg l 4 ([0, 0] ++ natBytes 2 (numAt body 2 2)) s := by
  subst hx
  exact (if_neg (by omega)).trans ((if_neg (by simp [hfol, hhitch])).trans ((if_neg hnew).trans ((if_neg (by simp [hhitch])).trans (if_neg (not_not_intro hone)))))

theorem mapAckRx_matches (hfol : x.follower = false) (hhitch : x.hitch = .map) (hswitched : x.switched = false) (hw : x.switchSfn = some (numAt body 2 2))
    (hmore : 8 < (numAt body 2 2 + 65536 - sendingSfn x) % 65536) (hless : (numAt body 2 2 + 65536 - sendingSfn x) % 65536 ≤ 64) : mapAckRx l ch body s = setLink l { x with ackOk := true } s := by
  simp only [mapAckRx, hx, hw]
  exact (if_neg (by omega)).trans ((if_neg (by simp [hfol, hhitch, hswitched])).trans ((if_neg (by omega)).trans (if_pos ⟨hone, trivial, hmore, hless⟩)))

end

theorem mapAckRx_refused (hzero : numAt body 0 1 = 0) (hfol : x.follower = false) (hhitch : x.hitch = .map) (hswitched : x.switched = false) (hw : x.switchSfn.isSome = true) : mapAckRx l ch body s = sendMapSet l s := by
  obtain ⟨w, hw⟩ := Option.isSome_iff_exists.mp hw
  simp only [mapAckRx, hx, hw]
  exact (if_neg (by omega)).trans ((if_neg (by simp [hfol, hhitch, hswitched])).trans (if_pos hzero))

end

theorem mapSetResend_due (hfol : x.follower = false) (hhitch : x.hitch = .map) (hack : x.ackOk = false) (hswitched : x.switched = false) (hdue : x.resendAt ≤ s.cyc) : mapSetResend l s = sendMapSet l s := by
  subst hx
  exact if_neg (by simp [hfol, hhitch, hack, hswitched]; omega)

/-- At SFN_SWITCH an end that may switch does so, and a controller without its answer sends again. -/
theorem sfnSwitch_at {w : Nat} (hw : x.switchSfn = some w) (hhitch : x.hitch = .map) (hswitched : x.switched = false) :
    sfnSwitch l s = if ((if x.follower then x.rxSfn + x.elapsed else x.txSfn) % 65536 + 65536 - w) % 65536 < 32768 then
        (if x.follower = true ∨ x.ackOk = true then setLink l { x with switched := true, agreed := 1, sinceSwitch := 0 } s else sendMapSet l s)
      else s := by
  simp only [sfnSwitch, hx, hw]
  by_cases hreached : ((if x.follower then x.rxSfn + x.elapsed else x.txSfn) % 65536 + 65536 - w) % 65536 < 32768
  · rw [if_pos hreached]
    exact if_neg (by simp [hhitch, hswitched]; exact hreached)
  · rw [if_neg hreached]
    exact if_pos (.inr (.inr (Nat.le_of_not_lt hreached)))

theorem mapRevert_waits (hwait : x.sinceSwitch < 16) : mapRevert l s = s := by
  subst hx
  exact if_pos (.inr (.inr hwait))

section
variable (hhitch : x.hitch = .map) (hswitched : x.switched = true) (hdue : 16 ≤ x.sinceSwitch)
include hhitch hswitched hdue

theorem mapRevert_follower (hfol : x.follower = true) : mapRevert l s = setLink l { x with switched := false, agreed := 0, switchSfn := none, accepted := none, sinceSwitch := 0 } s := by
  subst hx
  exact (if_neg (by simp [hhitch, hswitched]; omega)).trans (if_pos hfol)

include hen in
theorem mapRevert_controller (hfol : x.follower = false) : mapRevert l s = sendMsg l 3 ([1, 0] ++ natBytes 2 ((sendingSfn x + 64) % 65536))
    (setLink l { x with accepted := none, switchSfn := some ((sendingSfn x + 64) % 65536), ackOk := false, switched := false, agreed := 0, sinceSwitch := 0, resendAt := s.cyc + 10 * msCyc } s) := by
  have hsent := sendMapSet_sends (s := setLink l { x with switched := false, agreed := 0, switchSfn := none, accepted := none, sinceSwitch := 0 } s) (getLink_setLink_same l _ s)
  rw [setLink_setLink s (by exact hen) (by exact hen)] at hsent
  refine Eq.trans ?_ hsent
  simp only [mapRevert, hx]
  exact (if_neg (by simp [hhitch, hswitched]; omega)).trans (if_neg (by simp [hfol]))

end

/-! Plug-in, rates and qualification (R213, R215, R216) -/

include hen in
theorem plugIn_plugs {d : Defects} (hd : x.defects = d) (hhitch : x.hitch = .detect) (hplug : x.plugged = false) (hunh : d.unhitch = false) :
    plugIn l s = raiseEv .selHitch l (natBytes 1 0) (bump .selHitch l (setLink l { x with plugged := true, dwellEnds := s.cyc + rateDwell x } s)) := by
  have heq : ({ d with unhitch := false } : Defects) = d := by rw [← hunh]
  have hdef := setDefects_same (d := { d with unhitch := false }) (getLink_setLink_same l { x with plugged := true, dwellEnds := s.cyc + rateDwell x } s) (by rw [heq]; exact hd.symm)
  have hsame : { x with plugged := true, dwellEnds := s.cyc + rateDwell x, defects := { d with unhitch := false } } = { x with plugged := true, dwellEnds := s.cyc + rateDwell x } := by rw [heq, ← hd]
  rw [setLink_setLink s (by exact hen) (by exact hen), hsame] at hdef
  simp only [hd] at hdef
  simp only [plugIn, hx, hd, hdef]
  exact if_neg (by simp [hen, hhitch, hplug])

theorem dwellEnd_waits (hwait : s.cyc < x.dwellEnds) : dwellEnd l s = s := by
  subst hx
  exact if_pos (.inr (.inr (.inr (.inr hwait))))

include hen in
theorem dwellEnd_next {c : Nat} (hhitch : x.hitch = .detect) (hplug : x.plugged = true) (hrdi : x.qualRdi = none) (hdue : x.dwellEnds ≤ s.cyc)
    (hc : ((openRates x).filter (fun r => decide (r > x.rate)) ++ openRates x).head? = some c) : dwellEnd l s = setLink l { x with rate := c, dwellEnds := s.cyc + rateDwell x } s := by
  have hnext : nextRate l s = setLink l { x with rate := c, dwellEnds := s.cyc + rateDwell x } s := by
    simp only [nextRate, hx, hc]
  rw [← hnext]
  subst hx
  exact if_neg (by simp [hen, hhitch, hplug, hrdi]; omega)

theorem qualifyEnd_passes {bad : Nat} (hhitch : x.hitch = .qualify) (hdue : x.qualEnds ≤ s.cyc) (hfew : bad + x.qualErr ≤ bits x.record 42 35) (hin : x.inFrame = true) :
    qualifyEnd l bad s = sendMsg l 1 (identBody l s) (setLink l { x with hitch := .ident, phaseAt := s.cyc, resendAt := s.cyc + 10 * msCyc, ident := none, identAcked := false } s) := by
  subst hx
  exact (if_neg (by simp [hhitch]; omega)).trans (if_neg (by simp [hin]; omega))

theorem qualifyEnd_fails {bad : Nat} (hhitch : x.hitch = .qualify) (hdue : x.qualEnds ≤ s.cyc) (hmany : bits x.record 42 35 < bad + x.qualErr) : qualifyEnd l bad s = qualifyFails l s := by
  subst hx
  exact (if_neg (by simp [hhitch]; omega)).trans (if_pos (.inl hmany))

/-- A failed qualification excludes the rate; without another the hitch fails (R216). -/
theorem qualifyFails_link :
    (getLink l (qualifyFails l s)).excluded = x.excluded ++ [x.rate] ∧ (getLink l (qualifyFails l s)).qualRdi = some (s.cyc + msCyc) ∧ (getLink l (qualifyFails l s)).defects.qualFail = true
      ∧ (getLink l (qualifyFails l s)).hitch = if openRates { x with excluded := x.excluded ++ [x.rate] } = [] then .fail else .detect := by
  obtain ⟨hlink, -⟩ := setDefects_frame l { x.defects with qualFail := true } (bump .selQualFail l (setLink l { x with hitch := .detect, excluded := x.excluded ++ [x.rate], qualRdi := some (s.cyc + msCyc) } s))
  rw [getLink_congr (t := bump .selQualFail l (setLink l _ s)) (s := setLink l _ s) rfl, getLink_setLink_same] at hlink
  simp only [qualifyFails, hx]
  generalize setDefects l _ _ = u at hlink ⊢
  have hopen : openRates (getLink l u) = openRates { x with excluded := x.excluded ++ [x.rate] } := by rw [hlink]; rfl
  rw [hopen]
  by_cases hnone : openRates { x with excluded := x.excluded ++ [x.rate] } = []
  · obtain ⟨hfail, -⟩ := setDefects_frame l { (getLink l u).defects with hitchFail := true } (setLink l { getLink l u with hitch := .fail, switched := false, agreed := 0 } u)
    rw [getLink_setLink_same] at hfail
    rw [if_pos (by rw [hnone]; rfl), if_pos hnone, hitchFails]
    dsimp only
    rw [hfail, hlink]
    exact ⟨rfl, rfl, rfl, rfl⟩
  · rw [if_neg (by simpa using hnone), if_neg hnone, hlink]
    exact ⟨rfl, rfl, rfl, rfl⟩

include hen in
/-- LOS that has lasted UNPLUG_TIME declares an unhitch (R223). -/
theorem unplugTimeout_due (hlos : x.defects.los = true) (htold : x.losTold = false) (hdue : x.losAt + bits x.record 52 43 * msCyc ≤ s.cyc) : unplugTimeout l s = unhitchOnce l (setLink l { x with losTold := true } s) := by
  subst hx
  exact if_neg (by simp [hen, hlos, htold]; omega)

theorem qualRdiEnd_waits {stop : Nat} (hstop : x.qualRdi = some stop) (hwait : s.cyc < stop) : qualRdiEnd l s = s := by
  simp only [qualRdiEnd, hx, hstop, if_pos hwait]

theorem qualRdiEnd_ends {stop : Nat} (hstop : x.qualRdi = some stop) (hdue : stop ≤ s.cyc) (hhitch : x.hitch ≠ .detect) : qualRdiEnd l s = setLink l { x with qualRdi := none } s := by
  simp only [qualRdiEnd, hx, hstop, if_neg (Nat.not_lt.mpr hdue), if_neg hhitch]

end

/-- Settles O53: each event of the hitch sequence by its own law. -/
theorem hitchSequenceEventsRun : Obligations.HitchSequenceEventsRun := by
  intro s link hrun l x fails mapSet_ unhitched hen
  refine ⟨fun body hlen hrole hver => ⟨fun hhitch => ?_, fun hhitch => ?_, fun hhitch hacked hother => ?_⟩, fun body hlen => ?_, fun hhitch => ?_, fun hhitch hnone => ?_, fun hhitch hsome hver hfol => ?_,
    fun body => ⟨fun hlen => ?_, fun hlen hone hres => ?_, fun hlen hzero hres hfol hhitch hswitched hw => ?_⟩, fun w hw hhitch hswitched => ?_, fun hhitch hswitched => ?_, fun hfresh => ?_, fun hdone => ?_, fun at_ => ?_⟩
  case refine_1 => exact completes_atSel rfl hrun (identRx_early rfl hlen hrole hver hhitch)
  case refine_2 => exact completes_atSel rfl hrun (identRx_late rfl hlen hrole hver hhitch)
  case refine_3 => exact completes_atSel rfl hrun (identRx_taken rfl hen hlen hrole hver hhitch hacked hother)
  case refine_4 => exact completes_atSel rfl hrun (if_pos (.inl hlen))
  case refine_5 => exact completes_atSel rfl hrun (if_pos hhitch)
  case refine_6 => exact completes_atSel rfl hrun (identAckRx_first rfl hhitch hnone)
  case refine_7 => exact completes_atSel rfl hrun (identAckRx_second rfl hen hhitch hsome hver hfol)
  case refine_8 => exact ⟨completes_atSel rfl hrun (if_pos (.inl hlen)), completes_atSel rfl hrun (if_pos (.inl hlen))⟩
  case refine_9 =>
    intro w ahead
    refine ⟨fun hfol hhitch hnew => ?_, fun hfol => completes_atSel rfl hrun (mapSetRx_controller rfl hlen hres hone hfol), fun hfol hhitch hswitched hw hmore hless => completes_atSel rfl hrun (mapAckRx_matches rfl hlen hres hone hfol hhitch hswitched hw hmore hless)⟩
    have hrx := mapSetRx_follower (ch := 0) rfl hlen hres hone hfol hhitch hnew
    exact ⟨fun hlo hhi => completes_atSel rfl hrun (hrx.trans (if_pos ⟨hlo, hhi⟩)), fun hout => completes_atSel rfl hrun (hrx.trans (if_neg fun h => hout.elim (fun hlo => absurd h.1 (Nat.not_le.mpr hlo)) fun hhi => absurd h.2 (Nat.not_le.mpr hhi)))⟩
  case refine_10 => exact completes_atSel rfl hrun ((mapAckRx_refused rfl hlen hres hzero hfol hhitch hswitched hw).trans (sendMapSet_sends rfl))
  case refine_11 =>
    intro now reached
    have hswitch := sfnSwitch_at rfl hw hhitch hswitched
    refine ⟨fun hwait => completes_atSel rfl hrun (hswitch.trans (if_neg hwait)), fun hdue hmay => completes_atSel rfl hrun (hswitch.trans ((if_pos hdue).trans (if_pos hmay))),
      fun hdue hfol hack => completes_atSel rfl hrun (hswitch.trans ((if_pos hdue).trans ((if_neg ?_).trans (sendMapSet_sends rfl))))⟩
    rintro (h | h)
    · exact Bool.false_ne_true (hfol.symm.trans h)
    · exact Bool.false_ne_true (hack.symm.trans h)
  case refine_12 =>
    exact ⟨fun hwait => completes_atSel rfl hrun (mapRevert_waits rfl hwait), fun hdue hfol => completes_atSel rfl hrun (mapRevert_follower rfl hhitch hswitched hdue hfol),
      fun hdue hfol => completes_atSel rfl hrun (mapRevert_controller (x := x) (s := s) rfl hen hhitch hswitched hdue hfol)⟩
  case refine_13 =>
    have hact : (if (getLink l s).enabled then unhitchOnce l s else s) = unhitchLink l s := (if_pos hen).trans (if_neg fun h => Bool.false_ne_true (hfresh.symm.trans h))
    exact ⟨unhitchLink l s, completes_atSel rfl hrun hact, unhitchLink_link l s⟩
  case refine_14 =>
    have hact : (if (getLink l s).enabled then unhitchOnce l s else s) = s := (if_pos hen).trans (if_pos hdone)
    exact completes_atSel rfl hrun hact
  case refine_15 =>
    intro u
    refine ⟨fun hhitch hplug hunh => ?_, fun hwait => ?_, fun c hhitch hplug hrdi hdue hc => ?_, fun bad hhitch hdue => ⟨fun hfew hin => ?_, fun hmany => ?_⟩, fun stop hstop => ⟨fun hwait => ?_, fun hdue hhitch => ?_⟩, fun hhitch hacked hdue => ?_,
      fun hhitch hfail hdue => ?_, fun hhitch hfail hdue => ?_, fun hwait => ?_, fun hfol hhitch hack hswitched hdue => ?_, fun hlos htold hfresh hdue => ?_, fun hnot => ?_⟩
    · exact completes_atSel_at rfl hrun (plugIn_plugs (s := u) (x := x) rfl hen rfl hhitch hplug hunh)
    · exact completes_atSel_at rfl hrun (dwellEnd_waits (s := u) (x := x) rfl hwait)
    · exact completes_atSel_at rfl hrun (dwellEnd_next (s := u) (x := x) rfl hen hhitch hplug hrdi hdue hc)
    · exact completes_atSel_at rfl hrun (qualifyEnd_passes (s := u) (x := x) rfl hhitch hdue hfew hin)
    · obtain ⟨hexcl, hrdi, hdef, hto⟩ := qualifyFails_link (l := l) (s := u) (x := x) rfl
      exact ⟨_, completes_atSel_at rfl hrun (qualifyEnd_fails (s := u) (x := x) rfl hhitch hdue hmany), hexcl, hrdi, hto, hdef⟩
    · exact completes_atSel_at rfl hrun (qualRdiEnd_waits (s := u) (x := x) rfl hstop hwait)
    · exact completes_atSel_at rfl hrun (qualRdiEnd_ends (s := u) (x := x) rfl hstop hdue hhitch)
    · exact completes_atSel_at rfl hrun (identResend_due (s := u) (x := x) rfl hhitch hacked hdue)
    · exact completes_atSel_at rfl hrun (phaseTimeout_fails (s := u) (x := x) rfl hen rfl hhitch hfail hdue)
    · exact completes_atSel_at rfl hrun (phaseTimeout_fails (s := u) (x := x) rfl hen rfl hhitch hfail hdue)
    · exact ⟨completes_atSel_at rfl hrun (phaseTimeout_waits (s := u) (x := x) rfl hwait), completes_atSel_at rfl hrun (phaseTimeout_waits (s := u) (x := x) rfl hwait)⟩
    · exact completes_atSel_at rfl hrun ((mapSetResend_due (s := u) (x := x) rfl hfol hhitch hack hswitched hdue).trans (sendMapSet_sends rfl))
    · refine ⟨_, completes_atSel_at rfl hrun ((unplugTimeout_due (s := u) (x := x) rfl hen hlos htold hdue).trans (if_neg ?_)), unhitchLink_link l _⟩
      rw [getLink_setLink_same]
      exact fun h => Bool.false_ne_true (hfresh.symm.trans h)
    · exact completes_atSel_at rfl hrun (if_pos (.inr (.inr (hnot.symm))))

end Sys2Proof.Machine
end

section
/-! Proofs/LinksAndPartners: links come up and go down, partners arrive and depart (R228-R241). -/

namespace Sys2Proof.Machine
open Sys2Proof.Claims

/-! A port's state -/

theorem getPort_setPort_same (p : Nat) (q : PortSt) (s : State) : getPort p (setPort p q s) = q := mapGet_mapSet_same _ _ _ _

theorem getPort_setPort_other {p p' : Nat} (q : PortSt) (s : State) (h : p' ≠ p) : getPort p' (setPort p q s) = getPort p' s := mapGet_mapSet_apart _ _ _ _ h

/-- A port that is up is no port after reset. -/
theorem setPort_setPort {p : Nat} {x y : PortSt} (s : State) (hx : x.up = true) (hy : y.up = true) : setPort p x (setPort p y s) = setPort p x s := by
  have hne : ∀ q : PortSt, q.up = true → q ≠ portReset p := fun q hq he => Bool.false_ne_true ((congrArg PortSt.up he).symm.trans hq)
  simp only [setPort, mapSet, if_neg (hne x hx), if_neg (hne y hy), mapPut_mapPut]

/-! What the departure of frames leaves of the transmitters -/

/-- The frames that the ports send. -/
def sending (s : State) : SMap (Option Tx) := s.fab.tx

section
variable (s : State)

theorem tx_eq_sending : s.fab.tx = sending s := rfl

@[simp] theorem sending_setFab (x : Fabric) : sending (setFab x s) = x.tx := (rfl)
@[simp] theorem sending_bump (c : Ctr) (i : Nat) : sending (bump c i s) = sending s := (rfl)
@[simp] theorem sending_setPort (p : Nat) (q : PortSt) : sending (setPort p q s) = sending s := (rfl)
@[simp] theorem sending_updFrame (i : Nat) (u : Frame → Frame) : sending (updFrame i u s) = sending s := (rfl)
@[simp] theorem sending_eraseFrame (i : Nat) : sending (eraseFrame i s) = sending s := (rfl)
@[simp] theorem sending_setQueue (q : Nat) (l : List QEnt) : sending (setQueue q l s) = sending s := (rfl)
@[simp] theorem sending_giveRow (c : Nat) : sending (giveRow c s) = sending s := (rfl)
@[simp] theorem sending_updTracked (q : Nat) (u : Tracked → Tracked) : sending (updTracked q u s) = sending s := (rfl)
@[simp] theorem sending_endContention : sending (endContention s) = sending s := (rfl)
@[simp] theorem sending_takeParam (q : Nat) (x : QueueParam) : sending (takeParam q x s) = sending s := (rfl)
@[simp] theorem sending_endVisit (p c : Nat) : sending (endVisit p c s) = sending s := (rfl)
@[simp] theorem sending_setPreempted (p : Nat) (t : Option Tx) : sending (setPreempted p t s) = sending s := (rfl)

@[simp] theorem sending_ite (c : Prop) [Decidable c] (t u : State) : sending (if c then t else u) = if c then sending t else sending u := apply_ite sending c t u

@[simp] theorem sending_forEach {α : Type} {f : α → State → State} (h : ∀ a t, sending (f a t) = sending t) (l : List α) : sending (forEach l f s) = sending s := forEach_keeps h l s

@[simp] theorem sending_forUpTo {f : Nat → State → State} (h : ∀ i t, sending (f i t) = sending t) (n : Nat) : sending (forUpTo n f s) = sending s := forEach_keeps h (List.range n) s

@[simp] theorem sending_syncFrame (i : Nat) : sending (syncFrame i s) = sending s := by
  unfold syncFrame
  split
  · rfl
  · split <;> simp [tx_eq_sending]

theorem sending_syncLinks_go (q : Nat) (l : List QEnt) : sending (syncLinks.go q l s) = sending s := by
  induction l generalizing s with
  | nil => rfl
  | cons e l ih =>
    unfold syncLinks.go
    split <;> simp [ih, tx_eq_sending]

@[simp] theorem sending_syncLinks (q : Nat) : sending (syncLinks q s) = sending s := sending_syncLinks_go s q _

@[simp] theorem sending_releaseShared (q : Nat) : sending (releaseShared q s) = sending s := by
  unfold releaseShared
  split
  · rfl
  · split
    · rfl
    · split <;> simp [tx_eq_sending]

@[simp] theorem sending_releaseCharge (f : Frame) (c : Charge) : sending (releaseCharge f c s) = sending s := by
  cases c <;> simp [releaseCharge, tx_eq_sending]

@[simp] theorem sending_freeCell (i : Nat) : sending (freeCell i s) = sending s := by
  unfold freeCell
  split
  · rfl
  · split
    · rfl
    · split <;> simp

@[simp] theorem sending_freeAll (i : Nat) : sending (freeAll i s) = sending s := by
  unfold freeAll
  split <;> simp

@[simp] theorem sending_ruleBytes (i : Nat) : sending (ruleBytes i s) = sending s := by
  unfold ruleBytes
  split
  · rfl
  · split <;> rfl

@[simp] theorem sending_dropFrame (i : Nat) : sending (dropFrame i s) = sending s := by
  unfold dropFrame
  split <;> simp

@[simp] theorem sending_dropCopy (i : Nat) (link : Option Nat) : sending (dropCopy i link s) = sending s := by
  have hfreed : ∀ u, sending (dropCopy i none u) = sending u := fun u => by
    unfold dropCopy
    dsimp only
    split <;> simp
  cases link with
  | none => exact hfreed s
  | some l => exact hfreed (setFab { s.fab with mcFree := { s.fab.mcFree with freed := s.fab.mcFree.freed ++ [l] } } s)

@[simp] theorem sending_dropHead (q : Nat) (c : Ctr) : sending (dropHead q c s) = sending s := by
  unfold dropHead
  split <;> simp

@[simp] theorem sending_flushPort (p : Nat) : sending (flushPort p s) = sending s :=
  sending_forUpTo s (fun c t => sending_forUpTo t (fun _ u => sending_dropHead u (8 * p + c) .boltFlush) _) _

@[simp] theorem sending_flushOnDown (p : Nat) : sending (flushOnDown p s) = sending s := by simp [flushOnDown]

@[simp] theorem sending_chargeDwrr (q len : Nat) : sending (chargeDwrr q len s) = sending s := by
  unfold chargeDwrr
  dsimp only
  split
  · rfl
  · split <;> rfl

@[simp] theorem sending_leaveFrame (t : Tx) : sending (leaveFrame t s) = sending s := by
  unfold leaveFrame
  dsimp only
  split <;> simp

@[simp] theorem sending_endStarted (p : Nat) (t : Tx) : sending (endStarted p t s) = sending s := by simp [endStarted]

@[simp] theorem sending_boundary (p : Nat) : sending (boundary p s) = sending s := by
  refine sending_forUpTo s (fun c t => ?_) _
  split
  · split <;> simp
  · rfl

/-- A port that loses its frames sends none (R62, R241). -/
theorem loseTx_sending (p : Nat) : mapGet none (loseTx p s).fab.tx p = none := by
  have hlost : sending (loseTx p s) = sending (setTx p none s) := by
    unfold loseTx
    dsimp only
    rw [sending_boundary]
    split <;> split <;> simp
  rw [tx_eq_sending, hlost]
  exact mapGet_mapSet_same none s.fab.tx p none

end

/-! Links go down (R62, R237, R241) -/

/-- What a port that stops sending leaves. -/
theorem stopSending_frame (p : Nat) (s : State) :
    (stopSending p s).ports = (setPort p { getPort p s with sends := false } s).ports ∧ (stopSending p s).raised = s.raised ∧ mapGet none (stopSending p s).fab.tx p = none := by
  unfold stopSending
  generalize hu : setPort p { getPort p s with sends := false } { s with sch := { s.sch with preempt := mapSet 0 s.sch.preempt p 0 } } = u
  obtain ⟨-, -, -, hflushed, hflushPorts, -⟩ := agree_of_besideBolt (besideBolt_flushOnDown (loseTx p u) p)
  obtain ⟨-, -, -, hlost, hlosePorts, -⟩ := agree_of_besideBolt (besideBolt_loseTx u p)
  refine ⟨?_, ?_, ?_⟩
  · rw [hflushPorts, hlosePorts, ← hu]
    rfl
  · rw [hflushed, hlost, ← hu]
    rfl
  · rw [tx_eq_sending, sending_flushOnDown]
    exact loseTx_sending u p

theorem reportDown_frame (p : Nat) (s : State) :
    (reportDown p s).ports = (setPort p { getPort p s with up := false, downAt := s.cyc, training := if trains p (getPort p s).record then 2 else 0, fast := false } s).ports
      ∧ (.linkDown, p, []) ∈ (reportDown p s).raised := by
  unfold reportDown
  dsimp only
  refine ⟨?_, List.mem_append_right _ (List.mem_singleton_self _)⟩
  split
  · rename_i f _
    obtain ⟨-, -, -, -, hend, -⟩ := agree_of_besideBolt (besideBolt_endAtPort (setPort p { getPort p s with up := false, downAt := s.cyc, training := if trains p (getPort p s).record then 2 else 0, fast := false } s) p f.ident f.received .lost)
    exact hend
  · rfl

/-- A link that goes down (R237, R241). -/
theorem portDown_up {p : Nat} {s : State} (hup : (getPort p s).up = true) :
    (getPort p (portDown p s)).up = false ∧ (getPort p (portDown p s)).downAt = s.cyc ∧ (getPort p (portDown p s)).record = (getPort p s).record ∧ mapGet none (portDown p s).fab.tx p = none
      ∧ (.linkDown, p, []) ∈ (portDown p s).raised ∧ ∀ p', p' ≠ p → getPort p' (portDown p s) = getPort p' s := by
  obtain ⟨hports, hraised⟩ := reportDown_frame p s
  obtain ⟨hstopPorts, hstopRaised, htx⟩ := stopSending_frame p (reportDown p s)
  have hdown : portDown p s = stopSending p (reportDown p s) := if_pos hup
  have hself : getPort p (reportDown p s) = { getPort p s with up := false, downAt := s.cyc, training := if trains p (getPort p s).record then 2 else 0, fast := false } :=
    (getPort_of_ports hports).trans (getPort_setPort_same p _ s)
  rw [hdown, getPort_of_ports hstopPorts, getPort_setPort_same, hself, hstopRaised]
  refine ⟨rfl, rfl, rfl, htx, hraised, fun p' hp => ?_⟩
  rw [getPort_of_ports hstopPorts, getPort_setPort_other _ _ hp, getPort_of_ports hports, getPort_setPort_other _ _ hp]

/-! Links come up (R230, R233) -/

theorem recheckGcl_frame (p : Nat) (s : State) : (recheckGcl p s).ports = s.ports ∧ (recheckGcl p s).fab = s.fab := by
  unfold recheckGcl setInfeasible
  dsimp only
  split
  · split <;> exact ⟨rfl, rfl⟩
  · exact ⟨rfl, rfl⟩

theorem markOverrate_frame (p : Nat) (s : State) : (markOverrate p s).ports = s.ports ∧ (markOverrate p s).fab = s.fab := by
  have hkept : (fun u : State => (u.ports, u.fab)) (markOverrate p s) = (fun u : State => (u.ports, u.fab)) s := by
    refine forEach_keeps (p := fun u : State => (u.ports, u.fab)) (fun c t => ?_) (List.range 8) s
    unfold markQueue
    split <;> rfl
  exact Prod.mk.inj hkept

theorem portUp_frame (p mode role : Nat) (fast : Bool) (s : State) :
    ((getPort p (portUp p mode role fast s)).up = true ∧ (getPort p (portUp p mode role fast s)).mode = mode ∧ (getPort p (portUp p mode role fast s)).role = role ∧ (getPort p (portUp p mode role fast s)).fast = fast
      ∧ (getPort p (portUp p mode role fast s)).upAt = s.cyc ∧ (getPort p (portUp p mode role fast s)).heard = false)
      ∧ (.linkUp, p, [BitVec.ofNat 8 mode, BitVec.ofNat 8 role]) ∈ (portUp p mode role fast s).raised ∧ (portUp p mode role fast s).fab = s.fab
      ∧ ∀ p', p' ≠ p → getPort p' (portUp p mode role fast s) = getPort p' s := by
  unfold portUp
  dsimp only
  generalize hu : setPort p _ { s with draws := s.draws + 1, sch := { s.sch with preempt := if (getPort p s).sends then s.sch.preempt else mapSet 0 s.sch.preempt p 0 } } = u
  obtain ⟨hcheckPorts, hcheckFab⟩ := recheckGcl_frame p (markOverrate p u)
  obtain ⟨hmarkPorts, hmarkFab⟩ := markOverrate_frame p u
  have hport : ∀ p', getPort p' (raiseEv .linkUp p [BitVec.ofNat 8 mode, BitVec.ofNat 8 role] (recheckGcl p (markOverrate p u))) = getPort p' u := fun p' => getPort_of_ports (hcheckPorts.trans hmarkPorts)
  rw [hport p]
  refine ⟨?_, List.mem_append_right _ (List.mem_singleton_self _), ?_, fun p' hp => ?_⟩
  · rw [← hu, getPort_setPort_same]
    exact ⟨rfl, rfl, rfl, rfl, rfl, rfl⟩
  · exact hcheckFab.trans (hmarkFab.trans (by rw [← hu]; rfl))
  · rw [hport p', ← hu, getPort_setPort_other _ _ hp]
    rfl

/-- A link that its record does not allow stays down (R228). -/
theorem linkComesUp_not {p mode role : Nat} {fast : Bool} {s : State} (h : roleOf p (getPort p s).record role = none ∨ portRuns p s = false ∨ (getPort p s).up = true ∨ modeAllowed p (getPort p s).record mode = false) :
    linkComesUp p mode role fast s = s := by
  cases hro : roleOf p (getPort p s).record role with
  | none => simp only [linkComesUp, hro]
  | some ro =>
    simp only [linkComesUp, hro]
    rw [hro] at h
    exact if_pos (by simpa using h)

theorem linkComesUp_up {p mode role ro : Nat} {fast : Bool} {s : State} (hro : roleOf p (getPort p s).record role = some ro) (hrun : portRuns p s = true) (hup : (getPort p s).up = false) (hmode : modeAllowed p (getPort p s).record mode = true) :
    linkComesUp p mode role fast s =
      let stored := if fast = true ∧ (getPort p s).powerGood.isSome = true then (getPort p s).stored else none
      portUp p ((stored.map (·.mode)).getD mode) ((stored.map (·.role)).getD ro) stored.isSome s := by
  simp only [linkComesUp, hro]
  refine (if_neg (by simp [hrun, hup, hmode])).trans ?_
  cases (if fast = true ∧ (getPort p s).powerGood.isSome = true then (getPort p s).stored else none) <;> rfl

/-! Partners (R238-R240) -/

theorem chooseZone_none {p : Nat} {s : State} (h : (getPort p s).zones = none) : chooseZone p s = s := by
  unfold chooseZone
  rw [h]
  exact ite_self s

section
variable {p : Nat} {s : State} {q : PortSt} (hq : getPort p s = q)
include hq

theorem partnerLeaves_known {st : Nat} (hpartner : q.partner = 2) (hzones : q.zones = none) :
    partnerLeaves p st s = setPort p { q with partner := st, chassisType := 0, chassis := [], portType := 0, portId := [] } (raiseEv .partnerDepart p (partnerDetail st q) (bump .kprPartnerDepart p s)) := by
  subst hq
  have hdeparts : departs p st s = setPort p { getPort p s with partner := st, chassisType := 0, chassis := [], portType := 0, portId := [] } (raiseEv .partnerDepart p (partnerDetail st (getPort p s)) (bump .kprPartnerDepart p s)) := by
    simp only [departs, if_pos hpartner]
  rw [partnerLeaves, hdeparts, chooseZone_none (by rw [getPort_setPort_same]; exact hzones)]

theorem partnerLeaves_other {st : Nat} (hpartner : q.partner ≠ 2) (hzones : q.zones = none) :
    partnerLeaves p st s = setPort p { q with partner := st, chassisType := 0, chassis := [], portType := 0, portId := [] } s := by
  subst hq
  have hdeparts : departs p st s = setPort p { getPort p s with partner := st, chassisType := 0, chassis := [], portType := 0, portId := [] } s := by
    simp only [departs, if_neg hpartner]
  rw [partnerLeaves, hdeparts, chooseZone_none (by rw [getPort_setPort_same]; exact hzones)]

theorem fastFallback_none (hnone : q.powerGood = none) : fastFallback p s = s := by
  simp only [fastFallback, hq, hnone]

/-- No link 10 ms after power-good: the stored set is discarded (R233). -/
theorem fastFallback_due {t : Nat} (hgood : q.powerGood = some t) (hup : q.up = false) (hdue : t + 10 * msCyc ≤ s.cyc) :
    fastFallback p s = raiseEv .fastlinkFallback p [] (bump .pwrFastlinkFallback p (setPort p { q with powerGood := none, stored := none, training := if trains p q.record then 2 else 0 } s)) := by
  simp only [fastFallback, hq, hgood]
  exact if_neg (not_or.mpr ⟨fun h => Bool.false_ne_true (hup.symm.trans h), Nat.not_lt.mpr hdue⟩)

/-- An LLDPDU that a port reads (R238). -/
theorem lldpReceive_read {pdu : List Byte} {ct pt ttl : Nat} {ci pi : List Byte} (hup : q.up = true) (hen : q.record.getLsbD 17 = true) (hread : readLldp pdu = some (ct, ci, pt, pi, ttl)) :
    lldpReceive p pdu s =
      if ttl = 0 then (if q.partner = 1 then setPort p { q with heard := true, ttlEnds := s.cyc + ttl * 1000 * msCyc } s else partnerLeaves p 1 (setPort p { q with heard := true, ttlEnds := s.cyc + ttl * 1000 * msCyc } s))
      else if q.partner = 2 ∧ q.chassisType = ct ∧ q.chassis = ci ∧ q.portType = pt ∧ q.portId = pi then setPort p { q with heard := true, ttlEnds := s.cyc + ttl * 1000 * msCyc } s
      else partnerArrives p ct ci pt pi (setPort p { q with heard := true, ttlEnds := s.cyc + ttl * 1000 * msCyc } s) := by
  subst hq
  simp only [lldpReceive, hread]
  exact if_neg (by simp [hup, hen])

/-- A new partner of a port whose partner is not known, which has no stored set and no zones. -/
theorem partnerArrives_new {ct pt : Nat} {ci pi : List Byte} {q' : PortSt} (hpartner : q.partner ≠ 2) (hstored : q.stored = none) (hzones : q.zones = none)
    (hq' : q' = { q with partner := 2, chassisType := ct, chassis := ci, portType := pt, portId := pi }) :
    partnerArrives p ct ci pt pi s = raiseEv .partnerArrive p (partnerDetail 2 q') (bump .kprPartnerArrive p (setPort p q' s)) := by
  have hkept : { q with partner := 2, chassisType := ct, chassis := ci, portType := pt, portId := pi, stored := none } = q' := by rw [hq', ← hstored]
  have hknown : getPort p (raiseEv .partnerArrive p (partnerDetail 2 q') (bump .kprPartnerArrive p (setPort p q' s))) = q' := getPort_setPort_same p q' s
  simp only [partnerArrives, hq, if_neg hpartner, hstored, hkept]
  exact chooseZone_none (by rw [hknown, hq']; exact hzones)

end

/-- What the Keeper does at a time while it runs. -/
theorem completes_keeperAt {c : Instr} {act : State → State} {at_ : Nat} {s t : State} (hc : exec c s = keeperAt at_ act s) (hrun : keeperRuns (advanceTo at_ s) = true) (ht : act (advanceTo at_ s) = t) : Completes c s t :=
  completes_at hc ((if_pos ⟨hrun, awake_of_keeperRuns hrun⟩).trans ht)

/-- Settles O54: each event of the links and partners by its own law. -/
theorem portAndPartnerEventsRun : Obligations.PortAndPartnerEventsRun := by
  intro s port p q
  refine ⟨fun mode role fast hasleep => ?up, fun hup hsend => ?down, fun hup hen hp => ?lost, fun hrun hup => ?training, fun hrun hmech => ?rx, fun at_ => ?timers⟩
  case up =>
    have hcompletes : ∀ t, linkComesUp p mode.val role.val fast s = t → Completes (.linkUp port mode role fast) s t := fun t ht => congrArg ends ((if_neg (by rw [hasleep]; decide)).trans ht)
    refine ⟨fun hnot => hcompletes _ (linkComesUp_not hnot), ?up⟩
    intro ro hro hrun hup hmode stored m r
    obtain ⟨⟨hisUp, hmode', hrole, hfast, hat, hheard⟩, hraised, hfab, hothers⟩ := portUp_frame p m r stored.isSome s
    exact ⟨_, hcompletes _ (linkComesUp_up hro hrun hup hmode), hisUp, hmode', hrole, hfast, hat, hheard, hraised, hfab, hothers⟩
  case down =>
    have hact : linkGoesDown p s = s :=
      (if_neg fun h => Bool.false_ne_true (hup.symm.trans h.2)).trans ((if_neg fun h => Bool.false_ne_true (hup.symm.trans h)).trans (if_neg fun h => Bool.false_ne_true (hsend.symm.trans h)))
    exact congrArg ends hact
  case lost =>
    have hact : linkGoesDown p s = portDown p s := if_neg fun h => hp h.1
    exact ⟨_, congrArg ends hact, portDown_up hup⟩
  case training =>
    intro quick
    refine ⟨fun htrain hgood => congrArg ends (if_pos ⟨hrun, congrArg not hup, htrain, congrArg Option.isNone hgood⟩), fun hnot => congrArg ends (if_neg fun h => ?_), congrArg ends (if_pos ⟨hrun, congrArg not hup⟩)⟩
    obtain ⟨-, -, htrain, hgood⟩ := h
    rcases hnot with hoff | hsome
    · exact Bool.false_ne_true (hoff.symm.trans htrain)
    · rw [Option.isNone_iff_eq_none.mp hgood] at hsome
      exact Bool.false_ne_true hsome
  case rx =>
    have hcompletes : ∀ pdu t, lldpReceive p pdu s = t → Completes (.lldpRx port pdu) s t := fun pdu t ht =>
      congrArg ends ((if_neg (awake_of_keeperRuns hrun)).trans ((if_neg (awake_of_keeperRuns hrun)).trans ((if_pos ⟨hrun, hmech⟩).trans ht)))
    refine ⟨fun pdu hoff => hcompletes pdu _ (if_pos ?_), fun pdu hup hen hbad => hcompletes pdu _ ?_, fun pdu ct ci pt pi ttl hup hen hread => ?_⟩
    · exact hoff.imp (congrArg not) (congrArg not)
    · simp only [lldpReceive, hbad]
      exact if_neg (not_or.mpr ⟨fun h => Bool.false_ne_true ((congrArg not hup).symm.trans h), fun h => Bool.false_ne_true ((congrArg not hen).symm.trans h)⟩)
    · intro r known
      have hrx := lldpReceive_read rfl hup hen hread
      refine ⟨fun httl hpartner hct hci hpt hpi => hcompletes pdu _ (hrx.trans ((if_neg httl).trans (if_pos ⟨hpartner, hct, hci, hpt, hpi⟩))), fun httl hpartner => hcompletes pdu _ (hrx.trans ((if_pos httl).trans (if_pos hpartner))),
        fun httl hpartner hstored hzones => hcompletes pdu _ (hrx.trans ((if_neg httl).trans ((if_neg fun h => hpartner h.1).trans ?_)))⟩
      refine (partnerArrives_new (q' := known) (getPort_setPort_same p r s) hpartner hstored hzones rfl).trans ?_
      rw [setPort_setPort s (by exact hup) (by exact hup)]
  case timers =>
    intro u gone
    refine ⟨fun t hgood hup hdue => completes_at rfl ?_, fun hnone => completes_at rfl ?_, fun hrun => ⟨fun hnot => completes_keeperAt rfl hrun (if_pos ?_), fun hup hen hdue => completes_keeperAt rfl hrun (if_neg ?_), fun hwait => completes_keeperAt rfl hrun (if_neg ?_),
      fun hup hpartner hzones hdue => completes_keeperAt rfl hrun ?_, fun hheard => completes_keeperAt rfl hrun (if_neg ?_), fun hup hheard hpartner hzones hdue => completes_keeperAt rfl hrun ?_, fun hpartner => completes_keeperAt rfl hrun (if_neg ?_),
      fun hup hpartner hzones hen hdue => completes_keeperAt rfl hrun ?_⟩⟩
    · exact fastFallback_due (s := u) (q := q) rfl hgood hup hdue
    · exact fastFallback_none (s := u) (q := q) rfl hnone
    · exact hnot.imp (congrArg not) (Or.imp_left (congrArg not))
    · exact not_or.mpr ⟨fun h => Bool.false_ne_true ((congrArg not hup).symm.trans h), not_or.mpr ⟨fun h => Bool.false_ne_true ((congrArg not hen).symm.trans h), Nat.not_lt.mpr hdue⟩⟩
    · exact fun h => absurd h.2.2 (Nat.not_le.mpr hwait)
    · exact (if_pos ⟨hup, hpartner, hdue⟩).trans (partnerLeaves_known (s := u) (q := q) rfl hpartner hzones)
    · exact fun h => Bool.false_ne_true ((congrArg not hheard).symm.trans h.2.1)
    · exact (if_pos ⟨hup, congrArg not hheard, by show q.partner ≠ 1; rw [hpartner]; decide, hdue⟩).trans (partnerLeaves_other (s := u) (q := q) rfl (by rw [hpartner]; decide) hzones)
    · exact fun h => h.2.1 hpartner
    · exact (if_pos ⟨congrArg not hup, by show q.partner ≠ 0; rw [hpartner]; decide, hdue⟩).trans (partnerLeaves_other (s := u) (q := q) rfl (by rw [hpartner]; decide) hzones)

end Sys2Proof.Machine
end

section
/-! Proofs/KeysAndCipher: key fetches, nonces, the Bodkin's pipelines, requests of the Keeper and MKA, and the clauses about them (R266-R269, R279, R286-R302, R462). -/

namespace Sys2Proof.Machine
open Sys2Proof.Claims

/-! Key fetches (R266, R269) -/

section
variable {n : Nat} {g : Option Nat} {m : Master} {w : World} {k : KeyUse} {s : State}

theorem fetchKey_denied (hmay : mayUse n m w k s = false) : fetchKey n g m w k s = (.error .denied, bump .thmAccessDenied n s) := by
  simp only [fetchKey, checkUse, hmay, Bool.not_false, ↓reduceIte]

theorem fetchKey_stale (hmay : mayUse n m w k s = true) (hstale : isStale n g s = true) : fetchKey n g m w k s = (.error .keyStale, bump .thmKeyStale n s) := by
  simp only [fetchKey, checkUse, hmay, hstale, Bool.not_true, Bool.false_eq_true, ↓reduceIte]

/-- A key of a named generation that may be used and is not stale is delivered. -/
theorem fetchKey_fresh (hmay : mayUse n m w k s = true) (hfresh : isStale n g s = false) : fetchKey n g m w k s = (.ok (deliveredShares n s), masked n s) := by
  simp only [fetchKey, checkUse, hmay, hfresh, Bool.not_true, Bool.false_eq_true, ↓reduceIte]
  rfl

end

/-! Nonces (R279, R462) -/

theorem lcNonceExpire_of {s : State} {v : List Byte} {stop : Nat} (h : s.thm.lcNonce = some (v, stop)) :
    lcNonceExpire s = if stop ≤ s.cyc then { s with thm := { s.thm with lcNonce := none } } else s := by
  simp only [lcNonceExpire, h, ge_iff_le]

theorem debugNonceExpire_of {s : State} {v : List Byte} {stop : Nat} (h : s.thm.dbgNonce = some (v, stop)) :
    debugNonceExpire s = if stop ≤ s.cyc then { s with thm := { s.thm with dbgNonce := none } } else s := by
  simp only [debugNonceExpire, h, ge_iff_le]

/-! MACsec transmit (R296, R304) -/

/-- What a frame's protection leaves: the SA's next PN, the frame counted and at its pipeline's output. -/
theorem macsecTx_protects {c an : Nat} {it : BodItem} {r sa : BitVec 256} {u : State} (hr : (getCtx c u).record = r) (han : bits r 226 225 = an) (hsa : getSa (4 * c + an) u = sa)
    (huse : sa.getLsbD 255 = true) (hlive : sa.getLsbD 1 = false) (hlen : it.bytes.length + 32 ≤ 9216) (hpn : bits sa 71 8 < lastPn r) (hsoft : softReached r (bits sa 71 8) (lastPn r) = false)
    (hmay : mayUse (bits sa 254 249) .bodkin (ctxWorld r) .cipher u = true) (hfresh : isStale (bits sa 254 249) (some (bits sa 248 217)) u = false) :
    macsecTx c it u = toPipe it.lane { frame := it.frame, bytes := macsecProtect r sa an (bits sa 71 8) (macsecKey r sa an (slotValue (bits sa 254 249) u)) it.bytes }
      (bump (if r.getLsbD 230 then .bodTxEncrypted else .bodTxProtected) c (setSa (4 * c + an) (putField sa 71 8 (bits sa 71 8 + 1)) (masked (bits sa 254 249) u))) := by
  have hfits : ¬ it.bytes.length + (if r.getLsbD 229 then 32 else 24) > 9216 := by split <;> omega
  simp only [macsecTx, hr, han, hsa, huse, hlive, hsoft, if_neg hfits, if_neg (Nat.ne_of_lt hpn), fetchKey_fresh hmay hfresh, deliveredShares_key, Bool.not_true, Bool.false_and, Bool.false_eq_true, ↓reduceIte]

/-- A context without an SA in use drops its frame (R296). -/
theorem macsecTx_noSa {c : Nat} {it : BodItem} {u : State} (h : (getSa (4 * c + bits (getCtx c u).record 226 225) u).getLsbD 255 = false) : macsecTx c it u = bump .bodTxNoSa c u :=
  if_pos (congrArg not h)

section
variable {s : State} {it : BodItem} {rest : List BodItem} {j : CipherJob}

/-- A packet's context decides what becomes of it; in SERVICE, a MACsec transmit context protects (R286, R303). -/
theorem pipelineEnter_macsecTx (hitems : s.bod.items = it :: rest) (hjob : it.frame.verdict.job = some j) (hmode : s.bod.mode = .service)
    (htype : bits (getCtx j.ctx { s with bod := { s.bod with items := rest } }).record 255 254 = 1) (hdir : j.dir = false) (hek : it.frame.ek = .ethernet) :
    pipelineEnter s = macsecTx j.ctx it { s with bod := { s.bod with items := rest } } := by
  simp only [pipelineEnter, hitems, hjob]
  exact (if_neg (not_not_intro hmode)).trans ((if_neg (by rw [htype]; decide)).trans (if_pos ⟨htype, congrArg not hdir, hek⟩))

theorem pipelineEnter_outsideService (hitems : s.bod.items = it :: rest) (hjob : it.frame.verdict.job = some j) (hmode : s.bod.mode ≠ .service) :
    pipelineEnter s = bump .bodModeDrop 0 { s with bod := { s.bod with items := rest } } := by
  simp only [pipelineEnter, hitems, hjob]
  exact if_pos hmode

end

/-! Requests of the Keeper (R286, R302) -/

/-- A request of the Keeper that finds pipeline 0 with room is computed at once. -/
theorem keeperCrypto_computes {q : CryptoReq} {s : State} (hrun : domainRuns 7 s = true) (hnone : s.bod.asked = []) (hroom : inFlight 0 s < 64) : keeperCrypto q s = computeFor q s := by
  have hempty : ({ s with bod := { s.bod with asked := [] } } : State) = s := by rw [← hnone]
  have hserve : serveAsked { s with bod := { s.bod with asked := [q] } } = computeFor q { s with bod := { s.bod with asked := [] } } :=
    if_neg (not_or.mpr ⟨Nat.not_le.mpr hroom, fun h => Bool.false_ne_true ((congrArg not hrun).symm.trans h)⟩)
  simp only [keeperCrypto, hrun, hnone, List.nil_append, Bool.not_true, Bool.false_eq_true, ↓reduceIte, hserve, hempty]

/-- One that finds it full waits. -/
theorem keeperCrypto_waits {q : CryptoReq} {s : State} (hrun : domainRuns 7 s = true) (hnone : s.bod.asked = []) (hfull : 64 ≤ inFlight 0 s) :
    keeperCrypto q s = { s with bod := { s.bod with asked := [q] } } := by
  simp only [keeperCrypto, hrun, hnone, List.nil_append, Bool.not_true, Bool.false_eq_true, ↓reduceIte]
  exact if_pos (Or.inl hfull)

/-! MKA (R292, R295) -/

section
variable {cls opcode : Nat} {m : Msg} {c : Cmd} {s : State} (hc : cmdOf cls opcode = some c) (hlen : c.len (paramsOf m) = true) (hmode : allowed c (paramsOf m) s = true)
include hc hlen hmode

/-- A command that the Keeper gives itself has its opcode's effect; one that a pair outside a command's change carries out is not in its delta. -/
theorem keeperCommand_done (hok : (runCmd c m.via (paramsOf m) s).status = .ok) (hsingle : pairActive (runCmd c m.via (paramsOf m) s).st = false) :
    keeperCommand cls opcode m s = (true, (runCmd c m.via (paramsOf m) s).st) := by
  simp only [keeperCommand, hc, hlen, hmode, hok, hsingle, Bool.not_true, Bool.false_eq_true, or_self, ↓reduceIte]

theorem keeperCommand_failed (hbad : (runCmd c m.via (paramsOf m) s).status ≠ .ok) : keeperCommand cls opcode m s = (false, (runCmd c m.via (paramsOf m) s).st) := by
  simp only [keeperCommand, hc, hlen, hmode, if_neg hbad, Bool.not_true, Bool.false_eq_true, or_self, ↓reduceIte]

end

/-- Settles O55: each event of the keys and the Bodkin by its own law. -/
theorem keyAndCipherEventsRun : Obligations.KeyAndCipherEventsRun := by
  refine ⟨fun s slot gen m w use hmech => ?fetch, fun s hmech => congrArg ends (if_pos hmech), fun s at_ v stop => ?nonces, fun s hrun hcore => ?enter, fun s pipe hrun hcore => ?leave, fun s slot n msg hkeeper hrun hnone hmsg => ?request,
    fun s port hkeeper hmech => ?mka⟩
  case fetch =>
    have hcompletes : ∀ t, keyFetch slot.val gen.toNat m w use s = t → Completes (.keyFetch slot gen m w use) s t := fun t ht => congrArg ends ((if_pos hmech).trans ht)
    refine ⟨fun hmay => hcompletes _ ?_, fun hmay hstale => hcompletes _ ?_, fun hmay hfresh => hcompletes _ ?_⟩
    · rw [keyFetch, fetchKey_denied hmay]
    · rw [keyFetch, fetchKey_stale hmay hstale]
    · rw [keyFetch, fetchKey_fresh hmay hfresh]
      rfl
  case nonces =>
    intro u
    exact ⟨fun hnonce => ⟨fun hdue => completes_at rfl ((lcNonceExpire_of (s := u) hnonce).trans (if_pos hdue)), fun hearly => completes_at rfl ((lcNonceExpire_of (s := u) hnonce).trans (if_neg (Nat.not_le.mpr hearly)))⟩,
      fun hnonce => ⟨fun hdue => completes_at rfl ((debugNonceExpire_of (s := u) hnonce).trans (if_pos hdue)), fun hearly => completes_at rfl ((debugNonceExpire_of (s := u) hnonce).trans (if_neg (Nat.not_le.mpr hearly)))⟩⟩
  case enter =>
    have hcompletes : ∀ t, pipelineEnter s = t → Completes .bodkinPipelineEnter s t := fun t ht => congrArg ends ((if_pos hrun).trans ((if_pos hcore).trans ht))
    refine ⟨fun hempty => hcompletes _ (by simp only [pipelineEnter, hempty]), ?_⟩
    intro it rest j hitems hjob u r an i sa pn slot
    refine ⟨fun hmode => hcompletes _ (pipelineEnter_outsideService hitems hjob hmode), fun hmode htype hdir hek => ?_⟩
    have henter := pipelineEnter_macsecTx hitems hjob hmode htype hdir hek
    exact ⟨fun hunused => hcompletes _ (henter.trans (macsecTx_noSa hunused)),
      fun huse hlive hlen hpn hsoft hmay hfresh => hcompletes _ (henter.trans (macsecTx_protects rfl rfl rfl huse hlive hlen hpn hsoft hmay hfresh))⟩
  case leave =>
    have hcompletes : ∀ t, leavePipe pipe.val s = t → Completes (.bodkinPipelineExit pipe) s (serveAsked t) := fun t ht => congrArg ends ((if_pos hrun).trans ((if_pos hcore).trans (congrArg serveAsked ht)))
    refine ⟨fun hempty => hcompletes _ (by simp only [leavePipe, hempty]), ?_⟩
    intro o rest j hpipe hjob u
    refine ⟨fun hdir => hcompletes _ ?_, fun hdir => hcompletes _ ?_⟩
    · simp only [leavePipe, hpipe, hjob]
      exact if_pos (congrArg not hdir)
    · simp only [leavePipe, hpipe, hjob]
      exact if_neg (by rw [hdir]; decide)
  case request =>
    intro t answer
    have hcompletes : ∀ q t, keeperCrypto q s = t → Completes (.keeperCryptoRequest q) s t := fun q t ht => congrArg ends ((if_pos hkeeper).trans ht)
    refine ⟨fun q hfull => hcompletes q _ (keeperCrypto_waits hrun hnone hfull), fun hroom hkey hsize => hcompletes _ _ ?_, fun hroom hkey h4 h16 => hcompletes _ _ ?_⟩
    · rw [keeperCrypto_computes hrun hnone hroom]
      simp only [computeFor, hmacOp_done hmsg hsize hkey]
      rfl
    · rw [keeperCrypto_computes hrun hnone hroom]
      simp only [computeFor, cmacOp_done hkey h4 h16 hmsg]
      rfl
  case mka =>
    have hcompletes : ∀ sak ws t, mkaOutcome sak ws s = t → Completes (.mkaPduRx port sak ws) s t := fun sak ws t ht =>
      congrArg ends ((if_neg (awake_of_keeperRuns hkeeper)).trans ((if_neg (awake_of_keeperRuns hkeeper)).trans ((if_pos ⟨hkeeper, hmech⟩).trans ht)))
    refine ⟨hcompletes none [] _ rfl, fun w c hc hlen hmode hok hsingle => hcompletes none [w] _ ?_, fun k ws c hc hlen hmode hbad => hcompletes (some k) ws _ ?_⟩
    · exact congrArg Prod.snd (keeperCommand_done hc hlen hmode hok hsingle)
    · simp only [mkaOutcome, keeperCommand_failed hc hlen hmode hbad, Bool.false_eq_true, ↓reduceIte]

end Sys2Proof.Machine
end

section
/-! Proofs/SafetyMechanisms: what the mechanisms detect, what the Lamp room's reactions leave alone, the Keeper's resets and self-test, and the clauses about them (R417, R420-R430, R481). -/

namespace Sys2Proof.Machine
open Sys2Proof.Claims

/-! Gates closed (R417, R430) -/

@[simp] theorem besideBolt_unselect (p : Nat) (t : Tx) (s : State) : besideBolt (unselect p t s) = besideBolt s := by simp [unselect]

@[simp] theorem besideBolt_closeGatesAt (p : Nat) (s : State) : besideBolt (closeGatesAt p s) = besideBolt s := by
  unfold closeGatesAt
  extract_lets u
  have hu : besideBolt u = besideBolt s := by
    simp only [u]
    split <;> simp
  split
  · exact hu
  · split
    · simpa using hu
    · split
      · exact hu
      · simpa using hu

@[simp] theorem besideBolt_closeAllGates (s : State) : besideBolt (closeAllGates s) = besideBolt s := by
  refine forEach_keeps (fun p t => ?_) _ s
  split
  · exact besideBolt_closeGatesAt p t
  · rfl

theorem gateOut_of_closed {p : Nat} {s : State} (hp : p < 27) (h : (s.lamp.safe || s.lamp.tokenLost) = true) (hopen : s.lamp.safeOpen.getLsbD p = false) : gateOut p s = 0 := by
  have hcloses : lampCloses p s = true := by simp [lampCloses, h, hp, hopen]
  exact (if_neg (Nat.not_le.mpr hp)).trans (if_pos hcloses)

/-! What the Lamp room and the Keeper know; giving up control changes none of it -/

/-- Detections, the Lamp room, the Keeper and the boot, at their time. -/
def lampSide (s : State) : List (Nat × Nat) × Lamp × Keeper × Boot × Nat := (s.faults, s.lamp, s.kpr, s.boot, s.cyc)

theorem lampSide_of_besideTraffic {s t : State} (h : besideTraffic t = besideTraffic s) : lampSide t = lampSide s := (congrArg lampSide h :)

theorem lampSide_of_besideBolt {s t : State} (h : besideBolt t = besideBolt s) : lampSide t = lampSide s := (congrArg lampSide h :)

@[simp] theorem lampSide_bump (c : Ctr) (i : Nat) (s : State) : lampSide (bump c i s) = lampSide s := (rfl)
@[simp] theorem lampSide_raiseEv (e : Ev) (i : Nat) (d : List Byte) (s : State) : lampSide (raiseEv e i d s) = lampSide s := (rfl)
@[simp] theorem lampSide_sideCause (v : Nat) (s : State) : lampSide (sideCause v s) = lampSide s := (rfl)
@[simp] theorem lampSide_closeAllGates (s : State) : lampSide (closeAllGates s) = lampSide s := lampSide_of_besideBolt (besideBolt_closeAllGates s)

@[simp] theorem lampSide_enterTwin (m : TwinMode) (s : State) : lampSide (enterTwin m s) = lampSide s := (congrArg lampSide (besideTraffic_enterTwin m s) :)

theorem lampSide_noteRelinquish (s : State) : lampSide (noteRelinquish s) = lampSide s := by
  simp only [noteRelinquish]
  split
  · rfl
  · rfl

@[simp] theorem lampSide_relinquishSelf (s : State) : lampSide (relinquishSelf s) = lampSide s := by
  unfold relinquishSelf
  split
  · rfl
  split
  · rfl
  · rfl
  split
  · rfl
  have hleft : lampSide (emit (.pin .twinHbOut false) (setTwin { (enterTwin .relinquished s).twin with hbOut := false, granting := none } (enterTwin .relinquished s))) = lampSide s := lampSide_enterTwin .relinquished s
  split
  · exact hleft
  refine Eq.trans (congrArg lampSide (besideTraffic_abortQueued _) :) ?_
  have hsent : ∀ (c : Prop) [Decidable c] (t : State), lampSide (if c then sendTwin 7 0 [] t else t) = lampSide t := fun c _ t => by
    split
    · exact (congrArg lampSide (besideTraffic_sendTwin 7 0 [] t) :)
    · rfl
  refine (hsent _ _).trans ((lampSide_noteRelinquish _).trans ?_)
  exact hleft

/-- The Lamp room as the safe state's entry leaves it. -/
theorem enterSafe_lamp (s : State) : ∃ l : Lamp, lampSide (enterSafe s) = (s.faults, l, s.kpr, s.boot, s.cyc) ∧ l.safe = true ∧ l.lastS = s.lamp.lastS ∧ l.safeOpen = s.lamp.safeOpen ∧ l.codes = s.lamp.codes
    ∧ (s.lamp.safe = false → l.faultN = true) := by
  by_cases hsafe : s.lamp.safe = true
  · exact ⟨s.lamp, congrArg lampSide (if_pos hsafe), hsafe, rfl, rfl, rfl, fun h => absurd (hsafe.symm.trans h) (by decide)⟩
  · have hside : lampSide (enterSafe s) = lampSide (driveFault true (setLamp { s.lamp with safe := true } s)) := by
      rw [enterSafe, if_neg hsafe]
      simp only [lampSide_relinquishSelf, lampSide_raiseEv, lampSide_sideCause, lampSide_closeAllGates, lampSide_bump]
    by_cases hdriven : s.lamp.faultN = true
    · exact ⟨{ s.lamp with safe := true }, hside.trans (congrArg lampSide (if_pos hdriven)), rfl, rfl, rfl, rfl, fun _ => hdriven⟩
    · exact ⟨{ s.lamp with safe := true, faultN := true }, hside.trans (congrArg lampSide (if_neg hdriven)), rfl, rfl, rfl, rfl, fun _ => rfl⟩

/-! Codes (R421) -/

theorem latchCode_side (c : BitVec 16) (s : State) : ∃ l : Lamp, lampSide (latchCode c s) = (s.faults, l, s.kpr, s.boot, s.cyc) ∧ l.safe = s.lamp.safe ∧ l.lastS = s.lamp.lastS ∧ l.safeOpen = s.lamp.safeOpen ∧ l.faultN = s.lamp.faultN
    ∧ (∀ d ∈ s.lamp.codes, d ∈ l.codes) ∧ (s.lamp.codes.length < 8 → c ∈ l.codes) := by
  unfold latchCode
  dsimp only
  split
  next hknown => exact ⟨s.lamp, rfl, rfl, rfl, rfl, rfl, fun _ h => h, fun _ => List.contains_iff_mem.mp hknown⟩
  split
  next hfull => exact ⟨s.lamp, rfl, rfl, rfl, rfl, rfl, fun _ h => h, fun h => absurd h (Nat.not_lt.mpr hfull)⟩
  · exact ⟨_, rfl, rfl, rfl, rfl, rfl, fun _ h => List.mem_append_left _ h, fun _ => List.mem_append_right _ (List.mem_singleton_self c)⟩

/-! A detection that is more than a report (R417, R420) -/

/-- The state with such a detection counted, its event raised and its code latched. -/
def noted (f : Nat × Nat) (s : State) : State :=
  raiseEv .safetyReport f.2 [BitVec.ofNat 8 f.1, if s.lamp.injected then 1 else 0]
    (latchCode (BitVec.ofNat 16 (f.1 * 256 + f.2)) (setLamp { s.lamp with lastS := some s.cyc } (bump .lampDetect f.1 s)))

/-- The state with its codes latched: a fault of the monitor oscillator is one of the reference too. -/
def latched (f : Nat × Nat) (s : State) : State := if f.1 = 7 ∧ f.2 = 2 then latchCode 0x0700 (noted f s) else noted f s

/-- The state in the safe state, before a reset of the Keeper. -/
def underSafe (f : Nat × Nat) (s : State) : State :=
  if s.boot.booted || s.kpr.up then enterSafe (latched f s) else setLamp { (latched f s).lamp with safe := true } (latched f s)

theorem reactTo_eq {f : Nat × Nat} {s : State} (h : reactionOf f.1 ≠ .report) : reactTo f s = if reactionOf f.1 = .safeKeeper then faultKeeper (underSafe f s) else underSafe f s := if_neg h

theorem lampSide_eq {s : State} {fs : List (Nat × Nat)} {l : Lamp} {k : Keeper} {b : Boot} {n : Nat} (h : lampSide s = (fs, l, k, b, n)) : s.faults = fs ∧ s.lamp = l ∧ s.kpr = k ∧ s.boot = b ∧ s.cyc = n := by
  simpa [lampSide] using h

theorem latched_side (f : Nat × Nat) (s : State) : ∃ l : Lamp, lampSide (latched f s) = (s.faults, l, s.kpr, s.boot, s.cyc) ∧ l.safe = s.lamp.safe ∧ l.lastS = some s.cyc ∧ l.safeOpen = s.lamp.safeOpen
    ∧ (s.lamp.codes.length < 8 → BitVec.ofNat 16 (f.1 * 256 + f.2) ∈ l.codes) := by
  obtain ⟨l, hside, hsafe, hlast, hopen, -, -, hcode⟩ := latchCode_side (BitVec.ofNat 16 (f.1 * 256 + f.2)) (setLamp { s.lamp with lastS := some s.cyc } (bump .lampDetect f.1 s))
  have hnoted : lampSide (noted f s) = (s.faults, l, s.kpr, s.boot, s.cyc) := hside
  by_cases hboth : f.1 = 7 ∧ f.2 = 2
  · obtain ⟨l', hside', hsafe', hlast', hopen', -, hkept, -⟩ := latchCode_side 0x0700 (noted f s)
    obtain ⟨hfaults, hlamp, hkpr, hboot, hcyc⟩ := lampSide_eq hnoted
    rw [hfaults, hkpr, hboot, hcyc] at hside'
    rw [hlamp] at hsafe' hlast' hopen' hkept
    exact ⟨l', (congrArg lampSide (if_pos hboth)).trans hside', hsafe'.trans hsafe, hlast'.trans hlast, hopen'.trans hopen, fun hroom => hkept _ (hcode hroom)⟩
  · exact ⟨l, (congrArg lampSide (if_neg hboth)).trans hnoted, hsafe, hlast, hopen, hcode⟩

theorem underSafe_side (f : Nat × Nat) (s : State) : ∃ l : Lamp, lampSide (underSafe f s) = (s.faults, l, s.kpr, s.boot, s.cyc) ∧ l.safe = true ∧ l.lastS = some s.cyc ∧ l.safeOpen = s.lamp.safeOpen
    ∧ (s.lamp.codes.length < 8 → BitVec.ofNat 16 (f.1 * 256 + f.2) ∈ l.codes) ∧ (s.lamp.safe = false → s.boot.booted = true ∨ s.kpr.up = true → l.faultN = true) := by
  obtain ⟨l, hside, hsafe, hlast, hopen, hcode⟩ := latched_side f s
  obtain ⟨hfaults, hlamp, hkpr, hboot, hcyc⟩ := lampSide_eq hside
  by_cases hrunning : (s.boot.booted || s.kpr.up) = true
  · obtain ⟨l', hside', hsafe', hlast', hopen', hcodes', hdriven⟩ := enterSafe_lamp (latched f s)
    rw [hfaults, hkpr, hboot, hcyc] at hside'
    rw [hlamp] at hlast' hopen' hcodes' hdriven
    exact ⟨l', (congrArg lampSide (if_pos hrunning)).trans hside', hsafe', hlast'.trans hlast, hopen'.trans hopen, fun hroom => hcodes' ▸ hcode hroom, fun hnot _ => hdriven (hsafe.trans hnot)⟩
  · refine ⟨{ l with safe := true }, (congrArg lampSide (if_neg hrunning)).trans ?_, rfl, hlast, hopen, hcode, fun _ hor => absurd (by simpa using hor) hrunning⟩
    simp only [lampSide, setLamp, hfaults, hlamp, hkpr, hboot, hcyc]

/-! Resets of the Keeper (R428, R441, R475) -/

/-- The end of an open debug state is its own: what it raises and the debug state itself. -/
theorem closeDebug_frame (s : State) : { closeDebug s with dbg := s.dbg, raised := s.raised } = s := by
  unfold closeDebug
  generalize (if lcState s = 0 then DbgState.opened else .closed) = goal
  dsimp only
  split
  · rfl
  · split
    · rfl
    · rfl

theorem lampSide_closeDebug (s : State) : lampSide (closeDebug s) = lampSide s := (congrArg lampSide (closeDebug_frame s) :)

/-- The Keeper that a reset leaves. -/
def heldKeeper (k : Keeper) : Keeper := { restartAt := k.restartAt, recovery := k.recovery }

theorem resetPair_side (source : Nat) (s : State) : lampSide (resetPair source s) = (s.faults, s.lamp, heldKeeper s.kpr, { s.boot with count := s.boot.count + 1, last := source }, s.cyc) := by
  have hboot : (closeDebug (resetMailbox (resetYelom s))).boot = s.boot := (congrArg (fun x => x.2.2.2.1) (lampSide_closeDebug (resetMailbox (resetYelom s))) :)
  have hlamp : (closeDebug (resetMailbox (resetYelom s))).lamp = s.lamp := (congrArg (fun x => x.2.1) (lampSide_closeDebug (resetMailbox (resetYelom s))) :)
  have hfaults : (closeDebug (resetMailbox (resetYelom s))).faults = s.faults := (congrArg (fun x => x.1) (lampSide_closeDebug (resetMailbox (resetYelom s))) :)
  have hcyc : (closeDebug (resetMailbox (resetYelom s))).cyc = s.cyc := (congrArg (fun x => x.2.2.2.2) (lampSide_closeDebug (resetMailbox (resetYelom s))) :)
  simp only [lampSide, resetPair, setKpr, hboot, hlamp, hfaults, hcyc, heldKeeper]

theorem resetPair_queue (source : Nat) (s : State) : (resetPair source s).yel.waiting = none ∧ (resetPair source s).yel.queue = [] := by
  have hyel : ∀ t, (closeDebug t).yel = t.yel := fun t => (congrArg State.yel (closeDebug_frame t) :)
  simp only [resetPair, setKpr, hyel]
  exact ⟨rfl, rfl⟩

/-- The twin pair as a Keeper reset leaves it, before the Keeper itself. -/
theorem resetKeeper_pair (source : Nat) (s : State) : ∃ t, resetKeeper source s = resetPair source t ∧ lampSide t = lampSide s := by
  refine ⟨_, rfl, ?_⟩
  dsimp only
  split
  · exact lampSide_enterTwin .wait s
  · rfl

theorem resetKeeper_side (source : Nat) (s : State) : lampSide (resetKeeper source s) = (s.faults, s.lamp, heldKeeper s.kpr, { s.boot with count := s.boot.count + 1, last := source }, s.cyc)
    ∧ (resetKeeper source s).yel.waiting = none ∧ (resetKeeper source s).yel.queue = [] := by
  obtain ⟨t, hreset, hside⟩ := resetKeeper_pair source s
  obtain ⟨hfaults, hlamp, hkpr, hboot, hcyc⟩ := lampSide_eq hside
  rw [hreset, resetPair_side, hfaults, hlamp, hkpr, hboot, hcyc]
  exact ⟨rfl, resetPair_queue source t⟩

theorem faultKeeper_frame (s : State) : (faultKeeper s).faults = s.faults ∧ (faultKeeper s).lamp = s.lamp := by
  unfold faultKeeper
  split
  · exact ⟨rfl, rfl⟩
  obtain ⟨hside, -⟩ := resetKeeper_side 4 s
  have hfaults : (resetKeeper 4 s).faults = s.faults := (congrArg (fun x => x.1) hside :)
  have hlamp : (resetKeeper 4 s).lamp = s.lamp := (congrArg (fun x => x.2.1) hside :)
  extract_lets again s1
  split
  · exact ⟨hfaults, hlamp⟩
  · exact ⟨hfaults, hlamp⟩

/-- A fault of the Keeper pair resets it; the second within a second of its restart halts it (R428). -/
theorem faultKeeper_resets {s : State} (h : s.kpr.halted = false) : (faultKeeper s).kpr.up = false ∧ (faultKeeper s).boot.last = 4 ∧ (faultKeeper s).boot.count = s.boot.count + 1
    ∧ (faultKeeper s).yel.waiting = none ∧ (faultKeeper s).yel.queue = [] ∧ ∀ r, s.kpr.restartAt = some r → s.cyc < r + 1000 * msCyc → (faultKeeper s).kpr.halted = true := by
  obtain ⟨hside, hwaiting, hqueue⟩ := resetKeeper_side 4 s
  have hkpr : (resetKeeper 4 s).kpr = heldKeeper s.kpr := (congrArg (fun x => x.2.2.1) hside :)
  have hboot : (resetKeeper 4 s).boot = { s.boot with count := s.boot.count + 1, last := 4 } := (congrArg (fun x => x.2.2.2.1) hside :)
  have hnot : ¬ s.kpr.halted = true := by rw [h]; decide
  unfold faultKeeper
  rw [if_neg hnot]
  extract_lets again s1
  by_cases hagain : again = true
  · rw [if_pos hagain]
    exact ⟨(congrArg Keeper.up hkpr :), (congrArg Boot.last hboot :), (congrArg Boot.count hboot :), hwaiting, hqueue, fun _ _ _ => rfl⟩
  · rw [if_neg hagain]
    refine ⟨(congrArg Keeper.up hkpr :), (congrArg Boot.last hboot :), (congrArg Boot.count hboot :), hwaiting, hqueue, fun r hr hsoon => absurd ?_ hagain⟩
    simp only [again, hr]
    exact decide_eq_true hsoon

/-! Detections (R417, R420-R430) -/

section
variable {s : State}

theorem blockFault_on {k i : Nat} (h : mechanismsOn s = true) : blockFault k i s = detectFault k i s := if_pos h

theorem blockFault_off {k i : Nat} (h : ¬ mechanismsOn s = true) : blockFault k i s = s := if_neg h

theorem keeperFault_up {k : Nat} (hup : s.kpr.up = true) (h : mechanismsOn s = true) : keeperFault k s = detectFault k 0 s := if_pos (by rw [hup, h]; rfl)

theorem keeperFault_down {k : Nat} (h : s.kpr.up = false ∨ ¬ mechanismsOn s = true) : keeperFault k s = s := by
  refine if_neg fun hboth => ?_
  obtain ⟨hup, hon⟩ := Bool.and_eq_true_iff.mp hboth
  exact h.elim (fun hdown => Bool.false_ne_true (hdown.symm.trans hup)) fun hoff => hoff hon

/-- When the watchdog's period has ended (R429). -/
def periodOver (s : State) : Prop :=
  match s.yel.pauseUntil with
  | some t => t + msCyc ≤ s.cyc
  | none => s.kpr.wdFrom + msCyc ≤ s.cyc

theorem watchdogExpire_over (hactive : s.kpr.wdActive = true) (hawake : s.pwr.state ≠ .doze) (hover : periodOver s) : watchdogExpire s = keeperFault 6 s := by
  refine if_pos ⟨hactive, hawake, ?_⟩
  unfold periodOver at hover
  split at hover
  next t hpause => simpa only [hpause] using decide_eq_true hover
  next hpause => simpa only [hpause] using decide_eq_true hover

theorem watchdogExpire_running (h : s.kpr.wdActive = false ∨ s.pwr.state = .doze ∨ ¬ periodOver s) : watchdogExpire s = s := by
  refine if_neg fun ⟨hactive, hawake, hover⟩ => ?_
  rcases h with hoff | hdoze | hrunning
  · exact Bool.false_ne_true (hoff.symm.trans hactive)
  · exact hawake hdoze
  · refine hrunning ?_
    unfold periodOver
    split at hover
    next t hpause => simpa only [hpause] using of_decide_eq_true hover
    next hpause => simpa only [hpause] using of_decide_eq_true hover

/-- A plane's service of the watchdog: with the other's it restarts the period. -/
theorem watchdogService_both {m : Bool} (hrun : keeperRuns s = true) (hother : (if m then s.kpr.ctrlBit else s.kpr.mgmtBit) = true) :
    watchdogService m s = setKpr { s.kpr with mgmtBit := false, ctrlBit := false, wdFrom := s.cyc } s := by
  cases m <;> simp_all [watchdogService]

theorem watchdogService_one {m : Bool} (hrun : keeperRuns s = true) (hother : (if m then s.kpr.ctrlBit else s.kpr.mgmtBit) = false) :
    watchdogService m s = setKpr { s.kpr with mgmtBit := m, ctrlBit := !m } s := by
  cases m <;> simp_all [watchdogService]

end

/-- A detection alone is answered by its reaction. -/
theorem reactFaults_one {s : State} {f : Nat × Nat} (h : s.faults = [f]) :
    reactFaults s = setLamp { (reactTo f { s with faults := [] }).lamp with injected := false } (reactTo f { s with faults := [] }) := by
  simp only [reactFaults, reactAll, h]
  rfl

/-! The self-test (R428, R480, R481) -/

theorem keeperTested_not {b : Bool} {s : State} (h : s.kpr.up = true ∨ s.kpr.halted = true ∨ s.boot.booted = false) : keeperTested b s = s := by
  have hnot : s.kpr.up = true ∨ s.kpr.halted = true ∨ (!s.boot.booted) = true := h.imp_right (Or.imp_right (congrArg not))
  exact (if_pos (hnot.imp_right (Or.imp_right Or.inl))).trans (if_pos hnot)

section
variable {s : State} (hdown : s.kpr.up = false) (halive : s.kpr.halted = false) (hbooted : s.boot.booted = true)
include hdown halive hbooted

theorem keeperTested_failed : keeperTested false s = setKpr { s.kpr with halted := true } s := by
  simp [keeperTested, selfTest, hdown, halive, hbooted]

theorem keeperTested_recovery (hnone : bootBank s = none) : keeperTested true s = enterRecovery s := by
  simp [keeperTested, hdown, halive, hbooted, hnone]

theorem keeperTested_bank {b : Nat} (hbank : bootBank s = some b) :
    keeperTested true s = setTwin { (selfTest true (takeBank b s)).twin with since := (selfTest true (takeBank b s)).cyc } (selfTest true (takeBank b s)) := by
  simp [keeperTested, hdown, halive, hbooted, hbank]

end

/-- What the boot ROM's choice of a bank leaves alone, and what it records of a fallback. -/
theorem takeBank_frame (b : Nat) (s : State) : (takeBank b s).kpr = s.kpr ∧ (takeBank b s).boot.booted = s.boot.booted ∧ (takeBank b s).boot.last = s.boot.last ∧ (takeBank b s).boot.bank = b ∧ (takeBank b s).cyc = s.cyc
    ∧ (takeBank b s).lamp = s.lamp ∧ (takeBank b s).fab = s.fab ∧ (b ≠ s.boot.preferred → (takeBank b s).boot.preferred = b ∧ (.bootFallback, 0, []) ∈ (takeBank b s).raised) := by
  unfold takeBank
  split
  next heq => exact ⟨rfl, rfl, rfl, rfl, rfl, rfl, rfl, fun h => absurd heq h⟩
  · exact ⟨rfl, rfl, rfl, rfl, rfl, rfl, rfl, fun _ => ⟨rfl, List.mem_append_right _ (List.mem_singleton_self _)⟩⟩

/-- The Keeper as its passed test starts it. -/
def startedKeeper (s : State) : Keeper := { s.kpr with up := true, testPassed := true, wdActive := true, wdFrom := s.cyc, restartAt := if s.boot.last = 4 then some s.cyc else s.kpr.restartAt }

theorem selfTest_eq {s : State} (hdown : s.kpr.up = false) (halive : s.kpr.halted = false) (hbooted : s.boot.booted = true) :
    selfTest true s = raiseEv .keeperRestart 0 [] (setLamp { s.lamp with restarted := !s.lamp.codes.isEmpty } (setKpr (startedKeeper s) s)) := by
  have hnot : ¬ (s.kpr.up = true ∨ s.kpr.halted = true ∨ (!s.boot.booted) = true) := by simp [hdown, halive, hbooted]
  exact (if_neg hnot).trans (if_neg (by decide))

/-- What the passed test of a Keeper held in reset leaves (R419, R421, R428). -/
theorem selfTest_pass {s : State} (hdown : s.kpr.up = false) (halive : s.kpr.halted = false) (hbooted : s.boot.booted = true) :
    (selfTest true s).boot = s.boot ∧ (selfTest true s).kpr.up = true ∧ (selfTest true s).kpr.testPassed = true ∧ (selfTest true s).kpr.wdActive = true ∧ (selfTest true s).kpr.wdFrom = s.cyc
    ∧ (s.boot.last = 4 → (selfTest true s).kpr.restartAt = some s.cyc) ∧ (selfTest true s).lamp.restarted = !s.lamp.codes.isEmpty ∧ (selfTest true s).raised = s.raised ++ [(.keeperRestart, 0, [])] ∧ (selfTest true s).fab = s.fab := by
  rw [selfTest_eq hdown halive hbooted]
  exact ⟨rfl, rfl, rfl, rfl, rfl, fun hlast => if_pos hlast, rfl, rfl, rfl⟩

theorem enterRecovery_frame (s : State) : (enterRecovery s).boot.bank = 255 ∧ (enterRecovery s).kpr.up = true ∧ (enterRecovery s).kpr.recovery = true ∧ (enterRecovery s).bod.mode = .recovery ∧ (enterRecovery s).kpr.wdActive = true := by
  unfold enterRecovery
  extract_lets s1 s2 recs slot s3 s4
  split
  · exact ⟨rfl, rfl, rfl, rfl, rfl⟩
  · exact ⟨rfl, rfl, rfl, rfl, rfl⟩

/-- The scrubber's pass over the TCM (R420, R422). -/
theorem scrub_on {a b : Ecc} {s : State} (hon : mechanismsOn s = true) :
    let p := s.lamp.planted
    let v := if p = 0 then s else setLamp { s.lamp with planted := 0, injected := true } s
    let x := if p.getLsbD 0 = true ∨ a = .uncorrectable then detectFault 5 0 v
      else if a = .corrected then raiseEv .safetyReport 0 [5, if v.lamp.injected then 1 else 0] (bump .lampDetect 5 (bump .lampEccCorr 0 v)) else v
    scrub a b s = if p.getLsbD 1 = true ∨ b = .uncorrectable then detectFault 0x0C 0 x else if b = .corrected then bump .lampEccCorr 1 x else x := by
  intro p v x
  have hv : mechanismsOn v = true := by
    simp only [v]
    split
    · exact hon
    · exact hon
  have hx : (if p.getLsbD 0 then detectFault 5 0 v else match a with
      | .clean => v
      | .corrected => tcmEcc false v
      | .uncorrectable => detectFault 5 0 v) = x := by
    cases a <;> by_cases hplanted : p.getLsbD 0 = true <;> simp [x, hplanted, tcmEcc, hv, reportFault]
  have hb : scrub a b s = if p.getLsbD 1 then detectFault 12 0 x else match b with
      | .clean => x
      | .corrected => bump .lampEccCorr 1 x
      | .uncorrectable => detectFault 12 0 x := by
    rw [← hx]
    exact if_neg (by rw [hon]; decide)
  rw [hb]
  cases b <;> by_cases hplanted : p.getLsbD 1 = true <;> simp [hplanted]

/-- Settles O58: each mechanism and each reaction by its own law. -/
theorem safetyMechanismsRun : Obligations.SafetyMechanismsRun := by
  refine ⟨fun s => ?now, fun s at_ => ?timed, fun s k i hone => ?react⟩
  case now =>
    intro on pair block report
    have hkeeper : ∀ {c : Instr} {k : Nat}, exec c s = ends (keeperFault k s) → pair c k := fun hc =>
      ⟨fun hup hon => hc.trans (congrArg ends (keeperFault_up hup hon)), fun hdown => hc.trans (congrArg ends (keeperFault_down hdown))⟩
    have hblock : ∀ {c : Instr} {k i : Nat}, exec c s = ends (blockFault k i s) → block c k i := fun hc => ⟨fun hon => hc.trans (congrArg ends (blockFault_on hon)), fun hoff => hc.trans (congrArg ends (blockFault_off hoff))⟩
    refine ⟨hkeeper rfl, hkeeper rfl, hkeeper rfl, hkeeper rfl, hblock rfl, hblock rfl, hblock rfl, fun dom => ⟨fun hpowered => hblock (congrArg ends (if_pos hpowered)), fun hunpowered => congrArg ends (if_neg (by rw [hunpowered]; decide))⟩,
      fun hawake => ⟨hblock (congrArg ends (if_neg hawake)), fun p => hblock (congrArg ends (if_neg hawake))⟩, fun hdoze => ⟨congrArg ends (if_pos hdoze), fun p => congrArg ends (if_pos hdoze)⟩, fun hon => ⟨congrArg ends ?_, congrArg ends ?_⟩,
      fun hoff d => congrArg ends (if_pos (by simpa [on] using hoff)), fun i c => ?warm, fun m => ⟨fun hdown => congrArg ends (if_pos (by rw [hdown]; rfl)), fun hrun => ⟨fun hboth => congrArg ends (watchdogService_both hrun hboth), fun hone => congrArg ends (watchdogService_one hrun hone)⟩⟩,
      fun hnot => congrArg ends (if_pos (hnot.imp_left (by simp [on]))), fun hon hawake => ?token, fun hnot b => congrArg ends (keeperTested_not hnot), fun hdown halive hbooted => ?selftest⟩
    · exact (if_neg (by rw [hon]; decide)).trans (if_pos rfl)
    · exact (if_neg (by rw [hon]; decide)).trans (if_neg (by decide))
    case warm =>
      intro warm
      have htemp : temperature i.val c s = if !(mechanismsOn s) then warm else if c ≥ 130 then detectFault 9 i.val warm else if c ≥ 125 then report 9 i.val warm else warm := rfl
      refine ⟨fun hcool => congrArg ends (htemp.trans ?_), fun hon h125 h130 => congrArg ends (htemp.trans ?_), fun hon h130 => congrArg ends (htemp.trans ?_)⟩
      · split
        · rfl
        next hon =>
          have hlow : c < 125 := hcool.resolve_left fun hoff => hon (by simpa [on] using hoff)
          exact (if_neg (by omega)).trans (if_neg (by omega))
      · exact (if_neg (by rw [hon]; decide)).trans ((if_neg (by omega)).trans (if_pos h125))
      · exact (if_neg (by rw [hon]; decide)).trans (if_pos h130)
    case token =>
      have hact : tokenTimeout s = closeAllGates (setLamp { s.lamp with tokenLost := true } s) := if_neg (not_or.mpr ⟨by rw [hon]; decide, hawake⟩)
      obtain ⟨-, hlamp, -⟩ := lampSide_eq (lampSide_closeAllGates (setLamp { s.lamp with tokenLost := true } s))
      refine ⟨_, congrArg ends hact, hlamp, fun p hp hopen => gateOut_of_closed hp ?_ ?_⟩
      · rw [hlamp]; exact Bool.or_true _
      · rw [hlamp]; exact hopen
    case selftest =>
      refine ⟨congrArg ends (keeperTested_failed hdown halive hbooted), fun hnone => ?_, fun b hbank => ?_⟩
      · obtain ⟨hbank, hup, hrecovery, hmode, -⟩ := enterRecovery_frame s
        exact ⟨_, congrArg ends (keeperTested_recovery hdown halive hbooted hnone), hbank, hup, hrecovery, hmode⟩
      · refine ⟨_, congrArg ends (keeperTested_bank hdown halive hbooted hbank), ?_⟩
        obtain ⟨hkpr, hbooted', hlast, hbank', hcyc, hlamp, hfab, hfallback⟩ := takeBank_frame b s
        obtain ⟨hboot, hup, hpassed, hwatched, hfrom, hrestart, hrestarted, hraised, hfab'⟩ := selfTest_pass (s := takeBank b s) (hkpr ▸ hdown) (hkpr ▸ halive) (hbooted'.trans hbooted)
        refine ⟨(congrArg Boot.bank hboot).trans hbank', hup, hpassed, hwatched, hfrom.trans hcyc, fun hfour => (hrestart (hlast.trans hfour)).trans (congrArg some hcyc), hrestarted.trans (by rw [hlamp]), ?_, hfab'.trans hfab, fun hother => ?_⟩
        · exact hraised ▸ List.mem_append_right _ (List.mem_singleton_self _)
        · obtain ⟨hpreferred, hevent⟩ := hfallback hother
          exact ⟨(congrArg Boot.preferred hboot).trans hpreferred, hraised ▸ List.mem_append_left _ hevent⟩
  case timed =>
    intro u on due
    refine ⟨fun hon => completes_at rfl (blockFault_on hon), fun hoff => ⟨completes_at rfl (blockFault_off hoff), fun a b => completes_at rfl (if_pos (by simpa [on] using hoff))⟩,
      fun hactive hawake hdue hup hon => completes_at rfl ((watchdogExpire_over (s := u) hactive hawake hdue).trans (keeperFault_up hup hon)), fun hnot => ?_, fun hon a b => completes_at rfl (scrub_on hon)⟩
    by_cases hover : u.kpr.wdActive = true ∧ u.pwr.state ≠ .doze ∧ periodOver u
    · obtain ⟨hactive, hawake, hover⟩ := hover
      have hdown : u.kpr.up = false ∨ ¬ mechanismsOn u = true := (((hnot.resolve_left (by rw [hactive]; decide)).resolve_left hawake).resolve_left fun h => h hover)
      exact completes_at rfl ((watchdogExpire_over (s := u) hactive hawake hover).trans (keeperFault_down hdown))
    · refine completes_at rfl (watchdogExpire_running (s := u) ?_)
      by_cases hactive : u.kpr.wdActive = true
      · exact Or.inr ((Decidable.em (u.pwr.state = .doze)).imp id fun hawake hperiod => hover ⟨hactive, hawake, hperiod⟩)
      · exact Or.inl (by simpa using hactive)
  case react =>
    intro t
    have ht : t = _ := reactFaults_one hone
    by_cases hreport : reactionOf k = .report
    · have hacted : reactTo (k, i) { s with faults := [] } = reportFault k i { s with faults := [] } := if_pos hreport
      rw [ht, hacted]
      exact ⟨rfl, rfl, fun _ => ⟨rfl, rfl, rfl, rfl⟩, fun hother => absurd hreport hother, fun hsafe => absurd (hreport.symm.trans hsafe) (by decide)⟩
    · obtain ⟨l, hside, hsafe, hlast, hopen, hcode, hdriven⟩ := underSafe_side (k, i) { s with faults := [] }
      obtain ⟨hfaults, hlamp, hkpr, hboot, hcyc⟩ := lampSide_eq hside
      have hacted := reactTo_eq (f := (k, i)) (s := { s with faults := [] }) hreport
      have hkept : (reactTo (k, i) { s with faults := [] }).faults = [] ∧ (reactTo (k, i) { s with faults := [] }).lamp = l := by
        rw [hacted]
        split
        · obtain ⟨hfaults', hlamp'⟩ := faultKeeper_frame (underSafe (k, i) { s with faults := [] })
          exact ⟨hfaults'.trans hfaults, hlamp'.trans hlamp⟩
        · exact ⟨hfaults, hlamp⟩
      obtain ⟨hfaults', hlamp'⟩ := hkept
      have htlamp : t.lamp = { l with injected := false } := by rw [ht, ← hlamp']; rfl
      refine ⟨ht ▸ hfaults', by rw [htlamp], fun h => absurd h hreport, fun _ => ?_, fun hpair hlive => ?_⟩
      · rw [htlamp]
        refine ⟨hsafe, hlast, hopen, hcode, fun hwas hrun => ⟨hdriven hwas hrun, fun p hp hclosed => gateOut_of_closed hp ?_ ?_⟩⟩
        · rw [htlamp]; exact congrArg (· || l.tokenLost) hsafe
        · rw [htlamp]; exact hopen ▸ hclosed
      · have hreset : reactTo (k, i) { s with faults := [] } = faultKeeper (underSafe (k, i) { s with faults := [] }) := hacted.trans (if_pos hpair)
        obtain ⟨hup, hsource, hcount, hwaiting, hqueue, hhalts⟩ := faultKeeper_resets (s := underSafe (k, i) { s with faults := [] }) ((congrArg Keeper.halted hkpr).trans hlive)
        rw [ht, hreset]
        exact ⟨hup, hsource, hcount.trans (by rw [hboot]), hwaiting, hqueue, fun r hr hsoon => hhalts r ((congrArg Keeper.restartAt hkpr).trans hr) (Nat.lt_of_le_of_lt (Nat.le_of_eq hcyc) hsoon)⟩

end Sys2Proof.Machine
end

section
/-! Proofs/Control: what work on ports, links, channels and gates leaves alone: power and networks, the Lamp room, the Keeper, the boot and the time (R391, R392, R399). -/

namespace Sys2Proof.Machine
open Sys2Proof.Claims

/-! The control side of the module -/

/-- Power with the networks, the Lamp room, the Keeper and the boot, at their time. -/
def control (s : State) : Power × Lamp × Keeper × Boot × Nat := (s.pwr, s.lamp, s.kpr, s.boot, s.cyc)

theorem control_eq {s : State} {w : Power} {l : Lamp} {k : Keeper} {b : Boot} {n : Nat} (h : control s = (w, l, k, b, n)) : s.pwr = w ∧ s.lamp = l ∧ s.kpr = k ∧ s.boot = b ∧ s.cyc = n := by
  simpa [control] using h

theorem agree_of_control {s t : State} (h : control t = control s) : t.pwr = s.pwr ∧ t.lamp = s.lamp ∧ t.kpr = s.kpr ∧ t.boot = s.boot ∧ t.cyc = s.cyc := control_eq h

theorem control_of_besideTraffic {s t : State} (h : besideTraffic t = besideTraffic s) : control t = control s := (congrArg control h :)

theorem control_of_besideBolt {s t : State} (h : besideBolt t = besideBolt s) : control t = control s := (congrArg control h :)

theorem control_of_besideZones {s t : State} (h : besideZones t = besideZones s) : control t = control s := (congrArg control h :)

section
variable (s : State)

@[simp] theorem control_bump (c : Ctr) (i : Nat) : control (bump c i s) = control s := (rfl)
@[simp] theorem control_emit (e : Emission) : control (emit e s) = control s := (rfl)
@[simp] theorem control_raiseEv (e : Ev) (i : Nat) (d : List Byte) : control (raiseEv e i d s) = control s := (rfl)
@[simp] theorem control_sideCause (v : Nat) : control (sideCause v s) = control s := (rfl)
@[simp] theorem control_setPort (p : Nat) (q : PortSt) : control (setPort p q s) = control s := (rfl)
@[simp] theorem control_setLink (l : Nat) (x : SelLinkSt) : control (setLink l x s) = control s := (rfl)
@[simp] theorem control_setCan (ch : Nat) (x : CanChan) : control (setCan ch x s) = control s := (rfl)
@[simp] theorem control_setLin (ch : Nat) (x : LinChan) : control (setLin ch x s) = control s := (rfl)
@[simp] theorem control_setQuad (q : Nat) (x : QuadState) : control (setQuad q x s) = control s := (rfl)
@[simp] theorem control_setPlk (x : Placket) : control (setPlk x s) = control s := (rfl)

@[simp] theorem control_ite (c : Prop) [Decidable c] (t u : State) : control (if c then t else u) = if c then control t else control u := apply_ite control c t u

theorem control_forEach {α : Type} {f : α → State → State} (h : ∀ a t, control (f a t) = control t) (l : List α) : control (forEach l f s) = control s := forEach_keeps h l s

theorem control_forUpTo {f : Nat → State → State} (h : ∀ i t, control (f i t) = control t) (n : Nat) : control (forUpTo n f s) = control s := forEach_keeps h (List.range n) s

/-! Ports -/

@[simp] theorem control_flushOnDown (p : Nat) : control (flushOnDown p s) = control s := control_of_besideBolt (besideBolt_flushOnDown s p)
@[simp] theorem control_flushPort (p : Nat) : control (flushPort p s) = control s := control_of_besideBolt (besideBolt_flushPort s p)
@[simp] theorem control_loseTx (p : Nat) : control (loseTx p s) = control s := control_of_besideBolt (besideBolt_loseTx s p)
@[simp] theorem control_endAtPort (p i n : Nat) (e : FrameEnd) : control (endAtPort p i n e s) = control s := control_of_besideBolt (besideBolt_endAtPort s p i n e)
@[simp] theorem control_releaseRings : control (releaseRings s) = control s := control_of_besideBolt (besideBolt_releaseRings s)

@[simp] theorem control_stopSending (p : Nat) : control (stopSending p s) = control s := by
  simp only [stopSending, control_flushOnDown, control_loseTx, control_setPort]
  rfl

@[simp] theorem control_reportDown (p : Nat) : control (reportDown p s) = control s := by
  simp only [reportDown, control_raiseEv]
  split <;> simp

@[simp] theorem control_portDown (p : Nat) : control (portDown p s) = control s := by simp [portDown]

@[simp] theorem control_stopPort (p : Nat) : control (stopPort p s) = control s := by simp [stopPort]

@[simp] theorem control_tribDown (p : Nat) : control (tribDown p s) = control s := by simp [tribDown]

@[simp] theorem control_markOverrate (p : Nat) : control (markOverrate p s) = control s := by
  refine control_forUpTo s (fun c t => ?_) 8
  unfold markQueue
  split <;> rfl

@[simp] theorem control_recheckGcl (p : Nat) : control (recheckGcl p s) = control s := by
  unfold recheckGcl setInfeasible
  dsimp only
  split
  · split <;> rfl
  · rfl

@[simp] theorem control_portUp (p mode role : Nat) (fast : Bool) : control (portUp p mode role fast s) = control s := by
  simp only [portUp, control_raiseEv, control_recheckGcl, control_markOverrate, control_setPort]
  rfl

/-! Links -/

@[simp] theorem control_abortTx (l : Nat) : control (abortTx l s) = control s := by
  refine control_forEach s (fun e t => ?_) _
  dsimp only
  split <;> simp

@[simp] theorem control_syncTrib (l : Nat) : control (syncTrib l s) = control s := by simp [syncTrib]

@[simp] theorem control_setDefects (l : Nat) (d : Defects) : control (setDefects l d s) = control s := by simp [setDefects]

@[simp] theorem control_toDetect (l : Nat) : control (toDetect l s) = control s := by simp [toDetect, leaveUp]

@[simp] theorem control_chooseLinkZones (l : Nat) : control (chooseLinkZones l s) = control s := control_of_besideZones (besideZones_chooseLinkZones l s)

@[simp] theorem control_isoLinkLost (l : Nat) : control (isoLinkLost l s) = control s := by
  refine control_forEach s (fun e t => ?_) _
  split
  · refine control_forUpTo t (fun a x => ?_) 254
    split
    · split <;> rfl
    · rfl
  · rfl

@[simp] theorem control_unhitchLink (l : Nat) : control (unhitchLink l s) = control s := by simp [unhitchLink]

/-! Channels -/

@[simp] theorem control_driveTransceiver (ch : Nat) (stb en : Bool) : control (driveTransceiver ch stb en s) = control s := control_of_besideTraffic (besideTraffic_driveTransceiver s ch stb en)

@[simp] theorem control_setTransceiver (ch : Nat) : control (setTransceiver ch s) = control s := control_of_besideTraffic (besideTraffic_setTransceiver s ch)

@[simp] theorem control_canPoweredOff (ch : Nat) : control (canPoweredOff ch s) = control s := by simp [canPoweredOff]

@[simp] theorem control_edgeOff : control (edgeOff s) = control s := by
  unfold edgeOff
  refine (control_forUpTo _ (fun ch t => control_setLin t ch _) 8).trans ((control_forUpTo _ (fun ch t => control_canPoweredOff t ch) 16).trans rfl)

@[simp] theorem control_restTransceiver (ch : Nat) : control (restTransceiver ch s) = control s := by simp [restTransceiver]

@[simp] theorem control_canSleep (ch : Nat) : control (canSleep ch s) = control s := by simp [canSleep]

@[simp] theorem control_canRejoin (ch : Nat) : control (canRejoin ch s) = control s := by simp [canRejoin]

@[simp] theorem control_canReturns (ch : Nat) : control (canReturns ch s) = control s := by simp [canReturns]

@[simp] theorem control_linSleep (ch : Nat) : control (linSleep ch s) = control s := by simp [linSleep, emitHeader]

@[simp] theorem control_linPulse (ch : Nat) : control (linPulse ch s) = control s := by simp [linPulse]

/-! Domains -/

@[simp] theorem control_resetPlacket : control (resetPlacket s) = control s := by
  simp only [resetPlacket, control_setPlk, control_releaseRings]

end

/-- A domain's blocks stop without a change of power, networks or boot (R391). -/
theorem control_domainOff (d : Nat) (s : State) : control (domainOff d s) = control s := by
  have hports : control (forUpTo 27 (fun p t => if portDomain p = d ∧ !(isTrib p) then stopPort p t else t) s) = control s := control_forUpTo s (fun p t => by simp) 27
  unfold domainOff
  dsimp only
  split
  · exact hports
  · exact (control_forUpTo _ (fun l t => by simp) 2).trans hports
  · simpa using hports
  · simpa using hports
  · simpa using hports

end Sys2Proof.Machine
end

section
/-! Proofs/ClockPowerAndWake: clock faults, domains switched, DOZE left, wake sources, and the clauses about them (R254-R256, R260, R377-R386, R391-R411). -/

namespace Sys2Proof.Machine
open Sys2Proof.Claims

/-- A loop of rounds that each leave the state as it is does nothing. -/
theorem forEach_id {α σ : Type} {f : α → σ → σ} {l : List α} {s : σ} (h : ∀ a ∈ l, f a s = s) : forEach l f s = s := by
  induction l with
  | nil => rfl
  | cons a l ih =>
    show forEach l f (f a s) = s
    rw [h a List.mem_cons_self]
    exact ih fun b hb => h b (List.mem_cons_of_mem a hb)

/-! Gates placed anew (R392, R430) -/

/-- The state with everything blanked that placing the gates anew changes: the schedules and keys, what is counted and raised, and the marks of frames in transmission. -/
def besideGates (s : State) : State := { s with counters := [], raised := [], sch := {}, stb := {}, fab := { s.fab with tx := [] } }

section
variable (s : State)

@[simp] theorem besideGates_bump (c : Ctr) (i : Nat) : besideGates (bump c i s) = besideGates s := (rfl)
@[simp] theorem besideGates_raiseEv (e : Ev) (i : Nat) (d : List Byte) : besideGates (raiseEv e i d s) = besideGates s := (rfl)
@[simp] theorem besideGates_setGates (p : Nat) (g : PortGates) : besideGates (setGates p g s) = besideGates s := (rfl)
@[simp] theorem besideGates_setSGate (i : Nat) (g : StreamGate) : besideGates (setSGate i g s) = besideGates s := (rfl)
@[simp] theorem besideGates_setKeySt (i : Nat) (k : KeyState) : besideGates (setKeySt i k s) = besideGates s := (rfl)
@[simp] theorem besideGates_ite (c : Prop) [Decidable c] (t u : State) : besideGates (if c then t else u) = if c then besideGates t else besideGates u := apply_ite besideGates c t u

@[simp] theorem besideGates_countOverrun (p : Nat) (before : BitVec 8) : besideGates (countOverrun p before s) = besideGates s := by
  unfold countOverrun
  split
  · rfl
  · dsimp only
    split <;> rfl

@[simp] theorem besideGates_jumpGates (p : Nat) : besideGates (jumpGates p s) = besideGates s := by
  unfold jumpGates
  dsimp only
  split
  · rfl
  · split <;> simp

@[simp] theorem besideGates_setInfeasible (p : Nat) (b : Bool) : besideGates (setInfeasible p b s) = besideGates s := by simp [setInfeasible]

@[simp] theorem besideGates_activateKey (c i : Nat) (k : BitVec 128) : besideGates (activateKey c i k s) = besideGates s := by
  unfold activateKey
  dsimp only
  split
  · simp
  · simp
  · simp

theorem besideGates_activateKeys (p : Nat) (l : List (Nat × BitVec 128)) : besideGates (forEach l (fun k t => activateKey p k.1 k.2 t) s) = besideGates s := by
  induction l generalizing s with
  | nil => rfl
  | cons k l ih => exact (ih (activateKey p k.1 k.2 s)).trans (besideGates_activateKey s p k.1 k.2)

@[simp] theorem besideGates_takeListBy {place : Nat → State → State} (hplace : ∀ p t, besideGates (place p t) = besideGates t) (p : Nat) : besideGates (takeListBy place p s) = besideGates s := by
  unfold takeListBy
  dsimp only
  split
  · rfl
  · rw [besideGates_countOverrun, hplace, besideGates_setInfeasible, besideGates_activateKeys, besideGates_setGates]

@[simp] theorem besideGates_replaceGates (p : Nat) : besideGates (replaceGates p s) = besideGates s := by
  unfold replaceGates
  extract_lets g u
  have hu : besideGates u = besideGates s := by
    simp only [u]
    split
    · split
      · exact besideGates_takeListBy s (fun p t => besideGates_jumpGates t p) p
      · rfl
    · rfl
  split
  · rw [besideGates_countOverrun, besideGates_jumpGates, hu]
  · exact hu

@[simp] theorem besideGates_refreshSGate (i : Nat) : besideGates (refreshSGate i s) = besideGates s := by
  unfold refreshSGate
  extract_lets g now g1
  split <;> simp

@[simp] theorem besideGates_replaceAllGates : besideGates (replaceAllGates s) = besideGates s := by
  unfold replaceAllGates
  exact (forEach_keeps (p := besideGates) (fun i t => besideGates_refreshSGate t i) _ _).trans (forEach_keeps (p := besideGates) (fun p t => besideGates_replaceGates t p) _ s)

end

theorem agree_of_besideGates {s t : State} (h : besideGates t = besideGates s) : t.cyc = s.cyc ∧ t.pwr = s.pwr ∧ t.kpr = s.kpr ∧ t.lamp = s.lamp ∧ t.bcn = s.bcn ∧ { t.fab with tx := s.fab.tx } = s.fab :=
  ⟨(congrArg State.cyc h :), (congrArg State.pwr h :), (congrArg State.kpr h :), (congrArg State.lamp h :), (congrArg State.bcn h :), (congrArg (fun u => { u.fab with tx := s.fab.tx }) h :)⟩

/-! Clocks (R377, R378, R386) -/

section
variable {d : Nat} {s : State}

theorem pllLocks_not (h : poweredNow d s = false ∨ s.pwr.unlocked.getLsbD d = false) : pllLocks d s = s := if_pos (h.imp (congrArg not) (congrArg not))

/-- A PLL that locks releases its domain's clock; its crossings then resynchronise. -/
def relocked (d : Nat) (s : State) : State := setPwr { s.pwr with unlocked := s.pwr.unlocked &&& ~~~(BitVec.twoPow 16 d), resync := s.pwr.resync ||| BitVec.twoPow 16 d } s

/-- The Lamp room with the gate logic's token back. -/
def tokenBack (l : Lamp) : Lamp := { l with tokenLost := false }

theorem pllLocks_eq (hpowered : poweredNow d s = true) (hlost : s.pwr.unlocked.getLsbD d = true) :
    pllLocks d s = if d = 1 ∧ !s.lamp.safe ∧ s.lamp.tokenLost then reopenGates (setLamp (tokenBack s.lamp) (relocked d s)) else relocked d s :=
  if_neg (by simp [hpowered, hlost])

/-- The gate logic's clock brings its token back: the gates are placed anew (R430). -/
theorem reopenGates_frame (l : Lamp) : (reopenGates (setLamp l s)).lamp = l ∧ (reopenGates (setLamp l s)).pwr = s.pwr ∧ { (reopenGates (setLamp l s)).fab with tx := s.fab.tx } = s.fab := by
  unfold reopenGates
  obtain ⟨-, hpwr, -, hlamp, -, hfab⟩ := agree_of_besideGates (besideGates_replaceAllGates (setLamp l s))
  exact ⟨hlamp, hpwr, hfab⟩

theorem pllLocks_reopens (hpowered : poweredNow d s = true) (hlost : s.pwr.unlocked.getLsbD d = true) (h1 : d = 1) (hsafe : s.lamp.safe = false) (htoken : s.lamp.tokenLost = true) :
    (pllLocks d s).lamp.tokenLost = false ∧ (pllLocks d s).pwr = (relocked d s).pwr ∧ { (pllLocks d s).fab with tx := s.fab.tx } = s.fab := by
  obtain ⟨hlamp, hpwr, hfab⟩ := reopenGates_frame (s := relocked d s) (tokenBack s.lamp)
  have hsame : (relocked d s).fab = s.fab := rfl
  rw [hsame] at hfab
  rw [pllLocks_eq hpowered hlost, if_pos ⟨h1, by rw [hsafe]; rfl, htoken⟩, hlamp]
  exact ⟨rfl, hpwr, hfab⟩

/-- The crossings' discard is counted and opens them; frames in reception on the domain's ports would end. -/
theorem resyncDone_quiet {n lost : Nat} (hclock : clockRuns d s = true) (hquiet : n = 0 ∨ ∀ p < 27, portDomain p = d → receiving p s = none) :
    resyncDone d n lost s = bumpBy n .pwrCdcResync d (setPwr { s.pwr with resync := s.pwr.resync &&& ~~~(BitVec.twoPow 16 d), overflow := if lost = 0 then s.pwr.overflow else mapSet false s.pwr.overflow d true } s) := by
  simp only [resyncDone, hclock, Bool.not_true, Bool.false_eq_true, ↓reduceIte]
  rcases hquiet with hzero | hquiet
  · exact if_pos hzero
  · split
    · rfl
    · generalize hu : bumpBy n .pwrCdcResync d _ = u
      have hfab : u.fab = s.fab := by rw [← hu]; rfl
      have hround : ∀ p ∈ List.range 27, (if portDomain p = d then (match receiving p u with | some f => endAtPort p f.ident f.received .lost u | none => u) else u) = u := fun p hp => by
        split
        next hdom =>
          have hnone : receiving p u = none := by rw [receiving, hfab]; exact hquiet p (List.mem_range.mp hp) hdom
          rw [hnone]
        · rfl
      exact forEach_id hround

/-- A clock that is monitored now fails: counted, announced and reported, and its domains' clocks are held off (R377, R378). -/
theorem clockFails_not {k : Nat} (h : mechanismsOn s = false ∨ ¬ ((3 ≤ k → clockDomains k &&& s.pwr.powered ≠ 0) ∧ (k = 4 → s.pwr.state ≠ .doze))) : clockFails k s = s := by
  refine if_pos ?_
  rcases h with hoff | hmiss
  · exact Or.inl (congrArg not hoff)
  · by_cases hdomains : 3 ≤ k → clockDomains k &&& s.pwr.powered ≠ 0
    · exact Or.inr (Or.inr (by simpa using fun h => hmiss ⟨hdomains, h⟩))
    · exact Or.inr (Or.inl (by simpa using hdomains))

end

/-- What a clock's failure leaves. -/
def clockLost (k : Nat) (s : State) : State := raiseEv .clockFault k [] (bump .pwrClkFault k (setPwr { s.pwr with unlocked := s.pwr.unlocked ||| (clockDomains k &&& s.pwr.powered) } s))

theorem clockFails_hits {k : Nat} {s : State} (hon : mechanismsOn s = true) (hdomains : 3 ≤ k → clockDomains k &&& s.pwr.powered ≠ 0) (hgated : k = 4 → s.pwr.state ≠ .doze) :
    clockFails k s = detectFault 7 k (if k = 2 then raiseEv .clockFault 0 [] (bump .pwrClkFault 0 (clockLost k s)) else clockLost k s) := by
  refine if_neg (not_or.mpr ⟨by rw [hon]; decide, not_or.mpr ⟨fun ⟨h3, hnone⟩ => hdomains h3 hnone, fun ⟨h4, hdoze⟩ => hgated h4 hdoze⟩⟩)

theorem clockLost_frame (k : Nat) (s : State) : (clockLost k s).faults = s.faults ∧ (clockLost k s).raised = s.raised ++ [(.clockFault, k, [])] ∧ (clockLost k s).pwr = { s.pwr with unlocked := s.pwr.unlocked ||| (clockDomains k &&& s.pwr.powered) }
    ∧ (clockLost k s).fab = s.fab ∧ (clockLost k s).counters = (bump .pwrClkFault k s).counters := ⟨rfl, rfl, rfl, rfl, rfl⟩

theorem bump_counters_congr (c : Ctr) (i : Nat) {s t : State} (h : t.counters = s.counters) : (bump c i t).counters = (bump c i s).counters := by
  simp only [bump, bumpBy, count, h]

theorem clockFails_frame {k : Nat} {s : State} (hon : mechanismsOn s = true) (hdomains : 3 ≤ k → clockDomains k &&& s.pwr.powered ≠ 0) (hgated : k = 4 → s.pwr.state ≠ .doze) :
    (clockFails k s).faults = s.faults ++ [(7, k)] ∧ (clockFails k s).raised = s.raised ++ (.clockFault, k, []) :: (if k = 2 then [(.clockFault, 0, [])] else [])
    ∧ (clockFails k s).pwr = { s.pwr with unlocked := s.pwr.unlocked ||| (clockDomains k &&& s.pwr.powered) } ∧ (clockFails k s).fab = s.fab ∧ (k ≠ 2 → (clockFails k s).counters = (bump .pwrClkFault k s).counters)
    ∧ (k = 2 → (clockFails k s).counters = (bump .pwrClkFault 0 (bump .pwrClkFault k s)).counters) := by
  obtain ⟨hfaults, hraised, hpwr, hfab, hcounters⟩ := clockLost_frame k s
  rw [clockFails_hits hon hdomains hgated]
  generalize clockLost k s = u at hfaults hraised hpwr hfab hcounters
  split
  next h2 =>
    refine ⟨congrArg (· ++ [(7, k)]) hfaults, ?_, hpwr, hfab, fun hnot => absurd h2 hnot, fun _ => ?_⟩
    · show u.raised ++ [(Ev.clockFault, 0, [])] = _
      rw [hraised, List.append_assoc]
      rfl
    · exact bump_counters_congr .pwrClkFault 0 hcounters
  · exact ⟨congrArg (· ++ [(7, k)]) hfaults, hraised, hpwr, hfab, fun _ => hcounters, fun htwo => absurd htwo ‹_›⟩

/-! Domains that do not answer (R341, R384) -/

section
variable {d : Nat} {s : State}

theorem initiatorTimeout_running {plk : Bool} (h : domainStuck d s = false) : initiatorTimeout plk d s = s := if_pos (congrArg not h)

theorem initiatorTimeout_placket (h : domainStuck d s = true) : initiatorTimeout true d s = latchStopped 1 d (if d = 1 then lostDoorbells s else s) := by
  simp only [initiatorTimeout, h, Bool.not_true, Bool.false_eq_true, ↓reduceIte]

theorem initiatorTimeout_idle (h : s.yel.waiting = none) : initiatorTimeout false d s = s := by
  simp only [initiatorTimeout, h, Bool.false_eq_true, ↓reduceIte]
  exact ite_self s

theorem initiatorTimeout_access {a : Accepted} {stop : Nat} (h : domainStuck d s = true) (hwait : s.yel.waiting = some (a, .access d, stop)) (hdue : stop ≤ s.cyc) :
    initiatorTimeout false d s = afterPause (replyTo a.cls a.opcode a.msg true .timeout [] false (setYel { s.yel with waiting := none } (latchStopped 0 d s))) := by
  have hlatched : (latchStopped 0 d s).yel = s.yel := rfl
  simp only [initiatorTimeout, h, hwait, Bool.not_true, Bool.false_eq_true, ↓reduceIte]
  refine (if_pos ⟨trivial, hdue⟩).trans ?_
  simp only [endWaiting, hlatched, hwait]

theorem oscStop_due {o : Nat} (h : s.edge.oscillator = some o) (hdue : o + 2 * msCyc ≤ s.cyc) : oscStop s = { s with edge := { s.edge with oscillator := none } } := by
  simp only [oscStop, h]
  exact if_pos hdue

theorem oscStop_off (h : s.edge.oscillator = none) : oscStop s = s := by simp only [oscStop, h]

end

/-! Domains switched (R391, R403) -/

theorem portDomain_range (p : Nat) : 8 ≤ portDomain p ∧ portDomain p ≤ 12 := by
  unfold portDomain
  repeat' split
  all_goals decide

theorem isTrib_of_portDomain {p : Nat} (h : portDomain p ≠ 12) : isTrib p = false := by
  rw [Bool.eq_false_iff]
  intro htrib
  have hp : p = 24 ∨ p = 25 := by simpa [isTrib] using htrib
  rcases hp with rfl | rfl <;> exact h rfl

/-- A domain without ports stops none. -/
theorem stopPorts_none {d : Nat} (h : d < 8 ∨ 12 < d) (s : State) : forUpTo 27 (fun p t => if portDomain p = d ∧ !(isTrib p) then stopPort p t else t) s = s := by
  refine forEach_id fun p _ => if_neg fun hp => ?_
  have hrange := portDomain_range p
  omega

theorem domainOff_ports {d : Nat} (h8 : 8 ≤ d) (h11 : d ≤ 11) (s : State) : domainOff d s = forUpTo 27 (fun p t => if portDomain p = d then flushPort p (portDown p t) else t) s := by
  have hround : (fun p t => if portDomain p = d ∧ !(isTrib p) then stopPort p t else t) = fun p t => if portDomain p = d then flushPort p (portDown p t) else t := by
    funext p t
    exact ite_congr (propext ⟨And.left, fun hp => ⟨hp, congrArg not (isTrib_of_portDomain (by omega))⟩⟩) (fun _ => rfl) (fun _ => rfl)
  unfold domainOff
  rw [hround]
  dsimp only
  split
  · omega
  · omega
  · omega
  · omega
  · exact if_neg (by omega)

theorem domainOff_bodkin (s : State) : domainOff 7 s = { s with bod := { s.bod with items := [], pipes := [], ctx := [], sas := [], fetched := none, asked := [] } } := by
  simp only [domainOff, stopPorts_none (Or.inl (by decide : 7 < 8))]

theorem domainOff_host (s : State) : domainOff 14 s = resetPlacket (emit .pcieDown s) := by
  simp only [domainOff, stopPorts_none (Or.inr (by decide : 12 < 14))]

/-- The state with a domain of a transition off, or on. -/
def withDomainOff (d : Nat) (x : Transition) (s : State) : State :=
  let w := (domainOff d s).pwr
  setPwr { w with transition := some { x with offs := x.offs &&& ~~~(BitVec.twoPow 16 d) }, powered := w.powered &&& ~~~(BitVec.twoPow 16 d), closed := w.closed ||| BitVec.twoPow 16 d,
                  unlocked := w.unlocked &&& ~~~(BitVec.twoPow 16 d), resync := w.resync &&& ~~~(BitVec.twoPow 16 d), overflow := mapSet false w.overflow d false } (domainOff d s)

def withDomainOn (d : Nat) (x : Transition) (s : State) : State :=
  let w := s.pwr
  setPwr { w with transition := some { x with ons := x.ons &&& ~~~(BitVec.twoPow 16 d) }, powered := w.powered ||| BitVec.twoPow 16 d, closed := w.closed &&& ~~~(BitVec.twoPow 16 d),
                  unlocked := w.unlocked &&& ~~~(BitVec.twoPow 16 d), resync := w.resync &&& ~~~(BitVec.twoPow 16 d) } s

theorem finishTransition_going {s : State} {x : Transition} (h : s.pwr.transition = some x) (hleft : x.offs ≠ 0 ∨ x.ons ≠ 0 ∨ x.lights = true) : finishTransition s = s := by
  simp only [finishTransition, h]
  refine if_neg fun ⟨hoffs, hons, hlights⟩ => ?_
  rcases hleft with ho | ho | hl
  · exact ho hoffs
  · exact ho hons
  · rw [hl] at hlights; exact absurd hlights (by decide)

/-- A finished transition is in its target's state (R391). -/
theorem finishTransition_done {s : State} {x : Transition} (h : s.pwr.transition = some x) (hoffs : x.offs = 0) (hons : x.ons = 0) (hlights : x.lights = false) :
    (finishTransition s).pwr.transition = none ∧ (finishTransition s).pwr.state = x.target ∧ (finishTransition s).pwr.powered = s.pwr.powered ∧ (finishTransition s).pwr.nets = s.pwr.nets ∧ (finishTransition s).fab = s.fab := by
  have hdone : finishTransition s = setPwrState x.target (if x.target = .trim then s.pwr.powered else 0) (setPwr { s.pwr with transition := none } s) := by
    simp only [finishTransition, h]
    exact if_pos ⟨hoffs, hons, by rw [hlights]; rfl⟩
  rw [hdone]
  generalize (if x.target = .trim then s.pwr.powered else 0) = mask
  unfold setPwrState
  split
  next hsame => exact ⟨rfl, hsame.1, rfl, rfl, rfl⟩
  · exact ⟨rfl, rfl, rfl, rfl, rfl⟩

section
variable {d : Nat} {s : State} {x : Transition} (hx : s.pwr.transition = some x)
include hx

theorem domainSwitched_other (h : (x.offs ||| x.ons).getLsbD d = false) : domainSwitched d s = s := by
  rw [BitVec.getLsbD_or, Bool.or_eq_false_iff] at h
  simp only [domainSwitched, hx, h.1, h.2, Bool.false_eq_true, ↓reduceIte]

theorem domainSwitched_waits (hoff : x.offs.getLsbD d = true) (hwaits : ((decide (2 ≤ d) && decide (d ≤ 5) && !x.lights && quadState (d - 2) s != .off) || (d == 0 && x.offs != 1)) = true) : domainSwitched d s = s := by
  simp only [domainSwitched, hx, hoff, hwaits, ↓reduceIte]

theorem domainSwitched_off (hoff : x.offs.getLsbD d = true) (hgoes : ((decide (2 ≤ d) && decide (d ≤ 5) && !x.lights && quadState (d - 2) s != .off) || (d == 0 && x.offs != 1)) = false) :
    domainSwitched d s = finishTransition (withDomainOff d x s) := by
  simp only [domainSwitched, hx, hoff, hgoes, Bool.false_eq_true, ↓reduceIte]
  rfl

theorem domainSwitched_on (hoff : x.offs.getLsbD d = false) (hon : x.ons.getLsbD d = true) : domainSwitched d s = finishTransition (domainOn d (withDomainOn d x s)) := by
  simp only [domainSwitched, hx, hoff, hon, Bool.false_eq_true, ↓reduceIte]
  rfl

end

theorem roundProgress_settled {n : Nat} {s : State} (h : (getNet n s).mode ≠ .consent) : roundProgress n s = s := if_pos (Or.inr h)

/-- The state after a domain is switched, with the channels that return and the rounds that go on without the members that left. -/
def afterSwitch (s s0 : State) : State :=
  if lightsGoing s ∨ s0.pwr.powered = s.pwr.powered then s0
  else forUpTo 16 roundProgress (if edgePowered s0 && !(edgePowered s) then forUpTo 16 canReturns s0 else s0)

theorem getNet_of_nets {n : Nat} {s t : State} (h : t.pwr.nets = s.pwr.nets) : getNet n t = getNet n s := congrArg (fun m => mapGet netReset m n) h

theorem afterSwitch_settled {s s0 : State} (hset : ∀ n < 16, (getNet n s0).mode ≠ .consent) (hedge : edgePowered s0 = true → edgePowered s = true) : afterSwitch s s0 = s0 := by
  unfold afterSwitch
  split
  · rfl
  · have hstays : (edgePowered s0 && !(edgePowered s)) = false := by
      cases hon : edgePowered s0 with
      | false => rfl
      | true => rw [hedge hon]; rfl
    rw [hstays]
    exact forEach_id fun n hn => roundProgress_settled (hset n (List.mem_range.mp hn))

/-- While no round is under way, a domain's return changes channels alone. -/
theorem afterSwitch_control {s s0 : State} (hset : ∀ n < 16, (getNet n s0).mode ≠ .consent) : control (afterSwitch s s0) = control s0 := by
  have hreturn : control (if edgePowered s0 && !(edgePowered s) then forUpTo 16 canReturns s0 else s0) = control s0 := by
    split
    · exact control_forUpTo s0 (fun ch t => control_canReturns t ch) 16
    · rfl
  unfold afterSwitch
  split
  · rfl
  · generalize (if edgePowered s0 && !(edgePowered s) then forUpTo 16 canReturns s0 else s0) = u at hreturn
    obtain ⟨hpwr, -⟩ := agree_of_control hreturn
    have hrounds : forUpTo 16 roundProgress u = u := forEach_id fun n hn => roundProgress_settled (by rw [getNet_of_nets (congrArg Power.nets hpwr)]; exact hset n (List.mem_range.mp hn))
    rw [hrounds, hreturn]

theorem afterSwitch_same {s : State} : afterSwitch s s = s := if_pos (Or.inr rfl)

theorem afterSwitch_lights {s s0 : State} (h : lightsGoing s = true) : afterSwitch s s0 = s0 := if_pos (Or.inl h)

section
variable {d : Nat} {s s1 : State} (h : afterSwitch s (domainSwitched d s) = s1)
include h

theorem switched_eq : switched d s = match s1.pwr.transition with
    | some t => if t.lights ∧ t.offs = 0 ∧ t.ons = 0 then (if t.target = .off then arriveOff s1 else arriveDeep s1) else s1
    | none => s1 := by
  subst h
  rfl

theorem switched_idle (ht : s1.pwr.transition = none) : switched d s = s1 := by rw [switched_eq h, ht]

theorem switched_going {t : Transition} (ht : s1.pwr.transition = some t) (hlights : t.lights = false) : switched d s = s1 := by
  rw [switched_eq h, ht]
  exact if_neg (by simp [hlights])

theorem switched_arrives {t : Transition} (ht : s1.pwr.transition = some t) (hlights : t.lights = true) (hoffs : t.offs = 0) (hons : t.ons = 0) : switched d s = if t.target = .off then arriveOff s1 else arriveDeep s1 := by
  rw [switched_eq h, ht]
  exact if_pos ⟨hlights, hoffs, hons⟩

end

/-! DEEP and OFF (R389, R403) -/

theorem driveFault_frame (on : Bool) (s : State) : (driveFault on s).lamp.faultN = on ∧ (driveFault on s).pwr = s.pwr := by
  unfold driveFault
  split
  next h => exact ⟨h, rfl⟩
  · exact ⟨rfl, rfl⟩

/-- What is left of the module in DEEP, before the levels of its channels (R403, R476). -/
def aoState (s : State) : State :=
  let c := keepAo s (coldState (marksLow (twinPinsIdle s)))
  { c with
    edge := { c.edge with wake := s.edge.wake, oscillator := s.edge.oscillator }, pwr := { c.pwr with nets := s.pwr.nets }, bcn := { c.bcn with deep := s.bcn.deep, rate := s.bcn.rate }, lamp := { c.lamp with restarted := s.lamp.restarted } }

/-- The channels as AO holds them. -/
def aoChannels (old s : State) : State := forUpTo 8 (fun ch t => setLin ch (linInAo (getLin ch old)) t) (forUpTo 16 (fun ch t => setCan ch (canInAo (getCan ch old)) t) s)

theorem control_aoChannels (old s : State) : control (aoChannels old s) = control s := by
  unfold aoChannels
  rw [control_forUpTo _ (fun ch t => control_setLin t ch _) 8, control_forUpTo _ (fun ch t => control_setCan t ch _) 16]

theorem arriveDeep_eq (s : State) : arriveDeep s = driveFault false (setPwr { (aoChannels s (aoState s)).pwr with state := .deep, powered := 1, closed := 0xFFFE, wakePending := s.pwr.wakeLatched } (aoChannels s (aoState s))) := rfl

theorem aoState_transition (s : State) : (aoState s).pwr.transition = none := rfl

theorem arriveDeep_frame (s : State) : (arriveDeep s).pwr.state = .deep ∧ (arriveDeep s).pwr.powered = 1 ∧ (arriveDeep s).pwr.transition = none ∧ (arriveDeep s).pwr.wakePending = s.pwr.wakeLatched ∧ (arriveDeep s).lamp.faultN = false := by
  obtain ⟨hkept, -⟩ := agree_of_control (control_aoChannels s (aoState s))
  have htrans : (aoChannels s (aoState s)).pwr.transition = none := (congrArg Power.transition hkept).trans (aoState_transition s)
  rw [arriveDeep_eq]
  generalize aoChannels s (aoState s) = u at htrans
  obtain ⟨hfault, hpwr⟩ := driveFault_frame false (setPwr { u.pwr with state := .deep, powered := 1, closed := 0xFFFE, wakePending := s.pwr.wakeLatched } u)
  rw [hpwr]
  exact ⟨rfl, rfl, htrans, rfl, hfault⟩

theorem arriveOff_frame {s : State} (hpin : s.pwr.pinsHigh.getLsbD 0 = false) : (arriveOff s).pwr.state = .off ∧ (arriveOff s).pwr.powered = 0 ∧ (arriveOff s).pwr.transition = none ∧ (arriveOff s).lamp.faultN = false := by
  have hact : arriveOff s = driveFault false (setPwr { (coldState (pinsIdle s)).pwr with state := .off, powered := 0, closed := 0xFFFF } (coldState (pinsIdle s))) := if_neg (by rw [hpin]; decide)
  obtain ⟨hfault, hpwr⟩ := driveFault_frame false (setPwr { (coldState (pinsIdle s)).pwr with state := .off, powered := 0, closed := 0xFFFF } (coldState (pinsIdle s)))
  rw [hact, hpwr]
  exact ⟨rfl, rfl, rfl, hfault⟩

end Sys2Proof.Machine
end

section
/-! Proofs/WakeSources: DOZE left, pins and wake sources, the wake from DEEP, and the clauses about clocks, power and wake (R254-R256, R260, R377-R411). -/

namespace Sys2Proof.Machine
open Sys2Proof.Claims

/-! DOZE left (R392, R429) -/

/-- The Bolt and the Beacon. -/
def boltAndBeacon (s : State) : Fabric × Beacon := (s.fab, s.bcn)

theorem boltAndBeacon_driveTransceiver (ch : Nat) (stb en : Bool) (s : State) : boltAndBeacon (driveTransceiver ch stb en s) = boltAndBeacon s := by
  unfold driveTransceiver
  generalize getCan ch s = c
  dsimp only
  split
  · split <;> rfl
  · split <;> rfl

theorem boltAndBeacon_setTransceiver (ch : Nat) (s : State) : boltAndBeacon (setTransceiver ch s) = boltAndBeacon s := by
  unfold setTransceiver
  dsimp only
  split
  · rfl
  · exact boltAndBeacon_driveTransceiver ch _ _ _

theorem setPwrState_frame (x : PwrState) (mask : BitVec 16) (s : State) : (setPwrState x mask s).pwr.state = x ∧ (setPwrState x mask s).cyc = s.cyc ∧ boltAndBeacon (setPwrState x mask s) = boltAndBeacon s := by
  unfold setPwrState
  split
  next h => exact ⟨h.1, rfl, rfl⟩
  · exact ⟨rfl, rfl, rfl⟩

theorem leaveDoze_frame {s : State} (h : s.pwr.state = .doze) : (leaveDoze s).pwr.state = s.pwr.before ∧ (leaveDoze s).kpr.wdFrom = s.cyc ∧ (leaveDoze s).kpr.mgmtBit = false ∧ (leaveDoze s).kpr.ctrlBit = false
    ∧ { (leaveDoze s).fab with tx := s.fab.tx } = s.fab ∧ (leaveDoze s).bcn = s.bcn := by
  obtain ⟨hstate, hcyc, hbolt⟩ := setPwrState_frame s.pwr.before s.pwr.trimMask s
  have hact : leaveDoze s = setKpr { (replaceAllGates (forUpTo 16 setTransceiver (setPwrState s.pwr.before s.pwr.trimMask s))).kpr with
      wdFrom := (replaceAllGates (forUpTo 16 setTransceiver (setPwrState s.pwr.before s.pwr.trimMask s))).cyc, mgmtBit := false, ctrlBit := false } (replaceAllGates (forUpTo 16 setTransceiver (setPwrState s.pwr.before s.pwr.trimMask s))) :=
    if_neg (not_not_intro h)
  have hdriven : boltAndBeacon (forUpTo 16 setTransceiver (setPwrState s.pwr.before s.pwr.trimMask s)) = boltAndBeacon s := (forEach_keeps (p := boltAndBeacon) boltAndBeacon_setTransceiver _ _).trans hbolt
  obtain ⟨hpwr, -, -, -, hcyc'⟩ := agree_of_control (control_forUpTo (setPwrState s.pwr.before s.pwr.trimMask s) (fun ch t => control_setTransceiver t ch) 16)
  rw [hact]
  generalize forUpTo 16 setTransceiver (setPwrState s.pwr.before s.pwr.trimMask s) = u at hdriven hpwr hcyc' ⊢
  obtain ⟨hcyc'', hpwr', -, -, hbcn, hfab⟩ := agree_of_besideGates (besideGates_replaceAllGates u)
  generalize replaceAllGates u = v at hcyc'' hpwr' hbcn hfab ⊢
  obtain ⟨hufab, hubcn⟩ := Prod.mk.inj hdriven
  rw [hufab] at hfab
  exact ⟨(congrArg Power.state (hpwr'.trans hpwr)).trans hstate, hcyc''.trans (hcyc'.trans hcyc), rfl, rfl, hfab, hbcn.trans hubcn⟩

/-! Networks that wake (R398, R407) -/

/-- The networks at their time. -/
def networks (s : State) : SMap Net × Nat := (s.pwr.nets, s.cyc)

theorem networks_of_control {s t : State} (h : control t = control s) : networks t = networks s := (congrArg (fun x => (x.1.nets, x.2.2.2.2)) h :)

theorem getNet_of_networks {s t : State} (h : networks t = networks s) (n : Nat) : getNet n t = getNet n s := getNet_of_nets (congrArg Prod.fst h)

theorem networks_wakePort (p : Nat) (s : State) : networks (wakePort p s) = networks s := by
  unfold wakePort relayTo
  split
  · split <;> rfl
  · rfl

/-- A network's members wake without a change of any network. -/
theorem networks_wakeMembers (n : Nat) (src : Option Nat) (s : State) : networks (wakeMembers n src s) = networks s := by
  unfold wakeMembers
  generalize getNet n s = x
  dsimp only
  refine (forEach_keeps (p := networks) (fun ch t => ?_) _ _).trans ((forEach_keeps (p := networks) (fun ch t => ?_) _ _).trans (forEach_keeps (p := networks) (fun p t => ?_) _ s))
  · split
    · split
      · exact (networks_of_control (control_canRejoin t ch) :)
      · rfl
    · rfl
  · split
    · split
      · exact networks_of_control ((control_linPulse _ ch).trans (control_setLin t ch _))
      · rfl
    · rfl
  · split
    · exact (networks_wakePort _ _).trans (networks_wakePort p t)
    · rfl

theorem wakeNet_frame (n : Nat) (src : Option Nat) (s : State) :
    (wakeNet n src s).cyc = s.cyc ∧ (∀ k, k ≠ n → getNet k (wakeNet n src s) = getNet k s) ∧ getNet n (wakeNet n src s) = { getNet n s with mode := .wakeCheck, since := s.cyc, kaSeen := kaCount (getNet n s) s } := by
  have hmembers := networks_wakeMembers n src (setNet n { getNet n s with mode := .wakeCheck, since := s.cyc, kaSeen := kaCount (getNet n s) s } s)
  refine ⟨(congrArg Prod.snd hmembers :), fun k hk => ?_, ?_⟩
  · exact (getNet_of_networks hmembers k).trans (getNet_setNet_other hk _ s)
  · exact (getNet_of_networks hmembers n).trans (getNet_setNet_same n _ s)

theorem keepAwake_record (n : Nat) (s : State) : (getNet n (keepAwake n s)).record = (getNet n s).record := by
  obtain ⟨-, -, -, hself⟩ := roundFails_frame n s
  unfold keepAwake
  dsimp only
  split
  · rfl
  · split
    · rw [hself]
    · rfl
    · rw [getNet_setNet_same]

/-- A hold changes its own network alone, and an enabled one is awake from now on (R395). -/
theorem applyHold_frame (n : Nat) (s : State) :
    (applyHold n s).cyc = s.cyc ∧ (∀ k, k ≠ n → getNet k (applyHold n s) = getNet k s) ∧ (getNet n (applyHold n s)).record = (getNet n s).record
    ∧ ((getNet n s).enabled = true → (getNet n (applyHold n s)).mode = .awake ∧ (getNet n (applyHold n s)).since = s.cyc) := by
  obtain ⟨hcyc, -, hothers, hself⟩ := keepAwake_frame n s
  unfold applyHold
  dsimp only
  split
  next hoff => exact ⟨rfl, fun _ _ => rfl, rfl, fun hen => by rw [hen] at hoff; exact absurd hoff (by decide)⟩
  split
  next hasleep =>
    obtain ⟨hcyc', hothers', hself'⟩ := wakeNet_frame n none s
    obtain ⟨hcyc'', -, hothers'', hself''⟩ := keepAwake_frame n (wakeNet n none s)
    rw [hself'] at hself''
    refine ⟨hcyc''.trans hcyc', fun k hk => (hothers'' k hk).trans (hothers' k hk), (keepAwake_record n _).trans (by rw [hself']), fun hen => ?_⟩
    obtain ⟨-, hmode, hsince⟩ := hself'' hen (fun h => by cases h)
    exact ⟨hmode, hsince.trans hcyc'⟩
  next hnot => exact ⟨hcyc, hothers, keepAwake_record n s, fun hen => (hself hen hnot).2⟩

/-- A pin's round over one network. -/
def pinHold (pin n : Nat) (s : State) : State :=
  if (getNet n s).record.getLsbD (121 - pin) then applyHold n (setNet n { getNet n s with kaNext := s.cyc } s) else s

theorem pinHolds_eq (pin : Nat) (s : State) : pinHolds pin s = forUpTo 16 (pinHold pin) s := rfl

theorem pinHolds_none {pin : Nat} {s : State} (h : ∀ n < 16, (getNet n s).record.getLsbD (121 - pin) = false) : pinHolds pin s = s := by
  rw [pinHolds_eq]
  exact forEach_id fun n hn => if_neg (by rw [h n (List.mem_range.mp hn)]; decide)

theorem pinHold_frame (pin n : Nat) (s : State) : (pinHold pin n s).cyc = s.cyc ∧ (∀ k, k ≠ n → getNet k (pinHold pin n s) = getNet k s) ∧ (getNet n (pinHold pin n s)).record = (getNet n s).record
    ∧ ((getNet n s).record.getLsbD (121 - pin) = true → (getNet n s).enabled = true → (getNet n (pinHold pin n s)).mode = .awake ∧ (getNet n (pinHold pin n s)).since = s.cyc) := by
  obtain ⟨hcyc, hothers, hrecord, hself⟩ := applyHold_frame n (setNet n { getNet n s with kaNext := s.cyc } s)
  rw [getNet_setNet_same] at hrecord hself
  unfold pinHold
  split
  next hheld => exact ⟨hcyc, fun k hk => (hothers k hk).trans (getNet_setNet_other hk _ s), hrecord, fun _ hen => hself hen⟩
  next hnot => exact ⟨rfl, fun _ _ => rfl, rfl, fun hheld => absurd hheld hnot⟩

/-- Every enabled network that a pin holds is awake from now on. -/
theorem pinHolds_reaches {pin n : Nat} {s : State} (hn : n < 16) (hheld : (getNet n s).record.getLsbD (121 - pin) = true) (hen : (getNet n s).enabled = true) :
    (getNet n (pinHolds pin s)).mode = .awake ∧ (getNet n (pinHolds pin s)).since = s.cyc ∧ (getNet n (pinHolds pin s)).record = (getNet n s).record := by
  have henabled : ∀ t, (getNet n t).record = (getNet n s).record → (getNet n t).enabled = true := fun t h => by rw [← hen, Net.enabled, Net.enabled, h]
  have hround : ∀ t, (getNet n t).record = (getNet n s).record → t.cyc = s.cyc → (getNet n (pinHold pin n t)).mode = .awake ∧ (getNet n (pinHold pin n t)).since = s.cyc := fun t hrec hcyc => by
    obtain ⟨-, -, -, hself⟩ := pinHold_frame pin n t
    rw [hcyc] at hself
    exact hself (hrec ▸ hheld) (henabled t hrec)
  have hkeep : ∀ a t, (getNet n t).record = (getNet n s).record ∧ t.cyc = s.cyc → (getNet n (pinHold pin a t)).record = (getNet n s).record ∧ (pinHold pin a t).cyc = s.cyc := fun a t ⟨hrec, hcyc⟩ => by
    obtain ⟨hcyc', hothers, hrecord, -⟩ := pinHold_frame pin a t
    rcases Decidable.em (n = a) with rfl | hna
    · exact ⟨hrecord.trans hrec, hcyc'.trans hcyc⟩
    · rw [hothers n hna]
      exact ⟨hrec, hcyc'.trans hcyc⟩
  have hreached := forEach_reaches (P := fun t => (getNet n t).record = (getNet n s).record ∧ t.cyc = s.cyc)
    (Q := fun t => ((getNet n t).record = (getNet n s).record ∧ t.cyc = s.cyc) ∧ (getNet n t).mode = .awake ∧ (getNet n t).since = s.cyc) (f := pinHold pin) (n := n) hkeep
    (fun t ht => ⟨hkeep n t ht, hround t ht.1 ht.2⟩)
    (fun a t ht => by
      refine ⟨hkeep a t ht.1, ?_⟩
      rcases Decidable.em (n = a) with rfl | hna
      · exact hround t ht.1.1 ht.1.2
      · obtain ⟨-, hothers, -⟩ := pinHold_frame pin a t
        rw [hothers n hna]
        exact ht.2)
    (List.mem_range.mpr hn) (s := s) ⟨rfl, rfl⟩
  obtain ⟨⟨hrec, -⟩, hmode, hsince⟩ := hreached
  exact ⟨hmode, hsince, hrec⟩

/-! Wake sources recorded (R256, R404, R409) -/

/-- What a wake that is recorded leaves. -/
def Recorded (r : WakeRecord) (s t : State) : Prop :=
  (s.edge.wakeRec.cause = 0 → t.edge.wakeRec = r ∧ t.pwr.causeNow = r.cause ∧ t.pwr.instNow = r.channel) ∧ (lightsGoing s = true → t.pwr.wakeLatched = true)
    ∧ (lightsGoing s = false → s.pwr.state = .deep → t.pwr.wakePending = true) ∧ t.fab = s.fab ∧ t.pwr.nets = s.pwr.nets

theorem recordWake_frame (r : WakeRecord) (s : State) :
    (s.edge.wakeRec.cause = 0 → (recordWake r s).edge.wakeRec = r ∧ (recordWake r s).pwr.causeNow = r.cause ∧ (recordWake r s).pwr.instNow = r.channel)
    ∧ (recordWake r s).fab = s.fab ∧ (recordWake r s).pwr.nets = s.pwr.nets ∧ (recordWake r s).pwr.pinsHigh = s.pwr.pinsHigh ∧ (recordWake r s).pwr.state = s.pwr.state := by
  unfold recordWake
  dsimp only
  split
  · exact ⟨fun _ => ⟨rfl, rfl, rfl⟩, rfl, rfl, rfl, rfl⟩
  next hlater => exact ⟨fun hnone => absurd (by rw [hnone]; rfl) hlater, rfl, rfl, rfl, rfl⟩

/-- A wake source in DEEP or on the way there, or during a boot from OFF, is recorded. -/
theorem registerWake_records {r : WakeRecord} {s : State} (h : lightsGoing s = true ∨ s.pwr.state = .deep ∨ startsUp s = true) :
    Recorded r s (registerWake r s) ∧ (registerWake r s).pwr.pinsHigh = s.pwr.pinsHigh ∧ (registerWake r s).pwr.state = s.pwr.state := by
  unfold registerWake
  split
  next hlights =>
    obtain ⟨hrec, hfab, hnets, hpins, hstate⟩ := recordWake_frame r (bump .pwrWakeLatched 0 s)
    exact ⟨⟨hrec, fun _ => rfl, fun hnot => absurd (hnot.symm.trans hlights) (by decide), hfab, hnets⟩, hpins, hstate⟩
  next hdark =>
    have hnot : lightsGoing s = false := Bool.eq_false_iff.mpr hdark
    obtain ⟨hrec, hfab, hnets, hpins, hstate⟩ := recordWake_frame r s
    split
    next hdeep => exact ⟨⟨hrec, fun hlights => absurd (hnot.symm.trans hlights) (by decide), fun _ _ => rfl, hfab, hnets⟩, hpins, hstate⟩
    next hawake =>
      have hstarts : startsUp s = true := (h.resolve_left hdark).resolve_left hawake
      rw [if_pos hstarts]
      exact ⟨⟨hrec, fun hlights => absurd (hnot.symm.trans hlights) (by decide), fun _ hdeep => absurd hdeep hawake, hfab, hnets⟩, hpins, hstate⟩

theorem registerWake_not {r : WakeRecord} {s : State} (h : ¬ (lightsGoing s = true ∨ s.pwr.state = .deep)) (hstarts : startsUp s = false) : registerWake r s = s := by
  obtain ⟨hdark, hawake⟩ := not_or.mp h
  exact (if_neg hdark).trans ((if_neg hawake).trans (if_neg (by rw [hstarts]; decide)))

/-- Whether a decoder reads RXD depends on DEEP, and on the way there. -/
theorem asleep_of_decoderOn {ch : Nat} {s : State} (h : decoderOn ch s = true) : lightsGoing s = true ∨ s.pwr.state = .deep := by
  have hboth := (Bool.and_eq_true_iff.mp h).1
  simpa using hboth

section
variable {ch : Nat} {s : State} (hon : decoderOn ch s = true)
include hon

theorem selectiveFrame_other {m : CanMsg} {e : Bool} (h : bits (wakeRecord ch s) 191 190 ≠ 2) : selectiveFrame ch m e s = oscillates s :=
  (if_neg (by rw [hon]; decide)).trans (if_pos h)

/-- A frame at a decoder in selective wake: a wake-up frame, or the 32nd error, is a wake. -/
theorem selectiveFrame_counts {m : CanMsg} {e : Bool} (h : bits (wakeRecord ch s) 191 190 = 2) :
    selectiveFrame ch m e s =
      let s1 := oscillates (setWake ch { getWake ch s with errors := wakeCount (wakeRecord ch s) (getWake ch s).errors m e } s)
      if !e ∧ wufMatches (wakeRecord ch s) m then registerWake { channel := ch, cause := 1, dlc := m.dlc, ident := m.ident, data := m.data, aoCount := aoCount s } s1
      else if wakeCount (wakeRecord ch s) (getWake ch s).errors m e ≥ 32 then registerWake { channel := ch, cause := 2 } s1 else s1 :=
  (if_neg (by rw [hon]; decide)).trans (if_neg (not_not_intro h))

theorem wupWake_on : wupWake ch s = if bits (wakeRecord ch s) 191 190 = 1 then registerWake { channel := ch, cause := 3 } (oscillates s) else oscillates s := if_neg (by rw [hon]; decide)

end

/-! The wake from DEEP (R405-R407) -/

/-- The Keeper and the boot. -/
def keeperBoot (s : State) : Keeper × Boot := (s.kpr, s.boot)

theorem keeperBoot_of_control {s t : State} (h : control t = control s) : keeperBoot t = keeperBoot s := (congrArg (fun x => (x.2.2.1, x.2.2.2.1)) h :)

theorem keeperBoot_of_lampSide {s : State} {fs : List (Nat × Nat)} {l : Lamp} {k : Keeper} {b : Boot} {n : Nat} (h : lampSide s = (fs, l, k, b, n)) : keeperBoot s = (k, b) := (congrArg (fun x => (x.2.2.1, x.2.2.2.1)) h :)

theorem keeperBoot_wakePort (p : Nat) (s : State) : keeperBoot (wakePort p s) = keeperBoot s := by
  unfold wakePort relayTo
  split
  · split <;> rfl
  · rfl

theorem keeperBoot_wakeNet (n : Nat) (src : Option Nat) (s : State) : keeperBoot (wakeNet n src s) = keeperBoot s := by
  unfold wakeNet wakeMembers
  generalize getNet n (setNet n { getNet n s with mode := .wakeCheck, since := s.cyc, kaSeen := kaCount (getNet n s) s } s) = x
  dsimp only
  refine (forEach_keeps (p := keeperBoot) (fun ch t => ?_) _ _).trans ((forEach_keeps (p := keeperBoot) (fun ch t => ?_) _ _).trans (forEach_keeps (p := keeperBoot) (fun p t => ?_) _ _))
  · split
    · split
      · exact (keeperBoot_of_control (control_canRejoin t ch) :)
      · rfl
    · rfl
  · split
    · split
      · exact keeperBoot_of_control ((control_linPulse _ ch).trans (control_setLin t ch _))
      · rfl
    · rfl
  · split
    · exact (keeperBoot_wakePort _ _).trans (keeperBoot_wakePort p t)
    · rfl

theorem keeperBoot_restoreNets (s : State) : keeperBoot (restoreNets s) = keeperBoot s := by
  unfold restoreNets
  generalize (if s.pwr.causeNow = 7 then some s.pwr.instNow else none) = src
  dsimp only
  refine (forEach_keeps (p := keeperBoot) (fun ch t => ?_) _ _).trans ((forEach_keeps (p := keeperBoot) (fun ch t => ?_) _ _).trans ((forEach_keeps (p := keeperBoot) (fun n t => ?_) _ _).trans (forEach_keeps (p := keeperBoot) (fun e t => ?_) _ _)))
  · split
    · exact keeperBoot_of_control (control_canSleep t ch)
    · rfl
  · split
    · exact keeperBoot_of_control (control_linPulse t ch)
    · rfl
  · split
    · exact keeperBoot_wakeNet n _ t
    · rfl
  · rfl

theorem keeperBoot_restorePower (s : State) : keeperBoot (restorePower s) = keeperBoot s := by
  unfold restorePower
  split
  · rfl
  · dsimp only
    refine (forEach_keeps (p := keeperBoot) (fun q t => ?_) _ _).trans ?_
    · split
      · rfl
      · rfl
    · split
      · rfl
      · exact (keeperBoot_of_control (control_edgeOff _)).trans rfl

/-- The state at the completion of a load, with its Keeper started. -/
def loadedState (s : State) : State :=
  let s1 := setBoot { s.boot with booted := true } { s with bod := { s.bod with mode := .service } }
  setKpr { s1.kpr with up := true, testPassed := true, wdActive := true, wdFrom := s1.cyc } s1

theorem finishBoot_eq (s : State) : finishBoot s =
    if (loadedState s).lamp.safe then enterSafe (setLamp { (loadedState s).lamp with safe := false, restarted := !(loadedState s).lamp.codes.isEmpty } (loadedState s)) else driveFault false (loadedState s) := rfl

theorem keeperBoot_woken (s : State) : keeperBoot (restoreNets (forUpTo 16 setTransceiver (restorePower s))) = keeperBoot s :=
  (keeperBoot_restoreNets _).trans ((keeperBoot_of_control (control_forUpTo _ (fun ch t => control_setTransceiver t ch) 16)).trans (keeperBoot_restorePower s))

/-- The Keeper runs and the boot is complete once the image is loaded (R481). -/
theorem finishBoot_frame (s : State) : (finishBoot s).kpr.up = true ∧ (finishBoot s).kpr.wdActive = true ∧ (finishBoot s).boot.booted = true := by
  have hloaded : (loadedState s).kpr.up = true ∧ (loadedState s).kpr.wdActive = true ∧ (loadedState s).boot.booted = true := ⟨rfl, rfl, rfl⟩
  rw [finishBoot_eq]
  generalize loadedState s = v at hloaded
  split
  · obtain ⟨l, hside, -⟩ := enterSafe_lamp (setLamp { v.lamp with safe := false, restarted := !v.lamp.codes.isEmpty } v)
    obtain ⟨-, -, hkpr, hboot, -⟩ := lampSide_eq hside
    rw [hkpr, hboot]
    exact hloaded
  · unfold driveFault
    split
    · exact hloaded
    · exact hloaded

theorem deepWake_not {s : State} (h : s.pwr.state ≠ .deep ∨ s.pwr.wakePending = false ∨ s.pwr.vinLow = true) : deepWake s = s := if_pos (h.imp_right (Or.imp_left (congrArg not)))

theorem deepWake_eq {s : State} (hdeep : s.pwr.state = .deep) (hpending : s.pwr.wakePending = true) (hvin : s.pwr.vinLow = false) : ∃ u, deepWake s = match bootBank u with
    | none => enterRecovery (setPwr { u.pwr with state := .run } u)
    | some b => restoreNets (forUpTo 16 setTransceiver (restorePower (finishBoot (loadImage (powerAll (takeBank b (setPwr { u.pwr with state := .run } u))))))) :=
  ⟨_, if_neg (by simp [hdeep, hpending, hvin])⟩

/-- A wake from DEEP ends with the Keeper running. -/
theorem deepWake_runs {s : State} (hdeep : s.pwr.state = .deep) (hpending : s.pwr.wakePending = true) (hvin : s.pwr.vinLow = false) :
    (deepWake s).kpr.up = true ∧ (deepWake s).kpr.wdActive = true ∧ ((deepWake s).boot.booted = true ∨ (deepWake s).kpr.recovery = true) := by
  obtain ⟨u, heq⟩ := deepWake_eq hdeep hpending hvin
  rw [heq]
  cases bootBank u with
  | none =>
    obtain ⟨-, hup, hrecovery, -, hwatched⟩ := enterRecovery_frame (setPwr { u.pwr with state := .run } u)
    exact ⟨hup, hwatched, Or.inr hrecovery⟩
  | some b =>
    obtain ⟨hup, hwatched, hbooted⟩ := finishBoot_frame (loadImage (powerAll (takeBank b (setPwr { u.pwr with state := .run } u))))
    obtain ⟨hkpr, hboot⟩ := Prod.mk.inj (keeperBoot_woken (finishBoot (loadImage (powerAll (takeBank b (setPwr { u.pwr with state := .run } u))))))
    exact ⟨(congrArg Keeper.up hkpr).trans hup, (congrArg Keeper.wdActive hkpr).trans hwatched, Or.inl ((congrArg Boot.booted hboot).trans hbooted)⟩

end Sys2Proof.Machine
end

section
/-! Proofs/Resets: what a reset of the module leaves, and what the start of a boot changes (R317, R352, R418, R475-R477, R503). -/

namespace Sys2Proof.Machine
open Sys2Proof.Claims

/-! Pins at their levels in reset (R503) -/

/-- The state with everything blanked that the levels of pins are: the trace and the edge. -/
def besideEdge (s : State) : State := { s with out := [], edge := {} }

theorem besideEdge_driveTransceiver (ch : Nat) (stb en : Bool) (s : State) : besideEdge (driveTransceiver ch stb en s) = besideEdge s := by
  unfold driveTransceiver
  generalize getCan ch s = c
  dsimp only
  split
  · split <;> rfl
  · split <;> rfl

theorem besideEdge_marksLow (s : State) : besideEdge (marksLow s) = besideEdge s := by
  refine forEach_keeps (p := besideEdge) (fun o t => ?_) _ s
  split
  · rfl
  · rfl

theorem besideEdge_twinPinsIdle (s : State) : besideEdge (twinPinsIdle s) = besideEdge s := by
  unfold twinPinsIdle
  dsimp only
  split
  · split <;> rfl
  · split <;> rfl

theorem besideEdge_pinsIdle (s : State) : besideEdge (pinsIdle s) = besideEdge s :=
  (forEach_keeps (p := besideEdge) (fun ch t => besideEdge_driveTransceiver ch false false t) (List.range 16) (marksLow (twinPinsIdle s))).trans ((besideEdge_marksLow _).trans (besideEdge_twinPinsIdle s))

theorem agree_of_besideEdge {s t : State} (h : besideEdge t = besideEdge s) : t.pending = s.pending ∧ t.boot = s.boot ∧ t.lamp = s.lamp ∧ t.counters = s.counters ∧ t.pwr = s.pwr ∧ t.bcn = s.bcn :=
  ⟨(congrArg State.pending h :), (congrArg State.boot h :), (congrArg State.lamp h :), (congrArg State.counters h :), (congrArg State.pwr h :), (congrArg State.bcn h :)⟩

/-! The start of a boot (R273, R280, R475, R481) -/

/-- The state with everything blanked that the recovery of the key slots and a pending lifecycle transition change: the Thimble, the debug state, the transports' keys, and what is counted, raised and detected. -/
def besideThimble (s : State) : State :=
  { s with counters := [], raised := [], faults := [], thm := {}, dbg := {}, yel := { s.yel with placket := {}, vlan := {}, mspi := {} } }

section
variable (s : State)

theorem besideThimble_bumpBy (n : Nat) (c : Ctr) (i : Nat) : besideThimble (bumpBy n c i s) = besideThimble s := (rfl)
theorem besideThimble_setSlot (n : Nat) (x : SlotSt) : besideThimble (setSlot n x s) = besideThimble s := (rfl)
theorem besideThimble_raiseEv (e : Ev) (i : Nat) (d : List Byte) : besideThimble (raiseEv e i d s) = besideThimble s := (rfl)
theorem besideThimble_detectFault (m i : Nat) : besideThimble (detectFault m i s) = besideThimble s := (rfl)
theorem besideThimble_transports (a b c : Trans) : besideThimble { s with yel := { s.yel with placket := a, vlan := b, mspi := c } } = besideThimble s := (rfl)
theorem besideThimble_debug (x : Debug) : besideThimble { s with dbg := x } = besideThimble s := (rfl)
theorem besideThimble_killed (x : BitVec 4) : besideThimble { s with thm := { s.thm with killed := x } } = besideThimble s := (rfl)
theorem besideThimble_burnLog (i : Nat) (e : BitVec 8) : besideThimble (burnLog i e s) = besideThimble s := (rfl)

theorem besideThimble_recoverSlot (n : Nat) : besideThimble (recoverSlot n s) = besideThimble s := by
  unfold recoverSlot
  dsimp only
  split
  · rw [besideThimble_bumpBy, besideThimble_setSlot]
  · rw [besideThimble_detectFault, besideThimble_raiseEv, besideThimble_setSlot]

theorem besideThimble_updateSlot {n : Nat} {new : Option (List Byte × BitVec 128)} {t : State} (h : updateSlot n new s = some t) : besideThimble t = besideThimble s := by
  unfold updateSlot at h
  dsimp only at h
  split at h
  · cases h
  · rw [← Option.some.inj h]
    exact (besideThimble_transports _ _ _ _).trans (besideThimble_setSlot s n _)

theorem besideThimble_destroySlot (n : Nat) : besideThimble (destroySlot n s) = besideThimble s := by
  unfold destroySlot
  split
  next h => exact besideThimble_updateSlot s h
  · exact besideThimble_setSlot s n _

theorem besideThimble_lcDestroy (row : LcRow) : besideThimble (lcDestroy row s) = besideThimble s := by
  have hround : ∀ (hit : Bool) (n : Nat) (t : State), besideThimble (if hit then destroySlot n t else t) = besideThimble t := fun hit n t => by
    cases hit with
    | true => exact besideThimble_destroySlot t n
    | false => rfl
  exact (besideThimble_killed _ _).trans (forEach_keeps (p := besideThimble) (fun n t => hround _ n t) (List.range 64) s)

theorem besideThimble_lcRedo : besideThimble (lcRedo s) = besideThimble s := by
  unfold lcRedo
  dsimp only
  split
  · rfl
  · split
    · rfl
    · split
      · rw [bump, besideThimble_bumpBy, besideThimble_burnLog, besideThimble_lcDestroy]
      · rw [besideThimble_burnLog]

theorem besideThimble_recoverSlots : besideThimble (recoverSlots s) = besideThimble s := forEach_keeps (p := besideThimble) (fun n t => besideThimble_recoverSlot t n) _ s

/-- A boot that begins is counted, with its source. -/
theorem besideThimble_beginBoot (last : Nat) (strap : Bool) :
    besideThimble (beginBoot last strap s) = besideThimble (setBoot { s.boot with count := s.boot.count + 1, last := last, strap := strap } s) := by
  unfold beginBoot
  exact (besideThimble_debug _ _).trans ((besideThimble_lcRedo _).trans (besideThimble_recoverSlots _))

end

/-! What a reset leaves (R475-R477) -/

/-- A port as a reset leaves it. -/
def PortReset (p : Nat) (q : PortSt) : Prop := q.up = false ∧ q.record = portRecordReset p

theorem portReset_reset (p : Nat) (x : Option StoredSet) : PortReset p { portReset p with stored := x } := by
  unfold PortReset portReset
  exact ⟨rfl, rfl⟩

theorem coldPorts (l : SMap PortSt) : ∀ m : SMap PortSt, (∀ p, PortReset p (mapGet (portReset p) m p)) →
    ∀ p, PortReset p (mapGet (portReset p) (l.foldl (fun m e => mapSet (portReset e.1) m e.1 { portReset e.1 with stored := e.2.stored }) m) p) := by
  induction l with
  | nil => exact fun m h => h
  | cons e l ih =>
    intro m h
    rw [List.foldl_cons]
    refine ih _ fun p => ?_
    rcases Decidable.em (p = e.1) with rfl | hp
    · rw [mapGet_mapSet_same]
      exact portReset_reset e.1 e.2.stored
    · rw [mapGet_mapSet_apart _ _ _ _ hp]
      exact h p

/-- What is left where only MRAM, OTP and the pins' levels remain. -/
def Chilled (v t : State) : Prop :=
  t.pending = v.pending ∧ t.boot.booted = false ∧ t.boot.count = v.boot.count ∧ t.boot.banks = v.boot.banks ∧ t.boot.copies = v.boot.copies
    ∧ t.pwr.state = .run ∧ t.pwr.powered = 0x4003 ∧ t.pwr.transition = none ∧ t.kpr.up = false ∧ t.yel.waiting = none ∧ t.yel.queue = [] ∧ t.fab = State.reset.fab ∧ t.sch = State.reset.sch ∧ t.pat = State.reset.pat
    ∧ t.sel = State.reset.sel ∧ t.twin = State.reset.twin ∧ ∀ p, PortReset p (getPort p t)

theorem chilled_coldState (s : State) : Chilled s (coldState (pinsIdle s)) := by
  obtain ⟨hpending, hboot, -⟩ := agree_of_besideEdge (besideEdge_pinsIdle s)
  generalize pinsIdle s = u at hpending hboot
  exact ⟨hpending, rfl, (congrArg Boot.count hboot :), (congrArg Boot.banks hboot :), (congrArg Boot.copies hboot :), rfl, rfl, rfl, rfl, rfl, rfl, rfl, rfl, rfl, rfl, rfl, coldPorts u.ports [] fun p => portReset_reset p none⟩

/-- A boot as it begins after a reset. -/
def FreshBoot (v t : State) (last : Nat) (strap : Bool) : Prop :=
  t.pending = v.pending ∧ t.boot.booted = false ∧ t.boot.count = v.boot.count + 1 ∧ t.boot.last = last ∧ t.boot.strap = strap ∧ t.boot.banks = v.boot.banks ∧ t.boot.copies = v.boot.copies
    ∧ t.pwr.state = .run ∧ t.pwr.powered = 0x4003 ∧ t.pwr.transition = none ∧ t.kpr.up = false ∧ t.yel.waiting = none ∧ t.yel.queue = [] ∧ t.lamp.faultN = true ∧ t.fab = State.reset.fab ∧ t.sch = State.reset.sch ∧ t.pat = State.reset.pat
    ∧ t.sel = State.reset.sel ∧ t.twin = State.reset.twin ∧ ∀ p < 27, (getPort p t).up = false ∧ (getPort p t).record = portRecordReset p

theorem beginBoot_fresh {v w : State} {last : Nat} {strap : Bool} (h : Chilled v w) (hfault : w.lamp.faultN = true) : FreshBoot v (beginBoot last strap w) last strap := by
  obtain ⟨hpending, hbooted, hcount, hbanks, hcopies, hstate, hpowered, htrans, hup, hwaiting, hqueue, hfab, hsch, hpat, hsel, htwin, hports⟩ := h
  have hboot := besideThimble_beginBoot w last strap
  generalize beginBoot last strap w = t at hboot
  have hb : t.boot = { w.boot with count := w.boot.count + 1, last := last, strap := strap } := (congrArg State.boot hboot :)
  have hp : t.ports = w.ports := (congrArg State.ports hboot :)
  rw [FreshBoot, hb]
  refine ⟨(congrArg State.pending hboot :).trans hpending, hbooted, congrArg (· + 1) hcount, rfl, rfl, hbanks, hcopies, (congrArg (fun x => x.pwr.state) hboot :).trans hstate, (congrArg (fun x => x.pwr.powered) hboot :).trans hpowered,
    (congrArg (fun x => x.pwr.transition) hboot :).trans htrans, (congrArg (fun x => x.kpr.up) hboot :).trans hup, (congrArg (fun x => x.yel.waiting) hboot :).trans hwaiting, (congrArg (fun x => x.yel.queue) hboot :).trans hqueue,
    (congrArg (fun x => x.lamp.faultN) hboot :).trans hfault, (congrArg State.fab hboot :).trans hfab, (congrArg State.sch hboot :).trans hsch, (congrArg State.pat hboot :).trans hpat, (congrArg State.sel hboot :).trans hsel,
    (congrArg State.twin hboot :).trans htwin, fun p _ => ?_⟩
  rw [getPort_of_ports hp]
  exact hports p

/-- Asserting FAULT_N is of the Lamp room alone. -/
theorem driveFault_same (on : Bool) (s : State) : { driveFault on s with out := s.out, lamp := s.lamp } = s ∧ (driveFault on s).lamp = { s.lamp with faultN := on } := by
  unfold driveFault
  split
  next h => exact ⟨rfl, by rw [← h]⟩
  · exact ⟨rfl, rfl⟩

theorem chilled_driveFault {v s : State} {on : Bool} (h : Chilled v s) : Chilled v (driveFault on s) := by
  unfold Chilled at h ⊢
  unfold driveFault
  split
  · exact h
  · exact h

theorem chilled_supply {v s : State} {low : Bool} {at_ : Option Nat} (h : Chilled v s) : Chilled v (setPwr { s.pwr with vinLow := low, crankAt := at_ } s) := by
  unfold Chilled at h ⊢
  exact h

/-- A power-on reset begins a boot (R475). -/
theorem powerOn_fresh (strap : Bool) (s : State) : FreshBoot s (powerOn strap s) 0 strap :=
  beginBoot_fresh (chilled_driveFault (chilled_supply (chilled_coldState s))) (driveFault_frame true _).1

end Sys2Proof.Machine
end

section
/-! Proofs/ClockPowerAndWakeEvents: the clauses about clocks, power domains and wake sources (R254-R256, R260, R377-R411). -/

namespace Sys2Proof.Machine
open Sys2Proof.Claims

theorem domainSwitched_idle {d : Nat} {s : State} (h : s.pwr.transition = none) : domainSwitched d s = s := by simp only [domainSwitched, h]

theorem lightsGoing_of {s : State} {x : Transition} (h : s.pwr.transition = some x) : lightsGoing s = x.lights := by simp only [lightsGoing, h]

theorem quadState_setQuad_same (q : Nat) (x : QuadState) (s : State) : mapGet .off (setQuad q x s).fab.quads q = x := mapGet_mapSet_same .off s.fab.quads q x

/-- EDGE is domain 13: another domain that comes on leaves it as it was. -/
theorem edgeBit_of_or {d : Nat} {m : BitVec 16} (h13 : d ≠ 13) (h : (m ||| BitVec.twoPow 16 d).getLsbD 13 = true) : m.getLsbD 13 = true := by
  rw [BitVec.getLsbD_or, BitVec.getLsbD_twoPow, Bool.or_eq_true] at h
  refine h.resolve_right fun htwo => h13 ?_
  simpa using (Bool.and_eq_true_iff.mp htwo).2

/-- What a switched domain does to a transition that goes on or ends. -/
theorem domainSwitchedClauses (s : State) (dom : Domain) :
    let w := s.pwr
    let d := dom.val
    let bit : BitVec 16 := BitVec.twoPow 16 d
    let settled := ∀ n < 16, (getNet n s).mode ≠ .consent
    (w.transition = none → Completes (.domainSwitched dom) s s)
      ∧ (∀ x, w.transition = some x → x.lights = false → (x.offs ||| x.ons).getLsbD d = false → Completes (.domainSwitched dom) s s)
      ∧ (∀ x, w.transition = some x → x.lights = false → x.offs.getLsbD d = true →
          (2 ≤ d → d ≤ 5 → quadState (d - 2) s ≠ .off → Completes (.domainSwitched dom) s s)
          ∧ (settled → d ≠ 0 → (d < 2 ∨ 5 < d ∨ quadState (d - 2) s = .off) → (x.offs &&& ~~~bit ≠ 0 ∨ x.ons ≠ 0) → Completes (.domainSwitched dom) s (withDomainOff d x s)))
      ∧ (∀ x, w.transition = some x → x.lights = false → x.offs.getLsbD d = false → x.ons.getLsbD d = true →
          (settled → (d < 2 ∨ 5 < d) → d ≠ 13 → (x.offs ≠ 0 ∨ x.ons &&& ~~~bit ≠ 0) → Completes (.domainSwitched dom) s (withDomainOn d x s))
          ∧ (settled → x.offs = 0 → x.ons = bit → ∃ t, Completes (.domainSwitched dom) s t ∧ t.pwr.transition = none ∧ t.pwr.state = x.target ∧ t.pwr.powered = w.powered ||| bit
              ∧ (2 ≤ d → d ≤ 5 → quadState (d - 2) t = .on)))
      ∧ (∀ x, w.transition = some x → x.lights = true → x.ons = 0 → x.offs = bit →
          (x.target = .deep → d ≠ 0 → ∃ t, Completes (.domainSwitched dom) s t ∧ t.pwr.state = .deep ∧ t.pwr.powered = 1 ∧ t.pwr.transition = none ∧ t.pwr.wakePending = (domainOff d s).pwr.wakeLatched ∧ t.lamp.faultN = false)
          ∧ (x.target = .off → d = 0 → w.pinsHigh.getLsbD 0 = false → ∃ t, Completes (.domainSwitched dom) s t ∧ t.pwr.state = .off ∧ t.pwr.powered = 0 ∧ t.pwr.transition = none ∧ t.lamp.faultN = false)) := by
  intro w d bit settled
  have hd16 : d < 16 := dom.isLt
  have hcompletes : ∀ t, switched d s = t → Completes (.domainSwitched dom) s t := fun t ht => congrArg ends ht
  have hsame : domainSwitched d s = s → afterSwitch s (domainSwitched d s) = s := fun h => by rw [h]; exact afterSwitch_same
  obtain ⟨hoffPwr, -⟩ := agree_of_control (control_domainOff d s)
  have hbitSelf : bit.getLsbD d = true := by simp [bit, hd16]
  have hbitClear : bit &&& ~~~bit = 0 := BitVec.and_not_self bit
  refine ⟨fun hnone => hcompletes _ (switched_idle (hsame (domainSwitched_idle hnone)) hnone), fun x hx hlights hother => hcompletes _ (switched_going (hsame (domainSwitched_other hx hother)) hx hlights), fun x hx hlights hoff => ⟨?_, ?_⟩,
    fun x hx hlights hoff hon => ⟨?_, ?_⟩, fun x hx hlights hons hoffs => ⟨?_, ?_⟩⟩
  · intro h2 h5 hbusy
    exact hcompletes _ (switched_going (hsame (domainSwitched_waits hx hoff (by simp [h2, h5, hlights, hbusy]))) hx hlights)
  · intro hset h0 hdrained hleft
    have hgoes : ((decide (2 ≤ d) && decide (d ≤ 5) && !x.lights && quadState (d - 2) s != .off) || (d == 0 && x.offs != 1)) = false := by
      rcases hdrained with hlow | hhigh | hquad
      · simp [h0, Nat.not_le.mpr hlow]
      · simp [h0, Nat.not_le.mpr hhigh]
      · simp [h0, hquad]
    have hact : domainSwitched d s = withDomainOff d x s := (domainSwitched_off hx hoff hgoes).trans (finishTransition_going rfl (hleft.imp id Or.inl))
    have hnets : (withDomainOff d x s).pwr.nets = s.pwr.nets := (congrArg Power.nets hoffPwr :)
    have hedge : edgePowered (withDomainOff d x s) = true → edgePowered s = true := fun h => by
      have hbit : ((domainOff d s).pwr.powered &&& ~~~(BitVec.twoPow 16 d)).getLsbD 13 = true := h
      rw [BitVec.getLsbD_and, hoffPwr] at hbit
      exact (Bool.and_eq_true_iff.mp hbit).1
    have hafter : afterSwitch s (domainSwitched d s) = withDomainOff d x s := by
      rw [hact]
      exact afterSwitch_settled (fun n hn => by rw [getNet_of_nets hnets]; exact hset n hn) hedge
    exact hcompletes _ (switched_going hafter rfl hlights)
  · intro hset hnotBolt h13 hleft
    have hon' : domainOn d (withDomainOn d x s) = withDomainOn d x s := if_neg (by omega)
    have hact : domainSwitched d s = withDomainOn d x s := by
      rw [domainSwitched_on hx hoff hon, hon']
      exact finishTransition_going rfl (hleft.imp id Or.inl)
    have hedge : edgePowered (withDomainOn d x s) = true → edgePowered s = true := fun h => edgeBit_of_or h13 h
    have hafter : afterSwitch s (domainSwitched d s) = withDomainOn d x s := by
      rw [hact]
      exact afterSwitch_settled (fun n hn => hset n hn) hedge
    exact hcompletes _ (switched_going hafter rfl hlights)
  · intro hset hoffs hons
    have hlast : x.ons &&& ~~~bit = 0 := by rw [hons]; exact hbitClear
    have honPwr : (domainOn d (withDomainOn d x s)).pwr = (withDomainOn d x s).pwr := by
      unfold domainOn
      split
      · rfl
      · rfl
    obtain ⟨htrans, hstate, hpowered, hnets, hfab⟩ := finishTransition_done (s := domainOn d (withDomainOn d x s)) (congrArg Power.transition honPwr) hoffs hlast hlights
    have hact : domainSwitched d s = finishTransition (domainOn d (withDomainOn d x s)) := domainSwitched_on hx hoff hon
    generalize hu : finishTransition (domainOn d (withDomainOn d x s)) = u at htrans hstate hpowered hnets hfab hact
    have hset' : ∀ n < 16, (getNet n u).mode ≠ .consent := fun n hn => by
      rw [getNet_of_nets (t := u) (s := s) (hnets.trans (congrArg Power.nets honPwr :))]
      exact hset n hn
    obtain ⟨hpwr, -⟩ := agree_of_control (afterSwitch_control (s := s) hset')
    rw [← hact] at hpwr
    refine ⟨_, hcompletes _ (switched_idle rfl ((congrArg Power.transition hpwr).trans (by rw [hact]; exact htrans))), ?_, ?_, ?_, fun h2 h5 => ?_⟩
    · rw [hpwr, hact]; exact htrans
    · rw [hpwr, hact]; exact hstate
    · rw [hpwr, hact, hpowered]; exact congrArg Power.powered honPwr
    · have hp : u.pwr.powered = s.pwr.powered ||| BitVec.twoPow 16 d := hpowered.trans (congrArg Power.powered honPwr :)
      have hedge : edgePowered u = true → edgePowered s = true := fun h => edgeBit_of_or (d := d) (by omega) (hp ▸ h)
      have hon' : domainOn d (withDomainOn d x s) = setQuad (d - 2) .on (withDomainOn d x s) := if_pos ⟨h2, h5⟩
      rw [hact, afterSwitch_settled hset' hedge, quadState, hfab, hon']
      exact quadState_setQuad_same (d - 2) .on _
  · intro htarget h0
    have hoff : x.offs.getLsbD d = true := by rw [hoffs]; exact hbitSelf
    have hact : domainSwitched d s = withDomainOff d x s :=
      (domainSwitched_off hx hoff (by simp [hlights, h0])).trans (finishTransition_going rfl (Or.inr (Or.inr hlights)))
    have hgoing : lightsGoing s = true := (lightsGoing_of hx).trans hlights
    have harrives : switched d s = arriveDeep (withDomainOff d x s) :=
      (switched_arrives ((afterSwitch_lights hgoing).trans hact) rfl hlights (by rw [hoffs]; exact hbitClear) hons).trans (if_neg (by rw [htarget]; decide))
    exact ⟨_, hcompletes _ harrives, arriveDeep_frame (withDomainOff d x s)⟩
  · intro htarget h0 hpin
    have hoff : x.offs.getLsbD d = true := by rw [hoffs]; exact hbitSelf
    have hone : x.offs = 1 := by rw [hoffs]; simp only [bit, h0]; rfl
    have hact : domainSwitched d s = withDomainOff d x s :=
      (domainSwitched_off hx hoff (by simp [hlights, hone])).trans (finishTransition_going rfl (Or.inr (Or.inr hlights)))
    have hgoing : lightsGoing s = true := (lightsGoing_of hx).trans hlights
    have harrives : switched d s = arriveOff (withDomainOff d x s) :=
      (switched_arrives ((afterSwitch_lights hgoing).trans hact) rfl hlights (by rw [hoffs]; exact hbitClear) hons).trans (if_pos htarget)
    have hpin' : (withDomainOff d x s).pwr.pinsHigh.getLsbD 0 = false := (congrArg (fun m => m.pinsHigh.getLsbD 0) hoffPwr).trans hpin
    exact ⟨_, hcompletes _ harrives, arriveOff_frame hpin'⟩

/-! Pins -/

section
variable {pin : Nat} {s : State}

theorem wakePinEdge_off (h : s.pwr.state = .off) : wakePinEdge pin s =
    if pin = 0 ∧ !s.pwr.vinLow then powerOn false (setPwr { s.pwr with pinsHigh := s.pwr.pinsHigh ||| BitVec.twoPow 2 pin } s) else setPwr { s.pwr with pinsHigh := s.pwr.pinsHigh ||| BitVec.twoPow 2 pin } s := by
  simp only [wakePinEdge, h]

theorem wakePinEdge_doze (h : s.pwr.state = .doze) : wakePinEdge pin s = leaveDoze (setPwr { s.pwr with pinsHigh := s.pwr.pinsHigh ||| BitVec.twoPow 2 pin } s) := by
  simp only [wakePinEdge, h]

theorem wakePinEdge_deep (h : s.pwr.state = .deep) : wakePinEdge pin s = registerWake { ({} : WakeRecord) with cause := 5 + pin } (setPwr { s.pwr with pinsHigh := s.pwr.pinsHigh ||| BitVec.twoPow 2 pin } s) := by
  simp only [wakePinEdge, h]

theorem wakePinEdge_awake (h : s.pwr.state = .run ∨ s.pwr.state = .trim) : wakePinEdge pin s =
    if lightsGoing (setPwr { s.pwr with pinsHigh := s.pwr.pinsHigh ||| BitVec.twoPow 2 pin } s) || startsUp (setPwr { s.pwr with pinsHigh := s.pwr.pinsHigh ||| BitVec.twoPow 2 pin } s) then
      registerWake { ({} : WakeRecord) with cause := 5 + pin } (setPwr { s.pwr with pinsHigh := s.pwr.pinsHigh ||| BitVec.twoPow 2 pin } s)
    else pinHolds pin (setPwr { s.pwr with pinsHigh := s.pwr.pinsHigh ||| BitVec.twoPow 2 pin } s) := by
  rcases h with hrun | htrim
  · simp only [wakePinEdge, hrun]
  · simp only [wakePinEdge, htrim]

theorem startsUp_run (h : startsUp s = true) : s.pwr.state = .run := by
  simp only [startsUp, Bool.and_eq_true, beq_iff_eq] at h
  obtain ⟨⟨⟨hrun, -⟩, -⟩, -⟩ := h
  exact hrun

end

theorem not_wuf {e : Bool} {r : BitVec 192} {m : CanMsg} (h : e = true ∨ wufMatches r m = false) : ¬ ((!e) = true ∧ wufMatches r m = true) := by
  rintro ⟨hgood, hmatch⟩
  rcases h with hbad | hmiss
  · rw [hbad] at hgood
    exact absurd hgood (by decide)
  · exact Bool.false_ne_true (hmiss.symm.trans hmatch)

/-- Settles O56: each event of clocks, domains and wake sources by its own law. -/
theorem clockPowerAndWakeEventsRun : Obligations.ClockPowerAndWakeEventsRun := by
  intro s w
  refine ⟨fun dom => ?domains, fun clock => ?clock, fun at_ => ?timed, fun hawake src => congrArg ends (if_neg hawake), fun hdoze => ?doze, fun pin => ?pin, ?wake⟩
  case domains =>
    intro d bit settled locked_
    obtain ⟨hidle, hother, hoff, hon, hlights⟩ := domainSwitchedClauses s dom
    refine ⟨fun hnot => congrArg ends (pllLocks_not hnot), fun hpowered hlost hkeep => congrArg ends ((pllLocks_eq hpowered hlost).trans (if_neg ?_)), fun hpowered hlost h1 hsafe htoken => ?_, fun hstopped n lost => congrArg ends (if_pos (congrArg not hstopped)),
      fun hclock n hquiet lost => congrArg ends (resyncDone_quiet hclock hquiet), hidle, hother, hoff, fun h8 h11 => domainOff_ports h8 h11 s, fun h7 => by rw [h7]; exact domainOff_bodkin s, fun h14 => by rw [h14]; exact domainOff_host s, hon, hlights⟩
    · rintro ⟨h1, hsafe, htoken⟩
      rcases hkeep with hd | hsafe' | htoken'
      · exact hd h1
      · rw [hsafe'] at hsafe; exact absurd hsafe (by decide)
      · rw [htoken'] at htoken; exact absurd htoken (by decide)
    · exact ⟨_, rfl, pllLocks_reopens hpowered hlost h1 hsafe htoken⟩
  case clock =>
    intro k hit
    exact ⟨fun hnot => congrArg ends (clockFails_not hnot), fun hon ⟨hdomains, hgated⟩ => ⟨_, rfl, clockFails_frame hon hdomains hgated⟩⟩
  case timed =>
    intro u
    refine ⟨fun hon => completes_at rfl ?_, fun hoff => completes_at rfl (clockFails_not (Or.inl hoff)), fun dom => ⟨fun plk hruns => completes_at rfl (initiatorTimeout_running hruns), fun hstuck => completes_at rfl (initiatorTimeout_placket hstuck),
      fun hidle => completes_at rfl (initiatorTimeout_idle hidle), fun a stop hstuck hwait hdue => completes_at rfl (initiatorTimeout_access hstuck hwait hdue)⟩, fun o hosc hdue => completes_at rfl (oscStop_due (s := u) hosc hdue),
      fun hnone => completes_at rfl (oscStop_off (s := u) hnone), fun hnot => completes_at rfl (deepWake_not hnot), fun hdeep hpending hvin => ?_⟩
    · refine (clockFails_hits hon (fun h => absurd h (by decide)) (fun h => absurd h (by decide))).trans ?_
      have hnone : clockDomains 1 &&& u.pwr.powered = 0 := BitVec.zero_and
      rw [if_neg (by decide), clockLost, hnone]
    · obtain ⟨hup, hwatched, hend⟩ := deepWake_runs hdeep hpending hvin
      exact ⟨_, completes_at rfl rfl, hup, hwatched, hend⟩
  case doze =>
    obtain ⟨hstate, hfrom, hmgmt, hctrl, hfab, hbcn⟩ := leaveDoze_frame hdoze
    refine ⟨fun p hup => congrArg ends ((if_pos hdoze).trans ?_), fun p hdown => congrArg ends ((if_pos hdoze).trans ?_), fun src hnot => congrArg ends ((if_pos hdoze).trans ?_), hstate, hfrom, hmgmt, hctrl, hfab, hbcn⟩
    · have hlink : linkUpNow p.val s = true := by rw [linkUpNow, hup, Bool.or_true]
      have hport : ¬ (p.val ≥ 27 ∨ (!(linkUpNow p.val s)) = true) := not_or.mpr ⟨Nat.not_le.mpr p.isLt, by rw [hlink]; decide⟩
      exact (if_neg hport).trans (if_neg fun h => by cases h.1)
    · have hlink : linkUpNow p.val s = false := by rw [linkUpNow, hdown, Bool.or_false, decide_eq_false (Nat.not_le.mpr p.isLt)]
      exact if_pos (Or.inr (congrArg not hlink))
    · cases src with
      | frame p => exact absurd rfl (hnot p)
      | _ => rfl
  case pin =>
    intro high
    have hcompletes : ∀ t, wakePinEdge pin.val s = t → Completes (.wakePin pin) s t := fun t ht => congrArg ends ht
    refine ⟨rfl, fun hdoze => hcompletes _ (wakePinEdge_doze hdoze), fun hoff hnot => hcompletes _ ((wakePinEdge_off hoff).trans (if_neg ?_)), fun hoff hpin hvin => ?_, fun hawake hdark hnot => ?_, fun hstarts hdark => ?_⟩
    · rintro ⟨hzero, hvin⟩
      rcases hnot with hone | hlow
      · omega
      · rw [(hlow : s.pwr.vinLow = true)] at hvin
        exact absurd hvin (by decide)
    · have hact : wakePinEdge pin.val s = powerOn false high := (wakePinEdge_off hoff).trans (if_pos ⟨hpin, by rw [(hvin : s.pwr.vinLow = false)]; rfl⟩)
      obtain ⟨-, hbooted, hcount, hlast, -, -, -, hstate, -, -, hup, -⟩ := powerOn_fresh false high
      exact ⟨_, hcompletes _ hact, hbooted, hcount, hlast, hstate, hup⟩
    · have hact : wakePinEdge pin.val s = pinHolds pin.val high := (wakePinEdge_awake hawake).trans (if_neg ?_)
      · refine ⟨fun hnone => hcompletes _ (hact.trans (pinHolds_none hnone)), _, hcompletes _ hact, fun n hn hheld hen => ?_⟩
        exact pinHolds_reaches (s := high) hn hheld hen
      · have hneither : (lightsGoing s || startsUp s) = false := by rw [hdark, hnot]; rfl
        exact fun h => Bool.false_ne_true (hneither.symm.trans h)
    · have hrun : s.pwr.state = .run := startsUp_run hstarts
      have hact : wakePinEdge pin.val s = registerWake { ({} : WakeRecord) with cause := 5 + pin.val } high := (wakePinEdge_awake (Or.inl hrun)).trans (if_pos (by show (lightsGoing s || startsUp s) = true; rw [hstarts, Bool.or_true]))
      obtain ⟨⟨hrec, -⟩, hpins, hstate⟩ := registerWake_records (r := { ({} : WakeRecord) with cause := 5 + pin.val }) (s := high) (Or.inr (Or.inr hstarts))
      exact ⟨_, hcompletes _ hact, hpins, hstate, fun hnone => congrArg WakeRecord.cause (hrec hnone).1⟩
  case wake =>
    intro asleep recorded_
    have hrecorded : ∀ {c : Instr} {r : WakeRecord} {v : State}, exec c s = ends (registerWake r v) → v.edge.wakeRec = s.edge.wakeRec → v.pwr = s.pwr → v.fab = s.fab → asleep ∨ startsUp s = true → startsUp v = startsUp s → recorded_ c r := by
      intro c r v hc hrec hpwr hfab hwhen hstarts
      have hlights : lightsGoing v = lightsGoing s := by rw [lightsGoing, lightsGoing, hpwr]
      obtain ⟨⟨hcause, hlatched, hpending, hkept, hnets⟩, -⟩ := registerWake_records (r := r) (s := v) (by rw [hlights, hpwr, hstarts]; exact or_assoc.mp hwhen)
      rw [hlights] at hlatched hpending
      rw [hpwr] at hpending hnets
      exact ⟨_, hc, fun hnone => hcause (hrec.symm ▸ hnone), hlatched, hpending, hkept.trans hfab, hnets⟩
    refine ⟨fun pin hdeep => ?_, fun ch m e => ?_, fun ch => ⟨fun hnot => congrArg ends ?_, fun hwhen hset => hrecorded (congrArg ends (if_pos hset)) rfl rfl rfl hwhen rfl⟩, fun p => ?_⟩
    · have hact : wakePinEdge pin.val s = registerWake { ({} : WakeRecord) with cause := 5 + pin.val } (setPwr { s.pwr with pinsHigh := s.pwr.pinsHigh ||| BitVec.twoPow 2 pin.val } s) := wakePinEdge_deep hdeep
      obtain ⟨⟨hrec, hlatched, hpending, -⟩, hpins, -⟩ :=
        registerWake_records (r := { ({} : WakeRecord) with cause := 5 + pin.val }) (s := setPwr { s.pwr with pinsHigh := s.pwr.pinsHigh ||| BitVec.twoPow 2 pin.val } s) (Or.inr (Or.inl hdeep))
      refine ⟨_, congrArg ends hact, fun hnone => congrArg WakeRecord.cause (hrec hnone).1, ?_, ?_⟩
      · cases hlights : lightsGoing s with
        | true => exact Or.inl (hlatched hlights)
        | false => exact Or.inr (hpending hlights hdeep)
      · have hbit : (s.pwr.pinsHigh ||| BitVec.twoPow 2 pin.val).getLsbD pin.val = true := by
          rw [BitVec.getLsbD_or, BitVec.getLsbD_twoPow, decide_eq_true pin.isLt]
          simp
        exact (congrArg (fun z : BitVec 2 => z.getLsbD pin.val) hpins).trans hbit
    · intro c r n
      refine ⟨fun hoff => ⟨congrArg ends (if_pos (congrArg not hoff)), congrArg ends (if_pos (congrArg not hoff))⟩, fun hon hother => congrArg ends (selectiveFrame_other hon hother), fun hon hsel hmiss hfew => congrArg ends ((selectiveFrame_counts hon hsel).trans ((if_neg ?_).trans (if_neg (Nat.not_le.mpr hfew)))),
        fun hon hsel hgood hmatch => hrecorded (congrArg ends ((selectiveFrame_counts hon hsel).trans (if_pos ⟨by rw [hgood]; rfl, hmatch⟩))) rfl rfl rfl (Or.inl (asleep_of_decoderOn hon)) rfl,
        fun hon hsel hmiss hmany => hrecorded (congrArg ends ((selectiveFrame_counts hon hsel).trans ((if_neg ?_).trans (if_pos hmany)))) rfl rfl rfl (Or.inl (asleep_of_decoderOn hon)) rfl,
        fun hon hother => congrArg ends ((wupWake_on hon).trans (if_neg hother)), fun hon hset => hrecorded (congrArg ends ((wupWake_on hon).trans (if_pos hset))) rfl rfl rfl (Or.inl (asleep_of_decoderOn hon)) rfl, fun hnot => congrArg ends (if_neg ?_),
        fun hasleep hset => hrecorded (congrArg ends (if_pos ?_)) rfl rfl rfl (Or.inl hasleep) rfl⟩
      · exact not_wuf hmiss
      · exact not_wuf hmiss
      · intro h
        obtain ⟨hdark, hmode⟩ := Bool.and_eq_true_iff.mp h
        exact hnot.elim (fun hn => hn (by simpa [asleep, w] using hdark)) fun hn => hn (by simpa using hmode)
      · exact Bool.and_eq_true_iff.mpr ⟨by simpa [asleep, w] using hasleep, by simpa using hset⟩
    · rcases hnot with ⟨hnot, hstarts⟩ | hclear
      · unfold linWake
        split
        · exact registerWake_not hnot hstarts
        · rfl
      · exact if_neg (by rw [hclear]; decide)
    · intro member
      refine ⟨fun hnot => congrArg ends ?_, fun hwhen hmember => hrecorded (congrArg ends (if_pos hmember)) rfl rfl rfl hwhen rfl⟩
      rcases hnot with ⟨hnot, hstarts⟩ | hout
      · unfold tc10Deep
        split
        · exact registerWake_not hnot hstarts
        · rfl
      · exact if_neg hout

end Sys2Proof.Machine
end

section
/-! Proofs/ResetAndSupply: resets of the module and of the Keeper, the completion of the load, the switch of banks and the supply, and the clauses about them (R24, R331, R333, R352, R418, R428, R475-R496, R508). -/

namespace Sys2Proof.Machine
open Sys2Proof.Claims

/-! Reset of the module (R331, R352, R418, R476) -/

/-- What AO and the host bridge's memories keep. -/
def KeptInAo (v t : State) : Prop :=
  t.lamp.safe = v.lamp.safe ∧ t.lamp.codes = v.lamp.codes ∧ t.edge.wakeRec = v.edge.wakeRec ∧ t.bcn.rate = v.bcn.rate ∧ t.plk.ringMem = v.plk.ringMem ∧ t.plk.descMem = v.plk.descMem

/-- What a reset of the module puts back over the cold state, before its boot begins. -/
def coldModule (s c : State) : State :=
  let s1 := keepAo s c
  let s2 : State := { s1 with bcn := { s1.bcn with rate := s.bcn.rate }, plk := (resetPlacket s).plk }
  setBoot { s2.boot with storedRate := s.bcn.rate } s2

theorem chilled_coldModule {s c : State} (h : Chilled s c) : Chilled s (coldModule s c) := by
  unfold Chilled at h ⊢
  obtain ⟨hpending, hbooted, hcount, hbanks, hcopies, hstate, hpowered, htrans, hup, hwaiting, hqueue, hfab, hsch, hpat, hsel, htwin, hports⟩ := h
  exact ⟨hpending, hbooted, hcount, hbanks, hcopies, hstate, hpowered, htrans, hup, hwaiting, hqueue, hfab, hsch, hpat, hsel, htwin, hports⟩

theorem keptInAo_coldModule (s c : State) : KeptInAo s (coldModule s c) := by
  have hplk : (coldModule s c).plk = (resetPlacket s).plk := rfl
  have hring : (resetPlacket s).plk.ringMem = s.plk.ringMem := by rw [resetPlacket_plk]
  have hdesc : (resetPlacket s).plk.descMem = s.plk.descMem := by rw [resetPlacket_plk]
  rw [KeptInAo, hplk]
  exact ⟨rfl, rfl, rfl, rfl, hring, hdesc⟩

theorem keptInAo_driveFault {v s : State} {on : Bool} (h : KeptInAo v s) : KeptInAo v (driveFault on s) := by
  unfold KeptInAo at h ⊢
  unfold driveFault
  split
  · exact h
  · exact h

theorem keptInAo_beginBoot {v s : State} {last : Nat} {strap : Bool} (h : KeptInAo v s) : KeptInAo v (beginBoot last strap s) := by
  have hboot := besideThimble_beginBoot s last strap
  generalize beginBoot last strap s = t at hboot
  have hlamp : t.lamp = s.lamp := (congrArg State.lamp hboot :)
  have hedge : t.edge = s.edge := (congrArg State.edge hboot :)
  have hbcn : t.bcn = s.bcn := (congrArg State.bcn hboot :)
  have hplk : t.plk = s.plk := (congrArg State.plk hboot :)
  rw [KeptInAo, hlamp, hedge, hbcn, hplk]
  exact h

theorem resetModule_eq (last : Nat) (strap : Bool) (s : State) : resetModule last strap s = match s.dbg.state with
    | .auth _ _ => raiseEv .debugClosed 0 [] (beginBoot last strap (driveFault true (coldModule s (coldState (pinsIdle s)))))
    | _ => beginBoot last strap (driveFault true (coldModule s (coldState (pinsIdle s)))) := rfl

/-- A reset of the module begins a boot with AO's state, RATE and the host bridge's memories kept. -/
theorem resetModule_fresh (last : Nat) (strap : Bool) (s : State) : FreshBoot s (resetModule last strap s) last strap ∧ KeptInAo s (resetModule last strap s) := by
  rw [resetModule_eq]
  have hcold := chilled_coldState s
  generalize coldState (pinsIdle s) = c at hcold
  have hfresh : FreshBoot s (beginBoot last strap (driveFault true (coldModule s c))) last strap := beginBoot_fresh (chilled_driveFault (chilled_coldModule hcold)) (driveFault_frame true _).1
  have hkept : KeptInAo s (beginBoot last strap (driveFault true (coldModule s c))) := keptInAo_beginBoot (keptInAo_driveFault (keptInAo_coldModule s c))
  generalize beginBoot last strap (driveFault true (coldModule s c)) = t at hfresh hkept
  split
  · unfold FreshBoot at hfresh ⊢
    unfold KeptInAo at hkept ⊢
    exact ⟨hfresh, hkept⟩
  · exact ⟨hfresh, hkept⟩

/-- A power-on reset keeps nothing of AO. -/
theorem powerOn_cold (strap : Bool) (s : State) : (powerOn strap s).lamp.safe = false ∧ (powerOn strap s).plk = State.reset.plk ∧ (powerOn strap s).bcn = State.reset.bcn ∧ (powerOn strap s).pwr.vinLow = false := by
  have hstart : powerOn strap s = beginBoot 0 strap (driveFault true (setPwr { (coldState (pinsIdle s)).pwr with vinLow := false, crankAt := none } (coldState (pinsIdle s)))) := rfl
  rw [hstart]
  generalize pinsIdle s = u
  have hlamp : (coldState u).lamp.safe = false := rfl
  have hplk : (coldState u).plk = State.reset.plk := rfl
  have hbcn : (coldState u).bcn = State.reset.bcn := rfl
  generalize coldState u = w at hlamp hplk hbcn
  obtain ⟨hdriven, hfault⟩ := driveFault_same true (setPwr { w.pwr with vinLow := false, crankAt := none } w)
  generalize driveFault true (setPwr { w.pwr with vinLow := false, crankAt := none } w) = x at hdriven hfault
  have hboot := besideThimble_beginBoot x 0 strap
  generalize beginBoot 0 strap x = t at hboot
  refine ⟨(congrArg (fun z => z.lamp.safe) hboot :).trans ((congrArg Lamp.safe hfault).trans hlamp), (congrArg State.plk hboot :).trans ((congrArg State.plk hdriven :).trans hplk),
    (congrArg State.bcn hboot :).trans ((congrArg State.bcn hdriven :).trans hbcn), (congrArg (fun z => z.pwr.vinLow) hboot :).trans (congrArg (fun z => z.pwr.vinLow) hdriven :)⟩

/-! Supply (R494-R496, R508) -/

theorem mapGet_filter_kept {α : Type} (d : α) (q : Nat → Bool) {k : Nat} (hk : q k = true) (m : SMap α) : mapGet d (m.filter (fun e => q e.1)) k = mapGet d m k := by
  induction m with
  | nil => rfl
  | cons e m ih =>
    obtain ⟨j, v⟩ := e
    rw [List.filter_cons]
    split
    · simp only [mapGet, ih]
    next hdrop =>
      have hj : j ≠ k := fun h => hdrop (h ▸ hk)
      simp only [mapGet, if_neg hj, ih]

/-- The count of brown-outs is in MRAM's control block, which no reset clears. -/
theorem count_brownout_coldState (u : State) : count .pwrBrownout 0 (coldState u) = count .pwrBrownout 0 u :=
  mapGet_filter_kept 0 (fun k => keptCounters.any (fun c => decide (c.ctorIdx = k / 65536))) (by decide) u.counters

/-- The module without its rail. -/
def Dark (v t : State) : Prop :=
  t.pwr.state = .off ∧ t.pwr.powered = 0 ∧ t.pwr.closed = 0xFFFF ∧ t.pwr.vinLow = true ∧ t.pwr.crankAt = none ∧ t.kpr.up = false ∧ t.lamp.faultN = true ∧ t.lamp.safe = false ∧ t.fab = State.reset.fab
    ∧ t.boot.copies = v.boot.copies ∧ count .pwrBrownout 0 t = Nat.min (2 ^ 48 - 1) (count .pwrBrownout 0 v + 1)

theorem brownOut_dark (s : State) : Dark s (brownOut s) := by
  have hact : brownOut s = setPwr { (coldState (pinsIdle (driveFault true (bump .pwrBrownout 0 s)))).pwr with state := .off, powered := 0, closed := 0xFFFF, vinLow := true, crankAt := none } (coldState (pinsIdle (driveFault true (bump .pwrBrownout 0 s)))) := rfl
  obtain ⟨hdriven, hfault⟩ := driveFault_same true (bump .pwrBrownout 0 s)
  rw [hact]
  generalize driveFault true (bump .pwrBrownout 0 s) = x at hdriven hfault
  obtain ⟨-, hboot, hlamp, hcounters, -⟩ := agree_of_besideEdge (besideEdge_pinsIdle x)
  generalize pinsIdle x = u at hboot hlamp hcounters
  have hcopies : u.boot.copies = s.boot.copies := (congrArg Boot.copies hboot).trans (congrArg (fun z => z.boot.copies) hdriven :)
  have hfaultN : u.lamp.faultN = true := by rw [hlamp, hfault]
  have hcount : count .pwrBrownout 0 u = Nat.min (2 ^ 48 - 1) (count .pwrBrownout 0 s + 1) := by
    have hx : x.counters = (bump .pwrBrownout 0 s).counters := (congrArg State.counters hdriven :)
    have hsame : count .pwrBrownout 0 u = count .pwrBrownout 0 (bump .pwrBrownout 0 s) := by rw [count, count, hcounters, hx]
    rw [hsame]
    exact mapGet_mapSet_same 0 s.counters _ _
  exact ⟨rfl, rfl, rfl, rfl, rfl, rfl, hfaultN, rfl, rfl, hcopies, (count_brownout_coldState u).trans hcount⟩

end Sys2Proof.Machine
end

section
/-! Proofs/ResetAndSupplyEvents: the Keeper's reset, the completion of the load, the end of a switch of banks, and the clauses about resets and supply (R24, R331, R333, R418, R428, R475-R496, R508). -/

namespace Sys2Proof.Machine
open Sys2Proof.Claims

/-! A reset of the Keeper leaves the data plane alone (R331, R478) -/

/-- The data plane: the Bolt, the schedules, the Pattern's epochs and time. -/
def dataPlane (s : State) : Fabric × Sched × Pattern × Beacon := (s.fab, s.sch, s.pat, s.bcn)

theorem dataPlane_bump (c : Ctr) (i : Nat) (s : State) : dataPlane (bump c i s) = dataPlane s := rfl

theorem dataPlane_setTransceiver (ch : Nat) (s : State) : dataPlane (setTransceiver ch s) = dataPlane s := by
  unfold setTransceiver
  split
  · rfl
  · exact (congrArg dataPlane (besideEdge_driveTransceiver ch _ _ _) :)

theorem dataPlane_limitTxq (ch : Nat) (q : List TxMsg) (s : State) : dataPlane (limitTxq ch q s) = dataPlane s := by
  unfold limitTxq
  split
  · rfl
  · rfl

theorem dataPlane_requeueSending (ch : Nat) (s : State) : dataPlane (requeueSending ch s) = dataPlane s := by
  unfold requeueSending
  generalize getCan ch s = c
  dsimp only
  split
  · rfl
  · exact dataPlane_limitTxq ch _ _
  · split
    · rfl
    · rfl

/-- The state in a new mode of the pair, with the cause that a change of role sets. -/
def inTwinMode (m : TwinMode) (s : State) : State :=
  let s1 := setTwin { s.twin with st := m, since := s.cyc } s
  if twinRole s1 ≠ twinRole s then sideCause 6 s1 else s1

theorem enterTwin_eq (m : TwinMode) (s : State) : enterTwin m s =
    if inControl (setTwin { s.twin with st := m, since := s.cyc } s) = inControl s then inTwinMode m s
    else forUpTo 16 (fun ch t => setTransceiver ch (if inControl (setTwin { s.twin with st := m, since := s.cyc } s) then t else requeueSending ch t))
      (emit (.pin .activeN (!(inControl (setTwin { s.twin with st := m, since := s.cyc } s)))) (inTwinMode m s)) := rfl

theorem dataPlane_inTwinMode (m : TwinMode) (s : State) : dataPlane (inTwinMode m s) = dataPlane s := by
  unfold inTwinMode
  dsimp only
  split
  · rfl
  · rfl

theorem dataPlane_enterTwin (m : TwinMode) (s : State) : dataPlane (enterTwin m s) = dataPlane s := by
  rw [enterTwin_eq]
  generalize inControl (setTwin { s.twin with st := m, since := s.cyc } s) = c
  split
  · exact dataPlane_inTwinMode m s
  · refine (forEach_keeps (p := dataPlane) (fun ch t => (dataPlane_setTransceiver ch _).trans ?_) (List.range 16) (emit (.pin .activeN (!c)) (inTwinMode m s))).trans (dataPlane_inTwinMode m s)
    split
    · rfl
    · exact dataPlane_requeueSending ch t

theorem resetPair_dataPlane (source : Nat) (s : State) : dataPlane (resetPair source s) = dataPlane s ∧ (resetPair source s).plk.pairs = [] ∧ (resetPair source s).twin = s.twin := by
  have hclosed := closeDebug_frame (resetMailbox (resetYelom s))
  have hplk : (closeDebug (resetMailbox (resetYelom s))).plk = (resetMailbox (resetYelom s)).plk := (congrArg State.plk hclosed :)
  exact ⟨(congrArg dataPlane hclosed :), congrArg Placket.pairs hplk, (congrArg State.twin hclosed :)⟩

/-- The module of a pair back in WAIT, with what it keeps of the pair over a reset of its Keeper. -/
def twinRestarted (s : State) : State :=
  let u := enterTwin .wait s
  setTwin { ({} : Twin) with mode := 1, holdOff := u.twin.holdOff, since := u.cyc, txSeq := u.twin.txSeq, gen := u.twin.gen, relinquishes := u.twin.relinquishes,
                             suppressed := u.twin.suppressed, hbOut := u.twin.hbOut, hbNext := u.twin.hbNext } u

theorem resetKeeper_eq (source : Nat) (s : State) : resetKeeper source s = resetPair source (if s.twin.mode = 1 ∧ s.twin.st ≠ .relinquished then twinRestarted s else s) := rfl

/-- A reset of the Keeper leaves the data plane, empties the mailbox rings, and puts a module of a pair in WAIT. -/
theorem resetKeeper_dataPlane (source : Nat) (s : State) : dataPlane (resetKeeper source s) = dataPlane s ∧ (resetKeeper source s).plk.pairs = []
    ∧ (s.twin.mode = 1 → s.twin.st ≠ .relinquished → (resetKeeper source s).twin.st = .wait) := by
  rw [resetKeeper_eq]
  split
  · obtain ⟨hplane, hpairs, htwin⟩ := resetPair_dataPlane source (twinRestarted s)
    exact ⟨hplane.trans (dataPlane_enterTwin .wait s), hpairs, fun _ _ => congrArg Twin.st htwin⟩
  next hnot =>
    obtain ⟨hplane, hpairs, -⟩ := resetPair_dataPlane source s
    exact ⟨hplane, hpairs, fun hmode hst => absurd ⟨hmode, hst⟩ hnot⟩

/-! The completion of the load (R481, R482, R488) -/

/-- Nothing of the Bodkin or of the power state changes, and what was raised stays raised. -/
def Announces (s t : State) : Prop := t.bod = s.bod ∧ t.pwr = s.pwr ∧ s.raised <+: t.raised

theorem announces_rfl (s : State) : Announces s s := ⟨rfl, rfl, List.prefix_rfl⟩

theorem Announces.trans {s t u : State} (h : Announces s t) (h' : Announces t u) : Announces s u := by
  obtain ⟨hbod, hpwr, hraised⟩ := h
  obtain ⟨hbod', hpwr', hraised'⟩ := h'
  exact ⟨hbod'.trans hbod, hpwr'.trans hpwr, hraised.trans hraised'⟩

theorem announces_of_besideTraffic {s t : State} (h : besideTraffic t = besideTraffic s) : Announces s t :=
  ⟨(congrArg State.bod h :), (congrArg State.pwr h :), (congrArg State.raised h :) ▸ List.prefix_rfl⟩

theorem announces_of_besideBolt {s t : State} (h : besideBolt t = besideBolt s) : Announces s t :=
  ⟨(congrArg State.bod h :), (congrArg State.pwr h :), (congrArg State.raised h :) ▸ List.prefix_rfl⟩

theorem announces_raiseEv (e : Ev) (i : Nat) (d : List Byte) (s : State) : Announces s (raiseEv e i d s) := ⟨rfl, rfl, List.prefix_append _ _⟩

theorem announces_noteRelinquish (s : State) : Announces s (noteRelinquish s) := by
  simp only [noteRelinquish]
  split
  · exact announces_raiseEv .twinFault 0 [] (setTwin _ s)
  · exact announces_rfl s

theorem announces_enterTwin (m : TwinMode) (s : State) : Announces s (enterTwin m s) := by
  have h := besideTraffic_enterTwin m s
  generalize enterTwin m s = t at h
  exact ⟨(congrArg State.bod h :), (congrArg State.pwr h :), (congrArg State.raised h :) ▸ List.prefix_rfl⟩

theorem announces_sendTwin (kind : Nat) (gen : BitVec 32) (payload : List Byte) (s : State) : Announces s (sendTwin kind gen payload s) := by
  have h := besideTraffic_sendTwin kind gen payload s
  generalize sendTwin kind gen payload s = t at h
  exact ⟨(congrArg State.bod h :), (congrArg State.pwr h :), (congrArg State.raised h :) ▸ List.prefix_rfl⟩

theorem announces_abortQueued (s : State) : Announces s (abortQueued s) := by
  have h := besideTraffic_abortQueued s
  generalize abortQueued s = t at h
  exact ⟨(congrArg State.bod h :), (congrArg State.pwr h :), (congrArg State.raised h :) ▸ List.prefix_rfl⟩

theorem announces_relinquishSelf (s : State) : Announces s (relinquishSelf s) := by
  unfold relinquishSelf
  split
  · exact announces_rfl s
  split
  · exact announces_rfl s
  · exact announces_rfl s
  split
  · exact announces_rfl s
  have hentered := announces_enterTwin .relinquished s
  generalize enterTwin .relinquished s = s0 at hentered
  dsimp only
  generalize hs1 : emit (.pin .twinHbOut false) (setTwin { s0.twin with hbOut := false, granting := none } s0) = s1
  have hleft : Announces s s1 := hentered.trans (hs1 ▸ ⟨rfl, rfl, List.prefix_rfl⟩)
  split
  · exact hleft
  have hnoted := hleft.trans ((announces_raiseEv .twinRelinquish 0 [] (bump .twinRelinquish 0 s1)).trans (announces_noteRelinquish _))
  generalize noteRelinquish (raiseEv .twinRelinquish 0 [] (bump .twinRelinquish 0 s1)) = s2 at hnoted
  refine hnoted.trans (Announces.trans ?_ (announces_abortQueued _))
  split
  · exact announces_sendTwin 7 0 [] s2
  · exact announces_rfl s2

theorem announces_driveFault (on : Bool) (s : State) : Announces s (driveFault on s) := by
  obtain ⟨hsame, -⟩ := driveFault_same on s
  exact ⟨(congrArg State.bod hsame :), (congrArg State.pwr hsame :), (congrArg State.raised hsame :) ▸ List.prefix_rfl⟩

theorem announces_enterSafe (s : State) : Announces s (enterSafe s) := by
  unfold enterSafe
  split
  · exact announces_rfl s
  · have hdriven : Announces s (driveFault true (setLamp { s.lamp with safe := true } s)) := announces_driveFault true (setLamp { s.lamp with safe := true } s)
    dsimp only
    generalize driveFault true (setLamp { s.lamp with safe := true } s) = s1 at hdriven
    have hclosed : Announces s1 (closeAllGates (bump .lampSafeEntry 0 s1)) := announces_of_besideBolt (besideBolt_closeAllGates _)
    generalize closeAllGates (bump .lampSafeEntry 0 s1) = s2 at hclosed
    exact hdriven.trans (hclosed.trans ((announces_raiseEv .safeEntry 0 [] (sideCause 5 s2)).trans (announces_relinquishSelf _)))

/-- The completion of the load: SERVICE, a tested Keeper, and FAULT_N as the safe state (R481, R482). -/
theorem finishBoot_service (s : State) : (finishBoot s).kpr.testPassed = true ∧ (finishBoot s).bod.mode = .service ∧ (finishBoot s).lamp.faultN = (finishBoot s).lamp.safe
    ∧ (finishBoot s).boot = { s.boot with booted := true } ∧ (finishBoot s).pwr = s.pwr ∧ s.raised <+: (finishBoot s).raised := by
  have htest : (loadedState s).kpr.testPassed = true := rfl
  have hmode : (loadedState s).bod.mode = .service := rfl
  have hboot : (loadedState s).boot = { s.boot with booted := true } := rfl
  have hpwr : (loadedState s).pwr = s.pwr := rfl
  have hraised : (loadedState s).raised = s.raised := rfl
  rw [finishBoot_eq]
  generalize loadedState s = v at htest hmode hboot hpwr hraised
  split
  · generalize hu : setLamp { v.lamp with safe := false, restarted := !v.lamp.codes.isEmpty } v = u
    have hdown : u.lamp.safe = false := by rw [← hu]; rfl
    obtain ⟨hub, hup⟩ : Announces v u ∧ (u.kpr, u.boot) = (v.kpr, v.boot) := by rw [← hu]; exact ⟨⟨rfl, rfl, List.prefix_rfl⟩, rfl⟩
    obtain ⟨hukpr, huboot⟩ := Prod.mk.inj hup
    obtain ⟨l, hside, hsafe, -, -, -, hfault⟩ := enterSafe_lamp u
    obtain ⟨-, hl, hkpr, hboot', -⟩ := lampSide_eq hside
    obtain ⟨hbod, hpwr', hpre⟩ := hub.trans (announces_enterSafe u)
    refine ⟨by rw [hkpr, hukpr, htest], by rw [hbod, hmode], by rw [hl, hsafe, hfault hdown], by rw [hboot', huboot, hboot], hpwr'.trans hpwr, hraised ▸ hpre⟩
  next hsafe =>
    obtain ⟨hsame, hlamp⟩ := driveFault_same false v
    obtain ⟨hbod, hpwr', hpre⟩ := announces_driveFault false v
    refine ⟨(congrArg (fun x => x.kpr.testPassed) hsame :).trans htest, by rw [hbod, hmode], ?_, (congrArg State.boot hsame :).trans hboot, hpwr'.trans hpwr, hraised ▸ hpre⟩
    rw [hlamp]
    exact (Bool.eq_false_iff.mpr hsafe).symm

theorem loadComplete_not {s : State} (h : s.boot.booted = true ∨ s.kpr.up = true ∨ s.pwr.state = .off ∨ s.pwr.state = .deep) : loadComplete s = s := if_pos h

theorem loadComplete_eq {s : State} (hbooted : s.boot.booted = false) (hup : s.kpr.up = false) (hoff : s.pwr.state ≠ .off) (hdeep : s.pwr.state ≠ .deep) :
    loadComplete s = if s.boot.strap then enterRecovery s else match bootBank s with
      | none => enterRecovery s
      | some b => finishBoot (loadImage (powerAll (takeBank b s))) := if_neg (by simp [hbooted, hup, hoff, hdeep])

theorem loadComplete_recovery {s : State} (hbooted : s.boot.booted = false) (hup : s.kpr.up = false) (hoff : s.pwr.state ≠ .off) (hdeep : s.pwr.state ≠ .deep) (h : s.boot.strap = true ∨ bootBank s = none) :
    loadComplete s = enterRecovery s := by
  rw [loadComplete_eq hbooted hup hoff hdeep]
  split
  · rfl
  next hstrap => rw [h.resolve_left hstrap]

theorem loadComplete_bank {s : State} {b : Nat} (hbooted : s.boot.booted = false) (hup : s.kpr.up = false) (hoff : s.pwr.state ≠ .off) (hdeep : s.pwr.state ≠ .deep) (hstrap : s.boot.strap = false) (hbank : bootBank s = some b) :
    loadComplete s = finishBoot (loadImage (powerAll (takeBank b s))) := by
  rw [loadComplete_eq hbooted hup hoff hdeep, hstrap, hbank]
  rfl

/-- Recovery powers the domains it needs, and raises its event where no strap asked for it. -/
theorem enterRecovery_powered (s : State) : (enterRecovery s).pwr.powered = 0x00C7 ∧ (s.boot.strap = false → (.recoveryBoot, 0, []) ∈ (enterRecovery s).raised) := by
  unfold enterRecovery
  extract_lets s1 s2 recs slot s3 s4
  split
  next hstrap => exact ⟨rfl, fun h => absurd hstrap (h ▸ Bool.false_ne_true)⟩
  · exact ⟨rfl, fun _ => List.mem_append_right _ (List.mem_singleton_self _)⟩

theorem bestCopy_of_copies {s t : State} (h : t.boot.copies = s.boot.copies) : bestCopy t = bestCopy s := by
  have hcopy : ∀ i, getCopy i t = getCopy i s := fun i => by rw [getCopy, getCopy, h]
  rw [bestCopy, bestCopy, hcopy 0, hcopy 1]

theorem takeBank_copies (b : Nat) (s : State) : (takeBank b s).boot.copies = s.boot.copies := by
  unfold takeBank
  split
  · rfl
  · rfl

theorem loadImage_none {s : State} (h : bestCopy s = none) : loadImage s = loadFails s := by
  unfold loadImage
  rw [h]

theorem powerAll_frame (s : State) : (powerAll s).boot = s.boot ∧ (powerAll s).pwr.powered = 0xFFFF ∧ (powerAll s).raised = s.raised := by
  have hquads := forEach_keeps (p := fun t => (t.boot, t.pwr, t.raised)) (fun q t => rfl) (List.range 4) (setPwr { s.pwr with powered := 0xFFFF, closed := 0 } s) (f := fun q t => setQuad q .on t)
  exact ⟨(congrArg (fun x => x.1) hquads :), (congrArg (fun x => x.2.1.powered) hquads :), (congrArg (fun x => x.2.2) hquads :)⟩

/-- A load without a valid image copy starts with the defaults, and says so (R482). -/
theorem loadDefaults {b : Nat} {s : State} (h : bestCopy s = none) :
    (loadImage (powerAll (takeBank b s))).boot.bank = b ∧ (loadImage (powerAll (takeBank b s))).boot.defaulted = true ∧ (loadImage (powerAll (takeBank b s))).pwr.powered = 0xFFFF
    ∧ (.configLoadFail, 0, []) ∈ (loadImage (powerAll (takeBank b s))).raised := by
  obtain ⟨-, -, -, hbank, -⟩ := takeBank_frame b s
  have hcopies := takeBank_copies b s
  generalize takeBank b s = t at hbank hcopies
  obtain ⟨hboot, hpowered, -⟩ := powerAll_frame t
  generalize powerAll t = v at hboot hpowered
  have hnone : bestCopy v = none := (bestCopy_of_copies ((congrArg Boot.copies hboot).trans hcopies)).trans h
  rw [loadImage_none hnone]
  exact ⟨(congrArg Boot.bank hboot).trans hbank, rfl, hpowered, List.mem_append_right _ (List.mem_singleton_self _)⟩

/-! The end of a switch of banks (R333, R491) -/

theorem sendDelta_askedInPause (s : State) : (sendDelta s).twin.askedInPause = s.twin.askedInPause :=
  (congrArg Twin.askedInPause (sendParts_twin 3 (s.twin.gen + 1) (s.twin.changed ++ (if superRecs s = s.twin.sentSuper then [] else superRecs s)) s) :)

/-- The state with the bank of a switch in force, its pause over. -/
def bankSwitched (s : State) : State := setKpr { s.kpr with wdFrom := s.cyc } (setBoot { s.boot with bank := s.boot.preferred } (setYel { s.yel with pauseUntil := none } s))

theorem resumeSwitch_none {s : State} (h : s.yel.pauseUntil = none) : resumeSwitch s = s := by
  unfold resumeSwitch
  rw [h]

theorem resumeSwitch_early {s : State} {d : Nat} (h : s.yel.pauseUntil = some d) (hearly : s.cyc < d) : resumeSwitch s = s := by
  unfold resumeSwitch
  rw [h]
  exact if_neg (Nat.not_le.mpr hearly)

theorem resumeSwitch_due {s : State} {d : Nat} (h : s.yel.pauseUntil = some d) (hdue : d ≤ s.cyc) : resumeSwitch s = afterPause (bankSwitched s) := by
  have hswitch : switchBank s = bankSwitched s := by
    unfold switchBank
    rw [h]
    exact if_neg (Nat.not_lt.mpr hdue)
  unfold resumeSwitch
  rw [h, hswitch]
  exact if_pos hdue

theorem afterPause_not {s : State} (h : s.twin.askedInPause = false ∨ s.yel.waiting.isSome = true ∨ s.yel.queue ≠ []) : afterPause s = s := by
  unfold afterPause
  refine if_neg fun hall => ?_
  obtain ⟨hasked, -, hwaiting, hqueue⟩ := hall
  rcases h with h | h | h
  · rw [h] at hasked
    exact Bool.false_ne_true hasked
  · rw [Option.isNone_iff_eq_none.mp hwaiting] at h
    exact Bool.false_ne_true h
  · exact h (List.isEmpty_iff.mp hqueue)

/-- A takeback asked for during the pause is granted after it (R333, R455). -/
theorem afterPause_grants {s : State} (hasked : s.twin.askedInPause = true) (hpause : s.yel.pauseUntil = none) (hwaiting : s.yel.waiting = none) (hqueue : s.yel.queue = [])
    (hactive : pairActive s = true) (hgranting : s.twin.granting = none) :
    (afterPause s).twin.granting = some (true, s.twin.gen + 1) ∧ (afterPause s).twin.askedInPause = false ∧ (afterPause s).boot = s.boot := by
  have hact : afterPause s = finalDelta true (setTwin { s.twin with askedInPause := false } s) := by
    unfold afterPause
    rw [if_pos ⟨hasked, by rw [hpause]; rfl, by rw [hwaiting]; rfl, by rw [hqueue]; rfl⟩]
    exact if_pos ⟨hactive, Option.isNone_iff_eq_none.mpr hgranting⟩
  obtain ⟨hgranted, -⟩ := finalDelta_twin true (setTwin { s.twin with askedInPause := false } s)
  rw [hact]
  exact ⟨hgranted, sendDelta_askedInPause (setTwin { s.twin with askedInPause := false } s), sendDelta_boot (setTwin { s.twin with askedInPause := false } s)⟩

/-! Resets that fall due, and supply -/

theorem moduleResetDue_not {k d : Nat} {s : State} (h : s.yel.resetTaken = some (k, d)) (hk : k ≠ 0) : moduleResetDue s = s := by
  unfold moduleResetDue
  split
  next heq =>
    rw [h] at heq
    exact absurd (congrArg Prod.fst (Option.some.inj heq)) hk
  · rfl

theorem moduleResetDue_taken {d : Nat} {s : State} (h : s.yel.resetTaken = some (0, d)) : moduleResetDue s = if s.cyc ≥ d then resetModule 2 false s else s := by
  unfold moduleResetDue
  rw [h]
  rfl

theorem keeperResetDue_not {k d : Nat} {s : State} (h : s.yel.resetTaken = some (k, d)) (hk : k ≠ 1) : keeperResetDue s = s := by
  unfold keeperResetDue
  split
  next heq =>
    rw [h] at heq
    exact absurd (congrArg Prod.fst (Option.some.inj heq)) hk
  · rfl

theorem keeperResetDue_taken {d : Nat} {s : State} (h : s.yel.resetTaken = some (1, d)) : keeperResetDue s = if s.cyc ≥ d then resetKeeper 3 s else s := by
  unfold keeperResetDue
  rw [h]
  rfl

/-- Neither reset is carried out before its time. -/
theorem resetDue_early {k d : Nat} {s : State} (h : s.yel.resetTaken = some (k, d)) (hearly : s.cyc < d) : moduleResetDue s = s ∧ keeperResetDue s = s := by
  constructor
  · by_cases hk : k = 0
    · subst hk
      rw [moduleResetDue_taken h, if_neg (Nat.not_le.mpr hearly)]
    · exact moduleResetDue_not h hk
  · by_cases hk : k = 1
    · subst hk
      rw [keeperResetDue_taken h, if_neg (Nat.not_le.mpr hearly)]
    · exact keeperResetDue_not h hk

theorem resetDue_none {s : State} (h : s.yel.resetTaken = none) : moduleResetDue s = s ∧ keeperResetDue s = s := by
  unfold moduleResetDue keeperResetDue
  rw [h]
  exact ⟨rfl, rfl⟩

theorem crank_running {s : State} (hdeep : s.pwr.state ≠ .deep) (hoff : s.pwr.state ≠ .off) :
    crank s = if s.pwr.crankAt.isSome then s else bump .pwrCrank 0 (setPwr { s.pwr with vinLow := true, crankAt := some s.cyc } s) := by
  unfold crank
  split
  next h => exact absurd h hdeep
  next h => exact absurd h hoff
  · rfl

theorem crank_deep {s : State} (h : s.pwr.state = .deep) : crank s = setPwr { s.pwr with vinLow := true } s := by
  unfold crank
  rw [h]

theorem crank_not {s : State} (h : s.pwr.state = .off ∨ (s.pwr.state ≠ .deep ∧ s.pwr.crankAt.isSome = true)) : crank s = s := by
  by_cases hoff : s.pwr.state = .off
  · unfold crank
    rw [hoff]
  · obtain ⟨hdeep, hat⟩ := h.resolve_left hoff
    rw [crank_running hdeep hoff, if_pos hat]

theorem crankTimeout_not {s : State} (h : s.pwr.crankAt = none ∨ s.pwr.state = .deep ∨ s.pwr.state = .off) : crankTimeout s = s := by
  unfold crankTimeout
  split
  next d hat =>
    refine if_neg fun hall => ?_
    obtain ⟨-, hdeep, hoff⟩ := hall
    rcases h with h | h | h
    · rw [hat] at h
      cases h
    · exact hdeep h
    · exact hoff h
  · rfl

theorem crankTimeout_early {s : State} {d : Nat} (h : s.pwr.crankAt = some d) (hearly : s.cyc < d + 50 * msCyc) : crankTimeout s = s := by
  unfold crankTimeout
  rw [h]
  exact if_neg fun hall => Nat.not_le.mpr hearly hall.1

theorem crankTimeout_due {s : State} {d : Nat} (h : s.pwr.crankAt = some d) (hdeep : s.pwr.state ≠ .deep) (hoff : s.pwr.state ≠ .off) (hdue : d + 50 * msCyc ≤ s.cyc) : crankTimeout s = brownOut s := by
  unfold crankTimeout
  rw [h]
  exact if_pos ⟨hdue, hdeep, hoff⟩

/-- The supply back at its level. -/
def vinBack (s : State) : State := setPwr { s.pwr with vinLow := false, crankAt := none } s

theorem vinRises_not {s : State} (h : s.pwr.vinLow = false) : vinRises s = s := if_pos (by rw [h]; rfl)

theorem vinRises_low {s : State} (h : s.pwr.vinLow = true) : vinRises s = if s.pwr.state = .off then powerOn false (vinBack s) else deepWake (vinBack s) := if_neg (by rw [h]; decide)

/-- The supply's level is not what a boot begins from. -/
theorem freshBoot_vinBack {s t : State} {last : Nat} {strap : Bool} (h : FreshBoot (vinBack s) t last strap) : FreshBoot s t last strap := h

/-- Settles O60. -/
theorem resetAndSupplyEventsRun : Obligations.ResetAndSupplyEventsRun := by
  unfold Obligations.ResetAndSupplyEventsRun
  intro fresh ao dark
  refine ⟨fun s => ⟨fun strap => ?_, fun held strap => ⟨fun h => ?_, fun hheld hoff => ?_⟩, ⟨brownOut s, rfl, brownOut_dark s⟩, rfl⟩, ?_⟩
  · obtain ⟨hsafe, hplk, hbcn, -⟩ := powerOn_cold strap s
    exact ⟨powerOn strap s, rfl, powerOn_fresh strap s, hsafe, hplk, hbcn⟩
  · exact congrArg ends (if_pos h : rstN held strap s = s)
  · obtain ⟨hfresh, hkept⟩ := resetModule_fresh 1 strap s
    exact ⟨resetModule 1 strap s, congrArg ends (if_neg (not_or.mpr ⟨Nat.not_lt.mpr hheld, hoff⟩) : rstN held strap s = resetModule 1 strap s), hfresh, hkept⟩
  intro s at_
  generalize hu : advanceTo at_ s = u
  have hends : ∀ {c : Instr} {act : State → State} {t : State}, exec c s = endsAt at_ act s → act u = t → Completes c s t := fun hc ht => completes_at hc (by rw [hu]; exact ht)
  intro u' recovered
  refine ⟨fun k d htaken => ⟨fun hearly => ?_, fun hk => ?_, fun hk => ?_, fun hk hdue => ?_, fun hk hdue => ?_⟩, fun hnone => ?_, fun h => ?_, fun hbooted hup hoff hdeep => ⟨fun h => ?_, fun b hstrap hbank => ?_⟩, fun h => ?_, fun d hpause => ⟨fun hearly => ?_, ?_⟩,
    fun h => ?_, fun h => ?_, fun hdeep hoff hat => ?_, fun h => ?_, fun d hat hdeep hoff => ⟨fun hearly => ?_, fun hdue => ?_⟩, fun h => ?_, fun hlow => ⟨fun hoff => ?_, fun hoff h => ?_, fun hdeep hwake => ?_⟩⟩
  · obtain ⟨hmodule, hkeeper⟩ := resetDue_early htaken hearly
    exact ⟨hends rfl hmodule, hends rfl hkeeper⟩
  · exact hends rfl (moduleResetDue_not htaken hk)
  · exact hends rfl (keeperResetDue_not htaken hk)
  · subst hk
    obtain ⟨hfresh, hkept⟩ := resetModule_fresh 2 false u
    exact ⟨resetModule 2 false u, hends rfl ((moduleResetDue_taken htaken).trans (if_pos hdue)), hfresh, hkept⟩
  · subst hk
    obtain ⟨hside, hwaiting, hqueue⟩ := resetKeeper_side 3 u
    obtain ⟨-, -, hkpr, hboot, -⟩ := lampSide_eq hside
    obtain ⟨hplane, hpairs, hwait⟩ := resetKeeper_dataPlane 3 u
    refine ⟨resetKeeper 3 u, hends rfl ((keeperResetDue_taken htaken).trans (if_pos hdue)), ?_⟩
    generalize resetKeeper 3 u = t at hkpr hboot hwaiting hqueue hplane hpairs hwait
    exact ⟨congrArg Keeper.up hkpr, (congrArg Boot.last hboot :), (congrArg Boot.count hboot :), (congrArg Boot.booted hboot :), hwaiting, hqueue, hpairs,
      congrArg Prod.fst hplane, congrArg (fun x => x.2.1) hplane, congrArg (fun x => x.2.2.1) hplane, congrArg (fun x => x.2.2.2) hplane, hwait⟩
  · obtain ⟨hmodule, hkeeper⟩ := resetDue_none hnone
    exact ⟨hends rfl hmodule, hends rfl hkeeper⟩
  · exact hends rfl (loadComplete_not h)
  · obtain ⟨hbank, hrun, hrecovery, hmode, -⟩ := enterRecovery_frame u
    obtain ⟨hpowered, hraised⟩ := enterRecovery_powered u
    exact ⟨enterRecovery u, hends rfl (loadComplete_recovery hbooted hup hoff hdeep h), hbank, hrun, hrecovery, hmode, hpowered, hraised⟩
  · obtain ⟨hrun, hwatched, hdone⟩ := finishBoot_frame (loadImage (powerAll (takeBank b u)))
    obtain ⟨htested, hmode, hfault, hboot, hpwr, hraised⟩ := finishBoot_service (loadImage (powerAll (takeBank b u)))
    refine ⟨finishBoot (loadImage (powerAll (takeBank b u))), hends rfl (loadComplete_bank hbooted hup hoff hdeep hstrap hbank), hdone, hrun, htested, hwatched, hmode, hfault, fun hnone => ?_⟩
    obtain ⟨hbank', hdefaulted, hpowered, hfail⟩ := loadDefaults (b := b) hnone
    exact ⟨(congrArg Boot.bank hboot).trans hbank', (congrArg Boot.defaulted hboot).trans hdefaulted, (congrArg Power.powered hpwr).trans hpowered, hraised.subset hfail⟩
  · exact hends rfl (resumeSwitch_none h)
  · exact hends rfl (resumeSwitch_early hpause hearly)
  · intro v hdue
    refine ⟨fun h => ?_, fun hasked hwaiting hqueue hactive hgranting => ?_⟩
    · exact hends rfl ((resumeSwitch_due hpause hdue).trans (afterPause_not (s := bankSwitched u) h))
    · obtain ⟨hgranted, hcleared, hboot⟩ := afterPause_grants (s := bankSwitched u) hasked rfl hwaiting hqueue hactive hgranting
      exact ⟨afterPause (bankSwitched u), hends rfl (resumeSwitch_due hpause hdue), hgranted, hcleared, hboot⟩
  · exact hends rfl (crank_deep h)
  · exact hends rfl (crank_not h)
  · exact hends rfl ((crank_running hdeep hoff).trans (if_neg (by rw [hat]; decide)))
  · exact hends rfl (crankTimeout_not h)
  · exact hends rfl (crankTimeout_early hat hearly)
  · exact ⟨brownOut u, hends rfl (crankTimeout_due hat hdeep hoff hdue), brownOut_dark u⟩
  · exact hends rfl (vinRises_not h)
  · obtain ⟨-, -, -, hback⟩ := powerOn_cold false (vinBack u)
    exact ⟨powerOn false (vinBack u), hends rfl ((vinRises_low hlow).trans (if_pos hoff)), freshBoot_vinBack (powerOn_fresh false (vinBack u)), hback⟩
  · exact hends rfl ((vinRises_low hlow).trans ((if_neg hoff).trans (deepWake_not (h.imp_right Or.inl))))
  · obtain ⟨hrun, -, hend⟩ := deepWake_runs (s := vinBack u) hdeep hwake rfl
    exact ⟨deepWake (vinBack u), hends rfl ((vinRises_low hlow).trans (if_neg (by rw [hdeep]; decide))), hrun, hend⟩

end Sys2Proof.Machine
end

section
/-! Proofs/ConsentRounds: what a consent round reads, how it moves on and how it ends in sleep (R397-R403). -/

namespace Sys2Proof.Machine
open Sys2Proof.Claims

/-! What a round reads -/

/-- What a consent round's progress depends on: the power state, the ports, and the pair's state. -/
def roundView (s : State) : Power × SMap PortSt × Nat × TwinMode × List Byte × Nat := (s.pwr, s.ports, s.twin.mode, s.twin.st, s.twin.partnerStatus, s.cyc)

theorem roundView_eq {s t : State} (h : roundView t = roundView s) : t.pwr = s.pwr ∧ t.ports = s.ports ∧ pairActive t = pairActive s ∧ t.twin.partnerStatus = s.twin.partnerStatus ∧ t.cyc = s.cyc := by
  simp only [roundView, Prod.mk.injEq] at h
  obtain ⟨hpwr, hports, hmode, hst, hstatus, hcyc⟩ := h
  exact ⟨hpwr, hports, by rw [pairActive, pairActive, hmode, hst], hstatus, hcyc⟩

theorem silentNodes_of {n : Nat} {s t : State} (hpwr : t.pwr = s.pwr) : silentNodes n t = silentNodes n s := by
  have hnet : getNet n t = getNet n s := getNet_of_nets (congrArg Power.nets hpwr)
  have hchan : ∀ ch, getNmChan ch t = getNmChan ch s := fun ch => by rw [getNmChan, getNmChan, hpwr]
  have hdomain : ∀ d, domainRuns d t = domainRuns d s := fun d => by rw [domainRuns, domainRuns, hpwr]
  unfold silentNodes
  rw [hnet]
  simp only [hchan, hdomain]

theorem hasPort_of_record {x y : Net} (h : y.record = x.record) (p : Nat) : y.hasPort p = x.hasPort p := by rw [Net.hasPort, Net.hasPort, h]

/-- The ports that have not answered, by what they depend on of the network. -/
theorem silentPorts_of {n : Nat} {s t : State} (hrecord : (getNet n t).record = (getNet n s).record) (hanswered : (getNet n t).portsAnswered = (getNet n s).portsAnswered) (hports : t.ports = s.ports)
    (hexcluded : t.pwr.portExcluded = s.pwr.portExcluded) : silentPorts n t = silentPorts n s := by
  have hport : ∀ p, getPort p t = getPort p s := fun p => getPort_of_ports hports
  unfold silentPorts
  simp only [hasPort_of_record hrecord, hanswered, hport, hexcluded]

theorem silentPairPorts_of {n : Nat} {s t : State} (hrecord : (getNet n t).record = (getNet n s).record) (hanswered : (getNet n t).portsAnswered = (getNet n s).portsAnswered) (hpair : pairActive t = pairActive s)
    (hstatus : t.twin.partnerStatus = s.twin.partnerStatus) (hsilent : t.pwr.portSilent = s.pwr.portSilent) : silentPairPorts n t = silentPairPorts n s := by
  have hpartner : ∀ p, pairPartner p t = pairPartner p s := fun p => by rw [pairPartner, pairPartner, hstatus]
  unfold silentPairPorts
  simp only [hasPort_of_record hrecord, hanswered, hpair, hpartner, hsilent]

/-! Messages of network management -/

theorem roundView_relayTo (kind inst : Nat) (msg : List Byte) (s : State) : roundView (relayTo kind inst msg s) = roundView s := by
  unfold relayTo
  split
  · rfl
  · rfl

theorem roundView_keeperTx (ch : Nat) (m : CanMsg) (s : State) : roundView (keeperTx ch m s) = roundView s := by
  unfold keeperTx
  split
  · exact roundView_relayTo _ _ _ s
  · unfold enqueueTx limitTxq
    split
    · rfl
    · rfl

theorem roundView_nmSendAll (n op : Nat) (s : State) : roundView (nmSendAll n op s) = roundView s :=
  forEach_keeps (p := roundView) (fun ch t => by
    split
    · exact roundView_keeperTx ch _ t
    · rfl) (List.range 32) s

/-! Progress of a round (R399) -/

/-- A round in its second phase, its ports asked to sleep. -/
def asksPorts (n : Nat) (s : State) : State :=
  let t := setNet n { getNet n s with phase := 2, since := s.cyc } s
  forEach (silentPairPorts n t) (fun p u => relayTo 2 p [] u) (forEach (silentPorts n t) (fun p u => emit (.tc10 p false) u) t)

theorem asksPorts_view (n : Nat) (s : State) : roundView (asksPorts n s) = roundView (setNet n { getNet n s with phase := 2, since := s.cyc } s) := by
  unfold asksPorts
  exact (forEach_keeps (p := roundView) (fun p t => roundView_relayTo 2 p [] t) _ _).trans (forEach_keeps (p := roundView) (f := fun p u => emit (.tc10 p false) u) (fun p t => rfl) _ _)

theorem asksPorts_net (n : Nat) (s : State) : getNet n (asksPorts n s) = { getNet n s with phase := 2, since := s.cyc } := by
  obtain ⟨hpwr, -⟩ := roundView_eq (asksPorts_view n s)
  exact (getNet_of_nets (congrArg Power.nets hpwr)).trans (getNet_setNet_same n _ s)

theorem asksPorts_silent (n : Nat) (s : State) : silentPorts n (asksPorts n s) = silentPorts n s ∧ silentPairPorts n (asksPorts n s) = silentPairPorts n s := by
  obtain ⟨hpwr, hports, hpair, hstatus, -⟩ := roundView_eq (asksPorts_view n s)
  have hnet := asksPorts_net n s
  generalize asksPorts n s = t at hpwr hports hpair hstatus hnet
  have hrecord : (getNet n t).record = (getNet n s).record := (congrArg Net.record hnet :)
  have hanswered : (getNet n t).portsAnswered = (getNet n s).portsAnswered := (congrArg Net.portsAnswered hnet :)
  exact ⟨silentPorts_of hrecord hanswered hports (congrArg Power.portExcluded hpwr :), silentPairPorts_of hrecord hanswered hpair hstatus (congrArg Power.portSilent hpwr :)⟩

/-- The end of a round in its second phase, once its last port has answered. -/
def settlesRound (n : Nat) (s : State) : State :=
  if (getNet n s).phase = 2 ∧ (silentPorts n s).isEmpty ∧ (silentPairPorts n s).isEmpty then nmCommit n s else s

theorem settlesRound_first {n : Nat} {s : State} (h : (getNet n s).phase = 1) : settlesRound n s = s := by
  refine if_neg fun hall => ?_
  obtain ⟨hphase, -⟩ := hall
  omega

theorem settlesRound_second {n : Nat} {s : State} (h : (getNet n s).phase = 2) : settlesRound n s = if silentPorts n s = [] ∧ silentPairPorts n s = [] then nmCommit n s else s := by
  simp only [settlesRound, h, true_and, List.isEmpty_iff]

section
variable {n : Nat} {s : State} (hen : (getNet n s).enabled = true) (hmode : (getNet n s).mode = .consent)
include hen hmode

theorem roundProgress_eq : roundProgress n s = settlesRound n (if (getNet n s).phase = 1 ∧ (silentNodes n s).isEmpty then asksPorts n s else s) := if_neg (by simp [hen, hmode])

/-- The first phase waits for its nodes. -/
theorem roundProgress_waits (hphase : (getNet n s).phase = 1) (hsilent : silentNodes n s ≠ []) : roundProgress n s = s := by
  rw [roundProgress_eq hen hmode, if_neg fun h => hsilent (List.isEmpty_iff.mp h.2), settlesRound_first hphase]

/-- The last node's consent asks the ports, and ends the round where there is none to ask. -/
theorem roundProgress_nodes (hphase : (getNet n s).phase = 1) (hsilent : silentNodes n s = []) :
    roundProgress n s = if silentPorts n s = [] ∧ silentPairPorts n s = [] then nmCommit n (asksPorts n s) else asksPorts n s := by
  obtain ⟨hports, hpairs⟩ := asksPorts_silent n s
  have hsecond : (getNet n (asksPorts n s)).phase = 2 := (congrArg Net.phase (asksPorts_net n s) :)
  rw [roundProgress_eq hen hmode, if_pos ⟨hphase, List.isEmpty_iff.mpr hsilent⟩, settlesRound_second hsecond, hports, hpairs]

/-- The second phase waits for its ports. -/
theorem roundProgress_ports (hphase : (getNet n s).phase = 2) : roundProgress n s = if silentPorts n s = [] ∧ silentPairPorts n s = [] then nmCommit n s else s := by
  rw [roundProgress_eq hen hmode, if_neg fun h => by rw [hphase] at h; exact absurd h.1 (by decide), settlesRound_second hphase]

end

/-! Sleep of a network and lights-out (R399, R403) -/

theorem beginTransition_pwr (target : PwrState) (want : BitVec 16) (s : State) : (beginTransition target want true s).pwr =
    { s.pwr with transition := some { target := target, offs := s.pwr.powered &&& ~~~want, ons := want &&& ~~~s.pwr.powered, lights := true } } := by
  simp only [beginTransition]
  generalize hs : setPwr _ s = s1
  generalize hf : (fun q t => if (s.pwr.powered &&& ~~~want).getLsbD (q + 2) then drainQuad q t else if (want &&& ~~~s.pwr.powered).getLsbD (q + 2) then clearQuad q t else t) = f
  have hquads : besideTraffic (forUpTo 4 f s1) = besideTraffic s1 := by subst hf; simp
  obtain ⟨-, -, -, hpwr, -⟩ := agree_of_besideTraffic hquads
  have hall : (forUpTo 4 f s1).pwr = { s.pwr with transition := some { target := target, offs := s.pwr.powered &&& ~~~want, ons := want &&& ~~~s.pwr.powered, lights := true } } := by
    rw [hpwr, ← hs]
    rfl
  rw [finishTransition_lights (congrArg Power.transition hall) rfl, hall]

/-- What a lights-out leaves of the networks and of the ports' sleep. -/
theorem goLightsOut_members (target : PwrState) (s : State) : (goLightsOut target s).pwr.nets = s.pwr.nets ∧ (goLightsOut target s).pwr.asleepPorts = s.pwr.asleepPorts := by
  unfold goLightsOut
  dsimp only
  generalize wantedDomains target 0 _ = want
  have hclosed : ∀ t, (closeDebug t).pwr = t.pwr := fun t => (congrArg State.pwr (closeDebug_frame t) :)
  generalize hw : closeDebug _ = w
  have hpwr : w.pwr = s.pwr := by
    rw [← hw]
    exact hclosed _
  generalize hs : ({ (setPwr _ _) with bod := _ } : State) = s2
  have hstart : s2.pwr.nets = s.pwr.nets ∧ s2.pwr.asleepPorts = s.pwr.asleepPorts := by
    rw [← hs, ← hpwr]
    exact ⟨rfl, rfl⟩
  have hdeep : besideTraffic (forUpTo 16 deepTransceiver s2) = besideTraffic s2 := by simp [deepTransceiver]
  obtain ⟨-, -, -, hsame, -⟩ := agree_of_besideTraffic hdeep
  rw [beginTransition_pwr, hsame]
  exact hstart

/-- A network just put to sleep, its members at rest. -/
def networkDown (n : Nat) (s : State) : State :=
  let x := getNet n s
  forUpTo 27 (fun p t => if x.hasPort p then stopPort p t else t) (forUpTo 8 (fun ch t => if x.hasLin ch then linSleep ch t else t)
    (forUpTo 32 (fun ch t => if x.hasCan ch then canSleep ch t else t) (setNet n { x with mode := .asleep, since := s.cyc, answered := [], portsAnswered := [] } s)))

theorem nmCommit_eq (n : Nat) (s : State) : nmCommit n s =
    if allAsleep (networkDown n s) ∧ (networkDown n s).pwr.transition.isNone then lightsOutNow (lightsTarget (networkDown n s)) (networkDown n s) else networkDown n s := rfl

theorem control_networkDown (n : Nat) (s : State) : control (networkDown n s) = control (setNet n { getNet n s with mode := .asleep, since := s.cyc, answered := [], portsAnswered := [] } s) := by
  unfold networkDown
  generalize getNet n s = x
  refine (control_forUpTo _ (fun p t => ?_) 27).trans ((control_forUpTo _ (fun ch t => ?_) 8).trans (control_forUpTo _ (fun ch t => ?_) 32))
  · rw [control_ite, control_stopPort, ite_self]
  · rw [control_ite, control_linSleep, ite_self]
  · rw [control_ite, control_canSleep, ite_self]

theorem lightsOutNow_members (target : PwrState) (s : State) : lightsGoing (lightsOutNow target s) = true ∧ (lightsOutNow target s).pwr.nets = s.pwr.nets ∧ (lightsOutNow target s).pwr.asleepPorts = s.pwr.asleepPorts := by
  unfold lightsOutNow
  dsimp only
  generalize hs : (if s.twin.mode = 1 ∧ inControl s ∧ s.twin.partner.isSome then sendTwin 0x0B 0 (natBytes 1 target.code ++ natBytes 3 0) s else s) = t
  have hpwr : t.pwr = s.pwr := by
    rw [← hs]
    split
    · exact (announces_sendTwin _ _ _ s).2.1
    · rfl
  obtain ⟨hgoing, -⟩ := goLightsOut_begins target t
  obtain ⟨hnets, hports⟩ := goLightsOut_members target t
  exact ⟨hgoing, hnets.trans (congrArg Power.nets hpwr), hports.trans (congrArg Power.asleepPorts hpwr)⟩

theorem allAsleep_iff {n : Nat} {s : State} (hn : n < 16) (hen : (getNet n s).enabled = true) : allAsleep s = true ↔ ∀ k < 16, (getNet k s).enabled = true → (getNet k s).mode = .asleep := by
  have hmem : n ∈ (List.range 16).filter (fun k => (getNet k s).enabled) := List.mem_filter.mpr ⟨List.mem_range.mpr hn, hen⟩
  have hne : ((List.range 16).filter (fun k => (getNet k s).enabled)).isEmpty = false := List.isEmpty_eq_false_iff.mpr (List.ne_nil_of_mem hmem)
  simp only [allAsleep, hne, Bool.not_false, Bool.true_and, List.all_eq_true, List.mem_filter, List.mem_range, beq_iff_eq, and_imp]

/-- The end of a round: the network sleeps, and with the last one the lights go out. -/
theorem nmCommit_frame {n : Nat} {s : State} (hn : n < 16) (hen : (getNet n s).enabled = true) :
    (getNet n (nmCommit n s)).mode = .asleep ∧ (getNet n (nmCommit n s)).since = s.cyc ∧ (nmCommit n s).pwr.asleepPorts = s.pwr.asleepPorts
    ∧ ((∃ k < 16, k ≠ n ∧ (getNet k s).enabled = true ∧ (getNet k s).mode ≠ .asleep) → (nmCommit n s).pwr.transition = s.pwr.transition)
    ∧ ((∀ k < 16, k ≠ n → (getNet k s).enabled = true → (getNet k s).mode = .asleep) → s.pwr.transition = none → lightsGoing (nmCommit n s) = true) := by
  obtain ⟨hpwr, -⟩ := agree_of_control (control_networkDown n s)
  rw [nmCommit_eq]
  generalize networkDown n s = t at hpwr
  have hnets := congrArg Power.nets hpwr
  have hself : getNet n t = { getNet n s with mode := .asleep, since := s.cyc, answered := [], portsAnswered := [] } := (getNet_of_nets hnets).trans (getNet_setNet_same n _ s)
  have hother : ∀ k, k ≠ n → getNet k t = getNet k s := fun k hk => (getNet_of_nets hnets).trans (getNet_setNet_other hk _ s)
  have hports : t.pwr.asleepPorts = s.pwr.asleepPorts := (congrArg Power.asleepPorts hpwr :)
  have htrans : t.pwr.transition = s.pwr.transition := (congrArg Power.transition hpwr :)
  have hmode : (getNet n t).mode = .asleep := by rw [hself]
  have hsince : (getNet n t).since = s.cyc := by rw [hself]
  have hall := allAsleep_iff hn (s := t) (by rw [hself]; exact hen)
  split
  next hlights =>
    obtain ⟨hasleep, -⟩ := hlights
    obtain ⟨hgoing, hnets', hports'⟩ := lightsOutNow_members (lightsTarget t) t
    refine ⟨by rw [getNet_of_nets hnets', hmode], by rw [getNet_of_nets hnets', hsince], hports'.trans hports, fun ⟨k, hk, hkn, hken, hkmode⟩ => ?_, fun _ _ => hgoing⟩
    rw [← hother k hkn] at hken hkmode
    exact absurd (hall.mp hasleep k hk hken) hkmode
  next hnot =>
    refine ⟨hmode, hsince, hports, fun _ => htrans, fun hrest hnone => absurd ⟨hall.mpr fun k hk hken => ?_, by rw [htrans, hnone]; rfl⟩ hnot⟩
    rcases Decidable.em (k = n) with rfl | hkn
    · exact hmode
    · rw [hother k hkn] at hken ⊢
      exact hrest k hk hkn hken

end Sys2Proof.Machine
end

section
/-! Proofs/NetworkManagement: rounds that begin, fail and end, the polls and the messages of network management, TC10, and the clauses about them (R395-R402, R407, R443, R445). -/

namespace Sys2Proof.Machine
open Sys2Proof.Claims

/-- A loop that comes once to `n`, whose round there turns `P` into `Q`, and whose other rounds keep both, ends with `Q`. -/
theorem forEach_once {α σ : Type} {P Q : σ → Prop} {f : α → σ → σ} {n : α} (hP : ∀ a t, a ≠ n → P t → P (f a t)) (hn : ∀ t, P t → Q (f n t)) (hQ : ∀ a t, a ≠ n → Q t → Q (f a t))
    {l : List α} (hnodup : l.Nodup) (hl : n ∈ l) {s : σ} (hs : P s) : Q (forEach l f s) := by
  have hkeeps : ∀ (l : List α) (t : σ), n ∉ l → Q t → Q (forEach l f t) := by
    intro l
    induction l with
    | nil => exact fun t _ h => h
    | cons a l ih =>
      intro t hmem h
      obtain ⟨hna, hnl⟩ := not_or.mp (mt List.mem_cons.mpr hmem)
      exact ih _ hnl (hQ a t (Ne.symm hna) h)
  induction l generalizing s with
  | nil => exact absurd hl List.not_mem_nil
  | cons a l ih =>
    obtain ⟨hal, hrest⟩ := List.nodup_cons.mp hnodup
    by_cases hmem : n ∈ l
    · have ha : a ≠ n := fun h => hal (h ▸ hmem)
      exact ih hrest hmem (hP a s ha hs)
    · have ha : n = a := (List.mem_cons.mp hl).resolve_right hmem
      subst ha
      exact hkeeps l _ hmem (hn s hs)

/-! A round begins (R398) -/

/-- A network whose round begins at a time. -/
def roundBegun (x : Net) (at_ : Nat) : Net := { x with mode := .consent, phase := 1, since := at_, answered := [], portsAnswered := [] }

theorem snapshotFor_view {u v : State} (h : snapshotFor u = some v) : roundView v = roundView u := by
  unfold snapshotFor at h
  dsimp only at h
  split at h
  · cases h
  · split at h
    · split at h
      · cases h
        rfl
      · cases h
        rfl
    · cases h
      rfl

section
variable {n : Nat} {u v w : State} (hsnap : snapshotFor u = some v) (hw : (if (getNet n u).mode = .wakeCheck then bump .pwrNmFalseWake n v else v) = w)

theorem startRound_none (h : snapshotFor u = none) : startRound n u = raiseEv .nmSaveFail n [] (bump .pwrNmSaveFail 0 (setNet n { getNet n u with mode := .awake, since := u.cyc } u)) := by
  unfold startRound
  rw [h]

include hsnap hw

theorem startRound_some : startRound n u = roundProgress n (nmSendAll n 2 (bump .pwrNmRound n (setNet n (roundBegun (getNet n u) u.cyc) w))) := by
  unfold startRound
  rw [hsnap, ← hw]
  rfl

/-- The state whose round has begun, as a round reads it. -/
theorem roundBegun_view : roundView (nmSendAll n 2 (bump .pwrNmRound n (setNet n (roundBegun (getNet n u) u.cyc) w))) = roundView (setNet n (roundBegun (getNet n u) u.cyc) u) := by
  have hv := snapshotFor_view hsnap
  have hwv : roundView w = roundView u := by
    rw [← hw]
    split
    · exact hv
    · exact hv
  exact (roundView_nmSendAll n 2 _).trans (congrArg (fun x : Power × SMap PortSt × Nat × TwinMode × List Byte × Nat => (({ x.1 with nets := mapSet netReset x.1.nets n (roundBegun (getNet n u) u.cyc) } : Power), x.2)) hwv :)

variable (hen : (getNet n u).enabled = true)
include hen

theorem startRound_waits (hsilent : silentNodes n (setNet n (roundBegun (getNet n u) u.cyc) u) ≠ []) :
    startRound n u = nmSendAll n 2 (bump .pwrNmRound n (setNet n (roundBegun (getNet n u) u.cyc) w)) := by
  have hview := roundBegun_view hsnap hw
  rw [startRound_some hsnap hw]
  generalize nmSendAll n 2 (bump .pwrNmRound n (setNet n (roundBegun (getNet n u) u.cyc) w)) = b at hview
  obtain ⟨hpwr, -⟩ := roundView_eq hview
  have hnet : getNet n b = roundBegun (getNet n u) u.cyc := (getNet_of_nets (congrArg Power.nets hpwr)).trans (getNet_setNet_same n _ u)
  exact roundProgress_waits (by rw [hnet]; exact hen) (by rw [hnet]; rfl) (by rw [hnet]; rfl) (by rw [silentNodes_of hpwr]; exact hsilent)

/-- A round without participants ends at once, and the network sleeps. -/
theorem startRound_ends (hn : n < 16) (hnodes : silentNodes n (setNet n (roundBegun (getNet n u) u.cyc) u) = []) (hports : silentPorts n (setNet n (roundBegun (getNet n u) u.cyc) u) = [])
    (hpairs : silentPairPorts n (setNet n (roundBegun (getNet n u) u.cyc) u) = []) :
    (getNet n (startRound n u)).mode = .asleep ∧ (getNet n (startRound n u)).since = u.cyc
    ∧ ((∃ k < 16, k ≠ n ∧ (getNet k u).enabled = true ∧ (getNet k u).mode ≠ .asleep) → (startRound n u).pwr.transition = u.pwr.transition)
    ∧ ((∀ k < 16, k ≠ n → (getNet k u).enabled = true → (getNet k u).mode = .asleep) → u.pwr.transition = none → lightsGoing (startRound n u) = true) := by
  have hview := roundBegun_view hsnap hw
  rw [startRound_some hsnap hw]
  generalize nmSendAll n 2 (bump .pwrNmRound n (setNet n (roundBegun (getNet n u) u.cyc) w)) = b at hview
  obtain ⟨hpwr, hp, hpair, hstatus, hcyc⟩ := roundView_eq hview
  have hnet : getNet n b = getNet n (setNet n (roundBegun (getNet n u) u.cyc) u) := getNet_of_nets (congrArg Power.nets hpwr)
  have hbegun : getNet n b = roundBegun (getNet n u) u.cyc := hnet.trans (getNet_setNet_same n _ u)
  have hdone : silentPorts n b = [] ∧ silentPairPorts n b = [] :=
    ⟨(silentPorts_of (congrArg Net.record hnet) (congrArg Net.portsAnswered hnet) hp (congrArg Power.portExcluded hpwr)).trans hports,
      (silentPairPorts_of (congrArg Net.record hnet) (congrArg Net.portsAnswered hnet) hpair hstatus (congrArg Power.portSilent hpwr)).trans hpairs⟩
  have hends : roundProgress n b = nmCommit n (asksPorts n b) :=
    (roundProgress_nodes (by rw [hbegun]; exact hen) (by rw [hbegun]; rfl) (by rw [hbegun]; rfl) ((silentNodes_of hpwr).trans hnodes)).trans (if_pos hdone)
  have hasked := asksPorts_net n b
  obtain ⟨haskedPwr, -, -, -, haskedCyc⟩ := roundView_eq (asksPorts_view n b)
  rw [hends]
  generalize asksPorts n b = a at hasked haskedPwr haskedCyc
  have haen : (getNet n a).enabled = true := by
    rw [hasked]
    change (getNet n b).enabled = true
    rw [hbegun]
    exact hen
  have hother : ∀ k, k ≠ n → getNet k a = getNet k u := fun k hk =>
    (getNet_of_nets (congrArg Power.nets haskedPwr)).trans ((getNet_setNet_other hk _ b).trans ((getNet_of_nets (congrArg Power.nets hpwr)).trans (getNet_setNet_other hk _ u)))
  have hidle : b.pwr.transition = u.pwr.transition := (congrArg Power.transition hpwr :)
  have htrans : a.pwr.transition = u.pwr.transition := (congrArg Power.transition haskedPwr :).trans hidle
  obtain ⟨hmode, hsince, -, hsome, hnone⟩ := nmCommit_frame hn haen
  refine ⟨hmode, hsince.trans (haskedCyc.trans hcyc), fun ⟨k, hk, hkn, hken, hkmode⟩ => ?_, fun hrest hidle => ?_⟩
  · rw [← hother k hkn] at hken hkmode
    exact (hsome ⟨k, hk, hkn, hken, hkmode⟩).trans htrans
  · refine hnone (fun k hk hkn hken => ?_) (htrans.trans hidle)
    rw [hother k hkn] at hken ⊢
    exact hrest k hk hkn hken

end

/-! The read of a network's keep-alive rule (R395) -/

/-- One network's share of a poll. -/
def kaRead (n : Nat) (t : State) : State :=
  let x := getNet n t
  let c := kaCount x t
  if !x.enabled then t
  else
    let t1 := setNet n { x with kaSeen := c } t
    if c > x.kaSeen then keepAwake n t1 else t1

theorem kaPoll_due {s : State} (hrun : nmRuns s = true) (hdue : s.pwr.kaPollAt ≤ s.cyc) : kaPoll s = setPwr { (forUpTo 16 kaRead s).pwr with kaPollAt := s.cyc + 10 * msCyc } (forUpTo 16 kaRead s) :=
  if_neg (by simp [hrun, hdue])

/-- The firewall, the Bolt and the time, which no poll changes. -/
def rulesAndBolt (s : State) : Seam × Fabric × Nat := (s.seam, s.fab, s.cyc)

theorem rulesAndBolt_wakePort (p : Nat) (s : State) : rulesAndBolt (wakePort p s) = rulesAndBolt s := by
  unfold wakePort relayTo
  split
  · split
    · rfl
    · rfl
  · rfl

theorem rulesAndBolt_keepAwake (n : Nat) (s : State) : rulesAndBolt (keepAwake n s) = rulesAndBolt s := by
  unfold keepAwake
  dsimp only
  split
  · rfl
  · split
    · exact (forEach_keeps (p := rulesAndBolt) (fun p t => rulesAndBolt_wakePort p t) _ _).trans rfl
    · rfl
    · rfl

theorem kaRead_frame (n : Nat) (s : State) : rulesAndBolt (kaRead n s) = rulesAndBolt s ∧ ∀ k, k ≠ n → getNet k (kaRead n s) = getNet k s := by
  unfold kaRead
  dsimp only
  split
  · exact ⟨rfl, fun _ _ => rfl⟩
  · split
    · obtain ⟨-, -, hothers, -⟩ := keepAwake_frame n (setNet n { getNet n s with kaSeen := kaCount (getNet n s) s } s)
      exact ⟨rulesAndBolt_keepAwake n _, fun k hk => (hothers k hk).trans (getNet_setNet_other hk _ s)⟩
    · exact ⟨rfl, fun k hk => getNet_setNet_other hk _ s⟩

theorem keepAwake_kaSeen (n : Nat) (s : State) : (getNet n (keepAwake n s)).kaSeen = (getNet n s).kaSeen := by
  obtain ⟨-, -, -, hself⟩ := roundFails_frame n s
  unfold keepAwake
  dsimp only
  split
  · rfl
  · split
    · rw [hself]
    · rfl
    · rw [getNet_setNet_same]

theorem keepAwake_asleep {n : Nat} {s : State} (h : (getNet n s).mode = .asleep) : keepAwake n s = s := by
  unfold keepAwake
  dsimp only
  split
  · rfl
  · rw [h]

/-- A network after a poll that read a count: kept awake where the count rose and it did not sleep. -/
def KaTaken (x : Net) (c at_ : Nat) (y : Net) : Prop :=
  (c ≤ x.kaSeen ∨ x.mode = .asleep → y = { x with kaSeen := c }) ∧ (x.kaSeen < c → x.mode ≠ .asleep → y.mode = .awake ∧ y.since = at_ ∧ y.kaSeen = c)

theorem kaRead_self {n : Nat} {s : State} (hen : (getNet n s).enabled = true) : KaTaken (getNet n s) (kaCount (getNet n s) s) s.cyc (getNet n (kaRead n s)) := by
  have hread : kaRead n s = if kaCount (getNet n s) s > (getNet n s).kaSeen then keepAwake n (setNet n { getNet n s with kaSeen := kaCount (getNet n s) s } s) else setNet n { getNet n s with kaSeen := kaCount (getNet n s) s } s :=
    if_neg (by rw [hen]; decide)
  generalize hy : ({ getNet n s with kaSeen := kaCount (getNet n s) s } : Net) = y at hread
  have hset : getNet n (setNet n y s) = y := getNet_setNet_same n y s
  have hymode : y.mode = (getNet n s).mode := by rw [← hy]
  have hyen : y.enabled = true := by rw [← hy]; exact hen
  have hyseen : y.kaSeen = kaCount (getNet n s) s := by rw [← hy]
  rw [KaTaken, hread, hy]
  refine ⟨fun h => ?_, fun hrose hmode => ?_⟩
  · split
    next hrose =>
      have hasleep : (getNet n (setNet n y s)).mode = .asleep := by rw [hset, hymode]; exact h.resolve_left (Nat.not_le.mpr hrose)
      rw [keepAwake_asleep hasleep, hset]
    · exact hset
  · obtain ⟨-, -, -, hself⟩ := keepAwake_frame n (setNet n y s)
    rw [hset] at hself
    obtain ⟨-, hawake, hsince⟩ := hself hyen (by rw [hymode]; exact hmode)
    rw [if_pos hrose]
    exact ⟨hawake, hsince, (keepAwake_kaSeen n _).trans (by rw [hset, hyseen])⟩

/-- A poll reads each network once. -/
theorem kaReads_self {n : Nat} {s : State} (hn : n < 16) (hen : (getNet n s).enabled = true) : KaTaken (getNet n s) (kaCount (getNet n s) s) s.cyc (getNet n (forUpTo 16 kaRead s)) := by
  refine forEach_once (P := fun t => getNet n t = getNet n s ∧ rulesAndBolt t = rulesAndBolt s) (Q := fun t => KaTaken (getNet n s) (kaCount (getNet n s) s) s.cyc (getNet n t)) (f := kaRead) (n := n)
    (fun a t ha ht => ?_) (fun t ht => ?_) (fun a t ha ht => ?_) List.nodup_range (List.mem_range.mpr hn) ⟨rfl, rfl⟩
  · obtain ⟨hview, hothers⟩ := kaRead_frame a t
    exact ⟨(hothers n ha.symm).trans ht.1, hview.trans ht.2⟩
  · obtain ⟨hnet, hview⟩ := ht
    have hseam : t.seam = s.seam := congrArg Prod.fst hview
    have hcount : kaCount (getNet n s) t = kaCount (getNet n s) s := by rw [kaCount, kaCount, hseam]
    have hcyc : t.cyc = s.cyc := (congrArg (fun x => x.2.2) hview :)
    have hself := kaRead_self (n := n) (s := t) (by rw [hnet]; exact hen)
    rw [hnet, hcount, hcyc] at hself
    exact hself
  · obtain ⟨-, hothers⟩ := kaRead_frame a t
    rw [hothers n ha.symm]
    exact ht

/-! Silence (R400) -/

/-- What a node's silence leaves of another participant. -/
theorem nodeSilent_other {n : Nat} {a e : Nat × Nat} {s : State} (h : a ≠ e) : mapGet 0 (getNmChan e.1 (nodeSilent n a s)).silent e.2 = mapGet 0 (getNmChan e.1 s).silent e.2
    ∧ ((getNmChan e.1 s).nodes.getLsbD e.2 = false → (getNmChan e.1 (nodeSilent n a s)).nodes.getLsbD e.2 = false) := by
  have hset : ∀ (x : NmChan) (t : State), (a.1 = e.1 → a.2 ≠ e.2 → mapGet 0 x.silent e.2 = mapGet 0 (getNmChan e.1 t).silent e.2) → (a.1 = e.1 → (getNmChan e.1 t).nodes.getLsbD e.2 = false → x.nodes.getLsbD e.2 = false) →
      mapGet 0 (getNmChan e.1 (setNmChan a.1 x t)).silent e.2 = mapGet 0 (getNmChan e.1 t).silent e.2 ∧ ((getNmChan e.1 t).nodes.getLsbD e.2 = false → (getNmChan e.1 (setNmChan a.1 x t)).nodes.getLsbD e.2 = false) := fun x t hsilent hnodes => by
    by_cases hch : a.1 = e.1
    · have hsame : getNmChan e.1 (setNmChan a.1 x t) = x := by rw [← hch]; exact mapGet_mapSet_same _ _ _ _
      rw [hsame]
      exact ⟨hsilent hch fun hk => h (Prod.ext hch hk), hnodes hch⟩
    · have hother : getNmChan e.1 (setNmChan a.1 x t) = getNmChan e.1 t := mapGet_mapSet_other _ _ _ (Ne.symm hch)
      rw [hother]
      exact ⟨rfl, id⟩
  have hmap : ∀ k, a.1 = e.1 → a.2 ≠ e.2 → mapGet 0 (mapSet 0 (getNmChan a.1 s).silent a.2 k) e.2 = mapGet 0 (getNmChan e.1 s).silent e.2 := fun k hch hk => by
    rw [hch]
    exact mapGet_mapSet_other _ _ _ (Ne.symm hk)
  unfold nodeSilent
  dsimp only
  split
  · refine hset { nodes := (getNmChan a.1 s).nodes &&& ~~~(BitVec.twoPow 64 a.2), silent := mapSet 0 (getNmChan a.1 s).silent a.2 0 } s (hmap 0) (fun hch hoff => ?_)
    rw [hch, BitVec.getLsbD_and, hoff, Bool.false_and]
  · exact hset { getNmChan a.1 s with silent := mapSet 0 (getNmChan a.1 s).silent a.2 (mapGet 0 (getNmChan a.1 s).silent a.2 + 1) } s (hmap (mapGet 0 (getNmChan a.1 s).silent a.2 + 1)) (fun hch hoff => hch ▸ hoff)

theorem nodeSilent_self (n : Nat) (e : Nat × Nat) (s : State) :
    (mapGet 0 (getNmChan e.1 s).silent e.2 < 2 → mapGet 0 (getNmChan e.1 (nodeSilent n e s)).silent e.2 = mapGet 0 (getNmChan e.1 s).silent e.2 + 1)
    ∧ (2 ≤ mapGet 0 (getNmChan e.1 s).silent e.2 → (getNmChan e.1 (nodeSilent n e s)).nodes.getLsbD e.2 = false) := by
  have hsame : ∀ (x : NmChan) (t : State), getNmChan e.1 (setNmChan e.1 x t) = x := fun x t => mapGet_mapSet_same _ _ _ _
  unfold nodeSilent
  generalize hc : getNmChan e.1 s = c
  dsimp only
  split
  next hthird =>
    refine ⟨fun h => by omega, fun _ => ?_⟩
    have hnet : getNmChan e.1 (bump .pwrNmSilent n (setNmChan e.1 { nodes := c.nodes &&& ~~~(BitVec.twoPow 64 e.2), silent := mapSet 0 c.silent e.2 0 } s)) = { nodes := c.nodes &&& ~~~(BitVec.twoPow 64 e.2), silent := mapSet 0 c.silent e.2 0 } := hsame _ s
    rw [hnet, BitVec.getLsbD_and, BitVec.getLsbD_not, BitVec.getLsbD_twoPow]
    by_cases hk : e.2 < 64
    · simp [hk]
    · rw [BitVec.getLsbD_of_ge _ _ (Nat.not_lt.mp hk), Bool.false_and]
  next hfew =>
    rw [hsame]
    exact ⟨fun _ => mapGet_mapSet_same 0 c.silent e.2 (mapGet 0 c.silent e.2 + 1), fun h => by omega⟩

theorem silentNodes_nodup (n : Nat) (s : State) : (silentNodes n s).Nodup := by
  unfold silentNodes
  refine List.pairwise_flatMap.mpr ⟨fun ch _ => ?_, ?_⟩
  · exact List.Pairwise.map _ (fun k j hne h => hne (congrArg Prod.snd h)) (List.Pairwise.filter _ List.nodup_range)
  · refine (List.Pairwise.filter _ List.nodup_range).imp fun {ch ch'} hne e he e' he' heq => ?_
    obtain ⟨k, -, hk⟩ := List.mem_map.mp he
    obtain ⟨j, -, hj⟩ := List.mem_map.mp he'
    exact hne (congrArg Prod.fst (hk.trans (heq.trans hj.symm)))

/-- A round's silent nodes are each counted once, and left out the third time in a row. -/
theorem nodesSilent_each {n m : Nat} {s : State} {e : Nat × Nat} (he : e ∈ silentNodes m s) (u : State) :
    (mapGet 0 (getNmChan e.1 u).silent e.2 < 2 → mapGet 0 (getNmChan e.1 (forEach (silentNodes m s) (nodeSilent n) u)).silent e.2 = mapGet 0 (getNmChan e.1 u).silent e.2 + 1)
    ∧ (2 ≤ mapGet 0 (getNmChan e.1 u).silent e.2 → (getNmChan e.1 (forEach (silentNodes m s) (nodeSilent n) u)).nodes.getLsbD e.2 = false) := by
  refine forEach_once (P := fun t => mapGet 0 (getNmChan e.1 t).silent e.2 = mapGet 0 (getNmChan e.1 u).silent e.2)
    (Q := fun t => (mapGet 0 (getNmChan e.1 u).silent e.2 < 2 → mapGet 0 (getNmChan e.1 t).silent e.2 = mapGet 0 (getNmChan e.1 u).silent e.2 + 1) ∧ (2 ≤ mapGet 0 (getNmChan e.1 u).silent e.2 → (getNmChan e.1 t).nodes.getLsbD e.2 = false))
    (f := nodeSilent n) (n := e) (fun a t ha ht => ?_) (fun t ht => ?_) (fun a t ha ht => ?_) (silentNodes_nodup m s) he rfl
  · obtain ⟨hsilent, -⟩ := nodeSilent_other (n := n) (s := t) ha
    exact hsilent.trans ht
  · have hself := nodeSilent_self n e t
    rw [ht] at hself
    exact hself
  · obtain ⟨hsilent, hnodes⟩ := nodeSilent_other (n := n) (s := t) ha
    obtain ⟨hfew, hmany⟩ := ht
    exact ⟨fun h => hsilent.trans (hfew h), fun h => hnodes (hmany h)⟩

theorem portSilent_other {n p q : Nat} {s : State} (h : q ≠ p) : mapGet 0 (portSilent n q s).pwr.portSilent p = mapGet 0 s.pwr.portSilent p ∧ (s.pwr.portExcluded.getLsbD p = true → (portSilent n q s).pwr.portExcluded.getLsbD p = true) := by
  have hmap : ∀ k, mapGet 0 (mapSet 0 s.pwr.portSilent q k) p = mapGet 0 s.pwr.portSilent p := fun k => mapGet_mapSet_other _ _ _ (Ne.symm h)
  unfold portSilent
  dsimp only
  split
  · split
    · exact ⟨hmap (mapGet 0 s.pwr.portSilent q + 1), id⟩
    · exact ⟨hmap (mapGet 0 s.pwr.portSilent q + 1), id⟩
  · split
    · refine ⟨hmap 0, fun hbit => ?_⟩
      change (s.pwr.portExcluded ||| BitVec.twoPow 27 q).getLsbD p = true
      rw [BitVec.getLsbD_or, hbit, Bool.true_or]
    · exact ⟨hmap (mapGet 0 s.pwr.portSilent q + 1), id⟩

theorem portSilent_self {n p : Nat} {s : State} (hp : p < 27) : (mapGet 0 s.pwr.portSilent p < 2 → mapGet 0 (portSilent n p s).pwr.portSilent p = mapGet 0 s.pwr.portSilent p + 1)
    ∧ (2 ≤ mapGet 0 s.pwr.portSilent p → (portSilent n p s).pwr.portExcluded.getLsbD p = true) := by
  unfold portSilent
  dsimp only
  rw [if_neg (by omega)]
  split
  next hthird =>
    refine ⟨fun h => by omega, fun _ => ?_⟩
    change (s.pwr.portExcluded ||| BitVec.twoPow 27 p).getLsbD p = true
    simp [hp]
  next hfew => exact ⟨fun _ => mapGet_mapSet_same 0 s.pwr.portSilent p (mapGet 0 s.pwr.portSilent p + 1), fun h => by omega⟩

theorem silentPorts_lt {n p : Nat} {s : State} (h : p ∈ silentPorts n s) : p < 27 := by
  unfold silentPorts at h
  exact List.mem_range.mp (List.mem_filter.mp h).1

/-- A round's silent ports, with those of the partner in their places from 32 on. -/
theorem allSilentPorts_nodup (n : Nat) (s : State) : (silentPorts n s ++ (silentPairPorts n s).map (fun p => p + 32)).Nodup := by
  have hports : (silentPorts n s).Nodup := List.Pairwise.filter _ List.nodup_range
  have hpairs : (silentPairPorts n s).Nodup := by
    unfold silentPairPorts
    dsimp only
    split
    · exact List.Pairwise.filter _ List.nodup_range
    · exact List.nodup_nil
  refine List.nodup_append.mpr ⟨hports, List.Pairwise.map _ (fun a b hne h => hne (Nat.add_right_cancel h)) hpairs, fun p hp p' hp' heq => ?_⟩
  obtain ⟨q, -, hq⟩ := List.mem_map.mp hp'
  have := silentPorts_lt hp
  omega

theorem portsSilent_each {n p m : Nat} {s : State} (hp : p ∈ silentPorts m s) (u : State) :
    (mapGet 0 u.pwr.portSilent p < 2 → mapGet 0 (forEach (silentPorts m s ++ (silentPairPorts m s).map (fun p => p + 32)) (portSilent n) u).pwr.portSilent p = mapGet 0 u.pwr.portSilent p + 1)
    ∧ (2 ≤ mapGet 0 u.pwr.portSilent p → (forEach (silentPorts m s ++ (silentPairPorts m s).map (fun p => p + 32)) (portSilent n) u).pwr.portExcluded.getLsbD p = true) := by
  refine forEach_once (P := fun t => mapGet 0 t.pwr.portSilent p = mapGet 0 u.pwr.portSilent p)
    (Q := fun t => (mapGet 0 u.pwr.portSilent p < 2 → mapGet 0 t.pwr.portSilent p = mapGet 0 u.pwr.portSilent p + 1) ∧ (2 ≤ mapGet 0 u.pwr.portSilent p → t.pwr.portExcluded.getLsbD p = true))
    (f := portSilent n) (n := p) (fun q t hq ht => ?_) (fun t ht => ?_) (fun q t hq ht => ?_) (allSilentPorts_nodup m s) (List.mem_append_left _ hp) rfl
  · obtain ⟨hsilent, -⟩ := portSilent_other (n := n) (s := t) hq
    exact hsilent.trans ht
  · have hself := portSilent_self (n := n) (s := t) (silentPorts_lt hp)
    rw [ht] at hself
    exact hself
  · obtain ⟨hsilent, hexcluded⟩ := portSilent_other (n := n) (s := t) hq
    obtain ⟨hfew, hmany⟩ := ht
    exact ⟨fun h => hsilent.trans (hfew h), fun h => hexcluded (hmany h)⟩

/-- What a round that fails leaves of the participants. -/
theorem roundFails_participants (n : Nat) (s : State) : (roundFails n s).pwr.chans = s.pwr.chans ∧ (roundFails n s).pwr.portSilent = s.pwr.portSilent ∧ (roundFails n s).pwr.portExcluded = s.pwr.portExcluded := by
  unfold roundFails
  dsimp only
  generalize hu : bump .pwrNmRoundFail n (setNet n { getNet n s with mode := .awake, since := s.cyc, answered := [], portsAnswered := [] } s) = u
  have hkeep := forEach_keeps (p := fun t => (t.pwr.chans, t.pwr.portSilent, t.pwr.portExcluded)) (f := wakePort) (fun p t => by
    unfold wakePort relayTo
    split
    · split
      · rfl
      · rfl
    · rfl) (getNet n s).portsAnswered u
  rw [← hu] at hkeep ⊢
  exact ⟨(congrArg (fun x => x.1) hkeep :), (congrArg (fun x => x.2.1) hkeep :), (congrArg (fun x => x.2.2) hkeep :)⟩

end Sys2Proof.Machine
end

section
/-! Proofs/NetworkMessages: messages of network management and TC10, and the clauses about networks (R395-R402, R407, R443, R445). -/

namespace Sys2Proof.Machine
open Sys2Proof.Claims

/-! Members of networks -/

theorem netOf_some {has : Net → Bool} {n : Nat} {s : State} (h : netOf has s = some n) : n < 16 ∧ (getNet n s).enabled = true ∧ has (getNet n s) = true := by
  unfold netOf at h
  have hn := List.mem_range.mp (List.mem_of_find?_eq_some h)
  have hfound := List.find?_some h
  obtain ⟨hen, hhas⟩ := Bool.and_eq_true_iff.mp hfound
  exact ⟨hn, hen, hhas⟩

/-! Network-management messages (R396, R397, R399) -/

/-- A message of network management as R396's table has it. -/
def NmValid (n op : Nat) (m : CanMsg) (s : State) : Prop :=
  m.format = .classicBase ∧ m.rtr = false ∧ m.ident = bits (getNet n s).record 26 16 ∧ m.dlc = 2 ∧ m.data.length = 2 ∧ numAt m.data 0 1 = op ∧ (numAt m.data 1 1 < 64 ∨ numAt m.data 1 1 = 0xFE)

/-- The check of that table. -/
def nmOk (n op : Nat) (m : CanMsg) (s : State) : Bool :=
  m.format == .classicBase && !m.rtr && m.ident == bits (getNet n s).record 26 16 && m.dlc == 2 && m.data.length == 2 && numAt m.data 0 1 == op && (decide (numAt m.data 1 1 < 64) || numAt m.data 1 1 == 0xFE)

theorem nmOk_iff {n op : Nat} {m : CanMsg} {s : State} : nmOk n op m s = true ↔ NmValid n op m s := by simp [nmOk, NmValid, and_assoc]

/-- A participant heard on a channel. -/
def nmHeard (ch : Nat) (m : CanMsg) (s : State) : State :=
  if numAt m.data 1 1 < 64 then setNmChan ch { getNmChan ch s with nodes := (getNmChan ch s).nodes ||| BitVec.twoPow 64 (numAt m.data 1 1) } s else s

section
variable {ch op n : Nat} {m : CanMsg} {s : State}

theorem nmTake_none (h : netOf (fun x => x.hasCan ch) s = none) : nmTake ch op m s = (none, s) := by
  unfold nmTake
  rw [h]

variable (hnet : netOf (fun x => x.hasCan ch) s = some n)
include hnet

theorem nmTake_idle (h : nmRuns s = false ∨ (getNet n s).mode = .asleep) : nmTake ch op m s = (none, s) := by
  unfold nmTake
  rw [hnet]
  exact if_pos (h.imp_left (congrArg not))

variable (hrun : nmRuns s = true) (hawake : (getNet n s).mode ≠ .asleep)
include hrun hawake

theorem nmTake_eq : nmTake ch op m s = if !(nmOk n op m s) then (none, bump .pwrNmBad ch s) else (some (n, numAt m.data 1 1), nmHeard ch m s) := by
  unfold nmTake
  rw [hnet]
  exact if_neg (by simp [hrun, hawake])

theorem nmTake_bad (h : ¬ NmValid n op m s) : nmTake ch op m s = (none, bump .pwrNmBad ch s) := by
  rw [nmTake_eq hnet hrun hawake, Bool.eq_false_iff.mpr (mt nmOk_iff.mp h)]
  rfl

theorem nmTake_valid (h : NmValid n op m s) : nmTake ch op m s = (some (n, numAt m.data 1 1), nmHeard ch m s) := by
  rw [nmTake_eq hnet hrun hawake, nmOk_iff.mpr h]
  rfl

end

theorem nmHeard_net (k ch : Nat) (m : CanMsg) (s : State) : getNet k (nmHeard ch m s) = getNet k s := by
  unfold nmHeard
  split
  · rfl
  · rfl

theorem nmHeard_silent (ch : Nat) (m : CanMsg) (s : State) : (getNmChan ch (nmHeard ch m s)).silent = (getNmChan ch s).silent := by
  unfold nmHeard
  split
  · have hsame : ∀ x, getNmChan ch (setNmChan ch x s) = x := fun x => mapGet_mapSet_same ({} : NmChan) s.pwr.chans ch x
    rw [hsame]
  · rfl

theorem nmHeard_cyc (ch : Nat) (m : CanMsg) (s : State) : (nmHeard ch m s).cyc = s.cyc := by
  unfold nmHeard
  split
  · rfl
  · rfl

section
variable {ch : Nat} {m : CanMsg} {s t : State}

theorem keepAliveRx_none (h : nmTake ch 1 m s = (none, t)) : keepAliveRx ch m s = t := by rw [keepAliveRx, h]
theorem readyToSleepRx_none (h : nmTake ch 2 m s = (none, t)) : readyToSleepRx ch m s = t := by rw [readyToSleepRx, h]
theorem consentRx_none (h : nmTake ch 3 m s = (none, t)) : consentRx ch m s = t := by rw [consentRx, h]
theorem refuseRx_none (h : nmTake ch 4 m s = (none, t)) : refuseRx ch m s = t := by rw [refuseRx, h]

end

/-- A Keeper that runs, of a module that forwards nothing to its partner, takes a message of network management itself. -/
theorem keeperMessage_own {ch : Nat} {m : CanMsg} {act : State → State} {s : State} (hrun : keeperRuns s = true) (hmech : mechanismsOn s = true) (hown : standbyRule s = false ∨ s.twin.mode ≠ 1) :
    keeperMessage ch m act s = act s := by
  have hact : keeperMessage ch m act s = if standbyRule s ∧ s.twin.mode = 1 then relayRaw 1 ch (canPseudo ch ((canRecord ch s).getLsbD 124) m) s else act s :=
    (if_neg (awake_of_keeperRuns hrun)).trans (if_pos ⟨hrun, hmech⟩)
  refine hact.trans (if_neg fun h => ?_)
  obtain ⟨hrule, hmode⟩ := h
  rcases hown with hoff | hother
  · rw [hoff] at hrule
    exact Bool.false_ne_true hrule
  · exact hother hmode

/-- A message that is not taken changes nothing but what its check counts. -/
theorem nmRow_not {ch : CanCh} {m : CanMsg} {op : Nat} {s t : State} (hrun : keeperRuns s = true) (hmech : mechanismsOn s = true) (hown : standbyRule s = false ∨ s.twin.mode ≠ 1)
    (h : ∀ k, (1 ≤ op → op ≤ 4 → k = op) → nmTake ch.val k m s = (none, t)) : Completes (if op = 1 then .nmKeepAliveRx ch m else if op = 2 then .nmReadyToSleepRx ch m else if op = 3 then .nmConsentRx ch m else .nmRefuseRx ch m) s t := by
  split
  next h1 => exact congrArg ends ((keeperMessage_own hrun hmech hown).trans (keepAliveRx_none (h 1 fun _ _ => h1.symm)))
  split
  next h2 => exact congrArg ends ((keeperMessage_own hrun hmech hown).trans (readyToSleepRx_none (h 2 fun _ _ => h2.symm)))
  split
  next h3 => exact congrArg ends ((keeperMessage_own hrun hmech hown).trans (consentRx_none (h 3 fun _ _ => h3.symm)))
  next h1 h2 h3 => exact congrArg ends ((keeperMessage_own hrun hmech hown).trans (refuseRx_none (h 4 fun _ _ => by omega)))

/-! Consent of a node (R399) -/

/-- A round that fails: its network is awake from now on, and the ports that slept wake. -/
def roundFailed (n : Nat) (x : Net) (s t : State) : State := forEach x.portsAnswered wakePort (bump .pwrNmRoundFail n (setNet n { x with mode := .awake, since := s.cyc, answered := [], portsAnswered := [] } t))

theorem roundFails_eq {n : Nat} {s t : State} (hnet : getNet n t = getNet n s) (hcyc : t.cyc = s.cyc) : roundFails n t = roundFailed n (getNet n s) s t := by
  unfold roundFails roundFailed
  rw [hnet, hcyc]

/-- A network awake from now on. -/
theorem keepAwake_awake {n : Nat} {s : State} (hen : (getNet n s).enabled = true) (hawake : (getNet n s).mode ≠ .asleep) (hmode : (getNet n s).mode ≠ .consent) :
    keepAwake n s = setNet n { getNet n s with mode := .awake, since := s.cyc } s := by
  unfold keepAwake
  dsimp only
  rw [if_neg (by rw [hen]; decide)]
  split
  next h => exact absurd h hmode
  next h => exact absurd h hawake
  · rfl

theorem keepAwake_consent {n : Nat} {s : State} (hen : (getNet n s).enabled = true) (hmode : (getNet n s).mode = .consent) : keepAwake n s = roundFails n s := by
  unfold keepAwake
  dsimp only
  rw [if_neg (by rw [hen]; decide), hmode]

/-- A node's consent recorded. -/
def nmAnswered (n ch : Nat) (m : CanMsg) (s : State) : State :=
  setNet n { getNet n s with answered := (getNet n s).answered ++ [(ch, numAt m.data 1 1)] }
    (setNmChan ch { getNmChan ch (nmHeard ch m s) with silent := mapSet 0 (getNmChan ch s).silent (numAt m.data 1 1) 0 } (nmHeard ch m s))

section
variable {n ch : Nat} {m : CanMsg} {s : State} (htake : nmTake ch 3 m s = (some (n, numAt m.data 1 1), nmHeard ch m s))
include htake

theorem consentRx_heard (h : 64 ≤ numAt m.data 1 1 ∨ (getNet n s).mode ≠ .consent ∨ (getNet n s).phase ≠ 1) : consentRx ch m s = nmHeard ch m s := by
  rw [consentRx, htake]
  exact if_pos (by rw [nmHeard_net]; exact h)

theorem consentRx_answered (hnode : numAt m.data 1 1 < 64) (hmode : (getNet n s).mode = .consent) (hphase : (getNet n s).phase = 1) : consentRx ch m s = roundProgress n (nmAnswered n ch m s) := by
  have hact : consentRx ch m s = roundProgress n (setNet n { getNet n (nmHeard ch m s) with answered := (getNet n (nmHeard ch m s)).answered ++ [(ch, numAt m.data 1 1)] }
      (setNmChan ch { getNmChan ch (nmHeard ch m s) with silent := mapSet 0 (getNmChan ch (nmHeard ch m s)).silent (numAt m.data 1 1) 0 } (nmHeard ch m s))) := by
    rw [consentRx, htake]
    exact if_neg (by rw [nmHeard_net]; simp [Nat.not_le.mpr hnode, hmode, hphase])
  rw [hact, nmHeard_net, nmHeard_silent]
  rfl

end

theorem nmAnswered_net (n ch : Nat) (m : CanMsg) (s : State) : getNet n (nmAnswered n ch m s) = { getNet n s with answered := (getNet n s).answered ++ [(ch, numAt m.data 1 1)] } := getNet_setNet_same n _ _

/-! TC10 (R399, R407, R443, R445) -/

theorem twin_of_besideBolt {s t : State} (h : besideBolt t = besideBolt s) : t.twin = s.twin := (congrArg State.twin h :)

theorem stopSending_twin (p : Nat) (s : State) : (stopSending p s).twin = s.twin := by
  unfold stopSending
  generalize hu : setPort p { getPort p s with sends := false } { s with sch := { s.sch with preempt := mapSet 0 s.sch.preempt p 0 } } = u
  have hflushed : (flushOnDown p (loseTx p u)).twin = (loseTx p u).twin := twin_of_besideBolt (besideBolt_flushOnDown (loseTx p u) p)
  have hlost : (loseTx p u).twin = u.twin := twin_of_besideBolt (besideBolt_loseTx u p)
  rw [hflushed, hlost, ← hu]
  rfl

theorem reportDown_twin (p : Nat) (s : State) : (reportDown p s).twin = s.twin := by
  unfold reportDown
  dsimp only
  generalize hu : setPort p _ s = u
  have hset : u.twin = s.twin := by rw [← hu]; rfl
  split
  · rename_i f _
    exact (twin_of_besideBolt (besideBolt_endAtPort u p f.ident f.received .lost)).trans hset
  · exact hset

theorem portDown_twin (p : Nat) (s : State) : (portDown p s).twin = s.twin := by
  unfold portDown
  dsimp only
  split
  · rw [stopSending_twin, reportDown_twin]
  · split
    · exact stopSending_twin p s
    · rfl

/-- What a port's acknowledge clears of its silence. -/
def silenceCleared (p : Nat) (s : State) : State := setPwr { s.pwr with portExcluded := s.pwr.portExcluded &&& ~~~(BitVec.twoPow 27 p), portSilent := mapSet 0 s.pwr.portSilent p 0 } s

/-- A port put to sleep, its answer recorded. -/
def portSleeps (n p : Nat) (s : State) : State :=
  setNet n { getNet n s with portsAnswered := (getNet n s).portsAnswered ++ [p] }
    (portDown p (setPwr { (silenceCleared p s).pwr with asleepPorts := (silenceCleared p s).pwr.asleepPorts ||| BitVec.twoPow 27 p } (silenceCleared p s)))

section
variable {n p : Nat} {s : State}

theorem sleepAck_none (h : netOf (fun x => x.hasPort p) s = none) : sleepAck p s = silenceCleared p s := by
  unfold sleepAck
  rw [h]
  rfl

theorem sleepAck_eq (hnet : netOf (fun x => x.hasPort p) s = some n) : sleepAck p s =
    if !(nmRuns s) ∨ !(isT1 p) ∨ (getNet n s).mode ≠ .consent ∨ (getNet n s).phase ≠ 2 ∨ !(getPort p s).up then silenceCleared p s else roundProgress n (portSleeps n p s) := by
  unfold sleepAck
  rw [hnet]
  rfl

theorem sleepAck_not (hnet : netOf (fun x => x.hasPort p) s = some n) (h : ¬ (nmRuns s = true ∧ isT1 p = true ∧ (getNet n s).mode = .consent ∧ (getNet n s).phase = 2 ∧ (getPort p s).up = true)) :
    sleepAck p s = silenceCleared p s := by
  rw [sleepAck_eq hnet]
  refine if_pos ?_
  simp only [Bool.not_eq_true', ← Bool.not_eq_true]
  simpa only [Decidable.not_and_iff_not_or_not, ne_eq] using h

theorem sleepAck_sleeps (hnet : netOf (fun x => x.hasPort p) s = some n) (hrun : nmRuns s = true) (ht1 : isT1 p = true) (hmode : (getNet n s).mode = .consent) (hphase : (getNet n s).phase = 2) (hup : (getPort p s).up = true) :
    sleepAck p s = roundProgress n (portSleeps n p s) := by
  rw [sleepAck_eq hnet]
  exact if_neg (by simp [hrun, ht1, hmode, hphase, hup])

theorem portSleeps_net : getNet n (portSleeps n p s) = { getNet n s with portsAnswered := (getNet n s).portsAnswered ++ [p] } := getNet_setNet_same n _ _

/-- The power state of a module whose port has just gone to sleep. -/
theorem portSleeps_pwr : (portSleeps n p s).pwr.asleepPorts = s.pwr.asleepPorts ||| BitVec.twoPow 27 p ∧ (portSleeps n p s).pwr.portExcluded = s.pwr.portExcluded &&& ~~~(BitVec.twoPow 27 p)
    ∧ (portSleeps n p s).pwr.portSilent = mapSet 0 s.pwr.portSilent p 0 ∧ (portSleeps n p s).cyc = s.cyc ∧ (portSleeps n p s).twin = s.twin := by
  unfold portSleeps
  generalize hu : setPwr { (silenceCleared p s).pwr with asleepPorts := (silenceCleared p s).pwr.asleepPorts ||| BitVec.twoPow 27 p } (silenceCleared p s) = u
  have htwin := portDown_twin p u
  obtain ⟨hpwr, -, -, -, hcyc⟩ := agree_of_control (control_portDown u p)
  generalize portDown p u = t at htwin hpwr hcyc
  rw [← hu] at htwin hpwr hcyc
  exact ⟨(congrArg Power.asleepPorts hpwr :), (congrArg Power.portExcluded hpwr :), (congrArg Power.portSilent hpwr :), hcyc, htwin⟩

theorem portSleeps_port (hup : (getPort p s).up = true) : (getPort p (portSleeps n p s)).up = false ∧ ∀ q, q ≠ p → getPort q (portSleeps n p s) = getPort q s := by
  unfold portSleeps
  generalize hu : setPwr { (silenceCleared p s).pwr with asleepPorts := (silenceCleared p s).pwr.asleepPorts ||| BitVec.twoPow 27 p } (silenceCleared p s) = u
  have hports : ∀ q, getPort q u = getPort q s := fun q => by rw [← hu]; rfl
  obtain ⟨hdown, -, -, -, -, hothers⟩ := portDown_up (p := p) (s := u) ((congrArg PortSt.up (hports p)).trans hup)
  exact ⟨hdown, fun q hq => (hothers q hq).trans (hports q)⟩

/-- A port that sleeps no longer counts among the silent ones; the others do as before. -/
theorem portSleeps_silent (hp : p < 27) (hup : (getPort p s).up = true) (q : Nat) : q ∈ silentPorts n (portSleeps n p s) ↔ q ∈ silentPorts n s ∧ q ≠ p := by
  obtain ⟨-, hexcluded, -⟩ := portSleeps_pwr (n := n) (p := p) (s := s)
  obtain ⟨hdown, hothers⟩ := portSleeps_port (n := n) hup
  unfold silentPorts
  rw [portSleeps_net]
  simp only [List.mem_filter, List.mem_range]
  rcases Decidable.em (q = p) with rfl | hq
  · simp [hdown]
  · have hbit : (portSleeps n p s).pwr.portExcluded.getLsbD q = s.pwr.portExcluded.getLsbD q := by
      rw [hexcluded, BitVec.getLsbD_and, BitVec.getLsbD_not, BitVec.getLsbD_twoPow]
      by_cases hq27 : q < 27
      · simp [hq27, Ne.symm hq]
      · rw [BitVec.getLsbD_of_ge _ _ (Nat.not_lt.mp hq27), Bool.false_and]
    rw [hothers q hq, hbit]
    simp [Net.hasPort, hq]

theorem portSleeps_pairs (hp : p < 27) : silentPairPorts n (portSleeps n p s) = silentPairPorts n s := by
  obtain ⟨-, -, hsilent, -, htwin⟩ := portSleeps_pwr (n := n) (p := p) (s := s)
  have hpair : pairActive (portSleeps n p s) = pairActive s := by rw [pairActive, pairActive, htwin]
  have hpartner : ∀ q, pairPartner q (portSleeps n p s) = pairPartner q s := fun q => by rw [pairPartner, pairPartner, htwin]
  have hmap : ∀ q, mapGet 0 (mapSet 0 s.pwr.portSilent p 0) (q + 32) = mapGet 0 s.pwr.portSilent (q + 32) := fun q => mapGet_mapSet_other _ _ _ (by omega)
  have hanswered : ∀ q, ((getNet n s).portsAnswered ++ [p]).contains (q + 32) = (getNet n s).portsAnswered.contains (q + 32) := fun q => by
    simp [List.contains_eq_mem, show q + 32 ≠ p by omega]
  unfold silentPairPorts
  rw [portSleeps_net]
  simp only [hpair, hpartner, hsilent, hmap, hanswered]
  rfl

end

end Sys2Proof.Machine
end

section
/-! Proofs/NetworkEvents: the clauses about network management (R395-R402, R407, R443, R445). -/

namespace Sys2Proof.Machine
open Sys2Proof.Claims

/-! Timers -/

theorem sleepExpire_due {n : Nat} {u : State} (h : nmRuns u = true ∧ (getNet n u).enabled = true ∧ (getNet n u).mode = .awake ∧ (getNet n u).since + (getNet n u).sleepWait ≤ u.cyc ∧ netHeld n u = false) : sleepExpire n u = startRound n u := by
  obtain ⟨hrun, hen, hmode, hdue, hfree⟩ := h
  exact if_pos ⟨hrun, hen, hmode, hdue, by rw [hfree]; rfl⟩

theorem sleepExpire_not {n : Nat} {u : State} (h : ¬ (nmRuns u = true ∧ (getNet n u).enabled = true ∧ (getNet n u).mode = .awake ∧ (getNet n u).since + (getNet n u).sleepWait ≤ u.cyc ∧ netHeld n u = false)) : sleepExpire n u = u :=
  if_neg fun ⟨hrun, hen, hmode, hdue, hfree⟩ => h ⟨hrun, hen, hmode, hdue, by simpa using hfree⟩

theorem falseWakeExpire_due {n : Nat} {u : State} (h : nmRuns u = true ∧ (getNet n u).enabled = true ∧ (getNet n u).mode = .wakeCheck ∧ (getNet n u).since + (getNet n u).falseWake ≤ u.cyc ∧ netHeld n u = false) : falseWakeExpire n u = startRound n u := by
  obtain ⟨hrun, hen, hmode, hdue, hfree⟩ := h
  exact if_pos ⟨hrun, hen, hmode, hdue, by rw [hfree]; rfl⟩

theorem falseWakeExpire_not {n : Nat} {u : State} (h : ¬ (nmRuns u = true ∧ (getNet n u).enabled = true ∧ (getNet n u).mode = .wakeCheck ∧ (getNet n u).since + (getNet n u).falseWake ≤ u.cyc ∧ netHeld n u = false)) : falseWakeExpire n u = u :=
  if_neg fun ⟨hrun, hen, hmode, hdue, hfree⟩ => h ⟨hrun, hen, hmode, hdue, by simpa using hfree⟩

/-- A timer that starts a consent round where it is due. -/
theorem expires_rounds {c : Instr} {s u : State} {act : State → State} {at_ n : Nat} {due : Prop} {counted : State → State} (hn : n < 16) (hc : exec c s = endsAt at_ act s) (hu : advanceTo at_ s = u)
    (hdue : due → act u = startRound n u) (hnot : ¬ due → act u = u) (hen : due → (getNet n u).enabled = true) (hcount : due → ∀ v, (if (getNet n u).mode = .wakeCheck then bump .pwrNmFalseWake n v else v) = counted v) :
    (¬ due → Completes c s u)
    ∧ (due → snapshotFor u = none → Completes c s (raiseEv .nmSaveFail n [] (bump .pwrNmSaveFail 0 (setNet n { getNet n u with mode := .awake, since := u.cyc } u))))
    ∧ (due → ∀ v, snapshotFor u = some v →
        (silentNodes n (setNet n (roundBegun (getNet n u) u.cyc) u) ≠ [] → Completes c s (nmSendAll n 2 (bump .pwrNmRound n (setNet n (roundBegun (getNet n u) u.cyc) (counted v)))))
        ∧ (silentNodes n (setNet n (roundBegun (getNet n u) u.cyc) u) = [] → silentPorts n (setNet n (roundBegun (getNet n u) u.cyc) u) = [] → silentPairPorts n (setNet n (roundBegun (getNet n u) u.cyc) u) = [] →
          ∃ t, Completes c s t ∧ (getNet n t).mode = .asleep ∧ (getNet n t).since = u.cyc
            ∧ ((∃ k < 16, k ≠ n ∧ (getNet k u).enabled = true ∧ (getNet k u).mode ≠ .asleep) → t.pwr.transition = u.pwr.transition)
            ∧ ((∀ k < 16, k ≠ n → (getNet k u).enabled = true → (getNet k u).mode = .asleep) → u.pwr.transition = none → lightsGoing t = true))) := by
  have hends : ∀ {t : State}, act u = t → Completes c s t := fun ht => completes_at hc (by rw [hu]; exact ht)
  refine ⟨fun h => hends (hnot h), fun h hnone => hends ((hdue h).trans (startRound_none hnone)), fun h v hsnap => ⟨fun hsilent => ?_, fun hnodes hports hpairs => ?_⟩⟩
  · exact hends ((hdue h).trans (startRound_waits hsnap (hcount h v) (hen h) hsilent))
  · exact ⟨startRound n u, hends (hdue h), startRound_ends hsnap (hcount h v) (hen h) hn hnodes hports hpairs⟩

/-! A round whose time is over (R400) -/

section
variable {n : Nat} {s : State}

theorem consentTimeout_not (h : ¬ (nmRuns s = true ∧ (getNet n s).enabled = true ∧ (getNet n s).mode = .consent ∧ (getNet n s).since + (getNet n s).consentTime ≤ s.cyc)) : consentTimeout n s = s := by
  refine if_pos (Decidable.byContradiction fun hall => h ?_)
  simpa [not_or] using hall

variable (hdue : nmRuns s = true ∧ (getNet n s).enabled = true ∧ (getNet n s).mode = .consent ∧ (getNet n s).since + (getNet n s).consentTime ≤ s.cyc)
include hdue

theorem consentTimeout_eq : consentTimeout n s =
    let nodes := if (getNet n s).phase = 1 then silentNodes n s else []
    let ports := if (getNet n s).phase = 2 then silentPorts n s ++ (silentPairPorts n s).map (fun p => p + 32) else []
    if nodes.isEmpty ∧ ports.isEmpty then roundProgress n s else roundFails n (forEach ports (portSilent n) (forEach nodes (nodeSilent n) s)) := by
  obtain ⟨hrun, hen, hmode, htime⟩ := hdue
  exact if_neg (by simp [hrun, hen, hmode, htime])

theorem consentTimeout_nodes (hphase : (getNet n s).phase = 1) (hsilent : silentNodes n s ≠ []) : consentTimeout n s = roundFails n (forEach (silentNodes n s) (nodeSilent n) s) := by
  rw [consentTimeout_eq hdue]
  dsimp only
  rw [if_pos hphase, if_neg (show ¬ (getNet n s).phase = 2 by omega), if_neg fun h => hsilent (List.isEmpty_iff.mp h.1)]
  rfl

theorem consentTimeout_ports (hphase : (getNet n s).phase = 2) (hsilent : silentPorts n s ≠ []) :
    consentTimeout n s = roundFails n (forEach (silentPorts n s ++ (silentPairPorts n s).map (fun p => p + 32)) (portSilent n) s) := by
  rw [consentTimeout_eq hdue]
  dsimp only
  rw [if_neg (show ¬ (getNet n s).phase = 1 by omega), if_pos hphase, if_neg fun h => hsilent (List.append_eq_nil_iff.mp (List.isEmpty_iff.mp h.2)).1]
  rfl

end

theorem nodeSilent_cyc (n : Nat) (e : Nat × Nat) (s : State) : (nodeSilent n e s).cyc = s.cyc := by
  unfold nodeSilent
  dsimp only
  split
  · rfl
  · rfl

theorem portSilent_cyc (n p : Nat) (s : State) : (portSilent n p s).cyc = s.cyc := by
  unfold portSilent
  dsimp only
  split
  · split
    · rfl
    · rfl
  · split
    · rfl
    · rfl

theorem keepaliveTx_sends {n : Nat} {s : State} (h : nmRuns s = true ∧ (getNet n s).enabled = true ∧ netHeld n s = true ∧ (getNet n s).kaNext ≤ s.cyc) :
    kaSend n s = nmSendAll n 1 (setNet n { getNet n s with kaNext := s.cyc + (getNet n s).keepEvery } s) := if_pos h

/-- The poll of a module that does not stand by, and of one that does, before its time. -/
theorem kaPolls_early {s : State} (h : s.cyc < s.pwr.kaPollAt) : (if twinRuns s ∧ s.twin.st.standing then standbyKa s else kaPoll s) = s := by
  split
  · exact if_pos h
  · exact if_pos (Or.inr h)

/-! The last answers (R399) -/

section
variable {n : Nat} {s : State} (hen : (getNet n s).enabled = true) (hmode : (getNet n s).mode = .consent)
include hen hmode

theorem roundProgress_asks (hphase : (getNet n s).phase = 1) (hsilent : silentNodes n s = []) (hports : silentPorts n s ≠ [] ∨ silentPairPorts n s ≠ []) : roundProgress n s = asksPorts n s := by
  rw [roundProgress_nodes hen hmode hphase hsilent, if_neg]
  exact fun h => hports.elim (fun hp => hp h.1) (fun hp => hp h.2)

end

theorem asksPorts_eq (n : Nat) (s : State) : asksPorts n s =
    forEach (silentPairPorts n s) (fun p t => relayTo 2 p [] t) (forEach (silentPorts n s) (fun p t => emit (.tc10 p false) t) (setNet n { getNet n s with phase := 2, since := s.cyc } s)) := by
  have hnet : getNet n (setNet n { getNet n s with phase := 2, since := s.cyc } s) = { getNet n s with phase := 2, since := s.cyc } := getNet_setNet_same n _ s
  have hrecord : (getNet n (setNet n { getNet n s with phase := 2, since := s.cyc } s)).record = (getNet n s).record := (congrArg Net.record hnet :)
  have hanswered : (getNet n (setNet n { getNet n s with phase := 2, since := s.cyc } s)).portsAnswered = (getNet n s).portsAnswered := (congrArg Net.portsAnswered hnet :)
  unfold asksPorts
  dsimp only
  rw [silentPorts_of hrecord hanswered rfl rfl, silentPairPorts_of hrecord hanswered rfl rfl rfl]

theorem tc10Event_own {kind p : Nat} {act : State → State} {s : State} (h : twinRuns s = false ∨ s.twin.st.standing = false) : tc10Event kind p act s = act s := by
  refine if_neg fun hall => ?_
  obtain ⟨hrun, hstands⟩ := hall
  rcases h with h | h
  · exact Bool.false_ne_true (h.symm.trans hrun)
  · exact Bool.false_ne_true (h.symm.trans hstands)

/-- A standby passes its port's acknowledge on, and puts the port to sleep. -/
theorem relayTc10_down {kind p : Nat} {w : Power} {s : State} (hstate : w.state = s.pwr.state) (hunlocked : w.unlocked = s.pwr.unlocked) (hrun : twinRuns s = true) (hstands : s.twin.st.standing = true) :
    relayTc10 kind p (portDown p (setPwr w s)) = sendTwin 5 0 (natBytes 1 kind ++ natBytes 1 p ++ natBytes 2 0) (portDown p (setPwr w s)) := by
  obtain ⟨hpwr, -, hkpr, -⟩ := agree_of_control (control_portDown (setPwr w s) p)
  have htwin := portDown_twin p (setPwr w s)
  unfold relayTc10
  generalize portDown p (setPwr w s) = t at hpwr hkpr htwin
  have hw : t.pwr = w := hpwr
  have hk : t.kpr = s.kpr := hkpr
  have ht : t.twin = s.twin := htwin
  have hsame : twinRuns t = twinRuns s := by rw [twinRuns, twinRuns, keeperRuns, keeperRuns, hw, hk, ht, hstate, hunlocked]
  exact if_pos ⟨hsame.trans hrun, by rw [ht]; exact hstands⟩

theorem tc10WakeRx_eq {p n : Nat} {s : State} (hnet : netOf (fun x => x.hasPort p) s = some n) : tc10WakeRx p s = if !(running s) then s else memberWakes n none s := by
  unfold tc10WakeRx
  rw [hnet]

theorem memberWakes_eq {n : Nat} {s : State} (hen : (getNet n s).enabled = true) : memberWakes n none s = match (getNet n s).mode with
    | .asleep => wakeNet n none s
    | .consent => roundFails n s
    | _ => s := if_neg (by rw [hen]; decide)

/-- A poll reads every network's rule and sets the time of the next. -/
theorem kaPoll_frame {n : Nat} {s : State} (hn : n < 16) (hrun : nmRuns s = true) (hdue : s.pwr.kaPollAt ≤ s.cyc) :
    (kaPoll s).pwr.kaPollAt = s.cyc + 10 * msCyc ∧ ((getNet n s).enabled = true → KaTaken (getNet n s) (kaCount (getNet n s) s) s.cyc (getNet n (kaPoll s))) ∧ (kaPoll s).fab = s.fab := by
  have hreads := fun hen => kaReads_self (n := n) (s := s) hn hen
  have hview : rulesAndBolt (forUpTo 16 kaRead s) = rulesAndBolt s := forEach_keeps (p := rulesAndBolt) (fun k t => (kaRead_frame k t).1) (List.range 16) s
  rw [kaPoll_due hrun hdue]
  generalize forUpTo 16 kaRead s = t at hreads hview
  exact ⟨rfl, hreads, (congrArg (fun z => z.2.1) hview :)⟩

/-- The silent nodes of a round whose time is over fail it, and each is counted. -/
theorem consentTimeout_silentNodes {n : Nat} {s : State} (hdue : nmRuns s = true ∧ (getNet n s).enabled = true ∧ (getNet n s).mode = .consent ∧ (getNet n s).since + (getNet n s).consentTime ≤ s.cyc)
    (hphase : (getNet n s).phase = 1) (hsilent : silentNodes n s ≠ []) :
    (getNet n (consentTimeout n s)).mode = .awake ∧ (getNet n (consentTimeout n s)).since = s.cyc
    ∧ ∀ e ∈ silentNodes n s, (mapGet 0 (getNmChan e.1 s).silent e.2 < 2 → mapGet 0 (getNmChan e.1 (consentTimeout n s)).silent e.2 = mapGet 0 (getNmChan e.1 s).silent e.2 + 1)
      ∧ (2 ≤ mapGet 0 (getNmChan e.1 s).silent e.2 → (getNmChan e.1 (consentTimeout n s)).nodes.getLsbD e.2 = false) := by
  have hcyc : (forEach (silentNodes n s) (nodeSilent n) s).cyc = s.cyc := forEach_keeps (p := State.cyc) (nodeSilent_cyc n) _ s
  have heach := fun e he => nodesSilent_each (n := n) (m := n) (s := s) (e := e) he s
  rw [consentTimeout_nodes hdue hphase hsilent]
  generalize forEach (silentNodes n s) (nodeSilent n) s = t at hcyc heach
  obtain ⟨-, -, -, hself⟩ := roundFails_frame n t
  obtain ⟨hchans, -⟩ := roundFails_participants n t
  have hchan : ∀ k, getNmChan k (roundFails n t) = getNmChan k t := fun k => by rw [getNmChan, getNmChan, hchans]
  refine ⟨(congrArg Net.mode hself :), (congrArg Net.since hself :).trans hcyc, fun e he => ?_⟩
  rw [hchan]
  exact heach e he

theorem consentTimeout_silentPorts {n : Nat} {s : State} (hdue : nmRuns s = true ∧ (getNet n s).enabled = true ∧ (getNet n s).mode = .consent ∧ (getNet n s).since + (getNet n s).consentTime ≤ s.cyc)
    (hphase : (getNet n s).phase = 2) (hsilent : silentPorts n s ≠ []) :
    (getNet n (consentTimeout n s)).mode = .awake ∧ (getNet n (consentTimeout n s)).since = s.cyc
    ∧ ∀ p ∈ silentPorts n s, (mapGet 0 s.pwr.portSilent p < 2 → mapGet 0 (consentTimeout n s).pwr.portSilent p = mapGet 0 s.pwr.portSilent p + 1)
      ∧ (2 ≤ mapGet 0 s.pwr.portSilent p → (consentTimeout n s).pwr.portExcluded.getLsbD p = true) := by
  have heach := fun p hp => portsSilent_each (n := n) (m := n) (s := s) (p := p) hp s
  rw [consentTimeout_ports hdue hphase hsilent]
  generalize silentPorts n s ++ (silentPairPorts n s).map (fun p => p + 32) = l at heach
  have hcyc : (forEach l (portSilent n) s).cyc = s.cyc := forEach_keeps (p := State.cyc) (portSilent_cyc n) _ s
  generalize forEach l (portSilent n) s = t at hcyc heach
  obtain ⟨-, -, -, hself⟩ := roundFails_frame n t
  obtain ⟨-, hsilences, hexcluded⟩ := roundFails_participants n t
  refine ⟨(congrArg Net.mode hself :), (congrArg Net.since hself :).trans hcyc, fun p hp => ?_⟩
  rw [hsilences, hexcluded]
  exact heach p hp

section
variable {n : Nat} {ch : CanCh} {m : CanMsg} {s : State} (hrun : keeperRuns s = true) (hmech : mechanismsOn s = true) (hown : standbyRule s = false ∨ s.twin.mode ≠ 1)
  (hnet : netOf (fun x => x.hasCan ch.val) s = some n) (hruns : nmRuns s = true) (hawake : (getNet n s).mode ≠ .asleep)
include hrun hmech hown hnet hruns hawake

theorem keepAlive_taken (hvalid : NmValid n 1 m s) :
    ((getNet n s).mode ≠ .consent → Completes (.nmKeepAliveRx ch m) s (setNet n { getNet n s with mode := .awake, since := s.cyc } (nmHeard ch.val m s)))
    ∧ ((getNet n s).mode = .consent → Completes (.nmKeepAliveRx ch m) s (roundFailed n (getNet n s) s (nmHeard ch.val m s))) := by
  obtain ⟨-, hen, -⟩ := netOf_some hnet
  have hheard := nmHeard_net n ch.val m s
  have hcyc := nmHeard_cyc ch.val m s
  have hact : keepAliveRx ch.val m s = keepAwake n (nmHeard ch.val m s) := by rw [keepAliveRx, nmTake_valid hnet hruns hawake hvalid]
  have hends : ∀ {t : State}, keepAwake n (nmHeard ch.val m s) = t → Completes (.nmKeepAliveRx ch m) s t := fun ht => congrArg ends ((keeperMessage_own hrun hmech hown).trans (hact.trans ht))
  generalize nmHeard ch.val m s = u at hheard hcyc hends
  rw [← hheard] at hen hawake ⊢
  refine ⟨fun hmode => hends ?_, fun hmode => hends ?_⟩
  · rw [keepAwake_awake hen hawake hmode, hcyc]
  · rw [keepAwake_consent hen hmode, roundFails_eq (s := s) hheard hcyc, hheard]

theorem readyToSleep_taken (hvalid : NmValid n 2 m s) : Completes (.nmReadyToSleepRx ch m) s (nmSend n (if netHeld n s = true then 4 else 3) ch.val (nmHeard ch.val m s)) := by
  have hheld : netHeld n (nmHeard ch.val m s) = netHeld n s := by
    unfold nmHeard
    split
    · rfl
    · rfl
  have hact : readyToSleepRx ch.val m s = nmSend n (if netHeld n (nmHeard ch.val m s) then 4 else 3) ch.val (nmHeard ch.val m s) := by rw [readyToSleepRx, nmTake_valid hnet hruns hawake hvalid]
  exact congrArg ends ((keeperMessage_own hrun hmech hown).trans (hact.trans (by rw [hheld])))

theorem consent_taken (hvalid : NmValid n 3 m s) :
    ((64 ≤ numAt m.data 1 1 ∨ (getNet n s).mode ≠ .consent ∨ (getNet n s).phase ≠ 1) → Completes (.nmConsentRx ch m) s (nmHeard ch.val m s))
    ∧ (numAt m.data 1 1 < 64 → (getNet n s).mode = .consent → (getNet n s).phase = 1 → silentNodes n (nmAnswered n ch.val m s) ≠ [] → Completes (.nmConsentRx ch m) s (nmAnswered n ch.val m s))
    ∧ (numAt m.data 1 1 < 64 → (getNet n s).mode = .consent → (getNet n s).phase = 1 → silentNodes n (nmAnswered n ch.val m s) = [] → (silentPorts n (nmAnswered n ch.val m s) ≠ [] ∨ silentPairPorts n (nmAnswered n ch.val m s) ≠ []) →
        Completes (.nmConsentRx ch m) s (asksPorts n (nmAnswered n ch.val m s))) := by
  obtain ⟨-, hen, -⟩ := netOf_some hnet
  have htake := nmTake_valid hnet hruns hawake hvalid
  have hends : ∀ {t : State}, consentRx ch.val m s = t → Completes (.nmConsentRx ch m) s t := fun ht => congrArg ends ((keeperMessage_own hrun hmech hown).trans ht)
  have hanswer := nmAnswered_net n ch.val m s
  have hen' : (getNet n (nmAnswered n ch.val m s)).enabled = true := by rw [hanswer]; exact hen
  have hmode' : (getNet n s).mode = .consent → (getNet n (nmAnswered n ch.val m s)).mode = .consent := fun h => (congrArg Net.mode hanswer :).trans h
  have hphase' : (getNet n s).phase = 1 → (getNet n (nmAnswered n ch.val m s)).phase = 1 := fun h => (congrArg Net.phase hanswer :).trans h
  refine ⟨fun h => hends (consentRx_heard htake h), fun hnode hmode hphase hsilent => hends ((consentRx_answered htake hnode hmode hphase).trans ?_), fun hnode hmode hphase hsilent hports => hends ((consentRx_answered htake hnode hmode hphase).trans ?_)⟩
  · exact roundProgress_waits hen' (hmode' hmode) (hphase' hphase) hsilent
  · exact roundProgress_asks hen' (hmode' hmode) (hphase' hphase) hsilent hports

theorem refuse_taken (hvalid : NmValid n 4 m s) :
    ((getNet n s).mode = .consent → Completes (.nmRefuseRx ch m) s (roundFailed n (getNet n s) s (nmHeard ch.val m s)))
    ∧ ((getNet n s).mode ≠ .consent → Completes (.nmRefuseRx ch m) s (nmHeard ch.val m s)) := by
  have hheard := nmHeard_net n ch.val m s
  have hact : refuseRx ch.val m s = if (getNet n (nmHeard ch.val m s)).mode = .consent then roundFails n (nmHeard ch.val m s) else nmHeard ch.val m s := by rw [refuseRx, nmTake_valid hnet hruns hawake hvalid]
  rw [hheard] at hact
  have hends : ∀ {t : State}, refuseRx ch.val m s = t → Completes (.nmRefuseRx ch m) s t := fun ht => congrArg ends ((keeperMessage_own hrun hmech hown).trans ht)
  refine ⟨fun hmode => hends (hact.trans ((if_pos hmode).trans (roundFails_eq hheard (nmHeard_cyc ch.val m s)))), fun hmode => hends (hact.trans (if_neg hmode))⟩

end

/-- The ports that a round asks, where the network's own state is known. -/
theorem asksPorts_of {n at_ : Nat} {x : Net} {s : State} (hnet : getNet n s = x) (hcyc : s.cyc = at_) : asksPorts n s =
    forEach (silentPairPorts n s) (fun p t => relayTo 2 p [] t) (forEach (silentPorts n s) (fun p t => emit (.tc10 p false) t) (setNet n { x with phase := 2, since := at_ } s)) := by
  rw [asksPorts_eq, hnet, hcyc]

theorem nmAnswered_cyc (n ch : Nat) (m : CanMsg) (s : State) : (nmAnswered n ch m s).cyc = s.cyc := by
  have hcyc := nmHeard_cyc ch m s
  unfold nmAnswered
  generalize nmHeard ch m s = u at hcyc
  exact hcyc

section
variable {n : Nat} {port : ExtPort} {s : State}

theorem sleepAck_ends (hown : twinRuns s = false ∨ s.twin.st.standing = false) (hnet : netOf (fun x => x.hasPort port.val) s = some n)
    (hsleeps : nmRuns s = true ∧ isT1 port.val = true ∧ (getNet n s).mode = .consent ∧ (getNet n s).phase = 2 ∧ (getPort port.val s).up = true) :
    (((∃ q ∈ silentPorts n s, q ≠ port.val) ∨ silentPairPorts n s ≠ []) → ∃ t, Completes (.tc10SleepAck port) s t ∧ t.pwr.asleepPorts.getLsbD port.val = true ∧ getNet n t = { getNet n s with portsAnswered := (getNet n s).portsAnswered ++ [port.val] })
    ∧ ((∀ q ∈ silentPorts n s, q = port.val) → silentPairPorts n s = [] → ∃ t, Completes (.tc10SleepAck port) s t ∧ t.pwr.asleepPorts.getLsbD port.val = true ∧ (getNet n t).mode = .asleep) := by
  obtain ⟨hrun, ht1, hmode, hphase, hup⟩ := hsleeps
  obtain ⟨hn, hen, -⟩ := netOf_some hnet
  have hends : ∀ {t : State}, roundProgress n (portSleeps n port.val s) = t → Completes (.tc10SleepAck port) s t := fun ht =>
    congrArg ends ((tc10Event_own hown).trans ((sleepAck_sleeps hnet hrun ht1 hmode hphase hup).trans ht))
  have hself := portSleeps_net (n := n) (p := port.val) (s := s)
  have hsilent := fun q => portSleeps_silent (n := n) (s := s) port.isLt hup q
  have hpairs := portSleeps_pairs (n := n) (s := s) port.isLt
  obtain ⟨hasleep, -⟩ := portSleeps_pwr (n := n) (p := port.val) (s := s)
  generalize portSleeps n port.val s = u at hends hself hsilent hpairs hasleep
  have hbit : u.pwr.asleepPorts.getLsbD port.val = true := by
    rw [hasleep, BitVec.getLsbD_or, BitVec.getLsbD_twoPow]
    simp [port.isLt]
  have hen' : (getNet n u).enabled = true := by rw [hself]; exact hen
  have hprogress := roundProgress_ports hen' ((congrArg Net.mode hself :).trans hmode) ((congrArg Net.phase hself :).trans hphase)
  refine ⟨fun hrest => ⟨u, hends (hprogress.trans (if_neg fun hdone => ?_)), hbit, hself⟩, fun hlast hnone => ?_⟩
  · obtain ⟨hports, hpair⟩ := hdone
    rcases hrest with ⟨q, hq, hqp⟩ | hpair'
    · exact absurd ((hsilent q).mpr ⟨hq, hqp⟩) (by rw [hports]; exact List.not_mem_nil)
    · exact hpair' (hpairs.symm.trans hpair)
  · have hdone : silentPorts n u = [] ∧ silentPairPorts n u = [] := by
      refine ⟨List.eq_nil_iff_forall_not_mem.mpr fun q hq => ?_, hpairs.trans hnone⟩
      obtain ⟨hq, hqp⟩ := (hsilent q).mp hq
      exact hqp (hlast q hq)
    obtain ⟨hslept, -, hports, -⟩ := nmCommit_frame hn hen'
    exact ⟨nmCommit n u, hends (hprogress.trans (if_pos hdone)), by rw [hports]; exact hbit, hslept⟩

theorem tc10Wake_ends (hown : twinRuns s = false ∨ s.twin.st.standing = false) (hnet : netOf (fun x => x.hasPort port.val) s = some n) :
    (running s = false ∨ (getNet n s).mode = .awake ∨ (getNet n s).mode = .wakeCheck → Completes (.tc10WakeRx port) s s)
    ∧ (running s = true → (getNet n s).mode = .asleep → Completes (.tc10WakeRx port) s (wakeNet n none s))
    ∧ (running s = true → (getNet n s).mode = .consent → Completes (.tc10WakeRx port) s (roundFails n s)) := by
  obtain ⟨-, hen, -⟩ := netOf_some hnet
  have hends : ∀ {t : State}, (if !(running s) then s else memberWakes n none s) = t → Completes (.tc10WakeRx port) s t := fun ht => congrArg ends ((tc10Event_own hown).trans ((tc10WakeRx_eq hnet).trans ht))
  rw [memberWakes_eq hen] at hends
  refine ⟨fun h => hends ?_, fun hrun hmode => hends ?_, fun hrun hmode => hends ?_⟩
  · split
    · rfl
    next hrun =>
      rcases h with h | h | h
      · rw [h] at hrun
        exact absurd rfl hrun
      · rw [h]
      · rw [h]
  · rw [hrun, hmode]
    rfl
  · rw [hrun, hmode]
    rfl

end

/-- Settles O57. -/
theorem networkManagementEventsRun : Obligations.NetworkManagementEventsRun := by
  unfold Obligations.NetworkManagementEventsRun
  refine ⟨fun s at_ net => ?_, fun s ch m hrun hmech hown => ?_, fun s port => ?_⟩
  · generalize hu : advanceTo at_ s = u
    intro u' n x fresh expires
    have hends : ∀ {c : Instr} {act : State → State} {t : State}, exec c s = endsAt at_ act s → act u = t → Completes c s t := fun hc ht => completes_at hc (by rw [hu]; exact ht)
    have hpolls : ∀ {t : State}, (if twinRuns u ∧ u.twin.st.standing then standbyKa u else kaPoll u) = t → Completes (.nmKaPoll at_) s t := fun ht => hends (act := fun t => if twinRuns t ∧ t.twin.st.standing then standbyKa t else kaPoll t) rfl ht
    have htimes : ∀ {t : State}, consentTimeout net.val u = t → Completes (.nmConsentTimeout at_ net) s t := fun ht => hends (act := consentTimeout net.val) rfl ht
    refine ⟨?_, ?_, ⟨fun h => hends rfl (if_neg h), fun h => hends rfl (keepaliveTx_sends h)⟩, fun hearly => hpolls (kaPolls_early hearly), fun hdue hown hrun => ⟨kaPoll u, hpolls (if_neg fun hall => ?_), kaPoll_frame net.isLt hrun hdue⟩,
      fun h => htimes (consentTimeout_not h), fun h hphase hsilent => ⟨consentTimeout net.val u, htimes rfl, consentTimeout_silentNodes h hphase hsilent⟩, fun h hphase hsilent => ⟨consentTimeout net.val u, htimes rfl, consentTimeout_silentPorts h hphase hsilent⟩⟩
    · exact expires_rounds net.isLt rfl hu sleepExpire_due sleepExpire_not (fun ⟨_, hen, _⟩ => hen) fun ⟨_, _, hmode, _⟩ v => if_neg fun hcheck => by rw [hmode] at hcheck; cases hcheck
    · exact expires_rounds net.isLt rfl hu falseWakeExpire_due falseWakeExpire_not (fun ⟨_, hen, _⟩ => hen) fun ⟨_, _, hmode, _⟩ v => if_pos hmode
    · obtain ⟨hruns, hstands⟩ := hall
      rcases hown with h | h
      · exact Bool.false_ne_true (h.symm.trans hruns)
      · exact Bool.false_ne_true (h.symm.trans hstands)
  · intro row
    refine ⟨fun hnone op => nmRow_not hrun hmech hown fun k _ => nmTake_none hnone, fun n hnet => ?_⟩
    intro x node c valid heard fails answered_ phase2
    refine ⟨fun hidle op => nmRow_not hrun hmech hown fun k _ => nmTake_idle hnet hidle, fun hruns hawake => ?_⟩
    refine ⟨fun op h1 h4 hbad => nmRow_not hrun hmech hown fun k hk => nmTake_bad hnet hruns hawake (by rw [hk h1 h4]; exact hbad), fun hvalid => (keepAlive_taken hrun hmech hown hnet hruns hawake hvalid).1, fun hvalid => (keepAlive_taken hrun hmech hown hnet hruns hawake hvalid).2,
      fun hvalid => readyToSleep_taken hrun hmech hown hnet hruns hawake hvalid, fun hvalid => (consent_taken hrun hmech hown hnet hruns hawake hvalid).1, fun hvalid hnode hmode hphase hsilent => ?_,
      fun hvalid hnode hmode hphase hsilent hports => ?_, fun hvalid => (refuse_taken hrun hmech hown hnet hruns hawake hvalid).1, fun hvalid => (refuse_taken hrun hmech hown hnet hruns hawake hvalid).2⟩
    · obtain ⟨-, hwaits, -⟩ := consent_taken hrun hmech hown hnet hruns hawake hvalid
      exact hwaits hnode hmode hphase hsilent
    obtain ⟨-, -, hasks⟩ := consent_taken hrun hmech hown hnet hruns hawake hvalid
    have hdone := hasks hnode hmode hphase hsilent hports
    rw [asksPorts_of (nmAnswered_net n ch.val m s) (nmAnswered_cyc n ch.val m s)] at hdone
    exact hdone
  · intro p cleared
    refine ⟨fun hrun hstands => ⟨?_, ?_⟩, fun hown => ⟨fun hnone => ⟨?_, ?_⟩, fun n hnet => ?_⟩⟩
    · exact congrArg ends ((if_pos ⟨hrun, hstands⟩).trans (relayTc10_down rfl rfl hrun hstands))
    · exact congrArg ends ((if_pos ⟨hrun, hstands⟩).trans (if_pos ⟨hrun, hstands⟩))
    · exact congrArg ends ((tc10Event_own hown).trans (sleepAck_none hnone))
    · refine congrArg ends ((tc10Event_own hown).trans ?_)
      unfold tc10WakeRx
      rw [hnone]
      exact ite_self s
    intro x sleeps
    obtain ⟨hidle, hwakes, hfails⟩ := tc10Wake_ends (port := port) hown hnet
    obtain ⟨-, -, hwoken⟩ := wakeNet_frame n none s
    refine ⟨fun hnot => congrArg ends ((tc10Event_own hown).trans (sleepAck_not hnet hnot)), fun h => (sleepAck_ends hown hnet h).1, fun h => (sleepAck_ends hown hnet h).2, hidle, fun hrun hmode => ⟨hwakes hrun hmode, ?_, ?_⟩, fun hrun hmode => hfails hrun hmode⟩
    · rw [hwoken]
    · rw [hwoken]

end Sys2Proof.Machine
end

section
/-! Proofs/FrameArrival: first bytes of a frame, what an admission and a cell slot leave of queues, frames and charges, and the clauses about frames that come in (R36-R39, R49-R53, R58, R59, R130, R137-R145, R199, R234, R248, R392). -/

namespace Sys2Proof.Machine
open Sys2Proof.Claims

/-! First bytes (R130, R145, R234) -/

theorem awake_of_coreRuns {s : State} (h : coreRuns s = true) : s.pwr.state ≠ .doze := by
  simp only [coreRuns, Bool.and_eq_true, bne_iff_ne] at h
  obtain ⟨⟨-, hdoze⟩, -⟩ := h
  exact hdoze

/-- No header is complete in fewer than 14 bytes of a frame that still arrives. -/
theorem parseFrom_needs {bs : List Byte} {p : PState} (h : bs.length < 14) : parseFrom bs none 0 9 0 0 0 p = .need := by
  have hlen : ∀ h, headerLen 0 p.proto h = 14 := fun _ => rfl
  have hleast : headerLeast 0 = 14 := rfl
  have hmin : headerMin 0 = 0 := rfl
  rw [parseFrom, if_neg (by decide), if_neg (by decide)]
  dsimp only
  simp only [hlen, hleast, hmin]
  rw [if_neg (by decide), if_neg (by omega), if_neg (by decide), if_neg (by omega), if_pos (by omega)]

/-- A frame that has just begun at a port. -/
def firstFrame (p : Nat) (bs : List Byte) (s : State) : Frame := { ident := s.fab.nextIdent, entry := p, keyPort := p, bytes := bs, epoch := currentEpoch s, arrived := rxStamp p s }

/-- A frame list with a frame of a new handle at its end. -/
def withFrame (f : Frame) (s : State) : State := setFab { s.fab with nextIdent := s.fab.nextIdent + 1, frames := s.fab.frames ++ [f] } s

theorem getFrame_withFrame {f : Frame} {s : State} (hf : f.ident = s.fab.nextIdent) (hold : ∀ g ∈ s.fab.frames, g.ident < s.fab.nextIdent) : getFrame f.ident (withFrame f s) = some f := by
  have hnone : s.fab.frames.find? (fun g => g.ident == f.ident) = none := List.find?_eq_none.mpr fun g hg => by
    have := hold g hg
    simp only [beq_iff_eq]
    omega
  change (s.fab.frames ++ [f]).find? (fun g => g.ident == f.ident) = some f
  rw [List.find?_append, hnone]
  simp

section
variable {p : Nat} {bs : List Byte} {s : State}

/-- The first bytes of a frame make no cell and no header. -/
theorem settleBytes_first {i : Nat} {f : Frame} {u : State} (hget : getFrame i u = some f) (hf : f = firstFrame p bs s) (hshort : bs.length < 14) : settleBytes i u = u := by
  have hbytes : f.bytes.length < 14 := by rw [hf]; exact hshort
  have hstage : f.stage = .parsing := by rw [hf]; rfl
  have hformed : formedNow f u = 0 := by
    have hcells : cellsFormed false false f.bytes.length = 0 := by
      simp only [cellsFormed]
      simp
      omega
    have hwaits : expressWaits f u = false := by simp [expressWaits, hstage]
    have hexpress : f.express = false := by rw [hf]; rfl
    have hended : f.ended = false := by rw [hf]; rfl
    have hnone : f.cells = [] := by rw [hf]; rfl
    rw [formedNow, hwaits, hexpress, hended, hnone, Bool.or_false, hcells]
    rfl
  have hcharge : chargeNew i u = u := by
    unfold chargeNew
    rw [hget]
    dsimp only
    rw [hformed, Nat.zero_sub]
    rfl
  have hparse : parseMore i u = u := by
    have hneed : parseFrame f (defaultTci f.keyPort u) = .need := by
      have hstop : frameStop f true = none := by rw [hf]; rfl
      have hfirst : parseFrame f (defaultTci f.keyPort u) = parseFrom f.bytes (frameStop f true) 0 9 0 0 0 { key := { outer := defaultTci f.keyPort u } } := by rw [hf]; rfl
      rw [hfirst, hstop]
      exact parseFrom_needs hbytes
    unfold parseMore
    rw [hget]
    dsimp only
    rw [if_neg (by rw [hstage]; decide), hneed]
  unfold settleBytes
  rw [hget]
  dsimp only
  rw [if_neg (by omega), hcharge, hstage]
  exact hparse

theorem receiveBytes_first (hp : p < 27) (hnone : receiving p s = none) (hshort : bs.length < 14) (hmax : bs.length ≤ bits (getPort p s).record 46 33) (hold : ∀ g ∈ s.fab.frames, g.ident < s.fab.nextIdent) :
    receiveBytes p bs .more s = withFrame (firstFrame p bs s) s := by
  have htake : takeBytes p p .ethernet none (currentEpoch s) bs s = (s.fab.nextIdent, withFrame (firstFrame p bs s) s) := by
    unfold takeBytes
    rw [hnone]
    dsimp only
    rw [if_pos hp]
    rfl
  have hget : getFrame s.fab.nextIdent (withFrame (firstFrame p bs s) s) = some (firstFrame p bs s) := getFrame_withFrame (f := firstFrame p bs s) rfl hold
  have hreceived : (firstFrame p bs s).received = bs.length := rfl
  have hsettled := settleBytes_first hget rfl hshort
  have hlen : (firstFrame p bs s).bytes.length = bs.length := rfl
  have hended : (firstFrame p bs s).ended = false := rfl
  have hend : endAtPort p s.fab.nextIdent bs.length .more (withFrame (firstFrame p bs s) s) = withFrame (firstFrame p bs s) s := by
    unfold endAtPort
    rw [hget]
    dsimp only
    rw [if_neg (by omega), if_pos rfl]
  have hswallow : swallow p s.fab.nextIdent false bs.length (withFrame (firstFrame p bs s) s) = withFrame (firstFrame p bs s) s := by
    unfold swallow
    rw [hget]
    dsimp only
    rw [hended]
    rfl
  unfold receiveBytes
  dsimp only
  rw [htake]
  generalize firstFrame p bs s = f at hget hreceived hsettled hlen hended hend hswallow
  dsimp only
  rw [hget]
  dsimp only
  have hcontrol : (decide (p < 27) && decide (f.bytes.length ≥ 14) && decide (numAt f.bytes 12 2 = 0x8808)) = false := by
    have : ¬ f.bytes.length ≥ 14 := by omega
    simp [this]
  rw [if_pos hp, hreceived, if_neg (by omega), hcontrol]
  simp only [Bool.false_eq_true, if_false, hsettled, hend, hswallow, if_true]

theorem receiveAt_first (hp : p < 27) (hup : linkUpNow p s = true) (hclean : tribSpoiled p s = false) (hnone : receiving p s = none) (hshort : bs.length < 14) (hmax : bs.length ≤ bits (getPort p s).record 46 33)
    (hold : ∀ g ∈ s.fab.frames, g.ident < s.fab.nextIdent) : receiveAt p bs .more s = withFrame (firstFrame p bs s) s := by
  unfold receiveAt
  rw [hup, hclean]
  exact receiveBytes_first hp hnone hshort hmax hold

end

end Sys2Proof.Machine
end

section
/-! Proofs/AdmissionAndSlots: what the descriptors' upkeep, charges, an admission and a cell slot leave of queues, frames and charges (R30-R38, R43, R49-R53). -/

namespace Sys2Proof.Machine
open Sys2Proof.Claims

/-! Descriptors and link entries (R30, R43) -/

/-- The Bolt's state but for descriptors, link words and link entries. -/
def besideDescs (s : State) : State := { s with fab := { s.fab with descs := [], linkWords := [], mcLinks := [] } }

theorem besideDescs_syncFrame (i : Nat) (s : State) : besideDescs (syncFrame i s) = besideDescs s := by
  unfold syncFrame
  split
  · rfl
  · split
    · rfl
    · exact (forEach_keeps (p := besideDescs) (f := fun j t => setFab { t.fab with linkWords := mapSet 0 t.fab.linkWords _ _ } t) (fun _ _ => rfl) (List.range _) _).trans rfl

theorem besideDescs_mcLinks (x : SMap (BitVec 64)) (s : State) : besideDescs (setFab { s.fab with mcLinks := x } s) = besideDescs s := rfl

theorem besideDescs_syncGo (q : Nat) (l : List QEnt) : ∀ s, besideDescs (syncLinks.go q l s) = besideDescs s := by
  induction l with
  | nil => exact fun _ => rfl
  | cons e rest ih =>
    intro s
    unfold syncLinks.go
    split
    · exact ih s
    · exact (ih _).trans (besideDescs_mcLinks _ s)

theorem besideDescs_syncLinks (q : Nat) (s : State) : besideDescs (syncLinks q s) = besideDescs s := by
  unfold syncLinks
  exact besideDescs_syncGo q _ s

/-! What an admission leaves of queues and frames -/

/-- What an admission speaks of in a frame. -/
def frameView (g : Frame) : Nat × Stage × List Byte × List (Nat × Bool) × Nat := (g.ident, g.stage, g.bytes, g.queues, g.refs)

/-- The queues, and the frames as an admission speaks of them. -/
def boltView (s : State) : SMap (List QEnt) × List (Nat × Stage × List Byte × List (Nat × Bool) × Nat) := (s.fab.queues, s.fab.frames.map frameView)

theorem boltView_of_besideDescs {s t : State} (h : besideDescs t = besideDescs s) : boltView t = boltView s := (congrArg boltView h :)

theorem queueOf_of_boltView {s t : State} (h : boltView t = boltView s) (q : Nat) : queueOf q t = queueOf q s := (congrArg (fun v => mapGet [] v.1 q) h :)

theorem getFrame_view (i : Nat) (s : State) : (getFrame i s).map frameView = (s.fab.frames.map frameView).find? (fun v => v.1 == i) := by
  rw [List.find?_map]
  rfl

theorem getFrame_of_boltView {s t : State} (h : boltView t = boltView s) (i : Nat) : (getFrame i t).map frameView = (getFrame i s).map frameView := by
  rw [getFrame_view, getFrame_view]
  exact congrArg (fun v : SMap (List QEnt) × List (Nat × Stage × List Byte × List (Nat × Bool) × Nat) => v.2.find? (fun w => w.1 == i)) h

/-- The change of a frame in what an admission does not speak of. -/
theorem boltView_updFrame (i : Nat) {u : Frame → Frame} (hu : ∀ g, frameView (u g) = frameView g) (s : State) : boltView (updFrame i u s) = boltView s := by
  have hframes : ((replaceIf (fun f => f.ident == i) u s.fab.frames).map frameView) = s.fab.frames.map frameView := by
    unfold replaceIf
    rw [List.map_map]
    refine List.map_congr_left fun g _ => ?_
    dsimp only [Function.comp]
    split
    · exact hu g
    · rfl
  exact Prod.ext rfl hframes

theorem boltView_updTracked (q : Nat) (u : Tracked → Tracked) (s : State) : boltView (updTracked q u s) = boltView s := rfl

theorem boltView_endContention (s : State) : boltView (endContention s) = boltView s := rfl

theorem boltView_noteArrival (q p : Nat) (s : State) : boltView (noteArrival q p s) = boltView s := rfl

theorem boltView_payCredit (f : Frame) (s : State) : boltView (payCredit f s) = boltView s := by
  refine forEach_keeps (p := boltView) (fun q t => ?_) _ s
  rfl

theorem boltView_chargeHeadroom (f : Frame) (s : State) :
    boltView (updFrame f.ident (fun g => { g with charges := g.charges ++ [.headroom] }) (setFab { s.fab with headroom := mapSet 0 s.fab.headroom f.entry (mapGet 0 s.fab.headroom f.entry + 1) } s)) = boltView s := by
  refine (boltView_updFrame f.ident (fun g => ?_) _).trans ?_
  · rfl
  · rfl

theorem boltView_chargeCell (f : Frame) (s : State) : boltView (chargeCell f s) = boltView s := by
  unfold chargeCell
  dsimp only
  split
  · exact boltView_chargeHeadroom f s
  · split
    · exact (boltView_chargeHeadroom f _).trans (boltView_payCredit f s)
    · have hcredit := boltView_payCredit f s
      generalize payCredit f s = u at hcredit
      generalize hw : forEach f.queues _ u = w
      have hcharged : boltView w = boltView u := by
        rw [← hw]
        refine forEach_keeps (p := boltView) (fun q t => ?_) _ u
        rfl
      refine (boltView_updFrame f.ident (fun g => ?_) _).trans (Eq.trans ?_ (hcharged.trans hcredit))
      · rfl
      · rfl

theorem boltView_chargeNew (i : Nat) (s : State) : boltView (chargeNew i s) = boltView s := by
  unfold chargeNew
  split
  · rfl
  · refine forEach_keeps (p := boltView) (fun _ t => ?_) (List.range _) s
    split
    · exact boltView_chargeCell _ t
    · rfl

theorem boltView_trimCells (i : Nat) (s : State) : boltView (trimCells i s) = boltView s := by
  unfold trimCells
  split
  · rfl
  · dsimp only
    split
    · refine (boltView_updFrame i (fun g => ?_) _).trans (forEach_keeps (p := boltView) (fun q t => ?_) _ s)
      · rfl
      · rfl
    · rfl

/-- Setting the stage, the queues and the number of copies of a frame. -/
theorem getFrame_updFrame {i : Nat} {u : Frame → Frame} (hu : ∀ g, (u g).ident = g.ident) (s : State) : getFrame i (updFrame i u s) = (getFrame i s).map u := by
  change (s.fab.frames.map (fun x => if x.ident == i then u x else x)).find? (fun f => f.ident == i) = (s.fab.frames.find? (fun f => f.ident == i)).map u
  induction s.fab.frames with
  | nil => rfl
  | cons g l ih =>
    rw [List.map_cons, List.find?_cons, List.find?_cons]
    by_cases hg : (g.ident == i) = true
    · rw [if_pos hg]
      have : ((u g).ident == i) = true := by rw [hu]; exact hg
      rw [this, hg]
      rfl
    · rw [if_neg hg, Bool.eq_false_iff.mpr hg]
      exact ih

/-! Admission to one queue (R37, R43, R49-R53) -/

theorem boltView_setQueue (q : Nat) (l : List QEnt) (s : State) : boltView (setQueue q l s) = (mapSet [] s.fab.queues q l, s.fab.frames.map frameView) := rfl

/-- A frame with one copy goes to its queue's tail. -/
theorem enqueueCopies_one (i q : Nat) (r : Bool) (s : State) : besideDescs (enqueueCopies i [((q, r), none)] s) =
    besideDescs (setQueue q (queueOf q s ++ [{ frame := i }]) (updFrame i (fun g => { g with queues := [(q, r)], refs := 1, multicast := false }) s)) := by
  have hput : ∀ t : State, besideDescs (match (queueOf q t).getLast? with
      | some l => syncFrame l.frame (syncLinks q (setQueue q (queueOf q t ++ [{ frame := i }]) t))
      | none => syncLinks q (setQueue q (queueOf q t ++ [{ frame := i }]) t)) = besideDescs (setQueue q (queueOf q t ++ [{ frame := i }]) t) := fun t => by
    split
    · exact (besideDescs_syncFrame _ _).trans (besideDescs_syncLinks q _)
    · exact besideDescs_syncLinks q _
  exact hput (updFrame i (fun g => { g with queues := [(q, r)], refs := 1, multicast := false }) s)

section
variable {f : Frame} {s : State} (hget : getFrame f.ident s = some f) (hstrip : f.verdict.strip = false) (hgen : f.verdict.gen = none)
include hget hstrip hgen

theorem numberFrame_plain : numberFrame f.ident s = s := by
  unfold numberFrame
  rw [hget]
  dsimp only
  rw [hstrip, hgen]
  rfl

/-- A frame of at most 9,216 bytes that one queue admits stands at the queue's tail, charged to it. -/
theorem admitFrame_one (express : Bool) (q : Nat) (r : Bool) (hlen : f.bytes.length ≤ 9216) :
    queueOf q (admitFrame f express [(q, r)] s) = queueOf q s ++ [{ frame := f.ident }] ∧ (∀ q', q' ≠ q → queueOf q' (admitFrame f express [(q, r)] s) = queueOf q' s)
    ∧ (getFrame f.ident (admitFrame f express [(q, r)] s)).map frameView = some (f.ident, .admitted, f.bytes, [(q, r)], 1) := by
  generalize hs1 : trimCells f.ident (setFab { s.fab with headroom := mapSet 0 s.fab.headroom f.entry (mapGet 0 s.fab.headroom f.entry - f.charges.length) } s) = s1
  have hview1 : boltView s1 = boltView s := by
    rw [← hs1]
    exact boltView_trimCells f.ident _
  generalize hs2 : updFrame f.ident (fun g => { g with stage := .admitted, express := express, charges := [], stamp := nowUs s1 % 1048576 }) s1 = s2
  generalize hs3 : syncFrame f.ident (chargeNew f.ident (enqueueCopies f.ident [((q, r), none)] s2)) = s3
  have hview3 : boltView s3 = boltView (setQueue q (queueOf q s2 ++ [{ frame := f.ident }]) (updFrame f.ident (fun g => { g with queues := [(q, r)], refs := 1, multicast := false }) s2)) := by
    rw [← hs3]
    exact (boltView_of_besideDescs (besideDescs_syncFrame f.ident _)).trans ((boltView_chargeNew f.ident _).trans (boltView_of_besideDescs (enqueueCopies_one f.ident q r s2)))
  have hqueues : ∀ q', queueOf q' s2 = queueOf q' s := fun q' => by
    rw [← hs2]
    exact (queueOf_of_boltView hview1 q' :)
  have hframe : (getFrame f.ident s3).map frameView = some (f.ident, .admitted, f.bytes, [(q, r)], 1) := by
    have hview : (getFrame f.ident s1).map frameView = some (frameView f) := by rw [getFrame_of_boltView hview1, hget]; rfl
    obtain ⟨x, hx, hxview⟩ := Option.map_eq_some_iff.mp hview
    have hident : x.ident = f.ident := (congrArg Prod.fst hxview :)
    have hbytes : x.bytes = f.bytes := (congrArg (fun v => v.2.2.1) hxview :)
    rw [getFrame_of_boltView hview3]
    change (getFrame f.ident (updFrame f.ident (fun g => { g with queues := [(q, r)], refs := 1, multicast := false }) s2)).map frameView = _
    rw [getFrame_updFrame, ← hs2, getFrame_updFrame, hx]
    · simp only [Option.map_some, frameView, hident, hbytes]
    · exact fun g => rfl
    · exact fun g => rfl
  have hact : admitFrame f express [(q, r)] s = s3 := by
    obtain ⟨g, hg, hgview⟩ := Option.map_eq_some_iff.mp hframe
    have hbytes : g.bytes = f.bytes := (congrArg (fun v => v.2.2.1) hgview :)
    have hshort : g.bytes.length ≤ 9216 := by rw [hbytes]; exact hlen
    unfold admitFrame
    dsimp only
    rw [numberFrame_plain hget hstrip hgen]
    dsimp only [linkCopies]
    rw [hs1, hs2, hs3, hg]
    exact if_pos hshort
  rw [hact]
  refine ⟨?_, fun q' hq' => ?_, hframe⟩
  · rw [queueOf_of_boltView hview3, hqueues]
    exact mapGet_mapSet_same _ _ _ _
  · rw [queueOf_of_boltView hview3]
    exact (mapGet_mapSet_other _ _ _ hq').trans (hqueues q')

end

/-- The state that an arrival at a queue is tested in. -/
def arrived (q p : Nat) (s : State) : State := noteArrival q p (endContention s)

section
variable {p o : Nat} {f : Frame} {s : State} (hnext : nextForAdmission p s = some f)
include hnext

theorem admitNext_waits (hstage : f.stage ≠ .ready) : admitNext p s = s := by
  unfold admitNext
  rw [hnext]
  exact if_pos (Or.inl hstage)

variable (hstage : f.stage = .ready) (hports : f.verdict.ports = [o]) (hfits : expressFits f s = false) (hcell : firstCellDone f false = true)
include hstage hports hfits hcell

theorem admitNext_one : admitNext p s = match (admitTo (8 * o + f.verdict.cls) f.entry s).1 with
    | some r => admitFrame f false [(8 * o + f.verdict.cls, r)] (admitTo (8 * o + f.verdict.cls) f.entry s).2
    | none => dropFrame f.ident (admitTo (8 * o + f.verdict.cls) f.entry s).2 := by
  unfold admitNext
  rw [hnext]
  dsimp only
  rw [hfits, Bool.false_and, Bool.false_and, hcell, if_neg (by simp [hstage]), verdictQueues, hports]
  have hlate : (if (false && !f.verdict.inTime) = true then bump .patExpressLate f.keyPort s else s) = s := if_neg (by simp)
  rw [hlate]
  simp only [List.map_cons, List.map_nil, List.foldl_cons, List.foldl_nil]
  obtain ⟨r, t⟩ := admitTo (8 * o + f.verdict.cls) f.entry s
  cases r with
  | none => rfl
  | some r => rfl

end

section
variable {q p : Nat} {s : State}

theorem admitTo_refused (h : hasCredit q p (arrived q p s) = false ∨ (admitTest q (arrived q p s) = none ∧ (getBuf q (arrived q p s)).headDrop = false)) :
    admitTo q p s = (none, bump .boltAdmitDrop q (noteRefused q p (arrived q p s))) := by
  have hbuf : ∀ t, getBuf q (noteRefused q p t) = getBuf q t := fun t => by
    unfold noteRefused
    dsimp only
    split
    · rfl
    · split
      · rfl
      · rfl
  unfold admitTo
  change (if !hasCredit q p (arrived q p s) then _ else _) = _
  cases hcredit : hasCredit q p (arrived q p s) with
  | false => rfl
  | true =>
    obtain ⟨htest, hhead⟩ := h.resolve_left (by rw [hcredit]; decide)
    change (match admitTest q (arrived q p s) with | some r => _ | none => _) = _
    rw [htest]
    dsimp only
    exact if_pos (by rw [hbuf]; exact congrArg not hhead)

theorem admitTo_admits {r : Bool} (hcredit : hasCredit q p (arrived q p s) = true) (htest : admitTest q (arrived q p s) = some r) : admitTo q p s = (some r, arrived q p s) := by
  unfold admitTo
  change (if !hasCredit q p (arrived q p s) then _ else _) = _
  rw [hcredit]
  change (match admitTest q (arrived q p s) with | some r => _ | none => _) = _
  rw [htest]
  rfl

end

end Sys2Proof.Machine
end

section
/-! Proofs/FrameArrivalEvents: what a cell slot leaves of queues and charges, and the clauses about frames that come in (R32-R37, R49-R53, R58, R59, R130-R145, R199, R234, R248, R392). -/

namespace Sys2Proof.Machine
open Sys2Proof.Claims

/-! A cell slot (R32-R35) -/

/-- What a cell slot leaves alone: queues, charges and contention, and until its end the slot itself. -/
def slotView (s : State) : SMap (List QEnt) × SMap Nat × SMap Nat × Nat × SMap Nat × List Tracked × Nat := (s.fab.queues, s.fab.occ, s.fab.use, s.fab.pool, s.fab.headroom, s.fab.tracked, s.fab.slot)

theorem slotView_of_besideDescs {s t : State} (h : besideDescs t = besideDescs s) : slotView t = slotView s := (congrArg slotView h :)

theorem slotView_syncFrame (i : Nat) (s : State) : slotView (syncFrame i s) = slotView s := slotView_of_besideDescs (besideDescs_syncFrame i s)

theorem slotView_syncPlaces (f : Frame) (s : State) : slotView (syncPlaces f s) = slotView s := by
  refine forEach_keeps (p := slotView) (fun q t => ?_) _ s
  have hlinks := slotView_of_besideDescs (besideDescs_syncLinks q.1 t)
  dsimp only
  generalize syncLinks q.1 t = u at hlinks
  split
  · exact (slotView_syncFrame _ u).trans hlinks
  · exact hlinks

theorem slotView_takeRow {b c : Nat} {s t : State} (h : takeRow b s = some (c, t)) : slotView t = slotView s := by
  unfold takeRow at h
  dsimp only at h
  split at h
  · cases h
    rfl
  · split at h
    · cases h
    · cases h
      rfl

theorem slotView_storeCell (i b : Nat) (s : State) : slotView (storeCell i b s) = slotView s := by
  unfold storeCell
  split
  next f x hget htake =>
    obtain ⟨c, t⟩ := x
    have htaken := slotView_takeRow htake
    have hwritten : slotView (syncFrame i (updFrame i (fun g => { g with cells := g.cells ++ [c] }) t)) = slotView s := (slotView_syncFrame i _).trans htaken
    dsimp only
    split
    · exact (slotView_syncPlaces f _).trans hwritten
    · exact hwritten
  · rfl

theorem slotView_returnCell (p c : Nat) (s : State) : slotView (returnCell p c s) = slotView s := by
  unfold returnCell
  split
  · rfl
  · rfl

theorem slotView_rgaMatch (base : Nat) (can : Nat → Nat → Bool) (s : State) : slotView (rgaMatch base can s).2 = slotView s := by
  unfold rgaMatch
  dsimp only
  generalize rgaIterate base can false _ = m
  rfl

/-- A fold over ports that keeps what a slot leaves alone. -/
theorem slotView_foldl {α β : Type} {f : α × State → β → α × State} (hf : ∀ acc b, slotView (f acc b).2 = slotView acc.2) (l : List β) : ∀ acc, slotView (l.foldl f acc).2 = slotView acc.2 := by
  induction l with
  | nil => exact fun _ => rfl
  | cons b l ih => exact fun acc => (ih _).trans (hf acc b)

theorem slotView_expressWrites (s : State) : slotView (expressWrites s).2 = slotView s := by
  refine slotView_foldl (fun acc p => ?_) (List.range 27) ([], s)
  split
  · rfl
  · split
    · rfl
    · split
      · rfl
      · exact slotView_storeCell _ _ _

theorem slotView_expressReads (s : State) : slotView (expressReads s).2 = slotView s := by
  refine slotView_foldl (fun acc p => ?_) (List.range 27) ([], s)
  split
  · rfl
  · split
    · rfl
    · exact slotView_returnCell _ _ _

theorem slotView_writeSide (taken : List Nat) (i : Nat) (s : State) : slotView (writeSide taken i s) = slotView s := by
  unfold writeSide
  dsimp only
  split
  · rfl
  · refine (forEach_keeps (p := slotView) (fun x t => ?_) _ _).trans (slotView_rgaMatch _ _ s)
    split
    · rfl
    · split
      · exact slotView_storeCell _ _ t
      · rfl

theorem slotView_readSide (taken : List Nat) (b : Nat) (s : State) : slotView (readSide taken b s) = slotView s := by
  unfold readSide
  dsimp only
  refine (forEach_keeps (p := slotView) (fun x t => ?_) _ _).trans (slotView_rgaMatch _ _ s)
  split
  · exact slotView_returnCell _ _ t
  · rfl

/-- A cell slot moves cells, and the Shuttles turn. -/
theorem shuttleTurn_frame (s : State) : (shuttleTurn s).fab.slot = (s.fab.slot + 1) % 4 ∧ (shuttleTurn s).fab.queues = s.fab.queues ∧ (shuttleTurn s).fab.occ = s.fab.occ ∧ (shuttleTurn s).fab.use = s.fab.use
    ∧ (shuttleTurn s).fab.pool = s.fab.pool ∧ (shuttleTurn s).fab.headroom = s.fab.headroom ∧ (shuttleTurn s).fab.tracked = s.fab.tracked := by
  have hwrites := slotView_expressWrites s
  have hstored := (forEach_keeps (p := slotView) (fun i t => slotView_writeSide (expressWrites s).1 i t) (List.range 4) (expressWrites s).2).trans hwrites
  unfold shuttleTurn
  dsimp only
  generalize hu : forUpTo 4 (writeSide (expressWrites s).1) (expressWrites s).2 = u
  have hu' : slotView u = slotView s := hu ▸ hstored
  have hreads := (forEach_keeps (p := slotView) (fun i t => slotView_readSide (expressReads u).1 i t) (List.range 4) (expressReads u).2).trans ((slotView_expressReads u).trans hu')
  generalize hv : forUpTo 4 (readSide (expressReads u).1) (expressReads u).2 = v
  have hview : slotView v = slotView s := hv ▸ hreads
  simp only [slotView, Prod.mk.injEq] at hview
  obtain ⟨hqueues, hocc, huse, hpool, hheadroom, htracked, hslot⟩ := hview
  exact ⟨congrArg (fun n => (n + 1) % 4) hslot, hqueues, hocc, huse, hpool, hheadroom, htracked⟩

/-! Lookups (R137-R144) -/

section
variable {f : Frame} {late : Bool} {ecc : Ecc} {s : State} (hfirst : f.second = none)
include hfirst

theorem endLookup_noTables (h : frameTables f s = none) : endLookup f late ecc s = refuse f.ident .patNoTree f.keyPort (if ecc = .corrected then bump .patNodeEccCorr 0 s else s) := by
  unfold endLookup
  rw [hfirst]
  dsimp only [Option.bind_none]
  rw [h]

variable {tb : EpochTables} (htables : frameTables f s = some tb) (hkey : f.key.isFrag = false ∨ f.key.firstFrag = true)
include htables hkey

theorem endLookup_tables : endLookup f late ecc s =
    match mapGet none tb.roots (frameZone tb f * 5 + keyType f.key) with
    | none => refuse f.ident .patNoTree f.keyPort (if ecc = .corrected then bump .patNodeEccCorr 0 s else s)
    | some root =>
      match (if ecc = .uncorrectable then none else walkTree s.pat.nodeMem tb.nodes (keyBytes f.keyPort (frameZone tb f) false false 0 f.key) 24 root) with
      | none => detectFault 0x0E 0 (refuse f.ident .patTreeFault f.keyPort (if ecc = .corrected then bump .patNodeEccCorr 0 s else s))
      | some l => applyLeaf f.ident l none (late && !(verdictSure f tb (keyBytes f.keyPort (frameZone tb f) false false 0 f.key) root l s))
          (if f.key.isFrag then firstFragment f l (if ecc = .corrected then bump .patNodeEccCorr 0 s else s) else (if ecc = .corrected then bump .patNodeEccCorr 0 s else s)) := by
  have hwhole : (f.key.isFrag && !f.key.firstFrag) = false := by
    rcases hkey with h | h
    · rw [h, Bool.false_and]
    · rw [h, Bool.not_true, Bool.and_false]
  unfold endLookup
  rw [hfirst]
  dsimp only [Option.bind_none, Option.isSome_none, Option.map_none, Option.getD_none]
  rw [htables, hwhole]
  rfl

theorem endLookup_noRoot (h : mapGet none tb.roots (frameZone tb f * 5 + keyType f.key) = none) : endLookup f late ecc s = refuse f.ident .patNoTree f.keyPort (if ecc = .corrected then bump .patNodeEccCorr 0 s else s) := by
  rw [endLookup_tables hfirst htables hkey, h]

theorem endLookup_fault {root : Nat} (h : mapGet none tb.roots (frameZone tb f * 5 + keyType f.key) = some root)
    (hwalk : ecc = .uncorrectable ∨ walkTree s.pat.nodeMem tb.nodes (keyBytes f.keyPort (frameZone tb f) false false 0 f.key) 24 root = none) :
    endLookup f late ecc s = detectFault 0x0E 0 (refuse f.ident .patTreeFault f.keyPort (if ecc = .corrected then bump .patNodeEccCorr 0 s else s)) := by
  have hnone : (if ecc = .uncorrectable then none else walkTree s.pat.nodeMem tb.nodes (keyBytes f.keyPort (frameZone tb f) false false 0 f.key) 24 root) = none := by
    split
    · rfl
    next hclean => exact hwalk.resolve_left hclean
  rw [endLookup_tables hfirst htables hkey, h]
  dsimp only
  rw [hnone]

theorem endLookup_leaf {root leaf : Nat} (h : mapGet none tb.roots (frameZone tb f * 5 + keyType f.key) = some root) (hclean : ecc ≠ .uncorrectable)
    (hwalk : walkTree s.pat.nodeMem tb.nodes (keyBytes f.keyPort (frameZone tb f) false false 0 f.key) 24 root = some leaf) :
    endLookup f late ecc s = applyLeaf f.ident leaf none (late && !(verdictSure f tb (keyBytes f.keyPort (frameZone tb f) false false 0 f.key) root leaf s))
      (if f.key.isFrag then firstFragment f leaf (if ecc = .corrected then bump .patNodeEccCorr 0 s else s) else (if ecc = .corrected then bump .patNodeEccCorr 0 s else s)) := by
  rw [endLookup_tables hfirst htables hkey, h]
  dsimp only
  rw [if_neg hclean, hwalk]

end

/-- What the receive FIFOs of the CAN controllers put into the room that a lookup leaves. -/
def fifosEmptied (x : State) : State := if edgeOn x then drainFifos 512 x else x

theorem completes_lookup {port : Port} {late : Bool} {ecc : Ecc} {f : Frame} {s t : State} (hrun : coreRuns s = true) (hnext : walkedNext port.val s = some f) (hend : endLookup f late ecc s = t) :
    Completes (.lookupComplete port late ecc) s (fifosEmptied (startWalks t)) := by
  have hlookup : completeLookup port.val late ecc s = startWalks t := by
    unfold completeLookup
    rw [hnext, ← hend]
  have hdone : lookupDone port.val late ecc s = fifosEmptied (startWalks t) := by
    unfold lookupDone fifosEmptied
    rw [hlookup]
  exact congrArg ends ((if_pos hrun).trans hdone)

/-- Settles O45. -/
theorem frameArrivalEventsRun : Obligations.FrameArrivalEventsRun := by
  unfold Obligations.FrameArrivalEventsRun
  intro s port p emptied
  have hcore : ∀ {c : Instr} {act : State → State} {t : State}, coreRuns s = true → exec c s = ends (atCore act s) → act s = t → Completes c s t := fun hrun hc ht => hc.trans (congrArg ends ((if_pos hrun).trans ht))
  have hreceive : ∀ {bs fin}, coreRuns s = true → exec (.frameReceive port bs fin) s = ends (atCore (receiveAt p bs fin) s) := fun hrun => congrArg ends (if_neg (awake_of_coreRuns hrun))
  have hadmission : coreRuns s = true → lightsGoing s = false → exec (.admission port) s = ends (atCore (admitNext p) s) := fun _ hlights => congrArg ends (if_neg fun h => Bool.false_ne_true (hlights.symm.trans h.1))
  refine ⟨fun bs fin hrun hdown => hcore hrun (hreceive hrun) (if_pos (congrArg not hdown)), fun bs hrun hp hup hclean hnone hshort hmax hold => hcore hrun (hreceive hrun) (receiveAt_first hp hup hclean hnone hshort hmax hold),
    fun bs hdoze hp hup => ?_, fun late ecc hrun hnone => ?_, fun late ecc f hrun hnext hfirst => ⟨fun htables => completes_lookup hrun hnext (endLookup_noTables hfirst htables), fun tb htables hkey => ?_⟩,
    fun f hrun hlights hnext hstage => hcore hrun (hadmission hrun hlights) (admitNext_waits hnext hstage), fun f o hrun hlights hnext hget hstage hports hentry hfits hcell => ⟨fun hrefused => ?_, fun r hcredit htest hstrip hgen hlen => ?_⟩,
    fun hrun => ⟨shuttleTurn s, hcore hrun rfl rfl, shuttleTurn_frame s⟩, fun hrun => hcore hrun rfl rfl, fun cls i hrun => ?_, fun q => ⟨fun hstate => congrArg ends (if_pos hstate), fun hstate hempty => congrArg ends (if_pos ⟨hstate, hempty⟩)⟩⟩
  · refine congrArg ends ((if_pos hdoze).trans ((if_neg ?_).trans (if_neg fun h => by cases h.1)))
    rw [hup]
    simp only [Bool.not_true, Bool.false_eq_true, or_false]
    omega
  · have hidle : lookupDone p late ecc s = emptied s := by
      unfold lookupDone completeLookup
      rw [hnone]
    exact hcore hrun rfl hidle
  · intro z kb root_
    refine ⟨fun hroot => completes_lookup hrun hnext (endLookup_noRoot hfirst htables hkey hroot), fun root hroot => ⟨fun hwalk => completes_lookup hrun hnext (endLookup_fault hfirst htables hkey hroot hwalk), fun leaf hclean hwalk => ?_⟩⟩
    exact completes_lookup hrun hnext (endLookup_leaf hfirst htables hkey hroot hclean hwalk)
  · refine hcore hrun (hadmission hrun hlights) ((admitNext_one hnext hstage hports hfits hcell).trans ?_)
    rw [hentry, admitTo_refused hrefused]
    rfl
  · have hact : admitNext p s = admitFrame f false [(8 * o + f.verdict.cls, r)] (arrived (8 * o + f.verdict.cls) p s) := by
      rw [admitNext_one hnext hstage hports hfits hcell, hentry, admitTo_admits hcredit htest]
    have hview : boltView (arrived (8 * o + f.verdict.cls) p s) = boltView s := rfl
    obtain ⟨hself, hothers, hframe⟩ := admitFrame_one (s := arrived (8 * o + f.verdict.cls) p s) hget hstrip hgen false (8 * o + f.verdict.cls) r hlen
    refine ⟨_, hcore hrun (hadmission hrun hlights) hact, hself, hothers, ?_⟩
    obtain ⟨g, hg, hgview⟩ := Option.map_eq_some_iff.mp hframe
    rw [hg]
    exact congrArg (fun v => some v.2) hgview
  · refine ⟨s.fab.tracked.map (fun t => if t.queue == 8 * p + cls.val then { t with rivals := t.rivals.filter (fun r => !(decide (r.port = i.val) && decide (r.idle ≥ 16))) } else t), hcore hrun rfl rfl, ?_, fun t ht r hr hq hport => ?_⟩
    · rw [List.map_map]
      refine List.map_congr_left fun t _ => ?_
      dsimp only [Function.comp]
      split
      · rfl
      · rfl
    · obtain ⟨t', -, ht'⟩ := List.mem_map.mp ht
      have hqueue : t'.queue = 8 * p + cls.val := by
        rw [← ht'] at hq
        split at hq
        · exact hq
        · exact hq
      rw [if_pos (beq_iff_eq.mpr hqueue)] at ht'
      rw [← ht'] at hr
      have hkept := (List.mem_filter.mp hr).2
      simp only [hport, decide_true, Bool.true_and, Bool.not_eq_true', decide_eq_false_iff_not] at hkept
      omega

end Sys2Proof.Machine
end

section
/-! Proofs/FrameTransmission: a counterexample to the clauses about frames that go out (R71, R72). -/

namespace Sys2Proof.Machine
open Sys2Proof.Claims

/-- Port 0 transmits a frame under class 8, which is no class: its queue by number would be class 0 of port 1, where preemption is not active. -/
def classEightSent : State :=
  { State.reset with
    pwr := { State.reset.pwr with powered := 0xFFFF, closed := 0 }
    sch := { State.reset.sch with preempt := [(0, 1)] }
    fab := { State.reset.fab with
      tx := [(0, some { frame := 0, cls := 8, done := 2 })]
      frames := [{ ident := 0, entry := 0, keyPort := 0, bytes := List.replicate 300 0 }] } }

theorem preemptAt_classEight : preemptAt 0 classEightSent = classEightSent := rfl

theorem quiet_of_draws {s u : State} (h : { u with draws := s.draws } = s) : quiet u = quiet s := (congrArg quiet h :)

/-- Refutes O46: nothing bounds the class of a frame in transmission, and one under class 8 of port 0 meets the clause's hypotheses without being preempted. -/
theorem not_frameTransmissionEventsRun : ¬ Obligations.FrameTransmissionEventsRun := by
  rintro ⟨-, -, h, -⟩
  have hcore : coreRuns classEightSent = true := by decide +kernel
  obtain ⟨-, hframe⟩ := h classEightSent 0 hcore
  obtain ⟨-, -, hpreempts⟩ := hframe { frame := 0, cls := 8, done := 2 } { ident := 0, entry := 0, keyPort := 0, bytes := List.replicate 300 0 } rfl rfl
  have hclosed : (gateOut 0 classEightSent).getLsbD 8 = false := by decide +kernel
  obtain ⟨n, u, -, -, hdraws, hcut⟩ := hpreempts 0 (by decide +kernel) rfl rfl rfl (Or.inr (Or.inr hclosed)) (by decide +kernel)
  have hstays : exec (.preemption 0) classEightSent = ends classEightSent := congrArg ends ((if_pos hcore).trans preemptAt_classEight)
  have hsettled : settle classEightSent = settle (setPreempted 0 (some { frame := 0, cls := 8, done := 2, fragFrom := n }) (setTx 0 none u)) := Host.Outcome.next.inj (hstays.symm.trans hcut)
  have hquiet : quiet classEightSent = true := by decide +kernel
  have hquietCut : quiet (setPreempted 0 (some { frame := 0, cls := 8, done := 2, fragFrom := n }) (setTx 0 none u)) = true := (quiet_of_draws hdraws).trans hquiet
  rw [settleLeavesQuietStateAlone _ hquiet, settleLeavesQuietStateAlone _ hquietCut] at hsettled
  have hsent := congrArg (fun s => mapGet none s.fab.tx 0) hsettled
  have hnone : mapGet none (mapSet none u.fab.tx 0 none) 0 = (none : Option Tx) := mapGet_mapSet_same none u.fab.tx 0 none
  exact Option.some_ne_none _ (hsent.trans hnone)

end Sys2Proof.Machine
end

section
/-! Proofs/CanonicalFabric: the canonical form of the ring and descriptor memories (R353) through streams, the Bolt, gates, lookups and transmission: none of them writes these memories. -/

namespace Sys2Proof.Machine
open Sys2Proof.Claims

/-- Lets `simp` read the memories off a state that is written out or updated field by field. -/
@[simp] theorem memoriesOk_mk (pending cyc out draws counters raised events faults yel ports fab sch pat seam bcn stb edge sel bod thm plk pwr lamp kpr dbg twin boot) :
    memoriesOk (State.mk pending cyc out draws counters raised events faults yel ports fab sch pat seam bcn stb edge sel bod thm plk pwr lamp kpr dbg twin boot) = (plk.ringMem.wf && plk.descMem.wf) := rfl

@[simp] theorem wf_and_wf_eq_memoriesOk (s : State) : (s.plk.ringMem.wf && s.plk.descMem.wf) = memoriesOk s := rfl

@[simp] theorem memoriesOk_ite (p : Prop) [Decidable p] (s t : State) :
    memoriesOk (if p then s else t) = if p then memoriesOk s else memoriesOk t := apply_ite memoriesOk p s t

/-! Choices and iterations -/

@[simp] theorem memoriesOk_foldl {α : Type} (l : List α) {f : State → α → State} (h : ∀ a t, memoriesOk (f t a) = memoriesOk t) (s : State) :
    memoriesOk (l.foldl f s) = memoriesOk s :=
  forEach_keeps (f := fun a t => f t a) h l s

@[simp] theorem memoriesOk_forEach {α : Type} (l : List α) {f : α → State → State} (h : ∀ a t, memoriesOk (f a t) = memoriesOk t) (s : State) :
    memoriesOk (forEach l f s) = memoriesOk s :=
  forEach_keeps h l s

@[simp] theorem memoriesOk_forUpTo (n : Nat) {f : Nat → State → State} (h : ∀ a t, memoriesOk (f a t) = memoriesOk t) (s : State) :
    memoriesOk (forUpTo n f s) = memoriesOk s :=
  forEach_keeps h (List.range n) s

theorem memoriesOk_foldl_snd {α β : Type} (l : List α) {f : β × State → α → β × State} (h : ∀ a x, memoriesOk (f x a).2 = memoriesOk x.2) (x : β × State) :
    memoriesOk (l.foldl f x).2 = memoriesOk x.2 :=
  forEach_keeps (p := fun x => memoriesOk x.2) (f := fun a x => f x a) h l x

theorem memoriesOk_if {p : Prop} [Decidable p] {s t : State} {b : Bool} (hs : memoriesOk s = b) (ht : memoriesOk t = b) : memoriesOk (if p then s else t) = b := by
  split
  · exact hs
  · exact ht

theorem memoriesOk_st_if {p : Prop} [Decidable p] {x y : CmdResult} {b : Bool} (hx : memoriesOk x.st = b) (hy : memoriesOk y.st = b) :
    memoriesOk (if p then x else y).st = b := by
  split
  · exact hx
  · exact hy

theorem forEach_memoriesOk {α : Type} {l : List α} {f : α → State → State} (h : ∀ a t, memoriesOk t = true → memoriesOk (f a t) = true) {s : State} (hs : memoriesOk s = true) :
    memoriesOk (forEach l f s) = true :=
  List.foldlRecOn (motive := fun t => memoriesOk t = true) l _ hs (fun t ht a _ => h a t ht)

theorem forUpTo_memoriesOk {n : Nat} {f : Nat → State → State} (h : ∀ a t, memoriesOk t = true → memoriesOk (f a t) = true) {s : State} (hs : memoriesOk s = true) :
    memoriesOk (forUpTo n f s) = true :=
  forEach_memoriesOk h hs

/-! Below, a setter that changes another field is proved `by rfl`, not by the term `rfl`: `simp` then rewrites with it also while it discharges the hypothesis of an iteration. -/

/-! Counters, events, faults -/

@[simp] theorem memoriesOk_bumpBy (n : Nat) (c : Ctr) (i : Nat) (s : State) : memoriesOk (bumpBy n c i s) = memoriesOk s := by rfl

@[simp] theorem memoriesOk_bump (c : Ctr) (i : Nat) (s : State) : memoriesOk (bump c i s) = memoriesOk s := by simp [bump]

@[simp] theorem memoriesOk_clearCount (c : Ctr) (i : Nat) (s : State) : memoriesOk (clearCount c i s) = memoriesOk s := by rfl

@[simp] theorem memoriesOk_emit (e : Emission) (s : State) : memoriesOk (emit e s) = memoriesOk s := by rfl

@[simp] theorem memoriesOk_drawBelow (n : Nat) (s : State) : memoriesOk (drawBelow n s).2 = memoriesOk s := by rfl

@[simp] theorem memoriesOk_raiseEv (e : Ev) (inst : Nat) (detail : List Byte) (s : State) : memoriesOk (raiseEv e inst detail s) = memoriesOk s := by rfl

@[simp] theorem memoriesOk_detectFault (mech inst : Nat) (s : State) : memoriesOk (detectFault mech inst s) = memoriesOk s := by rfl

@[simp] theorem memoriesOk_setPort (p : Nat) (v : PortSt) (s : State) : memoriesOk (setPort p v s) = memoriesOk s := by rfl

@[simp] theorem memoriesOk_setFab (f : Fabric) (s : State) : memoriesOk (setFab f s) = memoriesOk s := by rfl

@[simp] theorem memoriesOk_pass (n : Nat) (s : State) : memoriesOk (pass n s) = memoriesOk s := by rfl

@[simp] theorem memoriesOk_advanceTo (t : Nat) (s : State) : memoriesOk (advanceTo t s) = memoriesOk s := by simp [advanceTo]

@[simp] theorem memoriesOk_setLink (l : Nat) (x : SelLinkSt) (s : State) : memoriesOk (setLink l x s) = memoriesOk s := by rfl

@[simp] theorem memoriesOk_done (r : List Byte) (s : State) : memoriesOk (done r s).st = memoriesOk s := by rfl

@[simp] theorem memoriesOk_failed (e : Status) (s : State) : memoriesOk (failed e s).st = memoriesOk s := by rfl

@[simp] theorem memoriesOk_relayTo (kind inst : Nat) (msg : List Byte) (s : State) : memoriesOk (relayTo kind inst msg s) = memoriesOk s := by simp [relayTo]

/-! Streams -/

@[simp] theorem memoriesOk_setFilter (i : Nat) (v : StreamFilter) (s : State) : memoriesOk (setFilter i v s) = memoriesOk s := by rfl

@[simp] theorem memoriesOk_setPolicer (i : Nat) (v : Policer) (s : State) : memoriesOk (setPolicer i v s) = memoriesOk s := by rfl

@[simp] theorem memoriesOk_setRecov (i : Nat) (v : Recov) (s : State) : memoriesOk (setRecov i v s) = memoriesOk s := by rfl

@[simp] theorem memoriesOk_setSGate (i : Nat) (v : StreamGate) (s : State) : memoriesOk (setSGate i v s) = memoriesOk s := by rfl

@[simp] theorem memoriesOk_refundMeter (owed : Nat × Bool × Nat) (len : Nat) (s : State) : memoriesOk (refundMeter owed len s) = memoriesOk s := by rfl

@[simp] theorem memoriesOk_policeStep (pol len : Nat) (known dei : Bool) (r : Filtered) (s : State) :
    memoriesOk (policeStep pol len known dei r s).2 = memoriesOk s := by
  simp only [policeStep]
  (repeat' split) <;> simp

@[simp] theorem memoriesOk_recovStep (fn : Nat) (hasTag : Bool) (q : Nat) (r : Filtered) (s : State) : memoriesOk (recovStep fn hasTag q r s).2 = memoriesOk s := by
  simp only [recovStep]
  (repeat' split) <;> simp

@[simp] theorem memoriesOk_sgateStep (g : Nat) (r : Filtered) (s : State) : memoriesOk (sgateStep g r s).2 = memoriesOk s := by
  simp only [sgateStep]
  (repeat' split) <;> simp

@[simp] theorem memoriesOk_handlingFilter (i : Nat) (isMsg : Bool) (pcp : Nat) (s : State) : memoriesOk (handlingFilter i isMsg pcp s).2 = memoriesOk s := by
  simp only [handlingFilter]
  (repeat' split) <;> simp

@[simp] theorem memoriesOk_filterFrame (i : Nat) (f : StreamFilter) (k : PKey) (len : Nat) (known : Bool) (cls : Nat) (s : State) :
    memoriesOk (filterFrame i f k len known cls s).2 = memoriesOk s := by
  simp only [filterFrame]
  (repeat' split) <;> simp

/-! The Bolt -/

@[simp] theorem memoriesOk_updFrame (i : Nat) (u : Frame → Frame) (s : State) : memoriesOk (updFrame i u s) = memoriesOk s := by rfl

@[simp] theorem memoriesOk_eraseFrame (i : Nat) (s : State) : memoriesOk (eraseFrame i s) = memoriesOk s := by rfl

@[simp] theorem memoriesOk_setQueue (q : Nat) (l : List QEnt) (s : State) : memoriesOk (setQueue q l s) = memoriesOk s := by rfl

theorem memoriesOk_takeRow {b r : Nat} {s t : State} (h : takeRow b s = some (r, t)) : memoriesOk t = memoriesOk s := by
  simp only [takeRow] at h
  split at h
  · cases h; simp
  · split at h
    · cases h
    · cases h; simp

@[simp] theorem memoriesOk_giveRow (c : Nat) (s : State) : memoriesOk (giveRow c s) = memoriesOk s := by rfl

@[simp] theorem memoriesOk_syncFrame (i : Nat) (s : State) : memoriesOk (syncFrame i s) = memoriesOk s := by
  simp only [syncFrame]
  (repeat' split) <;> simp

@[simp] theorem memoriesOk_syncLinks_go (q : Nat) (l : List QEnt) (s : State) : memoriesOk (syncLinks.go q l s) = memoriesOk s := by
  induction l generalizing s with
  | nil => rfl
  | cons e l ih => simp only [syncLinks.go]; split <;> simp [ih]

@[simp] theorem memoriesOk_syncLinks (q : Nat) (s : State) : memoriesOk (syncLinks q s) = memoriesOk s :=
  memoriesOk_syncLinks_go q (queueOf q s) s

@[simp] theorem memoriesOk_updTracked (q : Nat) (u : Tracked → Tracked) (s : State) : memoriesOk (updTracked q u s) = memoriesOk s := by rfl

@[simp] theorem memoriesOk_endContention (s : State) : memoriesOk (endContention s) = memoriesOk s := by rfl

@[simp] theorem memoriesOk_payCredit (f : Frame) (s : State) : memoriesOk (payCredit f s) = memoriesOk s := by simp [payCredit]

@[simp] theorem memoriesOk_chargeCell (f : Frame) (s : State) : memoriesOk (chargeCell f s) = memoriesOk s := by simp [chargeCell]

@[simp] theorem memoriesOk_chargeNew (i : Nat) (s : State) : memoriesOk (chargeNew i s) = memoriesOk s := by
  simp only [chargeNew]
  split
  · rfl
  · exact memoriesOk_forUpTo _ (fun j t => by split <;> simp) s

@[simp] theorem memoriesOk_releaseShared (q : Nat) (s : State) : memoriesOk (releaseShared q s) = memoriesOk s := by
  simp only [releaseShared]
  (repeat' split) <;> simp

@[simp] theorem memoriesOk_releaseCharge (f : Frame) (c : Charge) (s : State) : memoriesOk (releaseCharge f c s) = memoriesOk s := by
  simp only [releaseCharge]
  split <;> simp

@[simp] theorem memoriesOk_freeCell (i : Nat) (s : State) : memoriesOk (freeCell i s) = memoriesOk s := by
  simp only [freeCell]
  (repeat' split) <;> simp

@[simp] theorem memoriesOk_freeAll (i : Nat) (s : State) : memoriesOk (freeAll i s) = memoriesOk s := by
  simp only [freeAll]
  split <;> simp

@[simp] theorem memoriesOk_trimCells (i : Nat) (s : State) : memoriesOk (trimCells i s) = memoriesOk s := by
  simp only [trimCells]
  split <;> simp

@[simp] theorem memoriesOk_settleMeter (i : Nat) (s : State) : memoriesOk (settleMeter i s) = memoriesOk s := by
  simp only [settleMeter]
  (repeat' split) <;> simp

@[simp] theorem memoriesOk_endFrame (i : Nat) (s : State) : memoriesOk (endFrame i s) = memoriesOk s := by simp [endFrame]

@[simp] theorem memoriesOk_ruleBytes (i : Nat) (s : State) : memoriesOk (ruleBytes i s) = memoriesOk s := by
  simp only [ruleBytes]
  (repeat' split) <;> simp

@[simp] theorem memoriesOk_dropFrame (i : Nat) (s : State) : memoriesOk (dropFrame i s) = memoriesOk s := by
  simp only [dropFrame]
  split <;> simp

@[simp] theorem memoriesOk_dropCopy (i : Nat) (link : Option Nat) (s : State) : memoriesOk (dropCopy i link s) = memoriesOk s := by
  simp only [dropCopy]
  (repeat' split) <;> simp

@[simp] theorem memoriesOk_dropHead (q : Nat) (c : Ctr) (s : State) : memoriesOk (dropHead q c s) = memoriesOk s := by
  simp only [dropHead]
  split <;> simp

@[simp] theorem memoriesOk_flushQueue (q : Nat) (s : State) : memoriesOk (flushQueue q s) = memoriesOk s := by simp [flushQueue]

@[simp] theorem memoriesOk_flushPort (p : Nat) (s : State) : memoriesOk (flushPort p s) = memoriesOk s := by simp [flushPort]

@[simp] theorem memoriesOk_ageQueue (q : Nat) (s : State) : memoriesOk (ageQueue q s) = memoriesOk s := by simp [ageQueue]

/-! Stitch keys -/

@[simp] theorem memoriesOk_setBase (i : Nat) (b : StitchBase) (s : State) : memoriesOk (setBase i b s) = memoriesOk s := by rfl

@[simp] theorem memoriesOk_setKeySt (i : Nat) (k : KeyState) (s : State) : memoriesOk (setKeySt i k s) = memoriesOk s := by rfl

@[simp] theorem memoriesOk_setGates (p : Nat) (g : PortGates) (s : State) : memoriesOk (setGates p g s) = memoriesOk s := by rfl

@[simp] theorem memoriesOk_activateKey (consumer i : Nat) (k : BitVec 128) (s : State) : memoriesOk (activateKey consumer i k s) = memoriesOk s := by
  simp only [activateKey]
  split <;> simp

/-! Gates -/

@[simp] theorem memoriesOk_countOverrun (p : Nat) (before : BitVec 8) (s : State) : memoriesOk (countOverrun p before s) = memoriesOk s := by
  simp only [countOverrun]
  split <;> simp

@[simp] theorem memoriesOk_placeGates (p : Nat) (s : State) : memoriesOk (placeGates p s) = memoriesOk s := by simp [placeGates]

@[simp] theorem memoriesOk_jumpGates (p : Nat) (s : State) : memoriesOk (jumpGates p s) = memoriesOk s := by simp [jumpGates]

@[simp] theorem memoriesOk_refreshGates (p : Nat) (s : State) : memoriesOk (refreshGates p s) = memoriesOk s := by simp [refreshGates]

@[simp] theorem memoriesOk_setInfeasible (p : Nat) (b : Bool) (s : State) : memoriesOk (setInfeasible p b s) = memoriesOk s := by simp [setInfeasible]

@[simp] theorem memoriesOk_recheckGcl (p : Nat) (s : State) : memoriesOk (recheckGcl p s) = memoriesOk s := by simp [recheckGcl]

theorem memoriesOk_takeListBy {place : Nat → State → State} (hp : ∀ p t, memoriesOk (place p t) = memoriesOk t) (p : Nat) (s : State) :
    memoriesOk (takeListBy place p s) = memoriesOk s := by
  simp only [takeListBy]; split <;> simp [hp]

@[simp] theorem memoriesOk_takeList (p : Nat) (s : State) : memoriesOk (takeList p s) = memoriesOk s :=
  memoriesOk_takeListBy memoriesOk_placeGates p s

@[simp] theorem memoriesOk_refreshSGate (i : Nat) (s : State) : memoriesOk (refreshSGate i s) = memoriesOk s := by simp [refreshSGate]

@[simp] theorem memoriesOk_replaceGates (p : Nat) (s : State) : memoriesOk (replaceGates p s) = memoriesOk s := by
  simp only [replaceGates]
  (repeat' split) <;> simp [memoriesOk_takeListBy memoriesOk_jumpGates]

@[simp] theorem memoriesOk_replaceAllGates (s : State) : memoriesOk (replaceAllGates s) = memoriesOk s := by simp [replaceAllGates]

@[simp] theorem memoriesOk_resyncGates (s : State) : memoriesOk (resyncGates s) = memoriesOk s := by simp [resyncGates]

/-! Lookups -/

@[simp] theorem memoriesOk_countRule (i r : Nat) (s : State) : memoriesOk (countRule i r s) = memoriesOk s := by simp [countRule]

@[simp] theorem memoriesOk_refuse (i : Nat) (c : Ctr) (inst : Nat) (s : State) : memoriesOk (refuse i c inst s) = memoriesOk s := by simp [refuse]

@[simp] theorem memoriesOk_setFresh (i : Nat) (v : Fresh) (s : State) : memoriesOk (setFresh i v s) = memoriesOk s := by rfl

@[simp] theorem memoriesOk_freshReceive (f : Frame) (s : State) : memoriesOk (freshReceive f s).2 = memoriesOk s := by
  simp only [freshReceive]
  (repeat' split) <;> simp

@[simp] theorem memoriesOk_freshTransmit (ctx : Nat) (s : State) : memoriesOk (freshTransmit ctx s).2 = memoriesOk s := by
  simp only [freshTransmit]
  (repeat' split) <;> simp

@[simp] theorem memoriesOk_runFilter (i : Nat) (s : State) : memoriesOk (runFilter i s) = memoriesOk s := by
  simp only [runFilter]
  (repeat' split) <;> simp

@[simp] theorem memoriesOk_plainVerdict (i : Nat) (v : Verdict) (s : State) : memoriesOk (plainVerdict i v s) = memoriesOk s := by simp [plainVerdict]

@[simp] theorem memoriesOk_countJudge (j : Judge × Nat) (s : State) : memoriesOk (countJudge j s) = memoriesOk s := by
  simp only [countJudge]
  split <;> simp

@[simp] theorem memoriesOk_applyLeaf (i leafIdx : Nat) (hash : Option Nat) (late : Bool) (s : State) :
    memoriesOk (applyLeaf i leafIdx hash late s) = memoriesOk s := by
  unfold applyLeaf
  split
  · rfl
  split
  · simp
  extract_lets leaf v pass2 s1 fr base go ports iz js sent toKeeper s2 kp w fv
  have hs1 : memoriesOk s1 = memoriesOk s := by simp only [s1]; split <;> simp
  have hfr : memoriesOk fr.2 = memoriesOk s := (memoriesOk_freshReceive ..).trans hs1
  have hgo (w x) : memoriesOk (go w x) = memoriesOk x := (memoriesOk_runFilter ..).trans (memoriesOk_updFrame ..)
  have hs2 : memoriesOk s2 = memoriesOk s := (memoriesOk_forEach _ (fun j t => memoriesOk_countJudge ..) _).trans hfr
  have hfv : memoriesOk fv.2 = memoriesOk s := (memoriesOk_freshTransmit ..).trans hs2
  clear_value leaf v pass2 s1 fr base go ports iz js sent toKeeper s2 kp w fv
  repeat' apply memoriesOk_if
  all_goals try split
  all_goals simp only [hgo, hfr, hs2, hfv, memoriesOk_refuse, memoriesOk_dropFrame]

@[simp] theorem memoriesOk_setFrags (l : List Frag) (s : State) : memoriesOk (setFrags l s) = memoriesOk s := by rfl

@[simp] theorem memoriesOk_updFrag (slot : Nat) (u : Frag → Frag) (s : State) : memoriesOk (updFrag slot u s) = memoriesOk s := by rfl

@[simp] theorem memoriesOk_startWalks (s : State) : memoriesOk (startWalks s) = memoriesOk s :=
  memoriesOk_forEach _ (fun f t => by split <;> simp) s

@[simp] theorem memoriesOk_reenterHeld (leaf hash : Nat) (hs : List Held) (s : State) :
    memoriesOk (reenterHeld leaf hash hs s) = memoriesOk s := by simp [reenterHeld]

@[simp] theorem memoriesOk_firstFragment (f : Frame) (leaf : Nat) (s : State) : memoriesOk (firstFragment f leaf s) = memoriesOk s := by
  simp only [firstFragment]
  (repeat' split) <;> simp

@[simp] theorem memoriesOk_holdFragment (f : Frame) (slot n : Nat) (s : State) : memoriesOk (holdFragment f slot n s) = memoriesOk s := by simp [holdFragment]

@[simp] theorem memoriesOk_laterFragment (f : Frame) (late : Bool) (s : State) : memoriesOk (laterFragment f late s) = memoriesOk s := by
  simp only [laterFragment]
  (repeat' split) <;> simp

@[simp] theorem memoriesOk_endHeld (f : Frame) (good : Bool) (c : Ctr) (inst : Nat) (s : State) : memoriesOk (endHeld f good c inst s) = memoriesOk s := by
  simp only [endHeld]
  split <;> simp

@[simp] theorem memoriesOk_endLookup (f : Frame) (late : Bool) (ecc : Ecc) (s : State) : memoriesOk (endLookup f late ecc s) = memoriesOk s := by
  simp only [endLookup]
  (repeat' split) <;> simp

/-! Frames in -/

@[simp] theorem memoriesOk_closeBad (i : Nat) (c : Ctr) (inst : Nat) (s : State) : memoriesOk (closeBad i c inst s) = memoriesOk s := by
  simp only [closeBad]
  split <;> simp

@[simp] theorem memoriesOk_closeGood (i : Nat) (s : State) : memoriesOk (closeGood i s) = memoriesOk s := by
  simp only [closeGood]
  split <;> simp

@[simp] theorem memoriesOk_keyComplete (i : Nat) (k : PKey) (depth : Bool) (s : State) : memoriesOk (keyComplete i k depth s) = memoriesOk s := by
  simp only [keyComplete]
  (repeat' split) <;> simp

@[simp] theorem memoriesOk_parseMore (i : Nat) (s : State) : memoriesOk (parseMore i s) = memoriesOk s := by
  simp only [parseMore]
  (repeat' split) <;> simp

@[simp] theorem memoriesOk_takeBytes (p keyPort : Nat) (ek : EdgeKind) (second : Option Second) (epoch : Option Nat) (bs : List Byte) (s : State) :
    memoriesOk (takeBytes p keyPort ek second epoch bs s).2 = memoriesOk s := by
  simp only [takeBytes]
  split <;> simp

@[simp] theorem memoriesOk_settleBytes (i : Nat) (s : State) : memoriesOk (settleBytes i s) = memoriesOk s := by
  simp only [settleBytes]
  split <;> simp

@[simp] theorem memoriesOk_enterWhole (p keyPort : Nat) (ek : EdgeKind) (second : Option Second) (epoch : Option Nat) (stamp : Nat) (bs : List Byte) (s : State) :
    memoriesOk (enterWhole p keyPort ek second epoch stamp bs s) = memoriesOk s := by simp [enterWhole]

@[simp] theorem memoriesOk_countEnd (p len : Nat) (fin : FrameEnd) (s : State) : memoriesOk (countEnd p len fin s) = memoriesOk s := by
  simp only [countEnd]
  split <;> simp

@[simp] theorem memoriesOk_endAtPort (p i len : Nat) (fin : FrameEnd) (s : State) : memoriesOk (endAtPort p i len fin s) = memoriesOk s := by
  simp only [endAtPort]
  (repeat' split) <;> simp

@[simp] theorem memoriesOk_swallow (p i : Nat) (mac : Bool) (got : Nat) (s : State) : memoriesOk (swallow p i mac got s) = memoriesOk s := by
  simp only [swallow]
  split <;> simp

@[simp] theorem memoriesOk_receiveBytes (p : Nat) (bs : List Byte) (fin : FrameEnd) (s : State) : memoriesOk (receiveBytes p bs fin s) = memoriesOk s := by
  simp only [receiveBytes]
  (repeat' split) <;> simp

@[simp] theorem memoriesOk_spoilFrame (p : Nat) (s : State) : memoriesOk (spoilFrame p s) = memoriesOk s := by
  simp only [spoilFrame]
  split <;> simp

@[simp] theorem memoriesOk_receiveSpoiled (p : Nat) (fin : FrameEnd) (s : State) : memoriesOk (receiveSpoiled p fin s) = memoriesOk s := by
  simp only [receiveSpoiled]
  split <;> simp

@[simp] theorem memoriesOk_receiveAt (p : Nat) (bs : List Byte) (fin : FrameEnd) (s : State) : memoriesOk (receiveAt p bs fin s) = memoriesOk s := by
  simp only [receiveAt]
  (repeat' split) <;> simp

@[simp] theorem memoriesOk_noteRefused (q p : Nat) (s : State) : memoriesOk (noteRefused q p s) = memoriesOk s := by simp [noteRefused]

@[simp] theorem memoriesOk_noteArrival (q p : Nat) (s : State) : memoriesOk (noteArrival q p s) = memoriesOk s := by simp [noteArrival]

@[simp] theorem memoriesOk_headDropLoop (q n : Nat) (s : State) : memoriesOk (headDropLoop q n s) = memoriesOk s := by
  induction n generalizing s with
  | zero => rfl
  | succ n ih => simp [headDropLoop, ih]

@[simp] theorem memoriesOk_admitTo (q p : Nat) (s : State) : memoriesOk (admitTo q p s).2 = memoriesOk s := by
  simp only [admitTo]
  (repeat' split) <;> simp

theorem memoriesOk_takeLink {l : Nat} {s t : State} (h : takeLink s = some (l, t)) : memoriesOk t = memoriesOk s := by
  simp only [takeLink] at h
  split at h
  · cases h; simp
  · split at h
    · cases h
    · cases h; simp

@[simp] theorem memoriesOk_numberFrame (i : Nat) (s : State) : memoriesOk (numberFrame i s) = memoriesOk s := by
  simp only [numberFrame]
  (repeat' split) <;> simp

@[simp] theorem memoriesOk_giveLinks (qs : List (Nat × Bool)) (s : State) : memoriesOk (giveLinks qs s).2 = memoriesOk s := by
  induction qs generalizing s with
  | nil => rfl
  | cons q qs ih =>
    simp only [giveLinks]
    split
    · simp [ih]
    · next h => simp [ih, memoriesOk_takeLink h]

@[simp] theorem memoriesOk_linkCopies (qs : List (Nat × Bool)) (s : State) : memoriesOk (linkCopies qs s).2 = memoriesOk s := by
  simp only [linkCopies]
  (repeat' split) <;> simp

@[simp] theorem memoriesOk_enqueueCopies (i : Nat) (copies : List ((Nat × Bool) × Option Nat)) (s : State) :
    memoriesOk (enqueueCopies i copies s) = memoriesOk s := by
  simp only [enqueueCopies]
  exact (memoriesOk_forEach _ (fun c t => by split <;> simp) _).trans (memoriesOk_updFrame ..)

@[simp] theorem memoriesOk_admitFrame (f : Frame) (express : Bool) (qs : List (Nat × Bool)) (s : State) : memoriesOk (admitFrame f express qs s) = memoriesOk s := by
  simp only [admitFrame]
  (repeat' split) <;> simp

@[simp] theorem memoriesOk_admitNext (p : Nat) (s : State) : memoriesOk (admitNext p s) = memoriesOk s := by
  unfold admitNext
  split
  · rfl
  · extract_lets fits express s0 r
    have hs0 : memoriesOk s0 = memoriesOk s := memoriesOk_if (memoriesOk_bump ..) rfl
    have hr : memoriesOk r.2 = memoriesOk s := (memoriesOk_foldl_snd _ (fun q x => by dsimp only; split <;> simp) _).trans hs0
    (repeat' split) <;> simp [hr]

@[simp] theorem memoriesOk_completeLookup (p : Nat) (late : Bool) (ecc : Ecc) (s : State) : memoriesOk (completeLookup p late ecc s) = memoriesOk s := by
  simp only [completeLookup]
  split <;> simp

/-! Line code -/

@[simp] theorem memoriesOk_sendFrame (p : Nat) (bytes : List Byte) (bad : Bool) (s : State) :
    memoriesOk (sendFrame p bytes bad s) = memoriesOk s := by simp [sendFrame]

/-! Frames out -/

@[simp] theorem memoriesOk_rgaMatch (base : Nat) (can : Nat → Nat → Bool) (s : State) : memoriesOk (rgaMatch base can s).2 = memoriesOk s := by rfl

@[simp] theorem memoriesOk_syncPlaces (f : Frame) (s : State) : memoriesOk (syncPlaces f s) = memoriesOk s :=
  memoriesOk_forEach _ (fun q t => by dsimp only; split <;> simp) s

@[simp] theorem memoriesOk_storeCell (i bank : Nat) (s : State) : memoriesOk (storeCell i bank s) = memoriesOk s := by
  simp only [storeCell]
  split
  · next hrow => split <;> simp [memoriesOk_takeRow hrow]
  · rfl

@[simp] theorem memoriesOk_expressWrites (s : State) : memoriesOk (expressWrites s).2 = memoriesOk s :=
  memoriesOk_foldl_snd _ (fun p x => by (repeat' split) <;> simp) ([], s)

@[simp] theorem memoriesOk_writeSide (taken : List Nat) (i : Nat) (s : State) : memoriesOk (writeSide taken i s) = memoriesOk s := by
  simp only [writeSide]
  split
  · rfl
  · exact (memoriesOk_forEach _ (fun x t => by (repeat' split) <;> simp) _).trans (memoriesOk_rgaMatch ..)

@[simp] theorem memoriesOk_returnCell (p c : Nat) (s : State) : memoriesOk (returnCell p c s) = memoriesOk s := by
  simp only [returnCell]
  split <;> simp

@[simp] theorem memoriesOk_expressReads (s : State) : memoriesOk (expressReads s).2 = memoriesOk s :=
  memoriesOk_foldl_snd _ (fun p x => by (repeat' split) <;> simp) ([], s)

@[simp] theorem memoriesOk_readSide (taken : List Nat) (b : Nat) (s : State) : memoriesOk (readSide taken b s) = memoriesOk s :=
  (memoriesOk_forEach _ (fun x t => by split <;> simp) _).trans (memoriesOk_rgaMatch ..)

@[simp] theorem memoriesOk_shuttleTurn (s : State) : memoriesOk (shuttleTurn s) = memoriesOk s := by simp [shuttleTurn]

@[simp] theorem memoriesOk_rotate (s : State) : memoriesOk (rotate s) = memoriesOk s := by simp [rotate]

@[simp] theorem memoriesOk_stopCompeting (q ingress : Nat) (s : State) : memoriesOk (stopCompeting q ingress s) = memoriesOk s := by simp [stopCompeting]

@[simp] theorem memoriesOk_markQueue (q : Nat) (s : State) : memoriesOk (markQueue q s) = memoriesOk s := by simp [markQueue]

@[simp] theorem memoriesOk_takeParam (q : Nat) (x : QueueParam) (s : State) : memoriesOk (takeParam q x s) = memoriesOk s := by rfl

@[simp] theorem memoriesOk_boundary (p : Nat) (s : State) : memoriesOk (boundary p s) = memoriesOk s :=
  memoriesOk_forUpTo 8 (fun c t => by (repeat' split) <;> simp) s

@[simp] theorem memoriesOk_endVisit (p c : Nat) (s : State) : memoriesOk (endVisit p c s) = memoriesOk s := by rfl

@[simp] theorem memoriesOk_dwrrTurn (p : Nat) (ok : Nat → Bool) (n : Nat) (s : State) : memoriesOk (dwrrTurn p ok n s).2 = memoriesOk s := by
  induction n generalizing s with
  | zero => rfl
  | succ n ih => simp only [dwrrTurn]; (repeat' split) <;> simp [ih]

@[simp] theorem memoriesOk_selectClass (p : Nat) (allowed : Nat → Bool) (s : State) : memoriesOk (selectClass p allowed s).2 = memoriesOk s := by
  simp only [selectClass]
  (repeat' split) <;> simp

@[simp] theorem memoriesOk_setTx (p : Nat) (t : Option Tx) (s : State) : memoriesOk (setTx p t s) = memoriesOk s := by rfl

@[simp] theorem memoriesOk_setPreempted (p : Nat) (t : Option Tx) (s : State) : memoriesOk (setPreempted p t s) = memoriesOk s := by rfl

@[simp] theorem memoriesOk_startHead (q : Nat) (s : State) : memoriesOk (startHead q s) = memoriesOk s := by
  simp only [startHead]
  split <;> simp

@[simp] theorem memoriesOk_selectAt (p : Nat) (s : State) : memoriesOk (selectAt p s) = memoriesOk s := by
  simp only [selectAt]
  (repeat' split) <;> simp

@[simp] theorem memoriesOk_finishRead (p : Nat) (t : Tx) (s : State) : memoriesOk (finishRead p t s) = memoriesOk s := by
  simp only [finishRead]
  (repeat' split) <;> simp

@[simp] theorem memoriesOk_readCell (p : Nat) (ecc : Ecc) (s : State) : memoriesOk (readCell p ecc s) = memoriesOk s := by
  simp only [readCell]
  (repeat' split) <;> simp

@[simp] theorem memoriesOk_chargeDwrr (q len : Nat) (s : State) : memoriesOk (chargeDwrr q len s) = memoriesOk s := by simp [chargeDwrr]

@[simp] theorem memoriesOk_leaveFrame (t : Tx) (s : State) : memoriesOk (leaveFrame t s) = memoriesOk s := by
  simp only [leaveFrame]
  split <;> simp

@[simp] theorem memoriesOk_emitBad (p : Nat) (bytes : List Byte) (s : State) : memoriesOk (emitBad p bytes s) = memoriesOk s := by simp [emitBad]

@[simp] theorem memoriesOk_endStarted (p : Nat) (t : Tx) (s : State) : memoriesOk (endStarted p t s) = memoriesOk s := by simp [endStarted]

@[simp] theorem memoriesOk_preemptAt (p : Nat) (s : State) : memoriesOk (preemptAt p s) = memoriesOk s := by
  simp only [preemptAt]
  (repeat' split) <;> simp

@[simp] theorem memoriesOk_verifyPreempt (p a : Nat) (s : State) : memoriesOk (verifyPreempt p a s) = memoriesOk s := by simp [verifyPreempt]

@[simp] theorem memoriesOk_unselect (p : Nat) (t : Tx) (s : State) : memoriesOk (unselect p t s) = memoriesOk s := by simp [unselect]

@[simp] theorem memoriesOk_closeGatesAt (p : Nat) (s : State) : memoriesOk (closeGatesAt p s) = memoriesOk s := by
  simp only [closeGatesAt]
  (repeat' split) <;> simp

@[simp] theorem memoriesOk_closeAllGates (s : State) : memoriesOk (closeAllGates s) = memoriesOk s := by simp [closeAllGates]

@[simp] theorem memoriesOk_loseTx (p : Nat) (s : State) : memoriesOk (loseTx p s) = memoriesOk s := by
  simp only [loseTx]
  (repeat' split) <;> simp

end Sys2Proof.Machine
end

section
/-! Proofs/CanonicalEdgeAndKeys: the gateway, the key store, the cipher engine, the epochs and the image copies write none of the ring and descriptor memories. -/

namespace Sys2Proof.Machine
open Sys2Proof.Claims

/-! Gateway, CAN, LIN -/

@[simp] theorem memoriesOk_setCan (ch : Nat) (c : CanChan) (s : State) : memoriesOk (setCan ch c s) = memoriesOk s := by rfl

@[simp] theorem memoriesOk_setLin (ch : Nat) (c : LinChan) (s : State) : memoriesOk (setLin ch c s) = memoriesOk s := by rfl

@[simp] theorem memoriesOk_enterMessage (ek : EdgeKind) (stamp : Nat) (bs : List Byte) (s : State) :
    memoriesOk (enterMessage ek stamp bs s) = memoriesOk s := by simp [enterMessage]

@[simp] theorem memoriesOk_setTxq (ch : Nat) (q : List TxMsg) (s : State) : memoriesOk (setTxq ch q s) = memoriesOk s := by rfl

@[simp] theorem memoriesOk_limitTxq (ch : Nat) (q : List TxMsg) (s : State) : memoriesOk (limitTxq ch q s) = memoriesOk s := by simp [limitTxq]

@[simp] theorem memoriesOk_enqueueTx (ch : Nat) (t : TxMsg) (s : State) : memoriesOk (enqueueTx ch t s) = memoriesOk s := by simp [enqueueTx]

@[simp] theorem memoriesOk_setHanded (ch : Nat) (l : List Handed) (s : State) : memoriesOk (setHanded ch l s) = memoriesOk s := by rfl

@[simp] theorem memoriesOk_writeSlot (ch slot : Nat) (m : CanMsg) (s : State) : memoriesOk (writeSlot ch slot m s) = memoriesOk s := by simp [writeSlot]

@[simp] theorem memoriesOk_fireSlot (ch slot : Nat) (repeating : Bool) (s : State) : memoriesOk (fireSlot ch slot repeating s) = memoriesOk s := by
  simp only [fireSlot]
  split <;> simp

@[simp] theorem memoriesOk_forwardCopy (t : EpochTables) (r : BitVec 128) (ek : EdgeKind) (bs : List Byte) (s : State) :
    memoriesOk (forwardCopy t r ek bs s) = memoriesOk s := by
  simp only [forwardCopy]
  (repeat' split) <;> simp

@[simp] theorem memoriesOk_sendContainer (epoch c : Nat) (s : State) : memoriesOk (sendContainer epoch c s) = memoriesOk s := by simp [sendContainer]

@[simp] theorem memoriesOk_encapCopy (t : EpochTables) (r : BitVec 128) (ek : EdgeKind) (stamp : Nat) (bs : List Byte) (s : State) :
    memoriesOk (encapCopy t r ek stamp bs s) = memoriesOk s := by
  simp only [encapCopy]
  split <;> simp

@[simp] theorem memoriesOk_runChain (t : EpochTables) (route : Nat) (ek : EdgeKind) (stamp : Nat) (bs : List Byte) (s : State) :
    memoriesOk (runChain t route ek stamp bs s) = memoriesOk s :=
  memoriesOk_forEach _ (fun e x => by split <;> simp) s

@[simp] theorem memoriesOk_deliverRecord (t : EpochTables) (iz target : Nat) (r : AcfRec) (s : State) :
    memoriesOk (deliverRecord t iz target r s) = memoriesOk s := by simp [deliverRecord]

@[simp] theorem memoriesOk_decapFrame (t : EpochTables) (it : EdgeItem) (s : State) : memoriesOk (decapFrame t it s) = memoriesOk s := by
  unfold decapFrame
  extract_lets d b o sub hl dl first cnt
  repeat' apply memoriesOk_if
  · simp
  · simp
  split
  · simp
  repeat' apply memoriesOk_if
  · simp
  · simp
  · exact memoriesOk_forEach _ (fun r x => memoriesOk_if (memoriesOk_bump ..) (by split <;> simp)) s

@[simp] theorem memoriesOk_drainFifos (n : Nat) (s : State) : memoriesOk (drainFifos n s) = memoriesOk s := by
  induction n generalizing s with
  | zero => rfl
  | succ n ih => simp only [drainFifos]; (repeat' split) <;> simp [ih]

@[simp] theorem memoriesOk_gatewayDeliver (s : State) : memoriesOk (gatewayDeliver s) = memoriesOk s := by
  simp only [gatewayDeliver]
  split
  · simp
  · rw [memoriesOk_drainFifos]
    (repeat' split) <;> simp

@[simp] theorem memoriesOk_flushContainer (c : Nat) (s : State) : memoriesOk (flushContainer c s) = memoriesOk s := by simp [flushContainer]

@[simp] theorem memoriesOk_canTimeout (ch : Nat) (s : State) : memoriesOk (canTimeout ch s) = memoriesOk s := by simp [canTimeout]

@[simp] theorem memoriesOk_driveTransceiver (ch : Nat) (stb en : Bool) (s : State) :
    memoriesOk (driveTransceiver ch stb en s) = memoriesOk s := by simp [driveTransceiver]

@[simp] theorem memoriesOk_setTransceiver (ch : Nat) (s : State) : memoriesOk (setTransceiver ch s) = memoriesOk s := by simp [setTransceiver]

@[simp] theorem memoriesOk_requeueSending (ch : Nat) (s : State) : memoriesOk (requeueSending ch s) = memoriesOk s := by
  simp only [requeueSending]
  split <;> simp

@[simp] theorem memoriesOk_noteErrState (ch old : Nat) (s : State) : memoriesOk (noteErrState ch old s) = memoriesOk s := by simp [noteErrState]

@[simp] theorem memoriesOk_nextCandidate (ch : Nat) (s : State) : memoriesOk (nextCandidate ch s) = memoriesOk s := by simp [nextCandidate]

@[simp] theorem memoriesOk_confirmRate (ch : Nat) (s : State) : memoriesOk (confirmRate ch s) = memoriesOk s := by simp [confirmRate]

@[simp] theorem memoriesOk_canReceive (ch ago : Nat) (m : CanMsg) (s : State) : memoriesOk (canReceive ch ago m s) = memoriesOk s := by
  unfold canReceive
  extract_lets c₀ c last r proto can old d listening c1 s1 s2 c₂ s3 c3 c4 s5 s4
  have hs1 : memoriesOk s1 = memoriesOk s := memoriesOk_if (memoriesOk_drawBelow ..) rfl
  have hs2 : memoriesOk s2 = memoriesOk s := by simp [s2, hs1]
  have hs3 : memoriesOk s3 = memoriesOk s := memoriesOk_if (by simp [hs2]) (by simp [hs2])
  have hs4 : memoriesOk s4 = memoriesOk s := memoriesOk_if (memoriesOk_if (by simp [s5, hs3]) (by simp [s5, hs3])) hs3
  exact memoriesOk_if rfl (memoriesOk_if (memoriesOk_bump ..) ((memoriesOk_drainFifos ..).trans hs4))

@[simp] theorem memoriesOk_canIdle (ch : Nat) (s0 : State) : memoriesOk (canIdle ch s0) = memoriesOk s0 := by
  simp only [canIdle]
  (repeat' split) <;> simp

@[simp] theorem memoriesOk_canTxEnd (ch : Nat) (r : TxResult) (s : State) : memoriesOk (canTxEnd ch r s) = memoriesOk s := by
  simp only [canTxEnd]
  (repeat' split) <;> simp

@[simp] theorem memoriesOk_canError (ch : Nat) (e : CanErr) (dataPhase transmitter : Bool) (s : State) :
    memoriesOk (canError ch e dataPhase transmitter s) = memoriesOk s := by simp [canError]

@[simp] theorem memoriesOk_canRecovered (ch : Nat) (s : State) : memoriesOk (canRecovered ch s) = memoriesOk s := by simp [canRecovered]

@[simp] theorem memoriesOk_canIntegrated (ch : Nat) (s : State) : memoriesOk (canIntegrated ch s) = memoriesOk s := by simp [canIntegrated]

@[simp] theorem memoriesOk_canDwell (ch : Nat) (s : State) : memoriesOk (canDwell ch s) = memoriesOk s := by simp [canDwell]

@[simp] theorem memoriesOk_applyCanRecord (ch : Nat) (r : BitVec 128) (s : State) : memoriesOk (applyCanRecord ch r s) = memoriesOk s := by simp [applyCanRecord]

@[simp] theorem memoriesOk_linCompleted (ch f : Nat) (enhanced : Bool) (data : List Byte) (s : State) :
    memoriesOk (linCompleted ch f enhanced data s) = memoriesOk s := by simp [linCompleted]

@[simp] theorem memoriesOk_linAnswer (ch f : Nat) (pid : Byte) (readbackFail : Bool) (ahead stamp : Nat) (s : State) :
    memoriesOk (linAnswer ch f pid readbackFail ahead stamp s) = memoriesOk s := by simp [linAnswer]

@[simp] theorem memoriesOk_emitHeader (ch f : Nat) (s : State) : memoriesOk (emitHeader ch f s) = memoriesOk s := by simp [emitHeader]

@[simp] theorem memoriesOk_sendHeader (ch f : Nat) (s : State) : memoriesOk (sendHeader ch f s) = memoriesOk s := by simp [sendHeader]

@[simp] theorem memoriesOk_linSlot (ch : Nat) (s : State) : memoriesOk (linSlot ch s) = memoriesOk s := by
  simp only [linSlot]
  (repeat' split) <;> simp

@[simp] theorem memoriesOk_linHeader (ch bitrate : Nat) (pid : Byte) (readbackFail : Bool) (s : State) :
    memoriesOk (linHeader ch bitrate pid readbackFail s) = memoriesOk s := by simp [linHeader]

@[simp] theorem memoriesOk_linReadBack (ch : Nat) (bytes : List Byte) (s : State) : memoriesOk (linReadBack ch bytes s) = memoriesOk s := by
  simp only [linReadBack]
  split <;> simp

@[simp] theorem memoriesOk_linResponse (ch : Nat) (data : List Byte) (checksum : Byte) (badStop : Bool) (s : State) :
    memoriesOk (linResponse ch data checksum badStop s) = memoriesOk s := by
  simp only [linResponse]
  split <;> simp

@[simp] theorem memoriesOk_linTimeout (ch got : Nat) (s : State) : memoriesOk (linTimeout ch got s) = memoriesOk s := by
  simp only [linTimeout]
  split <;> simp

@[simp] theorem memoriesOk_keeperTx (ch : Nat) (m : CanMsg) (s : State) : memoriesOk (keeperTx ch m s) = memoriesOk s := by simp [keeperTx]

@[simp] theorem memoriesOk_isoSend (d : IsoDef) (implement : Bool) (m : CanMsg) (s : State) :
    memoriesOk (isoSend d implement m s) = memoriesOk s := by simp [isoSend]

@[simp] theorem memoriesOk_addressClaim (ch : Nat) (m : CanMsg) (s : State) : memoriesOk (addressClaim ch m s) = memoriesOk s := by
  simp only [addressClaim]
  split
  · rfl
  split
  · (repeat' split) <;> simp
  split
  · exact memoriesOk_forUpTo _ (fun a t => by (repeat' split) <;> simp) s
  · rfl

@[simp] theorem memoriesOk_isoLinkLost (link : Nat) (s : State) : memoriesOk (isoLinkLost link s) = memoriesOk s :=
  memoriesOk_forEach _ (fun e t => memoriesOk_if (memoriesOk_forUpTo _ (fun a x => by (repeat' split) <;> simp) t) rfl) s

@[simp] theorem memoriesOk_isoClaimSide (n : Nat) (d : IsoDef) (implement : Bool) (s : State) :
    memoriesOk (isoClaimSide n d implement s) = memoriesOk s := by simp [isoClaimSide]

@[simp] theorem memoriesOk_isoClaimOwn (n : Nat) (d : IsoDef) (s : State) : memoriesOk (isoClaimOwn n d s) = memoriesOk s := by simp [isoClaimOwn]

@[simp] theorem memoriesOk_isoLinkUp (link : Nat) (s : State) : memoriesOk (isoLinkUp link s) = memoriesOk s := by simp [isoLinkUp]

@[simp] theorem memoriesOk_isoNetwork (ch : Nat) (s : State) : memoriesOk (isoNetwork ch s) = memoriesOk s := by
  simp only [isoNetwork]
  split <;> simp

/-! Key store -/

@[simp] theorem memoriesOk_setSlot (n : Nat) (v : SlotSt) (s : State) : memoriesOk (setSlot n v s) = memoriesOk s := by rfl

@[simp] theorem memoriesOk_checkUse (n : Nat) (gen : Option Nat) (m : Master) (w : World) (u : KeyUse) (s : State) :
    memoriesOk (checkUse n gen m w u s).2 = memoriesOk s := by
  simp only [checkUse]
  (repeat' split) <;> simp

@[simp] theorem memoriesOk_drawBytes (n : Nat) (s : State) : memoriesOk (drawBytes n s).2 = memoriesOk s := by
  induction n generalizing s with
  | zero => rfl
  | succ n ih => simp [drawBytes, ih]

@[simp] theorem memoriesOk_fetchKey (n : Nat) (gen : Option Nat) (m : Master) (w : World) (u : KeyUse) (s : State) :
    memoriesOk (fetchKey n gen m w u s).2 = memoriesOk s := by
  have hc := memoriesOk_checkUse n gen m w u s
  unfold fetchKey
  split
  · next e t h => rw [h] at hc; exact hc
  · next t h => rw [h] at hc; exact (memoriesOk_drawBytes ..).trans hc

theorem memoriesOk_of_fetchKey {n : Nat} {gen : Option Nat} {m : Master} {w : World} {u : KeyUse} {r : Except Status Shares} {s t : State} (h : fetchKey n gen m w u s = (r, t)) :
    memoriesOk t = memoriesOk s :=
  (congrArg (fun x => memoriesOk x.2) h).symm.trans (memoriesOk_fetchKey ..)

theorem memoriesOk_updateSlot {n : Nat} {new : Option (List Byte × BitVec 128)} {s t : State} (h : updateSlot n new s = some t) : memoriesOk t = memoriesOk s := by
  simp only [updateSlot] at h
  split at h
  · cases h
  · cases h; simp

@[simp] theorem memoriesOk_commitSlot (n : Nat) (new : Option (List Byte × BitVec 128)) (s : State) : memoriesOk (commitSlot n new s).st = memoriesOk s := by
  simp only [commitSlot]
  split
  · simp
  · next t h => split <;> simp [memoriesOk_updateSlot h]

@[simp] theorem memoriesOk_recoverSlot (n : Nat) (s : State) : memoriesOk (recoverSlot n s) = memoriesOk s := by
  simp only [recoverSlot]
  split <;> simp

@[simp] theorem memoriesOk_recoverSlots (s : State) : memoriesOk (recoverSlots s) = memoriesOk s := by simp [recoverSlots]

@[simp] theorem memoriesOk_wrapKey (w : Nat) (v : Via) (s : State) : memoriesOk (wrapKey w v s).2 = memoriesOk s := by
  simp only [wrapKey]
  split
  · split
    · next h => exact memoriesOk_of_fetchKey h
    · next h => exact memoriesOk_of_fetchKey h
  · (repeat' split) <;> rfl

@[simp] theorem memoriesOk_importKey (target wrap : Nat) (attr blob : List Byte) (v : Via) (s : State) :
    memoriesOk (importKey target wrap attr blob v s).st = memoriesOk s := by
  have hw := memoriesOk_wrapKey wrap v s
  unfold importKey
  extract_lets a root
  repeat' apply memoriesOk_st_if
  iterate 4 simp
  split
  · next h => rw [h] at hw; simpa using hw
  · next h =>
    rw [h] at hw
    split
    · simpa using hw
    · split <;> simpa using hw

@[simp] theorem memoriesOk_generateKey (slot : Nat) (attr : List Byte) (s : State) : memoriesOk (generateKey slot attr s).st = memoriesOk s := by
  simp only [generateKey]
  split <;> simp

@[simp] theorem memoriesOk_deriveKey (slot : Nat) (attr : List Byte) (v : Via) (s : State) : memoriesOk (deriveKey slot attr v s).st = memoriesOk s := by
  simp only [deriveKey]
  split
  · simp
  split
  · split <;> simp
  split
  · simp
  split
  · next h => simp [memoriesOk_of_fetchKey h]
  · next h => simp [memoriesOk_of_fetchKey h]

@[simp] theorem memoriesOk_destroyKey (slot : Nat) (s : State) : memoriesOk (destroyKey slot s).st = memoriesOk s := by
  simp only [destroyKey]
  split <;> simp

@[simp] theorem memoriesOk_lcChallenge (s : State) : memoriesOk (lcChallenge s).st = memoriesOk s := by
  simp only [lcChallenge]
  split
  · simp
  · exact memoriesOk_drawBytes 32 s

@[simp] theorem memoriesOk_lcNonceExpire (s : State) : memoriesOk (lcNonceExpire s) = memoriesOk s := by
  simp only [lcNonceExpire]
  split <;> simp

@[simp] theorem memoriesOk_destroySlot (n : Nat) (s : State) : memoriesOk (destroySlot n s) = memoriesOk s := by
  simp only [destroySlot]
  split
  · next h => exact memoriesOk_updateSlot h
  · simp

@[simp] theorem memoriesOk_lcDestroy (row : LcRow) (s : State) : memoriesOk (lcDestroy row s) = memoriesOk s := by simp [lcDestroy]

@[simp] theorem memoriesOk_resetSeqs (s : State) : memoriesOk (resetSeqs s) = memoriesOk s := by rfl

@[simp] theorem memoriesOk_burnLog (i : Nat) (e : BitVec 8) (s : State) : memoriesOk (burnLog i e s) = memoriesOk s := by rfl

@[simp] theorem memoriesOk_closeDebug (s : State) : memoriesOk (closeDebug s) = memoriesOk s := by simp [closeDebug]

@[simp] theorem memoriesOk_lcRun (row : LcRow) (cur target : Nat) (s : State) : memoriesOk (lcRun row cur target s) = memoriesOk s := by simp [lcRun]

@[simp] theorem memoriesOk_lcTransition (target : Nat) (token : List Byte) (s : State) : memoriesOk (lcTransition target token s).st = memoriesOk s := by
  simp only [lcTransition]
  (repeat' split) <;> simp

@[simp] theorem memoriesOk_lcRedo (s : State) : memoriesOk (lcRedo s) = memoriesOk s := by
  simp only [lcRedo]
  (repeat' split) <;> simp

@[simp] theorem memoriesOk_rngFail (s : State) : memoriesOk (rngFail s) = memoriesOk s := by simp [rngFail]

/-! Cipher engine -/

@[simp] theorem memoriesOk_setCtx (c : Nat) (v : Ctx) (s : State) : memoriesOk (setCtx c v s) = memoriesOk s := by rfl

@[simp] theorem memoriesOk_setSa (i : Nat) (v : BitVec 256) (s : State) : memoriesOk (setSa i v s) = memoriesOk s := by rfl

@[simp] theorem memoriesOk_keyDrop (c : Nat) (e : Status) (s : State) : memoriesOk (keyDrop c e s) = memoriesOk s := by
  simp only [keyDrop]
  split <;> simp

@[simp] theorem memoriesOk_toPipe (p : Nat) (o : BodOut) (s : State) : memoriesOk (toPipe p o s) = memoriesOk s := by rfl

@[simp] theorem memoriesOk_macsecTx (c : Nat) (it : BodItem) (s : State) : memoriesOk (macsecTx c it s) = memoriesOk s := by
  unfold macsecTx
  extract_lets r an i sa pn last grow
  repeat' apply memoriesOk_if
  iterate 3 simp
  split
  · next h => simp [memoriesOk_of_fetchKey h]
  · next h => simp [memoriesOk_of_fetchKey h]

@[simp] theorem memoriesOk_macsecRx (c : Nat) (it : BodItem) (s : State) : memoriesOk (macsecRx c it s) = memoriesOk s := by
  simp only [macsecRx]
  split
  · simp
  split
  · split <;> simp
  split
  · simp
  split
  · simp
  split
  · next h => simp [memoriesOk_of_fetchKey h]
  · next h => (repeat' split) <;> simp [memoriesOk_of_fetchKey h]

theorem memoriesOk_countUse {c : Nat} {s t : State} (h : countUse c s = some t) : memoriesOk t = memoriesOk s := by
  simp only [countUse] at h
  split at h
  · cases h
  · cases h; split <;> simp

@[simp] theorem memoriesOk_limitDrop (c : Nat) (s : State) : memoriesOk (limitDrop c s) = memoriesOk s := by rfl

@[simp] theorem memoriesOk_canTx (c : Nat) (it : BodItem) (s : State) : memoriesOk (canTx c it s) = memoriesOk s := by
  simp only [canTx]
  split
  · simp
  split
  · simp
  split
  · next h => simp [memoriesOk_of_fetchKey h]
  · next h =>
    split
    · simp [memoriesOk_of_fetchKey h]
    · next hu => simp [memoriesOk_countUse hu, memoriesOk_of_fetchKey h]

@[simp] theorem memoriesOk_canRx (c : Nat) (it : BodItem) (s : State) : memoriesOk (canRx c it s) = memoriesOk s := by
  simp only [canRx]
  split
  · simp
  split
  · next h => simp [memoriesOk_of_fetchKey h]
  · next h =>
    split
    · simp [memoriesOk_of_fetchKey h]
    · next hu => simp [memoriesOk_countUse hu, memoriesOk_of_fetchKey h]

@[simp] theorem memoriesOk_pipelineEnter (s : State) : memoriesOk (pipelineEnter s) = memoriesOk s := by
  simp only [pipelineEnter]
  (repeat' split) <;> simp

@[simp] theorem memoriesOk_enterDirect (o : BodOut) (outs : List Nat) (s : State) : memoriesOk (enterDirect o outs s) = memoriesOk s := by simp [enterDirect]

@[simp] theorem memoriesOk_leavePipe (p : Nat) (s : State) : memoriesOk (leavePipe p s) = memoriesOk s := by
  simp only [leavePipe]
  (repeat' split) <;> simp

@[simp] theorem memoriesOk_hmacOp (key len : Nat) (msg : List Byte) (m : Master) (w : World) (s : State) :
    memoriesOk (hmacOp key len msg m w s).st = memoriesOk s := by
  simp only [hmacOp]
  split
  · simp
  split
  · split <;> simp
  split
  · simp
  split
  · next h => simp [memoriesOk_of_fetchKey h]
  · next h => simp [memoriesOk_of_fetchKey h]

@[simp] theorem memoriesOk_cmacOp (slot tag : Nat) (msg : List Byte) (m : Master) (w : World) (s : State) :
    memoriesOk (cmacOp slot tag msg m w s).st = memoriesOk s := by
  simp only [cmacOp]
  split
  · simp
  split
  · simp
  split
  · next h => simp [memoriesOk_of_fetchKey h]
  · next h => simp [memoriesOk_of_fetchKey h]

@[simp] theorem memoriesOk_sealOp (slot tag : Nat) (aad text : List Byte) (m : Master) (w : World) (s : State) :
    memoriesOk (sealOp slot tag aad text m w s).st = memoriesOk s := by
  simp only [sealOp]
  split
  · simp
  split
  · simp
  split
  · next h => simp [memoriesOk_of_fetchKey h]
  · next h => split <;> simp [memoriesOk_of_fetchKey h]

@[simp] theorem memoriesOk_openOp (slot tag : Nat) (iv aad text t_ : List Byte) (m : Master) (w : World) (s : State) :
    memoriesOk (openOp slot tag iv aad text t_ m w s).st = memoriesOk s := by
  simp only [openOp]
  split
  · simp
  split
  · simp
  split
  · next h => simp [memoriesOk_of_fetchKey h]
  · next h => split <;> simp [memoriesOk_of_fetchKey h]

@[simp] theorem memoriesOk_computeFor (q : CryptoReq) (s : State) : memoriesOk (computeFor q s) = memoriesOk s := by
  simp only [computeFor]
  split <;> simp

@[simp] theorem memoriesOk_serveAsked (s : State) : memoriesOk (serveAsked s) = memoriesOk s := by simp [serveAsked]

@[simp] theorem memoriesOk_keeperCrypto (q : CryptoReq) (s : State) : memoriesOk (keeperCrypto q s) = memoriesOk s := by simp [keeperCrypto]

@[simp] theorem memoriesOk_pipelineExit (p : Nat) (s : State) : memoriesOk (pipelineExit p s) = memoriesOk s := by simp [pipelineExit]

@[simp] theorem memoriesOk_keyFetch (slot gen : Nat) (m : Master) (w : World) (u : KeyUse) (s : State) : memoriesOk (keyFetch slot gen m w u s) = memoriesOk s := by
  simp only [keyFetch]
  split
  · next h => simp [memoriesOk_of_fetchKey h]
  · next h => simp [memoriesOk_of_fetchKey h]

@[simp] theorem memoriesOk_softCan (c : Nat) (s : State) : memoriesOk (softCan c s) = memoriesOk s := by simp [softCan]

@[simp] theorem memoriesOk_softSa (c an : Nat) (s : State) : memoriesOk (softSa c an s) = memoriesOk s := by simp [softSa]

@[simp] theorem memoriesOk_ctxWrite (c : Nat) (r : BitVec 256) (v : Via) (s : State) : memoriesOk (ctxWrite c r v s).st = memoriesOk s := by
  simp only [ctxWrite]
  (repeat' split) <;> simp

@[simp] theorem memoriesOk_saWrite (c an : Nat) (e : BitVec 256) (s : State) : memoriesOk (saWrite c an e s).st = memoriesOk s := by
  simp only [saWrite]
  (repeat' split) <;> simp

@[simp] theorem memoriesOk_bodModeSet (m : Nat) (s : State) : memoriesOk (bodModeSet m s).st = memoriesOk s := by
  simp only [bodModeSet]
  (repeat' split) <;> simp

/-! Epoch loads -/

@[simp] theorem memoriesOk_setPat (p : Pattern) (s : State) : memoriesOk (setPat p s) = memoriesOk s := by rfl

@[simp] theorem memoriesOk_flushSlots (t : EpochTables) (s : State) : memoriesOk (flushSlots t s) = memoriesOk s := by simp [flushSlots]

@[simp] theorem memoriesOk_linSwap (s : State) : memoriesOk (linSwap s) = memoriesOk s :=
  memoriesOk_forUpTo 8 (fun _ _ => memoriesOk_setLin ..) s

@[simp] theorem memoriesOk_installEpoch (t : EpochTables) (s : State) : memoriesOk (installEpoch t s) = memoriesOk s := by simp [installEpoch]

@[simp] theorem memoriesOk_freeEpoch (s : State) : memoriesOk (freeEpoch s) = memoriesOk s := by
  simp only [freeEpoch]
  split <;> simp

@[simp] theorem memoriesOk_zoneSwapNow (t : EpochTables) (s : State) : memoriesOk (zoneSwapNow t s) = memoriesOk s := by rfl

@[simp] theorem memoriesOk_applyZones (s : State) : memoriesOk (applyZones s) = memoriesOk s := by
  simp only [applyZones]
  split <;> simp

@[simp] theorem memoriesOk_decideZone (entry zone : Nat) (s : State) : memoriesOk (decideZone entry zone s) = memoriesOk s := by rfl

@[simp] theorem memoriesOk_retryZones (s : State) : memoriesOk (retryZones s) = memoriesOk s := by simp [retryZones]

/-! Epoch swaps -/

@[simp] theorem memoriesOk_writePending (u : EpochTables → EpochTables) (s : State) : memoriesOk (writePending u s) = memoriesOk s := by rfl

@[simp] theorem memoriesOk_loadNodes (first n : Nat) (bs : List Byte) (s : State) : memoriesOk (loadNodes first n bs s) = memoriesOk s := by simp [loadNodes]

@[simp] theorem memoriesOk_nameFault (t : EpochTables) (s : State) : memoriesOk (nameFault t s) = memoriesOk s := by
  simp only [nameFault]
  split <;> simp

@[simp] theorem memoriesOk_swapIn (number : Nat) (t : EpochTables) (s : State) : memoriesOk (swapIn number t s) = memoriesOk s := by simp [swapIn]

@[simp] theorem memoriesOk_swapTo (number : Nat) (mayName : Bool) (s0 : State) : memoriesOk (swapTo number mayName s0).st = memoriesOk s0 := by
  simp only [swapTo]
  (repeat' split) <;> simp

@[simp] theorem memoriesOk_epochSwap (number : Nat) (s : State) : memoriesOk (epochSwap number s).st = memoriesOk s := by simp [epochSwap]

@[simp] theorem memoriesOk_epochDiscard (s : State) : memoriesOk (epochDiscard s) = memoriesOk s := by rfl

/-! Image copies -/

@[simp] theorem memoriesOk_setBank (b : Nat) (x : Bank) (s : State) : memoriesOk (setBank b x s) = memoriesOk s := by rfl

@[simp] theorem memoriesOk_writeBank (off : Nat) (bs : List Byte) (s : State) : memoriesOk (writeBank off bs s) = memoriesOk s := by rfl

@[simp] theorem memoriesOk_writeImage (rs : List ImageRec) (s : State) : memoriesOk (writeImage rs s) = memoriesOk s := by rfl

@[simp] theorem memoriesOk_configSave (s : State) : memoriesOk (configSave s).st = memoriesOk s := by
  simp only [configSave]
  split <;> simp

end Sys2Proof.Machine
end

section
/-! Proofs/CanonicalPlacket: the Placket writes the ring and descriptor memories through its four writers alone, each of which keeps the canonical form. -/

namespace Sys2Proof.Machine
open Sys2Proof.Claims

@[simp] theorem memoriesOk_setPlk (p : Placket) (s : State) : memoriesOk (setPlk p s) = (p.ringMem.wf && p.descMem.wf) := rfl

@[simp] theorem memoriesOk_setCause (v : Nat) (s : State) : memoriesOk (setCause v s) = memoriesOk s := by simp [setCause]

@[simp] theorem memoriesOk_sideCause (v : Nat) (s : State) : memoriesOk (sideCause v s) = memoriesOk s := by rfl

@[simp] theorem memoriesOk_logError (e : ErrEntry) (s : State) : memoriesOk (logError e s) = memoriesOk s := by simp [logError]

@[simp] theorem memoriesOk_logInbound (reason : Nat) (bar2 : Bool) (off len : Nat) (s : State) :
    memoriesOk (logInbound reason bar2 off len s) = memoriesOk s := by simp [logInbound]

@[simp] theorem memoriesOk_refusedReg (off : Nat) (s : State) : memoriesOk (refusedReg off s) = memoriesOk s := by simp [refusedReg]

@[simp] theorem memoriesOk_postedWrite (ring window addr : Nat) (bs : List Byte) (poisoned : Bool) (s : State) :
    memoriesOk (postedWrite ring window addr bs poisoned s) = memoriesOk s := by
  simp only [postedWrite]
  split <;> simp

@[simp] theorem memoriesOk_sendMsix (v : Nat) (s : State) : memoriesOk (sendMsix v s) = memoriesOk s := by
  simp only [sendMsix]
  (repeat' split) <;> simp

@[simp] theorem memoriesOk_writeMsix (i : Nat) (w : BitVec 32) (s : State) : memoriesOk (writeMsix i w s) = memoriesOk s := by simp [writeMsix]

@[simp] theorem memoriesOk_pollCauses (s : State) : memoriesOk (pollCauses s) = memoriesOk s := by simp [pollCauses]

@[simp] theorem memoriesOk_clearCauses (v : BitVec 32) (s : State) : memoriesOk (clearCauses v s) = memoriesOk s := by rfl

@[simp] theorem memoriesOk_writeEnable (v : BitVec 32) (s : State) : memoriesOk (writeEnable v s) = memoriesOk s := by rfl

@[simp] theorem memoriesOk_writePeriod (v : BitVec 32) (s : State) : memoriesOk (writePeriod v s) = memoriesOk s := by simp [writePeriod]

@[simp] theorem memoriesOk_clearStopped (v : BitVec 32) (s : State) : memoriesOk (clearStopped v s) = memoriesOk s := by rfl

@[simp] theorem memoriesOk_setPair (c : Nat) (p : MbPair) (s : State) : memoriesOk (setPair c p s) = memoriesOk s := by rfl

@[simp] theorem memoriesOk_ringDoorbell (c : Nat) (v : BitVec 32) (s : State) : memoriesOk (ringDoorbell c v s) = memoriesOk s := by simp [ringDoorbell]

@[simp] theorem memoriesOk_advanceCplCons (c : Nat) (v : BitVec 32) (s : State) : memoriesOk (advanceCplCons c v s) = memoriesOk s := by simp [advanceCplCons]

@[simp] theorem memoriesOk_advanceErrRead (v : BitVec 32) (s : State) : memoriesOk (advanceErrRead v s) = memoriesOk s := by simp [advanceErrRead]

@[simp] theorem memoriesOk_readErrOverflow (s : State) : memoriesOk (readErrOverflow s) = memoriesOk s := by simp [readErrOverflow]

@[simp] theorem memoriesOk_setWindow (w : Nat) (x : Window) (s : State) : memoriesOk (setWindow w x s) = memoriesOk s := by rfl

@[simp] theorem memoriesOk_stageWindow (w k : Nat) (v : BitVec 32) (s : State) : memoriesOk (stageWindow w k v s) = memoriesOk s := by rfl

@[simp] theorem memoriesOk_refuseWindow (w : Nat) (s : State) : memoriesOk (refuseWindow w s) = memoriesOk s := by simp [refuseWindow]

@[simp] theorem memoriesOk_setRing (r : Nat) (x : DmaRing) (s : State) : memoriesOk (setRing r x s) = memoriesOk s := by rfl

@[simp] theorem memoriesOk_completeDesc (r : Nat) (d : BitVec 256) (status : Nat) {s : State} (hs : memoriesOk s = true) :
    memoriesOk (completeDesc r d status s) = true := by
  simp [completeDesc, memoriesOk_writeDesc _ _ _ hs]

@[simp] theorem memoriesOk_abortRest (r : Nat) {s : State} (hs : memoriesOk s = true) : memoriesOk (abortRest r s) = true := by
  unfold abortRest
  extract_lets x first n s1 s2 y
  have hs1 : memoriesOk s1 = true := forUpTo_memoriesOk (fun _ _ ht => memoriesOk_writeDesc _ _ _ ht) hs
  have hs2 : memoriesOk s2 = true := memoriesOk_if hs1 ((memoriesOk_setCause ..).trans hs1)
  exact (memoriesOk_setRing ..).trans hs2

@[simp] theorem memoriesOk_writeRingCtrl (r : Nat) (v : BitVec 32) {s : State} (hs : memoriesOk s = true) :
    memoriesOk (writeRingCtrl r v s) = true := by simp [writeRingCtrl, hs]

@[simp] theorem memoriesOk_writeRingProd (r : Nat) (v : BitVec 32) (s : State) : memoriesOk (writeRingProd r v s) = memoriesOk s := by simp [writeRingProd]

@[simp] theorem memoriesOk_updDma (r : Nat) (f : Dma → Dma) (s : State) : memoriesOk (updDma r f s) = memoriesOk s := by rfl

@[simp] theorem memoriesOk_issueOne (r : Nat) (s : State) : memoriesOk (issueOne r s) = memoriesOk s := by
  simp only [issueOne]
  (repeat' split) <;> simp

@[simp] theorem memoriesOk_issueAll (n : Nat) (s : State) : memoriesOk (issueAll n s) = memoriesOk s := by
  induction n generalizing s with
  | zero => rfl
  | succ n ih => simp only [issueAll]; (repeat' split) <;> simp [ih]

@[simp] theorem memoriesOk_issueWaiting (s : State) : memoriesOk (issueWaiting s) = memoriesOk s := memoriesOk_issueAll 1024 s

@[simp] theorem memoriesOk_takeTxDesc (r : Nat) {s : State} (hs : memoriesOk s = true) : memoriesOk (takeTxDesc r s) = true := by
  simp only [takeTxDesc]
  (repeat' split) <;> simp [hs]

@[simp] theorem memoriesOk_takeRxDesc (c : Nat) {s : State} (hs : memoriesOk s = true) : memoriesOk (takeRxDesc c s) = true := by
  simp only [takeRxDesc]
  (repeat' split) <;> simp [hs]

@[simp] theorem memoriesOk_selectHost {s : State} (hs : memoriesOk s = true) : memoriesOk (selectHost s) = true := by
  simp only [selectHost]
  (repeat' split) <;> simp [hs]

@[simp] theorem memoriesOk_readHostCell (ecc : Ecc) (s : State) : memoriesOk (readHostCell ecc s) = memoriesOk s := by
  simp only [readHostCell]
  (repeat' split) <;> simp

@[simp] theorem memoriesOk_completeRx (r status : Nat) {s : State} (hs : memoriesOk s = true) : memoriesOk (completeRx r status s) = true := by
  simp only [completeRx]
  (repeat' split) <;> simp [hs]

@[simp] theorem memoriesOk_endHostFrame {s : State} (hs : memoriesOk s = true) : memoriesOk (endHostFrame s) = true := by
  simp only [endHostFrame]
  (repeat' split) <;> simp [hs]

@[simp] theorem memoriesOk_stallWrite (r : Nat) (s : State) : memoriesOk (stallWrite r s) = memoriesOk s := by
  simp only [stallWrite]
  (repeat' split) <;> simp

@[simp] theorem memoriesOk_failRequest (o : Outbound) {s : State} (hs : memoriesOk s = true) : memoriesOk (failRequest o s) = true := by
  simp only [failRequest]
  split <;> simp [hs]

@[simp] theorem memoriesOk_checkWindow (r : Nat) {s : State} (hs : memoriesOk s = true) : memoriesOk (checkWindow r s) = true := by
  simp only [checkWindow]
  split <;> simp [hs]

@[simp] theorem memoriesOk_checkWindows {s : State} (hs : memoriesOk s = true) : memoriesOk (checkWindows s) = true :=
  forUpTo_memoriesOk (fun r _ ht => memoriesOk_checkWindow r ht) hs

@[simp] theorem memoriesOk_commitWindow (w : Nat) (v : BitVec 32) {s : State} (hs : memoriesOk s = true) :
    memoriesOk (commitWindow w v s) = true := by simp [commitWindow, hs]

@[simp] theorem memoriesOk_writeReg (off : Nat) (v : BitVec 32) {s : State} (hs : memoriesOk s = true) :
    memoriesOk (writeReg off v s) = true := by simp [writeReg, hs]

@[simp] theorem memoriesOk_hostWrite (bar : Bar) (off : Nat) (bs : List (Byte × Bool)) {s : State} (hs : memoriesOk s = true) :
    memoriesOk (hostWrite bar off bs s) = true := by
  simp only [hostWrite]
  (repeat' split) <;> simp [memoriesOk_writeRingMem, memoriesOk_writeDescMem, hs]

@[simp] theorem memoriesOk_finishRequest (o : Outbound) {s : State} (hs : memoriesOk s = true) : memoriesOk (finishRequest o s) = true := by
  simp only [finishRequest]
  (repeat' split) <;> simp [hs]

@[simp] theorem memoriesOk_completion (tag : Nat) (st : CplStatus) (data : List Byte) {s : State} (hs : memoriesOk s = true) :
    memoriesOk (completion tag st data s) = true := by
  simp only [completion]
  split <;> simp [hs]

@[simp] theorem memoriesOk_cplExpire (tag : Nat) {s : State} (hs : memoriesOk s = true) : memoriesOk (cplExpire tag s) = true := by
  simp only [cplExpire]
  split <;> simp [hs]

@[simp] theorem memoriesOk_resetMailbox (s : State) : memoriesOk (resetMailbox s) = memoriesOk s := by rfl

@[simp] theorem memoriesOk_releaseRings (s : State) : memoriesOk (releaseRings s) = memoriesOk s := by
  unfold releaseRings
  extract_lets s1
  have hs1 : memoriesOk s1 = memoriesOk s := memoriesOk_forUpTo 16 (fun r t => by (repeat' split) <;> simp) s
  split <;> simp [hs1]

@[simp] theorem memoriesOk_functionReset (s : State) : memoriesOk (functionReset s) = memoriesOk s := by simp [functionReset]

@[simp] theorem memoriesOk_resetPlacket (s : State) : memoriesOk (resetPlacket s) = memoriesOk s := by simp [resetPlacket]

@[simp] theorem memoriesOk_linkState (l : PcieLink) (s : State) : memoriesOk (linkState l s) = memoriesOk s := by simp [linkState]

@[simp] theorem memoriesOk_configWrite (c : PcieCfg) (s : State) : memoriesOk (configWrite c s) = memoriesOk s := by
  simp only [configWrite]
  split <;> simp

@[simp] theorem memoriesOk_handMailbox (s : State) : memoriesOk (handMailbox s) = memoriesOk s :=
  memoriesOk_forUpTo 4 (fun _ _ => memoriesOk_setPair ..) s

@[simp] theorem memoriesOk_handRings (s : State) : memoriesOk (handRings s) = memoriesOk s :=
  memoriesOk_forUpTo 16 (fun _ _ => memoriesOk_setRing ..) s

end Sys2Proof.Machine
end

section
/-! Proofs/CanonicalPorts: ports, transports, the safe state, clocks and debug: event delivery writes the ring memory by a completion, the others write none. -/

namespace Sys2Proof.Machine
open Sys2Proof.Claims

/-! Ports and partners -/

@[simp] theorem memoriesOk_chooseZone (p : Nat) (s : State) : memoriesOk (chooseZone p s) = memoriesOk s := by
  simp only [chooseZone]
  (repeat' split) <;> simp

@[simp] theorem memoriesOk_departs (p st : Nat) (s : State) : memoriesOk (departs p st s) = memoriesOk s := by simp [departs]

@[simp] theorem memoriesOk_partnerLeaves (p st : Nat) (s : State) : memoriesOk (partnerLeaves p st s) = memoriesOk s := by simp [partnerLeaves]

@[simp] theorem memoriesOk_partnerArrives (p ct : Nat) (ci : List Byte) (pt : Nat) (pi : List Byte) (s0 : State) :
    memoriesOk (partnerArrives p ct ci pt pi s0) = memoriesOk s0 := by simp [partnerArrives]

@[simp] theorem memoriesOk_markOverrate (p : Nat) (s : State) : memoriesOk (markOverrate p s) = memoriesOk s := by simp [markOverrate]

@[simp] theorem memoriesOk_portUp (p mode role : Nat) (fast : Bool) (s : State) : memoriesOk (portUp p mode role fast s) = memoriesOk s := by simp [portUp]

@[simp] theorem memoriesOk_flushOnDown (p : Nat) (s : State) : memoriesOk (flushOnDown p s) = memoriesOk s := by simp [flushOnDown]

@[simp] theorem memoriesOk_stopSending (p : Nat) (s : State) : memoriesOk (stopSending p s) = memoriesOk s := by simp [stopSending]

@[simp] theorem memoriesOk_reportDown (p : Nat) (s : State) : memoriesOk (reportDown p s) = memoriesOk s := by
  simp only [reportDown]
  split <;> simp

@[simp] theorem memoriesOk_portDown (p : Nat) (s : State) : memoriesOk (portDown p s) = memoriesOk s := by simp [portDown]

@[simp] theorem memoriesOk_tribDown (p : Nat) (s : State) : memoriesOk (tribDown p s) = memoriesOk s := by simp [tribDown]

@[simp] theorem memoriesOk_linkComesUp (p mode role : Nat) (fast : Bool) (s : State) : memoriesOk (linkComesUp p mode role fast s) = memoriesOk s := by
  simp only [linkComesUp]
  (repeat' split) <;> simp

@[simp] theorem memoriesOk_trainingFails (p : Nat) (s : State) : memoriesOk (trainingFails p s) = memoriesOk s := by simp [trainingFails]

@[simp] theorem memoriesOk_phyPowerGood (p : Nat) (s : State) : memoriesOk (phyPowerGood p s) = memoriesOk s := by simp [phyPowerGood]

@[simp] theorem memoriesOk_fastFallback (p : Nat) (s : State) : memoriesOk (fastFallback p s) = memoriesOk s := by
  simp only [fastFallback]
  split <;> simp

@[simp] theorem memoriesOk_portSet (p : Nat) (r : BitVec 64) (s : State) : memoriesOk (portSet p r s) = memoriesOk s := by simp [portSet]

@[simp] theorem memoriesOk_lldpReceive (p : Nat) (pdu : List Byte) (s : State) : memoriesOk (lldpReceive p pdu s) = memoriesOk s := by
  simp only [lldpReceive]
  (repeat' split) <;> simp

@[simp] theorem memoriesOk_lldpTtlExpire (p : Nat) (s : State) : memoriesOk (lldpTtlExpire p s) = memoriesOk s := by simp [lldpTtlExpire]

@[simp] theorem memoriesOk_lldpWaitExpire (p : Nat) (s : State) : memoriesOk (lldpWaitExpire p s) = memoriesOk s := by simp [lldpWaitExpire]

@[simp] theorem memoriesOk_absentHoldExpire (p : Nat) (s : State) : memoriesOk (absentHoldExpire p s) = memoriesOk s := by simp [absentHoldExpire]

@[simp] theorem memoriesOk_keeperSend (out cls : Nat) (bs : List Byte) (s : State) : memoriesOk (keeperSend out cls bs s) = memoriesOk s := by simp [keeperSend]

@[simp] theorem memoriesOk_lldpSend (p : Nat) (s : State) : memoriesOk (lldpSend p s) = memoriesOk s := by simp [lldpSend]

/-! Transports -/

@[simp] theorem memoriesOk_setTrans (t : Transport) (x : Trans) (s : State) : memoriesOk (setTrans t x s) = memoriesOk s := by
  simp only [setTrans]
  split <;> simp

@[simp] theorem memoriesOk_setYel (y : Yelom) (s : State) : memoriesOk (setYel y s) = memoriesOk s := by rfl

@[simp] theorem memoriesOk_askKey (t : Transport) (s : State) : memoriesOk (askKey t s) = memoriesOk s := by
  simp only [askKey]
  split <;> simp

@[simp] theorem memoriesOk_refreshOwner (t : Transport) (s : State) : memoriesOk (refreshOwner t s) = memoriesOk s := by simp [refreshOwner]

@[simp] theorem memoriesOk_refreshKeys (s : State) : memoriesOk (refreshKeys s) = memoriesOk s := by simp [refreshKeys]

@[simp] theorem memoriesOk_sendReply (via : Via) (counted : Bool) (bs : List Byte) (s : State) : memoriesOk (sendReply via counted bs s) = memoriesOk s := by
  simp only [sendReply]
  split <;> simp

@[simp] theorem memoriesOk_replyTo (cls opcode : Nat) (m : Msg) (counted : Bool) (status : Status) (result : List Byte) (replicated : Bool) (s : State) :
    memoriesOk (replyTo cls opcode m counted status result replicated s) = memoriesOk s := by simp [replyTo]

@[simp] theorem memoriesOk_replyAborted (a : Accepted) (s : State) : memoriesOk (replyAborted a s) = memoriesOk s := by simp [replyAborted]

@[simp] theorem memoriesOk_abortQueued (s : State) : memoriesOk (abortQueued s) = memoriesOk s := by simp [abortQueued]

@[simp] theorem memoriesOk_writeReply (c : Nat) {s : State} (hs : memoriesOk s = true) : memoriesOk (writeReply c s) = true := by
  simp only [writeReply]
  (repeat' split) <;> simp [memoriesOk_writeCompletion, hs]

@[simp] theorem memoriesOk_readMspi (s : State) : memoriesOk (readMspi s) = memoriesOk s := by
  simp only [readMspi]
  (repeat' split) <;> simp

@[simp] theorem memoriesOk_statusMspi (s : State) : memoriesOk (statusMspi s) = memoriesOk s := by simp [statusMspi]

@[simp] theorem memoriesOk_deliverEvent (t : Transport) (e : Ev) (params : List Byte) {s : State} (hs : memoriesOk s = true) :
    memoriesOk (deliverEvent t e params s) = true := by
  simp only [deliverEvent]
  (repeat' split) <;> simp [memoriesOk_writeCompletion, hs]

theorem memoriesOk_withBoot (b : Boot) (s : State) : memoriesOk { s with boot := b } = memoriesOk s := rfl

@[simp] theorem memoriesOk_takeEvent (e : Ev × List Byte) {s : State} (hs : memoriesOk s = true) : memoriesOk (takeEvent e s) = true := by
  unfold takeEvent
  exact forEach_memoriesOk (fun t _ hx => memoriesOk_deliverEvent t e.1 e.2 hx) ((memoriesOk_withBoot _ s).trans hs)

@[simp] theorem memoriesOk_postEvent (e : Ev × List Byte) (s : State) : memoriesOk (postEvent e s) = memoriesOk s := by simp [postEvent]

@[simp] theorem memoriesOk_sendTwin (kind : Nat) (gen : BitVec 32) (body : List Byte) (s : State) :
    memoriesOk (sendTwin kind gen body s) = memoriesOk s := by simp [sendTwin]

/-! Safe state, clocks, debug -/

@[simp] theorem memoriesOk_setLamp (x : Lamp) (s : State) : memoriesOk (setLamp x s) = memoriesOk s := by rfl

@[simp] theorem memoriesOk_setKpr (x : Keeper) (s : State) : memoriesOk (setKpr x s) = memoriesOk s := by rfl

@[simp] theorem memoriesOk_setTwin (x : Twin) (s : State) : memoriesOk (setTwin x s) = memoriesOk s := by rfl

@[simp] theorem memoriesOk_setPwr (x : Power) (s : State) : memoriesOk (setPwr x s) = memoriesOk s := by rfl

@[simp] theorem memoriesOk_setBoot (x : Boot) (s : State) : memoriesOk (setBoot x s) = memoriesOk s := by rfl

@[simp] theorem memoriesOk_enterTwin (m : TwinMode) (s : State) : memoriesOk (enterTwin m s) = memoriesOk s := by simp [enterTwin]

@[simp] theorem memoriesOk_noteRelinquish (s : State) : memoriesOk (noteRelinquish s) = memoriesOk s := by simp [noteRelinquish]

@[simp] theorem memoriesOk_relinquishSelf (s : State) : memoriesOk (relinquishSelf s) = memoriesOk s := by
  simp only [relinquishSelf]
  (repeat' split) <;> simp

@[simp] theorem memoriesOk_latchCode (c : BitVec 16) (s : State) : memoriesOk (latchCode c s) = memoriesOk s := by simp [latchCode]

@[simp] theorem memoriesOk_driveFault (on : Bool) (s : State) : memoriesOk (driveFault on s) = memoriesOk s := by simp [driveFault]

@[simp] theorem memoriesOk_enterSafe (s : State) : memoriesOk (enterSafe s) = memoriesOk s := by simp [enterSafe]

@[simp] theorem memoriesOk_resetYelom (s : State) : memoriesOk (resetYelom s) = memoriesOk s := by rfl

@[simp] theorem memoriesOk_resetPair (source : Nat) (s : State) : memoriesOk (resetPair source s) = memoriesOk s := by simp [resetPair]

@[simp] theorem memoriesOk_resetKeeper (source : Nat) (s : State) : memoriesOk (resetKeeper source s) = memoriesOk s := by simp [resetKeeper]

@[simp] theorem memoriesOk_faultKeeper (s : State) : memoriesOk (faultKeeper s) = memoriesOk s := by simp [faultKeeper]

@[simp] theorem memoriesOk_reportFault (mech inst : Nat) (s : State) : memoriesOk (reportFault mech inst s) = memoriesOk s := by rfl

@[simp] theorem memoriesOk_reactTo (f : Nat × Nat) (s : State) : memoriesOk (reactTo f s) = memoriesOk s := by simp [reactTo]

@[simp] theorem memoriesOk_reactAll (s : State) : memoriesOk (reactAll s) = memoriesOk s := by simp [reactAll]

@[simp] theorem memoriesOk_keeperFault (mech : Nat) (s : State) : memoriesOk (keeperFault mech s) = memoriesOk s := by simp [keeperFault]

@[simp] theorem memoriesOk_blockFault (mech inst : Nat) (s : State) : memoriesOk (blockFault mech inst s) = memoriesOk s := by simp [blockFault]

@[simp] theorem memoriesOk_coreCheck (mech inst : Nat) (s : State) : memoriesOk (coreCheck mech inst s) = memoriesOk s := by simp [coreCheck]

@[simp] theorem memoriesOk_railFault (d : Nat) (s : State) : memoriesOk (railFault d s) = memoriesOk s := by simp [railFault]

@[simp] theorem memoriesOk_temperature (sensor : Nat) (c : Int) (s : State) : memoriesOk (temperature sensor c s) = memoriesOk s := by simp [temperature]

@[simp] theorem memoriesOk_tcmEcc (double : Bool) (s : State) : memoriesOk (tcmEcc double s) = memoriesOk s := by simp [tcmEcc]

@[simp] theorem memoriesOk_scrub (tcm tables : Ecc) (s : State) : memoriesOk (scrub tcm tables s) = memoriesOk s := by
  simp only [scrub]
  (repeat' split) <;> simp

@[simp] theorem memoriesOk_watchdogService (management : Bool) (s : State) : memoriesOk (watchdogService management s) = memoriesOk s := by simp [watchdogService]

@[simp] theorem memoriesOk_watchdogExpire (s : State) : memoriesOk (watchdogExpire s) = memoriesOk s := by simp [watchdogExpire]

@[simp] theorem memoriesOk_tokenTimeout (s : State) : memoriesOk (tokenTimeout s) = memoriesOk s := by simp [tokenTimeout]

@[simp] theorem memoriesOk_reopenGates (s : State) : memoriesOk (reopenGates s) = memoriesOk s := by simp [reopenGates]

@[simp] theorem memoriesOk_safeRelease (s : State) : memoriesOk (safeRelease s).st = memoriesOk s := by
  simp only [safeRelease]
  (repeat' split) <;> simp

@[simp] theorem memoriesOk_setSafeOpen (mask : BitVec 32) (s : State) : memoriesOk (setSafeOpen mask s) = memoriesOk s := by simp [setSafeOpen]

@[simp] theorem memoriesOk_inject (code : Nat) (s : State) : memoriesOk (inject code s).st = memoriesOk s := by
  simp only [inject]
  (repeat' split) <;> simp

@[simp] theorem memoriesOk_clockFails (clock : Nat) (s : State) : memoriesOk (clockFails clock s) = memoriesOk s := by simp [clockFails]

@[simp] theorem memoriesOk_pllLocks (d : Nat) (s : State) : memoriesOk (pllLocks d s) = memoriesOk s := by simp [pllLocks]

@[simp] theorem memoriesOk_resyncDone (d discarded lostPulses : Nat) (s : State) : memoriesOk (resyncDone d discarded lostPulses s) = memoriesOk s := by
  simp only [resyncDone]
  split
  · rfl
  split
  · simp
  · exact (memoriesOk_forUpTo 27 (fun p t => by (repeat' split) <;> simp) _).trans (by simp)

@[simp] theorem memoriesOk_latchStopped (initiator d : Nat) (s : State) : memoriesOk (latchStopped initiator d s) = memoriesOk s := by simp [latchStopped]

@[simp] theorem memoriesOk_selfTest (pass : Bool) (s : State) : memoriesOk (selfTest pass s) = memoriesOk s := by simp [selfTest]

@[simp] theorem memoriesOk_loadIr (code : Byte) (ok : Bool) (s : State) : memoriesOk (loadIr code ok s) = memoriesOk s := by simp [loadIr]

@[simp] theorem memoriesOk_debugLock (s : State) : memoriesOk (debugLock s) = memoriesOk s := by simp [debugLock]

@[simp] theorem memoriesOk_debugChallenge (s : State) : memoriesOk (debugChallenge s).st = memoriesOk s := by
  simp only [debugChallenge]
  split <;> simp

@[simp] theorem memoriesOk_debugNonceExpire (s : State) : memoriesOk (debugNonceExpire s) = memoriesOk s := by
  simp only [debugNonceExpire]
  split <;> simp

@[simp] theorem memoriesOk_debugUnlock (level : Nat) (token : List Byte) (s : State) : memoriesOk (debugUnlock level token s).st = memoriesOk s := by
  simp only [debugUnlock]
  (repeat' split) <;> simp

@[simp] theorem memoriesOk_debugAct (a : DebugAct) {s : State} (hs : memoriesOk s = true) : memoriesOk (debugAct a s) = true := by
  simp only [debugAct]
  (repeat' split) <;> simp [hs]

end Sys2Proof.Machine
end

section
/-! Proofs/CanonicalLinks: the Selvage links, the Beacon, the stitch bases and the first command classes write none of the ring and descriptor memories. -/

namespace Sys2Proof.Machine
open Sys2Proof.Claims

/-! Selvage links -/

@[simp] theorem memoriesOk_setDefects (l : Nat) (d : Defects) (s : State) : memoriesOk (setDefects l d s) = memoriesOk s := by simp [setDefects]

@[simp] theorem memoriesOk_applyLinkZones (l trib vc : Nat) (s : State) : memoriesOk (applyLinkZones l trib vc s) = memoriesOk s := by simp [applyLinkZones]

@[simp] theorem memoriesOk_chooseLinkZones (l : Nat) (s : State) : memoriesOk (chooseLinkZones l s) = memoriesOk s := by
  simp only [chooseLinkZones]
  split <;> simp

@[simp] theorem memoriesOk_syncTrib (l : Nat) (s : State) : memoriesOk (syncTrib l s) = memoriesOk s := by simp [syncTrib]

@[simp] theorem memoriesOk_abortRx (l : Nat) (s : State) : memoriesOk (abortRx l s) = memoriesOk s := by simp [abortRx]

@[simp] theorem memoriesOk_abortTx (l : Nat) (s : State) : memoriesOk (abortTx l s) = memoriesOk s := by simp [abortTx]

@[simp] theorem memoriesOk_leaveUp (l : Nat) (s : State) : memoriesOk (leaveUp l s) = memoriesOk s := by simp [leaveUp]

@[simp] theorem memoriesOk_sendMsg (l kind : Nat) (body : List Byte) (s : State) : memoriesOk (sendMsg l kind body s) = memoriesOk s := by rfl

@[simp] theorem memoriesOk_hitchFails (l : Nat) (s : State) : memoriesOk (hitchFails l s) = memoriesOk s := by simp [hitchFails]

@[simp] theorem memoriesOk_nextRate (l : Nat) (s : State) : memoriesOk (nextRate l s) = memoriesOk s := by
  simp only [nextRate]
  split <;> simp

@[simp] theorem memoriesOk_backToCycling (l : Nat) (s : State) : memoriesOk (backToCycling l s) = memoriesOk s := by simp [backToCycling]

@[simp] theorem memoriesOk_toDetect (l : Nat) (s : State) : memoriesOk (toDetect l s) = memoriesOk s := by simp [toDetect]

@[simp] theorem memoriesOk_unhitchLink (l : Nat) (s : State) : memoriesOk (unhitchLink l s) = memoriesOk s := by simp [unhitchLink]

@[simp] theorem memoriesOk_unhitchOnce (l : Nat) (s : State) : memoriesOk (unhitchOnce l s) = memoriesOk s := by simp [unhitchOnce]

@[simp] theorem memoriesOk_qualifyFails (l : Nat) (s : State) : memoriesOk (qualifyFails l s) = memoriesOk s := by simp [qualifyFails]

@[simp] theorem memoriesOk_leaveFrameAt (l : Nat) (s : State) : memoriesOk (leaveFrameAt l s) = memoriesOk s := by simp [leaveFrameAt]

@[simp] theorem memoriesOk_enterFrame (l : Nat) (c : Cand) (s : State) : memoriesOk (enterFrame l c s) = memoriesOk s := by simp [enterFrame]

@[simp] theorem memoriesOk_selSighting (l pos : Nat) (h : List Byte) (s : State) : memoriesOk (selSighting l pos h s) = memoriesOk s := by simp [selSighting]

@[simp] theorem memoriesOk_settleCands (l : Nat) (s : State) : memoriesOk (settleCands l s) = memoriesOk s := by
  simp only [settleCands]
  split <;> simp

@[simp] theorem memoriesOk_selCheck (l pos : Nat) (h : List Byte) (s : State) : memoriesOk (selCheck l pos h s) = memoriesOk s := by
  simp only [selCheck]
  (repeat' split) <;> simp

@[simp] theorem memoriesOk_enterUp (l : Nat) (s : State) : memoriesOk (enterUp l s) = memoriesOk s := by simp [enterUp]

@[simp] theorem memoriesOk_sendMapSet (l : Nat) (s : State) : memoriesOk (sendMapSet l s) = memoriesOk s := by simp [sendMapSet]

@[simp] theorem memoriesOk_enterMap (l : Nat) (s : State) : memoriesOk (enterMap l s) = memoriesOk s := by simp [enterMap]

@[simp] theorem memoriesOk_enterIdent (l : Nat) (s : State) : memoriesOk (enterIdent l s) = memoriesOk s := by simp [enterIdent]

@[simp] theorem memoriesOk_msgBad (l ch : Nat) (s : State) : memoriesOk (msgBad l ch s) = memoriesOk s := by rfl

@[simp] theorem memoriesOk_identRx (l ch : Nat) (body : List Byte) (s : State) : memoriesOk (identRx l ch body s) = memoriesOk s := by simp [identRx]

@[simp] theorem memoriesOk_identAckRx (l : Nat) (s : State) : memoriesOk (identAckRx l s) = memoriesOk s := by simp [identAckRx]

@[simp] theorem memoriesOk_identResend (l : Nat) (s : State) : memoriesOk (identResend l s) = memoriesOk s := by simp [identResend]

@[simp] theorem memoriesOk_phaseTimeout (l : Nat) (h : Hitch) (s : State) : memoriesOk (phaseTimeout l h s) = memoriesOk s := by simp [phaseTimeout]

@[simp] theorem memoriesOk_mapSetRx (l ch : Nat) (body : List Byte) (s : State) : memoriesOk (mapSetRx l ch body s) = memoriesOk s := by simp [mapSetRx]

@[simp] theorem memoriesOk_mapAckRx (l ch : Nat) (body : List Byte) (s : State) : memoriesOk (mapAckRx l ch body s) = memoriesOk s := by
  simp only [mapAckRx]
  (repeat' split) <;> simp

@[simp] theorem memoriesOk_mapSetResend (l : Nat) (s : State) : memoriesOk (mapSetResend l s) = memoriesOk s := by simp [mapSetResend]

@[simp] theorem memoriesOk_sfnSwitch (l : Nat) (s : State) : memoriesOk (sfnSwitch l s) = memoriesOk s := by
  simp only [sfnSwitch]
  split <;> simp

@[simp] theorem memoriesOk_mapRevert (l : Nat) (s : State) : memoriesOk (mapRevert l s) = memoriesOk s := by simp [mapRevert]

@[simp] theorem memoriesOk_selMessage (l ch : Nat) (m : List Byte) (s : State) : memoriesOk (selMessage l ch m s) = memoriesOk s := by
  simp only [selMessage]
  (repeat' split) <;> simp

@[simp] theorem memoriesOk_dccMessage (l : Nat) (b : Bool) (f : List Byte) (s : State) : memoriesOk (dccMessage l b f s) = memoriesOk s := by simp [dccMessage]

@[simp] theorem memoriesOk_setDcc (l : Nat) (b : Bool) (d : Dcc) (s : State) : memoriesOk (setDcc l b d s) = memoriesOk s := by rfl

@[simp] theorem memoriesOk_dccByte (l : Nat) (b valid : Bool) (v : Byte) (s : State) : memoriesOk (dccByte l b valid v s) = memoriesOk s := by
  simp only [dccByte]
  (repeat' split) <;> simp

@[simp] theorem memoriesOk_ttTake (l : Nat) (h : List Byte) (s : State) : memoriesOk (ttTake l h s) = memoriesOk s := by
  simp only [ttTake]
  (repeat' split) <;> simp

@[simp] theorem memoriesOk_hitchHeader (l : Nat) (h : List Byte) (s : State) : memoriesOk (hitchHeader l h s) = memoriesOk s := by
  simp only [hitchHeader]
  split <;> simp

@[simp] theorem memoriesOk_goodHeader (l : Nat) (h : List Byte) (s : State) : memoriesOk (goodHeader l h s) = memoriesOk s := by simp [goodHeader]

@[simp] theorem memoriesOk_selHeader (l : Nat) (h : List Byte) (s : State) : memoriesOk (selHeader l h s) = memoriesOk s := by simp [selHeader]

@[simp] theorem memoriesOk_lockLost (l : Nat) (s : State) : memoriesOk (lockLost l s) = memoriesOk s := by simp [lockLost]

@[simp] theorem memoriesOk_lockGained (l : Nat) (s : State) : memoriesOk (lockGained l s) = memoriesOk s := by simp [lockGained]

@[simp] theorem memoriesOk_losSet (l : Nat) (s : State) : memoriesOk (losSet l s) = memoriesOk s := by simp [losSet]

@[simp] theorem memoriesOk_losClear (l : Nat) (s : State) : memoriesOk (losClear l s) = memoriesOk s := by simp [losClear]

@[simp] theorem memoriesOk_plugIn (l : Nat) (s : State) : memoriesOk (plugIn l s) = memoriesOk s := by simp [plugIn]

@[simp] theorem memoriesOk_dwellEnd (l : Nat) (s : State) : memoriesOk (dwellEnd l s) = memoriesOk s := by simp [dwellEnd]

@[simp] theorem memoriesOk_qualifyEnd (l badSync : Nat) (s : State) : memoriesOk (qualifyEnd l badSync s) = memoriesOk s := by simp [qualifyEnd]

@[simp] theorem memoriesOk_qualRdiEnd (l : Nat) (s : State) : memoriesOk (qualRdiEnd l s) = memoriesOk s := by
  simp only [qualRdiEnd]
  split <;> simp

@[simp] theorem memoriesOk_unplugTimeout (l : Nat) (s : State) : memoriesOk (unplugTimeout l s) = memoriesOk s := by simp [unplugTimeout]

@[simp] theorem memoriesOk_threadIdle (l th : Nat) (s : State) : memoriesOk (threadIdle l th s) = memoriesOk s := by
  simp only [threadIdle]
  (repeat' split) <;> simp

@[simp] theorem memoriesOk_fillBlock (l th n first : Nat) (acc : List Byte) (s : State) : memoriesOk (fillBlock l th n first acc s).2 = memoriesOk s := by
  induction n generalizing first acc s with
  | zero => rfl
  | succ n ih => simp only [fillBlock]; (repeat' split) <;> simp [ih]

@[simp] theorem memoriesOk_threadBlock (l th : Nat) (s : State) : memoriesOk (threadBlock l th s).2 = memoriesOk s := by
  simp only [threadBlock]
  split <;> simp

@[simp] theorem memoriesOk_threadBlocks (l : Nat) (ths : List Nat) (s : State) : memoriesOk (threadBlocks l ths s).2 = memoriesOk s := by
  induction ths generalizing s with
  | nil => rfl
  | cons th ths ih => simp [threadBlocks, ih]

@[simp] theorem memoriesOk_superframeTx (l : Nat) (s : State) : memoriesOk (superframeTx l s) = memoriesOk s := by
  unfold superframeTx
  split
  · rfl
  · simp

@[simp] theorem memoriesOk_setThread (l th : Nat) (t : Thread) (s : State) : memoriesOk (setThread l th t s) = memoriesOk s := by rfl

@[simp] theorem memoriesOk_cutRecord (l th : Nat) (s : State) : memoriesOk (cutRecord l th s) = memoriesOk s := by simp [cutRecord]

section
variable {wake : Nat → CanMsg → State → State} (hw : ∀ n m t, memoriesOk (wake n m t) = memoriesOk t)
include hw

theorem memoriesOk_deliverSelRecord (l th stamp : Nat) (b : List Byte) (s : State) : memoriesOk (deliverSelRecord wake l th stamp b s) = memoriesOk s := by
  simp only [deliverSelRecord]
  (repeat' split) <;> simp [hw]

theorem memoriesOk_feedThread (l th : Nat) (open_ : Bool) (bs : List Byte) (s : State) : memoriesOk (feedThread wake l th open_ bs s) = memoriesOk s := by
  induction bs generalizing s with
  | nil => rfl
  | cons b bs ih => simp only [feedThread]; (repeat' split) <;> simp [ih, memoriesOk_deliverSelRecord hw]

theorem memoriesOk_threadBlockRx (l th : Nat) (block : List Byte) (s : State) : memoriesOk (threadBlockRx wake l th block s) = memoriesOk s := by
  simp only [threadBlockRx]
  (repeat' split) <;> simp [memoriesOk_feedThread hw]

end

@[simp] theorem memoriesOk_discRx (l : Nat) (block : List Byte) (s : State) : memoriesOk (discRx l block s) = memoriesOk s := by simp [discRx]

@[simp] theorem memoriesOk_sdccBurst (l : Nat) (b : Bool) (dataIn : Byte) (validIn : Bool) (s : State) :
    memoriesOk (sdccBurst l b dataIn validIn s) = memoriesOk s := by simp [sdccBurst]

@[simp] theorem memoriesOk_discFire (l e : Nat) (s : State) : memoriesOk (discFire l e s) = memoriesOk s := by rfl

@[simp] theorem memoriesOk_discWrite (l : Nat) (value mask : BitVec 32) (s : State) : memoriesOk (discWrite l value mask s) = memoriesOk s := by rfl

@[simp] theorem memoriesOk_linkSet (l : Nat) (r : BitVec 64) (s : State) : memoriesOk (linkSet l r s) = memoriesOk s := by simp [linkSet]

/-! Time and stitch bases -/

@[simp] theorem memoriesOk_setBcn (b : Beacon) (s : State) : memoriesOk (setBcn b s) = memoriesOk s := by rfl

@[simp] theorem memoriesOk_setInst (i : Nat) (g : Gptp) (s : State) : memoriesOk (setInst i g s) = memoriesOk s := by rfl

@[simp] theorem memoriesOk_setMark (o : Nat) (m : Mark) (s : State) : memoriesOk (setMark o m s) = memoriesOk s := by rfl

@[simp] theorem memoriesOk_markFire (o : Nat) (s : State) : memoriesOk (markFire o s) = memoriesOk s := by simp [markFire]

@[simp] theorem memoriesOk_markEnd (o : Nat) (s : State) : memoriesOk (markEnd o s) = memoriesOk s := by
  simp only [markEnd]
  split <;> simp

@[simp] theorem memoriesOk_overrideFire (p e : Nat) (s : State) : memoriesOk (overrideFire p e s) = memoriesOk s := by simp [overrideFire]

@[simp] theorem memoriesOk_overrideEnd (p : Nat) (s : State) : memoriesOk (overrideEnd p s) = memoriesOk s := by
  simp only [overrideEnd]
  split <;> simp

@[simp] theorem memoriesOk_keyAction (i : Nat) (s : State) : memoriesOk (keyAction i s) = memoriesOk s := by simp [keyAction]

@[simp] theorem memoriesOk_takeOccurrence (i : Nat) (k : BitVec 128) (x : Int) (s : State) :
    memoriesOk (takeOccurrence i k x s) = memoriesOk s := by simp [takeOccurrence]

@[simp] theorem memoriesOk_fireKeys (c : Nat) (ks : List (Nat × BitVec 128 × Int)) (s : State) : memoriesOk (fireKeys c ks s) = memoriesOk s := by
  simp only [fireKeys]
  split <;> simp

@[simp] theorem memoriesOk_keyFires (c i : Nat) (s : State) : memoriesOk (keyFires c i s) = memoriesOk s := by simp [keyFires]

@[simp] theorem memoriesOk_countSkips (i : Nat) (lo hi : Int) (s : State) : memoriesOk (countSkips i lo hi s) = memoriesOk s := by simp [countSkips]

@[simp] theorem memoriesOk_catchUp (i : Nat) (s : State) : memoriesOk (catchUp i s) = memoriesOk s := by simp [catchUp]

@[simp] theorem memoriesOk_noteReverse (i : Nat) (pos : Int) (s : State) : memoriesOk (noteReverse i pos s) = memoriesOk s := by simp [noteReverse]

@[simp] theorem memoriesOk_applyCount (i : Nat) (fwd : Bool) (s0 : State) : memoriesOk (applyCount i fwd s0) = memoriesOk s0 := by simp [applyCount]

@[simp] theorem memoriesOk_stitchEdge (i : Nat) (a b : Bool) (heldNs : Nat) (s : State) :
    memoriesOk (stitchEdge i a b heldNs s) = memoriesOk s := by simp [stitchEdge]

@[simp] theorem memoriesOk_standstill (i : Nat) (s : State) : memoriesOk (standstill i s) = memoriesOk s := by simp [standstill]

@[simp] theorem memoriesOk_stbSample (i : Nat) (p v : Int) (t : Nat) (s : State) : memoriesOk (stbSample i p v t s) = memoriesOk s := by simp [stbSample]

@[simp] theorem memoriesOk_shiftBases (d : Int) (s : State) : memoriesOk (shiftBases d s) = memoriesOk s := by rfl

@[simp] theorem memoriesOk_shiftRunning (d : Int) (s : State) : memoriesOk (shiftRunning d s) = memoriesOk s :=
  (memoriesOk_forUpTo 27 (fun p t => by dsimp only; split <;> simp) _).trans (memoriesOk_forUpTo 8 (fun o t => by dsimp only; split <;> simp) s)

@[simp] theorem memoriesOk_stepKeys (was : Nat) (s : State) : memoriesOk (stepKeys was s) = memoriesOk s := by simp [stepKeys]

@[simp] theorem memoriesOk_stepBeacon (d : Int) (s : State) : memoriesOk (stepBeacon d s) = memoriesOk s := by simp [stepBeacon]

@[simp] theorem memoriesOk_servoRate (ratio : Int) (s : State) : memoriesOk (servoRate ratio s) = memoriesOk s := by simp [servoRate]

@[simp] theorem memoriesOk_enterHoldover (s : State) : memoriesOk (enterHoldover s) = memoriesOk s := by rfl

@[simp] theorem memoriesOk_refuseStep (offset : Int) (s : State) : memoriesOk (refuseStep offset s) = memoriesOk s := by simp [refuseStep]

@[simp] theorem memoriesOk_servoSync (offset ratio : Int) (s : State) : memoriesOk (servoSync offset ratio s) = memoriesOk s := by simp [servoSync]

@[simp] theorem memoriesOk_primarySync (gm : BitVec 64) (offset ratio : Int) (changed : Bool) (s : State) :
    memoriesOk (primarySync gm offset ratio changed s) = memoriesOk s := by simp [primarySync]

@[simp] theorem memoriesOk_gptpSync (i : Nat) (gm : BitVec 64) (offset ratio : Int) (s : State) :
    memoriesOk (gptpSync i gm offset ratio s) = memoriesOk s := by simp [gptpSync]

@[simp] theorem memoriesOk_syncTimeout (i : Nat) (s : State) : memoriesOk (syncTimeout i s) = memoriesOk s := by simp [syncTimeout]

@[simp] theorem memoriesOk_gmSelect (isSelf : Bool) (gm : BitVec 64) (s : State) : memoriesOk (gmSelect isSelf gm s) = memoriesOk s := by simp [gmSelect]

@[simp] theorem memoriesOk_whenOk (ok : Bool) (r : CmdResult) (s : State) : memoriesOk (whenOk ok r s).st = if ok then memoriesOk r.st else memoriesOk s := by
  simp only [whenOk]; split <;> simp

@[simp] theorem memoriesOk_setCmdKey (t : Transport) (slot : Option Nat) (s : State) : memoriesOk (setCmdKey t slot s) = memoriesOk s := by simp [setCmdKey]

@[simp] theorem memoriesOk_setLimits (t : Transport) (rate depth : Nat) (s : State) : memoriesOk (setLimits t rate depth s) = memoriesOk s := by simp [setLimits]

theorem memoriesOk_whileQuiet {body : Via → List Byte → State → CmdResult} {v : Via} {p : List Byte} {s : State} (h : memoriesOk (body v p s).st = memoriesOk s) :
    memoriesOk (whileQuiet body v p s).st = memoriesOk s :=
  memoriesOk_st_if (memoriesOk_failed ..) h

@[simp] theorem memoriesOk_attest (sel : Nat) (challenge : List Byte) (s : State) : memoriesOk (attest sel challenge s).st = memoriesOk s := by
  simp only [attest]
  split <;> simp

@[simp] theorem memoriesOk_setStaged (t : Transport) (b : List Byte) (s : State) : memoriesOk (setStaged t b s) = memoriesOk s := by simp [setStaged]

theorem memoriesOk_stagedOp {op : List Byte → State → CmdResult} (h : ∀ m t, memoriesOk (op m t).st = memoriesOk t) (staged : Nat) (v : Via) (carried : List Byte) (s : State) :
    memoriesOk (stagedOp staged v carried op s).st = memoriesOk s := by
  simp only [stagedOp]
  split
  · exact h carried s
  · split <;> simp [h]

@[simp] theorem memoriesOk_setQueueParam (q : Nat) (x : QueueParam) (s : State) : memoriesOk (setQueueParam q x s) = memoriesOk s := by simp [setQueueParam]

@[simp] theorem memoriesOk_setBuf (q : Nat) (b : BufParam) (s : State) : memoriesOk (setBuf q b s) = memoriesOk s := by rfl

end Sys2Proof.Machine
end

section
/-! Proofs/CanonicalPower: power, wake sources, networks and the commands of schedules, patterns and gateways write none of the ring and descriptor memories. -/

namespace Sys2Proof.Machine
open Sys2Proof.Claims

/-! Power and wake -/

@[simp] theorem memoriesOk_setPwrState (x : PwrState) (mask : BitVec 16) (s : State) : memoriesOk (setPwrState x mask s) = memoriesOk s := by simp [setPwrState]

@[simp] theorem memoriesOk_setQuad (q : Nat) (x : QuadState) (s : State) : memoriesOk (setQuad q x s) = memoriesOk s := by rfl

@[simp] theorem memoriesOk_drainQuad (q : Nat) (s : State) : memoriesOk (drainQuad q s) = memoriesOk s := by simp [drainQuad]

@[simp] theorem memoriesOk_clearQuad (q : Nat) (s : State) : memoriesOk (clearQuad q s) = memoriesOk s := by rfl

@[simp] theorem memoriesOk_bankCleared (q : Nat) (s : State) : memoriesOk (bankCleared q s) = memoriesOk s := by simp [bankCleared]

@[simp] theorem memoriesOk_quadDrained (q : Nat) (s : State) : memoriesOk (quadDrained q s) = memoriesOk s := by simp [quadDrained]

@[simp] theorem memoriesOk_stopPort (p : Nat) (s : State) : memoriesOk (stopPort p s) = memoriesOk s := by simp [stopPort]

@[simp] theorem memoriesOk_canPoweredOff (ch : Nat) (s : State) : memoriesOk (canPoweredOff ch s) = memoriesOk s := by simp [canPoweredOff]

@[simp] theorem memoriesOk_edgeOff (s : State) : memoriesOk (edgeOff s) = memoriesOk s := by simp [edgeOff]

@[simp] theorem memoriesOk_canRejoin (ch : Nat) (s : State) : memoriesOk (canRejoin ch s) = memoriesOk s := by simp [canRejoin]

@[simp] theorem memoriesOk_domainOff (d : Nat) (s : State) : memoriesOk (domainOff d s) = memoriesOk s := by
  simp only [domainOff]
  split <;> simp

@[simp] theorem memoriesOk_domainOn (d : Nat) (s : State) : memoriesOk (domainOn d s) = memoriesOk s := by simp [domainOn]

@[simp] theorem memoriesOk_finishTransition (s : State) : memoriesOk (finishTransition s) = memoriesOk s := by
  simp only [finishTransition]
  split <;> simp

@[simp] theorem memoriesOk_restTransceiver (ch : Nat) (s : State) : memoriesOk (restTransceiver ch s) = memoriesOk s := by simp [restTransceiver]

@[simp] theorem memoriesOk_enterDoze (s : State) : memoriesOk (enterDoze s) = memoriesOk s := by simp [enterDoze]

@[simp] theorem memoriesOk_beginTransition (target : PwrState) (want : BitVec 16) (lights : Bool) (s : State) :
    memoriesOk (beginTransition target want lights s) = memoriesOk s := by simp [beginTransition]

@[simp] theorem memoriesOk_armWake (s : State) : memoriesOk (armWake s) = memoriesOk s := by rfl

@[simp] theorem memoriesOk_deepTransceiver (ch : Nat) (s : State) : memoriesOk (deepTransceiver ch s) = memoriesOk s := by simp [deepTransceiver]

@[simp] theorem memoriesOk_goLightsOut (target : PwrState) (s : State) : memoriesOk (goLightsOut target s) = memoriesOk s := by simp [goLightsOut]

@[simp] theorem memoriesOk_powerRequest (code : Nat) (mask : BitVec 16) (s : State) : memoriesOk (powerRequest code mask s).st = memoriesOk s := by
  simp only [powerRequest]
  (repeat' split) <;> simp

@[simp] theorem memoriesOk_domainSwitched (d : Nat) (s : State) : memoriesOk (domainSwitched d s) = memoriesOk s := by
  simp only [domainSwitched]
  split <;> simp

@[simp] theorem memoriesOk_leaveDoze (s : State) : memoriesOk (leaveDoze s) = memoriesOk s := by simp [leaveDoze]

@[simp] theorem memoriesOk_recordWake (r : WakeRecord) (s : State) : memoriesOk (recordWake r s) = memoriesOk s := by simp [recordWake]

@[simp] theorem memoriesOk_registerWake (r : WakeRecord) (s : State) : memoriesOk (registerWake r s) = memoriesOk s := by simp [registerWake]

@[simp] theorem memoriesOk_setWake (ch : Nat) (w : WakeCfg) (s : State) : memoriesOk (setWake ch w s) = memoriesOk s := by rfl

@[simp] theorem memoriesOk_oscillates (s : State) : memoriesOk (oscillates s) = memoriesOk s := by rfl

@[simp] theorem memoriesOk_selectiveFrame (ch : Nat) (m : CanMsg) (error : Bool) (s : State) :
    memoriesOk (selectiveFrame ch m error s) = memoriesOk s := by simp [selectiveFrame]

@[simp] theorem memoriesOk_wupWake (ch : Nat) (s : State) : memoriesOk (wupWake ch s) = memoriesOk s := by simp [wupWake]

@[simp] theorem memoriesOk_standbyWake (ch : Nat) (s : State) : memoriesOk (standbyWake ch s) = memoriesOk s := by simp [standbyWake]

@[simp] theorem memoriesOk_linWake (ch : Nat) (s : State) : memoriesOk (linWake ch s) = memoriesOk s := by simp [linWake]

@[simp] theorem memoriesOk_oscStop (s : State) : memoriesOk (oscStop s) = memoriesOk s := by
  simp only [oscStop]
  split <;> simp

/-! Networks -/

@[simp] theorem memoriesOk_setNet (n : Nat) (x : Net) (s : State) : memoriesOk (setNet n x s) = memoriesOk s := by rfl

@[simp] theorem memoriesOk_nmSend (n op ch : Nat) (s : State) : memoriesOk (nmSend n op ch s) = memoriesOk s := by simp [nmSend]

@[simp] theorem memoriesOk_nmSendAll (n op : Nat) (s : State) : memoriesOk (nmSendAll n op s) = memoriesOk s := by simp [nmSendAll]

@[simp] theorem memoriesOk_setNmChan (ch : Nat) (x : NmChan) (s : State) : memoriesOk (setNmChan ch x s) = memoriesOk s := by rfl

@[simp] theorem memoriesOk_wakePort (p : Nat) (s : State) : memoriesOk (wakePort p s) = memoriesOk s := by simp [wakePort]

@[simp] theorem memoriesOk_linSleep (ch : Nat) (s : State) : memoriesOk (linSleep ch s) = memoriesOk s := by simp [linSleep]

@[simp] theorem memoriesOk_linSleepNow (ch : Nat) (s : State) : memoriesOk (linSleepNow ch s) = memoriesOk s := by simp [linSleepNow]

@[simp] theorem memoriesOk_canSleep (ch : Nat) (s : State) : memoriesOk (canSleep ch s) = memoriesOk s := by simp [canSleep]

@[simp] theorem memoriesOk_restAfterFrame (ch : Nat) (s : State) : memoriesOk (restAfterFrame ch s) = memoriesOk s := by simp [restAfterFrame]

@[simp] theorem memoriesOk_lightsOutNow (target : PwrState) (s : State) : memoriesOk (lightsOutNow target s) = memoriesOk s := by simp [lightsOutNow]

@[simp] theorem memoriesOk_nmCommit (n : Nat) (s : State) : memoriesOk (nmCommit n s) = memoriesOk s := by simp [nmCommit]

@[simp] theorem memoriesOk_roundFails (n : Nat) (s : State) : memoriesOk (roundFails n s) = memoriesOk s := by simp [roundFails]

@[simp] theorem memoriesOk_roundProgress (n : Nat) (s : State) : memoriesOk (roundProgress n s) = memoriesOk s := by simp [roundProgress]

theorem memoriesOk_snapshotFor {s t : State} (h : snapshotFor s = some t) : memoriesOk t = memoriesOk s := by
  simp only [snapshotFor] at h
  split at h
  · cases h
  · (repeat' split at h) <;> cases h <;> simp

@[simp] theorem memoriesOk_startRound (n : Nat) (s : State) : memoriesOk (startRound n s) = memoriesOk s := by
  simp only [startRound]
  split
  · simp
  · next h => simp [memoriesOk_snapshotFor h]

@[simp] theorem memoriesOk_sleepExpire (n : Nat) (s : State) : memoriesOk (sleepExpire n s) = memoriesOk s := by simp [sleepExpire]

@[simp] theorem memoriesOk_falseWakeExpire (n : Nat) (s : State) : memoriesOk (falseWakeExpire n s) = memoriesOk s := by simp [falseWakeExpire]

@[simp] theorem memoriesOk_linPulse (ch : Nat) (s : State) : memoriesOk (linPulse ch s) = memoriesOk s := by simp [linPulse]

@[simp] theorem memoriesOk_wakeMembers (n : Nat) (src : Option Nat) (s : State) : memoriesOk (wakeMembers n src s) = memoriesOk s := by simp [wakeMembers]

@[simp] theorem memoriesOk_wakeNet (n : Nat) (src : Option Nat) (s : State) : memoriesOk (wakeNet n src s) = memoriesOk s := by simp [wakeNet]

@[simp] theorem memoriesOk_keepAwake (n : Nat) (s : State) : memoriesOk (keepAwake n s) = memoriesOk s := by
  simp only [keepAwake]
  (repeat' split) <;> simp

@[simp] theorem memoriesOk_applyHold (n : Nat) (s : State) : memoriesOk (applyHold n s) = memoriesOk s := by simp [applyHold]

@[simp] theorem memoriesOk_nmSet (r : BitVec 128) (s : State) : memoriesOk (nmSet r s).st = memoriesOk s := by
  simp only [nmSet]
  (repeat' split) <;> simp

@[simp] theorem memoriesOk_nmRequest (mask : BitVec 16) (hold : Bool) (s : State) : memoriesOk (nmRequest mask hold s) = memoriesOk s := by simp [nmRequest]

@[simp] theorem memoriesOk_kaPoll (s : State) : memoriesOk (kaPoll s) = memoriesOk s := by simp [kaPoll]

@[simp] theorem memoriesOk_kaSend (n : Nat) (s : State) : memoriesOk (kaSend n s) = memoriesOk s := by simp [kaSend]

@[simp] theorem memoriesOk_nmTake (ch op : Nat) (m : CanMsg) (s : State) : memoriesOk (nmTake ch op m s).2 = memoriesOk s := by
  simp only [nmTake]
  (repeat' split) <;> simp

theorem memoriesOk_of_nmTake {ch op : Nat} {m : CanMsg} {r : Option (Nat × Nat)} {s t : State} (h : nmTake ch op m s = (r, t)) : memoriesOk t = memoriesOk s :=
  (congrArg (fun x => memoriesOk x.2) h).symm.trans (memoriesOk_nmTake ..)

@[simp] theorem memoriesOk_keepAliveRx (ch : Nat) (m : CanMsg) (s : State) : memoriesOk (keepAliveRx ch m s) = memoriesOk s := by
  unfold keepAliveRx
  split
  · next h => simp [memoriesOk_of_nmTake h]
  · next h => exact memoriesOk_of_nmTake h

@[simp] theorem memoriesOk_readyToSleepRx (ch : Nat) (m : CanMsg) (s : State) : memoriesOk (readyToSleepRx ch m s) = memoriesOk s := by
  unfold readyToSleepRx
  split
  · next h => simp [memoriesOk_of_nmTake h]
  · next h => exact memoriesOk_of_nmTake h

@[simp] theorem memoriesOk_consentRx (ch : Nat) (m : CanMsg) (s : State) : memoriesOk (consentRx ch m s) = memoriesOk s := by
  unfold consentRx
  split
  · next h => dsimp only; split <;> simp [memoriesOk_of_nmTake h]
  · next h => exact memoriesOk_of_nmTake h

@[simp] theorem memoriesOk_refuseRx (ch : Nat) (m : CanMsg) (s : State) : memoriesOk (refuseRx ch m s) = memoriesOk s := by
  unfold refuseRx
  split
  · next h => split <;> simp [memoriesOk_of_nmTake h]
  · next h => exact memoriesOk_of_nmTake h

@[simp] theorem memoriesOk_sleepAck (p : Nat) (s : State) : memoriesOk (sleepAck p s) = memoriesOk s := by
  simp only [sleepAck]
  split <;> simp

@[simp] theorem memoriesOk_pairAck (p : Nat) (s : State) : memoriesOk (pairAck p s) = memoriesOk s := by
  simp only [pairAck]
  split <;> simp

@[simp] theorem memoriesOk_nodeSilent (n : Nat) (e : Nat × Nat) (s : State) : memoriesOk (nodeSilent n e s) = memoriesOk s := by simp [nodeSilent]

@[simp] theorem memoriesOk_portSilent (n p : Nat) (s : State) : memoriesOk (portSilent n p s) = memoriesOk s := by simp [portSilent]

@[simp] theorem memoriesOk_consentTimeout (n : Nat) (s : State) : memoriesOk (consentTimeout n s) = memoriesOk s := by simp [consentTimeout]

@[simp] theorem memoriesOk_memberWakes (n : Nat) (lin : Option Nat) (s : State) : memoriesOk (memberWakes n lin s) = memoriesOk s := by
  simp only [memberWakes]
  (repeat' split) <;> simp

@[simp] theorem memoriesOk_tc10WakeRx (p : Nat) (s : State) : memoriesOk (tc10WakeRx p s) = memoriesOk s := by
  simp only [tc10WakeRx]
  (repeat' split) <;> simp

@[simp] theorem memoriesOk_linWakeRx (ch : Nat) (s : State) : memoriesOk (linWakeRx ch s) = memoriesOk s := by
  simp only [linWakeRx]
  (repeat' split) <;> simp

@[simp] theorem memoriesOk_sleepingCan (ch : Nat) (m : CanMsg) (error : Bool) (s : State) : memoriesOk (sleepingCan ch m error s) = memoriesOk s := by
  simp only [sleepingCan]
  split <;> simp

@[simp] theorem memoriesOk_pinHolds (pin : Nat) (s : State) : memoriesOk (pinHolds pin s) = memoriesOk s := by simp [pinHolds]

/-! Commands' helpers -/

@[simp] theorem memoriesOk_commitList (port : Nat) (s : State) : memoriesOk (commitList port s) = memoriesOk s := by rfl

@[simp] theorem memoriesOk_setBeaconTime (t : Nat) (s : State) : memoriesOk (setBeaconTime t s) = memoriesOk s := by simp [setBeaconTime]

@[simp] theorem memoriesOk_gptpSet (p : List Byte) (s : State) : memoriesOk (gptpSet p s) = memoriesOk s := by simp [gptpSet]

@[simp] theorem memoriesOk_configBase (i : Nat) (r : BitVec 128) (s : State) : memoriesOk (configBase i r s) = memoriesOk s := by rfl

@[simp] theorem memoriesOk_markSet (o : Nat) (r : BitVec 64) (ks : List (BitVec 128)) (s : State) : memoriesOk (markSet o r ks s) = memoriesOk s := by
  simp only [markSet]
  (repeat' split) <;> simp

@[simp] theorem memoriesOk_forgetCharges (pol : Nat) (s : State) : memoriesOk (forgetCharges pol s) = memoriesOk s := by rfl

@[simp] theorem memoriesOk_canSet (ch : Nat) (r : BitVec 128) (s : State) : memoriesOk (canSet ch r s) = memoriesOk s := by simp [canSet]

@[simp] theorem memoriesOk_linSet (ch : Nat) (r : BitVec 64) (s : State) : memoriesOk (linSet ch r s) = memoriesOk s := by rfl

end Sys2Proof.Machine
end

section
/-! Proofs/CanonicalTwin: the twin and the commands of every class write none of the ring and descriptor memories. -/

namespace Sys2Proof.Machine
open Sys2Proof.Claims

/-! The twin -/

@[simp] theorem memoriesOk_sendParts (kind : Nat) (gen : BitVec 32) (rs : List ImageRec) (s : State) :
    memoriesOk (sendParts kind gen rs s) = memoriesOk s := by simp [sendParts]

@[simp] theorem memoriesOk_sendDelta (s : State) : memoriesOk (sendDelta s) = memoriesOk s := by simp [sendDelta]

@[simp] theorem memoriesOk_deltaTx (s : State) : memoriesOk (deltaTx s) = memoriesOk s := by simp [deltaTx]

@[simp] theorem memoriesOk_fullTx (s : State) : memoriesOk (fullTx s) = memoriesOk s := by simp [fullTx]

@[simp] theorem memoriesOk_releaseHeld (due : HeldReply → Bool) (replicated : Bool) (s : State) :
    memoriesOk (releaseHeld due replicated s) = memoriesOk s := by simp [releaseHeld]

@[simp] theorem memoriesOk_loseTwinPartner (s : State) : memoriesOk (loseTwinPartner s) = memoriesOk s := by
  simp only [loseTwinPartner]
  split <;> simp

@[simp] theorem memoriesOk_enterStandby (s : State) : memoriesOk (enterStandby s) = memoriesOk s := by simp [enterStandby]

@[simp] theorem memoriesOk_handOver (s : State) : memoriesOk (handOver s) = memoriesOk s := by simp [handOver]

@[simp] theorem memoriesOk_takeOver (s : State) : memoriesOk (takeOver s) = memoriesOk s := by simp [takeOver]

@[simp] theorem memoriesOk_hbLoss (s : State) : memoriesOk (hbLoss s) = memoriesOk s := by simp [hbLoss]

@[simp] theorem memoriesOk_silence (s : State) : memoriesOk (silence s) = memoriesOk s := by
  simp only [silence]
  (repeat' split) <;> simp

@[simp] theorem memoriesOk_twinLinkLost (s : State) : memoriesOk (twinLinkLost s) = memoriesOk s := by simp [twinLinkLost]

@[simp] theorem memoriesOk_hbToggle (s : State) : memoriesOk (hbToggle s) = memoriesOk s := by simp [hbToggle]

@[simp] theorem memoriesOk_helloTx (s : State) : memoriesOk (helloTx s) = memoriesOk s := by simp [helloTx]

@[simp] theorem memoriesOk_twinHeard (s : State) : memoriesOk (twinHeard s) = memoriesOk s := by rfl

@[simp] theorem memoriesOk_meetPartner (m : TwinMode) (before : Option TwinMode) (s : State) : memoriesOk (meetPartner m before s) = memoriesOk s := by
  simp only [meetPartner]
  split <;> simp

@[simp] theorem memoriesOk_helloRx (h : Hello) (s : State) : memoriesOk (helloRx h s) = memoriesOk s := by
  simp only [helloRx]
  (repeat' split) <;> simp

@[simp] theorem memoriesOk_waitTimeout (s : State) : memoriesOk (waitTimeout s) = memoriesOk s := by simp [waitTimeout]

@[simp] theorem memoriesOk_leaveRelinquished (s : State) : memoriesOk (leaveRelinquished s) = memoriesOk s := by simp [leaveRelinquished]

@[simp] theorem memoriesOk_supervisorReady (s : State) : memoriesOk (supervisorReady s) = memoriesOk s := by
  simp only [supervisorReady]
  split <;> simp

@[simp] theorem memoriesOk_grantStep (s : State) : memoriesOk (grantStep s) = memoriesOk s := by
  simp only [grantStep]
  split <;> simp

@[simp] theorem memoriesOk_ackRx (gen : BitVec 32) (s : State) : memoriesOk (ackRx gen s) = memoriesOk s := by
  simp only [ackRx]
  (repeat' split) <;> simp

@[simp] theorem memoriesOk_ackTimeout (s : State) : memoriesOk (ackTimeout s) = memoriesOk s := by
  simp only [ackTimeout]
  split <;> simp

@[simp] theorem memoriesOk_finalDelta (takeback : Bool) (s : State) : memoriesOk (finalDelta takeback s) = memoriesOk s := by simp [finalDelta]

@[simp] theorem memoriesOk_takebackReq (s : State) : memoriesOk (takebackReq s) = memoriesOk s := by simp [takebackReq]

@[simp] theorem memoriesOk_afterPause (s : State) : memoriesOk (afterPause s) = memoriesOk s := by simp [afterPause]

@[simp] theorem memoriesOk_takebackGrant (s : State) : memoriesOk (takebackGrant s) = memoriesOk s := by
  simp only [takebackGrant]
  (repeat' split) <;> simp

@[simp] theorem memoriesOk_grantTimeout (s : State) : memoriesOk (grantTimeout s) = memoriesOk s := by
  simp only [grantTimeout]
  split <;> simp

@[simp] theorem memoriesOk_holdOffExpire (s : State) : memoriesOk (holdOffExpire s) = memoriesOk s := by simp [holdOffExpire]

@[simp] theorem memoriesOk_relinquishRx (s : State) : memoriesOk (relinquishRx s) = memoriesOk s := by simp [relinquishRx]

@[simp] theorem memoriesOk_leaveRx (s : State) : memoriesOk (leaveRx s) = memoriesOk s := by simp [leaveRx]

@[simp] theorem memoriesOk_lightsOutRx (target : Nat) (s : State) : memoriesOk (lightsOutRx target s) = memoriesOk s := by simp [lightsOutRx]

@[simp] theorem memoriesOk_sendRelays (s : State) : memoriesOk (sendRelays s) = memoriesOk s := by simp [sendRelays]

@[simp] theorem memoriesOk_statusTx (mask : BitVec 16) (s : State) : memoriesOk (statusTx mask s) = memoriesOk s := by simp [statusTx]

@[simp] theorem memoriesOk_statusRx (b : List Byte) (s : State) : memoriesOk (statusRx b s) = memoriesOk s := by simp [statusRx]

@[simp] theorem memoriesOk_nmDispatch (ch : Nat) (m : CanMsg) (s : State) : memoriesOk (nmDispatch ch m s) = memoriesOk s := by
  simp only [nmDispatch]
  split <;> simp

@[simp] theorem memoriesOk_relayUp (kind inst : Nat) (msg : List Byte) (s : State) : memoriesOk (relayUp kind inst msg s) = memoriesOk s := by
  simp only [relayUp]
  (repeat' split) <;> simp

@[simp] theorem memoriesOk_relayDown (kind inst : Nat) (msg : List Byte) (s : State) : memoriesOk (relayDown kind inst msg s) = memoriesOk s := by
  simp only [relayDown]
  (repeat' split) <;> simp

@[simp] theorem memoriesOk_relayTc10 (kind p : Nat) (s : State) : memoriesOk (relayTc10 kind p s) = memoriesOk s := by simp [relayTc10]

@[simp] theorem memoriesOk_twinSet (mode holdOff : Nat) (s : State) : memoriesOk (twinSet mode holdOff s).st = memoriesOk s := by
  simp only [twinSet]
  (repeat' split) <;> simp

@[simp] theorem memoriesOk_relinquishNow (s : State) : memoriesOk (relinquishNow s).st = memoriesOk s := by
  simp only [relinquishNow]
  split <;> simp

@[simp] theorem memoriesOk_fwVerify (s : State) : memoriesOk (fwVerify s).st = memoriesOk s := by
  simp only [fwVerify]
  split <;> simp

@[simp] theorem memoriesOk_fwSwitch (s : State) : memoriesOk (fwSwitch s).st = memoriesOk s := by
  simp only [fwSwitch]
  (repeat' split) <;> simp

@[simp] theorem memoriesOk_switchBank (s : State) : memoriesOk (switchBank s) = memoriesOk s := by
  simp only [switchBank]
  split <;> simp

@[simp] theorem memoriesOk_clearRead (c : Ctr) (i : Nat) (s : State) : memoriesOk (clearRead c i s) = memoriesOk s := by simp [clearRead]

@[simp] theorem memoriesOk_settleCount (c : Ctr) (s : State) : memoriesOk (settleCount c s) = memoriesOk s := by simp [settleCount]

@[simp] theorem memoriesOk_counterRead (c : Ctr) (first n : Nat) (peek : Bool) (s0 : State) :
    memoriesOk (counterRead c first n peek s0).st = memoriesOk s0 := by simp [counterRead]

@[simp] theorem memoriesOk_otherStatus (p : List Byte) (s : State) : memoriesOk (otherStatus p s).st = memoriesOk s := by
  simp only [otherStatus]
  split <;> simp

@[simp] theorem memoriesOk_keyTrace (port : Nat) (bs : List Byte) (s : State) : memoriesOk (keyTrace port bs s).st = memoriesOk s := by
  simp only [keyTrace]
  (repeat' split) <;> simp

/-! The commands -/

@[simp] theorem memoriesOk_st_ite (p : Prop) [Decidable p] (x y : CmdResult) :
    memoriesOk (if p then x else y).st = if p then memoriesOk x.st else memoriesOk y.st := apply_ite (fun r => memoriesOk (CmdResult.st r)) p x y

/-- A status item is read without a write to the ring and descriptor memories. -/
def StatusItem.KeepsMemories (x : StatusItem) : Prop := ∀ i s, memoriesOk (x.value i s).2 = memoriesOk s

theorem keepsMemories_item (name : String) (n f : Nat) (v : Nat → State → List Byte) : (item name n f v).KeepsMemories := fun _ _ => rfl

theorem keepsMemories_flagItem (name : String) (n : Nat) (b : Nat → State → Bool) : (flagItem name n b).KeepsMemories := fun _ _ => rfl

theorem keepsMemories_freeItem (n b : Nat) : (freeItem n b).KeepsMemories := fun _ s => memoriesOk_drawBelow (256 ^ b) s

theorem keepsMemories_of_mem_statusItems {x : StatusItem} (hx : x ∈ statusItems) : x.KeepsMemories := by
  revert x
  simp only [statusItems, scheduleItems, portItems, keyItems, powerItems, moduleItems, List.forall_mem_append, List.forall_mem_cons, keepsMemories_item, keepsMemories_flagItem, keepsMemories_freeItem]
  simp

theorem keepsMemories_of_statusItemOf {code : Nat} {x : StatusItem} (h : statusItemOf code = some x) : x.KeepsMemories := by
  obtain ⟨i, -, hi⟩ := Option.bind_eq_some_iff.mp h
  exact keepsMemories_of_mem_statusItems (List.mem_of_getElem? hi)

/-- A command's body and what it starts before it waits leave the canonical form of the ring and descriptor memories as it is. -/
structure Cmd.KeepsMemories (c : Cmd) : Prop where
  body : ∀ v p s, memoriesOk (c.body v p s).st = memoriesOk s
  start : ∀ p s, memoriesOk (c.start p s) = memoriesOk s

theorem keepsMemories_deviceCmds {c : Cmd} (hc : c ∈ deviceCmds) : c.KeepsMemories := by
  obtain rfl | rfl | rfl | rfl | rfl | rfl | rfl | rfl := by simpa only [deviceCmds, List.mem_cons, List.not_mem_nil, or_false] using hc
  · exact ⟨fun v p s => by simp [cmdDeviceInfo], fun _ _ => rfl⟩
  · exact ⟨fun v p s => by simp [cmdSeqFloor], fun _ _ => rfl⟩
  · exact ⟨fun v p s => by simp [cmdSetCmdKey], fun _ _ => rfl⟩
  · exact ⟨fun v p s => by simp [cmdSetLimits], fun _ _ => rfl⟩
  · exact ⟨fun v p s => by simp [cmdEventSubscribe], fun _ _ => rfl⟩
  · exact ⟨fun v p s => by simp [cmdConfigSave], fun _ _ => rfl⟩
  · exact ⟨fun v p s => by simp [cmdReset], fun _ _ => rfl⟩
  · exact ⟨fun v p s => by simp [cmdEcho], fun _ _ => rfl⟩

theorem keepsMemories_portCmds {c : Cmd} (hc : c ∈ portCmds) : c.KeepsMemories := by
  obtain rfl | rfl | rfl | rfl | rfl | rfl := by simpa only [portCmds, List.mem_cons, List.not_mem_nil, or_false] using hc
  · exact ⟨fun v p s => by simp [cmdPortSet], fun _ _ => rfl⟩
  · exact ⟨fun v p s => by simp [cmdPortGet], fun _ _ => rfl⟩
  · exact ⟨fun v p s => by simp [cmdPortStatus], fun _ _ => rfl⟩
  · exact ⟨fun v p s => by simp [cmdLldpSet], fun _ _ => rfl⟩
  · exact ⟨fun v p s => by simp [cmdPartnerZones], fun _ _ => rfl⟩
  · exact ⟨fun v p s => by simp [cmdFastlinkClear], fun _ _ => rfl⟩

theorem keepsMemories_queueCmds {c : Cmd} (hc : c ∈ queueCmds) : c.KeepsMemories := by
  obtain rfl | rfl | rfl | rfl := by simpa only [queueCmds, List.mem_cons, List.not_mem_nil, or_false] using hc
  · exact ⟨fun v p s => by simp [cmdQueueSet], fun _ _ => rfl⟩
  · exact ⟨fun v p s => by simp [cmdBufferSet], fun _ _ => rfl⟩
  · exact ⟨fun v p s => by simp [cmdQueueStatus], fun _ _ => rfl⟩
  · exact ⟨fun v p s => by simp [cmdBoltStatus], fun _ _ => rfl⟩

theorem keepsMemories_schedCmds {c : Cmd} (hc : c ∈ schedCmds) : c.KeepsMemories := by
  obtain rfl | rfl | rfl | rfl | rfl | rfl | rfl | rfl | rfl | rfl := by simpa only [schedCmds, List.mem_cons, List.not_mem_nil, or_false] using hc
  · exact ⟨fun v p s => by simp [cmdGclWrite], fun _ _ => rfl⟩
  · exact ⟨fun v p s => by simp [cmdGclParams], fun _ _ => rfl⟩
  · exact ⟨fun v p s => by simp [cmdGclCommit], fun _ _ => rfl⟩
  · exact ⟨fun v p s => by simp only [cmdGclCancel]; (repeat' split) <;> simp, fun _ _ => rfl⟩
  · exact ⟨fun v p s => by simp [cmdGclRead], fun _ _ => rfl⟩
  · exact ⟨fun v p s => by simp [cmdGclStatus], fun _ _ => rfl⟩
  · exact ⟨fun v p s => by simp [cmdSgateWrite], fun _ _ => rfl⟩
  · exact ⟨fun v p s => by simp [cmdSgateCommit], fun _ _ => rfl⟩
  · exact ⟨fun v p s => by simp only [cmdSgateCancel]; (repeat' split) <;> simp, fun _ _ => rfl⟩
  · exact ⟨fun v p s => by simp [cmdSgateUnlock], fun _ _ => rfl⟩

theorem keepsMemories_timeCmds {c : Cmd} (hc : c ∈ timeCmds) : c.KeepsMemories := by
  obtain rfl | rfl | rfl | rfl | rfl | rfl | rfl | rfl | rfl | rfl | rfl | rfl | rfl | rfl := by simpa only [timeCmds, List.mem_cons, List.not_mem_nil, or_false] using hc
  · exact ⟨fun v p s => by simp [cmdTimeGet], fun _ _ => rfl⟩
  · exact ⟨fun v p s => by simp [cmdSetTime], fun _ _ => rfl⟩
  · exact ⟨fun v p s => by simp [cmdGmSetTime], fun _ _ => rfl⟩
  · exact ⟨fun v p s => by simp [cmdAcceptStep], fun _ _ => rfl⟩
  · exact ⟨fun v p s => by simp [cmdServoSet], fun _ _ => rfl⟩
  · exact ⟨fun v p s => by simp [cmdGptpSet], fun _ _ => rfl⟩
  · exact ⟨fun v p s => by simp [cmdRateSet], fun _ _ => rfl⟩
  · exact ⟨fun v p s => by simp [cmdDomainConvert], fun _ _ => rfl⟩
  · exact ⟨fun v p s => by simp [cmdPortTrim], fun _ _ => rfl⟩
  · exact ⟨fun v p s => by simp [cmdStbConfig], fun _ _ => rfl⟩
  · exact ⟨fun v p s => by simp [cmdStbRead], fun _ _ => rfl⟩
  · exact ⟨fun v p s => by simp [cmdStbSample], fun _ _ => rfl⟩
  · exact ⟨fun v p s => by simp [cmdStbDir], fun _ _ => rfl⟩
  · exact ⟨fun v p s => by simp [cmdMarkSet], fun _ _ => rfl⟩

theorem keepsMemories_patternCmds {c : Cmd} (hc : c ∈ patternCmds) : c.KeepsMemories := by
  obtain rfl | rfl | rfl | rfl | rfl | rfl | rfl | rfl | rfl | rfl | rfl | rfl | rfl | rfl | rfl := by simpa only [patternCmds, List.mem_cons, List.not_mem_nil, or_false] using hc
  · exact ⟨fun v p s => by simp [cmdNodeLoad], fun _ _ => rfl⟩
  · exact ⟨fun v p s => by simp [cmdRootSet], fun _ _ => rfl⟩
  · exact ⟨fun v p s => by simp [cmdZoneMapSet], fun _ _ => rfl⟩
  · exact ⟨fun v p s => by simp [cmdMatrixSet], fun _ _ => rfl⟩
  · exact ⟨fun v p s => by simp [cmdGroupSet], fun _ _ => rfl⟩
  · exact ⟨fun v p s => by simp [cmdEpochSwap], fun _ _ => rfl⟩
  · exact ⟨fun v p s => by simp [cmdEpochDiscard], fun _ _ => rfl⟩
  · exact ⟨fun v p s => by simp [cmdEpochStatus], fun _ _ => rfl⟩
  · exact ⟨fun v p s => by simp [cmdPatOptions], fun _ _ => rfl⟩
  · exact ⟨fun v p s => by simp [cmdSfSet], fun _ _ => rfl⟩
  · exact ⟨fun v p s => by simp [cmdSfUnblock], fun _ _ => rfl⟩
  · exact ⟨fun v p s => by simp [cmdPolicerSet], fun _ _ => rfl⟩
  · exact ⟨fun v p s => by simp [cmdPolicerUnlatch], fun _ _ => rfl⟩
  · exact ⟨fun v p s => by simp [cmdFrerGenSet], fun _ _ => rfl⟩
  · exact ⟨fun v p s => by simp [cmdFrerRecSet], fun _ _ => rfl⟩

theorem keepsMemories_gatewayCmds {c : Cmd} (hc : c ∈ gatewayCmds) : c.KeepsMemories := by
  obtain rfl | rfl | rfl | rfl | rfl | rfl | rfl | rfl | rfl | rfl | rfl | rfl := by simpa only [gatewayCmds, List.mem_cons, List.not_mem_nil, or_false] using hc
  · exact ⟨fun v p s => by simp [cmdCanSet], fun _ _ => rfl⟩
  · exact ⟨fun v p s => by simp [cmdLinSet], fun _ _ => rfl⟩
  · exact ⟨fun v p s => by simp [cmdRouteWrite], fun _ _ => rfl⟩
  · exact ⟨fun v p s => by simp [cmdContainerSet], fun _ _ => rfl⟩
  · exact ⟨fun v p s => by simp [cmdLinFrames], fun _ _ => rfl⟩
  · exact ⟨fun v p s => by simp [cmdLinSchedule], fun _ _ => rfl⟩
  · exact ⟨fun v p s => by simp [cmdLinSelect], fun _ _ => rfl⟩
  · exact ⟨fun v p s => by simp [cmdSlotTable], fun _ _ => rfl⟩
  · exact ⟨fun v p s => by simp [cmdBusRecover], fun _ _ => rfl⟩
  · exact ⟨fun v p s => by simp [cmdRateCand], fun _ _ => rfl⟩
  · exact ⟨fun v p s => by simp [cmdIsoInstance], fun _ _ => rfl⟩
  · exact ⟨fun v p s => by simp [cmdChannelStatus], fun _ _ => rfl⟩

theorem keepsMemories_selvageCmds {c : Cmd} (hc : c ∈ selvageCmds) : c.KeepsMemories := by
  obtain rfl | rfl | rfl | rfl | rfl | rfl | rfl | rfl | rfl | rfl | rfl := by simpa only [selvageCmds, List.mem_cons, List.not_mem_nil, or_false] using hc
  · exact ⟨fun v p s => by simp [cmdLinkSet], fun _ _ => rfl⟩
  · exact ⟨fun v p s => by simp [cmdLinkStatus], fun _ _ => rfl⟩
  · exact ⟨fun v p s => by simp [cmdLinkRedetect], fun _ _ => rfl⟩
  · exact ⟨fun v p s => by simp [cmdUnhitch], fun _ _ => rfl⟩
  · exact ⟨fun v p s => by simp [cmdDiscConfig], fun _ _ => rfl⟩
  · exact ⟨fun v p s => by simp [cmdDiscWrite], fun _ _ => rfl⟩
  · exact ⟨fun v p s => by simp [cmdDiscTable], fun _ _ => rfl⟩
  · exact ⟨fun v p s => by simp [cmdDccbSend], fun _ _ => rfl⟩
  · exact ⟨fun v p s => by simp only [cmdDccbRecv]; (repeat' split) <;> simp, fun _ _ => rfl⟩
  · exact ⟨fun v p s => by simp [cmdZoneTable], fun _ _ => rfl⟩
  · exact ⟨fun v p s => by simp [cmdTtRead], fun _ _ => rfl⟩

theorem keepsMemories_keyCmds {c : Cmd} (hc : c ∈ keyCmds) : c.KeepsMemories := by
  obtain rfl | rfl | rfl | rfl | rfl | rfl | rfl | rfl | rfl := by simpa only [keyCmds, List.mem_cons, List.not_mem_nil, or_false] using hc
  · exact ⟨fun v p s => memoriesOk_whileQuiet (by simp), fun _ _ => rfl⟩
  · exact ⟨fun v p s => memoriesOk_whileQuiet (by simp), fun _ _ => rfl⟩
  · exact ⟨fun v p s => memoriesOk_whileQuiet (by simp), fun _ _ => rfl⟩
  · exact ⟨fun v p s => memoriesOk_whileQuiet (by simp), fun _ _ => rfl⟩
  · exact ⟨fun v p s => by simp [cmdReadAttr], fun _ _ => rfl⟩
  · exact ⟨fun v p s => memoriesOk_whileQuiet (by simp), fun _ _ => rfl⟩
  · exact ⟨fun v p s => memoriesOk_whileQuiet (by simp), fun _ _ => rfl⟩
  · exact ⟨fun v p s => memoriesOk_whileQuiet (by simp), fun _ _ => rfl⟩
  · exact ⟨fun v p s => memoriesOk_whileQuiet (by simp), fun _ _ => rfl⟩

theorem keepsMemories_cipherCmds {c : Cmd} (hc : c ∈ cipherCmds) : c.KeepsMemories := by
  obtain rfl | rfl | rfl | rfl | rfl | rfl | rfl | rfl | rfl | rfl | rfl | rfl | rfl := by simpa only [cipherCmds, List.mem_cons, List.not_mem_nil, or_false] using hc
  · exact ⟨fun v p s => by simp [cmdCtxWrite], fun _ _ => rfl⟩
  · exact ⟨fun v p s => by simp [cmdCtxRead], fun _ _ => rfl⟩
  · exact ⟨fun v p s => by simp [cmdSaWrite], fun _ _ => rfl⟩
  · exact ⟨fun v p s => by simp [cmdSaRead], fun _ _ => rfl⟩
  · exact ⟨fun v p s => by simp [cmdStage], fun _ _ => rfl⟩
  · exact ⟨fun v p s => by simp [cmdStageClear], fun _ _ => rfl⟩
  · exact ⟨fun v p s => by simp [cmdStageRead], fun _ _ => rfl⟩
  · exact ⟨fun v p s => by simp [cmdHmac, memoriesOk_stagedOp], fun _ _ => rfl⟩
  · exact ⟨fun v p s => by simp [cmdCmac, memoriesOk_stagedOp], fun _ _ => rfl⟩
  · exact ⟨fun v p s => by simp [cmdGcmSeal, memoriesOk_stagedOp], fun _ _ => rfl⟩
  · exact ⟨fun v p s => by simp [cmdGcmOpen, memoriesOk_stagedOp], fun _ _ => rfl⟩
  · exact ⟨fun v p s => by simp [cmdModeSet], fun _ _ => rfl⟩
  · exact ⟨fun v p s => by simp [cmdKatRun], fun _ _ => rfl⟩

theorem keepsMemories_powerCmds {c : Cmd} (hc : c ∈ powerCmds) : c.KeepsMemories := by
  obtain rfl | rfl | rfl | rfl | rfl | rfl := by simpa only [powerCmds, List.mem_cons, List.not_mem_nil, or_false] using hc
  · exact ⟨fun v p s => by simp [cmdPowerReq], fun _ _ => rfl⟩
  · exact ⟨fun v p s => by simp [cmdPowerStatus], fun _ _ => rfl⟩
  · exact ⟨fun v p s => by simp [cmdNmSet], fun _ _ => rfl⟩
  · exact ⟨fun v p s => by simp [cmdNmRequest], fun _ _ => rfl⟩
  · exact ⟨fun v p s => by simp [cmdWakeSet], fun _ _ => rfl⟩
  · exact ⟨fun v p s => by simp [cmdWakeCause], fun _ _ => rfl⟩

theorem keepsMemories_safetyCmds {c : Cmd} (hc : c ∈ safetyCmds) : c.KeepsMemories := by
  obtain rfl | rfl | rfl | rfl | rfl | rfl := by simpa only [safetyCmds, List.mem_cons, List.not_mem_nil, or_false] using hc
  · exact ⟨fun v p s => by simp [cmdLampStatus], fun _ _ => rfl⟩
  · exact ⟨fun v p s => by simp [cmdSafeRelease], fun _ _ => rfl⟩
  · exact ⟨fun v p s => by simp [cmdSafeOpen], fun _ _ => rfl⟩
  · exact ⟨fun v p s => by simp [cmdFaultInject], fun _ _ => rfl⟩
  · exact ⟨fun v p s => by simp [cmdDebugChallenge], fun _ _ => rfl⟩
  · exact ⟨fun v p s => by simp [cmdDebugUnlock], fun _ _ => rfl⟩

theorem keepsMemories_twinCmds {c : Cmd} (hc : c ∈ twinCmds) : c.KeepsMemories := by
  obtain rfl | rfl | rfl := by simpa only [twinCmds, List.mem_cons, List.not_mem_nil, or_false] using hc
  · exact ⟨fun v p s => by simp [cmdTwinSet], fun _ _ => rfl⟩
  · exact ⟨fun v p s => by simp [cmdTwinStatus], fun _ _ => rfl⟩
  · exact ⟨fun v p s => by simp [cmdRelinquish], fun p s => memoriesOk_if (memoriesOk_finalDelta ..) rfl⟩

theorem keepsMemories_updateCmds {c : Cmd} (hc : c ∈ updateCmds) : c.KeepsMemories := by
  obtain rfl | rfl | rfl | rfl := by simpa only [updateCmds, List.mem_cons, List.not_mem_nil, or_false] using hc
  · exact ⟨fun v p s => by simp [cmdFwWrite], fun _ _ => rfl⟩
  · exact ⟨fun v p s => by simp [cmdFwVerify], fun _ _ => rfl⟩
  · exact ⟨fun v p s => by simp [cmdFwSwitch], fun _ _ => rfl⟩
  · exact ⟨fun v p s => by simp [cmdFwStatus], fun _ _ => rfl⟩

theorem keepsMemories_diagCmds {c : Cmd} (hc : c ∈ diagCmds) : c.KeepsMemories := by
  obtain rfl | rfl | rfl | rfl | rfl | rfl | rfl | rfl := by simpa only [diagCmds, List.mem_cons, List.not_mem_nil, or_false] using hc
  · exact ⟨fun v p s => by simp [cmdCounterCatalog], fun _ _ => rfl⟩
  · exact ⟨fun v p s => by simp only [cmdCounterRead]; (repeat' split) <;> simp, fun _ _ => rfl⟩
  · refine ⟨fun v p s => ?_, fun _ _ => rfl⟩
    simp only [cmdStatusRead]
    split
    · next h => simp [keepsMemories_of_statusItemOf h (numAt p 2 2) s]
    · split <;> simp
  · exact ⟨fun v p s => by simp [cmdDescRead], fun _ _ => rfl⟩
  · exact ⟨fun v p s => by simp [cmdMcLinkRead], fun _ _ => rfl⟩
  · exact ⟨fun v p s => by simp [cmdKeyTrace], fun _ _ => rfl⟩
  · exact ⟨fun v p s => by simp [cmdEventLogRead], fun _ _ => rfl⟩
  · exact ⟨fun v p s => by simp [cmdEventCatalog], fun _ _ => rfl⟩

theorem keepsMemories_of_cmdOf {cls opcode : Nat} {c : Cmd} (h : cmdOf cls opcode = some c) : c.KeepsMemories := by
  have hc : c ∈ allCmds := List.mem_of_find?_eq_some h
  simp only [allCmds, List.mem_append] at hc
  obtain hc | hc | hc | hc | hc | hc | hc | hc | hc | hc | hc | hc | hc | hc | hc := hc
  · exact keepsMemories_deviceCmds hc
  · exact keepsMemories_portCmds hc
  · exact keepsMemories_queueCmds hc
  · exact keepsMemories_schedCmds hc
  · exact keepsMemories_timeCmds hc
  · exact keepsMemories_patternCmds hc
  · exact keepsMemories_gatewayCmds hc
  · exact keepsMemories_selvageCmds hc
  · exact keepsMemories_keyCmds hc
  · exact keepsMemories_cipherCmds hc
  · exact keepsMemories_powerCmds hc
  · exact keepsMemories_safetyCmds hc
  · exact keepsMemories_twinCmds hc
  · exact keepsMemories_updateCmds hc
  · exact keepsMemories_diagCmds hc

end Sys2Proof.Machine
end

section
/-! Proofs/CanonicalService: the service, boot, resets and the events' own actions: a cold state lists nothing, all others keep the canonical form. -/

namespace Sys2Proof.Machine
open Sys2Proof.Claims

@[simp] theorem memoriesOk_noteRecord (c : Cmd) (p : List Byte) (before s : State) : memoriesOk (noteRecord c p before s) = memoriesOk s := by
  simp only [noteRecord]
  (repeat' split) <;> simp

theorem memoriesOk_runCmd {cls opcode : Nat} {c : Cmd} (hc : cmdOf cls opcode = some c) (v : Via) (p : List Byte) (s : State) :
    memoriesOk (runCmd c v p s).st = memoriesOk s := by
  have hbody := (keepsMemories_of_cmdOf hc).body v p s
  simp only [runCmd]
  split <;> simp [hbody]

/-! The twin's records -/

@[simp] theorem memoriesOk_applySuper (item : Nat) (b : List Byte) (s : State) : memoriesOk (applySuper item b s) = memoriesOk s := by
  simp only [applySuper]
  split <;> simp

@[simp] theorem memoriesOk_applyCmd (r : ImageRec) (s : State) : memoriesOk (applyCmd r s) = memoriesOk s := by
  simp only [applyCmd]
  split
  · rfl
  · next hc =>
    rw [memoriesOk_runCmd hc]
    (repeat' split) <;> simp

@[simp] theorem memoriesOk_standbyCommit (r : ImageRec) (s : State) : memoriesOk (standbyCommit r s) = memoriesOk s := by simp [standbyCommit]

@[simp] theorem memoriesOk_standbyGate (r : ImageRec) (s : State) : memoriesOk (standbyGate r s) = memoriesOk s := by
  simp only [standbyGate]
  (repeat' split) <;> simp

@[simp] theorem memoriesOk_standbySwap (n : Nat) (s : State) : memoriesOk (standbySwap n s) = memoriesOk s := by simp [standbySwap]

@[simp] theorem memoriesOk_deferRecord (r : ImageRec) (s : State) : memoriesOk (deferRecord r s) = memoriesOk s := by
  simp only [deferRecord]
  split <;> simp

@[simp] theorem memoriesOk_applyTwinRecord (r : ImageRec) (s : State) : memoriesOk (applyTwinRecord r s) = memoriesOk s := by simp [applyTwinRecord]

@[simp] theorem memoriesOk_swapRetry (s : State) : memoriesOk (swapRetry s) = memoriesOk s := by
  simp only [swapRetry]
  split <;> simp

@[simp] theorem memoriesOk_forgetObject (r : ImageRec) (s : State) : memoriesOk (forgetObject r s) = memoriesOk s := by
  simp only [forgetObject]
  split <;> simp

@[simp] theorem memoriesOk_applyDeferred (s : State) : memoriesOk (applyDeferred s) = memoriesOk s := by simp [applyDeferred]

@[simp] theorem memoriesOk_applyFull (rs : List ImageRec) (s : State) : memoriesOk (applyFull rs s) = memoriesOk s := by simp [applyFull]

@[simp] theorem memoriesOk_writeGeneration (gen : BitVec 32) (s : State) : memoriesOk (writeGeneration gen s) = memoriesOk s := by simp [writeGeneration]

@[simp] theorem memoriesOk_fullDone (gen : BitVec 32) (rs : List ImageRec) (s : State) : memoriesOk (fullDone gen rs s) = memoriesOk s := by simp [fullDone]

@[simp] theorem memoriesOk_deltaDone (gen : BitVec 32) (rs : List ImageRec) (s : State) : memoriesOk (deltaDone gen rs s) = memoriesOk s := by simp [deltaDone]

@[simp] theorem memoriesOk_partRx (full : Bool) (gen : BitVec 32) (part parts : Nat) (rs : List ImageRec) (s : State) :
    memoriesOk (partRx full gen part parts rs s) = memoriesOk s := by
  simp only [partRx]
  (repeat' split) <;> simp

/-! Boot and resets -/

@[simp] theorem memoriesOk_coldState (s : State) : memoriesOk (coldState s) = true := rfl

@[simp] theorem memoriesOk_keepAo (old s : State) : memoriesOk (keepAo old s) = memoriesOk s := rfl

@[simp] theorem memoriesOk_beginBoot (last : Nat) (strap : Bool) (s : State) : memoriesOk (beginBoot last strap s) = memoriesOk s := by simp [beginBoot]

@[simp] theorem memoriesOk_powerOn (strap : Bool) (s : State) : memoriesOk (powerOn strap s) = true := by
  simp [powerOn, memoriesOk_coldState]

@[simp] theorem memoriesOk_resetModule (last : Nat) (strap : Bool) (s : State) : memoriesOk (resetModule last strap s) = memoriesOk s := by
  simp only [resetModule]
  split <;> simp

@[simp] theorem memoriesOk_rstN (heldNs : Nat) (strap : Bool) (s : State) : memoriesOk (rstN heldNs strap s) = memoriesOk s := by simp [rstN]

@[simp] theorem memoriesOk_moduleResetDue (s : State) : memoriesOk (moduleResetDue s) = memoriesOk s := by
  simp only [moduleResetDue]
  split <;> simp

@[simp] theorem memoriesOk_keeperResetDue (s : State) : memoriesOk (keeperResetDue s) = memoriesOk s := by
  simp only [keeperResetDue]
  split <;> simp

@[simp] theorem memoriesOk_takeBank (b : Nat) (s : State) : memoriesOk (takeBank b s) = memoriesOk s := by simp [takeBank]

@[simp] theorem memoriesOk_enterRecovery (s : State) : memoriesOk (enterRecovery s) = memoriesOk s := by simp [enterRecovery]

theorem memoriesOk_foldl_option {α : Type} (l : List α) {f : Option State → α → Option State} {b : Bool} (hf : ∀ o a, (∀ t, o = some t → memoriesOk t = b) → ∀ t, f o a = some t → memoriesOk t = b)
    {o : Option State} (ho : ∀ t, o = some t → memoriesOk t = b) : ∀ t, l.foldl f o = some t → memoriesOk t = b :=
  List.foldlRecOn (motive := fun o => ∀ t, o = some t → memoriesOk t = b) l f ho (fun o h a _ => hf o a h)

theorem memoriesOk_bodyThen {c : Cmd} (hc : c.KeepsMemories) {o : Option State} {v : Via} {p : List Byte} {b : Bool} (ho : ∀ t, o = some t → memoriesOk t = b) (t : State)
    (h : o.bind (fun u => let r := c.body v p u; if r.status = .ok then some r.st else none) = some t) : memoriesOk t = b := by
  obtain ⟨u, hu, h⟩ := Option.bind_eq_some_iff.mp h
  dsimp only at h
  split at h
  · cases h; rw [hc.body, ho u hu]
  · cases h

theorem memoriesOk_commitAll {s t : State} (h : commitAll s = some t) : memoriesOk t = memoriesOk s := by
  simp only [commitAll] at h
  refine memoriesOk_foldl_option _ (fun o a ho => memoriesOk_bodyThen (keepsMemories_schedCmds (c := cmdSgateCommit) (by simp [schedCmds])) ho) ?_ t h
  exact memoriesOk_foldl_option _ (fun o a ho => memoriesOk_bodyThen (keepsMemories_schedCmds (c := cmdGclCommit) (by simp [schedCmds])) ho) (fun u hu => by cases hu; rfl)

theorem memoriesOk_applyAll {rs : List ImageRec} {s t : State} (h : applyAll rs s = some t) : memoriesOk t = memoriesOk s := by
  induction rs generalizing s with
  | nil => cases h; rfl
  | cons r rs ih =>
    simp only [applyAll] at h
    split at h
    · cases h
    · next c hc =>
      split at h
      · rw [ih h, memoriesOk_runCmd hc]
      · cases h

theorem memoriesOk_loadRecords {rs : List ImageRec} {s t : State} (h : loadRecords rs s = some t) : memoriesOk t = memoriesOk s := by
  unfold loadRecords at h
  split at h
  · cases h
  · next s1 h1 =>
    obtain ⟨s3, h3, h⟩ := Option.bind_eq_some_iff.mp h
    obtain ⟨s2, h2, h3⟩ := Option.bind_eq_some_iff.mp h3
    rw [memoriesOk_applyAll h, memoriesOk_commitAll h3, ← memoriesOk_applyAll h1]
    dsimp only at h2
    split at h2
    · cases h2; rfl
    · split at h2
      · cases h2; simp
      · cases h2

@[simp] theorem memoriesOk_keepStored (old s : State) : memoriesOk (keepStored old s) = memoriesOk s := by simp [keepStored]

@[simp] theorem memoriesOk_loadFails (s : State) : memoriesOk (loadFails s) = memoriesOk s := by rfl

@[simp] theorem memoriesOk_setCopy (k : Nat) (img : Image) (s : State) : memoriesOk (setCopy k img s) = memoriesOk s := by rfl

@[simp] theorem memoriesOk_recoverCopy (img : Image) (s : State) : memoriesOk (recoverCopy img s) = memoriesOk s := by
  simp only [recoverCopy]
  split <;> simp

@[simp] theorem memoriesOk_settleImage (img : Image) (rs : List ImageRec) (s : State) : memoriesOk (settleImage img rs s) = memoriesOk s := by simp [settleImage]

@[simp] theorem memoriesOk_loadImage (s : State) : memoriesOk (loadImage s) = memoriesOk s := by
  simp only [loadImage]
  split
  · simp
  split
  · simp
  split
  · simp
  · next h => simp [memoriesOk_loadRecords h]

@[simp] theorem memoriesOk_powerAll (s : State) : memoriesOk (powerAll s) = memoriesOk s := by simp [powerAll]

@[simp] theorem memoriesOk_finishBoot (s : State) : memoriesOk (finishBoot s) = memoriesOk s := by simp [finishBoot]

@[simp] theorem memoriesOk_loadComplete (s : State) : memoriesOk (loadComplete s) = memoriesOk s := by
  simp only [loadComplete]
  (repeat' split) <;> simp

@[simp] theorem memoriesOk_keeperTested (pass : Bool) (s : State) : memoriesOk (keeperTested pass s) = memoriesOk s := by
  simp only [keeperTested]
  (repeat' split) <;> simp

@[simp] theorem memoriesOk_arriveDeep (s : State) : memoriesOk (arriveDeep s) = true := by
  simp only [arriveDeep]
  simp [memoriesOk_coldState]

@[simp] theorem memoriesOk_arriveOff (s : State) : memoriesOk (arriveOff s) = true := by
  simp only [arriveOff]
  split <;> simp

@[simp] theorem memoriesOk_canReturns (ch : Nat) (s : State) : memoriesOk (canReturns ch s) = memoriesOk s := by simp [canReturns]

@[simp] theorem memoriesOk_switched (d : Nat) {s : State} (hs : memoriesOk s = true) : memoriesOk (switched d s) = true := by
  simp only [switched]
  split <;> simp [hs]

@[simp] theorem memoriesOk_rebuildTime (s : State) : memoriesOk (rebuildTime s) = memoriesOk s := by
  simp only [rebuildTime]
  split <;> simp

@[simp] theorem memoriesOk_restoreNets (s : State) : memoriesOk (restoreNets s) = memoriesOk s := by simp [restoreNets]

@[simp] theorem memoriesOk_restorePower (s : State) : memoriesOk (restorePower s) = memoriesOk s := by simp [restorePower]

@[simp] theorem memoriesOk_deepWake (s : State) : memoriesOk (deepWake s) = memoriesOk s := by
  simp only [deepWake]
  (repeat' split) <;> simp

@[simp] theorem memoriesOk_wakePinEdge (pin : Nat) {s : State} (hs : memoriesOk s = true) : memoriesOk (wakePinEdge pin s) = true := by
  simp only [wakePinEdge]
  split <;> simp [hs]

@[simp] theorem memoriesOk_wakePinOff (pin : Nat) (s : State) : memoriesOk (wakePinOff pin s) = memoriesOk s := by rfl

@[simp] theorem memoriesOk_brownOut (s : State) : memoriesOk (brownOut s) = true := by
  simp [brownOut, memoriesOk_coldState]

@[simp] theorem memoriesOk_crank (s : State) : memoriesOk (crank s) = memoriesOk s := by
  simp only [crank]
  split <;> simp

@[simp] theorem memoriesOk_crankTimeout {s : State} (hs : memoriesOk s = true) : memoriesOk (crankTimeout s) = true := by
  simp only [crankTimeout]
  split <;> simp [hs]

@[simp] theorem memoriesOk_vinRises {s : State} (hs : memoriesOk s = true) : memoriesOk (vinRises s) = true := by simp [vinRises, hs]

/-! The service -/

@[simp] theorem memoriesOk_noteFailure (seq : Bool) (t : Transport) (s : State) : memoriesOk (noteFailure seq t s) = memoriesOk s := by simp [noteFailure]

@[simp] theorem memoriesOk_takeSequence (seq : Nat) (t : Transport) (s : State) : memoriesOk (takeSequence seq t s) = memoriesOk s := by simp [takeSequence]

@[simp] theorem memoriesOk_spendToken (t : Transport) (s : State) : memoriesOk (spendToken t s) = memoriesOk s := by simp [spendToken]

@[simp] theorem memoriesOk_refuseMsg (a : Received) (e : Status) (s : State) : memoriesOk (refuseMsg a e s) = memoriesOk s := by simp [refuseMsg]

@[simp] theorem memoriesOk_sendResult (a : Accepted) (r : CmdResult) (streams : List ImageRec) (mutator : Bool) (before : State) :
    memoriesOk (sendResult a r streams mutator before) = memoriesOk r.st := by
  simp only [sendResult]
  (repeat' split) <;> simp

@[simp] theorem memoriesOk_finish (a : Accepted) (s : State) : memoriesOk (finish a s) = memoriesOk s := by
  simp only [finish]
  split
  · simp
  · next hc => simp [memoriesOk_runCmd hc]

@[simp] theorem memoriesOk_execute (a : Accepted) (s : State) : memoriesOk (execute a s) = memoriesOk s := by
  unfold execute
  split
  · simp
  · next c hc =>
    have hstart (p) := (keepsMemories_of_cmdOf hc).start p s
    dsimp only
    (repeat' split) <;> simp [hstart]

@[simp] theorem memoriesOk_accept (a : Accepted) (s : State) : memoriesOk (accept a s) = memoriesOk s := by simp [accept]

@[simp] theorem memoriesOk_tokenTaken (a : Received) (s : State) : memoriesOk (tokenTaken a s) = memoriesOk s := by simp [tokenTaken]

@[simp] theorem memoriesOk_admitMsg (a : Received) (s : State) : memoriesOk (admitMsg a s) = memoriesOk s := by
  simp only [admitMsg]
  (repeat' split) <;> simp

@[simp] theorem memoriesOk_checkMsg (a : Received) (s : State) : memoriesOk (checkMsg a s) = memoriesOk s := by simp [checkMsg]

@[simp] theorem memoriesOk_parkMsg (v : Via) (bs : List Byte) (s : State) : memoriesOk (parkMsg v bs s) = memoriesOk s := by simp [parkMsg]

@[simp] theorem memoriesOk_receiveMsg (a : Received) (s : State) : memoriesOk (receiveMsg a s) = memoriesOk s := by
  simp only [receiveMsg]
  (repeat' split) <;> simp

@[simp] theorem memoriesOk_receiveRaw (v : Via) (bs : List Byte) (s : State) : memoriesOk (receiveRaw v bs s) = memoriesOk s := by simp [receiveRaw]

@[simp] theorem memoriesOk_writeMspi (bs : List Byte) (s : State) : memoriesOk (writeMspi bs s) = memoriesOk s := by simp [writeMspi]

@[simp] theorem memoriesOk_drainQueue (n : Nat) (s : State) : memoriesOk (drainQueue n s) = memoriesOk s := by
  induction n generalizing s with
  | zero => rfl
  | succ n ih => simp only [drainQueue]; split <;> simp [ih]

@[simp] theorem memoriesOk_serveWaiting (s : State) : memoriesOk (serveWaiting s) = memoriesOk s := by
  simp only [serveWaiting]
  (repeat' split) <;> simp

@[simp] theorem memoriesOk_serveParked (s : State) : memoriesOk (serveParked s) = memoriesOk s := by simp [serveParked]

@[simp] theorem memoriesOk_endWaiting (s : State) : memoriesOk (endWaiting s) = memoriesOk s := by
  simp only [endWaiting]
  split <;> simp

@[simp] theorem memoriesOk_mutatorTimeout (s : State) : memoriesOk (mutatorTimeout s) = memoriesOk s := by
  simp only [mutatorTimeout]
  split <;> simp

@[simp] theorem memoriesOk_lostDoorbells (s : State) : memoriesOk (lostDoorbells s) = memoriesOk s := by simp [lostDoorbells]

@[simp] theorem memoriesOk_initiatorTimeout (placket : Bool) (d : Nat) (s : State) : memoriesOk (initiatorTimeout placket d s) = memoriesOk s := by
  simp only [initiatorTimeout]
  (repeat' split) <;> simp

@[simp] theorem memoriesOk_lockoutEnd (t : Transport) (s : State) : memoriesOk (lockoutEnd t s) = memoriesOk s := by simp [lockoutEnd]

@[simp] theorem memoriesOk_stampEvents (s : State) : memoriesOk (stampEvents s) = memoriesOk s := by simp [stampEvents]

theorem memoriesOk_releaseEvents {p : Ev → Bool} {act : Ev × List Byte → State → State} (h : ∀ e t, memoriesOk t = true → memoriesOk (act e t) = true) {s : State} (hs : memoriesOk s = true) :
    memoriesOk (releaseEvents p act s) = true :=
  forEach_memoriesOk h hs

theorem memoriesOk_deliverAll {s : State} (hs : memoriesOk s = true) : memoriesOk (deliverAll s) = true := by
  unfold deliverAll
  extract_lets s1 s2
  have hs1 : memoriesOk s1 = true := (memoriesOk_stampEvents s).trans hs
  have hs2 : memoriesOk s2 = true := memoriesOk_if (memoriesOk_releaseEvents (fun e t ht => (memoriesOk_postEvent e t).trans ht) hs1) hs1
  exact memoriesOk_if (memoriesOk_releaseEvents (fun e t ht => memoriesOk_takeEvent e ht) hs2) hs2

@[simp] theorem memoriesOk_reactFaults (s : State) : memoriesOk (reactFaults s) = memoriesOk s := by simp [reactFaults]

@[simp] theorem memoriesOk_settle {s : State} (hs : memoriesOk s = true) : memoriesOk (settle s) = true :=
  memoriesOk_deliverAll (by simpa using hs)

theorem memoriesOk_serveRing {s t : State} (h : serveRing s = some t) : memoriesOk t = memoriesOk s := by
  simp only [serveRing] at h
  split at h
  · cases h
  · cases h; simp

@[simp] theorem memoriesOk_serveRings (n : Nat) (s : State) : memoriesOk (serveRings n s) = memoriesOk s := by
  induction n generalizing s with
  | zero => rfl
  | succ n ih =>
    simp only [serveRings]
    split
    · rfl
    split
    · rfl
    · next h => rw [ih, memoriesOk_serveRing h]

/-! Deliveries -/

@[simp] theorem memoriesOk_twinBad (s : State) : memoriesOk (twinBad s) = memoriesOk s := by rfl

theorem memoriesOk_needLen (ok : Bool) {f : State → State} {s : State} (h : memoriesOk (f s) = memoriesOk s) : memoriesOk (needLen ok f s) = memoriesOk s :=
  memoriesOk_if h (memoriesOk_twinBad s)

@[simp] theorem memoriesOk_twinDispatch (kind : Nat) (gen : BitVec 32) (b : List Byte) (s : State) : memoriesOk (twinDispatch kind gen b s) = memoriesOk s := by
  unfold twinDispatch
  extract_lets n parts
  have hparts (full) : memoriesOk (parts full s) = memoriesOk s := by simp only [parts]; split <;> simp
  split
  iterate 11 exact memoriesOk_needLen _ (by simp [hparts])
  all_goals simp

@[simp] theorem memoriesOk_twinFrame (p frameLen : Nat) (b : List Byte) (s : State) : memoriesOk (twinFrame p frameLen b s) = memoriesOk s := by simp [twinFrame]

@[simp] theorem memoriesOk_relayRaw (kind inst : Nat) (msg : List Byte) (s : State) : memoriesOk (relayRaw kind inst msg s) = memoriesOk s := by simp [relayRaw]

@[simp] theorem memoriesOk_keeperCan (b : List Byte) (s : State) : memoriesOk (keeperCan b s) = memoriesOk s := by simp [keeperCan]

@[simp] theorem memoriesOk_toKeeper (h : Handoff) {s : State} (hs : memoriesOk s = true) : memoriesOk (toKeeper h s) = true := by
  simp only [toKeeper]
  (repeat' split) <;> simp [hs]

@[simp] theorem memoriesOk_recirculate (h : Handoff) (s : State) : memoriesOk (recirculate h s) = memoriesOk s := by
  simp only [recirculate]
  split <;> simp

@[simp] theorem memoriesOk_deliver (h : Option Handoff) {s : State} (hs : memoriesOk s = true) : memoriesOk (deliver h s) = true := by
  simp only [deliver]
  (repeat' split) <;> simp [hs]

/-! The events' own actions -/

@[simp] theorem memoriesOk_atCore (act : State → State) (s : State) :
    memoriesOk (atCore act s) = if coreRuns s then memoriesOk (act s) else memoriesOk s := memoriesOk_ite ..

@[simp] theorem memoriesOk_frameInDoze (p : Nat) (fin : FrameEnd) (s : State) : memoriesOk (frameInDoze p fin s) = memoriesOk s := by simp [frameInDoze]

@[simp] theorem memoriesOk_lookupDone (port : Nat) (late : Bool) (ecc : Ecc) (s : State) :
    memoriesOk (lookupDone port late ecc s) = memoriesOk s := by simp [lookupDone]

@[simp] theorem memoriesOk_transmitEnd (p : Nat) (s : State) : memoriesOk (transmitEnd p s).1 = memoriesOk s := by
  simp only [transmitEnd]
  (repeat' split) <;> simp

@[simp] theorem memoriesOk_transmitted (p : Nat) {s : State} (hs : memoriesOk s = true) : memoriesOk (transmitted p s) = true := by
  simp only [transmitted]
  split <;> simp [hs]

@[simp] theorem memoriesOk_atKeeper {act : State → State} (h : ∀ t, memoriesOk (act t) = memoriesOk t) (s : State) : memoriesOk (atKeeper act s) = memoriesOk s :=
  memoriesOk_if (memoriesOk_leaveDoze s) (memoriesOk_if (h s) rfl)

@[simp] theorem memoriesOk_atBeacon (act : State → State) (s : State) :
    memoriesOk (atBeacon act s) = if domainRuns 15 s then memoriesOk (act s) else memoriesOk s := memoriesOk_ite ..

@[simp] theorem memoriesOk_keysPassOver (c : Nat) (s : State) : memoriesOk (keysPassOver c s) = memoriesOk s := by simp [keysPassOver]

@[simp] theorem memoriesOk_keyDueNow (key : KeyRef) (s : State) : memoriesOk (keyDueNow key s) = memoriesOk s := by
  simp only [keyDueNow]
  split <;> simp

@[simp] theorem memoriesOk_fragExpire (slot : Nat) (s : State) : memoriesOk (fragExpire slot s) = memoriesOk s := by rfl

@[simp] theorem memoriesOk_earlyExpire (slot : Nat) (s : State) : memoriesOk (earlyExpire slot s) = memoriesOk s := by
  simp only [earlyExpire]
  split <;> simp

@[simp] theorem memoriesOk_frameOnCan (ch ago : Nat) (m : CanMsg) (s : State) : memoriesOk (frameOnCan ch ago m s) = memoriesOk s := by simp [frameOnCan]

@[simp] theorem memoriesOk_errorOnCan (ch : Nat) (err : CanErr) (dataPhase transmitter : Bool) (s : State) :
    memoriesOk (errorOnCan ch err dataPhase transmitter s) = memoriesOk s := by simp [errorOnCan]

@[simp] theorem memoriesOk_transceiverReady (ch : Nat) (s : State) : memoriesOk (transceiverReady ch s) = memoriesOk s := by
  simp only [transceiverReady]
  split <;> simp

@[simp] theorem memoriesOk_headerOnLin (ch bitrate : Nat) (pid : Byte) (readbackFail : Bool) (s : State) :
    memoriesOk (headerOnLin ch bitrate pid readbackFail s) = memoriesOk s := by simp [headerOnLin]

@[simp] theorem memoriesOk_keeperMessage (ch : Nat) (m : CanMsg) {act : State → State} (h : ∀ t, memoriesOk (act t) = memoriesOk t) (s : State) :
    memoriesOk (keeperMessage ch m act s) = memoriesOk s :=
  memoriesOk_atKeeper (fun t => memoriesOk_if (memoriesOk_relayRaw ..) (h t)) s

@[simp] theorem memoriesOk_atMspi {act : State → State} (h : ∀ t, memoriesOk (act t) = memoriesOk t) (s : State) : memoriesOk (atMspi act s) = memoriesOk s :=
  memoriesOk_if ((h _).trans (memoriesOk_leaveDoze s)) rfl

@[simp] theorem memoriesOk_shiftOut (v : Nat) (s : State) : memoriesOk (shiftOut v s) = memoriesOk s := by simp [shiftOut]

@[simp] theorem memoriesOk_loadCode (code : Nat) (s : State) : memoriesOk (loadCode code s) = memoriesOk s := by
  simp only [loadCode]
  split <;> simp

@[simp] theorem memoriesOk_atHost (act : State → State) (s : State) :
    memoriesOk (atHost act s) = if domainRuns 14 s then memoriesOk (act s) else memoriesOk s := memoriesOk_ite ..

@[simp] theorem memoriesOk_pollNow (s : State) : memoriesOk (pollNow s) = memoriesOk s := by
  simp only [pollNow]
  split
  · rfl
  · split <;> simp

@[simp] theorem memoriesOk_linkGoesDown (p : Nat) (s : State) : memoriesOk (linkGoesDown p s) = memoriesOk s := by simp [linkGoesDown]

@[simp] theorem memoriesOk_frameForKeeper (p : Nat) {act : State → State} (h : ∀ t, memoriesOk (act t) = memoriesOk t) (s : State) :
    memoriesOk (frameForKeeper p act s) = memoriesOk s :=
  memoriesOk_if (memoriesOk_frameInDoze ..) (memoriesOk_atKeeper h s)

@[simp] theorem memoriesOk_keeperCommand (cls opcode : Nat) (m : Msg) (s : State) : memoriesOk (keeperCommand cls opcode m s).2 = memoriesOk s := by
  simp only [keeperCommand]
  split
  · rfl
  · next hc => (repeat' split) <;> simp [memoriesOk_runCmd hc]

@[simp] theorem memoriesOk_installSas (ws : List Msg) (s : State) : memoriesOk (installSas ws s) = memoriesOk s := by simp [installSas]

@[simp] theorem memoriesOk_mkaOutcome (sak : Option Msg) (ws : List Msg) (s : State) : memoriesOk (mkaOutcome sak ws s) = memoriesOk s := by
  simp only [mkaOutcome]
  split <;> simp

@[simp] theorem memoriesOk_standbyKa (s : State) : memoriesOk (standbyKa s) = memoriesOk s := by simp [standbyKa]

@[simp] theorem memoriesOk_tc10Event (kind p : Nat) {act : State → State} (h : ∀ t, memoriesOk (act t) = memoriesOk t) (s : State) :
    memoriesOk (tc10Event kind p act s) = memoriesOk s := by
  refine memoriesOk_if ?_ (h s)
  split <;> simp

@[simp] theorem memoriesOk_tc10Deep (p : Nat) (s : State) : memoriesOk (tc10Deep p s) = memoriesOk s := by simp [tc10Deep]

@[simp] theorem memoriesOk_takeDueList (p : Nat) (s : State) : memoriesOk (takeDueList p s) = memoriesOk s := by
  simp only [takeDueList]
  split <;> simp

@[simp] theorem memoriesOk_recovReset (fn : Nat) (s : State) : memoriesOk (recovReset fn s) = memoriesOk s := by simp [recovReset]

@[simp] theorem memoriesOk_latentTest (fn : Nat) (s : State) : memoriesOk (latentTest fn s) = memoriesOk s := by simp [latentTest]

@[simp] theorem memoriesOk_latentReset (fn : Nat) (s : State) : memoriesOk (latentReset fn s) = memoriesOk s := by simp [latentReset]

@[simp] theorem memoriesOk_atSel (act : State → State) (s : State) :
    memoriesOk (atSel act s) = if domainRuns 12 s then memoriesOk (act s) else memoriesOk s := memoriesOk_ite ..

@[simp] theorem memoriesOk_fromTwin {act : State → State} (h : ∀ t, memoriesOk (act t) = memoriesOk t) (s : State) :
    memoriesOk (fromTwin act s) = memoriesOk s := memoriesOk_frameForKeeper 26 h s

@[simp] theorem memoriesOk_resumeSwitch (s : State) : memoriesOk (resumeSwitch s) = memoriesOk s := by
  simp only [resumeSwitch]
  split <;> simp

end Sys2Proof.Machine
end

section
/-! Proofs/MemoriesStayCanonical: every row keeps the canonical form of the ring and descriptor memories (R353, R360). -/

namespace Sys2Proof.Machine
open Sys2Proof.Claims

/-! How a row ends -/

/-- An outcome whose state holds the ring and descriptor memories in canonical form. -/
def StaysCanonical (o : Out) : Prop := ∀ t, o = .next t → memoriesOk t = true

theorem staysCanonical_next {s : State} (hs : memoriesOk s = true) : StaysCanonical (.next s) := fun t ht => by cases ht; exact hs

theorem staysCanonical_ends {s : State} (hs : memoriesOk s = true) : StaysCanonical (ends s) := staysCanonical_next (memoriesOk_settle hs)

theorem staysCanonical_endsAt (t : Nat) {act : State → State} {s : State} (h : memoriesOk (act (advanceTo t s)) = true) :
    StaysCanonical (endsAt t act s) := staysCanonical_ends h

theorem staysCanonical_keeperAt (t : Nat) {act : State → State} (h : ∀ t, memoriesOk (act t) = memoriesOk t) {s : State} (hs : memoriesOk s = true) :
    StaysCanonical (keeperAt t act s) :=
  staysCanonical_endsAt t (by simp [h, hs])

/-! The rows, in the order of the instructions -/

section
variable {s : State} (hs : memoriesOk s = true)
include hs

theorem staysCanonical_mspiWrite (bytes : List Byte) : StaysCanonical (execMspiWrite bytes s) := staysCanonical_ends (by simp [hs])

theorem staysCanonical_mspiStatus : StaysCanonical (execMspiStatus s) := staysCanonical_ends (by simp [hs])

theorem staysCanonical_mspiRead : StaysCanonical (execMspiRead s) := staysCanonical_ends (by simp [hs])

theorem staysCanonical_extest : StaysCanonical (execExtest s) := staysCanonical_ends (by simp [hs])

theorem staysCanonical_idcode : StaysCanonical (execIdcode s) := staysCanonical_ends (by simp [hs])

theorem staysCanonical_samplePreload : StaysCanonical (execSamplePreload s) := staysCanonical_ends (by simp [hs])

theorem staysCanonical_clamp : StaysCanonical (execClamp s) := staysCanonical_ends (by simp [hs])

theorem staysCanonical_highz : StaysCanonical (execHighz s) := staysCanonical_ends (by simp [hs])

theorem staysCanonical_dbgStatus : StaysCanonical (execDbgStatus s) := staysCanonical_ends (by simp [hs])

theorem staysCanonical_dbgLock : StaysCanonical (execDbgLock s) := staysCanonical_ends (by simp [hs])

theorem staysCanonical_dbgAccess : StaysCanonical (execDbgAccess s) := staysCanonical_ends (by simp [hs])

theorem staysCanonical_factory (code : Fin 16) : StaysCanonical (execFactory code s) := staysCanonical_ends (by simp [hs])

theorem staysCanonical_bypass (code : Byte) : StaysCanonical (execBypass code s) := staysCanonical_ends (by simp [hs])

theorem staysCanonical_debugAction (a : DebugAct) : StaysCanonical (execDebugAction a s) := staysCanonical_ends (by simp [hs])

theorem staysCanonical_testLogicReset : StaysCanonical (execTestLogicReset s) := staysCanonical_ends (by simp [hs])

theorem staysCanonical_plkPollPeriodWrite (v : BitVec 32) : StaysCanonical (execPlkPollPeriodWrite v s) := staysCanonical_ends (by simp [hs])

theorem staysCanonical_plkIntCauseClear (v : BitVec 32) : StaysCanonical (execPlkIntCauseClear v s) := staysCanonical_ends (by simp [hs])

theorem staysCanonical_plkIntEnableWrite (v : BitVec 32) : StaysCanonical (execPlkIntEnableWrite v s) := staysCanonical_ends (by simp [hs])

theorem staysCanonical_pwrDomainStoppedClear (v : BitVec 32) : StaysCanonical (execPwrDomainStoppedClear v s) := staysCanonical_ends (by simp [hs])

theorem staysCanonical_plkMbCmdProd (pair : Fin 4) (v : BitVec 32) : StaysCanonical (execPlkMbCmdProd pair v s) := staysCanonical_ends (by simp [hs])

theorem staysCanonical_plkMbCplCons (pair : Fin 4) (v : BitVec 32) : StaysCanonical (execPlkMbCplCons pair v s) := staysCanonical_ends (by simp [hs])

theorem staysCanonical_plkErrlogRead (v : BitVec 32) : StaysCanonical (execPlkErrlogRead v s) := staysCanonical_ends (by simp [hs])

theorem staysCanonical_plkErrlogOverflow : StaysCanonical (execPlkErrlogOverflow s) := staysCanonical_ends (by simp [hs])

theorem staysCanonical_windowStageWrite (win : Fin 16) (word : Fin 3) (v : BitVec 32) :
    StaysCanonical (execWindowStageWrite win word v s) := staysCanonical_ends (by simp [hs])

theorem staysCanonical_windowCommit (win : Fin 16) (v : BitVec 32) : StaysCanonical (execWindowCommit win v s) := staysCanonical_ends (by simp [hs])

theorem staysCanonical_windowDisable (win : Fin 16) (v : BitVec 32) : StaysCanonical (execWindowDisable win v s) := staysCanonical_ends (by simp [hs])

theorem staysCanonical_ringRun (ring : Fin 16) (v : BitVec 32) : StaysCanonical (execRingRun ring v s) := staysCanonical_ends (by simp [hs])

theorem staysCanonical_ringStop (ring : Fin 16) (v : BitVec 32) : StaysCanonical (execRingStop ring v s) := staysCanonical_ends (by simp [hs])

theorem staysCanonical_ringSizeSet (ring : Fin 16) (v : BitVec 32) : StaysCanonical (execRingSizeSet ring v s) := staysCanonical_ends (by simp [hs])

theorem staysCanonical_plkRingProd (ring : Fin 16) (v : BitVec 32) : StaysCanonical (execPlkRingProd ring v s) := staysCanonical_ends (by simp [hs])

theorem staysCanonical_hostRegisterWrite (bar : Bar) (offset : Nat) (bytes : List (Byte × Bool)) :
    StaysCanonical (execHostRegisterWrite bar offset bytes s) := staysCanonical_ends (by simp [hs])

theorem staysCanonical_frameReceive (port : Port) (bytes : List Byte) (fin : FrameEnd) :
    StaysCanonical (execFrameReceive port bytes fin s) := staysCanonical_ends (by simp [hs])

theorem staysCanonical_lookupComplete (port : Port) (late : Bool) (ecc : Ecc) :
    StaysCanonical (execLookupComplete port late ecc s) := staysCanonical_ends (by simp [hs])

theorem staysCanonical_admission (port : Port) : StaysCanonical (execAdmission port s) := staysCanonical_ends (by simp [hs])

theorem staysCanonical_shuttleSlot : StaysCanonical (execShuttleSlot s) := staysCanonical_ends (by simp [hs])

theorem staysCanonical_treadleRotation : StaysCanonical (execTreadleRotation s) := staysCanonical_ends (by simp [hs])

theorem staysCanonical_competingTimeout (port : Port) (cls : Cls) (ingress : Port) :
    StaysCanonical (execCompetingTimeout port cls ingress s) := staysCanonical_ends (by simp [hs])

theorem staysCanonical_egressSelect (port : Port) : StaysCanonical (execEgressSelect port s) := by
  refine staysCanonical_ends (memoriesOk_if ?_ hs)
  split <;> simp [hs]

theorem staysCanonical_cellRead (port : Port) (ecc : Ecc) : StaysCanonical (execCellRead port ecc s) := by
  unfold execCellRead
  split <;> exact staysCanonical_ends (by simp [hs])

theorem staysCanonical_frameTransmitEnd (port : Port) : StaysCanonical (execFrameTransmitEnd port s) := staysCanonical_ends (by simp [hs])

theorem staysCanonical_preemption (port : ExtPort) : StaysCanonical (execPreemption port s) := staysCanonical_ends (by simp [hs])

theorem staysCanonical_preemptVerify (port : ExtPort) (addFrag : Fin 4) : StaysCanonical (execPreemptVerify port addFrag s) := staysCanonical_ends (by simp [hs])

theorem staysCanonical_frameAged (at_ : Nat) (port : Port) (cls : Cls) : StaysCanonical (execFrameAged at_ port cls s) := staysCanonical_endsAt at_ (by simp [hs])

theorem staysCanonical_quadrantDrained (quad : Quad) : StaysCanonical (execQuadrantDrained quad s) := staysCanonical_ends (by simp [hs])

theorem staysCanonical_bankClearDone (quad : Quad) : StaysCanonical (execBankClearDone quad s) := staysCanonical_ends (by simp [hs])

theorem staysCanonical_gateEntryStart (at_ : Nat) (port : ExtPort) : StaysCanonical (execGateEntryStart at_ port s) := staysCanonical_endsAt at_ (by simp [hs])

theorem staysCanonical_gateCycleStart (at_ : Nat) (port : ExtPort) : StaysCanonical (execGateCycleStart at_ port s) := staysCanonical_endsAt at_ (by simp [hs])

theorem staysCanonical_gclCtReached (at_ : Nat) (port : ExtPort) : StaysCanonical (execGclCtReached at_ port s) := staysCanonical_endsAt at_ (by simp [hs])

theorem staysCanonical_stitchOverrideEnd (at_ : Nat) (port : ExtPort) : StaysCanonical (execStitchOverrideEnd at_ port s) := staysCanonical_endsAt at_ (by simp [hs])

theorem staysCanonical_sgateEntryStart (at_ : Nat) (gate : Fin 256) : StaysCanonical (execSgateEntryStart at_ gate s) := staysCanonical_endsAt at_ (by simp [hs])

theorem staysCanonical_frerResetTimeout (at_ : Nat) (fn : Fin 2048) : StaysCanonical (execFrerResetTimeout at_ fn s) := staysCanonical_endsAt at_ (by simp [hs])

theorem staysCanonical_frerLatentTest (at_ : Nat) (fn : Fin 2048) : StaysCanonical (execFrerLatentTest at_ fn s) := staysCanonical_endsAt at_ (by simp [hs])

theorem staysCanonical_frerLatentReset (at_ : Nat) (fn : Fin 2048) : StaysCanonical (execFrerLatentReset at_ fn s) := staysCanonical_endsAt at_ (by simp [hs])

theorem staysCanonical_gptpSyncReceived (inst : Fin 2) (gm : BitVec 64) (offset rateRatio : Int) :
    StaysCanonical (execGptpSyncReceived inst gm offset rateRatio s) := staysCanonical_ends (by simp [hs])

theorem staysCanonical_syncReceiptTimeout (at_ : Nat) (inst : Fin 2) : StaysCanonical (execSyncReceiptTimeout at_ inst s) := staysCanonical_endsAt at_ (by simp [hs])

theorem staysCanonical_stitchEdge (at_ : Nat) (base : Fin 4) (a b : Bool) (heldNs : Nat) :
    StaysCanonical (execStitchEdge at_ base a b heldNs s) := staysCanonical_endsAt at_ (by simp [hs])

theorem staysCanonical_standstillTimeout (at_ : Nat) (base : Fin 4) : StaysCanonical (execStandstillTimeout at_ base s) := staysCanonical_endsAt at_ (by simp [hs])

theorem staysCanonical_keyFire (at_ : Nat) (key : KeyRef) : StaysCanonical (execKeyFire at_ key s) := staysCanonical_endsAt at_ (by simp [hs])

theorem staysCanonical_markPulseEnd (at_ : Nat) (out : Fin 8) : StaysCanonical (execMarkPulseEnd at_ out s) := staysCanonical_endsAt at_ (by simp [hs])

theorem staysCanonical_epochFree : StaysCanonical (execEpochFree s) := staysCanonical_ends (by simp [hs])

theorem staysCanonical_zoneSwapRetry (at_ : Nat) : StaysCanonical (execZoneSwapRetry at_ s) := staysCanonical_endsAt at_ (by simp [hs])

theorem staysCanonical_fragResolvedExpiry (at_ entry : Nat) : StaysCanonical (execFragResolvedExpiry at_ entry s) := staysCanonical_endsAt at_ (by simp [hs])

theorem staysCanonical_fragEarlyExpiry (at_ entry : Nat) : StaysCanonical (execFragEarlyExpiry at_ entry s) := staysCanonical_endsAt at_ (by simp [hs])

theorem staysCanonical_gatewayDeliver : StaysCanonical (execGatewayDeliver s) := staysCanonical_ends (by simp [hs])

theorem staysCanonical_containerFlush (at_ : Nat) (container : Fin 256) :
    StaysCanonical (execContainerFlush at_ container s) := staysCanonical_endsAt at_ (by simp [hs])

theorem staysCanonical_canTxTimeout (at_ : Nat) (ch : CanCh) : StaysCanonical (execCanTxTimeout at_ ch s) := staysCanonical_endsAt at_ (by simp [hs])

theorem staysCanonical_canFrameRx (ch : PhysCh) (ago : Nat) (msg : CanMsg) : StaysCanonical (execCanFrameRx ch ago msg s) := staysCanonical_ends (by simp [hs])

theorem staysCanonical_canBusIdle (ch : PhysCh) : StaysCanonical (execCanBusIdle ch s) := staysCanonical_ends (by simp [hs])

theorem staysCanonical_canTxComplete (ch : PhysCh) (result : TxResult) : StaysCanonical (execCanTxComplete ch result s) := staysCanonical_ends (by simp [hs])

theorem staysCanonical_canErrorDetected (ch : PhysCh) (err : CanErr) (dataPhase transmitter : Bool) :
    StaysCanonical (execCanErrorDetected ch err dataPhase transmitter s) := staysCanonical_ends (by simp [hs])

theorem staysCanonical_busOffRecoveryDone (ch : PhysCh) : StaysCanonical (execBusOffRecoveryDone ch s) := staysCanonical_ends (by simp [hs])

theorem staysCanonical_busIntegrationDone (ch : PhysCh) : StaysCanonical (execBusIntegrationDone ch s) := staysCanonical_ends (by simp [hs])

theorem staysCanonical_transceiverWakeWait (at_ : Nat) (ch : PhysCh) : StaysCanonical (execTransceiverWakeWait at_ ch s) := staysCanonical_endsAt at_ (by simp [hs])

theorem staysCanonical_rateDwellExpiry (at_ : Nat) (ch : PhysCh) : StaysCanonical (execRateDwellExpiry at_ ch s) := staysCanonical_endsAt at_ (by simp [hs])

theorem staysCanonical_linScheduleSlot (at_ : Nat) (ch : LinCh) : StaysCanonical (execLinScheduleSlot at_ ch s) := staysCanonical_endsAt at_ (by simp [hs])

theorem staysCanonical_linHeaderRx (ch : LinCh) (bitrate : Nat) (pid : Byte) (readbackFail : Bool) :
    StaysCanonical (execLinHeaderRx ch bitrate pid readbackFail s) := staysCanonical_ends (by simp [hs])

theorem staysCanonical_linResponseRx (ch : LinCh) (data : List Byte) (checksum : Byte) (badStop : Bool) :
    StaysCanonical (execLinResponseRx ch data checksum badStop s) := staysCanonical_ends (by simp [hs])

theorem staysCanonical_linResponseTimeout (at_ : Nat) (ch : LinCh) (got : Nat) :
    StaysCanonical (execLinResponseTimeout at_ ch got s) := staysCanonical_endsAt at_ (by simp [hs])

theorem staysCanonical_addressClaimRx (ch : CanCh) (msg : CanMsg) : StaysCanonical (execAddressClaimRx ch msg s) := staysCanonical_ends (by simp [hs])

theorem staysCanonical_isoNetworkMessage (ch : CanCh) (msg : CanMsg) : StaysCanonical (execIsoNetworkMessage ch msg s) := staysCanonical_ends (by simp [hs])

theorem staysCanonical_selSuperframeTx (link : SelLink) : StaysCanonical (execSelSuperframeTx link s) := staysCanonical_ends (by simp [hs])

theorem staysCanonical_selSighting (link : SelLink) (pos : Nat) (hdr : List Byte) :
    StaysCanonical (execSelSighting link pos hdr s) := staysCanonical_ends (by simp [hs])

theorem staysCanonical_selCandidateCheck (link : SelLink) (pos : Nat) (hdr : List Byte) :
    StaysCanonical (execSelCandidateCheck link pos hdr s) := staysCanonical_ends (by simp [hs])

theorem staysCanonical_selHeaderRx (link : SelLink) (hdr : List Byte) : StaysCanonical (execSelHeaderRx link hdr s) := staysCanonical_ends (by simp [hs])

theorem staysCanonical_selBlockLockLoss (link : SelLink) : StaysCanonical (execSelBlockLockLoss link s) := staysCanonical_ends (by simp [hs])

theorem staysCanonical_selThreadBlockRx (link : SelLink) (thread : Fin 9) (block : List Byte) : StaysCanonical (execSelThreadBlockRx link thread block s) := by
  have hwake (ch m t) : memoriesOk (if running t then sleepingCan ch m false t else t) = memoriesOk t := memoriesOk_if (memoriesOk_sleepingCan ..) rfl
  exact staysCanonical_ends (by simp [memoriesOk_threadBlockRx hwake, hs])

theorem staysCanonical_selThreadIdle (link : SelLink) (thread : Fin 9) : StaysCanonical (execSelThreadIdle link thread s) := staysCanonical_ends (by simp [hs])

theorem staysCanonical_selDiscBlockRx (link : SelLink) (block : List Byte) : StaysCanonical (execSelDiscBlockRx link block s) := staysCanonical_ends (by simp [hs])

theorem staysCanonical_sdccBurst (link : SelLink) (dccB : Bool) (dataIn : Byte) (validIn : Bool) :
    StaysCanonical (execSdccBurst link dccB dataIn validIn s) := staysCanonical_ends (by simp [hs])

theorem staysCanonical_selLosSet (at_ : Nat) (link : SelLink) : StaysCanonical (execSelLosSet at_ link s) := staysCanonical_endsAt at_ (by simp [hs])

theorem staysCanonical_selLosClear (at_ : Nat) (link : SelLink) : StaysCanonical (execSelLosClear at_ link s) := staysCanonical_endsAt at_ (by simp [hs])

theorem staysCanonical_selPlugIn (at_ : Nat) (link : SelLink) : StaysCanonical (execSelPlugIn at_ link s) := staysCanonical_endsAt at_ (by simp [hs])

theorem staysCanonical_selRateDwellEnd (at_ : Nat) (link : SelLink) : StaysCanonical (execSelRateDwellEnd at_ link s) := staysCanonical_endsAt at_ (by simp [hs])

theorem staysCanonical_selQualifyEnd (at_ : Nat) (link : SelLink) (badSync : Nat) :
    StaysCanonical (execSelQualifyEnd at_ link badSync s) := staysCanonical_endsAt at_ (by simp [hs])

theorem staysCanonical_selQualRdiEnd (at_ : Nat) (link : SelLink) : StaysCanonical (execSelQualRdiEnd at_ link s) := staysCanonical_endsAt at_ (by simp [hs])

theorem staysCanonical_selIdentRx (link : SelLink) (body : List Byte) : StaysCanonical (execSelIdentRx link body s) := staysCanonical_ends (by simp [hs])

theorem staysCanonical_selIdentAckRx (link : SelLink) : StaysCanonical (execSelIdentAckRx link s) := staysCanonical_ends (by simp [hs])

theorem staysCanonical_selIdentResend (at_ : Nat) (link : SelLink) : StaysCanonical (execSelIdentResend at_ link s) := staysCanonical_endsAt at_ (by simp [hs])

theorem staysCanonical_selIdentTimeout (at_ : Nat) (link : SelLink) : StaysCanonical (execSelIdentTimeout at_ link s) := staysCanonical_endsAt at_ (by simp [hs])

theorem staysCanonical_selMapSetRx (link : SelLink) (body : List Byte) : StaysCanonical (execSelMapSetRx link body s) := staysCanonical_ends (by simp [hs])

theorem staysCanonical_selMapAckRx (link : SelLink) (body : List Byte) : StaysCanonical (execSelMapAckRx link body s) := staysCanonical_ends (by simp [hs])

theorem staysCanonical_selMapSetResend (at_ : Nat) (link : SelLink) : StaysCanonical (execSelMapSetResend at_ link s) := staysCanonical_endsAt at_ (by simp [hs])

theorem staysCanonical_selSfnSwitch (link : SelLink) : StaysCanonical (execSelSfnSwitch link s) := staysCanonical_ends (by simp [hs])

theorem staysCanonical_selMapRevert (link : SelLink) : StaysCanonical (execSelMapRevert link s) := staysCanonical_ends (by simp [hs])

theorem staysCanonical_selMapTimeout (at_ : Nat) (link : SelLink) : StaysCanonical (execSelMapTimeout at_ link s) := staysCanonical_endsAt at_ (by simp [hs])

theorem staysCanonical_selUnhitchRx (link : SelLink) : StaysCanonical (execSelUnhitchRx link s) := staysCanonical_ends (by simp [hs])

theorem staysCanonical_selUnplugTimeout (at_ : Nat) (link : SelLink) : StaysCanonical (execSelUnplugTimeout at_ link s) := staysCanonical_endsAt at_ (by simp [hs])

theorem staysCanonical_linkUp (port : ExtPort) (mode : Fin 8) (role : Fin 4) (fast : Bool) :
    StaysCanonical (execLinkUp port mode role fast s) := staysCanonical_ends (by simp [hs])

theorem staysCanonical_linkDown (port : ExtPort) : StaysCanonical (execLinkDown port s) := staysCanonical_ends (by simp [hs])

theorem staysCanonical_trainingFail (port : ExtPort) : StaysCanonical (execTrainingFail port s) := staysCanonical_ends (by simp [hs])

theorem staysCanonical_phyPowerGood (port : ExtPort) : StaysCanonical (execPhyPowerGood port s) := staysCanonical_ends (by simp [hs])

theorem staysCanonical_fastlinkFallback (at_ : Nat) (port : ExtPort) : StaysCanonical (execFastlinkFallback at_ port s) := staysCanonical_endsAt at_ (by simp [hs])

theorem staysCanonical_lldpRx (port : ExtPort) (pdu : List Byte) : StaysCanonical (execLldpRx port pdu s) := staysCanonical_ends (by simp [hs])

theorem staysCanonical_lldpTx (at_ : Nat) (port : ExtPort) : StaysCanonical (execLldpTx at_ port s) := staysCanonical_keeperAt at_ (memoriesOk_lldpSend _) hs

theorem staysCanonical_lldpTtlExpiry (at_ : Nat) (port : ExtPort) :
    StaysCanonical (execLldpTtlExpiry at_ port s) := staysCanonical_keeperAt at_ (memoriesOk_lldpTtlExpire _) hs

theorem staysCanonical_lldpWaitExpiry (at_ : Nat) (port : ExtPort) :
    StaysCanonical (execLldpWaitExpiry at_ port s) := staysCanonical_keeperAt at_ (memoriesOk_lldpWaitExpire _) hs

theorem staysCanonical_absentHoldExpiry (at_ : Nat) (port : ExtPort) :
    StaysCanonical (execAbsentHoldExpiry at_ port s) := staysCanonical_keeperAt at_ (memoriesOk_absentHoldExpire _) hs

theorem staysCanonical_keyFetch (slot : Fin 64) (gen : BitVec 32) (master : Master) (world : World) (use : KeyUse) :
    StaysCanonical (execKeyFetch slot gen master world use s) := staysCanonical_ends (by simp [hs])

theorem staysCanonical_rngHealthFail : StaysCanonical (execRngHealthFail s) := staysCanonical_ends (by simp [hs])

theorem staysCanonical_lcNonceExpiry (at_ : Nat) : StaysCanonical (execLcNonceExpiry at_ s) := staysCanonical_endsAt at_ (by simp [hs])

theorem staysCanonical_debugNonceExpiry (at_ : Nat) : StaysCanonical (execDebugNonceExpiry at_ s) := staysCanonical_endsAt at_ (by simp [hs])

theorem staysCanonical_bodkinPipelineEnter : StaysCanonical (execBodkinPipelineEnter s) := staysCanonical_ends (by simp [hs])

theorem staysCanonical_bodkinPipelineExit (pipe : Fin 4) : StaysCanonical (execBodkinPipelineExit pipe s) := staysCanonical_ends (by simp [hs])

theorem staysCanonical_keeperCryptoRequest (req : CryptoReq) : StaysCanonical (execKeeperCryptoRequest req s) := staysCanonical_ends (by simp [hs])

theorem staysCanonical_cmdLockoutEnd (at_ : Nat) (tr : Transport) : StaysCanonical (execCmdLockoutEnd at_ tr s) := staysCanonical_endsAt at_ (by simp [hs])

theorem staysCanonical_mutatorTimeout (at_ : Nat) : StaysCanonical (execMutatorTimeout at_ s) := staysCanonical_endsAt at_ (by simp [hs])

theorem staysCanonical_replyWrite (pair : Fin 4) : StaysCanonical (execReplyWrite pair s) := staysCanonical_ends (by simp [hs])

theorem staysCanonical_placketPoll (at_ : Nat) : StaysCanonical (execPlacketPoll at_ s) := staysCanonical_endsAt at_ (by simp [hs])

theorem staysCanonical_dmaTxDescriptor (ring : Fin 8) : StaysCanonical (execDmaTxDescriptor ring s) := staysCanonical_ends (by simp [hs])

theorem staysCanonical_dmaRxDescriptor (ring : Fin 8) : StaysCanonical (execDmaRxDescriptor ring s) := staysCanonical_ends (by simp [hs])

theorem staysCanonical_pcieCompletion (tag : Nat) (status : CplStatus) (data : List Byte) :
    StaysCanonical (execPcieCompletion tag status data s) := staysCanonical_ends (by simp [hs])

theorem staysCanonical_cplTimeout (at_ tag : Nat) : StaysCanonical (execCplTimeout at_ tag s) := staysCanonical_endsAt at_ (by simp [hs])

theorem staysCanonical_fcStall (at_ : Nat) (ring : Fin 16) : StaysCanonical (execFcStall at_ ring s) := staysCanonical_endsAt at_ (by simp [hs])

theorem staysCanonical_pllLock (dom : Domain) : StaysCanonical (execPllLock dom s) := staysCanonical_ends (by simp [hs])

theorem staysCanonical_clockFault (clock : Fin 8) : StaysCanonical (execClockFault clock s) := staysCanonical_ends (by simp [hs])

theorem staysCanonical_ref32Timeout (at_ : Nat) : StaysCanonical (execRef32Timeout at_ s) := staysCanonical_endsAt at_ (by simp [hs])

theorem staysCanonical_initiatorTimeout (at_ : Nat) (placket : Bool) (dom : Domain) :
    StaysCanonical (execInitiatorTimeout at_ placket dom s) := staysCanonical_endsAt at_ (by simp [hs])

theorem staysCanonical_resyncComplete (dom : Domain) (discarded lostPulses : Nat) :
    StaysCanonical (execResyncComplete dom discarded lostPulses s) := staysCanonical_ends (by simp [hs])

theorem staysCanonical_domainSwitched (dom : Domain) : StaysCanonical (execDomainSwitched dom s) := staysCanonical_ends (by simp [hs])

theorem staysCanonical_dozeWake (source : DozeWake) : StaysCanonical (execDozeWake source s) := by
  refine staysCanonical_ends (memoriesOk_if ?_ hs)
  split <;> simp [hs]

theorem staysCanonical_nmSleepWaitExpiry (at_ : Nat) (net : Fin 16) : StaysCanonical (execNmSleepWaitExpiry at_ net s) := staysCanonical_endsAt at_ (by simp [hs])

theorem staysCanonical_nmFalseWakeExpiry (at_ : Nat) (net : Fin 16) : StaysCanonical (execNmFalseWakeExpiry at_ net s) := staysCanonical_endsAt at_ (by simp [hs])

theorem staysCanonical_nmKaPoll (at_ : Nat) : StaysCanonical (execNmKaPoll at_ s) := staysCanonical_endsAt at_ (by simp [hs])

theorem staysCanonical_nmKeepaliveTx (at_ : Nat) (net : Fin 16) : StaysCanonical (execNmKeepaliveTx at_ net s) := staysCanonical_endsAt at_ (by simp [hs])

theorem staysCanonical_nmKeepAliveRx (ch : CanCh) (msg : CanMsg) : StaysCanonical (execNmKeepAliveRx ch msg s) := staysCanonical_ends (by simp [hs])

theorem staysCanonical_nmReadyToSleepRx (ch : CanCh) (msg : CanMsg) : StaysCanonical (execNmReadyToSleepRx ch msg s) := staysCanonical_ends (by simp [hs])

theorem staysCanonical_nmConsentRx (ch : CanCh) (msg : CanMsg) : StaysCanonical (execNmConsentRx ch msg s) := staysCanonical_ends (by simp [hs])

theorem staysCanonical_nmRefuseRx (ch : CanCh) (msg : CanMsg) : StaysCanonical (execNmRefuseRx ch msg s) := staysCanonical_ends (by simp [hs])

theorem staysCanonical_tc10SleepAck (port : ExtPort) : StaysCanonical (execTc10SleepAck port s) := staysCanonical_ends (by simp [hs])

theorem staysCanonical_nmConsentTimeout (at_ : Nat) (net : Fin 16) : StaysCanonical (execNmConsentTimeout at_ net s) := staysCanonical_endsAt at_ (by simp [hs])

theorem staysCanonical_tc10WakeRx (port : ExtPort) : StaysCanonical (execTc10WakeRx port s) := staysCanonical_ends (by simp [hs])

theorem staysCanonical_wakePin (pin : Fin 2) : StaysCanonical (execWakePin pin s) := staysCanonical_ends (by simp [hs])

theorem staysCanonical_selectiveWakeFrame (ch : PhysCh) (msg : CanMsg) (error : Bool) :
    StaysCanonical (execSelectiveWakeFrame ch msg error s) := staysCanonical_ends (by simp [hs])

theorem staysCanonical_wupPattern (ch : PhysCh) : StaysCanonical (execWupPattern ch s) := staysCanonical_ends (by simp [hs])

theorem staysCanonical_standbyRxdWake (ch : PhysCh) : StaysCanonical (execStandbyRxdWake ch s) := staysCanonical_ends (by simp [hs])

theorem staysCanonical_linDeepWake (ch : LinCh) : StaysCanonical (execLinDeepWake ch s) := staysCanonical_ends (by simp [hs])

theorem staysCanonical_tc10DeepWake (port : ExtPort) : StaysCanonical (execTc10DeepWake port s) := staysCanonical_ends (by simp [hs])

theorem staysCanonical_wakeOscStop (at_ : Nat) : StaysCanonical (execWakeOscStop at_ s) := staysCanonical_endsAt at_ (by simp [hs])

theorem staysCanonical_deepWakeSequence (at_ : Nat) : StaysCanonical (execDeepWakeSequence at_ s) := staysCanonical_endsAt at_ (by simp [hs])

theorem staysCanonical_lockstepMismatch : StaysCanonical (execLockstepMismatch s) := staysCanonical_ends (by simp [hs])

theorem staysCanonical_comparatorFault : StaysCanonical (execComparatorFault s) := staysCanonical_ends (by simp [hs])

theorem staysCanonical_delayParityError : StaysCanonical (execDelayParityError s) := staysCanonical_ends (by simp [hs])

theorem staysCanonical_inputDisagreement : StaysCanonical (execInputDisagreement s) := staysCanonical_ends (by simp [hs])

theorem staysCanonical_tcmEccError (double : Bool) : StaysCanonical (execTcmEccError double s) := staysCanonical_ends (by simp [hs])

theorem staysCanonical_memoryScrub (at_ : Nat) (tcm tables : Ecc) : StaysCanonical (execMemoryScrub at_ tcm tables s) := staysCanonical_endsAt at_ (by simp [hs])

theorem staysCanonical_tableEccError : StaysCanonical (execTableEccError s) := staysCanonical_ends (by simp [hs])

theorem staysCanonical_watchdogService (management : Bool) : StaysCanonical (execWatchdogService management s) := staysCanonical_ends (by simp [hs])

theorem staysCanonical_watchdogExpiry (at_ : Nat) : StaysCanonical (execWatchdogExpiry at_ s) := staysCanonical_endsAt at_ (by simp [hs])

theorem staysCanonical_railFault (dom : Domain) : StaysCanonical (execRailFault dom s) := staysCanonical_ends (by simp [hs])

theorem staysCanonical_temperatureThreshold (sensor : Fin 4) (celsius : Int) :
    StaysCanonical (execTemperatureThreshold sensor celsius s) := staysCanonical_ends (by simp [hs])

theorem staysCanonical_gateOutputMismatch (port : ExtPort) : StaysCanonical (execGateOutputMismatch port s) := staysCanonical_ends (by simp [hs])

theorem staysCanonical_timeCopyMismatch : StaysCanonical (execTimeCopyMismatch s) := staysCanonical_ends (by simp [hs])

theorem staysCanonical_gateTokenTimeout : StaysCanonical (execGateTokenTimeout s) := staysCanonical_ends (by simp [hs])

theorem staysCanonical_lampHeartbeatMissing (at_ : Nat) : StaysCanonical (execLampHeartbeatMissing at_ s) := staysCanonical_endsAt at_ (by simp [hs])

theorem staysCanonical_faultNReadbackFail : StaysCanonical (execFaultNReadbackFail s) := staysCanonical_ends (by simp [hs])

theorem staysCanonical_keeperSelfTestDone (pass : Bool) : StaysCanonical (execKeeperSelfTestDone pass s) := staysCanonical_ends (by simp [hs])

theorem staysCanonical_twinHelloTx (at_ : Nat) : StaysCanonical (execTwinHelloTx at_ s) := staysCanonical_endsAt at_ (by simp [hs])

theorem staysCanonical_twinHelloRx (_hdr : TwinHdr) (body : Hello) : StaysCanonical (execTwinHelloRx _hdr body s) := staysCanonical_ends (by simp [hs])

theorem staysCanonical_twinWaitTimeout (at_ : Nat) : StaysCanonical (execTwinWaitTimeout at_ s) := staysCanonical_endsAt at_ (by simp [hs])

theorem staysCanonical_twinHbToggle (at_ : Nat) : StaysCanonical (execTwinHbToggle at_ s) := staysCanonical_endsAt at_ (by simp [hs])

theorem staysCanonical_twinHbLoss (at_ : Nat) : StaysCanonical (execTwinHbLoss at_ s) := staysCanonical_endsAt at_ (by simp [hs])

theorem staysCanonical_twinSilenceTimeout (at_ : Nat) : StaysCanonical (execTwinSilenceTimeout at_ s) := staysCanonical_endsAt at_ (by simp [hs])

theorem staysCanonical_twinSupervisorReady (at_ : Nat) : StaysCanonical (execTwinSupervisorReady at_ s) := staysCanonical_endsAt at_ (by simp [hs])

theorem staysCanonical_twinFullPartRx (hdr : TwinHdr) (part parts : Nat) (recs : List ImageRec) :
    StaysCanonical (execTwinFullPartRx hdr part parts recs s) := staysCanonical_ends (by simp [hs])

theorem staysCanonical_twinDeltaRx (hdr : TwinHdr) (part parts : Nat) (recs : List ImageRec) :
    StaysCanonical (execTwinDeltaRx hdr part parts recs s) := staysCanonical_ends (by simp [hs])

theorem staysCanonical_twinAckRx (hdr : TwinHdr) : StaysCanonical (execTwinAckRx hdr s) := staysCanonical_ends (by simp [hs])

theorem staysCanonical_twinAckTimeout (at_ : Nat) : StaysCanonical (execTwinAckTimeout at_ s) := staysCanonical_endsAt at_ (by simp [hs])

theorem staysCanonical_twinDeltaTx (at_ : Nat) : StaysCanonical (execTwinDeltaTx at_ s) := staysCanonical_endsAt at_ (by simp [hs])

theorem staysCanonical_twinFullSnapshotTx (at_ : Nat) : StaysCanonical (execTwinFullSnapshotTx at_ s) := staysCanonical_endsAt at_ (by simp [hs])

theorem staysCanonical_twinRelayUpRx (_hdr : TwinHdr) (kind inst : Nat) (msg : List Byte) :
    StaysCanonical (execTwinRelayUpRx _hdr kind inst msg s) := staysCanonical_ends (by simp [hs])

theorem staysCanonical_twinRelayDownRx (_hdr : TwinHdr) (kind inst : Nat) (msg : List Byte) :
    StaysCanonical (execTwinRelayDownRx _hdr kind inst msg s) := staysCanonical_ends (by simp [hs])

theorem staysCanonical_twinRelinquishRx (_hdr : TwinHdr) : StaysCanonical (execTwinRelinquishRx _hdr s) := staysCanonical_ends (by simp [hs])

theorem staysCanonical_twinTakebackReqRx (_hdr : TwinHdr) : StaysCanonical (execTwinTakebackReqRx _hdr s) := staysCanonical_ends (by simp [hs])

theorem staysCanonical_twinTakebackGrantRx (_hdr : TwinHdr) : StaysCanonical (execTwinTakebackGrantRx _hdr s) := staysCanonical_ends (by simp [hs])

theorem staysCanonical_twinLeaveRx (_hdr : TwinHdr) : StaysCanonical (execTwinLeaveRx _hdr s) := staysCanonical_ends (by simp [hs])

theorem staysCanonical_twinLightsOutRx (_hdr : TwinHdr) (target : Nat) : StaysCanonical (execTwinLightsOutRx _hdr target s) := staysCanonical_ends (by simp [hs])

theorem staysCanonical_twinStatusRx (_hdr : TwinHdr) (body : List Byte) : StaysCanonical (execTwinStatusRx _hdr body s) := staysCanonical_ends (by simp [hs])

theorem staysCanonical_twinHoldOffExpiry (at_ : Nat) : StaysCanonical (execTwinHoldOffExpiry at_ s) := staysCanonical_endsAt at_ (by simp [hs])

theorem staysCanonical_twinGrantTimeout (at_ : Nat) : StaysCanonical (execTwinGrantTimeout at_ s) := staysCanonical_endsAt at_ (by simp [hs])

theorem staysCanonical_twinDeferredApply (at_ : Nat) : StaysCanonical (execTwinDeferredApply at_ s) := staysCanonical_endsAt at_ (by simp [hs])

theorem staysCanonical_twinEpochSwapRetry (at_ : Nat) : StaysCanonical (execTwinEpochSwapRetry at_ s) := staysCanonical_endsAt at_ (by simp [hs])

theorem staysCanonical_rstNReset (heldNs : Nat) (mspiStrap : Bool) : StaysCanonical (execRstNReset heldNs mspiStrap s) := staysCanonical_ends (by simp [hs])

theorem staysCanonical_moduleReset (at_ : Nat) : StaysCanonical (execModuleReset at_ s) := staysCanonical_endsAt at_ (by simp [hs])

theorem staysCanonical_keeperReset (at_ : Nat) : StaysCanonical (execKeeperReset at_ s) := staysCanonical_endsAt at_ (by simp [hs])

theorem staysCanonical_pcieFundamentalReset : StaysCanonical (execPcieFundamentalReset s) := staysCanonical_ends (by simp [hs])

theorem staysCanonical_functionLevelReset : StaysCanonical (execFunctionLevelReset s) := staysCanonical_ends (by simp [hs])

theorem staysCanonical_configLoadComplete (at_ : Nat) : StaysCanonical (execConfigLoadComplete at_ s) := staysCanonical_endsAt at_ (by simp [hs])

theorem staysCanonical_fwSwitchResume (at_ : Nat) : StaysCanonical (execFwSwitchResume at_ s) := staysCanonical_endsAt at_ (by simp [hs])

theorem staysCanonical_vinCrank (at_ : Nat) : StaysCanonical (execVinCrank at_ s) := staysCanonical_endsAt at_ (by simp [hs])

theorem staysCanonical_vinCrankTimeout (at_ : Nat) : StaysCanonical (execVinCrankTimeout at_ s) := staysCanonical_endsAt at_ (by simp [hs])

theorem staysCanonical_vinOvervolt : StaysCanonical (execVinOvervolt s) := staysCanonical_ends (by simp [hs])

theorem staysCanonical_selBlockLockAcquired (link : SelLink) : StaysCanonical (execSelBlockLockAcquired link s) := staysCanonical_ends (by simp [hs])

theorem staysCanonical_pcieLinkStateChange (state : PcieLink) : StaysCanonical (execPcieLinkStateChange state s) := staysCanonical_ends (by simp [hs])

theorem staysCanonical_pcieConfigWrite (cfg : PcieCfg) : StaysCanonical (execPcieConfigWrite cfg s) := staysCanonical_ends (by simp [hs])

theorem staysCanonical_grandmasterSelection (isSelf : Bool) (gm : BitVec 64) :
    StaysCanonical (execGrandmasterSelection isSelf gm s) := staysCanonical_ends (by simp [hs])

theorem staysCanonical_mkaPduRx (port : ExtPort) (sak : Option Msg) (saWrites : List Msg) :
    StaysCanonical (execMkaPduRx port sak saWrites s) := staysCanonical_ends (by simp [hs])

theorem staysCanonical_linWakeRx (ch : LinCh) : StaysCanonical (execLinWakeRx ch s) := staysCanonical_ends (by simp [hs])

theorem staysCanonical_wakePinRelease (pin : Fin 2) : StaysCanonical (execWakePinRelease pin s) := staysCanonical_ends (by simp [hs])

theorem staysCanonical_vinAboveStartThreshold (at_ : Nat) : StaysCanonical (execVinAboveStartThreshold at_ s) := staysCanonical_endsAt at_ (by simp [hs])

theorem staysCanonical_lampSelfCheckFault : StaysCanonical (execLampSelfCheckFault s) := staysCanonical_ends (by simp [hs])

end

theorem staysCanonical_powerOnReset (mspiStrap : Bool) (s : State) : StaysCanonical (execPowerOnReset mspiStrap s) := staysCanonical_ends (by simp)

theorem staysCanonical_vinBrownout (s : State) : StaysCanonical (execVinBrownout s) := staysCanonical_ends (by simp)

/-! Every instruction -/

theorem staysCanonical_of_message {i : Instr} {a : Received} (hi : carried i = some a) {s : State} (hs : memoriesOk s = true) : StaysCanonical (exec i s) := by
  rw [messagesReachTheService i a s hi]
  exact staysCanonical_ends (by simp [hs])

theorem staysCanonical_exec (i : Instr) {s : State} (hs : memoriesOk s = true) : StaysCanonical (exec i s) := by
  cases i with
  | deviceInfo | seqFloor | setCmdKey | setLimits | eventSubscribe | configSave | reset | echo | portSet | portGet | portStatus | lldpSet |
  partnerZones | fastlinkClear | queueSet | bufferSet | queueStatus | boltStatus | gclWrite | gclParams | gclCommit | gclCancel | gclRead | gclStatus
  | sgateWrite | sgateCommit | sgateCancel | sgateUnlock | timeGet | setTime | gmSetTime | acceptStep | servoSet | gptpSet | rateSet | domainConvert |
  portTrim | stbConfig | stbRead | stbSample | stbDir | markSet | nodeLoad | rootSet | zoneMapSet | matrixSet | groupSet | epochSwap | epochDiscard |
  epochStatus | patOptions | sfSet | sfUnblock | policerSet | policerUnlatch | frerGenSet | frerRecSet | canSet | linSet | routeWrite | containerSet |
  linFrames | linSchedule | linSelect | slotTable | busRecover | rateCand | isoInstance | channelStatus | linkSet | linkStatus | linkRedetect |
  unhitch | discConfig | discWrite | discTable | dccbSend | dccbRecv | zoneTable | ttRead | importKey | generate | derive | destroy | readAttr |
  lcChallenge | lcTransition | attest | lcStatus | ctxWrite | ctxRead | saWrite | saRead | stage | stageClear | stageRead | hmac | cmac | gcmSeal |
  gcmOpen | modeSet | katRun | powerReq | powerStatus | nmSet | nmRequest | wakeSet | wakeCause | lampStatus | safeRelease | safeOpenSet | faultInject
  | debugChallenge | debugUnlock | twinSet | twinStatus | relinquish | fwWrite | fwVerify | fwSwitch | fwStatus | counterCatalog | counterRead |
  statusRead | descRead | mcLinkRead | keyTrace | eventLogRead | eventCatalog => exact staysCanonical_of_message rfl hs
  | mspiWrite bytes => exact staysCanonical_mspiWrite hs bytes
  | mspiStatus => exact staysCanonical_mspiStatus hs
  | mspiRead => exact staysCanonical_mspiRead hs
  | extest => exact staysCanonical_extest hs
  | idcode => exact staysCanonical_idcode hs
  | samplePreload => exact staysCanonical_samplePreload hs
  | clamp => exact staysCanonical_clamp hs
  | highz => exact staysCanonical_highz hs
  | dbgStatus => exact staysCanonical_dbgStatus hs
  | dbgLock => exact staysCanonical_dbgLock hs
  | dbgAccess => exact staysCanonical_dbgAccess hs
  | factory code => exact staysCanonical_factory hs code
  | bypass code => exact staysCanonical_bypass hs code
  | debugAction act => exact staysCanonical_debugAction hs act
  | testLogicReset => exact staysCanonical_testLogicReset hs
  | plkPollPeriodWrite v => exact staysCanonical_plkPollPeriodWrite hs v
  | plkIntCauseClear v => exact staysCanonical_plkIntCauseClear hs v
  | plkIntEnableWrite v => exact staysCanonical_plkIntEnableWrite hs v
  | pwrDomainStoppedClear v => exact staysCanonical_pwrDomainStoppedClear hs v
  | plkMbCmdProd pair v => exact staysCanonical_plkMbCmdProd hs pair v
  | plkMbCplCons pair v => exact staysCanonical_plkMbCplCons hs pair v
  | plkErrlogRead v => exact staysCanonical_plkErrlogRead hs v
  | plkErrlogOverflow => exact staysCanonical_plkErrlogOverflow hs
  | windowStageWrite win word v => exact staysCanonical_windowStageWrite hs win word v
  | windowCommit win v => exact staysCanonical_windowCommit hs win v
  | windowDisable win v => exact staysCanonical_windowDisable hs win v
  | ringRun ring v => exact staysCanonical_ringRun hs ring v
  | ringStop ring v => exact staysCanonical_ringStop hs ring v
  | ringSizeSet ring v => exact staysCanonical_ringSizeSet hs ring v
  | plkRingProd ring v => exact staysCanonical_plkRingProd hs ring v
  | hostRegisterWrite bar offset bytes => exact staysCanonical_hostRegisterWrite hs bar offset bytes
  | frameReceive port bytes fin => exact staysCanonical_frameReceive hs port bytes fin
  | lookupComplete port late ecc => exact staysCanonical_lookupComplete hs port late ecc
  | admission port => exact staysCanonical_admission hs port
  | shuttleSlot => exact staysCanonical_shuttleSlot hs
  | treadleRotation => exact staysCanonical_treadleRotation hs
  | competingTimeout port cls ingress => exact staysCanonical_competingTimeout hs port cls ingress
  | egressSelect port => exact staysCanonical_egressSelect hs port
  | cellRead port ecc => exact staysCanonical_cellRead hs port ecc
  | frameTransmitEnd port => exact staysCanonical_frameTransmitEnd hs port
  | preemption port => exact staysCanonical_preemption hs port
  | preemptVerify port addFrag => exact staysCanonical_preemptVerify hs port addFrag
  | frameAged at_ port cls => exact staysCanonical_frameAged hs at_ port cls
  | quadrantDrained quad => exact staysCanonical_quadrantDrained hs quad
  | bankClearDone quad => exact staysCanonical_bankClearDone hs quad
  | gateEntryStart at_ port => exact staysCanonical_gateEntryStart hs at_ port
  | gateCycleStart at_ port => exact staysCanonical_gateCycleStart hs at_ port
  | gclCtReached at_ port => exact staysCanonical_gclCtReached hs at_ port
  | stitchOverrideEnd at_ port => exact staysCanonical_stitchOverrideEnd hs at_ port
  | sgateEntryStart at_ gate => exact staysCanonical_sgateEntryStart hs at_ gate
  | frerResetTimeout at_ fn => exact staysCanonical_frerResetTimeout hs at_ fn
  | frerLatentTest at_ fn => exact staysCanonical_frerLatentTest hs at_ fn
  | frerLatentReset at_ fn => exact staysCanonical_frerLatentReset hs at_ fn
  | gptpSyncReceived inst gm offset rateRatio => exact staysCanonical_gptpSyncReceived hs inst gm offset rateRatio
  | syncReceiptTimeout at_ inst => exact staysCanonical_syncReceiptTimeout hs at_ inst
  | stitchEdge at_ base a b heldNs => exact staysCanonical_stitchEdge hs at_ base a b heldNs
  | standstillTimeout at_ base => exact staysCanonical_standstillTimeout hs at_ base
  | keyFire at_ key => exact staysCanonical_keyFire hs at_ key
  | markPulseEnd at_ out => exact staysCanonical_markPulseEnd hs at_ out
  | epochFree => exact staysCanonical_epochFree hs
  | zoneSwapRetry at_ => exact staysCanonical_zoneSwapRetry hs at_
  | fragResolvedExpiry at_ entry => exact staysCanonical_fragResolvedExpiry hs at_ entry
  | fragEarlyExpiry at_ entry => exact staysCanonical_fragEarlyExpiry hs at_ entry
  | gatewayDeliver => exact staysCanonical_gatewayDeliver hs
  | containerFlush at_ container => exact staysCanonical_containerFlush hs at_ container
  | canTxTimeout at_ ch => exact staysCanonical_canTxTimeout hs at_ ch
  | canFrameRx ch ago msg => exact staysCanonical_canFrameRx hs ch ago msg
  | canBusIdle ch => exact staysCanonical_canBusIdle hs ch
  | canTxComplete ch result => exact staysCanonical_canTxComplete hs ch result
  | canErrorDetected ch err dataPhase transmitter => exact staysCanonical_canErrorDetected hs ch err dataPhase transmitter
  | busOffRecoveryDone ch => exact staysCanonical_busOffRecoveryDone hs ch
  | busIntegrationDone ch => exact staysCanonical_busIntegrationDone hs ch
  | transceiverWakeWait at_ ch => exact staysCanonical_transceiverWakeWait hs at_ ch
  | rateDwellExpiry at_ ch => exact staysCanonical_rateDwellExpiry hs at_ ch
  | linScheduleSlot at_ ch => exact staysCanonical_linScheduleSlot hs at_ ch
  | linHeaderRx ch bitrate pid readbackFail => exact staysCanonical_linHeaderRx hs ch bitrate pid readbackFail
  | linResponseRx ch data checksum badStop => exact staysCanonical_linResponseRx hs ch data checksum badStop
  | linResponseTimeout at_ ch got => exact staysCanonical_linResponseTimeout hs at_ ch got
  | addressClaimRx ch msg => exact staysCanonical_addressClaimRx hs ch msg
  | isoNetworkMessage ch msg => exact staysCanonical_isoNetworkMessage hs ch msg
  | selSuperframeTx link => exact staysCanonical_selSuperframeTx hs link
  | selSighting link pos hdr => exact staysCanonical_selSighting hs link pos hdr
  | selCandidateCheck link pos hdr => exact staysCanonical_selCandidateCheck hs link pos hdr
  | selHeaderRx link hdr => exact staysCanonical_selHeaderRx hs link hdr
  | selBlockLockLoss link => exact staysCanonical_selBlockLockLoss hs link
  | selThreadBlockRx link thread block => exact staysCanonical_selThreadBlockRx hs link thread block
  | selThreadIdle link thread => exact staysCanonical_selThreadIdle hs link thread
  | selDiscBlockRx link block => exact staysCanonical_selDiscBlockRx hs link block
  | sdccBurst link dccB dataIn validIn => exact staysCanonical_sdccBurst hs link dccB dataIn validIn
  | selLosSet at_ link => exact staysCanonical_selLosSet hs at_ link
  | selLosClear at_ link => exact staysCanonical_selLosClear hs at_ link
  | selPlugIn at_ link => exact staysCanonical_selPlugIn hs at_ link
  | selRateDwellEnd at_ link => exact staysCanonical_selRateDwellEnd hs at_ link
  | selQualifyEnd at_ link badSync => exact staysCanonical_selQualifyEnd hs at_ link badSync
  | selQualRdiEnd at_ link => exact staysCanonical_selQualRdiEnd hs at_ link
  | selIdentRx link body => exact staysCanonical_selIdentRx hs link body
  | selIdentAckRx link => exact staysCanonical_selIdentAckRx hs link
  | selIdentResend at_ link => exact staysCanonical_selIdentResend hs at_ link
  | selIdentTimeout at_ link => exact staysCanonical_selIdentTimeout hs at_ link
  | selMapSetRx link body => exact staysCanonical_selMapSetRx hs link body
  | selMapAckRx link body => exact staysCanonical_selMapAckRx hs link body
  | selMapSetResend at_ link => exact staysCanonical_selMapSetResend hs at_ link
  | selSfnSwitch link => exact staysCanonical_selSfnSwitch hs link
  | selMapRevert link => exact staysCanonical_selMapRevert hs link
  | selMapTimeout at_ link => exact staysCanonical_selMapTimeout hs at_ link
  | selUnhitchRx link => exact staysCanonical_selUnhitchRx hs link
  | selUnplugTimeout at_ link => exact staysCanonical_selUnplugTimeout hs at_ link
  | linkUp port mode role fast => exact staysCanonical_linkUp hs port mode role fast
  | linkDown port => exact staysCanonical_linkDown hs port
  | trainingFail port => exact staysCanonical_trainingFail hs port
  | phyPowerGood port => exact staysCanonical_phyPowerGood hs port
  | fastlinkFallback at_ port => exact staysCanonical_fastlinkFallback hs at_ port
  | lldpRx port pdu => exact staysCanonical_lldpRx hs port pdu
  | lldpTx at_ port => exact staysCanonical_lldpTx hs at_ port
  | lldpTtlExpiry at_ port => exact staysCanonical_lldpTtlExpiry hs at_ port
  | lldpWaitExpiry at_ port => exact staysCanonical_lldpWaitExpiry hs at_ port
  | absentHoldExpiry at_ port => exact staysCanonical_absentHoldExpiry hs at_ port
  | keyFetch slot gen master world use => exact staysCanonical_keyFetch hs slot gen master world use
  | rngHealthFail => exact staysCanonical_rngHealthFail hs
  | lcNonceExpiry at_ => exact staysCanonical_lcNonceExpiry hs at_
  | debugNonceExpiry at_ => exact staysCanonical_debugNonceExpiry hs at_
  | bodkinPipelineEnter => exact staysCanonical_bodkinPipelineEnter hs
  | bodkinPipelineExit pipe => exact staysCanonical_bodkinPipelineExit hs pipe
  | keeperCryptoRequest req => exact staysCanonical_keeperCryptoRequest hs req
  | cmdLockoutEnd at_ tr => exact staysCanonical_cmdLockoutEnd hs at_ tr
  | mutatorTimeout at_ => exact staysCanonical_mutatorTimeout hs at_
  | replyWrite pair => exact staysCanonical_replyWrite hs pair
  | placketPoll at_ => exact staysCanonical_placketPoll hs at_
  | dmaTxDescriptor ring => exact staysCanonical_dmaTxDescriptor hs ring
  | dmaRxDescriptor ring => exact staysCanonical_dmaRxDescriptor hs ring
  | pcieCompletion tag status data => exact staysCanonical_pcieCompletion hs tag status data
  | cplTimeout at_ tag => exact staysCanonical_cplTimeout hs at_ tag
  | fcStall at_ ring => exact staysCanonical_fcStall hs at_ ring
  | pllLock dom => exact staysCanonical_pllLock hs dom
  | clockFault clock => exact staysCanonical_clockFault hs clock
  | ref32Timeout at_ => exact staysCanonical_ref32Timeout hs at_
  | initiatorTimeout at_ placket dom => exact staysCanonical_initiatorTimeout hs at_ placket dom
  | resyncComplete dom discarded lostPulses => exact staysCanonical_resyncComplete hs dom discarded lostPulses
  | domainSwitched dom => exact staysCanonical_domainSwitched hs dom
  | dozeWake source => exact staysCanonical_dozeWake hs source
  | nmSleepWaitExpiry at_ net => exact staysCanonical_nmSleepWaitExpiry hs at_ net
  | nmFalseWakeExpiry at_ net => exact staysCanonical_nmFalseWakeExpiry hs at_ net
  | nmKaPoll at_ => exact staysCanonical_nmKaPoll hs at_
  | nmKeepaliveTx at_ net => exact staysCanonical_nmKeepaliveTx hs at_ net
  | nmKeepAliveRx ch msg => exact staysCanonical_nmKeepAliveRx hs ch msg
  | nmReadyToSleepRx ch msg => exact staysCanonical_nmReadyToSleepRx hs ch msg
  | nmConsentRx ch msg => exact staysCanonical_nmConsentRx hs ch msg
  | nmRefuseRx ch msg => exact staysCanonical_nmRefuseRx hs ch msg
  | tc10SleepAck port => exact staysCanonical_tc10SleepAck hs port
  | nmConsentTimeout at_ net => exact staysCanonical_nmConsentTimeout hs at_ net
  | tc10WakeRx port => exact staysCanonical_tc10WakeRx hs port
  | wakePin pin => exact staysCanonical_wakePin hs pin
  | selectiveWakeFrame ch msg error => exact staysCanonical_selectiveWakeFrame hs ch msg error
  | wupPattern ch => exact staysCanonical_wupPattern hs ch
  | standbyRxdWake ch => exact staysCanonical_standbyRxdWake hs ch
  | linDeepWake ch => exact staysCanonical_linDeepWake hs ch
  | tc10DeepWake port => exact staysCanonical_tc10DeepWake hs port
  | wakeOscStop at_ => exact staysCanonical_wakeOscStop hs at_
  | deepWakeSequence at_ => exact staysCanonical_deepWakeSequence hs at_
  | lockstepMismatch => exact staysCanonical_lockstepMismatch hs
  | comparatorFault => exact staysCanonical_comparatorFault hs
  | delayParityError => exact staysCanonical_delayParityError hs
  | inputDisagreement => exact staysCanonical_inputDisagreement hs
  | tcmEccError double => exact staysCanonical_tcmEccError hs double
  | memoryScrub at_ tcm tables => exact staysCanonical_memoryScrub hs at_ tcm tables
  | tableEccError => exact staysCanonical_tableEccError hs
  | watchdogService management => exact staysCanonical_watchdogService hs management
  | watchdogExpiry at_ => exact staysCanonical_watchdogExpiry hs at_
  | railFault dom => exact staysCanonical_railFault hs dom
  | temperatureThreshold sensor celsius => exact staysCanonical_temperatureThreshold hs sensor celsius
  | gateOutputMismatch port => exact staysCanonical_gateOutputMismatch hs port
  | timeCopyMismatch => exact staysCanonical_timeCopyMismatch hs
  | gateTokenTimeout => exact staysCanonical_gateTokenTimeout hs
  | lampHeartbeatMissing at_ => exact staysCanonical_lampHeartbeatMissing hs at_
  | faultNReadbackFail => exact staysCanonical_faultNReadbackFail hs
  | keeperSelfTestDone pass => exact staysCanonical_keeperSelfTestDone hs pass
  | twinHelloTx at_ => exact staysCanonical_twinHelloTx hs at_
  | twinHelloRx hdr body => exact staysCanonical_twinHelloRx hs hdr body
  | twinWaitTimeout at_ => exact staysCanonical_twinWaitTimeout hs at_
  | twinHbToggle at_ => exact staysCanonical_twinHbToggle hs at_
  | twinHbLoss at_ => exact staysCanonical_twinHbLoss hs at_
  | twinSilenceTimeout at_ => exact staysCanonical_twinSilenceTimeout hs at_
  | twinSupervisorReady at_ => exact staysCanonical_twinSupervisorReady hs at_
  | twinFullPartRx hdr part parts recs => exact staysCanonical_twinFullPartRx hs hdr part parts recs
  | twinDeltaRx hdr part parts recs => exact staysCanonical_twinDeltaRx hs hdr part parts recs
  | twinAckRx hdr => exact staysCanonical_twinAckRx hs hdr
  | twinAckTimeout at_ => exact staysCanonical_twinAckTimeout hs at_
  | twinDeltaTx at_ => exact staysCanonical_twinDeltaTx hs at_
  | twinFullSnapshotTx at_ => exact staysCanonical_twinFullSnapshotTx hs at_
  | twinRelayUpRx hdr kind inst msg => exact staysCanonical_twinRelayUpRx hs hdr kind inst msg
  | twinRelayDownRx hdr kind inst msg => exact staysCanonical_twinRelayDownRx hs hdr kind inst msg
  | twinRelinquishRx hdr => exact staysCanonical_twinRelinquishRx hs hdr
  | twinTakebackReqRx hdr => exact staysCanonical_twinTakebackReqRx hs hdr
  | twinTakebackGrantRx hdr => exact staysCanonical_twinTakebackGrantRx hs hdr
  | twinLeaveRx hdr => exact staysCanonical_twinLeaveRx hs hdr
  | twinLightsOutRx hdr target => exact staysCanonical_twinLightsOutRx hs hdr target
  | twinStatusRx hdr body => exact staysCanonical_twinStatusRx hs hdr body
  | twinHoldOffExpiry at_ => exact staysCanonical_twinHoldOffExpiry hs at_
  | twinGrantTimeout at_ => exact staysCanonical_twinGrantTimeout hs at_
  | twinDeferredApply at_ => exact staysCanonical_twinDeferredApply hs at_
  | twinEpochSwapRetry at_ => exact staysCanonical_twinEpochSwapRetry hs at_
  | powerOnReset mspiStrap => exact staysCanonical_powerOnReset mspiStrap s
  | rstNReset heldNs mspiStrap => exact staysCanonical_rstNReset hs heldNs mspiStrap
  | moduleReset at_ => exact staysCanonical_moduleReset hs at_
  | keeperReset at_ => exact staysCanonical_keeperReset hs at_
  | pcieFundamentalReset => exact staysCanonical_pcieFundamentalReset hs
  | functionLevelReset => exact staysCanonical_functionLevelReset hs
  | configLoadComplete at_ => exact staysCanonical_configLoadComplete hs at_
  | fwSwitchResume at_ => exact staysCanonical_fwSwitchResume hs at_
  | vinBrownout => exact staysCanonical_vinBrownout s
  | vinCrank at_ => exact staysCanonical_vinCrank hs at_
  | vinCrankTimeout at_ => exact staysCanonical_vinCrankTimeout hs at_
  | vinOvervolt => exact staysCanonical_vinOvervolt hs
  | selBlockLockAcquired link => exact staysCanonical_selBlockLockAcquired hs link
  | pcieLinkStateChange state => exact staysCanonical_pcieLinkStateChange hs state
  | pcieConfigWrite cfg => exact staysCanonical_pcieConfigWrite hs cfg
  | grandmasterSelection isSelf gm => exact staysCanonical_grandmasterSelection hs isSelf gm
  | mkaPduRx port sak saWrites => exact staysCanonical_mkaPduRx hs port sak saWrites
  | linWakeRx ch => exact staysCanonical_linWakeRx hs ch
  | wakePinRelease pin => exact staysCanonical_wakePinRelease hs pin
  | vinAboveStartThreshold at_ => exact staysCanonical_vinAboveStartThreshold hs at_
  | lampSelfCheckFault => exact staysCanonical_lampSelfCheckFault hs

/-- Settles O8: with no command waiting only time passes; a row applies one effect and settles. The four operations that write the memories keep their canonical form, a cold state lists nothing, and every other operation leaves the memories alone. -/
theorem memoriesStayCanonical : Obligations.MemoriesStayCanonical := by
  intro s t hs h
  unfold step at h
  split at h
  · cases h; simpa using hs
  · next c rest _ => exact staysCanonical_exec c (s := { s with pending := rest }) hs t h

end Sys2Proof.Machine
end
